-- ==== Sys2Proof/Word.lean ====
section
/-! DEFINITION. The word types of the module and their plainest arithmetic. -/

namespace Sys2Proof

/-- A byte. -/
abbrev Byte := BitVec 8
/-- A 32-bit register or record word (R7). -/
abbrev Word := BitVec 32
/-- A 64-bit word: directory entries, memory words, telegram words. -/
abbrev DWord := BitVec 64
/-- A tetrad (R38): bits 1:0 state, bit 2 doubt, bit 3 override. -/
abbrev Tetrad := BitVec 4
/-- A quality word (R48). -/
abbrev Qual := BitVec 16

/-- A counter that stops at its ceiling. -/
def satAdd (top a b : Nat) : Nat := min top (a + b)

end Sys2Proof
end

