-- ==== Sys2Proof/Machine/Image.lean ====
section
/-! DEFINITION. The Level B settings (R10): what a Gheras configuration image holds, chapter by chapter. Lists of pairs are
keyed by the number of the object they configure. -/

namespace Sys2Proof.Machine

/-- A class table entry (R30): engine numbered as in FRM_ENG_BUDGETn (AC0–AC3 0–3, LE0–LE7 4–11). -/
structure ClassCfg where
  part : Nat := 0
  engine : Nat := 0
  period : Nat := 0
  phase : Nat := 0
  wcet : Nat := 0
deriving DecidableEq, Repr

/-- A partition's settings (FRM_PART_CFG, FBX_PART_MEM, FBX_PART_LHASH, telegram routing of R134). -/
structure PartCfg where
  safety : Bool := false
  /-- 0 ALARM, 1 STOP, 2 SAFE (R35). -/
  react : Nat := 2
  margin : Nat := 10
  memKiB : Nat := 0
  lhash : Word := 0
  core : Nat := 0
deriving DecidableEq, Repr

/-- A program table entry of a logic engine (R66, R105). -/
structure ProgCfg where
  entry : Nat := 0
  len : Nat := 0
  cls : Nat := 0
  part : Nat := 0
  stream : Nat := 0
deriving DecidableEq, Repr

/-- A partition's window of history cells on one engine (R66). -/
structure CellWindow where
  base : Nat := 0
  count : Nat := 0
  retained : Nat := 0
deriving DecidableEq, Repr

/-- A logic engine's content. -/
structure LeCfg where
  split : Bool := false
  pmem : List (Nat × Word) := []
  progs : List (Nat × ProgCfg) := []
  windows : List (Nat × CellWindow) := []
deriving DecidableEq, Repr

/-- A slot table entry (R116). -/
structure SlotEnt where
  cls : Nat := 0
  start : Nat := 0
deriving DecidableEq, Repr

/-- An area of a partition memory: 8-byte word addresses lo to hi - 1; kind 0 code, 1 constants, 2 instance data,
3 retained data (R121). -/
structure MemArea where
  part : Nat := 0
  lo : Nat := 0
  hi : Nat := 0
  kind : Nat := 2
deriving DecidableEq, Repr

/-- FBX_CFG (R140). -/
structure FbxCfg where
  pwrupCold : Bool := false
  eng : Nat := 3
  dpy : Nat := 2
  hart : Nat := 1
  mms : Nat := 0
  /-- Slot tables by core, entries in table order. -/
  slots : List (Nat × List SlotEnt) := []
  retBytes : Nat := 0
  /-- The areas of the partition memories in DDR5 (R121). -/
  areas : List MemArea := []
  /-- Initial values of instance and retained data words. -/
  initWords : List (Nat × DWord) := []
deriving DecidableEq, Repr

/-- A safety input entry (R286). -/
structure SinCfg where
  epA : Nat := 0
  mode : Nat := 1
  epB : Nat := 0
  dtime : Nat := 240
deriving DecidableEq, Repr

/-- A drive monitor instance (R290, R291): receive connection, position group, limits and the DIRSEL endpoint. -/
structure DrvCfg where
  conn : Nat := 0
  group : Nat := 0
  pmin : Int := 0
  pmax : Int := 0
  look : Nat := 0
  dtol : Int := 0
  vmax : Int := 0
  swin : Nat := 4
  dirsel : Nat := 0
deriving DecidableEq, Repr

/-- A safe telegram receive connection (R293–R297): its endpoints by cell, and ack for RESTART = ACK. -/
structure RxCfg where
  connid : Nat := 0
  ntet : Nat := 1
  posgrp : Nat := 0
  seqwin : Nat := 2400
  maxage : Nat := 12
  wd : Nat := 24
  ack : Bool := true
  prp : Bool := false
  cells : List Nat := []
  part : Nat := 0
deriving DecidableEq, Repr

/-- A safe telegram publication (R293, R294): the endpoints of its cells and the class that commits it. -/
structure PubCfg where
  connid : Nat := 0
  ntet : Nat := 1
  posgrp : Nat := 0
  repeatN : Nat := 1
  cls : Nat := 0
  part : Nat := 0
  chain : Bool := false
  cells : List Nat := []
deriving DecidableEq, Repr

/-- The safety tables (R302). -/
structure SafCfg where
  sins : List (Nat × SinCfg) := []
  drvs : List (Nat × DrvCfg) := []
  rx : List (Nat × RxCfg) := []
  pubs : List (Nat × PubCfg) := []
deriving DecidableEq, Repr

/-- A digital input (R333, R334): debounce in µs, wire break. -/
structure DiCfg where
  deb : Nat := 1000
  wbrk : Bool := false
deriving DecidableEq, Repr

/-- An analogue channel (AIO_CH_CFG, R342–R347). mode: 0 off, 1 AO source, 2 AO sink, 3 AI passive, 4 AI loop-powering;
safek: 0 HOLD, 1 value, 2 high impedance; part: the partition its HART telegrams are routed to (R134). -/
structure AxCfg where
  mode : Nat := 0
  hart : Bool := false
  hartflt : Bool := false
  safek : Nat := 1
  safe : Word := 0
  compt : Nat := 240
  part : Nat := 0
deriving DecidableEq, Repr

/-- The local field I/O (R353). dos: the safe state of each DO, 0 OFF, 1 ON, 2 HOLD. -/
structure LioCfg where
  di : List (Nat × DiCfg) := []
  dos : List (Nat × Nat) := []
  wd : Nat := 48
  ax : List (Nat × AxCfg) := []
deriving DecidableEq, Repr

/-- A segment of a chain node's map (R311). -/
structure ChnSeg where
  outOfs : Nat := 0
  outLen : Nat := 0
  inOfs : Nat := 0
  inLen : Nat := 0
deriving DecidableEq, Repr

/-- A chain node (R321, R329). -/
structure ChnNodeCfg where
  vendor : Nat := 0
  product : Nat := 0
  serial : Nat := 0
  serlock : Bool := false
  hold : Nat := 48
  lostn : Nat := 3
  segs : List (Nat × ChnSeg) := []
deriving DecidableEq, Repr

/-- A schedule entry of a port (R315). -/
structure ChnEnt where
  node : Nat := 0
  seg : Nat := 0
  start : Nat := 0
  period : Nat := 0
  phase : Nat := 0
deriving DecidableEq, Repr

/-- A port in use: its nodes by address and its schedule by entry number. -/
structure ChnPortCfg where
  nodes : List (Nat × ChnNodeCfg) := []
  sched : List (Nat × ChnEnt) := []
deriving DecidableEq, Repr

/-- A CAN receive object (R360). route: the partition of its telegrams. -/
structure RxoCfg where
  id : Nat := 0
  ide : Bool := false
  fd : Bool := false
  timeout : Nat := 0
  route : Option Nat := none
deriving DecidableEq, Repr

/-- A CAN transmit buffer (R366–R368). cancel: mode CANCEL; trig: 0 periodic, 1 on change, 2 time-triggered; fill: its fill
pattern. -/
structure TxbCfg where
  id : Nat := 0
  ide : Bool := false
  fd : Bool := false
  brs : Bool := false
  len : Nat := 0
  cancel : Bool := false
  trig : Nat := 0
  period : Nat := 0
  phase : Nat := 0
  life : Nat := 24
  fill : Nat := 0
deriving DecidableEq, Repr

/-- A cell of the matrix (R369): cycle, mark, kind 1 exclusive, 2 arbitrating, 3 reception check, its buffers or its object,
and the mark in µs. -/
structure TtCell where
  cycle : Nat := 0
  mark : Nat := 0
  kind : Nat := 0
  index : List Nat := []
  us : Nat := 0
deriving DecidableEq, Repr

/-- A CAN controller in use (R375). bt, dbt: the words of CAN_C_BT and CAN_C_DBT. -/
structure CanCtlCfg where
  tt : Bool := false
  autorec : Bool := true
  prio : Nat := 0
  bt : Nat := 0
  dbt : Nat := 0
  objs : List (Nat × RxoCfg) := []
  bufs : List (Nat × TxbCfg) := []
  refid : Nat := 0
  cyclefr : Nat := 4
  cycles : Nat := 1
  cells : List TtCell := []
deriving DecidableEq, Repr

/-- The cubicle CAN: controllers, and the scale table's GAIN and OFFSET. -/
structure CanCfg where
  ctls : List (Nat × CanCtlCfg) := []
  scale : List (Nat × (Word × Word)) := []
deriving DecidableEq, Repr

/-- A PTP instance's settings (R379, R396). c37: profile IEEE C37.238-2017; pb: ports PB-A/PB-B. -/
structure PtpCfg where
  en : Bool := false
  c37 : Bool := false
  pb : Bool := false
  maxinacc : Nat := 1000
  domain : Nat := 0
deriving DecidableEq, Repr

/-- The time bases (R396). pref: TB-B is preferred. -/
structure TimCfg where
  pref : Bool := false
  revert : Nat := 60
  doubtus : Nat := 10
  inst : List (Nat × PtpCfg) := []
  irig : Bool := false
  irigDelay : Nat := 0
  utc : Nat := 37
  ppsWidth : Nat := 10
  early : Bool := false
deriving DecidableEq, Repr

/-- A sampled-value subscription (R159). -/
structure SvCfg where
  mac : Nat := 0
  appid : Nat := 0
  svid : List Byte := []
  confRev : Nat := 1
  format : Nat := 1
  deadline : Nat := 2
  lostms : Nat := 10
  unsyncOk : Bool := false
  sim : Bool := false
deriving DecidableEq, Repr

/-- A phasor engine's content: descriptors of 64 bytes by slot (R170), prompt routes as element slot and endpoint (R188). -/
structure PeCfg where
  descs : List (Nat × List Byte) := []
  routes : List (Nat × (Nat × Nat)) := []
deriving DecidableEq, Repr

/-- The stage-1 table (R429): image, flags, streams, descriptors, routes as element index and DO number. -/
structure Stage1 where
  image : Nat := 0
  highrate : Bool := false
  hsr : Bool := false
  pvid : Nat := 0
  streams : List (Nat × SvCfg) := []
  descs : List (Nat × List Byte) := []
  routes : List (Nat × (Nat × Nat)) := []
deriving DecidableEq, Repr

/-- A GOOSE publication (R406–R409, R417): member kinds as in R407 (0 BOOLEAN, 1 Dbpos, 2 Quality, 3 FLOAT32, 4 INT32,
5 Timestamp, 6 OCTET STRING); gocb: its reference with the suffix of the publishing side for a trip-class one. -/
structure GsePubCfg where
  trip : Bool := false
  pb : Bool := false
  prio : Nat := 4
  appid : Nat := 0
  gocb : List Byte := []
  mint : Nat := 2
  maxt : Nat := 2400
  confRev : Nat := 1
  members : List Nat := []
deriving DecidableEq, Repr

/-- A GOOSE subscription (R410, R411); route: the partition its messages are routed to (R134). -/
structure GseSubCfg where
  mac : Nat := 0
  appid : Nat := 0
  gocb : List Byte := []
  confRev : Nat := 1
  sim : Bool := false
  pb : Bool := false
  safe : Bool := false
  members : List Nat := []
  maxt : Nat := 2400
  route : Option Nat := none
deriving DecidableEq, Repr

/-- A controllable object (R413): model 0 direct normal, 1 direct enhanced, 2 sbo enhanced; times in s and frames; the status
endpoint; route: the partition its Operates are routed to (R134). -/
structure MmsObjCfg where
  model : Nat := 0
  selTo : Nat := 30
  opTo : Nat := 7200
  status : Nat := 0
  route : Option Nat := none
deriving DecidableEq, Repr

/-- A report control block. -/
structure RcbCfg where
  buffered : Bool := false
  eps : List Nat := []
deriving DecidableEq, Repr

/-- The Ethernet, GOOSE and MMS settings (R417). dirs: names of the data model and their children; vals: names that stand for
an endpoint. -/
structure StnCfg where
  hsrSb : Bool := false
  hsrPb : Bool := false
  fec : Bool := true
  pvidSb : Nat := 1
  pvidPb : Nat := 1
  vidsSb : List Nat := []
  vidsPb : List Nat := []
  ip : Nat := 0
  fip : Nat := 0
  svcIp : Nat := 0xC0A8FE01
  allow : List Nat := []
  idle : Nat := 900
  pubs : List (Nat × GsePubCfg) := []
  subs : List (Nat × GseSubCfg) := []
  objs : List (Nat × MmsObjCfg) := []
  rcbs : List (Nat × RcbCfg) := []
  dirs : List (Nat × List Nat) := []
  vals : List (Nat × Nat) := []
deriving DecidableEq, Repr

/-- The front display (R487, R490): regions 1–7 by first and last row, and the entries of a replacement overdrive table that
have phases, by previous level × 128 + next level × 8 + band. -/
structure DpyCfg where
  regions : List (Nat × (Nat × Nat)) := []
  table : Option (List (Nat × List Nat)) := none
deriving DecidableEq, Repr

/-- A configuration image: the settings of every chapter. -/
structure Image where
  /-- The image ID of its header. -/
  id : Nat := 0
  /-- The image from which an on-line change starts (R430). -/
  baseId : Nat := 0
  /-- The lowest firmware feature level that can run it, and its length in bytes (R430). -/
  fwmin : Nat := 0
  length : Nat := 0
  joinwait : Nat := 1200
  /-- The confirm window in s (R440). -/
  confirm : Nat := 900
  highrate : Bool := false
  minpulse : Nat := 24
  classes : List (Nat × ClassCfg) := []
  parts : List (Nat × PartCfg) := []
  /-- The signal directory (R51): entries by endpoint number. -/
  dir : List (Nat × DWord) := []
  /-- The writer table (R69): endpoint and writing program. -/
  writers : List (Nat × Nat) := []
  le : List (Nat × LeCfg) := []
  fbx : FbxCfg := {}
  saf : SafCfg := {}
  lio : LioCfg := {}
  chn : List (Nat × ChnPortCfg) := []
  can : CanCfg := {}
  tim : TimCfg := {}
  sv : List (Nat × SvCfg) := []
  pe : List (Nat × PeCfg) := []
  stn : StnCfg := {}
  dpy : DpyCfg := {}
deriving DecidableEq, Repr

end Sys2Proof.Machine
end

