-- ==== Sys2Proof/Machine/Table.lean ====
section
/-! DEFINITION. Sparse tables: lists of keyed entries in one canonical form (keys strictly rising,
no entry equal to what an unlisted key reads as). Memories, register files and per-object state are such tables. -/

namespace Sys2Proof.Machine

/-- A sparse table. -/
abbrev Tbl (α : Type) := List (Nat × α)

/-- Read key k; an unlisted key reads d k. -/
def Tbl.read {α : Type} (d : Nat → α) : Tbl α → Nat → α
  | [], k => d k
  | (j, v) :: t, k => if k = j then v else Tbl.read d t k

/-- Put an entry at its place. -/
def Tbl.place {α : Type} (k : Nat) (v : α) : Tbl α → Tbl α
  | [] => [(k, v)]
  | (j, w) :: t => if k < j then (k, v) :: (j, w) :: t else if k = j then (k, v) :: t else (j, w) :: Tbl.place k v t

/-- Remove every entry of a key. -/
def Tbl.drop {α : Type} (k : Nat) (t : Tbl α) : Tbl α := t.filter fun e => e.1 != k

/-- Write key k. Writing what an unlisted key reads as removes the entry, so equal tables are equal lists. -/
def Tbl.write {α : Type} [DecidableEq α] (d : Nat → α) (t : Tbl α) (k : Nat) (v : α) : Tbl α :=
  if v = d k then Tbl.drop k t else Tbl.place k v t

/-- Read with one value for every unlisted key. -/
def tget {α : Type} (d : α) (t : Tbl α) (k : Nat) : α := Tbl.read (fun _ => d) t k

/-- Write with one value for every unlisted key. -/
def tset {α : Type} [DecidableEq α] (d : α) (t : Tbl α) (k : Nat) (v : α) : Tbl α :=
  Tbl.write (fun _ => d) t k v

/-- Change one entry. -/
def tmod {α : Type} [DecidableEq α] (d : α) (t : Tbl α) (k : Nat) (f : α → α) : Tbl α :=
  tset d t k (f (tget d t k))

/-- Apply f to the entries listed, dropping those that become the default. -/
def tmapAll {α : Type} [DecidableEq α] (d : α) (f : Nat → α → α) (t : Tbl α) : Tbl α :=
  t.foldl (fun acc e => tset d acc e.1 (f e.1 e.2)) t

/-- Write a list of entries in order. -/
def tsetAll {α : Type} [DecidableEq α] (d : α) (t : Tbl α) (es : List (Nat × α)) : Tbl α :=
  es.foldl (fun acc e => tset d acc e.1 e.2) t

/-- Keys strictly rising. -/
def Tbl.rising {α : Type} : Tbl α → Bool
  | [] => true
  | [_] => true
  | (j, _) :: (k, w) :: t => decide (j < k) && Tbl.rising ((k, w) :: t)

/-- The canonical form of a table. -/
def Tbl.wf {α : Type} [DecidableEq α] (d : Nat → α) (t : Tbl α) : Bool :=
  Tbl.rising t && t.all fun e => decide (e.2 ≠ d e.1)

/-- The settings lookup: the first entry of a key. -/
def look {α : Type} (l : List (Nat × α)) (k : Nat) : Option α := l.lookup k

end Sys2Proof.Machine
end

