-- ==== Sys2Proof/Machine/Parts1.lean ====
section
/-! DEFINITION. The state of the grid, the signals, the logic engines, the application cores, access control and the
recorder (chapters Frames, Logic engines, Checked execution, Function blocks, Access control, Event recorder). -/

namespace Sys2Proof.Machine

/-- An analogue signal (R45, R46): binary32 value, quality word, and the freeze at which its value was last collected
(none: never written). Its age is the number of freezes since. -/
structure AnaCell where
  val : Word := 0
  qual : Qual := 0x0081#16
  born : Option Nat := none
deriving DecidableEq, Repr

/-- One image bank: tetrads, side quality words, analogue signals (R54, R55), and the analogue outputs whose safe value is high
impedance (R44, R346). -/
structure Bank where
  bin : Tbl Tetrad := []
  sq : Tbl Qual := []
  ana : Tbl AnaCell := []
  hiz : List Nat := []
deriving DecidableEq, Repr

/-- A value collected for an endpoint, with its arrival timestamp (R23, R24). A binary endpoint uses tet, an analogue
one val; qual is the source's quality word. -/
structure Got where
  tet : Tetrad := 0
  val : Word := 0
  qual : Qual := 0
  stamp : Nat := 0
deriving DecidableEq, Repr

/-- What has been collected since a freeze: the last value per endpoint, and the endpoints updated more than once. -/
structure Collect where
  got : Tbl (Option Got) := []
  multi : Tbl Bool := []
deriving DecidableEq, Repr

/-- A store of a class waiting for its class to finish (R25, R34). -/
structure StoreVal where
  ep : Nat := 0
  tet : Tetrad := 0
  val : Word := 0
  qual : Qual := 0
deriving DecidableEq, Repr

/-- The physical bank holding each role (SIG_BANK_STAT, R541). -/
structure BankRoles where
  coll : Nat := 0
  work : Nat := 1
  out : Nat := 2
  dist : Nat := 3
deriving DecidableEq, Repr

/-- The signals: the images by role (R55), the stores of finished classes, the sealed image and the lost sources. -/
structure Signals where
  coll : Collect := {}
  next : Collect := {}
  working : Bank := {}
  output : Bank := {}
  committed : Bank := {}
  distribute : Bank := {}
  roles : BankRoles := {}
  pend : List StoreVal := []
  lost : Tbl Bool := []
deriving DecidableEq, Repr

/-- The frame sequencer (R15–R21). phase: 0 freeze/align, 1 compute, 2 seal, 3 commit/guard. -/
structure Grid where
  running : Bool := false
  phase : Nat := 0
  frame : Nat := 0
  freezes : Nat := 0
  freezeAt : Nat := 0
  now : Nat := 0
  mono : Nat := 0
  tick : Nat := 0
  neverSync : Bool := true
  slewing : Bool := false
  slewPpb : Int := 0
  gridOfs : Int := 0
deriving DecidableEq, Repr

/-- A partition at run time (R32–R36). overruns holds the frames of the overruns still in the window. -/
structure PartState where
  allot : Nat := 0
  budget : Nat := 0
  overruns : List Nat := []
  total : Nat := 0
  react : Bool := false
  safe : Bool := false
  reactDue : Bool := false
  resumeAt : Option Nat := none
deriving DecidableEq, Repr

/-- A class in the present frame. -/
inductive RunState where
  | idle | due | running | done | stopped | skipped
deriving DecidableEq, Repr

/-- A class at run time: overruns since restart, time used in its last run, its place in the frame and the instant it
started. -/
structure ClassState where
  overruns : Nat := 0
  lastNs : Nat := 0
  st : RunState := .idle
  since : Nat := 0
deriving DecidableEq, Repr

/-- An engine budget counter (R31): the intervals in which it ran classes in this frame, and (frame, µs) of the frames that can still be the peak. -/
structure EngUse where
  busy : List (Nat × Nat) := []
  last : Nat := 0
  hist : List (Nat × Nat) := []
deriving DecidableEq, Repr

/-- A prompt assertion of one route (R58). till: the instant at which its minimum pulse ends. -/
structure PromptHold where
  ep : Nat := 0
  pe : Nat := 0
  till : Nat := 0
  tripOn : Bool := true
deriving DecidableEq, Repr

/-- The scheduling state of the frame. -/
structure Sched where
  parts : Tbl PartState := []
  classes : Tbl ClassState := []
  engines : Tbl EngUse := []
  prompts : Tbl (Option PromptHold) := []
deriving DecidableEq, Repr

/-- A branch stack entry (R75): the tetrad saved and the operator code. -/
structure StackEnt where
  acc : Tetrad := 0
  op : Nat := 0
deriving DecidableEq, Repr

/-- One instruction stream of a logic engine: the class running, its programs still to finish (the first is the one
running), and the values of the primary and the shadow pass (R75, R95). -/
structure LeStream where
  cls : Option Nat := none
  progs : List Nat := []
  queue : List Nat := []
  pc : Nat := 0
  acc : Tetrad := 0x7#4
  accS : Tetrad := 0x8#4
  stack : List StackEnt := []
  stackS : List StackEnt := []
  hbuf : Tbl (Option Word) := []
  stores : List StoreVal := []
  slots : Nat := 0
  frameSlots : Nat := 0
deriving DecidableEq, Repr

/-- A logic engine (R63). events holds the frames of mismatches and uncorrectable words of the window of R102. -/
structure LeEngine where
  split : Bool := false
  failed : Bool := false
  halt : Bool := false
  fullTest : Bool := false
  segment : Nat := 0
  pmem : Tbl Word := []
  hist : Tbl Word := []
  s0 : LeStream := {}
  s1 : LeStream := {}
  events : List Nat := []
  modePend : Option (Bool × Nat) := none
  lastFault : Option (Nat × Nat × Nat) := none
  progFaults : Tbl Nat := []
  progSlots : Tbl Nat := []
  haltReq : Bool := false
  passBp : Bool := false
  haltAt : Nat := 0
deriving DecidableEq, Repr

/-- A telegram FIFO item (R135): its partition and its words, header first. -/
structure TgItem where
  part : Nat := 0
  words : List DWord := []
deriving DecidableEq, Repr

/-- One bank of a telegram FIFO. lost counts the telegrams of each partition discarded by R138. -/
structure TgBank where
  items : List TgItem := []
  full : Bool := false
  lost : Tbl Nat := []
deriving DecidableEq, Repr

/-- A partition's read cursor in the drain bank: words of its items read, and words left of the telegram being read. -/
structure TgCursor where
  taken : Nat := 0
  left : Nat := 0
deriving DecidableEq, Repr

/-- A rollback the journal unit still has to finish (R125): partition and the words to restore. -/
structure RollJob where
  part : Nat := 0
  words : List (Nat × DWord) := []
deriving DecidableEq, Repr

/-- An application core. service: service work has the core, since svcFrom; svcNs: in the running second; svcUs: in the last one. used: the slot table entries of this frame still to start; released: the words (partition, address,
value) that the journals of its completed classes released in this frame (R259). -/
structure AcCore where
  cls : Option Nat := none
  stalled : Bool := false
  service : Bool := true
  used : List Nat := []
  prevEnd : Nat := 0
  late : Nat := 0
  stores : List StoreVal := []
  journal : List (Nat × DWord) := []
  retJournal : List Nat := []
  recs : Nat := 0
  released : List (Nat × Nat × DWord) := []
  rolls : List RollJob := []
  fill : TgBank := {}
  drain : TgBank := {}
  closed : Bool := false
  fillBank : Bool := false
  cursors : Tbl TgCursor := []
  svcFrom : Nat := 0
  svcNs : Nat := 0
  svcUs : Nat := 0
deriving DecidableEq, Repr

/-- One MRAM copy of the retained data (R129). marker: 0 never written, 1 complete, 2 in progress. bodyOk and hdrOk: its
CRCs verify. content is keyed as retKey says. -/
structure RetCopy where
  gen : Nat := 0
  image : Nat := 0
  hashes : List (Nat × Word) := []
  marker : Nat := 0
  bodyOk : Bool := true
  hdrOk : Bool := true
  content : Tbl DWord := []
deriving DecidableEq, Repr

/-- A retained write-through under way (R129): frame, words, and the copies still to write (false A, true B). -/
structure RetJob where
  gen : Nat := 0
  words : List (Nat × DWord) := []
  copies : List Bool := []
deriving DecidableEq, Repr

/-- The application cores, partition memories in DDR5 and the retained data. -/
structure Fbx where
  cores : Tbl AcCore := []
  mem : Tbl DWord := []
  copyA : RetCopy := {}
  copyB : RetCopy := {}
  job : Option RetJob := none
  changed : Tbl (Option DWord) := []
  retStopped : Bool := false
  restore : Tbl Nat := []
  rollbacks : Tbl Nat := []
  lastFault : Option (Nat × Nat × Nat) := none
deriving DecidableEq, Repr

/-- A region descriptor (R456): base, attributes and match as its registers hold them. -/
structure Region where
  base : Nat := 0
  attr : Word := 0x00080000#32
  mid : Word := 0#32
deriving DecidableEq, Repr

/-- Access control: the rules in force and their shadow copies (keys: partition set × 16 + region, port × 64 + region),
the drain of the last barrier, the held barriers (scope, index), and the masters refused in this frame (R457–R463). -/
structure AccState where
  ini : Tbl Region := []
  tgt : Tbl Region := []
  iniSh : Tbl Region := []
  tgtSh : Tbl Region := []
  drain : Bool := false
  held : List (Nat × Nat) := []
  scope : Nat := 0
  count : Nat := 0
  locked : Bool := false
  applied : Bool := false
  recorded : List Nat := []
  violAddr : Nat := 0
deriving DecidableEq, Repr

/-- A record (R468): TIME, SEQ, CODE, PART (255: none), FLAGS and P0–P3. info holds what the rule that asks for the record
names, in the rule's order, where no rule says which parameter holds which. -/
structure Rec where
  time : Nat := 0
  seq : Word := 0
  code : Nat := 0
  part : Nat := 255
  tq : Nat := 0
  pf : Bool := false
  coarse : Bool := false
  sev : Nat := 0
  p : List Word := []
  info : List Word := []
deriving DecidableEq, Repr

/-- A recorder header copy (R474). -/
structure RecHeader where
  gen : Nat := 0
  c : Word := 0
  newest : Word := 0
  lost : Nat := 0
  valid : Bool := false
deriving DecidableEq, Repr

/-- The event recorder (R468–R483): the SRAM buffer (oldest first), the MRAM slots and header copies, the counters since
the clear, the flush running, the discards of this frame and the clear nonce (value, session, time issued). -/
structure Recorder where
  buf : List Rec := []
  peak : Nat := 0
  seqNext : Word := 0
  c : Word := 0
  slots : Tbl (Option Rec) := []
  hdrA : RecHeader := {}
  hdrB : RecHeader := {}
  newest : Option Word := none
  total : Nat := 0
  lost : Nat := 0
  frameLost : List Nat := []
  flushing : Bool := false
  cause : Nat := 0
  lastFlushFrame : Nat := 0
  flushes : Nat := 0
  pf : Bool := false
  hdrFail : Bool := false
  rdMiss : Bool := false
  nonce : Option (Word × Nat × Nat) := none
  clrLast : Nat := 0
  clearWaits : Option (Nat × Nat) := none
deriving DecidableEq, Repr

end Sys2Proof.Machine
end

