-- ==== Sys2Proof/Machine/Parts2.lean ====
section
/-! DEFINITION. The state of the pair, the safety functions and the sessions. -/

namespace Sys2Proof.Machine

/-- The roles of R227. -/
inductive Role where
  | offline | solo | active | standby | learning | detached
deriving DecidableEq, Repr

/-- The role code of PAIR_STAT. -/
def Role.code : Role → Nat
  | .offline => 0 | .solo => 1 | .active => 2 | .standby => 3 | .learning => 4 | .detached => 5

/-- The clasp lines of R233 at the module's pins. -/
structure PairLines where
  grant : Bool := false
  grantN : Bool := true
  kill : Bool := false
  killN : Bool := true
  pgrant : Bool := false
  alive : Bool := false
  yield : Bool := false
  ready : Bool := false
  hb0 : Bool := false
  hb1 : Bool := false
deriving DecidableEq, Repr

/-- What the partner reports over the Tokel link (R230, R252): role code (7 unknown), in JOIN, image ID, compatibility level,
side, selected base, OLC state, health summary, and the last frame whose FMARK arrived valid. -/
structure Partner where
  role : Nat := 7
  inJoin : Bool := false
  reported : Bool := false
  image : Nat := 0
  pcl : Nat := 0
  sideB : Bool := false
  base : Nat := 0
  olc : Nat := 0
  health : Word := 0
  fmarkFrame : Option Nat := none
deriving DecidableEq, Repr

/-- A planned or requested switchover from its acceptance to its end (R240): handover frame, kind as in PAIR_LAST_SW.KIND,
this module is the outgoing one, the partner confirmed, the frame of acceptance, and whether the module restarts after it. -/
structure Switchover where
  h : Nat := 0
  kind : Nat := 0
  outgoing : Bool := true
  confirmed : Bool := false
  start : Nat := 0
  restart : Bool := false
deriving DecidableEq, Repr

/-- The hand-over of outputs that follows a switchover (R268, R270): handover frame, outgoing side, cross-fade step. -/
structure HandOver where
  h : Nat := 0
  outgoing : Bool := true
  fade : Nat := 0
  released : Bool := false
deriving DecidableEq, Repr

/-- The four digests of R255 of one partition: its number, D, the block digests and T. -/
structure PartDigest where
  part : Nat := 0
  d : DWord := 0
  blocks : List DWord := []
  t : DWord := 0
deriving DecidableEq, Repr

/-- What a BLKREQ asks for one partition: the differing blocks, whether its telegram list, and whether all that differs. -/
structure BlockNeed where
  part : Nat := 0
  blocks : List Nat := []
  tg : Bool := false
deriving DecidableEq, Repr

/-- Alignment in the present frame (R256–R258): digest received, what was asked, repaired partitions, lagging ones,
the runs of lagging frames, the lagging ones whose DELTA came, and those of the frame before. -/
structure Align where
  digestIn : Bool := false
  need : List BlockNeed := []
  repaired : List Nat := []
  lag : List Nat := []
  lagRuns : Tbl Nat := []
  deltaDone : List Nat := []
  wasLag : List Nat := []
deriving DecidableEq, Repr

/-- The hallmark of a frame with its parts O, C and W (R259). -/
structure Hallmark where
  frame : Nat := 0
  h : DWord := 0
  o : DWord := 0
  c : DWord := 0
  w : DWord := 0
deriving DecidableEq, Repr

/-- Learning (R264): phase as in PAIR_LEARN_STAT, first frame, snapshot complete, the frame f of FINAL, classes running, the
hallmarks matched in VERIFY, and the phase content complete. -/
structure Learning where
  phase : Nat := 0
  start : Nat := 0
  snapDone : Bool := false
  content : Bool := false
  finalFrame : Nat := 0
  running : Bool := false
  matched : Nat := 0
  kib : Nat := 0
deriving DecidableEq, Repr

/-- The pair (chapters Pair roles, Pair alignment). Instants are sequencer ns. next: the role change due at the next frame
boundary, with its cause. -/
structure PairState where
  role : Role := .offline
  next : Option (Role × Nat) := none
  since : Nat := 0
  lines : PairLines := {}
  granted : Bool := false
  grantAt : Nat := 0
  grantLostAt : Nat := 0
  pgrantAt : Nat := 0
  unplanned : Bool := false
  killAt : Option Nat := none
  killq : Bool := false
  gatesOff : Bool := false
  hbStopped : Bool := false
  claspFail : Bool := false
  claspFrame : Nat := 0
  sideB : Bool := false
  present : Bool := false
  learnFail : Nat := 0
  retryAt : Option Nat := none
  joinSince : Option Nat := none
  joinHeld : Bool := false
  rejoinAt : Option Nat := none
  restartDue : Option Nat := none
  sw : Option Switchover := none
  ho : Option HandOver := none
  grantLatch : Bool := false
  lastHm : List Bool := []
  partner : Partner := {}
  linkUp : Bool := false
  upFrames : Nat := 0
  lanesIn : List Nat := []
  lostAt : Option Nat := none
  gridBad : Nat := 0
  align : Align := {}
  hm : Option Hallmark := none
  hmPartner : Option Hallmark := none
  hmRoles : Bool := false
  hmSpoilt : Bool := false
  hmOwnLatched : DWord := 0
  hmPartnerLatched : DWord := 0
  hmMisses : List Nat := []
  hmCompared : Bool := false
  learn : Learning := {}
  committed : Bool := false
deriving DecidableEq, Repr

/-- An engineering session (R415): role 0 viewer, 1 operator, 2 engineer, 3 recorder-admin, 4 security-admin. -/
structure Session where
  id : Nat := 0
  role : Nat := 0
  svc : Bool := false
  idleAt : Nat := 0
  serial : Nat := 0
deriving DecidableEq, Repr

/-- A safety input entry at run time (R286–R289). proof: 0 PENDING, 1 OFFSEEN, 2 PROVEN. -/
structure SinState where
  proof : Nat := 0
  offRun : Nat := 0
  dcount : Nat := 0
  faulty : Bool := false
  agree : Bool := false
deriving DecidableEq, Repr

/-- A safe telegram copy kept for comparison (R296): its bytes, its LAN, the frame of its arrival, second copy seen. -/
structure StcCopy where
  bytes : List Byte := []
  lan : Nat := 0
  frame : Nat := 0
  second : Bool := false
deriving DecidableEq, Repr

/-- A receive connection (R295–R297). cause as in SAF_STC_STAT; seq: the last SEQ accepted; age: frame of the last accepted telegram; positions: values
of its two groups; fresh: groups with a new SEQ since the freeze. -/
structure StcState where
  safe : Bool := true
  cause : Nat := 0
  good : Nat := 0
  acked : Bool := false
  base : Option Nat := none
  seq : Nat := 0
  lastFrame : Nat := 0
  got : Bool := false
  bad : Bool := false
  differ : Bool := false
  fresh : Bool := false
  pos0 : Int := 0
  pos1 : Int := 0
  copy : Option StcCopy := none
  losses : Nat := 0
  discards : Nat := 0
deriving DecidableEq, Repr

/-- A safe telegram publication (R294): the frame of its first commit n₀, the last telegram sent and when. -/
structure PubState where
  n0 : Option Nat := none
  seq : Nat := 0
  pdu : List Byte := []
  sentFrame : Nat := 0
  gateClosed : Bool := false
deriving DecidableEq, Repr

/-- A drive monitor instance (R290–R292): the fresh positions of the last frames, newest first, the reference and DIRSEL. -/
structure DrvState where
  hist : List Int := []
  ref : Int := 0
  dirsel : Nat := 3
  fresh : Bool := false
  outs : List Tetrad := []
  freshRun : Nat := 0
deriving DecidableEq, Repr

/-- Safety maintenance mode (R298). stage: 0 off, 1 code shown, 2 entry asked of the partner or accepted, 3 in force. -/
structure Smm where
  stage : Nat := 0
  session : Nat := 0
  dur : Nat := 0
  code : Nat := 0
  codeAt : Nat := 0
  given : Option Nat := none
  askedAt : Nat := 0
  confirmed : Bool := false
  startAt : Option Nat := none
  till : Nat := 0
  endAt : Option Nat := none
deriving DecidableEq, Repr

/-- The safety functions (chapter Safety functions). psafe: partitions in partition safe state; safe: the module safe state
with the instant it was entered; switches opened by SAF. -/
structure SafState where
  safe : Bool := false
  safeAt : Nat := 0
  safeHeld : Bool := false
  smmOn : Bool := false
  smm : Smm := {}
  respOk : Bool := false
  respSeen : Bool := false
  respMiss : Nat := 0
  psafe : List Nat := []
  sin : Tbl SinState := []
  stc : Tbl StcState := []
  pub : Tbl PubState := []
  drv : Tbl DrvState := []
deriving DecidableEq, Repr

/-- An entry of the force table (R217). till: the frame in which it expires. -/
structure Force where
  ep : Nat := 0
  val : Word := 0
  session : Nat := 0
  till : Option Nat := none
deriving DecidableEq, Repr

/-- A force request (R219): kind 0 set, 1 release, 2 release of all; the frame it was written in; the partner's answer. -/
structure ForceReq where
  kind : Nat := 0
  ep : Nat := 0
  val : Word := 0
  exp : Nat := 0
  session : Nat := 0
  frame : Nat := 0
  asked : Bool := false
  accepted : Bool := false
deriving DecidableEq, Repr

/-- Forcing: the table in MRAM and the requests not yet in effect. -/
structure FrcState where
  table : Tbl (Option Force) := []
  reqs : List ForceReq := []
deriving DecidableEq, Repr

/-- An entry of the mapping table (R208). -/
structure MapEnt where
  iid : Nat := 0
  kind : Nat := 0
  oldEng : Nat := 0
  newEng : Nat := 0
  oldType : Nat := 0
  newType : Nat := 0
  oldLoc : Nat := 0
  newLoc : Nat := 0
  len : Nat := 1
  part : Nat := 0
deriving DecidableEq, Repr

/-- On-line change (R201). stage: 0 IDLE, 1 LOADING, 2 PREPARED, 3 ARMED, 4 WINDOW, 5 REVERT pending. shadow: the image in
the shadow bank (the new one before the commit, the previous one in the window). -/
structure OlcState where
  stage : Nat := 0
  shadow : Option Image := none
  map : List MapEnt := []
  crc : Word := 0
  kib : Nat := 0
  verified : Bool := false
  partnerOk : Bool := false
  asking : Option Nat := none
  askFrame : Nat := 0
  arm : Nat := 0
  relforce : Bool := false
  windowEnd : Nat := 0
  revertAt : Nat := 0
  slotw : Nat := 0
deriving DecidableEq, Repr

end Sys2Proof.Machine
end

