-- ==== Sys2Proof/Machine/Parts3.lean ====
section
/-! DEFINITION. The state of start-up, firmware and trust (chapter Start-up, firmware and trust). -/

namespace Sys2Proof.Machine

/-- A firmware slot (R432). intact: its manifest and images verify by R435, checks 2 to 4, 6 and 7; dpy: the default overdrive
table of its image of kind 6 (R488), as DpyCfg.table. -/
structure FwSlot where
  state : Nat := 0
  version : Nat := 0
  pcl : Nat := 0
  feat : Nat := 0
  arb : Nat := 0
  keyslot : Nat := 0
  revoke : Nat := 0
  manifestSha : List Byte := []
  intact : Bool := true
  dpy : List (Nat × List Nat) := []
deriving DecidableEq, Repr

/-- The staging area (R433, R436). state: 0 empty, 1 receiving, 2 verified, 3 refused; slot: what the manifest says. -/
structure Staging where
  state : Nat := 0
  err : Nat := 0
  marked : Bool := false
  blocks : Nat := 0
  crcOk : Bool := true
  content : List Byte := []
  slot : FwSlot := {}
  partnerOk : Bool := false
deriving DecidableEq, Repr

/-- The OTP items (R443): SHA-512 of the two vendor keys of each slot, programmed and revoked bits, anti-rollback counter,
die serial, SHA-512 of the mask ROM. -/
structure Otp where
  edHash : Tbl (List Byte) := []
  mlHash : Tbl (List Byte) := []
  prog : Nat := 0
  revoked : Nat := 0
  arb : Nat := 0
  serial : Nat := 1
  romSha : List Byte := []
deriving DecidableEq, Repr

/-- A trust store anchor (R446). -/
structure Anchor where
  ed : List Byte := []
  ml : List Byte := []
  label : List Byte := []
  usage : Nat := 0
  learned : Bool := false
deriving DecidableEq, Repr

/-- A slot-memory copy (R424, R425). state: 0 erased, 1 complete, 2 in progress, 3 invalid. hcrcOk, hashOk, sigOk: the header
CRC, the hash and the signatures verify; s1Sig: the stage-1 table's signatures verify. -/
structure SlotCopy where
  state : Nat := 0
  gen : Nat := 0
  imageId : Nat := 0
  sha : List Byte := []
  hcrcOk : Bool := true
  hashOk : Bool := true
  sigOk : Bool := true
  anchor : Nat := 0
  image : Image := {}
  s1Image : Nat := 0
  s1 : Stage1 := {}
  s1Sig : Bool := true
  s1Sha : List Byte := []
deriving DecidableEq, Repr

/-- Start-up, update and trust. t0: the instant the start is measured from; used: slot-memory copy in use, 0 none, 1 A, 2 B;
writing: the copy being written (true B) with its content; bootB: slot booted; confirmEnd: the end of the confirm window;
runFrames: frames in RUN; matchRun: compared frames in a row with matching hallmarks; clean: no failure since RUN; kind: the
restart kind asked for (true cold); across: the frame of a restart of both modules; tftp: blocks of a recovery package; partnerTrust: the anchors the partner has reported. -/
structure UpdState where
  started : Bool := false
  t0 : Nat := 0
  copyA : SlotCopy := {}
  copyB : SlotCopy := {}
  devices : Bool := true
  used : Nat := 0
  s1Used : Nat := 0
  writing : Option (Bool × SlotCopy × Nat) := none
  slotA : FwSlot := {}
  slotB : FwSlot := {}
  bootB : Bool := false
  staging : Staging := {}
  otp : Otp := {}
  trust : Tbl (Option Anchor) := []
  tokenNum : Nat := 0
  confirmEnd : Option Nat := none
  runFrames : Nat := 0
  matchRun : Nat := 0
  clean : Bool := true
  kind : Option Bool := none
  powerUp : Bool := true
  across : Option Nat := none
  recovery : Bool := false
  tftpOpen : Bool := false
  tftpNext : Nat := 0
  roll : Nat := 0
  rollResult : Nat := 0
  partnerTrust : Option (List (Nat × Anchor)) := none
deriving DecidableEq, Repr

end Sys2Proof.Machine
end

