-- ==== Sys2Proof/Machine/Parts4.lean ====
section
/-! DEFINITION. The state of the local field I/O and of the chain and the CAN controllers (chapters Local field I/O, The chain field bus, Cubicle CAN). -/

namespace Sys2Proof.Machine

/-- A digital input (R333–R335). Classes: 0 OFF, 1 ON, 2 BREAK. cls: filtered class; deb: debounced class; since: the
running debounce timer; doubtTill: d is set until then (none: not read before CONFIGURE). -/
structure DiState where
  cls : Nat := 0
  deb : Nat := 0
  since : Option Nat := none
  doubtTill : Option Nat := none
deriving DecidableEq, Repr

/-- A fault of a channel that has been recorded: SEQ of the record and the frame it began. -/
structure FaultRec where
  seq : Nat := 0
  frame : Nat := 0
deriving DecidableEq, Repr

/-- A digital output (R336–R338). tail: ON until the next common instant after its last prompt assertion ended (R58);
off: switched off by an overload; retryAt: frame of the next retry; miss: latches whose readback disagreed. -/
structure DoState where
  latched : Bool := false
  tail : Bool := false
  off : Bool := false
  retryAt : Nat := 0
  miss : Nat := 0
  ovlRec : Option FaultRec := none
  rbRec : Option FaultRec := none
deriving DecidableEq, Repr

/-- A group of digital outputs: switched off by overcurrent, and its supply low (R337). -/
structure DoGroup where
  off : Bool := false
  retryAt : Nat := 0
  low : Bool := false
  ocRec : Option FaultRec := none
  lowRec : Option FaultRec := none
deriving DecidableEq, Repr

/-- A queued HART request (R347). -/
structure HartReq where
  cmd : Nat := 0
  data : List (BitVec 8) := []
deriving DecidableEq, Repr

/-- An analogue channel (R342–R349). cmd: commanded mA after clamping; pct: its share of a cross-fade; hiz: at high
impedance; samples: ADC samples, newest first, at most 24; openN … compL: consecutive samples that meet an entering or a
leaving criterion; recSeq: the record of the present condition; since: its first frame. -/
structure AxState where
  cmd : Word := 0
  oor : Bool := false
  hiz : Bool := true
  pct : Nat := 100
  meas : Word := 0
  head : Word := 0
  samples : List Word := []
  conv : Bool := false
  isOpen : Bool := false
  isComp : Bool := false
  openN : Nat := 0
  openL : Nat := 0
  compN : Nat := 0
  compL : Nat := 0
  since : Nat := 0
  recSeq : Option FaultRec := none
  openCnt : Nat := 0
  compCnt : Nat := 0
  queue : List HartReq := []
  busy : Option HartReq := none
  busyAt : Nat := 0
  last : Nat := 0
  lastCmd : Nat := 0
  hartOk : Nat := 0
  hartBad : Nat := 0
deriving DecidableEq, Repr

/-- The local field I/O. wdAt: instant of the last distribution; wdHold: the outputs hold their safe states; aoWait: the
analogue outputs wait for R271; burden: burdens and loop supplies are connected; lifeDrop: the entry to OFFLINE that
follows drops the life contact (R351); supply: the I/O field supply in mV. -/
structure LioState where
  di : Tbl DiState := []
  dos : Tbl DoState := []
  groups : Tbl DoGroup := []
  ax : Tbl AxState := []
  wdAt : Nat := 0
  wdExpired : Bool := false
  wdHold : Bool := false
  aoWait : Bool := false
  burden : Bool := false
  life : Bool := false
  lifeDrop : Bool := false
  supply : Nat := 0
deriving DecidableEq, Repr

/-- A chain node as the module tracks it (R319–R326). st: 1 ABSENT, 2 ADMITTING, 3 OK, 4 LOST, 5 DUPLICATE, 6 MISMATCH;
miss, consec: misses and consecutive ones; missed: segments that missed; step: 0 IDENT, 1 DELAY, 2 CONFIG; sum: the 16
delay measurements; staged: it echoed the map of the armed change; held: frame of its last accepted request; inSafe: its
hold time has run out. -/
structure ChnNode where
  st : Nat := 1
  fault : Bool := false
  safe : Bool := false
  notcfg : Bool := false
  miss : Nat := 0
  consec : Nat := 0
  missed : List Nat := []
  crc : Nat := 0
  rej : Nat := 0
  crcRun : Nat := 0
  crcOpen : Nat := 0
  step : Nat := 0
  serial : Nat := 0
  elast : Nat := 0
  tnin : Nat := 0
  tnout : Nat := 0
  sum : Int := 0
  delays : Nat := 0
  dly : Nat := 0
  staged : Bool := false
  needAdmit : Bool := false
  held : Option Nat := none
  inSafe : Bool := false
deriving DecidableEq, Repr

/-- A request on a port that waits for its response: address, epoch, command, frame number bits 23:0, the instant of its last
bit, and the schedule entry of a DATA request. -/
structure ChnReq where
  addr : Nat := 0
  epoch : Nat := 0
  cmd : Nat := 0
  fnum : Nat := 0
  sentAt : Nat := 0
  ent : Nat := 0
deriving DecidableEq, Repr

/-- A stranger (R322): serial, product and the polls since it answered. -/
structure Stranger where
  serial : Nat := 0
  product : Nat := 0
  polls : Nat := 0
deriving DecidableEq, Repr

/-- The duplicate-address procedure (R323). st: 0 idle, 1 probing, 2 confirmed, 3 cleared. v: the value probed; one: v = 1
was answered; tries: CRC failures of the present probe. -/
structure DupProc where
  st : Nat := 0
  addr : Nat := 0
  bit : Nat := 0
  v : Nat := 1
  one : Bool := false
  tries : Nat := 0
deriving DecidableEq, Repr

/-- A chain port. epoch: E as master; heard: the epoch of the last valid request heard; since: first frame as master; mram:
the epoch kept in MRAM; okAddrs: nodes that answered validly in this frame. -/
structure ChnPort where
  epoch : Option Nat := none
  heard : Option Nat := none
  mram : Nat := 0
  since : Nat := 0
  req : Option ChnReq := none
  nodes : Tbl ChnNode := []
  miss : Nat := 0
  crc : Nat := 0
  malformed : Nat := 0
  collisions : Nat := 0
  strangers : List Stranger := []
  dup : DupProc := {}
  syncOk : Bool := false
  okAddrs : List Nat := []
  load : Nat := 0
  free : Nat := 0
deriving DecidableEq, Repr

/-- The chain. omitFrame: the takeover frame, in which early entries are omitted; masterFrom: first frame the module
transmits as master; masterTill: the outgoing side transmits through this frame; dupPort: the port last probed. -/
structure ChnState where
  ports : Tbl ChnPort := []
  omitFrame : Option Nat := none
  masterFrom : Nat := 0
  masterTill : Option Nat := none
  dupPort : Nat := 0
deriving DecidableEq, Repr

/-- A CAN frame. rtr: a remote frame; stamp: its arrival timestamp. -/
structure CanFrame where
  id : Nat := 0
  ide : Bool := false
  fd : Bool := false
  brs : Bool := false
  rtr : Bool := false
  data : List (BitVec 8) := []
  stamp : Nat := 0
deriving DecidableEq, Repr

/-- A receive object (R361, R362). at0: the frame in which its last frame was stored. -/
structure RxObj where
  cur : Option CanFrame := none
  isNew : Bool := false
  lost : Bool := false
  seq : Nat := 0
  shadow : Option CanFrame := none
  shadowLost : Bool := false
  timedOut : Bool := false
  at0 : Nat := 0
  lockTo : Nat := 0
deriving DecidableEq, Repr

/-- A transmit buffer (R366–R368). Payloads are numbers, bit b as R364 numbers it. due: a refused automatic cancellation;
heard: the last payload heard on the bus with its identifier. -/
structure TxBuf where
  pend : Option Nat := none
  since : Nat := 0
  arb : Bool := false
  held : Option Nat := none
  due : Bool := false
  lastQ : Option Nat := none
  heard : Option Nat := none
  sent : Nat := 0
  cancels : Nat := 0
deriving DecidableEq, Repr

/-- A CAN controller. lock: the locked object and the instant of the last read of W0; cur: priority of the current time
master; refFrame, refAt: frame and instant of the last reference message; check: the object of a reception check and its
count of frames at the mark. -/
structure CanCtl where
  tec : Nat := 0
  rec_ : Nat := 0
  busOff : Bool := false
  recover : Bool := false
  rxSec : Nat := 0
  txSec : Nat := 0
  rxShown : Nat := 0
  txShown : Nat := 0
  busOffs : Nat := 0
  errs : Nat := 0
  unk : Nat := 0
  fmt : Nat := 0
  unkLast : Word := 0
  unkSince : Nat := 0
  unkAt : Option Nat := none
  objs : Tbl RxObj := []
  bufs : Tbl TxBuf := []
  lock : Option (Nat × Nat) := none
  cycle : Nat := 0
  cur : Option Nat := none
  refFrame : Option Nat := none
  refAt : Nat := 0
  global : Nat := 0
  check : Option (Nat × Nat) := none
  rxMiss : Nat := 0
  refMiss : Nat := 0
deriving DecidableEq, Repr

/-- The CAN controllers. fill: the analogue endpoints at their safe value, whose fields take the fill pattern (R44). -/
structure CanState where
  ctls : Tbl CanCtl := []
  fill : List Nat := []
deriving DecidableEq, Repr

end Sys2Proof.Machine
end

