-- ==== Sys2Proof/Machine/Parts5.lean ====
section
/-! DEFINITION. The state of the time bases (chapter Time bases). -/

namespace Sys2Proof.Machine

/-- The dataset of an Announce (R378, R387): grandmaster identity, the BMCA quantities, domain, declared inaccuracy in ns,
UTC offset with its valid flag, and the leap flags. -/
structure PtpAnn where
  gm : Nat := 0
  prio1 : Nat := 0
  clockClass : Nat := 0
  accuracy : Nat := 0
  variance : Nat := 0
  prio2 : Nat := 0
  domain : Nat := 0
  inacc : Nat := 0
  utc : Nat := 0
  utcValid : Bool := false
  leap61 : Bool := false
  leap59 : Bool := false
deriving DecidableEq, Repr

/-- An IRIG-B frame (R389): the second it names, its on-time mark before DELAY against sequencer time in ns, the inaccuracy
its time quality names in ns, its local offset, UTC offset and leap flags. -/
structure IrigFrame where
  sec : Nat := 0
  ofs : Int := 0
  tq : Nat := 0
  localOfs : Nat := 0
  utc : Nat := 0
  leap61 : Bool := false
  leap59 : Bool := false
deriving DecidableEq, Repr

/-- What the module measures at a second mark (R380, R382, R383): TB-B − TB-A, the IRIG-B mark before DELAY and the
holdover prediction against TB-A, all in ns, and the frequency estimate of TB-L in parts per 10¹². -/
structure MarkMeas where
  ba : Int := 0
  irA : Int := 0
  hoA : Int := 0
  freq : Int := 0
deriving DecidableEq, Repr

/-- A PTP instance (R379). st: 0 NEVER, 1 ACQUIRING, 2 LOCKED, 3 LOST; abs3: its base against the sequencer's zero
adjustment, in thirds of ns; okSince: instant since which its base is healthy and not outvoted. -/
structure PtpInst where
  st : Nat := 0
  lockRun : Nat := 0
  offRun : Nat := 0
  ofs : Int := 0
  abs3 : Int := 0
  parent : Option PtpAnn := none
  lastAnn : Nat := 0
  lan : Bool := false
  dlyA : Nat := 0
  dlyB : Nat := 0
  losses : Nat := 0
  annOut : Nat := 0
  okSince : Option Nat := none
deriving DecidableEq, Repr

/-- A capture unit (R391, R392): its configuration word, its timestamps, oldest first, and the events discarded. -/
structure CapUnit where
  cfg : Word := 0
  fifo : List Nat := []
  ovf : Nat := 0
deriving DecidableEq, Repr

/-- A launch queue entry (R393). prompt: prompt trip GOOSE; ctrl: control class; what: kind and content of the frame. -/
structure LaunchEnt where
  prompt : Bool := false
  time : Nat := 0
  prio : Nat := 0
  ctrl : Bool := false
  kind : Nat := 0
  what : List Nat := []
deriving DecidableEq, Repr

/-- A launch queue, in launch order, and the instant its first entry reached the head. -/
structure LaunchQ where
  ents : List LaunchEnt := []
  headAt : Nat := 0
deriving DecidableEq, Repr

/-- The estimate in MRAM (R380): frequency offset in parts per 10¹², die temperature, TAI second of the last healthy instant. -/
structure HoEst where
  freq : Int := 0
  temp : Word := 0
  sec : Nat := 0
deriving DecidableEq, Repr

/-- The time bases. ofs3: the offset still to be removed and adj3: what has been removed, in thirds of ns; overN, under: second
marks in a row above and within the limit of R382; doubt383: doubt by R383; lastOk: MONO_NOW at the last healthy instant. -/
structure TimState where
  inst : Tbl PtpInst := []
  ofs3 : Int := 0
  adj3 : Int := 0
  overN : Nat := 0
  under : Nat := 0
  doubt383 : Bool := false
  lastOk : Nat := 0
  lastOkSec : Nat := 0
  freq : Int := 0
  mram : HoEst := {}
  irigSec : Nat := 0
  irigRun : Nat := 0
  irigOfs : Int := 0
  irigUtc : Nat := 0
  irig61 : Bool := false
  irig59 : Bool := false
  lsk : Bool := false
  utc : Nat := 0
  leap61 : Bool := false
  leap59 : Bool := false
  pps : Bool := false
  caps : Tbl CapUnit := []
  lq : Tbl LaunchQ := []
deriving DecidableEq, Repr

end Sys2Proof.Machine
end

