-- ==== Sys2Proof/Machine/Parts7.lean ====
section
/-! DEFINITION. The state of the sampled-value ingress and of the phasor engines (chapters Sampled-value ingress, Phasor engines). -/

namespace Sys2Proof.Machine

/-- A ring slot (R149). at0: arrival timestamp; st: 0 received, 1 interpolated, 2 missing; chans: value and quality word of
channels 0–7. -/
structure SvSlot where
  n : Nat := 0
  at0 : Nat := 0
  st : Nat := 2
  synch : Nat := 0
  chans : List (Word × Qual) := []
deriving DecidableEq, Repr

/-- A stream (R145–R156). state as in SVI_STR_STAT; since: the instant of the present state; first: its first slot; ring: by
N mod depth, in the stream's own numbering; out: resampled slots (format 5); anch: 0 placed by R147, 1 anchored by its own
offset, 2 by the common one; offs: its offset A; lates: LATE samples in a row; errSince: since when a cause of R145 stands. -/
structure SvStream where
  state : Nat := 1
  since : Nat := 0
  first : Nat := 0
  ring : Tbl (Option SvSlot) := []
  out : Tbl (Option SvSlot) := []
  anch : Nat := 0
  offs : Int := 0
  unsync : Bool := false
  err : Nat := 0
  errSince : Option Nat := none
  lates : Nat := 0
  inGap : Bool := false
  miss : Nat := 0
  interp : Nat := 0
  gaps : Nat := 0
  late : Nat := 0
  early : Nat := 0
  dup : Nat := 0
  anchors : Nat := 0
  runlen : Nat := 0
  lastSynch : Nat := 0
  lastCnt : Nat := 0
  lag : Nat := 0
  lagPeak : Nat := 0
  shown : Option SvSlot := none
deriving DecidableEq, Repr

/-- An ASDU: confRev, smpCnt, smpSynch, and value and quality of the eight channels. -/
structure SvAsdu where
  confRev : Nat := 1
  smpCnt : Nat := 0
  smpSynch : Nat := 0
  chans : List (Int × Nat) := []
deriving DecidableEq, Repr

/-- A sampled-value message: destination MAC, APPID, svID, simulation bit, security length, whether its encoding is that of
the format, its ASDUs. -/
structure SvMsg where
  mac : Nat := 0
  appid : Nat := 0
  svid : List Byte := []
  sim : Bool := false
  sec : Nat := 0
  encOk : Bool := true
  asdus : List SvAsdu := []
deriving DecidableEq, Repr

/-- The ingress. common: the common offset of R148; rxSec: messages accepted in the running second. -/
structure SviState where
  run : Bool := false
  streams : Tbl (Option SvStream) := []
  common : Option Int := none
  rxSec : Nat := 0
deriving DecidableEq, Repr

/-- A PHASOR result (R176): the sample number, whether it was ready, its quality, and real and imaginary part by
channel × 16 + harmonic. -/
structure PhRes where
  n : Nat := 0
  ok : Bool := false
  q : Qual := 0
  ph : List (Nat × (Word × Word)) := []
deriving DecidableEq, Repr

/-- A capture row: the slot of each stream (none: missing) and the tetrads. -/
structure CapRow where
  slots : List (Option SvSlot) := []
  tets : List Tetrad := []
deriving DecidableEq, Repr

/-- A recording (R193): st 1 armed, 2 recording, 3 last trigger refused; left: samples still to take; trig: the trigger's
last state; at0, tq: instant and time quality of the trigger that started it; pre, rows: newest first. -/
structure CapState where
  st : Nat := 1
  trig : Bool := false
  left : Nat := 0
  at0 : Nat := 0
  tq : Nat := 0
  pre : List CapRow := []
  rows : List CapRow := []
deriving DecidableEq, Repr

/-- An element (R164–R187). fill: consecutive usable samples; more: evaluations since its input is ready; bins, anas: latest
outputs; latchOn, latch: the frame-latched tetrads of R166; run: evaluations in a row with start ON; cnts: security counts
and phase pickups; cnt: the count of SAMP and TIMER; integ, hold: the integrator of OC and its reset count; thetas, freqs:
angles and frequencies, newest first. -/
structure ElemState where
  lastN : Option Nat := none
  ready : Bool := false
  fill : Nat := 0
  more : Nat := 0
  skipped : Bool := false
  bins : List Tetrad := []
  anas : List Word := []
  qual : Qual := 0x0081#16
  aqual : List Qual := []
  latch : List Tetrad := []
  latchOn : List Bool := []
  hist : List PhRes := []
  run : Nat := 0
  trip : Bool := false
  cnts : List Nat := []
  cnt : Nat := 0
  out : Bool := false
  integ : Word := 0
  hold : Nat := 0
  thetas : List Word := []
  freqs : List Word := []
  cap : CapState := {}
deriving DecidableEq, Repr

/-- What the environment decides about one engine in a tick: the slot at which its pass still stands when its time ends (none:
it ended), cycles used, streams whose ring word was uncorrectable, corrected words, an uncorrectable local word, the
known-answer result. -/
structure PassEnv where
  stopAt : Option Nat := none
  cycles : Nat := 3000
  badRing : List Nat := []
  fixedRing : Nat := 0
  fixedLocal : Nat := 0
  badLocal : Bool := false
  katOk : Bool := true
deriving DecidableEq, Repr

/-- A phasor engine (R161–R197). st: 0 idle, 1 guard set, 2 configured slots, 3 failed; cause as in PE_STAT; pass: the slot
at which the present pass stands; tick: the tick of the pass; ovrs: frames of its overruns; peaks: (frame, cycles). -/
structure PeEngine where
  st : Nat := 0
  cause : Nat := 0
  elems : Tbl ElemState := []
  pass : Option Nat := none
  tick : Nat := 0
  load : Nat := 0
  peaks : List (Nat × Nat) := []
  ovrs : List Nat := []
  ovrCnt : Nat := 0
  skips : Nat := 0
  eccRing : Nat := 0
  eccLocal : Nat := 0
  katOk : Bool := false
  katType : Nat := 0
  katDone : Nat := 0
deriving DecidableEq, Repr

/-- A completed capture (R194): sequence number, streams, tetrads, the rows oldest first, instant and time
quality of its trigger, and whether an MMS session reads it. -/
structure Capture where
  seq : Nat := 0
  streams : Nat := 0
  tets : Nat := 0
  size : Nat := 0
  rows : List CapRow := []
  at0 : Nat := 0
  tq : Nat := 0
  reading : Nat := 0
deriving DecidableEq, Repr

/-- The phasor engines and the capture store. -/
structure PeState where
  engines : Tbl PeEngine := []
  caps : List Capture := []
  capSeq : Nat := 0
deriving DecidableEq, Repr

end Sys2Proof.Machine
end

