-- ==== Sys2Proof/Machine/Parts8.lean ====
section
/-! DEFINITION. The state of the Ethernet ports, GOOSE, MMS and the reports (chapter Station and process bus). -/

namespace Sys2Proof.Machine

/-- A value of a GOOSE member (R407). -/
inductive GVal where
  | bool (b : Bool)
  | dbpos (n : Nat)
  | qual (q : Nat)
  | f32 (w : Word)
  | i32 (v : Int)
  | time (t tq : Nat)
  | octets (bs : List Byte)
deriving DecidableEq, Repr

/-- The member types of R407, in the order of their kinds 0 to 6. -/
def GVal.kind : GVal → Nat
  | .bool _ => 0 | .dbpos _ => 1 | .qual _ => 2 | .f32 _ => 3 | .i32 _ => 4 | .time _ _ => 5 | .octets _ => 6

/-- A GOOSE message (R410): pair (true process), LAN (true B), destination MAC, APPID, gocbRef, confRev, ndsCom, simulation
bit, test, stNum, sqNum, timeAllowedToLive in ms, members, and its bytes. -/
structure GooseMsg where
  pb : Bool := false
  lan : Bool := false
  mac : Nat := 0
  appid : Nat := 0
  gocb : List Byte := []
  confRev : Nat := 1
  ndsCom : Bool := false
  sim : Bool := false
  test : Bool := false
  st : Nat := 1
  sq : Nat := 0
  tal : Nat := 0
  vals : List GVal := []
  raw : List Byte := []
deriving DecidableEq, Repr

/-- A publication (R408, R409): stNum and sqNum last sent or heard, the values last sent, repeats since the new state and the
frame of the next one. -/
structure GsePub where
  st : Nat := 0
  sq : Nat := 0
  heard : Bool := false
  sent : Bool := false
  vals : List GVal := []
  reps : Nat := 0
  nextAt : Nat := 0
deriving DecidableEq, Repr

/-- A subscription (R410, R411). state: 1 WAITING, 2 OK, 3 LOST, 4 ERROR; tal in ns; errSince: since when a discard cause
stands. -/
structure GseSub where
  state : Nat := 1
  st : Nat := 0
  sq : Nat := 0
  first : Bool := true
  test : Bool := false
  lan : Bool := false
  err : Nat := 0
  errSince : Option Nat := none
  tal : Nat := 0
  lastAt : Nat := 0
  discards : Nat := 0
  news : Nat := 0
  lostCnt : Nat := 0
deriving DecidableEq, Repr

/-- An Ethernet frame at a port, as the filters see it (R399–R403). proto: 6 TCP, 1 ICMP; seq: its PRP or HSR sequence number;
oversize: longer than R399 allows. -/
structure EthFrame where
  port : Nat := 0
  dst : Nat := 0
  src : Nat := 0
  etype : Nat := 0
  vid : Option Nat := none
  appid : Nat := 0
  proto : Nat := 0
  tport : Nat := 0
  srcIp : Nat := 0
  seq : Option Nat := none
  fcsOk : Bool := true
  oversize : Bool := false
deriving DecidableEq, Repr

/-- A duplicate-discard entry (R401). -/
structure DupEnt where
  src : Nat := 0
  seq : Nat := 0
  port : Nat := 0
  at0 : Nat := 0
  both : Bool := false
deriving DecidableEq, Repr

/-- A port pair: duplicates, node table, the counters of ETH_PP_DUP, ETH_PP_DROP and ETH_PP_STRANGER, and the second they count. -/
structure EthPair where
  dups : List DupEnt := []
  nodes : List Nat := []
  discard : Nat := 0
  single : Nat := 0
  drops : List Nat := [0, 0, 0, 0]
  shown : List Nat := [0, 0, 0, 0]
  stranger : Nat := 0
  ip : Nat := 0
  sec : Nat := 0
deriving DecidableEq, Repr

/-- An Ethernet port: link, speed, losses, frames in the running second and in the last one, errors. -/
structure EthPort where
  link : Bool := false
  speed : Nat := 0
  downs : Nat := 0
  rx : Nat := 0
  tx : Nat := 0
  rxShown : Nat := 0
  txShown : Nat := 0
  sec : Nat := 0
  fcs : Nat := 0
  overN : Nat := 0
deriving DecidableEq, Repr

/-- A command in execution (R413): ctlVal, Test, the frame of the freeze at which its endpoint first reads ON, the association,
and the frame from which it reads OFF again. -/
structure MmsExec where
  ctl : Bool := true
  test : Bool := false
  on : Nat := 0
  assoc : Nat := 0
  off : Option Nat := none
deriving DecidableEq, Repr

/-- A controllable object: its selection (association, instant it lapses) and its command. -/
structure MmsObj where
  sel : Option (Nat × Nat) := none
  exec : Option MmsExec := none
deriving DecidableEq, Repr

/-- A report control block (R414): the association it is enabled for, its last EntryID, buffered entries oldest first, the
values last reported, and its other attributes. -/
structure Rcb where
  ena : Option Nat := none
  entry : Nat := 0
  buf : List (Nat × List Nat) := []
  last : Option (List Nat) := none
  attrs : Tbl Nat := []
deriving DecidableEq, Repr

/-- The station and process bus. garp: gratuitous ARPs still to send; fip: the module answers for the floating address;
takeover: the next commit sends every control-class publication (R409); sessNum: the last session ID. -/
structure StnState where
  ports : Tbl EthPort := []
  pairs : Tbl EthPair := []
  pubs : Tbl GsePub := []
  subs : Tbl (Option GseSub) := []
  takeover : Bool := false
  garp : Nat := 0
  fip : Bool := false
  assocs : List Nat := []
  objs : Tbl MmsObj := []
  rcbs : Tbl Rcb := []
  opsOk : Nat := 0
  opsBad : Nat := 0
  sessNum : Nat := 0
  macSb : Nat := 0
  macPb : Nat := 0
deriving DecidableEq, Repr

/-- A request to open a session (R415): through the service port, the role and serial that the certificate names, the anchor
it chains to, the certificate's bytes and signature. -/
structure SessReq where
  svc : Bool := false
  role : Nat := 0
  serial : Nat := 0
  anchor : Nat := 0
  cert : List Byte := []
  sig : List Byte := []
deriving DecidableEq, Repr

end Sys2Proof.Machine
end

