-- ==== Sys2Proof/Machine/Messages.lean ====
section
/-! DEFINITION. What the commands carry: register writes with their sender, the environment of one engine issue, and the
messages and reports that arrive at the module. -/

namespace Sys2Proof.Machine

/-- A write of a command register: master identity (R454), session ID (0: none) and the value written. -/
structure Cmd where
  master : Nat := 0
  session : Nat := 0
  value : Word := 0
deriving DecidableEq, Repr

/-- What upsets the shadow pass of one slot: the bits by which its accumulator, its store, its cell word and its stack
entry differ, and whether its next word address differs (R98). -/
structure Upset where
  acc : Tetrad := 0
  store : Tetrad := 0
  cell : Word := 0
  stack : Tetrad := 0
  flow : Bool := false
deriving DecidableEq, Repr

/-- One issue of a logic engine: engine, stream, the instant of its reads, the state of the memory words read (0 good,
1 single-bit error, 2 uncorrectable) and the upset of the shadow pass. live holds the samples of a live load that see
different values: primary first, shadow first, primary second, shadow second (R104). -/
structure LeStep where
  eng : Nat := 0
  stream : Nat := 0
  time : Nat := 0
  eccProg : Nat := 0
  eccHist : Nat := 0
  upset : Upset := {}
  live : Option (Tetrad × Tetrad × Tetrad × Tetrad) := none
deriving DecidableEq, Repr

/-- What an application core does at an AC_STORE: a store to a binary or an analogue endpoint with its quality word, or a
write of an 8-byte word of partition memory at a byte address. -/
inductive AcOp where
  | bin (ep : Nat) (v : Tetrad) (q : Qual)
  | ana (ep : Nat) (v : Word) (q : Qual)
  | mem (addr : Nat) (v : DWord)
deriving DecidableEq, Repr

/-- The outcome of a self-test of a logic engine (R101): passed, the comparator reported its injection, the single-bit
errors the scrub corrected in program and history memory, and whether it met an uncorrectable word (R65). -/
structure TestReport where
  pass : Bool := true
  inj : Bool := true
  fixedProg : Nat := 0
  fixedHist : Nat := 0
  bad : Bool := false
deriving DecidableEq, Repr

/-- The clasp's lines as the module sees them at an instant (R233). -/
structure ClaspLines where
  grant : Bool := false
  grantN : Bool := true
  kill : Bool := false
  killN : Bool := true
  pgrant : Bool := false
deriving DecidableEq, Repr

/-- A role report of the partner (R230, R252). -/
structure PartnerReport where
  role : Nat := 0
  inJoin : Bool := false
  image : Nat := 0
  pcl : Nat := 0
  sideB : Bool := false
deriving DecidableEq, Repr

/-- An FMARK on one lane (R252): the frame it names, the report, base, OLC state, health summary, and the measured offset of
the own freeze and link delay in ns. -/
structure Fmark where
  lane : Nat := 0
  frame : Nat := 0
  report : PartnerReport := {}
  base : Nat := 0
  olc : Nat := 0
  health : Word := 0
  ofs : Int := 0
  delay : Nat := 0
deriving DecidableEq, Repr

/-- What a CTRL message carries (R539): role reports, switchover (R240), mirrored forces and maintenance mode with their
answers, on-line change commands (R203–R214), slot-memory progress (R215, R517), update control (R436, R437) and the
partner's identity (R448, R449). -/
inductive Ctrl where
  | report (r : PartnerReport)
  | switchName (h kind : Nat)
  | switchAnswer (h : Nat) (ok : Bool)
  | force (r : ForceReq)
  | forceAnswer (ep : Nat) (ok : Bool)
  | smmEnter (session dur frame : Nat)
  | smmAnswer (ok : Bool)
  | smmEnd (frame : Nat)
  | olcPrepared (crc : Word)
  | olcArm (n : Nat) (relforce : Bool)
  | olcArmed (n : Nat)
  | olcDisarm
  | olcAbort
  | olcRevert (frame : Nat)
  | olcAccept
  | slotw (step : Nat)
  | askSlots
  | packageVerified
  | restartAt (frame : Nat)
  | identity (certsOk attestOk : Bool)
  | trust (anchors : List (Nat × Anchor))
deriving DecidableEq, Repr

/-- A record of a source image (R255): a binary endpoint's tetrad and side quality, or an analogue signal. -/
structure SrcRec where
  ep : Nat := 0
  tet : Tetrad := 0
  sq : Qual := 0
  val : Word := 0
  qual : Qual := 0
  age : Nat := 0
deriving DecidableEq, Repr

/-- The repair of one partition (R256): records of the blocks asked for, and its telegram items when these were asked for. -/
structure RepairPart where
  part : Nat := 0
  recs : List SrcRec := []
  tg : Option (List TgItem) := none
deriving DecidableEq, Repr

/-- The retained snapshot of learning (R264): generation, retained content, force table, maintenance mode, last segment. -/
structure Snap where
  gen : Nat := 0
  content : Tbl DWord := []
  forces : Tbl (Option Force) := []
  smmOn : Bool := false
  smm : Smm := {}
  last : Bool := false
  bytes : Nat := 0
deriving DecidableEq, Repr

/-- State transferred by BULK, DELTA and DFINAL (R257, R264): the frame it belongs to, the lagging partition for a lag DELTA,
history cells (engine, cell, word), words of partition memory, committed endpoints, fault reactions with their overrun
windows, proof states, n₀ of publications, and the shadow image with its map while the active is in WINDOW. copies carries
forwarded slot memory (R517). -/
structure Xfer where
  frame : Nat := 0
  lagPart : Option Nat := none
  cells : List (Nat × Nat × Word) := []
  words : List (Nat × DWord) := []
  recs : List SrcRec := []
  parts : List (Nat × PartState) := []
  sins : List (Nat × SinState) := []
  pubs : List (Nat × Nat) := []
  shadow : Option (Image × List MapEnt) := none
  copies : List (Bool × SlotCopy) := []
  last : Bool := false
  bytes : Nat := 0
deriving DecidableEq, Repr

/-- A response on a chain port (R306, R307): header fields, payload, whether its CRC verifies, the instant its start
delimiter was complete. -/
structure ChnResp where
  kind : Nat := 1
  addr : Nat := 0
  epoch : Nat := 0
  cmd : Nat := 0
  sts : Nat := 0
  fnum : Nat := 0
  data : List Byte := []
  crcOk : Bool := true
  sdAt : Nat := 0
deriving DecidableEq, Repr

end Sys2Proof.Machine
end

