-- ==== Sys2Proof/Syntax.lean ====
section
/-! DEFINITION. The commands of the module: one constructor for each row of the operation table, with the operands that
its rule names. An operand st carries what the environment decides about one issue of an engine; an operand c is a write of
a command register with its sender; an operand t is an instant of sequencer time in ns. -/

namespace Sys2Proof

open Sys2Proof.Machine

/-- The commands. -/

inductive Instr where
  /-- REGISTER_WRITE (R9). -/
  | registerWrite (reg : Nat) (len : Nat) (c : Cmd)
  /-- FREEZE (R20). -/
  | frameFreeze (t : Nat)
  /-- COMPUTE (R67). -/
  | frameCompute (t : Nat)
  /-- AC_SLOT_START (R117). -/
  | acSlotStart (core : Nat) (t : Nat)
  /-- CLASS_END (R68). -/
  | classEnd (eng : Nat) (stream : Nat) (t : Nat)
  /-- BUDGET_EXHAUSTED (R33). -/
  | budgetExhausted (part : Nat) (t : Nat)
  /-- SEAL (R20). -/
  | frameSeal (t : Nat)
  /-- COMMIT (R25). -/
  | frameCommit (t : Nat)
  /-- BACKGROUND_SELF_TEST (R101). -/
  | backgroundSelfTest (e : Nat) (r : TestReport)
  /-- FULL_SELF_TEST (R101). -/
  | fullSelfTest (e : Nat) (r : TestReport)
  /-- SLEW_DONE (R18). -/
  | slewDone
  /-- RESUME (R36). -/
  | partResume (c : Cmd)
  /-- PROMPT_MINPULSE_END (R58). -/
  | promptMinpulseEnd (key : Nat) (t : Nat)
  /-- LD (R76). -/
  | leLd (st : LeStep)
  /-- LDN (R76). -/
  | leLdn (st : LeStep)
  /-- LDL (R77). -/
  | leLdl (st : LeStep)
  /-- AND (R73). -/
  | leAnd (st : LeStep)
  /-- ANDN (R74). -/
  | leAndn (st : LeStep)
  /-- OR (R73). -/
  | leOr (st : LeStep)
  /-- ORN (R74). -/
  | leOrn (st : LeStep)
  /-- XOR (R73). -/
  | leXor (st : LeStep)
  /-- XORN (R74). -/
  | leXorn (st : LeStep)
  /-- BOP (R75). -/
  | leBop (st : LeStep)
  /-- BCL (R75). -/
  | leBcl (st : LeStep)
  /-- ST (R78). -/
  | leSt (st : LeStep)
  /-- STN (R78). -/
  | leStn (st : LeStep)
  /-- SET (R78). -/
  | leSet (st : LeStep)
  /-- RST (R78). -/
  | leRst (st : LeStep)
  /-- REDG (R84). -/
  | leRedg (st : LeStep)
  /-- FEDG (R84). -/
  | leFedg (st : LeStep)
  /-- TON (R85). -/
  | leTon (st : LeStep)
  /-- TOF (R85). -/
  | leTof (st : LeStep)
  /-- TP (R85). -/
  | leTp (st : LeStep)
  /-- CTU (R86). -/
  | leCtu (st : LeStep)
  /-- CTD (R86). -/
  | leCtd (st : LeStep)
  /-- CTL (R86). -/
  | leCtl (st : LeStep)
  /-- TSTD (R79). -/
  | leTstd (st : LeStep)
  /-- STRO (R79). -/
  | leStro (st : LeStep)
  /-- FRCD (R79). -/
  | leFrcd (st : LeStep)
  /-- SKIP (R80). -/
  | leSkip (st : LeStep)
  /-- END (R75). -/
  | leEnd (st : LeStep)
  /-- ILLEGAL_INSTRUCTION (R88). -/
  | leIllegal (st : LeStep)
  /-- MODE_REQUEST (R106). -/
  | modeRequest (e : Nat) (c : Cmd)
  /-- LE_CLR_CNT (R93). -/
  | leClrCnt (e : Nat) (c : Cmd)
  /-- DEBUG_OPEN (R108). -/
  | debugOpen (e : Nat) (c : Cmd)
  /-- HALT (R109). -/
  | debugHalt (e : Nat) (c : Cmd)
  /-- STEP (R109). -/
  | debugStep (st : LeStep)
  /-- DEBUG_RESUME (R109). -/
  | debugResume (e : Nat) (c : Cmd) (t : Nat)
  /-- DEBUG_WRITE (R110). -/
  | debugWrite (e : Nat) (c : Cmd)
  /-- FRAME_NOW (R123). -/
  | frameNow (core : Nat)
  /-- TAI_FREEZE (R123). -/
  | taiFreeze (core : Nat)
  /-- MONO_NOW (R123). -/
  | monoNow (core : Nat)
  /-- SQ_READ (R123). -/
  | sqRead (core : Nat) (ep : Nat)
  /-- TG_READ (R137). -/
  | tgRead (core : Nat) (t : Nat)
  /-- TG_READ_STALL_END (R137). -/
  | tgReadStallEnd (core : Nat) (t : Nat)
  /-- TG_DROP (R136). -/
  | tgDrop (core : Nat)
  /-- REC_EVENT (R123). -/
  | recEvent (core : Nat) (sev : Nat) (ps : List Word)
  /-- HART_REQ (R347). -/
  | hartReq (core : Nat) (ch : Nat) (cmd : Nat) (data : List Byte) (t : Nat)
  /-- AC_STORE (R126). -/
  | acStore (core : Nat) (op : AcOp) (raises : Option Nat) (addr : Nat) (t : Nat)
  /-- ROLLBACK_END (R125). -/
  | rollbackEnd (core : Nat)
  /-- SERVICE_PREEMPT (R120). -/
  | servicePreempt (core : Nat) (t : Nat)
  /-- FBX_CLR_CNT (R141). -/
  | fbxClrCnt (c : Cmd)
  /-- WARM_RESTART (R132). -/
  | warmRestart (c : Cmd)
  /-- COLD_RESTART (R132). -/
  | coldRestart (c : Cmd)
  /-- SV_MESSAGE (R145). -/
  | svMessage (m : SvMsg) (t : Nat)
  /-- SAMPLE_TICK (R16). -/
  | sampleTick (env : List (Nat × PassEnv)) (t : Nat)
  /-- STREAM_LOSS_TIMEOUT (R155). -/
  | streamLossTimeout (k : Nat) (t : Nat)
  /-- STREAM_ERROR_TIMEOUT (R155). -/
  | streamErrorTimeout (k : Nat) (t : Nat)
  /-- SVI_CLR_CNT (R160). -/
  | sviClrCnt (c : Cmd)
  /-- PE_PASS_OVERRUN (R167). -/
  | pePassOverrun (e : Nat) (t : Nat)
  /-- PE_POST_DEADLINE (R197). -/
  | pePostDeadline (e : Nat) (t : Nat)
  /-- PE_CLR_CNT (R200). -/
  | peClrCnt (e : Nat) (c : Cmd)
  /-- OLC_LOAD (R201). -/
  | olcLoad (session : Nat) (img : Image) (map : List MapEnt) (kib : Nat)
  /-- OLC_VERIFY (R203). -/
  | olcVerify (ok : Bool) (crc : Word)
  /-- ARM (R204). -/
  | olcArm (c : Cmd)
  /-- DISARM (R206). -/
  | olcDisarm (c : Cmd)
  /-- ABORT (R207). -/
  | olcAbort (c : Cmd)
  /-- REVERT (R213). -/
  | olcRevert (c : Cmd)
  /-- ACCEPT (R214). -/
  | olcAccept (c : Cmd)
  /-- OLC_COMMIT (R205). -/
  | olcCommit (t : Nat)
  /-- REVERT_EFFECT (R213). -/
  | revertEffect (t : Nat)
  /-- OLC_WINDOW_EXPIRY (R214). -/
  | olcWindowExpiry (t : Nat)
  /-- PERSIST_STEP_END (R215). -/
  | persistStepEnd (t : Nat)
  /-- FORCE_SET (R219). -/
  | forceSet (c : Cmd)
  /-- FORCE_RELEASE (R219). -/
  | forceRelease (c : Cmd)
  /-- FORCE_RELEASE_ALL (R219). -/
  | forceReleaseAll (c : Cmd)
  /-- FORCE_EFFECT (R219). -/
  | forceEffect (t : Nat)
  /-- FORCE_EXPIRY (R221). -/
  | forceExpiry (t : Nat)
  /-- GRANT_LINE_CHANGE (R236). -/
  | grantLineChange (l : ClaspLines) (t : Nat)
  /-- KILL_LINE_CHANGE (R236). -/
  | killLineChange (l : ClaspLines) (t : Nat)
  /-- KILL_QUALIFIED (R236). -/
  | killQualified (t : Nat)
  /-- CLASP_FAIL (R243). -/
  | claspFail (cause : Nat) (t : Nat)
  /-- CLASP_FAIL_CLEAR (R245). -/
  | claspFailClear (t : Nat)
  /-- TAKEOVER (R237). -/
  | takeover (gap : Nat) (t : Nat)
  /-- WARM_TAKEOVER (R229). -/
  | warmTakeover (gap : Nat) (t : Nat)
  /-- SWITCH (R240). -/
  | pairSwitch (c : Cmd)
  /-- SWITCHOVER_EVAL (R240). -/
  | switchoverEval (t : Nat)
  /-- REJOIN (R232). -/
  | pairRejoin (c : Cmd)
  /-- PAIR_CLR_CNT (R249). -/
  | pairClrCnt (c : Cmd)
  /-- JOIN_DECISION (R230). -/
  | joinDecision (t : Nat)
  /-- JOIN_WAIT_EXPIRY (R230). -/
  | joinWaitExpiry (t : Nat)
  /-- LEARN_TIMEOUT (R232). -/
  | learnTimeout (t : Nat)
  /-- JOIN_RETRY (R232). -/
  | joinRetry (t : Nat)
  /-- RE_LEARN (R263). -/
  | reLearn (t : Nat)
  /-- DETACH_WAIT_END (R231). -/
  | detachWaitEnd (t : Nat)
  /-- LINK_UP_COUNT (R229). -/
  | linkUpCount (t : Nat)
  /-- TOKEL_LINK_LOST (R252). -/
  | tokelLinkLost (lane : Nat) (t : Nat)
  /-- PARTNER_PRESENCE (R515). -/
  | partnerPresence (present : Bool) (t : Nat)
  /-- FMARK (R252). -/
  | linkFmark (m : Fmark) (t : Nat)
  /-- DIGEST (R256). -/
  | linkDigest (parts : List PartDigest) (t : Nat)
  /-- BLKREQ (R257). -/
  | linkBlkreq (needs : List BlockNeed) (lag : List Nat) (t : Nat)
  /-- REPAIR (R256). -/
  | linkRepair (parts : List RepairPart) (t : Nat)
  /-- HALLMARK (R260). -/
  | linkHallmark (hm : Hallmark) (t : Nat)
  /-- CTRL (R539). -/
  | linkCtrl (m : Ctrl) (t : Nat)
  /-- SNAP (R264). -/
  | linkSnap (m : Snap) (t : Nat)
  /-- BULK (R264). -/
  | linkBulk (m : Xfer) (t : Nat)
  /-- DELTA (R257). -/
  | linkDelta (m : Xfer) (t : Nat)
  /-- DFINAL (R264). -/
  | linkDfinal (m : Xfer) (t : Nat)
  /-- FWPKG (R275). -/
  | linkFwpkg (b : List Byte) (first : Bool) (last : Bool) (t : Nat)
  /-- LEARN_PHASE_END (R264). -/
  | learnPhaseEnd (t : Nat)
  /-- GRID_DEVIATION (R254). -/
  | gridDeviation (t : Nat)
  /-- DO_RELEASE (R268). -/
  | doRelease (t : Nat)
  /-- CROSS_FADE_STEP (R270). -/
  | crossFadeStep (t : Nat)
  /-- AO_TAKEOVER_DRIVE (R271). -/
  | aoTakeoverDrive (t : Nat)
  /-- BURDEN_SWITCH (R350). -/
  | burdenSwitch (t : Nat)
  /-- ROLL (R437). -/
  | updRoll (c : Cmd)
  /-- UPDATE_STEP (R275). -/
  | updateStep (fell : Bool) (t : Nat)
  /-- MODULE_SAFE_STATE (R284). -/
  | moduleSafeState (cause : Nat) (detail : Nat) (t : Nat)
  /-- SAF_WD_RESP (R283). -/
  | safWdResp (c : Cmd)
  /-- SAF_WD_EXPIRY (R283). -/
  | safWdExpiry (t : Nat)
  /-- KILL_PATH_TEST (R282). -/
  | killPathTest (ok : Bool) (t : Nat)
  /-- DISCREPANCY_TIMEOUT (R288). -/
  | discrepancyTimeout (i : Nat) (t : Nat)
  /-- SINGLE_COPY_LOSS (R296). -/
  | singleCopyLoss (k : Nat) (t : Nat)
  /-- STC_WATCHDOG_EXPIRY (R297). -/
  | stcWatchdogExpiry (k : Nat) (t : Nat)
  /-- STC_ACK (R297). -/
  | stcAck (c : Cmd)
  /-- SAF_CLR_CNT (R303). -/
  | safClrCnt (c : Cmd)
  /-- SMM_REQUEST (R298). -/
  | smmRequest (c : Cmd)
  /-- SMM_ENTER (R298). -/
  | smmEnter (c : Cmd)
  /-- SMM_EXIT (R298). -/
  | smmExit (c : Cmd)
  /-- SMM_CODE_EXPIRY (R298). -/
  | smmCodeExpiry (t : Nat)
  /-- SMM_START (R298). -/
  | smmStart (t : Nat)
  /-- SMM_EXPIRY (R298). -/
  | smmExpiry (t : Nat)
  /-- DATA (R317). -/
  | chainData (p : Nat) (i : Nat) (t : Nat)
  /-- CHAIN_RESPONSE (R310). -/
  | chainResponse (p : Nat) (r : ChnResp) (t : Nat)
  /-- CHAIN_MISS (R320). -/
  | chainMiss (p : Nat) (t : Nat)
  /-- IDENT (R312). -/
  | chainIdent (p : Nat) (n : Nat) (t : Nat)
  /-- DELAY (R314). -/
  | chainDelay (p : Nat) (n : Nat) (t : Nat)
  /-- CONFIG (R311). -/
  | chainConfig (p : Nat) (n : Nat) (t : Nat)
  /-- ASSIGN (R322). -/
  | chainAssign (c : Cmd) (t : Nat)
  /-- PROBE (R323). -/
  | chainProbe (p : Nat) (t : Nat)
  /-- STRANGER_POLL (R322). -/
  | strangerPoll (p : Nat) (t : Nat)
  /-- EPOCH_TIMEOUT (R325). -/
  | epochTimeout (p : Nat) (t : Nat)
  /-- UNBLOCK (R321). -/
  | chainUnblock (c : Cmd)
  /-- CHN_CLR_CNT (R330). -/
  | chnClrCnt (c : Cmd)
  /-- NODE_HOLD_EXPIRY (R326). -/
  | nodeHoldExpiry (p : Nat) (n : Nat) (t : Nat)
  /-- DI_CHANGE (R333). -/
  | diChange (n : Nat) (cur : Nat) (mv : Nat) (t : Nat)
  /-- DEBOUNCE_EXPIRY (R334). -/
  | debounceExpiry (n : Nat) (t : Nat)
  /-- DO_READBACK (R336). -/
  | doReadback (ch : Nat) (sense : Bool) (t : Nat)
  /-- DO_OVERLOAD (R337). -/
  | doOverload (ch : Nat) (t : Nat)
  /-- GROUP_OVERCURRENT (R337). -/
  | groupOvercurrent (g : Nat) (t : Nat)
  /-- DO_RETRY (R337). -/
  | doRetry (group : Bool) (n : Nat) (persists : Bool) (t : Nat)
  /-- GROUP_SUPPLY_LOW (R337). -/
  | groupSupplyLow (g : Nat) (low : Bool) (t : Nat)
  /-- OUTPUT_WATCHDOG_EXPIRY (R338). -/
  | outputWatchdogExpiry (t : Nat)
  /-- ADC_SAMPLE (R345). -/
  | adcSample (ch : Nat) (meas : Word) (head : Word) (conv : Bool) (t : Nat)
  /-- CONDITION_RECORD (R345). -/
  | conditionRecord (ch : Nat) (t : Nat)
  /-- HART_RESPONSE (R348). -/
  | hartResponse (ch : Nat) (cmd : Nat) (bs : List Byte) (ok : Bool) (t : Nat)
  /-- HART_TIMEOUT (R348). -/
  | hartTimeout (ch : Nat) (t : Nat)
  /-- LIO_CLR_CNT (R354). -/
  | lioClrCnt (c : Cmd)
  /-- AIO_CLR_CNT (R355). -/
  | aioClrCnt (c : Cmd)
  /-- CAN_FRAME_RECEIVED (R361). -/
  | canFrameReceived (c : Nat) (f : CanFrame)
  /-- CAN_RX_TIMEOUT (R361). -/
  | canRxTimeout (c : Nat) (n : Nat) (t : Nat)
  /-- CAN_RXO_W0 (R362). -/
  | canRxoW0 (c : Nat) (t : Nat)
  /-- CAN_RXO_W19 (R362). -/
  | canRxoW19 (c : Nat) (t : Nat)
  /-- CAN_RXO_SEL (R362). -/
  | canRxoSel (c : Nat) (k : Cmd)
  /-- CAN_LOCK_TIMEOUT (R362). -/
  | canLockTimeout (c : Nat) (t : Nat)
  /-- CAN_TX_DONE (R366). -/
  | canTxDone (c : Nat) (n : Nat) (t : Nat)
  /-- CAN_TX_ERROR (R367). -/
  | canTxError (c : Nat) (n : Nat) (lost : Bool) (t : Nat)
  /-- CAN_TX_LIFETIME (R368). -/
  | canTxLifetime (c : Nat) (n : Nat) (t : Nat)
  /-- CAN_CANCEL (R368). -/
  | canCancel (c : Nat) (k : Cmd)
  /-- BUS_OFF_RECOVERY (R358). -/
  | busOffRecovery (c : Nat) (t : Nat)
  /-- CAN_RECOVER (R358). -/
  | canRecover (k : Cmd)
  /-- CAN_CLR_CNT (R376). -/
  | canClrCnt (k : Cmd)
  /-- TT_TIME_MARK (R369). -/
  | ttTimeMark (c : Nat) (mark : Nat) (t : Nat)
  /-- PTP_SYNC (R379). -/
  | ptpSync (i : Nat) (ofs : Int) (rel : Int) (lan : Bool) (t : Nat)
  /-- PTP_ANNOUNCE (R387). -/
  | ptpAnnounce (i : Nat) (a : PtpAnn) (t : Nat)
  /-- ANNOUNCE_TIMEOUT (R379). -/
  | announceTimeout (i : Nat) (t : Nat)
  /-- PDELAY_REQ (R378). -/
  | pdelayReq (port : Nat) (t : Nat)
  /-- SECOND_MARK (R382). -/
  | secondMark (m : MarkMeas) (t : Nat)
  /-- PREF_REVERT (R381). -/
  | prefRevert (t : Nat)
  /-- HOLDOVER_SAVE (R380). -/
  | holdoverSave (t : Nat)
  /-- LEAP_APPLY (R387). -/
  | leapApply (t : Nat)
  /-- IRIG_FRAME (R389). -/
  | irigFrame (f : IrigFrame) (t : Nat)
  /-- PPS_FALL (R390). -/
  | ppsFall (t : Nat)
  /-- CAPTURE_EVENT (R391). -/
  | captureEvent (src : Nat) (idx : Nat) (deb : Bool) (stamp : Nat)
  /-- TIM_CAP_SLO (R392). -/
  | timCapSlo
  /-- TIM_CAP_CFG (R392). -/
  | timCapCfg (c : Cmd)
  /-- TIM_CLR_CNT (R397). -/
  | timClrCnt (c : Cmd)
  /-- LAUNCH (R393). -/
  | launchFrame (port : Nat) (t : Nat)
  /-- ETH_FRAME_RX (R403). -/
  | ethFrameRx (f : EthFrame) (t : Nat)
  /-- SUPERVISION_FRAME (R400). -/
  | supervisionFrame (p : Nat) (t : Nat)
  /-- GOOSE_RX (R410). -/
  | gooseRx (m : GooseMsg) (t : Nat)
  /-- GOOSE_TAL_EXPIRY (R411). -/
  | gooseTalExpiry (k : Nat) (t : Nat)
  /-- GOOSE_ERROR_TIMEOUT (R411). -/
  | gooseErrorTimeout (k : Nat) (t : Nat)
  /-- GOOSE_REPEAT (R408). -/
  | gooseRepeat (p : Nat) (t : Nat)
  /-- ARP_REQUEST (R405). -/
  | arpRequest (port : Nat) (ip : Nat) (t : Nat)
  /-- ICMP_ECHO (R403). -/
  | icmpEcho (port : Nat) (ip : Nat) (data : List Byte) (t : Nat)
  /-- ASSOCIATE (R412). -/
  | mmsAssociate (a : Nat) (ip : Nat) (t : Nat)
  /-- CONCLUDE (R412). -/
  | mmsConclude (a : Nat) (t : Nat)
  /-- MMS_ABORT (R412). -/
  | mmsAbort (a : Nat) (t : Nat)
  /-- GET_DIRECTORY (R412). -/
  | getDirectory (a : Nat) (name : Nat) (t : Nat)
  /-- GET_DATA_VALUES (R412). -/
  | getDataValues (a : Nat) (name : Nat) (t : Nat)
  /-- SET_DATA_VALUES (R412). -/
  | setDataValues (a : Nat) (block : Nat) (attr : Nat) (val : Nat) (t : Nat)
  /-- SELECT (R413). -/
  | mmsSelect (o : Nat) (a : Nat) (t : Nat)
  /-- SELECT_TIMEOUT (R413). -/
  | selectTimeout (o : Nat) (t : Nat)
  /-- OPERATE (R413). -/
  | mmsOperate (o : Nat) (a : Nat) (ctl : Bool) (test : Bool) (raw : List Byte) (t : Nat)
  /-- OPERATE_TIMEOUT (R413). -/
  | operateTimeout (o : Nat) (t : Nat)
  /-- GET_FILE (R195). -/
  | getFile (a : Nat) (n : Nat) (dat : Bool) (last : Bool) (t : Nat)
  /-- FILE_DIRECTORY (R195). -/
  | fileDirectory (a : Nat) (t : Nat)
  /-- DELETE_FILE (R195). -/
  | deleteFile (a : Nat) (n : Nat) (session : Nat) (t : Nat)
  /-- ETH_CLR_CNT (R418). -/
  | ethClrCnt (c : Cmd)
  /-- GSE_CLR_CNT (R419). -/
  | gseClrCnt (c : Cmd)
  /-- SESSION_OPEN (R415). -/
  | sessionOpen (r : SessReq) (t : Nat)
  /-- SESSION_CLOSE (R415). -/
  | sessionClose (id : Nat) (t : Nat)
  /-- SESSION_IDLE_TIMEOUT (R415). -/
  | sessionIdleTimeout (id : Nat) (t : Nat)
  /-- START (R420). -/
  | moduleStart (t : Nat)
  /-- HOLD_END (R513). -/
  | holdEnd (t : Nat)
  /-- STRAP_RETRY (R513). -/
  | strapRetry (t : Nat)
  /-- GUARD_READY (R422). -/
  | guardReady (t : Nat)
  /-- LOAD_COMPLETE (R420). -/
  | loadComplete (failed : List Nat) (copyOk : Bool) (t : Nat)
  /-- CONFIGURE_COMPLETE (R420). -/
  | configureComplete (fwd : Option (SlotCopy × SlotCopy)) (t : Nat)
  /-- SLOTMEM_REPAIR (R426). -/
  | slotmemRepair (t : Nat)
  /-- CHOOSE (R427). -/
  | updChoose (c : Cmd)
  /-- FW_BLOCK (R436). -/
  | fwBlock (session : Nat) (b : List Byte) (first : Bool) (last : Bool)
  /-- ACTIVATE (R437). -/
  | updActivate (c : Cmd)
  /-- DISCARD (R436). -/
  | updDiscard (c : Cmd)
  /-- FW_CONFIRM (R440). -/
  | fwConfirm (t : Nat)
  /-- CONFIRM_WINDOW_EXPIRY (R441). -/
  | confirmWindowExpiry (t : Nat)
  /-- TFTP_WRITE_REQUEST (R442). -/
  | tftpWriteRequest (name : List Byte) (mode : List Byte)
  /-- TFTP_DATA (R442). -/
  | tftpData (block : Nat) (b : List Byte)
  /-- TOKEN (R447). -/
  | trustToken (session : Nat) (b : List Byte)
  /-- ATTESTATION (R450). -/
  | attestation (session : Nat) (nonce : List Byte)
  /-- ACC_REGION_WRITE (R462). -/
  | accRegionWrite (reg : Nat) (c : Cmd)
  /-- BARRIER (R463). -/
  | accBarrier (c : Cmd) (inflight : Bool)
  /-- BARRIER_DRAIN_END (R463). -/
  | barrierDrainEnd (inflight : Bool)
  /-- ACC_CLR_CNT (R467). -/
  | accClrCnt (c : Cmd)
  /-- FLUSH_PERIOD (R476). -/
  | flushPeriod
  /-- ALARM_FLUSH (R476). -/
  | alarmFlush
  /-- FLUSH (R476). -/
  | recFlush (c : Cmd)
  /-- FLUSH_DONE (R474). -/
  | flushDone
  /-- RECORDER_CLEAR (R479). -/
  | recorderClear (session : Nat) (req : List Byte)
  /-- REC_CLR_NONCE (R479). -/
  | recClrNonce (session : Nat)
  /-- RECORDER_EXPORT (R480). -/
  | recorderExport (session : Nat) (a : Word) (b : Word)
  /-- REC_RD_W0 (R478). -/
  | recRdW0
  /-- DPY_REQ (R491). -/
  | dpyReq (c : Cmd) (buf : List Byte)
  /-- PHASE_FRAME (R484). -/
  | phaseFrame (temp : Int) (t : Nat)
  /-- REDRAW (R500). -/
  | dpyRedraw (c : Cmd)
  /-- DPY_CLR_CNT (R500). -/
  | dpyClrCnt (c : Cmd)
  /-- LEVER_UNLATCH (R508). -/
  | leverUnlatch (t : Nat)
  /-- UNCONTROLLED_REMOVAL (R509). -/
  | uncontrolledRemoval (t : Nat)
  /-- FEED_CHANGE (R510). -/
  | feedChange (n : Nat) (ok : Bool) (t : Nat)
  /-- POWER_FAIL_WARNING (R511). -/
  | powerFailWarning (t : Nat)
  /-- HOLD_UP_END (R511). -/
  | holdUpEnd (t : Nat)
  /-- TEMP_SAMPLE (R523). -/
  | tempSample (vs : List Int) (t : Nat)
  /-- CRIT_COOLDOWN_END (R526). -/
  | critCooldownEnd (t : Nat)
  /-- THERMAL_TRIP (R527). -/
  | thermalTrip (t : Nat)
  /-- VOLTAGE_SAMPLE (R528). -/
  | voltageSample (mvs : List Nat) (t : Nat)
  /-- PROCESS_MONITOR (R529). -/
  | processMonitor (norm : List Nat) (t : Nat)
  /-- TREND_DAY (R530). -/
  | trendDay (t : Nat)
  /-- I2C_READ (R532). -/
  | i2cRead (ptr : Nat)
  /-- DEV_CLR_CNT (R535). -/
  | devClrCnt (c : Cmd)
  /-- MON_CLR_PEAK (R536). -/
  | monClrPeak (c : Cmd)
  /-- FRM_SEC_LO (R61). -/
  | frmSecLo
  /-- FRM_FNUM_LO (R61). -/
  | frmFnumLo
  /-- SIG_DIR_LO (R62). -/
  | sigDirLo
  /-- SIG_VAL (R62). -/
  | sigVal
  /-- FBX_RET_GEN_LO (R141). -/
  | fbxRetGenLo
  /-- SVI_CH_VAL (R160). -/
  | sviChVal
  /-- PE_OUT_VAL (R200). -/
  | peOutVal (e : Nat)
  /-- PAIR_ROLE_SINCE_LO (R249). -/
  | pairRoleSinceLo
  /-- PAIR_HM_LO (R277). -/
  | pairHmLo
  /-- CHN_NODE_SERLO (R330). -/
  | chnNodeSerlo
  /-- CHN_STR_SERLO (R330). -/
  | chnStrSerlo
  /-- TIM_NOW_SLO (R397). -/
  | timNowSlo
  /-- TIM_MONO_LO (R397). -/
  | timMonoLo
  /-- TIM_PTP_GM_LO (R397). -/
  | timPtpGmLo
  /-- UPD_CFG_GEN_LO (R453). -/
  | updCfgGenLo
  /-- UPD_DIE_LO (R453). -/
  | updDieLo
  /-- ACC_VIOL_ADDR_LO (R467). -/
  | accViolAddrLo
  /-- DEV_SER_LO (R535). -/
  | devSerLo
  /-- DEV_UPTIME_LO (R535). -/
  | devUptimeLo
  /-- SAFE_STATE_RESTART (R284). -/
  | safeStateRestart (t : Nat)
  /-- RETAINED_WRITE_DONE (R129). -/
  | retainedWriteDone (copyB : Bool)
  /-- SLOTMEM_WRITE_DONE (R426). -/
  | slotmemWriteDone (t : Nat)
  /-- STRAPS_CHANGED (R513). -/
  | strapsChanged (side : Bool) (sideN : Bool) (cid : Nat) (t : Nat)
  /-- ETH_LINK_CHANGE (R416). -/
  | ethLinkChange (port : Nat) (up : Bool) (speed : Nat) (t : Nat)
  /-- IRIG_FRAME_MISSING (R389). -/
  | irigFrameMissing (t : Nat)
  /-- PDELAY_RESP (R378). -/
  | pdelayResp (i : Nat) (lan : Bool) (dly : Nat) (t : Nat)
  /-- CHAIN_REQUEST_HEARD (R325). -/
  | chainRequestHeard (p : Nat) (addr : Nat) (epoch : Nat) (cmd : Nat) (fnum : Nat) (len : Nat) (t : Nat)
  /-- CAN_BUS_ERROR (R358). -/
  | canBusError (c : Nat) (dominant : Bool) (t : Nat)
  /-- CAN_ARBITRATION_START (R368). -/
  | canArbitrationStart (c : Nat) (n : Nat) (t : Nat)
  /-- LEVER_LATCH (R242). -/
  | leverLatch (t : Nat)
deriving DecidableEq, Repr

end Sys2Proof
end

