-- ==== Sys2Proof/Config.lean ====
section
/-! DEFINITION. What the spec leaves open: constants with no body. Nothing in Lean can evaluate them, so a claim about
the model holds whatever they are. A function of a Nat is applied to the counter State.freeN where the value is fresh each
time, and to the operands named where the value is fixed by them. -/

namespace Sys2Proof.Config

/-- A record parameter that no chapter states: the parameter number i of the record drawn with counter n (R470). -/
opaque recParam : Nat → Nat → Word
/-- The severity of a record whose chapter states none (R469). -/
opaque recSev : Nat → Fin 4
/-- The event byte of an event with no status bit: block, and the event by its number in the model (R470). -/
opaque recByte : Nat → Nat → Fin 128
/-- Whether firmware detects the event of this code, so that its record is COARSE (R472). -/
opaque recCoarse : Nat → Bool
/-- A value the spec does not state, 32 bits wide, fresh by its counter. -/
opaque freeWord : Nat → Word
/-- A value the spec does not state, 64 bits wide, fresh by its counter. -/
opaque freeDWord : Nat → DWord
/-- Entries of the commit buffer in use at a release, less one (R99: at most 4). -/
opaque cbufUse : Nat → Fin 4
/-- The header bits 40:0 of a LOST item (R136), whose INDEX and timestamp no rule states. -/
opaque lostHeader : Nat → Fin (2 ^ 41)
/-- The info word bits 47:0 of a LOST item. -/
opaque lostInfo : Nat → Fin (2 ^ 48)
/-- A CRC-32C whose byte layout no rule states: which one, and the numbers it covers. -/
opaque openCrc : Nat → List Nat → Word
/-- The quality word of a value whose source gives none: the number names the kind of value. -/
opaque sideQual : Nat → Qual
/-- A signature verifies: the key (a certificate, anchor or key slot number), the bytes signed and the signature. -/
opaque sigValid : Nat → List Byte → List Byte → Bool
/-- The Ed25519 signature of bytes by a key of the module (1: the identity key of R449). -/
opaque sign : Nat → List Byte → List Byte
/-- SHA-512 of bytes, 64 bytes. -/
opaque sha512 : List Byte → List Byte
/-- The code list of a firmware version (R480). -/
opaque codeList : Nat → List Byte
/-- The nominal voltage of a rail in mV (R528 states windows in per cent only). -/
opaque railNominal : Nat → Nat
/-- The warning threshold of the internal bus in mV (R511). -/
opaque busThreshold : Nat → Nat
/-- How an inexact quotient rounds where no rule says (true: up): by the counter. -/
opaque roundUp : Nat → Bool
/-- The text of a capture's .cfg file, from the facts that R195 names. -/
opaque cfgFile : List Nat → List Byte
/-- The real functions of the element arithmetic, as the engines round them to binary32: each of a fraction n / d. R176–R181
name the functions and no rounding. -/
opaque sqrtF : Int → Nat → Word
opaque cosDeg : Int → Nat → Word
opaque sinDeg : Int → Nat → Word
/-- The angle in degrees of the vector whose real part is x / d and imaginary part y / e. -/
opaque atanDeg : (Int × Nat) → (Int × Nat) → Word
/-- A fraction to the power 0.02 (the SI curve of R180). -/
opaque pow002 : Int → Nat → Word
/-- An element output whose value no rule states: the output, and the counter. -/
opaque peOpen : Nat → Nat → Word
/-- The levels of a row of the status band, and of a row of the final page, from what they show (R495, R496): the facts and the
row. No rule draws a page. -/
opaque bandRow : List Nat → Nat → List Nat
opaque finalRow : List Nat → Nat → List Nat

end Sys2Proof.Config
end

