-- ==== Sys2Proof/Machine/Bits.lean ====
section
/-! DEFINITION. Bit fields, byte order and the two check codes of R14. -/

namespace Sys2Proof.Machine

/-- Bits hi:lo of a number. -/
def bitsOf (w hi lo : Nat) : Nat := (w / 2 ^ lo) % 2 ^ (hi + 1 - lo)

/-- Bit i of a number. -/
def bitOf (w i : Nat) : Bool := (w / 2 ^ i) % 2 == 1

/-- Field hi:lo of a bit vector, as a number. -/
def field {n : Nat} (w : BitVec n) (hi lo : Nat) : Nat := bitsOf w.toNat hi lo

/-- Bit i of a bit vector. -/
def flag {n : Nat} (w : BitVec n) (i : Nat) : Bool := w.getLsbD i

/-- The mask of the bits hi:lo of a 32-bit word. -/
def maskOf (hi lo : Nat) : Word := BitVec.ofNat 32 ((2 ^ (hi + 1 - lo) - 1) * 2 ^ lo)

/-- A 32-bit word with field hi:lo replaced by v. -/
def putField (w : Word) (hi lo v : Nat) : Word :=
  (w &&& ~~~ (maskOf hi lo)) ||| (BitVec.ofNat 32 (v % 2 ^ (hi + 1 - lo) * 2 ^ lo))

/-- A 32-bit word with bit i replaced by b. -/
def putFlag (w : Word) (i : Nat) (b : Bool) : Word := putField w i i (if b then 1 else 0)

/-- A number as a 32-bit word. -/
def w32 (n : Nat) : Word := BitVec.ofNat 32 n

/-- A signed number as a 32-bit two's complement word. -/
def i32 (n : Int) : Word := BitVec.ofInt 32 n

/-- One at bit i when b holds. -/
def bit1 (b : Bool) (i : Nat) : Nat := if b then 2 ^ i else 0

/-- n bytes of a number, least significant first. -/
def leBytes : Nat → Nat → List Byte
  | 0, _ => []
  | k + 1, v => BitVec.ofNat 8 v :: leBytes k (v / 256)

/-- A number from bytes, least significant first. -/
def ofLeBytes : List Byte → Nat
  | [] => 0
  | b :: bs => b.toNat + 256 * ofLeBytes bs

/-- A little-endian number in a byte string. -/
def leAt (bs : List Byte) (off n : Nat) : Nat := ofLeBytes ((bs.drop off).take n)

/-- n bytes of a number, most significant first. -/
def beBytes (n v : Nat) : List Byte := (leBytes n v).reverse

/-- A number from bytes, most significant first. -/
def ofBeBytes (bs : List Byte) : Nat := ofLeBytes bs.reverse

/-- One bit step of the reflected CRC-32C register. -/
def crc32cBit (c : Word) : Word :=
  if c.getLsbD 0 then (c >>> 1) ^^^ 0x82F63B78#32 else c >>> 1

/-- k bit steps. -/
def crc32cBits : Nat → Word → Word
  | 0, c => c
  | k + 1, c => crc32cBits k (crc32cBit c)

/-- CRC-32C (R14): polynomial 0x1EDC_6F41, reflected, initial value and final XOR 0xFFFF_FFFF. -/
def crc32c (bs : List Byte) : Word :=
  (bs.foldl (fun c b => crc32cBits 8 (c ^^^ b.zeroExtend 32)) 0xFFFFFFFF#32) ^^^ 0xFFFFFFFF#32

/-- One bit step of the CRC-64 register. -/
def crc64Bit (c : DWord) : DWord :=
  if c.getLsbD 63 then (c <<< 1) ^^^ 0x42F0E1EBA9EA3693#64 else c <<< 1

/-- k bit steps. -/
def crc64Bits : Nat → DWord → DWord
  | 0, c => c
  | k + 1, c => crc64Bits k (crc64Bit c)

/-- CRC-64/ECMA-182 (R14): not reflected, initial value 0, final XOR 0. -/
def crc64 (bs : List Byte) : DWord :=
  bs.foldl (fun c b => crc64Bits 8 (c ^^^ ((b.zeroExtend 64 : DWord) <<< (56 : Nat)))) 0#64

/-- The product of two residues of the CRC-64 polynomial. -/
def crc64Mul (a b : DWord) : DWord :=
  (List.range 64).foldl (fun r i => crc64Bit r ^^^ (if a.getLsbD (63 - i) then b else 0#64)) 0#64

/-- What n zero bytes multiply the register by: x^(8n) modulo the polynomial, over the k low binary digits of n. -/
def crc64Shift : Nat → Nat → DWord
  | 0, _ => 1#64
  | k + 1, n =>
    let h := crc64Shift k (n / 2)
    if n % 2 = 1 then crc64Bits 8 (crc64Mul h h) else crc64Mul h h

/-- CRC-64 of a message of `len` bytes that are zero but for pieces at byte offsets. The register starts at zero and
the code is not reflected, so the CRC is the XOR of each piece's own, shifted by the bytes that follow it (R14). -/
def crc64Pieces (len : Nat) (ps : List (Nat × List Byte)) : DWord :=
  ps.foldl (fun c p => c ^^^ crc64Mul (crc64 p.2) (crc64Shift 24 (len - (p.1 + p.2.length)))) 0#64

/-- The bytes of a list of 32-bit words, little-endian. -/
def wordBytes (ws : List Word) : List Byte := ws.flatMap fun w => leBytes 4 w.toNat

/-- The bytes of a list of 64-bit words, little-endian. -/
def dwordBytes (ws : List DWord) : List Byte := ws.flatMap fun w => leBytes 8 w.toNat

/-- The bytes of an ASCII text. -/
def textBytes (t : String) : List Byte := t.toList.map fun c => BitVec.ofNat 8 c.toNat

end Sys2Proof.Machine
end

