-- ==== Sys2Proof/Machine/RegMap.lean ====
section
/-! DEFINITION. The register map (R6, R537): every assigned register with its access code (R9), its writable and
write-1-to-clear bits and its reset value, one list for each block, from the register tables of the chapters. -/

namespace Sys2Proof.Machine

/-- The access codes of R9. -/
inductive Access where
  | ro | rw | wo | w1c | w1s | rl | rwb
deriving DecidableEq, Repr

/-- One row of a register table: n registers 4 bytes apart from base, in cnt copies stride bytes apart. rw and w1c are
the bits a write changes or clears; reset is the Reset column. -/
structure RegRow where
  base : Nat
  n : Nat
  stride : Nat
  cnt : Nat
  access : Access
  rw : Word
  w1c : Word
  reset : Word
deriving DecidableEq, Repr

/-- The row names the address. -/
def RegRow.holds (r : RegRow) (a : Nat) : Bool :=
  let o := a - r.base
  let c := if r.stride = 0 then 0 else o / r.stride
  let i := if r.stride = 0 then o else o % r.stride
  decide (r.base ≤ a) && decide (c < r.cnt) && decide (i / 4 < r.n) && decide (i % 4 = 0)

/-- The registers of block DEV. -/
def regsDEV : List RegRow := [
  ⟨0x40000000, 1, 0x0, 1, .ro, 0x0, 0x0, 0x10000⟩,
  ⟨0x40000004, 1, 0x0, 1, .ro, 0x0, 0x0, 0x70001⟩,
  ⟨0x40000008, 1, 0x0, 1, .ro, 0x0, 0x0, 0x0⟩,
  ⟨0x4000000C, 1, 0x0, 1, .wo, 0x0, 0x0, 0x0⟩,
  ⟨0x40000010, 1, 0x0, 1, .w1c, 0x0, 0x6, 0x0⟩,
  ⟨0x40000014, 1, 0x0, 1, .rw, 0x6, 0x0, 0x0⟩,
  ⟨0x40000018, 1, 0x0, 1, .ro, 0x0, 0x0, 0x0⟩,
  ⟨0x4000001C, 1, 0x0, 1, .rl, 0x0, 0x0, 0x0⟩,
  ⟨0x40000020, 1, 0x0, 1, .ro, 0x0, 0x0, 0x0⟩,
  ⟨0x40000024, 1, 0x0, 1, .ro, 0x0, 0x0, 0x0⟩,
  ⟨0x40000028, 1, 0x0, 1, .ro, 0x0, 0x0, 0x0⟩,
  ⟨0x4000002C, 1, 0x0, 1, .ro, 0x0, 0x0, 0x10040080⟩,
  ⟨0x40000030, 1, 0x0, 1, .ro, 0x0, 0x0, 0x0⟩,
  ⟨0x40000034, 1, 0x0, 1, .ro, 0x0, 0x0, 0x0⟩,
  ⟨0x40000038, 1, 0x0, 1, .ro, 0x0, 0x0, 0x0⟩,
  ⟨0x4000003C, 1, 0x0, 1, .ro, 0x0, 0x0, 0x0⟩,
  ⟨0x40000040, 1, 0x0, 1, .ro, 0x0, 0x0, 0x0⟩,
  ⟨0x40000044, 1, 0x0, 1, .rl, 0x0, 0x0, 0x0⟩,
  ⟨0x40000048, 1, 0x0, 1, .ro, 0x0, 0x0, 0x0⟩,
  ⟨0x4000004C, 1, 0x0, 1, .ro, 0x0, 0x0, 0x0⟩,
  ⟨0x40000050, 4, 0x0, 1, .ro, 0x0, 0x0, 0x0⟩]

/-- The registers of block FRM. -/
def regsFRM : List RegRow := [
  ⟨0x40010000, 1, 0x0, 1, .ro, 0x0, 0x0, 0x1020000⟩,
  ⟨0x40010004, 1, 0x0, 1, .ro, 0x0, 0x0, 0x0⟩,
  ⟨0x40010008, 1, 0x0, 1, .ro, 0x0, 0x0, 0x10000⟩,
  ⟨0x4001000C, 1, 0x0, 1, .rl, 0x0, 0x0, 0x0⟩,
  ⟨0x40010010, 1, 0x0, 1, .ro, 0x0, 0x0, 0x0⟩,
  ⟨0x40010014, 1, 0x0, 1, .ro, 0x0, 0x0, 0x0⟩,
  ⟨0x40010018, 1, 0x0, 1, .rl, 0x0, 0x0, 0x0⟩,
  ⟨0x4001001C, 1, 0x0, 1, .ro, 0x0, 0x0, 0x0⟩,
  ⟨0x40010020, 1, 0x0, 1, .ro, 0x0, 0x0, 0x0⟩,
  ⟨0x40010024, 1, 0x0, 1, .ro, 0x0, 0x0, 0x0⟩,
  ⟨0x40010028, 1, 0x0, 1, .w1c, 0x0, 0x7F, 0x0⟩,
  ⟨0x4001002C, 1, 0x0, 1, .rw, 0x7F, 0x0, 0x0⟩,
  ⟨0x40010030, 1, 0x0, 1, .ro, 0x0, 0x0, 0x0⟩,
  ⟨0x40010034, 1, 0x0, 1, .ro, 0x0, 0x0, 0x0⟩,
  ⟨0x40010038, 1, 0x0, 1, .rw, 0x3FF, 0x0, 0x0⟩,
  ⟨0x4001003C, 1, 0x0, 1, .ro, 0x0, 0x0, 0x0⟩,
  ⟨0x40010040, 1, 0x0, 1, .ro, 0x0, 0x0, 0x0⟩,
  ⟨0x40010044, 1, 0x0, 1, .ro, 0x0, 0x0, 0x0⟩,
  ⟨0x40010048, 1, 0x0, 1, .rw, 0x7F, 0x0, 0x0⟩,
  ⟨0x4001004C, 1, 0x0, 1, .ro, 0x0, 0x0, 0x2000000A⟩,
  ⟨0x40010050, 1, 0x0, 1, .ro, 0x0, 0x0, 0x0⟩,
  ⟨0x40010054, 1, 0x0, 1, .ro, 0x0, 0x0, 0x0⟩,
  ⟨0x40010058, 1, 0x0, 1, .ro, 0x0, 0x0, 0x80000000⟩,
  ⟨0x4001005C, 1, 0x0, 1, .wo, 0x0, 0x0, 0x0⟩,
  ⟨0x40010060, 12, 0x0, 1, .ro, 0x0, 0x0, 0x0⟩,
  ⟨0x40010090, 1, 0x0, 1, .ro, 0x0, 0x0, 0x18⟩,
  ⟨0x40010094, 1, 0x0, 1, .ro, 0x0, 0x0, 0x0⟩]

/-- The registers of block SIG. -/
def regsSIG : List RegRow := [
  ⟨0x40020000, 1, 0x0, 1, .ro, 0x0, 0x0, 0x2010000⟩,
  ⟨0x40020004, 1, 0x0, 1, .ro, 0x0, 0x0, 0x0⟩,
  ⟨0x40020008, 1, 0x0, 1, .ro, 0x0, 0x0, 0x0⟩,
  ⟨0x4002000C, 1, 0x0, 1, .ro, 0x0, 0x0, 0x0⟩,
  ⟨0x40020010, 1, 0x0, 1, .rw, 0x7FFFF, 0x0, 0x0⟩,
  ⟨0x40020014, 1, 0x0, 1, .rl, 0x0, 0x0, 0x0⟩,
  ⟨0x40020018, 1, 0x0, 1, .ro, 0x0, 0x0, 0x0⟩,
  ⟨0x4002001C, 1, 0x0, 1, .rl, 0x0, 0x0, 0x0⟩,
  ⟨0x40020020, 1, 0x0, 1, .ro, 0x0, 0x0, 0x0⟩,
  ⟨0x40020024, 1, 0x0, 1, .ro, 0x0, 0x0, 0x0⟩,
  ⟨0x40020028, 1, 0x0, 1, .w1c, 0x0, 0x3F, 0x0⟩,
  ⟨0x4002002C, 1, 0x0, 1, .rw, 0x3F, 0x0, 0x0⟩,
  ⟨0x40020030, 1, 0x0, 1, .ro, 0x0, 0x0, 0x0⟩,
  ⟨0x40020034, 1, 0x0, 1, .ro, 0x0, 0x0, 0x0⟩,
  ⟨0x40020038, 1, 0x0, 1, .ro, 0x0, 0x0, 0x0⟩,
  ⟨0x4002003C, 1, 0x0, 1, .ro, 0x0, 0x0, 0x0⟩,
  ⟨0x40020040, 1, 0x0, 1, .ro, 0x0, 0x0, 0x0⟩,
  ⟨0x40020044, 1, 0x0, 1, .ro, 0x0, 0x0, 0xE4⟩,
  ⟨0x40020048, 1, 0x0, 1, .ro, 0x0, 0x0, 0x0⟩,
  ⟨0x4002004C, 4, 0x0, 1, .rw, 0x8007FFFF, 0x0, 0x0⟩,
  ⟨0x4002005C, 1, 0x0, 1, .w1c, 0x0, 0xF, 0x0⟩]

/-- The registers of block LE. -/
def regsLE : List RegRow := [
  ⟨0x40030000, 1, 0x80, 8, .ro, 0x0, 0x0, 0x3010000⟩,
  ⟨0x40030004, 1, 0x80, 8, .ro, 0x0, 0x0, 0x0⟩,
  ⟨0x40030008, 1, 0x80, 8, .ro, 0x0, 0x0, 0x0⟩,
  ⟨0x4003000C, 1, 0x80, 8, .wo, 0x0, 0x0, 0x0⟩,
  ⟨0x40030010, 1, 0x80, 8, .w1c, 0x0, 0x7F, 0x0⟩,
  ⟨0x40030014, 1, 0x80, 8, .rw, 0x7F, 0x0, 0x0⟩,
  ⟨0x40030018, 1, 0x80, 8, .ro, 0x0, 0x0, 0x0⟩,
  ⟨0x4003001C, 1, 0x80, 8, .ro, 0x0, 0x0, 0x0⟩,
  ⟨0x40030020, 1, 0x80, 8, .rw, 0x1FF, 0x0, 0x0⟩,
  ⟨0x40030024, 1, 0x80, 8, .ro, 0x0, 0x0, 0x0⟩,
  ⟨0x40030028, 1, 0x80, 8, .ro, 0x0, 0x0, 0x0⟩,
  ⟨0x4003002C, 1, 0x80, 8, .ro, 0x0, 0x0, 0x0⟩,
  ⟨0x40030030, 1, 0x80, 8, .ro, 0x0, 0x0, 0x0⟩,
  ⟨0x40030034, 1, 0x80, 8, .ro, 0x0, 0x0, 0x0⟩,
  ⟨0x40030038, 1, 0x80, 8, .ro, 0x0, 0x0, 0x0⟩,
  ⟨0x4003003C, 1, 0x80, 8, .rw, 0xFFFF, 0x0, 0x0⟩,
  ⟨0x40030040, 1, 0x80, 8, .ro, 0x0, 0x0, 0x0⟩,
  ⟨0x40030044, 1, 0x80, 8, .rw, 0x1FFFF, 0x0, 0x0⟩,
  ⟨0x40030048, 1, 0x80, 8, .ro, 0x0, 0x0, 0x0⟩,
  ⟨0x4003004C, 1, 0x80, 8, .ro, 0x0, 0x0, 0x0⟩,
  ⟨0x40030050, 1, 0x80, 8, .ro, 0x0, 0x0, 0x0⟩,
  ⟨0x40030054, 1, 0x80, 8, .ro, 0x0, 0x0, 0x0⟩,
  ⟨0x40030058, 1, 0x80, 8, .ro, 0x0, 0x0, 0x0⟩,
  ⟨0x4003005C, 1, 0x80, 8, .ro, 0x0, 0x0, 0x0⟩,
  ⟨0x40030060, 1, 0x80, 8, .ro, 0x0, 0x0, 0x0⟩,
  ⟨0x40030064, 1, 0x80, 8, .ro, 0x0, 0x0, 0x0⟩,
  ⟨0x40030068, 1, 0x80, 8, .ro, 0x0, 0x0, 0x0⟩,
  ⟨0x4003006C, 1, 0x80, 8, .ro, 0x0, 0x0, 0x0⟩,
  ⟨0x40030070, 1, 0x80, 8, .wo, 0x0, 0x0, 0x0⟩,
  ⟨0x40030074, 1, 0x80, 8, .rw, 0x81C00000, 0x0, 0x0⟩,
  ⟨0x40030078, 1, 0x80, 8, .rw, 0xC001FFFF, 0x0, 0x0⟩,
  ⟨0x4003007C, 1, 0x80, 8, .wo, 0x0, 0x0, 0x0⟩]

/-- The registers of block FBX. -/
def regsFBX : List RegRow := [
  ⟨0x40040000, 1, 0x0, 1, .ro, 0x0, 0x0, 0x4010000⟩,
  ⟨0x40040004, 1, 0x0, 1, .ro, 0x0, 0x0, 0xE4⟩,
  ⟨0x40040008, 1, 0x0, 1, .ro, 0x0, 0x0, 0x0⟩,
  ⟨0x4004000C, 1, 0x0, 1, .wo, 0x0, 0x0, 0x0⟩,
  ⟨0x40040010, 1, 0x0, 1, .w1c, 0x0, 0x7F, 0x0⟩,
  ⟨0x40040014, 1, 0x0, 1, .rw, 0x7F, 0x0, 0x0⟩,
  ⟨0x40040018, 1, 0x0, 1, .rl, 0x0, 0x0, 0x0⟩,
  ⟨0x4004001C, 1, 0x0, 1, .ro, 0x0, 0x0, 0x0⟩,
  ⟨0x40040020, 1, 0x0, 1, .ro, 0x0, 0x0, 0x0⟩,
  ⟨0x40040024, 1, 0x0, 1, .ro, 0x0, 0x0, 0x0⟩,
  ⟨0x40040028, 1, 0x0, 1, .ro, 0x0, 0x0, 0x0⟩,
  ⟨0x4004002C, 1, 0x0, 1, .ro, 0x0, 0x0, 0x0⟩,
  ⟨0x40040030, 1, 0x0, 1, .ro, 0x0, 0x0, 0x0⟩,
  ⟨0x40040034, 1, 0x0, 1, .ro, 0x0, 0x0, 0x0⟩,
  ⟨0x40040038, 1, 0x0, 1, .rw, 0x3FF, 0x0, 0x0⟩,
  ⟨0x4004003C, 1, 0x0, 1, .ro, 0x0, 0x0, 0x0⟩,
  ⟨0x40040040, 1, 0x0, 1, .rw, 0x7F, 0x0, 0x0⟩,
  ⟨0x40040044, 1, 0x0, 1, .ro, 0x0, 0x0, 0x0⟩,
  ⟨0x40040048, 1, 0x0, 1, .ro, 0x0, 0x0, 0x0⟩,
  ⟨0x4004004C, 1, 0x0, 1, .ro, 0x0, 0x0, 0x0⟩,
  ⟨0x40040050, 4, 0x0, 1, .ro, 0x0, 0x0, 0x0⟩,
  ⟨0x40040060, 4, 0x0, 1, .ro, 0x0, 0x0, 0x0⟩,
  ⟨0x40040070, 4, 0x0, 1, .ro, 0x0, 0x0, 0x0⟩,
  ⟨0x40040080, 4, 0x0, 1, .ro, 0x0, 0x0, 0x0⟩,
  ⟨0x40040090, 4, 0x0, 1, .ro, 0x0, 0x0, 0x0⟩]

/-- The registers of block PE. -/
def regsPE : List RegRow := [
  ⟨0x40050000, 1, 0x80, 6, .ro, 0x0, 0x0, 0x5010000⟩,
  ⟨0x40050004, 1, 0x80, 6, .ro, 0x0, 0x0, 0x0⟩,
  ⟨0x40050008, 1, 0x80, 6, .ro, 0x0, 0x0, 0x0⟩,
  ⟨0x4005000C, 1, 0x80, 6, .wo, 0x0, 0x0, 0x0⟩,
  ⟨0x40050010, 1, 0x80, 6, .w1c, 0x0, 0xFF, 0x0⟩,
  ⟨0x40050014, 1, 0x80, 6, .rw, 0xFF, 0x0, 0x0⟩,
  ⟨0x40050018, 1, 0x80, 6, .ro, 0x0, 0x0, 0x0⟩,
  ⟨0x4005001C, 1, 0x80, 6, .ro, 0x0, 0x0, 0x0⟩,
  ⟨0x40050020, 1, 0x80, 6, .ro, 0x0, 0x0, 0x0⟩,
  ⟨0x40050024, 1, 0x80, 6, .ro, 0x0, 0x0, 0x0⟩,
  ⟨0x40050028, 1, 0x80, 6, .ro, 0x0, 0x0, 0x0⟩,
  ⟨0x4005002C, 1, 0x80, 6, .rw, 0x3FF, 0x0, 0x0⟩,
  ⟨0x40050030, 1, 0x80, 6, .ro, 0x0, 0x0, 0x0⟩,
  ⟨0x40050034, 1, 0x80, 6, .ro, 0x0, 0x0, 0x0⟩,
  ⟨0x40050038, 1, 0x80, 6, .ro, 0x0, 0x0, 0x0⟩,
  ⟨0x4005003C, 1, 0x80, 6, .rw, 0xF, 0x0, 0x0⟩,
  ⟨0x40050040, 1, 0x80, 6, .ro, 0x0, 0x0, 0x0⟩,
  ⟨0x40050044, 1, 0x80, 6, .rw, 0x7F, 0x0, 0x0⟩,
  ⟨0x40050048, 1, 0x80, 6, .rl, 0x0, 0x0, 0x0⟩,
  ⟨0x4005004C, 1, 0x80, 6, .ro, 0x0, 0x0, 0x0⟩,
  ⟨0x40050050, 1, 0x80, 6, .rw, 0x7F, 0x0, 0x0⟩,
  ⟨0x40050054, 1, 0x80, 6, .ro, 0x0, 0x0, 0x0⟩,
  ⟨0x40050058, 1, 0x80, 6, .ro, 0x0, 0x0, 0x0⟩,
  ⟨0x4005005C, 1, 0x80, 6, .ro, 0x0, 0x0, 0x0⟩]

/-- The registers of block SVI. -/
def regsSVI : List RegRow := [
  ⟨0x40060000, 1, 0x0, 1, .ro, 0x0, 0x0, 0x6010000⟩,
  ⟨0x40060004, 1, 0x0, 1, .ro, 0x0, 0x0, 0x100⟩,
  ⟨0x40060008, 1, 0x0, 1, .ro, 0x0, 0x0, 0x0⟩,
  ⟨0x4006000C, 1, 0x0, 1, .wo, 0x0, 0x0, 0x0⟩,
  ⟨0x40060010, 1, 0x0, 1, .w1c, 0x0, 0x3F, 0x0⟩,
  ⟨0x40060014, 1, 0x0, 1, .rw, 0x3F, 0x0, 0x0⟩,
  ⟨0x40060018, 1, 0x0, 1, .ro, 0x0, 0x0, 0x0⟩,
  ⟨0x4006001C, 1, 0x0, 1, .ro, 0x0, 0x0, 0x0⟩,
  ⟨0x40060020, 1, 0x0, 1, .ro, 0x0, 0x0, 0x0⟩,
  ⟨0x40060024, 8, 0x0, 1, .ro, 0x0, 0x0, 0x0⟩,
  ⟨0x40060044, 1, 0x0, 1, .ro, 0x0, 0x0, 0x0⟩,
  ⟨0x40060048, 1, 0x0, 1, .rw, 0xFF, 0x0, 0x0⟩,
  ⟨0x4006004C, 1, 0x0, 1, .ro, 0x0, 0x0, 0x202800⟩,
  ⟨0x40060050, 1, 0x0, 1, .ro, 0x0, 0x0, 0x0⟩,
  ⟨0x40060054, 1, 0x0, 1, .ro, 0x0, 0x0, 0x0⟩,
  ⟨0x40060058, 1, 0x0, 1, .ro, 0x0, 0x0, 0x0⟩,
  ⟨0x4006005C, 1, 0x0, 1, .ro, 0x0, 0x0, 0x0⟩,
  ⟨0x40060060, 1, 0x0, 1, .ro, 0x0, 0x0, 0x0⟩,
  ⟨0x40060064, 1, 0x0, 1, .ro, 0x0, 0x0, 0x0⟩,
  ⟨0x40060068, 1, 0x0, 1, .ro, 0x0, 0x0, 0x0⟩,
  ⟨0x4006006C, 1, 0x0, 1, .ro, 0x0, 0x0, 0x0⟩,
  ⟨0x40060070, 1, 0x0, 1, .ro, 0x0, 0x0, 0x0⟩,
  ⟨0x40060074, 1, 0x0, 1, .ro, 0x0, 0x0, 0x0⟩,
  ⟨0x40060078, 1, 0x0, 1, .ro, 0x0, 0x0, 0x0⟩,
  ⟨0x4006007C, 1, 0x0, 1, .ro, 0x0, 0x0, 0x0⟩,
  ⟨0x40060080, 1, 0x0, 1, .ro, 0x0, 0x0, 0x0⟩,
  ⟨0x40060084, 1, 0x0, 1, .ro, 0x0, 0x0, 0x0⟩,
  ⟨0x40060088, 1, 0x0, 1, .rw, 0x7, 0x0, 0x0⟩,
  ⟨0x4006008C, 1, 0x0, 1, .rl, 0x0, 0x0, 0x0⟩,
  ⟨0x40060090, 1, 0x0, 1, .ro, 0x0, 0x0, 0x0⟩,
  ⟨0x40060094, 1, 0x0, 1, .ro, 0x0, 0x0, 0x0⟩]

/-- The registers of block PAIR. -/
def regsPAIR : List RegRow := [
  ⟨0x40070000, 1, 0x0, 1, .ro, 0x0, 0x0, 0x7010000⟩,
  ⟨0x40070004, 1, 0x0, 1, .ro, 0x0, 0x0, 0x0⟩,
  ⟨0x40070008, 1, 0x0, 1, .ro, 0x0, 0x0, 0x1C000000⟩,
  ⟨0x4007000C, 1, 0x0, 1, .wo, 0x0, 0x0, 0x0⟩,
  ⟨0x40070010, 1, 0x0, 1, .w1c, 0x0, 0x3FF, 0x0⟩,
  ⟨0x40070014, 1, 0x0, 1, .rw, 0x3FF, 0x0, 0x0⟩,
  ⟨0x40070018, 1, 0x0, 1, .ro, 0x0, 0x0, 0x0⟩,
  ⟨0x4007001C, 1, 0x0, 1, .rl, 0x0, 0x0, 0x0⟩,
  ⟨0x40070020, 1, 0x0, 1, .ro, 0x0, 0x0, 0x0⟩,
  ⟨0x40070024, 1, 0x0, 1, .ro, 0x0, 0x0, 0x0⟩,
  ⟨0x40070028, 1, 0x0, 1, .ro, 0x0, 0x0, 0x0⟩,
  ⟨0x4007002C, 1, 0x0, 1, .ro, 0x0, 0x0, 0x0⟩,
  ⟨0x40070030, 1, 0x0, 1, .ro, 0x0, 0x0, 0x0⟩,
  ⟨0x40070034, 1, 0x0, 1, .ro, 0x0, 0x0, 0x0⟩,
  ⟨0x40070060, 1, 0x0, 1, .w1c, 0x0, 0x1FF, 0x0⟩,
  ⟨0x40070064, 1, 0x0, 1, .rw, 0x1FF, 0x0, 0x0⟩,
  ⟨0x40070068, 1, 0x0, 1, .ro, 0x0, 0x0, 0x0⟩,
  ⟨0x4007006C, 1, 0x0, 1, .ro, 0x0, 0x0, 0x0⟩,
  ⟨0x40070070, 1, 0x0, 1, .ro, 0x0, 0x0, 0x0⟩,
  ⟨0x40070074, 1, 0x0, 1, .ro, 0x0, 0x0, 0x0⟩,
  ⟨0x40070078, 1, 0x0, 1, .ro, 0x0, 0x0, 0x0⟩,
  ⟨0x4007007C, 1, 0x0, 1, .ro, 0x0, 0x0, 0x0⟩,
  ⟨0x40070080, 4, 0x0, 1, .ro, 0x0, 0x0, 0x0⟩,
  ⟨0x40070090, 4, 0x0, 1, .ro, 0x0, 0x0, 0x0⟩,
  ⟨0x400700A0, 1, 0x0, 1, .ro, 0x0, 0x0, 0x0⟩,
  ⟨0x400700A4, 1, 0x0, 1, .rl, 0x0, 0x0, 0x0⟩,
  ⟨0x400700A8, 1, 0x0, 1, .ro, 0x0, 0x0, 0x0⟩,
  ⟨0x400700AC, 1, 0x0, 1, .ro, 0x0, 0x0, 0x0⟩,
  ⟨0x400700B0, 1, 0x0, 1, .ro, 0x0, 0x0, 0x0⟩,
  ⟨0x400700B4, 1, 0x0, 1, .ro, 0x0, 0x0, 0x0⟩,
  ⟨0x400700B8, 1, 0x0, 1, .ro, 0x0, 0x0, 0x0⟩,
  ⟨0x400700BC, 1, 0x0, 1, .ro, 0x0, 0x0, 0x0⟩,
  ⟨0x400700C0, 1, 0x0, 1, .ro, 0x0, 0x0, 0x0⟩,
  ⟨0x400700C4, 1, 0x0, 1, .ro, 0x0, 0x0, 0x0⟩]

/-- The registers of block SAF. -/
def regsSAF : List RegRow := [
  ⟨0x40080000, 1, 0x0, 1, .ro, 0x0, 0x0, 0x8010000⟩,
  ⟨0x40080004, 1, 0x0, 1, .ro, 0x0, 0x0, 0x0⟩,
  ⟨0x40080008, 1, 0x0, 1, .ro, 0x0, 0x0, 0x0⟩,
  ⟨0x4008000C, 1, 0x0, 1, .wo, 0x0, 0x0, 0x0⟩,
  ⟨0x40080010, 1, 0x0, 1, .w1c, 0x0, 0x7F, 0x0⟩,
  ⟨0x40080014, 1, 0x0, 1, .rw, 0x7F, 0x0, 0x0⟩,
  ⟨0x40080018, 1, 0x0, 1, .ro, 0x0, 0x0, 0x0⟩,
  ⟨0x4008001C, 1, 0x0, 1, .ro, 0x0, 0x0, 0x0⟩,
  ⟨0x40080020, 1, 0x0, 1, .ro, 0x0, 0x0, 0x0⟩,
  ⟨0x40080024, 1, 0x0, 1, .wo, 0x0, 0x0, 0x0⟩,
  ⟨0x40080028, 1, 0x0, 1, .ro, 0x0, 0x0, 0x0⟩,
  ⟨0x4008002C, 1, 0x0, 1, .ro, 0x0, 0x0, 0x0⟩,
  ⟨0x40080030, 1, 0x0, 1, .ro, 0x0, 0x0, 0x0⟩,
  ⟨0x40080034, 4, 0x0, 1, .ro, 0x0, 0x0, 0x0⟩,
  ⟨0x40080044, 1, 0x0, 1, .ro, 0x0, 0x0, 0x0⟩,
  ⟨0x40080048, 1, 0x0, 1, .wo, 0x0, 0x0, 0x0⟩,
  ⟨0x4008004C, 1, 0x0, 1, .wo, 0x0, 0x0, 0x0⟩,
  ⟨0x40080050, 1, 0x0, 1, .ro, 0x0, 0x0, 0x0⟩,
  ⟨0x40080054, 1, 0x0, 1, .rw, 0x1FF, 0x0, 0x0⟩,
  ⟨0x40080058, 1, 0x0, 1, .ro, 0x0, 0x0, 0x0⟩,
  ⟨0x4008005C, 1, 0x0, 1, .ro, 0x0, 0x0, 0x0⟩,
  ⟨0x40080060, 1, 0x0, 1, .ro, 0x0, 0x0, 0x0⟩,
  ⟨0x40080064, 1, 0x0, 1, .rw, 0x3FF, 0x0, 0x0⟩,
  ⟨0x40080068, 1, 0x0, 1, .ro, 0x0, 0x0, 0x0⟩,
  ⟨0x4008006C, 1, 0x0, 1, .ro, 0x0, 0x0, 0x0⟩,
  ⟨0x40080070, 1, 0x0, 1, .ro, 0x0, 0x0, 0x80000000⟩,
  ⟨0x40080074, 1, 0x0, 1, .ro, 0x0, 0x0, 0x0⟩,
  ⟨0x40080078, 1, 0x0, 1, .ro, 0x0, 0x0, 0x0⟩,
  ⟨0x4008007C, 1, 0x0, 1, .wo, 0x0, 0x0, 0x0⟩,
  ⟨0x40080080, 1, 0x0, 1, .rw, 0x3F, 0x0, 0x0⟩,
  ⟨0x40080084, 1, 0x0, 1, .ro, 0x0, 0x0, 0x0⟩,
  ⟨0x40080088, 1, 0x0, 1, .ro, 0x0, 0x0, 0x0⟩,
  ⟨0x4008008C, 1, 0x0, 1, .ro, 0x0, 0x0, 0x0⟩]

/-- The registers of block ETH. -/
def regsETH : List RegRow := [
  ⟨0x40090000, 1, 0x0, 1, .ro, 0x0, 0x0, 0x9010000⟩,
  ⟨0x40090004, 1, 0x0, 1, .ro, 0x0, 0x0, 0x0⟩,
  ⟨0x40090008, 1, 0x0, 1, .wo, 0x0, 0x0, 0x0⟩,
  ⟨0x4009000C, 1, 0x0, 1, .w1c, 0x0, 0x1F, 0x0⟩,
  ⟨0x40090010, 1, 0x0, 1, .rw, 0x1F, 0x0, 0x0⟩,
  ⟨0x40090014, 1, 0x0, 1, .rw, 0x7, 0x0, 0x0⟩,
  ⟨0x40090018, 1, 0x0, 1, .ro, 0x0, 0x0, 0x0⟩,
  ⟨0x4009001C, 1, 0x0, 1, .ro, 0x0, 0x0, 0x0⟩,
  ⟨0x40090020, 1, 0x0, 1, .ro, 0x0, 0x0, 0x0⟩,
  ⟨0x40090024, 1, 0x0, 1, .ro, 0x0, 0x0, 0x0⟩,
  ⟨0x40090028, 1, 0x0, 1, .rw, 0x1, 0x0, 0x0⟩,
  ⟨0x4009002C, 1, 0x0, 1, .ro, 0x0, 0x0, 0x40000001⟩,
  ⟨0x40090030, 1, 0x0, 1, .ro, 0x0, 0x0, 0x0⟩,
  ⟨0x40090034, 1, 0x0, 1, .ro, 0x0, 0x0, 0x0⟩,
  ⟨0x40090038, 1, 0x0, 1, .ro, 0x0, 0x0, 0x0⟩,
  ⟨0x4009003C, 1, 0x0, 1, .ro, 0x0, 0x0, 0x0⟩,
  ⟨0x40090040, 1, 0x0, 1, .ro, 0x0, 0x0, 0x0⟩,
  ⟨0x40090044, 1, 0x0, 1, .ro, 0x0, 0x0, 0x0⟩,
  ⟨0x40090048, 1, 0x0, 1, .ro, 0x0, 0x0, 0x0⟩,
  ⟨0x4009004C, 1, 0x0, 1, .ro, 0x0, 0x0, 0x0⟩,
  ⟨0x40090050, 1, 0x0, 1, .ro, 0x0, 0x0, 0x0⟩,
  ⟨0x40090054, 1, 0x0, 1, .rw, 0xF, 0x0, 0x0⟩,
  ⟨0x40090058, 1, 0x0, 1, .ro, 0x0, 0x0, 0x0⟩,
  ⟨0x4009005C, 1, 0x0, 1, .rw, 0x7, 0x0, 0x0⟩,
  ⟨0x40090060, 1, 0x0, 1, .ro, 0x0, 0x0, 0x0⟩,
  ⟨0x40090064, 1, 0x0, 1, .ro, 0x0, 0x0, 0x0⟩,
  ⟨0x40090068, 1, 0x0, 1, .ro, 0x0, 0x0, 0x0⟩,
  ⟨0x4009006C, 1, 0x0, 1, .ro, 0x0, 0x0, 0x0⟩]

/-- The registers of block GSE. -/
def regsGSE : List RegRow := [
  ⟨0x400A0000, 1, 0x0, 1, .ro, 0x0, 0x0, 0xA010000⟩,
  ⟨0x400A0004, 1, 0x0, 1, .ro, 0x0, 0x0, 0x0⟩,
  ⟨0x400A0008, 1, 0x0, 1, .ro, 0x0, 0x0, 0x0⟩,
  ⟨0x400A000C, 1, 0x0, 1, .wo, 0x0, 0x0, 0x0⟩,
  ⟨0x400A0010, 1, 0x0, 1, .w1c, 0x0, 0xF, 0x0⟩,
  ⟨0x400A0014, 1, 0x0, 1, .rw, 0xF, 0x0, 0x0⟩,
  ⟨0x400A0018, 1, 0x0, 1, .rw, 0x7F, 0x0, 0x0⟩,
  ⟨0x400A001C, 1, 0x0, 1, .ro, 0x0, 0x0, 0x0⟩,
  ⟨0x400A0020, 1, 0x0, 1, .ro, 0x0, 0x0, 0x0⟩,
  ⟨0x400A0024, 1, 0x0, 1, .ro, 0x0, 0x0, 0x0⟩,
  ⟨0x400A0028, 1, 0x0, 1, .ro, 0x0, 0x0, 0x0⟩,
  ⟨0x400A002C, 1, 0x0, 1, .ro, 0x0, 0x0, 0x0⟩,
  ⟨0x400A0030, 1, 0x0, 1, .rw, 0x1FF, 0x0, 0x0⟩,
  ⟨0x400A0034, 1, 0x0, 1, .ro, 0x0, 0x0, 0x0⟩,
  ⟨0x400A0038, 1, 0x0, 1, .ro, 0x0, 0x0, 0x0⟩,
  ⟨0x400A003C, 1, 0x0, 1, .ro, 0x0, 0x0, 0x0⟩,
  ⟨0x400A0040, 1, 0x0, 1, .ro, 0x0, 0x0, 0x0⟩,
  ⟨0x400A0044, 1, 0x0, 1, .ro, 0x0, 0x0, 0x0⟩,
  ⟨0x400A0048, 1, 0x0, 1, .ro, 0x0, 0x0, 0x0⟩,
  ⟨0x400A004C, 1, 0x0, 1, .ro, 0x0, 0x0, 0x0⟩,
  ⟨0x400A0050, 16, 0x0, 1, .ro, 0x0, 0x0, 0x0⟩]

/-- The registers of block TIM. -/
def regsTIM : List RegRow := [
  ⟨0x400B0000, 1, 0x0, 1, .ro, 0x0, 0x0, 0xB010000⟩,
  ⟨0x400B0004, 1, 0x0, 1, .ro, 0x0, 0x0, 0xA03C⟩,
  ⟨0x400B0008, 1, 0x0, 1, .ro, 0x0, 0x0, 0x0⟩,
  ⟨0x400B000C, 1, 0x0, 1, .wo, 0x0, 0x0, 0x0⟩,
  ⟨0x400B0010, 1, 0x0, 1, .w1c, 0x0, 0x3F, 0x0⟩,
  ⟨0x400B0014, 1, 0x0, 1, .rw, 0x3F, 0x0, 0x0⟩,
  ⟨0x400B0018, 1, 0x0, 1, .rl, 0x0, 0x0, 0x0⟩,
  ⟨0x400B001C, 1, 0x0, 1, .ro, 0x0, 0x0, 0x0⟩,
  ⟨0x400B0020, 1, 0x0, 1, .ro, 0x0, 0x0, 0x0⟩,
  ⟨0x400B0024, 1, 0x0, 1, .rl, 0x0, 0x0, 0x0⟩,
  ⟨0x400B0028, 1, 0x0, 1, .ro, 0x0, 0x0, 0x0⟩,
  ⟨0x400B002C, 1, 0x0, 1, .ro, 0x0, 0x0, 0x0⟩,
  ⟨0x400B0030, 1, 0x0, 1, .ro, 0x0, 0x0, 0x0⟩,
  ⟨0x400B0034, 1, 0x0, 1, .ro, 0x0, 0x0, 0x0⟩,
  ⟨0x400B0038, 1, 0x0, 1, .ro, 0x0, 0x0, 0x0⟩,
  ⟨0x400B003C, 1, 0x0, 1, .ro, 0x0, 0x0, 0x0⟩,
  ⟨0x400B0040, 1, 0x0, 1, .ro, 0x0, 0x0, 0x0⟩,
  ⟨0x400B0044, 1, 0x0, 1, .ro, 0x0, 0x0, 0x0⟩,
  ⟨0x400B0048, 1, 0x0, 1, .rw, 0x1, 0x0, 0x0⟩,
  ⟨0x400B004C, 1, 0x0, 1, .ro, 0x0, 0x0, 0x3E800⟩,
  ⟨0x400B0050, 1, 0x0, 1, .ro, 0x0, 0x0, 0x0⟩,
  ⟨0x400B0054, 1, 0x0, 1, .ro, 0x0, 0x0, 0x0⟩,
  ⟨0x400B0058, 1, 0x0, 1, .ro, 0x0, 0x0, 0x0⟩,
  ⟨0x400B005C, 1, 0x0, 1, .rl, 0x0, 0x0, 0x0⟩,
  ⟨0x400B0060, 1, 0x0, 1, .ro, 0x0, 0x0, 0x0⟩,
  ⟨0x400B0064, 1, 0x0, 1, .ro, 0x0, 0x0, 0x0⟩,
  ⟨0x400B0068, 1, 0x0, 1, .ro, 0x0, 0x0, 0x0⟩,
  ⟨0x400B006C, 1, 0x0, 1, .ro, 0x0, 0x0, 0x0⟩,
  ⟨0x400B0070, 1, 0x0, 1, .ro, 0x0, 0x0, 0x0⟩,
  ⟨0x400B0074, 1, 0x0, 1, .ro, 0x0, 0x0, 0x0⟩,
  ⟨0x400B0078, 1, 0x0, 1, .ro, 0x0, 0x0, 0x0⟩,
  ⟨0x400B007C, 1, 0x0, 1, .rw, 0x3F, 0x0, 0x0⟩,
  ⟨0x400B0080, 1, 0x0, 1, .rw, 0xFC0001FF, 0x0, 0x0⟩,
  ⟨0x400B0084, 1, 0x0, 1, .ro, 0x0, 0x0, 0x0⟩,
  ⟨0x400B0088, 1, 0x0, 1, .rl, 0x0, 0x0, 0x0⟩,
  ⟨0x400B008C, 1, 0x0, 1, .ro, 0x0, 0x0, 0x0⟩,
  ⟨0x400B0090, 1, 0x0, 1, .ro, 0x0, 0x0, 0x0⟩,
  ⟨0x400B0094, 1, 0x0, 1, .ro, 0x0, 0x0, 0x0⟩]

/-- The registers of block CHN. -/
def regsCHN : List RegRow := [
  ⟨0x400C0000, 1, 0x0, 1, .ro, 0x0, 0x0, 0xC010000⟩,
  ⟨0x400C0004, 1, 0x0, 1, .ro, 0x0, 0x0, 0x0⟩,
  ⟨0x400C0008, 1, 0x0, 1, .ro, 0x0, 0x0, 0x0⟩,
  ⟨0x400C000C, 1, 0x0, 1, .wo, 0x0, 0x0, 0x0⟩,
  ⟨0x400C0010, 1, 0x0, 1, .w1c, 0x0, 0xFF, 0x0⟩,
  ⟨0x400C0014, 1, 0x0, 1, .rw, 0xFF, 0x0, 0x0⟩,
  ⟨0x400C0018, 1, 0x0, 1, .rw, 0x3, 0x0, 0x0⟩,
  ⟨0x400C001C, 1, 0x0, 1, .ro, 0x0, 0x0, 0x0⟩,
  ⟨0x400C0020, 1, 0x0, 1, .ro, 0x0, 0x0, 0x0⟩,
  ⟨0x400C0024, 1, 0x0, 1, .ro, 0x0, 0x0, 0x0⟩,
  ⟨0x400C0028, 1, 0x0, 1, .ro, 0x0, 0x0, 0x0⟩,
  ⟨0x400C002C, 1, 0x0, 1, .ro, 0x0, 0x0, 0x0⟩,
  ⟨0x400C0030, 1, 0x0, 1, .ro, 0x0, 0x0, 0x0⟩,
  ⟨0x400C0034, 1, 0x0, 1, .rw, 0x1FF, 0x0, 0x0⟩,
  ⟨0x400C0038, 1, 0x0, 1, .ro, 0x0, 0x0, 0x0⟩,
  ⟨0x400C003C, 1, 0x0, 1, .ro, 0x0, 0x0, 0x0⟩,
  ⟨0x400C0040, 1, 0x0, 1, .rw, 0x3F, 0x0, 0x0⟩,
  ⟨0x400C0044, 1, 0x0, 1, .ro, 0x0, 0x0, 0x0⟩,
  ⟨0x400C0048, 1, 0x0, 1, .ro, 0x0, 0x0, 0x30000030⟩,
  ⟨0x400C004C, 1, 0x0, 1, .rl, 0x0, 0x0, 0x0⟩,
  ⟨0x400C0050, 1, 0x0, 1, .ro, 0x0, 0x0, 0x0⟩,
  ⟨0x400C0054, 1, 0x0, 1, .ro, 0x0, 0x0, 0x0⟩,
  ⟨0x400C0058, 1, 0x0, 1, .ro, 0x0, 0x0, 0x0⟩,
  ⟨0x400C005C, 1, 0x0, 1, .ro, 0x0, 0x0, 0x0⟩,
  ⟨0x400C0060, 1, 0x0, 1, .ro, 0x0, 0x0, 0x0⟩,
  ⟨0x400C0064, 1, 0x0, 1, .rw, 0x7, 0x0, 0x0⟩,
  ⟨0x400C0068, 1, 0x0, 1, .ro, 0x0, 0x0, 0x0⟩,
  ⟨0x400C006C, 1, 0x0, 1, .ro, 0x0, 0x0, 0x0⟩,
  ⟨0x400C0070, 2, 0x0, 1, .ro, 0x0, 0x0, 0x0⟩,
  ⟨0x400C0078, 1, 0x0, 1, .ro, 0x0, 0x0, 0x0⟩,
  ⟨0x400C007C, 1, 0x0, 1, .rw, 0xF, 0x0, 0x0⟩,
  ⟨0x400C0080, 1, 0x0, 1, .rl, 0x0, 0x0, 0x0⟩,
  ⟨0x400C0084, 1, 0x0, 1, .ro, 0x0, 0x0, 0x0⟩,
  ⟨0x400C0088, 1, 0x0, 1, .ro, 0x0, 0x0, 0x0⟩,
  ⟨0x400C008C, 1, 0x0, 1, .rw, 0x3F, 0x0, 0x0⟩,
  ⟨0x400C0090, 1, 0x0, 1, .ro, 0x0, 0x0, 0x0⟩]

/-- The registers of block CAN. -/
def regsCAN : List RegRow := [
  ⟨0x400D0000, 1, 0x0, 1, .ro, 0x0, 0x0, 0xD010000⟩,
  ⟨0x400D0004, 1, 0x0, 1, .ro, 0x0, 0x0, 0x0⟩,
  ⟨0x400D000C, 1, 0x0, 1, .wo, 0x0, 0x0, 0x0⟩,
  ⟨0x400D0010, 1, 0x0, 1, .w1c, 0x0, 0xFF, 0x0⟩,
  ⟨0x400D0014, 1, 0x0, 1, .rw, 0xFF, 0x0, 0x0⟩,
  ⟨0x400D0018, 1, 0x0, 1, .rw, 0xFF, 0x0, 0x0⟩,
  ⟨0x400D001C, 1, 0x0, 1, .ro, 0x0, 0x0, 0x0⟩,
  ⟨0x400D0020, 1, 0x0, 1, .ro, 0x0, 0x0, 0x0⟩,
  ⟨0x400D0100, 1, 0x100, 2, .ro, 0x0, 0x0, 0x0⟩,
  ⟨0x400D0104, 1, 0x100, 2, .ro, 0x0, 0x0, 0x0⟩,
  ⟨0x400D0108, 1, 0x100, 2, .ro, 0x0, 0x0, 0x0⟩,
  ⟨0x400D010C, 1, 0x100, 2, .ro, 0x0, 0x0, 0x0⟩,
  ⟨0x400D0110, 1, 0x100, 2, .ro, 0x0, 0x0, 0x0⟩,
  ⟨0x400D0114, 1, 0x100, 2, .ro, 0x0, 0x0, 0x0⟩,
  ⟨0x400D0118, 1, 0x100, 2, .ro, 0x0, 0x0, 0x0⟩,
  ⟨0x400D011C, 1, 0x100, 2, .ro, 0x0, 0x0, 0x0⟩,
  ⟨0x400D0120, 1, 0x100, 2, .ro, 0x0, 0x0, 0x0⟩,
  ⟨0x400D0124, 1, 0x100, 2, .rw, 0x1FF, 0x0, 0x0⟩,
  ⟨0x400D0128, 1, 0x100, 2, .ro, 0x0, 0x0, 0x0⟩,
  ⟨0x400D012C, 1, 0x100, 2, .ro, 0x0, 0x0, 0x0⟩,
  ⟨0x400D0130, 1, 0x100, 2, .ro, 0x0, 0x0, 0x0⟩,
  ⟨0x400D0134, 1, 0x100, 2, .rl, 0x0, 0x0, 0x0⟩,
  ⟨0x400D0138, 1, 0x100, 2, .ro, 0x0, 0x0, 0x0⟩,
  ⟨0x400D013C, 1, 0x100, 2, .ro, 0x0, 0x0, 0x0⟩,
  ⟨0x400D0140, 1, 0x100, 2, .ro, 0x0, 0x0, 0x0⟩,
  ⟨0x400D0144, 16, 0x100, 2, .ro, 0x0, 0x0, 0x0⟩,
  ⟨0x400D0184, 1, 0x100, 2, .rw, 0x3F, 0x0, 0x0⟩,
  ⟨0x400D0188, 1, 0x100, 2, .ro, 0x0, 0x0, 0x0⟩,
  ⟨0x400D018C, 1, 0x100, 2, .ro, 0x0, 0x0, 0x0⟩,
  ⟨0x400D0190, 1, 0x100, 2, .ro, 0x0, 0x0, 0x0⟩,
  ⟨0x400D0194, 1, 0x100, 2, .ro, 0x0, 0x0, 0x0⟩,
  ⟨0x400D0198, 1, 0x100, 2, .wo, 0x0, 0x0, 0x0⟩,
  ⟨0x400D019C, 1, 0x100, 2, .ro, 0x0, 0x0, 0x0⟩,
  ⟨0x400D01A0, 1, 0x100, 2, .ro, 0x0, 0x0, 0x0⟩,
  ⟨0x400D01A4, 1, 0x100, 2, .ro, 0x0, 0x0, 0x0⟩,
  ⟨0x400D01A8, 1, 0x100, 2, .rw, 0x7FF, 0x0, 0x0⟩,
  ⟨0x400D01AC, 1, 0x100, 2, .ro, 0x0, 0x0, 0x0⟩,
  ⟨0x400D01B0, 1, 0x100, 2, .ro, 0x0, 0x0, 0x0⟩]

/-- The registers of block LIO. -/
def regsLIO : List RegRow := [
  ⟨0x400E0000, 1, 0x0, 1, .ro, 0x0, 0x0, 0xE010000⟩,
  ⟨0x400E0004, 1, 0x0, 1, .ro, 0x0, 0x0, 0x0⟩,
  ⟨0x400E0008, 1, 0x0, 1, .ro, 0x0, 0x0, 0x0⟩,
  ⟨0x400E000C, 1, 0x0, 1, .wo, 0x0, 0x0, 0x0⟩,
  ⟨0x400E0010, 1, 0x0, 1, .w1c, 0x0, 0xF, 0x0⟩,
  ⟨0x400E0014, 1, 0x0, 1, .rw, 0xF, 0x0, 0x0⟩,
  ⟨0x400E0018, 1, 0x0, 1, .rw, 0x1F, 0x0, 0x0⟩,
  ⟨0x400E001C, 1, 0x0, 1, .ro, 0x0, 0x0, 0x0⟩,
  ⟨0x400E0020, 1, 0x0, 1, .rw, 0xF, 0x0, 0x0⟩,
  ⟨0x400E0024, 1, 0x0, 1, .ro, 0x0, 0x0, 0x0⟩,
  ⟨0x400E0028, 1, 0x0, 1, .ro, 0x0, 0x0, 0x0⟩,
  ⟨0x400E002C, 1, 0x0, 1, .ro, 0x0, 0x0, 0x0⟩,
  ⟨0x400E0030, 1, 0x0, 1, .ro, 0x0, 0x0, 0x0⟩,
  ⟨0x400E0034, 1, 0x0, 1, .ro, 0x0, 0x0, 0x0⟩,
  ⟨0x400E0038, 1, 0x0, 1, .ro, 0x0, 0x0, 0x0⟩]

/-- The registers of block AIO. -/
def regsAIO : List RegRow := [
  ⟨0x400F0000, 1, 0x0, 1, .ro, 0x0, 0x0, 0xF010000⟩,
  ⟨0x400F0004, 1, 0x0, 1, .ro, 0x0, 0x0, 0x0⟩,
  ⟨0x400F0008, 1, 0x0, 1, .ro, 0x0, 0x0, 0x0⟩,
  ⟨0x400F000C, 1, 0x0, 1, .wo, 0x0, 0x0, 0x0⟩,
  ⟨0x400F0010, 1, 0x0, 1, .w1c, 0x0, 0x1F, 0x0⟩,
  ⟨0x400F0014, 1, 0x0, 1, .rw, 0x1F, 0x0, 0x0⟩,
  ⟨0x400F0018, 1, 0x0, 1, .ro, 0x0, 0x0, 0x0⟩,
  ⟨0x400F001C, 1, 0x0, 1, .ro, 0x0, 0x0, 0x0⟩,
  ⟨0x400F0040, 1, 0x40, 8, .ro, 0x0, 0x0, 0x20000F0⟩,
  ⟨0x400F0044, 1, 0x40, 8, .ro, 0x0, 0x0, 0x0⟩,
  ⟨0x400F0048, 1, 0x40, 8, .ro, 0x0, 0x0, 0x0⟩,
  ⟨0x400F004C, 1, 0x40, 8, .ro, 0x0, 0x0, 0x0⟩,
  ⟨0x400F0050, 1, 0x40, 8, .ro, 0x0, 0x0, 0x0⟩,
  ⟨0x400F0054, 1, 0x40, 8, .ro, 0x0, 0x0, 0x0⟩,
  ⟨0x400F0058, 1, 0x40, 8, .ro, 0x0, 0x0, 0x0⟩,
  ⟨0x400F005C, 1, 0x40, 8, .ro, 0x0, 0x0, 0x0⟩,
  ⟨0x400F0060, 1, 0x40, 8, .ro, 0x0, 0x0, 0x0⟩]

/-- The registers of block DPY. -/
def regsDPY : List RegRow := [
  ⟨0x40100000, 1, 0x0, 1, .ro, 0x0, 0x0, 0x10010000⟩,
  ⟨0x40100004, 1, 0x0, 1, .ro, 0x0, 0x0, 0x0⟩,
  ⟨0x40100008, 1, 0x0, 1, .ro, 0x0, 0x0, 0x0⟩,
  ⟨0x4010000C, 1, 0x0, 1, .wo, 0x0, 0x0, 0x0⟩,
  ⟨0x40100010, 1, 0x0, 1, .w1c, 0x0, 0x1F, 0x0⟩,
  ⟨0x40100014, 1, 0x0, 1, .rw, 0x1F, 0x0, 0x0⟩,
  ⟨0x40100018, 1, 0x0, 1, .ro, 0x0, 0x0, 0x0⟩,
  ⟨0x4010001C, 1, 0x0, 1, .ro, 0x0, 0x0, 0x0⟩,
  ⟨0x40100020, 1, 0x0, 1, .rw, 0xFFFFFFFF, 0x0, 0x0⟩,
  ⟨0x40100024, 1, 0x0, 1, .wo, 0x0, 0x0, 0x0⟩,
  ⟨0x40100028, 1, 0x0, 1, .rw, 0x7, 0x0, 0x0⟩,
  ⟨0x4010002C, 1, 0x0, 1, .ro, 0x0, 0x0, 0x0⟩,
  ⟨0x40100030, 1, 0x0, 1, .ro, 0x0, 0x0, 0x0⟩,
  ⟨0x40100034, 1, 0x0, 1, .ro, 0x0, 0x0, 0x0⟩,
  ⟨0x40100038, 1, 0x0, 1, .ro, 0x0, 0x0, 0x0⟩,
  ⟨0x4010003C, 1, 0x0, 1, .ro, 0x0, 0x0, 0x0⟩]

/-- The registers of block REC. -/
def regsREC : List RegRow := [
  ⟨0x40110000, 1, 0x0, 1, .ro, 0x0, 0x0, 0x11010000⟩,
  ⟨0x40110004, 1, 0x0, 1, .ro, 0x0, 0x0, 0x0⟩,
  ⟨0x40110008, 1, 0x0, 1, .wo, 0x0, 0x0, 0x0⟩,
  ⟨0x4011000C, 1, 0x0, 1, .w1c, 0x0, 0x1F, 0x0⟩,
  ⟨0x40110010, 1, 0x0, 1, .rw, 0x1F, 0x0, 0x0⟩,
  ⟨0x40110014, 1, 0x0, 1, .ro, 0x0, 0x0, 0x0⟩,
  ⟨0x40110018, 1, 0x0, 1, .ro, 0x0, 0x0, 0x0⟩,
  ⟨0x4011001C, 1, 0x0, 1, .ro, 0x0, 0x0, 0x0⟩,
  ⟨0x40110020, 1, 0x0, 1, .ro, 0x0, 0x0, 0x0⟩,
  ⟨0x40110024, 1, 0x0, 1, .ro, 0x0, 0x0, 0x0⟩,
  ⟨0x40110028, 1, 0x0, 1, .ro, 0x0, 0x0, 0x0⟩,
  ⟨0x4011002C, 1, 0x0, 1, .ro, 0x0, 0x0, 0x0⟩,
  ⟨0x40110030, 1, 0x0, 1, .ro, 0x0, 0x0, 0x0⟩,
  ⟨0x40110034, 1, 0x0, 1, .ro, 0x0, 0x0, 0x0⟩,
  ⟨0x40110038, 1, 0x0, 1, .ro, 0x0, 0x0, 0x0⟩,
  ⟨0x4011003C, 1, 0x0, 1, .ro, 0x0, 0x0, 0x0⟩,
  ⟨0x40110040, 1, 0x0, 1, .ro, 0x0, 0x0, 0x0⟩,
  ⟨0x40110044, 1, 0x0, 1, .ro, 0x0, 0x0, 0x0⟩,
  ⟨0x40110048, 1, 0x0, 1, .rw, 0xFFFFFFFF, 0x0, 0x0⟩,
  ⟨0x4011004C, 1, 0x0, 1, .rl, 0x0, 0x0, 0x0⟩,
  ⟨0x40110050, 7, 0x0, 1, .ro, 0x0, 0x0, 0x0⟩]

/-- The registers of block ACC. -/
def regsACC : List RegRow := [
  ⟨0x40120000, 1, 0x0, 1, .ro, 0x0, 0x0, 0x12010000⟩,
  ⟨0x40120004, 1, 0x0, 1, .ro, 0x0, 0x0, 0x0⟩,
  ⟨0x40120008, 1, 0x0, 1, .wo, 0x0, 0x0, 0x0⟩,
  ⟨0x4012000C, 1, 0x0, 1, .w1c, 0x0, 0x7, 0x0⟩,
  ⟨0x40120010, 1, 0x0, 1, .rw, 0x7, 0x0, 0x0⟩,
  ⟨0x40120014, 1, 0x0, 1, .wo, 0x0, 0x0, 0x0⟩,
  ⟨0x40120018, 1, 0x0, 1, .ro, 0x0, 0x0, 0x0⟩,
  ⟨0x40120020, 1, 0x0, 1, .rw, 0x7FF, 0x0, 0x0⟩,
  ⟨0x40120024, 1, 0x0, 1, .rwb, 0xFFFFFF00, 0x0, 0x0⟩,
  ⟨0x40120028, 1, 0x0, 1, .rwb, 0xFF, 0x0, 0x0⟩,
  ⟨0x4012002C, 1, 0x0, 1, .rwb, 0xF03F0000, 0x0, 0x80000⟩,
  ⟨0x40120030, 1, 0x0, 1, .rwb, 0xFFF0FFF, 0x0, 0x0⟩,
  ⟨0x40120034, 1, 0x0, 1, .rw, 0x73F, 0x0, 0x0⟩,
  ⟨0x40120038, 1, 0x0, 1, .rwb, 0xFFFFFF00, 0x0, 0x0⟩,
  ⟨0x4012003C, 1, 0x0, 1, .rwb, 0xFF, 0x0, 0x0⟩,
  ⟨0x40120040, 1, 0x0, 1, .rwb, 0xF03F0000, 0x0, 0x80000⟩,
  ⟨0x40120044, 1, 0x0, 1, .rwb, 0xFFF0FFF, 0x0, 0x0⟩,
  ⟨0x40120048, 12, 0x0, 1, .ro, 0x0, 0x0, 0x0⟩,
  ⟨0x40120078, 1, 0x0, 1, .ro, 0x0, 0x0, 0x0⟩,
  ⟨0x4012007C, 1, 0x0, 1, .ro, 0x0, 0x0, 0x0⟩,
  ⟨0x40120080, 1, 0x0, 1, .rl, 0x0, 0x0, 0x0⟩,
  ⟨0x40120084, 1, 0x0, 1, .ro, 0x0, 0x0, 0x0⟩,
  ⟨0x40120088, 1, 0x0, 1, .ro, 0x0, 0x0, 0x0⟩]

/-- The registers of block UPD. -/
def regsUPD : List RegRow := [
  ⟨0x40130000, 1, 0x0, 1, .ro, 0x0, 0x0, 0x13010000⟩,
  ⟨0x40130004, 1, 0x0, 1, .ro, 0x0, 0x0, 0x0⟩,
  ⟨0x40130008, 1, 0x0, 1, .wo, 0x0, 0x0, 0x0⟩,
  ⟨0x4013000C, 1, 0x0, 1, .w1c, 0x0, 0x7F, 0x0⟩,
  ⟨0x40130010, 1, 0x0, 1, .rw, 0x7F, 0x0, 0x0⟩,
  ⟨0x40130014, 1, 0x0, 1, .ro, 0x0, 0x0, 0x0⟩,
  ⟨0x40130018, 5, 0x0, 1, .ro, 0x0, 0x0, 0xFFFF⟩,
  ⟨0x4013002C, 1, 0x0, 1, .ro, 0x0, 0x0, 0x0⟩,
  ⟨0x40130030, 1, 0x0, 1, .rl, 0x0, 0x0, 0x0⟩,
  ⟨0x40130034, 1, 0x0, 1, .ro, 0x0, 0x0, 0x0⟩,
  ⟨0x40130038, 1, 0x0, 1, .ro, 0x0, 0x0, 0x0⟩,
  ⟨0x4013003C, 1, 0x0, 1, .ro, 0x0, 0x0, 0x0⟩,
  ⟨0x40130040, 1, 0x0, 1, .ro, 0x0, 0x0, 0x0⟩,
  ⟨0x40130044, 1, 0x0, 1, .ro, 0x0, 0x0, 0x0⟩,
  ⟨0x40130048, 1, 0x0, 1, .ro, 0x0, 0x0, 0x0⟩,
  ⟨0x4013004C, 1, 0x0, 1, .ro, 0x0, 0x0, 0x0⟩,
  ⟨0x40130050, 1, 0x0, 1, .ro, 0x0, 0x0, 0x0⟩,
  ⟨0x40130054, 1, 0x0, 1, .ro, 0x0, 0x0, 0x1C20000⟩,
  ⟨0x40130058, 1, 0x0, 1, .ro, 0x0, 0x0, 0x0⟩,
  ⟨0x4013005C, 1, 0x0, 1, .ro, 0x0, 0x0, 0x0⟩,
  ⟨0x40130060, 1, 0x0, 1, .ro, 0x0, 0x0, 0x0⟩,
  ⟨0x40130064, 1, 0x0, 1, .rw, 0x7, 0x0, 0x0⟩,
  ⟨0x40130068, 1, 0x0, 1, .ro, 0x0, 0x0, 0x0⟩,
  ⟨0x4013006C, 1, 0x0, 1, .ro, 0x0, 0x0, 0x0⟩,
  ⟨0x40130070, 1, 0x0, 1, .rl, 0x0, 0x0, 0x0⟩,
  ⟨0x40130074, 1, 0x0, 1, .ro, 0x0, 0x0, 0x0⟩,
  ⟨0x40130078, 1, 0x0, 1, .ro, 0x0, 0x0, 0x0⟩]

/-- The registers of block MON. -/
def regsMON : List RegRow := [
  ⟨0x40140000, 1, 0x0, 1, .ro, 0x0, 0x0, 0x14010000⟩,
  ⟨0x40140004, 1, 0x0, 1, .ro, 0x0, 0x0, 0x0⟩,
  ⟨0x40140008, 1, 0x0, 1, .wo, 0x0, 0x0, 0x0⟩,
  ⟨0x4014000C, 1, 0x0, 1, .w1c, 0x0, 0x3F, 0x0⟩,
  ⟨0x40140010, 1, 0x0, 1, .rw, 0x3F, 0x0, 0x0⟩,
  ⟨0x40140014, 1, 0x0, 1, .ro, 0x0, 0x0, 0x0⟩,
  ⟨0x40140018, 1, 0x0, 1, .rw, 0x3FFF000F, 0x0, 0x0⟩,
  ⟨0x4014001C, 1, 0x0, 1, .ro, 0x0, 0x0, 0x0⟩,
  ⟨0x40140020, 12, 0x0, 1, .ro, 0x0, 0x0, 0x0⟩,
  ⟨0x40140050, 12, 0x0, 1, .ro, 0x0, 0x0, 0x0⟩,
  ⟨0x40140080, 24, 0x0, 1, .ro, 0x0, 0x0, 0x0⟩,
  ⟨0x401400E0, 24, 0x0, 1, .ro, 0x0, 0x0, 0x0⟩,
  ⟨0x40140140, 16, 0x0, 1, .ro, 0x0, 0x0, 0x0⟩,
  ⟨0x40140180, 16, 0x0, 1, .ro, 0x0, 0x0, 0x0⟩]

/-- The registers of block FRC. -/
def regsFRC : List RegRow := [
  ⟨0x40150000, 1, 0x0, 1, .ro, 0x0, 0x0, 0x15010000⟩,
  ⟨0x40150004, 1, 0x0, 1, .ro, 0x0, 0x0, 0x0⟩,
  ⟨0x40150008, 1, 0x0, 1, .wo, 0x0, 0x0, 0x0⟩,
  ⟨0x4015000C, 1, 0x0, 1, .w1c, 0x0, 0xF, 0x0⟩,
  ⟨0x40150010, 1, 0x0, 1, .rw, 0xF, 0x0, 0x0⟩,
  ⟨0x40150014, 1, 0x0, 1, .rw, 0xFFF, 0x0, 0x0⟩,
  ⟨0x40150018, 1, 0x0, 1, .ro, 0x0, 0x0, 0x0⟩,
  ⟨0x4015001C, 1, 0x0, 1, .ro, 0x0, 0x0, 0x0⟩,
  ⟨0x40150020, 1, 0x0, 1, .ro, 0x0, 0x0, 0x0⟩,
  ⟨0x40150024, 1, 0x0, 1, .ro, 0x0, 0x0, 0x0⟩,
  ⟨0x40150028, 1, 0x0, 1, .ro, 0x0, 0x0, 0x0⟩,
  ⟨0x4015002C, 1, 0x0, 1, .rw, 0x7FFFF, 0x0, 0x0⟩,
  ⟨0x40150030, 1, 0x0, 1, .rw, 0xFFFFFFFF, 0x0, 0x0⟩,
  ⟨0x40150034, 1, 0x0, 1, .rw, 0x7FFFFFF, 0x0, 0x0⟩,
  ⟨0x40150038, 1, 0x0, 1, .ro, 0x0, 0x0, 0x0⟩,
  ⟨0x4015003C, 1, 0x0, 1, .ro, 0x0, 0x0, 0x0⟩]

/-- The registers of block OLC. -/
def regsOLC : List RegRow := [
  ⟨0x40160000, 1, 0x0, 1, .ro, 0x0, 0x0, 0x16010000⟩,
  ⟨0x40160004, 1, 0x0, 1, .ro, 0x0, 0x0, 0x0⟩,
  ⟨0x40160008, 1, 0x0, 1, .wo, 0x0, 0x0, 0x0⟩,
  ⟨0x4016000C, 1, 0x0, 1, .w1c, 0x0, 0x7F, 0x0⟩,
  ⟨0x40160010, 1, 0x0, 1, .rw, 0x7F, 0x0, 0x0⟩,
  ⟨0x40160014, 1, 0x0, 1, .rw, 0xFFFFFFFF, 0x0, 0x0⟩,
  ⟨0x40160018, 1, 0x0, 1, .rw, 0xFFFFFFFF, 0x0, 0x0⟩,
  ⟨0x4016001C, 1, 0x0, 1, .ro, 0x0, 0x0, 0x0⟩,
  ⟨0x40160020, 1, 0x0, 1, .ro, 0x0, 0x0, 0x0⟩,
  ⟨0x40160024, 1, 0x0, 1, .rw, 0xFFF, 0x0, 0x3C⟩,
  ⟨0x40160028, 1, 0x0, 1, .ro, 0x0, 0x0, 0x0⟩,
  ⟨0x4016002C, 1, 0x0, 1, .ro, 0x0, 0x0, 0x0⟩,
  ⟨0x40160030, 1, 0x0, 1, .ro, 0x0, 0x0, 0x0⟩,
  ⟨0x40160034, 1, 0x0, 1, .ro, 0x0, 0x0, 0x0⟩,
  ⟨0x40160038, 1, 0x0, 1, .ro, 0x0, 0x0, 0x0⟩,
  ⟨0x4016003C, 4, 0x0, 1, .ro, 0x0, 0x0, 0x0⟩,
  ⟨0x4016004C, 1, 0x0, 1, .ro, 0x0, 0x0, 0x0⟩]

/-- The block map of R537. -/
def blockRows : Nat → List RegRow
  | 0 => regsDEV
  | 1 => regsFRM
  | 2 => regsSIG
  | 3 => regsLE
  | 4 => regsFBX
  | 5 => regsPE
  | 6 => regsSVI
  | 7 => regsPAIR
  | 8 => regsSAF
  | 9 => regsETH
  | 10 => regsGSE
  | 11 => regsTIM
  | 12 => regsCHN
  | 13 => regsCAN
  | 14 => regsLIO
  | 15 => regsAIO
  | 16 => regsDPY
  | 17 => regsREC
  | 18 => regsACC
  | 19 => regsUPD
  | 20 => regsMON
  | 21 => regsFRC
  | 22 => regsOLC
  | _ => []

/-- The block index of a control-space address (R6). -/
def blockOf (a : Nat) : Nat := bitsOf a 23 16

/-- The address lies in the control space (R6). -/
def inControlSpace (a : Nat) : Bool := decide (0x40000000 ≤ a) && decide (a ≤ 0x40FFFFFF)

/-- The register at an address. -/
def regRow (a : Nat) : Option RegRow :=
  if inControlSpace a then (blockRows (blockOf a)).find? (fun r => r.holds a) else none

/-- Every register's value at reset: its Reset column; the identification registers of an engine carry its number. -/
def regReset (a : Nat) : Word :=
  match regRow a with
  | none => 0
  | some r =>
    if r.base = 0x40030000 ∨ r.base = 0x40050000 then r.reset ||| BitVec.ofNat 32 ((a - r.base) / 0x80) else r.reset

/-- The number of assigned registers of a block. -/
def regCount (b : Nat) : Nat := (blockRows b).foldl (fun k r => k + r.n * r.cnt) 0

end Sys2Proof.Machine
end

