-- ==== Sys2Proof/Machine/RegName.lean ====
section
/-! DEFINITION. The addresses of the registers, by the names of their register tables. A register of an array takes
its number n, a register of an engine, controller or channel takes that number e; numbers
count modulo the size of the array, so that a name never leaves its array. -/

namespace Sys2Proof.Machine

/-- `FRM_ID` (R61, RO). -/
abbrev Reg.FRM_ID : Nat := 0x40010000
/-- `FRM_CFG` (R61, RO). -/
abbrev Reg.FRM_CFG : Nat := 0x40010004
/-- `FRM_STAT` (R61, RO). -/
abbrev Reg.FRM_STAT : Nat := 0x40010008
/-- `FRM_SEC_LO` (R61, RL). -/
abbrev Reg.FRM_SEC_LO : Nat := 0x4001000C
/-- `FRM_SEC_HI` (R61, RO). -/
abbrev Reg.FRM_SEC_HI : Nat := 0x40010010
/-- `FRM_FIDX` (R61, RO). -/
abbrev Reg.FRM_FIDX : Nat := 0x40010014
/-- `FRM_FNUM_LO` (R61, RL). -/
abbrev Reg.FRM_FNUM_LO : Nat := 0x40010018
/-- `FRM_FNUM_HI` (R61, RO). -/
abbrev Reg.FRM_FNUM_HI : Nat := 0x4001001C
/-- `FRM_GRID_OFS` (R61, RO). -/
abbrev Reg.FRM_GRID_OFS : Nat := 0x40010020
/-- `FRM_SLEW` (R61, RO). -/
abbrev Reg.FRM_SLEW : Nat := 0x40010024
/-- `FRM_EVT_STAT` (R61, W1C). -/
abbrev Reg.FRM_EVT_STAT : Nat := 0x40010028
/-- `FRM_EVT_EN` (R61, RW). -/
abbrev Reg.FRM_EVT_EN : Nat := 0x4001002C
/-- `FRM_OVR_TOTAL` (R61, RO). -/
abbrev Reg.FRM_OVR_TOTAL : Nat := 0x40010030
/-- `FRM_LAST_OVR` (R61, RO). -/
abbrev Reg.FRM_LAST_OVR : Nat := 0x40010034
/-- `FRM_CLS_SEL` (R61, RW). -/
abbrev Reg.FRM_CLS_SEL : Nat := 0x40010038
/-- `FRM_CLS_CFG` (R61, RO). -/
abbrev Reg.FRM_CLS_CFG : Nat := 0x4001003C
/-- `FRM_CLS_WCET` (R61, RO). -/
abbrev Reg.FRM_CLS_WCET : Nat := 0x40010040
/-- `FRM_CLS_STAT` (R61, RO). -/
abbrev Reg.FRM_CLS_STAT : Nat := 0x40010044
/-- `FRM_PART_SEL` (R61, RW). -/
abbrev Reg.FRM_PART_SEL : Nat := 0x40010048
/-- `FRM_PART_CFG` (R61, RO). -/
abbrev Reg.FRM_PART_CFG : Nat := 0x4001004C
/-- `FRM_PART_ALLOT` (R61, RO). -/
abbrev Reg.FRM_PART_ALLOT : Nat := 0x40010050
/-- `FRM_PART_BUDGET` (R61, RO). -/
abbrev Reg.FRM_PART_BUDGET : Nat := 0x40010054
/-- `FRM_PART_STAT` (R61, RO). -/
abbrev Reg.FRM_PART_STAT : Nat := 0x40010058
/-- `FRM_PART_CMD` (R61, WO). -/
abbrev Reg.FRM_PART_CMD : Nat := 0x4001005C
/-- `FRM_ENG_BUDGETn` (R61, RO). -/
abbrev Reg.FRM_ENG_BUDGETn (n : Nat) : Nat := 0x40010060 + 4 * (n % 12)
/-- `FRM_PROMPT_CFG` (R61, RO). -/
abbrev Reg.FRM_PROMPT_CFG : Nat := 0x40010090
/-- `FRM_PROMPT_CNT` (R61, RO). -/
abbrev Reg.FRM_PROMPT_CNT : Nat := 0x40010094
/-- `SIG_ID` (R62, RO). -/
abbrev Reg.SIG_ID : Nat := 0x40020000
/-- `SIG_STAT` (R62, RO). -/
abbrev Reg.SIG_STAT : Nat := 0x40020004
/-- `SIG_BCOUNT` (R62, RO). -/
abbrev Reg.SIG_BCOUNT : Nat := 0x40020008
/-- `SIG_ACOUNT` (R62, RO). -/
abbrev Reg.SIG_ACOUNT : Nat := 0x4002000C
/-- `SIG_DIR_SEL` (R62, RW). -/
abbrev Reg.SIG_DIR_SEL : Nat := 0x40020010
/-- `SIG_DIR_LO` (R62, RL). -/
abbrev Reg.SIG_DIR_LO : Nat := 0x40020014
/-- `SIG_DIR_HI` (R62, RO). -/
abbrev Reg.SIG_DIR_HI : Nat := 0x40020018
/-- `SIG_VAL` (R62, RL). -/
abbrev Reg.SIG_VAL : Nat := 0x4002001C
/-- `SIG_VAL_AUX` (R62, RO). -/
abbrev Reg.SIG_VAL_AUX : Nat := 0x40020020
/-- `SIG_OUT` (R62, RO). -/
abbrev Reg.SIG_OUT : Nat := 0x40020024
/-- `SIG_EVT_STAT` (R62, W1C). -/
abbrev Reg.SIG_EVT_STAT : Nat := 0x40020028
/-- `SIG_EVT_EN` (R62, RW). -/
abbrev Reg.SIG_EVT_EN : Nat := 0x4002002C
/-- `SIG_REJ_CNT` (R62, RO). -/
abbrev Reg.SIG_REJ_CNT : Nat := 0x40020030
/-- `SIG_REJ_LAST` (R62, RO). -/
abbrev Reg.SIG_REJ_LAST : Nat := 0x40020034
/-- `SIG_LOST_CNT` (R62, RO). -/
abbrev Reg.SIG_LOST_CNT : Nat := 0x40020038
/-- `SIG_NONFIN_CNT` (R62, RO). -/
abbrev Reg.SIG_NONFIN_CNT : Nat := 0x4002003C
/-- `SIG_MULTI_CNT` (R62, RO). -/
abbrev Reg.SIG_MULTI_CNT : Nat := 0x40020040
/-- `SIG_BANK_STAT` (R62, RO). -/
abbrev Reg.SIG_BANK_STAT : Nat := 0x40020044
/-- `SIG_DIR_CRC` (R62, RO). -/
abbrev Reg.SIG_DIR_CRC : Nat := 0x40020048
/-- `SIG_WATCHn` (R62, RW). -/
abbrev Reg.SIG_WATCHn (n : Nat) : Nat := 0x4002004C + 4 * (n % 4)
/-- `SIG_WATCH_STAT` (R62, W1C). -/
abbrev Reg.SIG_WATCH_STAT : Nat := 0x4002005C
/-- `LE_ID` (R93, RO). -/
abbrev Reg.LE_ID (e : Nat) : Nat := 0x40030000 + 0x80 * (e % 8)
/-- `LE_CFG` (R93, RO). -/
abbrev Reg.LE_CFG (e : Nat) : Nat := 0x40030004 + 0x80 * (e % 8)
/-- `LE_STAT` (R93, RO). -/
abbrev Reg.LE_STAT (e : Nat) : Nat := 0x40030008 + 0x80 * (e % 8)
/-- `LE_CTRL` (R93, WO). -/
abbrev Reg.LE_CTRL (e : Nat) : Nat := 0x4003000C + 0x80 * (e % 8)
/-- `LE_EVT_STAT` (R93, W1C). -/
abbrev Reg.LE_EVT_STAT (e : Nat) : Nat := 0x40030010 + 0x80 * (e % 8)
/-- `LE_EVT_EN` (R93, RW). -/
abbrev Reg.LE_EVT_EN (e : Nat) : Nat := 0x40030014 + 0x80 * (e % 8)
/-- `LE_PC` (R93, RO). -/
abbrev Reg.LE_PC (e : Nat) : Nat := 0x40030018 + 0x80 * (e % 8)
/-- `LE_ACC` (R93, RO). -/
abbrev Reg.LE_ACC (e : Nat) : Nat := 0x4003001C + 0x80 * (e % 8)
/-- `LE_PROG_SEL` (R93, RW). -/
abbrev Reg.LE_PROG_SEL (e : Nat) : Nat := 0x40030020 + 0x80 * (e % 8)
/-- `LE_PROG_ENT` (R93, RO). -/
abbrev Reg.LE_PROG_ENT (e : Nat) : Nat := 0x40030024 + 0x80 * (e % 8)
/-- `LE_PROG_LEN` (R93, RO). -/
abbrev Reg.LE_PROG_LEN (e : Nat) : Nat := 0x40030028 + 0x80 * (e % 8)
/-- `LE_PROG_CLS` (R93, RO). -/
abbrev Reg.LE_PROG_CLS (e : Nat) : Nat := 0x4003002C + 0x80 * (e % 8)
/-- `LE_PROG_STAT` (R93, RO). -/
abbrev Reg.LE_PROG_STAT (e : Nat) : Nat := 0x40030030 + 0x80 * (e % 8)
/-- `LE_PROG_CELLS` (R93, RO). -/
abbrev Reg.LE_PROG_CELLS (e : Nat) : Nat := 0x40030034 + 0x80 * (e % 8)
/-- `LE_PROG_CCNT` (R93, RO). -/
abbrev Reg.LE_PROG_CCNT (e : Nat) : Nat := 0x40030038 + 0x80 * (e % 8)
/-- `LE_CELL_SEL` (R93, RW). -/
abbrev Reg.LE_CELL_SEL (e : Nat) : Nat := 0x4003003C + 0x80 * (e % 8)
/-- `LE_CELL_VAL` (R93, RO). -/
abbrev Reg.LE_CELL_VAL (e : Nat) : Nat := 0x40030040 + 0x80 * (e % 8)
/-- `LE_PMEM_SEL` (R93, RW). -/
abbrev Reg.LE_PMEM_SEL (e : Nat) : Nat := 0x40030044 + 0x80 * (e % 8)
/-- `LE_PMEM_VAL` (R93, RO). -/
abbrev Reg.LE_PMEM_VAL (e : Nat) : Nat := 0x40030048 + 0x80 * (e % 8)
/-- `LE_PMEM_CRC` (R93, RO). -/
abbrev Reg.LE_PMEM_CRC (e : Nat) : Nat := 0x4003004C + 0x80 * (e % 8)
/-- `LE_FAULT_CNT` (R93, RO). -/
abbrev Reg.LE_FAULT_CNT (e : Nat) : Nat := 0x40030050 + 0x80 * (e % 8)
/-- `LE_FAULT_LAST` (R93, RO). -/
abbrev Reg.LE_FAULT_LAST (e : Nat) : Nat := 0x40030054 + 0x80 * (e % 8)
/-- `LE_ECC_CNT` (R93, RO). -/
abbrev Reg.LE_ECC_CNT (e : Nat) : Nat := 0x40030058 + 0x80 * (e % 8)
/-- `LE_LOAD` (R93, RO). -/
abbrev Reg.LE_LOAD (e : Nat) : Nat := 0x4003005C + 0x80 * (e % 8)
/-- `LE_PEAKS` (R93, RO). -/
abbrev Reg.LE_PEAKS (e : Nat) : Nat := 0x40030060 + 0x80 * (e % 8)
/-- `LE_CMP_STAT` (R93, RO). -/
abbrev Reg.LE_CMP_STAT (e : Nat) : Nat := 0x40030064 + 0x80 * (e % 8)
/-- `LE_MISM_CNT` (R93, RO). -/
abbrev Reg.LE_MISM_CNT (e : Nat) : Nat := 0x40030068 + 0x80 * (e % 8)
/-- `LE_DIVG_CNT` (R93, RO). -/
abbrev Reg.LE_DIVG_CNT (e : Nat) : Nat := 0x4003006C + 0x80 * (e % 8)
/-- `LE_MODE_REQ` (R93, WO). -/
abbrev Reg.LE_MODE_REQ (e : Nat) : Nat := 0x40030070 + 0x80 * (e % 8)
/-- `LE_DBG_CTRL` (R93, RW). -/
abbrev Reg.LE_DBG_CTRL (e : Nat) : Nat := 0x40030074 + 0x80 * (e % 8)
/-- `LE_DBG_BP` (R93, RW). -/
abbrev Reg.LE_DBG_BP (e : Nat) : Nat := 0x40030078 + 0x80 * (e % 8)
/-- `LE_DBG_WR` (R93, WO). -/
abbrev Reg.LE_DBG_WR (e : Nat) : Nat := 0x4003007C + 0x80 * (e % 8)
/-- `FBX_ID` (R141, RO). -/
abbrev Reg.FBX_ID : Nat := 0x40040000
/-- `FBX_CFG` (R141, RO). -/
abbrev Reg.FBX_CFG : Nat := 0x40040004
/-- `FBX_STAT` (R141, RO). -/
abbrev Reg.FBX_STAT : Nat := 0x40040008
/-- `FBX_CMD` (R141, WO). -/
abbrev Reg.FBX_CMD : Nat := 0x4004000C
/-- `FBX_EVT_STAT` (R141, W1C). -/
abbrev Reg.FBX_EVT_STAT : Nat := 0x40040010
/-- `FBX_EVT_EN` (R141, RW). -/
abbrev Reg.FBX_EVT_EN : Nat := 0x40040014
/-- `FBX_RET_GEN_LO` (R141, RL). -/
abbrev Reg.FBX_RET_GEN_LO : Nat := 0x40040018
/-- `FBX_RET_GEN_HI` (R141, RO). -/
abbrev Reg.FBX_RET_GEN_HI : Nat := 0x4004001C
/-- `FBX_RET_COPY` (R141, RO). -/
abbrev Reg.FBX_RET_COPY : Nat := 0x40040020
/-- `FBX_RET_SIZE` (R141, RO). -/
abbrev Reg.FBX_RET_SIZE : Nat := 0x40040024
/-- `FBX_RET_FRAME` (R141, RO). -/
abbrev Reg.FBX_RET_FRAME : Nat := 0x40040028
/-- `FBX_FAULT_CNT` (R141, RO). -/
abbrev Reg.FBX_FAULT_CNT : Nat := 0x4004002C
/-- `FBX_FAULT_LAST` (R141, RO). -/
abbrev Reg.FBX_FAULT_LAST : Nat := 0x40040030
/-- `FBX_FAULT_ADDR` (R141, RO). -/
abbrev Reg.FBX_FAULT_ADDR : Nat := 0x40040034
/-- `FBX_SLOT_SEL` (R141, RW). -/
abbrev Reg.FBX_SLOT_SEL : Nat := 0x40040038
/-- `FBX_SLOT_ENT` (R141, RO). -/
abbrev Reg.FBX_SLOT_ENT : Nat := 0x4004003C
/-- `FBX_PART_SEL` (R141, RW). -/
abbrev Reg.FBX_PART_SEL : Nat := 0x40040040
/-- `FBX_PART_MEM` (R141, RO). -/
abbrev Reg.FBX_PART_MEM : Nat := 0x40040044
/-- `FBX_PART_LHASH` (R141, RO). -/
abbrev Reg.FBX_PART_LHASH : Nat := 0x40040048
/-- `FBX_PART_STAT` (R141, RO). -/
abbrev Reg.FBX_PART_STAT : Nat := 0x4004004C
/-- `FBX_CORE_STATn` (R141, RO). -/
abbrev Reg.FBX_CORE_STATn (n : Nat) : Nat := 0x40040050 + 4 * (n % 4)
/-- `FBX_CORE_SVCn` (R141, RO). -/
abbrev Reg.FBX_CORE_SVCn (n : Nat) : Nat := 0x40040060 + 4 * (n % 4)
/-- `FBX_FIFO_STATn` (R141, RO). -/
abbrev Reg.FBX_FIFO_STATn (n : Nat) : Nat := 0x40040070 + 4 * (n % 4)
/-- `FBX_FIFO_LOSTn` (R141, RO). -/
abbrev Reg.FBX_FIFO_LOSTn (n : Nat) : Nat := 0x40040080 + 4 * (n % 4)
/-- `FBX_JRNL_STATn` (R141, RO). -/
abbrev Reg.FBX_JRNL_STATn (n : Nat) : Nat := 0x40040090 + 4 * (n % 4)
/-- `SVI_ID` (R160, RO). -/
abbrev Reg.SVI_ID : Nat := 0x40060000
/-- `SVI_CFG` (R160, RO). -/
abbrev Reg.SVI_CFG : Nat := 0x40060004
/-- `SVI_STAT` (R160, RO). -/
abbrev Reg.SVI_STAT : Nat := 0x40060008
/-- `SVI_CMD` (R160, WO). -/
abbrev Reg.SVI_CMD : Nat := 0x4006000C
/-- `SVI_EVT_STAT` (R160, W1C). -/
abbrev Reg.SVI_EVT_STAT : Nat := 0x40060010
/-- `SVI_EVT_EN` (R160, RW). -/
abbrev Reg.SVI_EVT_EN : Nat := 0x40060014
/-- `SVI_RX_CNT` (R160, RO). -/
abbrev Reg.SVI_RX_CNT : Nat := 0x40060018
/-- `SVI_DROP_CNT` (R160, RO). -/
abbrev Reg.SVI_DROP_CNT : Nat := 0x4006001C
/-- `SVI_FMT_CNT` (R160, RO). -/
abbrev Reg.SVI_FMT_CNT : Nat := 0x40060020
/-- `SVI_OKMAPn` (R160, RO). -/
abbrev Reg.SVI_OKMAPn (n : Nat) : Nat := 0x40060024 + 4 * (n % 8)
/-- `SVI_ANCHOR` (R160, RO). -/
abbrev Reg.SVI_ANCHOR : Nat := 0x40060044
/-- `SVI_STR_SEL` (R160, RW). -/
abbrev Reg.SVI_STR_SEL : Nat := 0x40060048
/-- `SVI_STR_CFG` (R160, RO). -/
abbrev Reg.SVI_STR_CFG : Nat := 0x4006004C
/-- `SVI_STR_ID` (R160, RO). -/
abbrev Reg.SVI_STR_ID : Nat := 0x40060050
/-- `SVI_STR_CONFREV` (R160, RO). -/
abbrev Reg.SVI_STR_CONFREV : Nat := 0x40060054
/-- `SVI_STR_MAC_LO` (R160, RO). -/
abbrev Reg.SVI_STR_MAC_LO : Nat := 0x40060058
/-- `SVI_STR_MAC_HI` (R160, RO). -/
abbrev Reg.SVI_STR_MAC_HI : Nat := 0x4006005C
/-- `SVI_STR_SVID` (R160, RO). -/
abbrev Reg.SVI_STR_SVID : Nat := 0x40060060
/-- `SVI_STR_STAT` (R160, RO). -/
abbrev Reg.SVI_STR_STAT : Nat := 0x40060064
/-- `SVI_STR_LAST` (R160, RO). -/
abbrev Reg.SVI_STR_LAST : Nat := 0x40060068
/-- `SVI_STR_LAT` (R160, RO). -/
abbrev Reg.SVI_STR_LAT : Nat := 0x4006006C
/-- `SVI_STR_MISS` (R160, RO). -/
abbrev Reg.SVI_STR_MISS : Nat := 0x40060070
/-- `SVI_STR_INTERP` (R160, RO). -/
abbrev Reg.SVI_STR_INTERP : Nat := 0x40060074
/-- `SVI_STR_GAPS` (R160, RO). -/
abbrev Reg.SVI_STR_GAPS : Nat := 0x40060078
/-- `SVI_STR_LATE` (R160, RO). -/
abbrev Reg.SVI_STR_LATE : Nat := 0x4006007C
/-- `SVI_STR_DUP` (R160, RO). -/
abbrev Reg.SVI_STR_DUP : Nat := 0x40060080
/-- `SVI_STR_ANCHORS` (R160, RO). -/
abbrev Reg.SVI_STR_ANCHORS : Nat := 0x40060084
/-- `SVI_CH_SEL` (R160, RW). -/
abbrev Reg.SVI_CH_SEL : Nat := 0x40060088
/-- `SVI_CH_VAL` (R160, RL). -/
abbrev Reg.SVI_CH_VAL : Nat := 0x4006008C
/-- `SVI_CH_QUAL` (R160, RO). -/
abbrev Reg.SVI_CH_QUAL : Nat := 0x40060090
/-- `SVI_RS_CRC` (R160, RO). -/
abbrev Reg.SVI_RS_CRC : Nat := 0x40060094
/-- `PE_ID` (R200, RO). -/
abbrev Reg.PE_ID (e : Nat) : Nat := 0x40050000 + 0x80 * (e % 6)
/-- `PE_CFG` (R200, RO). -/
abbrev Reg.PE_CFG (e : Nat) : Nat := 0x40050004 + 0x80 * (e % 6)
/-- `PE_STAT` (R200, RO). -/
abbrev Reg.PE_STAT (e : Nat) : Nat := 0x40050008 + 0x80 * (e % 6)
/-- `PE_CTRL` (R200, WO). -/
abbrev Reg.PE_CTRL (e : Nat) : Nat := 0x4005000C + 0x80 * (e % 6)
/-- `PE_EVT_STAT` (R200, W1C). -/
abbrev Reg.PE_EVT_STAT (e : Nat) : Nat := 0x40050010 + 0x80 * (e % 6)
/-- `PE_EVT_EN` (R200, RW). -/
abbrev Reg.PE_EVT_EN (e : Nat) : Nat := 0x40050014 + 0x80 * (e % 6)
/-- `PE_LOAD` (R200, RO). -/
abbrev Reg.PE_LOAD (e : Nat) : Nat := 0x40050018 + 0x80 * (e % 6)
/-- `PE_PEAK` (R200, RO). -/
abbrev Reg.PE_PEAK (e : Nat) : Nat := 0x4005001C + 0x80 * (e % 6)
/-- `PE_BUDGET` (R200, RO). -/
abbrev Reg.PE_BUDGET (e : Nat) : Nat := 0x40050020 + 0x80 * (e % 6)
/-- `PE_OVR_CNT` (R200, RO). -/
abbrev Reg.PE_OVR_CNT (e : Nat) : Nat := 0x40050024 + 0x80 * (e % 6)
/-- `PE_NOTREADY` (R200, RO). -/
abbrev Reg.PE_NOTREADY (e : Nat) : Nat := 0x40050028 + 0x80 * (e % 6)
/-- `PE_ELEM_SEL` (R200, RW). -/
abbrev Reg.PE_ELEM_SEL (e : Nat) : Nat := 0x4005002C + 0x80 * (e % 6)
/-- `PE_ELEM_IID` (R200, RO). -/
abbrev Reg.PE_ELEM_IID (e : Nat) : Nat := 0x40050030 + 0x80 * (e % 6)
/-- `PE_ELEM_CFG` (R200, RO). -/
abbrev Reg.PE_ELEM_CFG (e : Nat) : Nat := 0x40050034 + 0x80 * (e % 6)
/-- `PE_ELEM_STAT` (R200, RO). -/
abbrev Reg.PE_ELEM_STAT (e : Nat) : Nat := 0x40050038 + 0x80 * (e % 6)
/-- `PE_WORD_SEL` (R200, RW). -/
abbrev Reg.PE_WORD_SEL (e : Nat) : Nat := 0x4005003C + 0x80 * (e % 6)
/-- `PE_ELEM_WORD` (R200, RO). -/
abbrev Reg.PE_ELEM_WORD (e : Nat) : Nat := 0x40050040 + 0x80 * (e % 6)
/-- `PE_OUT_SEL` (R200, RW). -/
abbrev Reg.PE_OUT_SEL (e : Nat) : Nat := 0x40050044 + 0x80 * (e % 6)
/-- `PE_OUT_VAL` (R200, RL). -/
abbrev Reg.PE_OUT_VAL (e : Nat) : Nat := 0x40050048 + 0x80 * (e % 6)
/-- `PE_OUT_AUX` (R200, RO). -/
abbrev Reg.PE_OUT_AUX (e : Nat) : Nat := 0x4005004C + 0x80 * (e % 6)
/-- `PE_ROUTE_SEL` (R200, RW). -/
abbrev Reg.PE_ROUTE_SEL (e : Nat) : Nat := 0x40050050 + 0x80 * (e % 6)
/-- `PE_ROUTE` (R200, RO). -/
abbrev Reg.PE_ROUTE (e : Nat) : Nat := 0x40050054 + 0x80 * (e % 6)
/-- `PE_KAT` (R200, RO). -/
abbrev Reg.PE_KAT (e : Nat) : Nat := 0x40050058 + 0x80 * (e % 6)
/-- `PE_ECC_CNT` (R200, RO). -/
abbrev Reg.PE_ECC_CNT (e : Nat) : Nat := 0x4005005C + 0x80 * (e % 6)
/-- `OLC_ID` (R225, RO). -/
abbrev Reg.OLC_ID : Nat := 0x40160000
/-- `OLC_STAT` (R225, RO). -/
abbrev Reg.OLC_STAT : Nat := 0x40160004
/-- `OLC_CMD` (R225, WO). -/
abbrev Reg.OLC_CMD : Nat := 0x40160008
/-- `OLC_EVT_STAT` (R225, W1C). -/
abbrev Reg.OLC_EVT_STAT : Nat := 0x4016000C
/-- `OLC_EVT_EN` (R225, RW). -/
abbrev Reg.OLC_EVT_EN : Nat := 0x40160010
/-- `OLC_ARM_LO` (R225, RW). -/
abbrev Reg.OLC_ARM_LO : Nat := 0x40160014
/-- `OLC_ARM_HI` (R225, RW). -/
abbrev Reg.OLC_ARM_HI : Nat := 0x40160018
/-- `OLC_CUR_ID` (R225, RO). -/
abbrev Reg.OLC_CUR_ID : Nat := 0x4016001C
/-- `OLC_NEW_ID` (R225, RO). -/
abbrev Reg.OLC_NEW_ID : Nat := 0x40160020
/-- `OLC_REVWIN` (R225, RW). -/
abbrev Reg.OLC_REVWIN : Nat := 0x40160024
/-- `OLC_REVLEFT` (R225, RO). -/
abbrev Reg.OLC_REVLEFT : Nat := 0x40160028
/-- `OLC_LOAD` (R225, RO). -/
abbrev Reg.OLC_LOAD : Nat := 0x4016002C
/-- `OLC_MAP_KEEP` (R225, RO). -/
abbrev Reg.OLC_MAP_KEEP : Nat := 0x40160030
/-- `OLC_MAP_NEW` (R225, RO). -/
abbrev Reg.OLC_MAP_NEW : Nat := 0x40160034
/-- `OLC_COPY` (R225, RO). -/
abbrev Reg.OLC_COPY : Nat := 0x40160038
/-- `OLC_PARTMAPn` (R225, RO). -/
abbrev Reg.OLC_PARTMAPn (n : Nat) : Nat := 0x4016003C + 4 * (n % 4)
/-- `OLC_LAST_LO` (R225, RO). -/
abbrev Reg.OLC_LAST_LO : Nat := 0x4016004C
/-- `FRC_ID` (R226, RO). -/
abbrev Reg.FRC_ID : Nat := 0x40150000
/-- `FRC_STAT` (R226, RO). -/
abbrev Reg.FRC_STAT : Nat := 0x40150004
/-- `FRC_CMD` (R226, WO). -/
abbrev Reg.FRC_CMD : Nat := 0x40150008
/-- `FRC_EVT_STAT` (R226, W1C). -/
abbrev Reg.FRC_EVT_STAT : Nat := 0x4015000C
/-- `FRC_EVT_EN` (R226, RW). -/
abbrev Reg.FRC_EVT_EN : Nat := 0x40150010
/-- `FRC_SEL` (R226, RW). -/
abbrev Reg.FRC_SEL : Nat := 0x40150014
/-- `FRC_ENT` (R226, RO). -/
abbrev Reg.FRC_ENT : Nat := 0x40150018
/-- `FRC_VAL` (R226, RO). -/
abbrev Reg.FRC_VAL : Nat := 0x4015001C
/-- `FRC_RAW` (R226, RO). -/
abbrev Reg.FRC_RAW : Nat := 0x40150020
/-- `FRC_EXP` (R226, RO). -/
abbrev Reg.FRC_EXP : Nat := 0x40150024
/-- `FRC_SESS` (R226, RO). -/
abbrev Reg.FRC_SESS : Nat := 0x40150028
/-- `FRC_REQ_EP` (R226, RW). -/
abbrev Reg.FRC_REQ_EP : Nat := 0x4015002C
/-- `FRC_REQ_VAL` (R226, RW). -/
abbrev Reg.FRC_REQ_VAL : Nat := 0x40150030
/-- `FRC_REQ_EXP` (R226, RW). -/
abbrev Reg.FRC_REQ_EXP : Nat := 0x40150034
/-- `FRC_LAST_LO` (R226, RO). -/
abbrev Reg.FRC_LAST_LO : Nat := 0x40150038
/-- `FRC_SAFE_CNT` (R226, RO). -/
abbrev Reg.FRC_SAFE_CNT : Nat := 0x4015003C
/-- `PAIR_ID` (R249, RO). -/
abbrev Reg.PAIR_ID : Nat := 0x40070000
/-- `PAIR_CFG` (R249, RO). -/
abbrev Reg.PAIR_CFG : Nat := 0x40070004
/-- `PAIR_STAT` (R249, RO). -/
abbrev Reg.PAIR_STAT : Nat := 0x40070008
/-- `PAIR_CMD` (R249, WO). -/
abbrev Reg.PAIR_CMD : Nat := 0x4007000C
/-- `PAIR_EVT_STAT` (R249, W1C). -/
abbrev Reg.PAIR_EVT_STAT : Nat := 0x40070010
/-- `PAIR_EVT_EN` (R249, RW). -/
abbrev Reg.PAIR_EVT_EN : Nat := 0x40070014
/-- `PAIR_LINES` (R249, RO). -/
abbrev Reg.PAIR_LINES : Nat := 0x40070018
/-- `PAIR_ROLE_SINCE_LO` (R249, RL). -/
abbrev Reg.PAIR_ROLE_SINCE_LO : Nat := 0x4007001C
/-- `PAIR_ROLE_SINCE_HI` (R249, RO). -/
abbrev Reg.PAIR_ROLE_SINCE_HI : Nat := 0x40070020
/-- `PAIR_LAST_SW` (R249, RO). -/
abbrev Reg.PAIR_LAST_SW : Nat := 0x40070024
/-- `PAIR_SW_CNT` (R249, RO). -/
abbrev Reg.PAIR_SW_CNT : Nat := 0x40070028
/-- `PAIR_GAP_MAX` (R249, RO). -/
abbrev Reg.PAIR_GAP_MAX : Nat := 0x4007002C
/-- `PAIR_CLASP_STAT` (R249, RO). -/
abbrev Reg.PAIR_CLASP_STAT : Nat := 0x40070030
/-- `PAIR_KILL_CNT` (R249, RO). -/
abbrev Reg.PAIR_KILL_CNT : Nat := 0x40070034
/-- `PAIR_AEVT_STAT` (R277, W1C). -/
abbrev Reg.PAIR_AEVT_STAT : Nat := 0x40070060
/-- `PAIR_AEVT_EN` (R277, RW). -/
abbrev Reg.PAIR_AEVT_EN : Nat := 0x40070064
/-- `PAIR_LINK_STAT` (R277, RO). -/
abbrev Reg.PAIR_LINK_STAT : Nat := 0x40070068
/-- `PAIR_LINK_CNT` (R277, RO). -/
abbrev Reg.PAIR_LINK_CNT : Nat := 0x4007006C
/-- `PAIR_LINK_DLY` (R277, RO). -/
abbrev Reg.PAIR_LINK_DLY : Nat := 0x40070070
/-- `PAIR_GRID_OFS` (R277, RO). -/
abbrev Reg.PAIR_GRID_OFS : Nat := 0x40070074
/-- `PAIR_ALIGN_STAT` (R277, RO). -/
abbrev Reg.PAIR_ALIGN_STAT : Nat := 0x40070078
/-- `PAIR_ALIGN_CNT` (R277, RO). -/
abbrev Reg.PAIR_ALIGN_CNT : Nat := 0x4007007C
/-- `PAIR_REPMAPn` (R277, RO). -/
abbrev Reg.PAIR_REPMAPn (n : Nat) : Nat := 0x40070080 + 4 * (n % 4)
/-- `PAIR_LAGMAPn` (R277, RO). -/
abbrev Reg.PAIR_LAGMAPn (n : Nat) : Nat := 0x40070090 + 4 * (n % 4)
/-- `PAIR_HM_STAT` (R277, RO). -/
abbrev Reg.PAIR_HM_STAT : Nat := 0x400700A0
/-- `PAIR_HM_LO` (R277, RL). -/
abbrev Reg.PAIR_HM_LO : Nat := 0x400700A4
/-- `PAIR_HM_HI` (R277, RO). -/
abbrev Reg.PAIR_HM_HI : Nat := 0x400700A8
/-- `PAIR_HM_PLO` (R277, RO). -/
abbrev Reg.PAIR_HM_PLO : Nat := 0x400700AC
/-- `PAIR_HM_PHI` (R277, RO). -/
abbrev Reg.PAIR_HM_PHI : Nat := 0x400700B0
/-- `PAIR_HM_CNT` (R277, RO). -/
abbrev Reg.PAIR_HM_CNT : Nat := 0x400700B4
/-- `PAIR_LEARN_STAT` (R277, RO). -/
abbrev Reg.PAIR_LEARN_STAT : Nat := 0x400700B8
/-- `PAIR_LEARN_KIB` (R277, RO). -/
abbrev Reg.PAIR_LEARN_KIB : Nat := 0x400700BC
/-- `PAIR_OUT_STAT` (R277, RO). -/
abbrev Reg.PAIR_OUT_STAT : Nat := 0x400700C0
/-- `PAIR_UPD_STAT` (R277, RO). -/
abbrev Reg.PAIR_UPD_STAT : Nat := 0x400700C4
/-- `SAF_ID` (R303, RO). -/
abbrev Reg.SAF_ID : Nat := 0x40080000
/-- `SAF_CFG` (R303, RO). -/
abbrev Reg.SAF_CFG : Nat := 0x40080004
/-- `SAF_STAT` (R303, RO). -/
abbrev Reg.SAF_STAT : Nat := 0x40080008
/-- `SAF_CMD` (R303, WO). -/
abbrev Reg.SAF_CMD : Nat := 0x4008000C
/-- `SAF_EVT_STAT` (R303, W1C). -/
abbrev Reg.SAF_EVT_STAT : Nat := 0x40080010
/-- `SAF_EVT_EN` (R303, RW). -/
abbrev Reg.SAF_EVT_EN : Nat := 0x40080014
/-- `SAF_CAUSE` (R303, RO). -/
abbrev Reg.SAF_CAUSE : Nat := 0x40080018
/-- `SAF_SAFE_FNUM` (R303, RO). -/
abbrev Reg.SAF_SAFE_FNUM : Nat := 0x4008001C
/-- `SAF_WD_CHAL` (R303, RO). -/
abbrev Reg.SAF_WD_CHAL : Nat := 0x40080020
/-- `SAF_WD_RESP` (R303, WO). -/
abbrev Reg.SAF_WD_RESP : Nat := 0x40080024
/-- `SAF_CLK_STAT` (R303, RO). -/
abbrev Reg.SAF_CLK_STAT : Nat := 0x40080028
/-- `SAF_VOLT_STAT` (R303, RO). -/
abbrev Reg.SAF_VOLT_STAT : Nat := 0x4008002C
/-- `SAF_KPATH` (R303, RO). -/
abbrev Reg.SAF_KPATH : Nat := 0x40080030
/-- `SAF_PSAFEn` (R303, RO). -/
abbrev Reg.SAF_PSAFEn (n : Nat) : Nat := 0x40080034 + 4 * (n % 4)
/-- `SAF_SMM_STAT` (R303, RO). -/
abbrev Reg.SAF_SMM_STAT : Nat := 0x40080044
/-- `SAF_SMM_CMD` (R303, WO). -/
abbrev Reg.SAF_SMM_CMD : Nat := 0x40080048
/-- `SAF_SMM_CODE` (R303, WO). -/
abbrev Reg.SAF_SMM_CODE : Nat := 0x4008004C
/-- `SAF_SMM_LEFT` (R303, RO). -/
abbrev Reg.SAF_SMM_LEFT : Nat := 0x40080050
/-- `SAF_SIN_SEL` (R303, RW). -/
abbrev Reg.SAF_SIN_SEL : Nat := 0x40080054
/-- `SAF_SIN_CFG` (R303, RO). -/
abbrev Reg.SAF_SIN_CFG : Nat := 0x40080058
/-- `SAF_SIN_STAT` (R303, RO). -/
abbrev Reg.SAF_SIN_STAT : Nat := 0x4008005C
/-- `SAF_SIN_PEND` (R303, RO). -/
abbrev Reg.SAF_SIN_PEND : Nat := 0x40080060
/-- `SAF_STC_SEL` (R303, RW). -/
abbrev Reg.SAF_STC_SEL : Nat := 0x40080064
/-- `SAF_STC_CFG` (R303, RO). -/
abbrev Reg.SAF_STC_CFG : Nat := 0x40080068
/-- `SAF_STC_ID` (R303, RO). -/
abbrev Reg.SAF_STC_ID : Nat := 0x4008006C
/-- `SAF_STC_STAT` (R303, RO). -/
abbrev Reg.SAF_STC_STAT : Nat := 0x40080070
/-- `SAF_STC_SEQ` (R303, RO). -/
abbrev Reg.SAF_STC_SEQ : Nat := 0x40080074
/-- `SAF_STC_CNT` (R303, RO). -/
abbrev Reg.SAF_STC_CNT : Nat := 0x40080078
/-- `SAF_STC_CMD` (R303, WO). -/
abbrev Reg.SAF_STC_CMD : Nat := 0x4008007C
/-- `SAF_DRV_SEL` (R303, RW). -/
abbrev Reg.SAF_DRV_SEL : Nat := 0x40080080
/-- `SAF_DRV_STAT` (R303, RO). -/
abbrev Reg.SAF_DRV_STAT : Nat := 0x40080084
/-- `SAF_DRV_POS` (R303, RO). -/
abbrev Reg.SAF_DRV_POS : Nat := 0x40080088
/-- `SAF_DRV_REF` (R303, RO). -/
abbrev Reg.SAF_DRV_REF : Nat := 0x4008008C
/-- `CHN_ID` (R330, RO). -/
abbrev Reg.CHN_ID : Nat := 0x400C0000
/-- `CHN_CFG` (R330, RO). -/
abbrev Reg.CHN_CFG : Nat := 0x400C0004
/-- `CHN_STAT` (R330, RO). -/
abbrev Reg.CHN_STAT : Nat := 0x400C0008
/-- `CHN_CMD` (R330, WO). -/
abbrev Reg.CHN_CMD : Nat := 0x400C000C
/-- `CHN_EVT_STAT` (R330, W1C). -/
abbrev Reg.CHN_EVT_STAT : Nat := 0x400C0010
/-- `CHN_EVT_EN` (R330, RW). -/
abbrev Reg.CHN_EVT_EN : Nat := 0x400C0014
/-- `CHN_PORT_SEL` (R330, RW). -/
abbrev Reg.CHN_PORT_SEL : Nat := 0x400C0018
/-- `CHN_EPOCH` (R330, RO). -/
abbrev Reg.CHN_EPOCH : Nat := 0x400C001C
/-- `CHN_PSTAT` (R330, RO). -/
abbrev Reg.CHN_PSTAT : Nat := 0x400C0020
/-- `CHN_PLOAD` (R330, RO). -/
abbrev Reg.CHN_PLOAD : Nat := 0x400C0024
/-- `CHN_PFREE` (R330, RO). -/
abbrev Reg.CHN_PFREE : Nat := 0x400C0028
/-- `CHN_PMISS` (R330, RO). -/
abbrev Reg.CHN_PMISS : Nat := 0x400C002C
/-- `CHN_PCRC` (R330, RO). -/
abbrev Reg.CHN_PCRC : Nat := 0x400C0030
/-- `CHN_SCH_SEL` (R330, RW). -/
abbrev Reg.CHN_SCH_SEL : Nat := 0x400C0034
/-- `CHN_SCH_ENT` (R330, RO). -/
abbrev Reg.CHN_SCH_ENT : Nat := 0x400C0038
/-- `CHN_SCH_START` (R330, RO). -/
abbrev Reg.CHN_SCH_START : Nat := 0x400C003C
/-- `CHN_NODE_SEL` (R330, RW). -/
abbrev Reg.CHN_NODE_SEL : Nat := 0x400C0040
/-- `CHN_NODE_STAT` (R330, RO). -/
abbrev Reg.CHN_NODE_STAT : Nat := 0x400C0044
/-- `CHN_NODE_CFG` (R330, RO). -/
abbrev Reg.CHN_NODE_CFG : Nat := 0x400C0048
/-- `CHN_NODE_SERLO` (R330, RL). -/
abbrev Reg.CHN_NODE_SERLO : Nat := 0x400C004C
/-- `CHN_NODE_SERHI` (R330, RO). -/
abbrev Reg.CHN_NODE_SERHI : Nat := 0x400C0050
/-- `CHN_NODE_DLY` (R330, RO). -/
abbrev Reg.CHN_NODE_DLY : Nat := 0x400C0054
/-- `CHN_NODE_MISS` (R330, RO). -/
abbrev Reg.CHN_NODE_MISS : Nat := 0x400C0058
/-- `CHN_NODE_CRC` (R330, RO). -/
abbrev Reg.CHN_NODE_CRC : Nat := 0x400C005C
/-- `CHN_NODE_TIMES` (R330, RO). -/
abbrev Reg.CHN_NODE_TIMES : Nat := 0x400C0060
/-- `CHN_SEG_SEL` (R330, RW). -/
abbrev Reg.CHN_SEG_SEL : Nat := 0x400C0064
/-- `CHN_SEG_OUT` (R330, RO). -/
abbrev Reg.CHN_SEG_OUT : Nat := 0x400C0068
/-- `CHN_SEG_IN` (R330, RO). -/
abbrev Reg.CHN_SEG_IN : Nat := 0x400C006C
/-- `CHN_OKMAPn` (R330, RO). -/
abbrev Reg.CHN_OKMAPn (n : Nat) : Nat := 0x400C0070 + 4 * (n % 2)
/-- `CHN_STR_CNT` (R330, RO). -/
abbrev Reg.CHN_STR_CNT : Nat := 0x400C0078
/-- `CHN_STR_SEL` (R330, RW). -/
abbrev Reg.CHN_STR_SEL : Nat := 0x400C007C
/-- `CHN_STR_SERLO` (R330, RL). -/
abbrev Reg.CHN_STR_SERLO : Nat := 0x400C0080
/-- `CHN_STR_SERHI` (R330, RO). -/
abbrev Reg.CHN_STR_SERHI : Nat := 0x400C0084
/-- `CHN_STR_PROD` (R330, RO). -/
abbrev Reg.CHN_STR_PROD : Nat := 0x400C0088
/-- `CHN_ASSIGN` (R330, RW). -/
abbrev Reg.CHN_ASSIGN : Nat := 0x400C008C
/-- `CHN_DUP_STAT` (R330, RO). -/
abbrev Reg.CHN_DUP_STAT : Nat := 0x400C0090
/-- `LIO_ID` (R354, RO). -/
abbrev Reg.LIO_ID : Nat := 0x400E0000
/-- `LIO_CFG` (R354, RO). -/
abbrev Reg.LIO_CFG : Nat := 0x400E0004
/-- `LIO_STAT` (R354, RO). -/
abbrev Reg.LIO_STAT : Nat := 0x400E0008
/-- `LIO_CMD` (R354, WO). -/
abbrev Reg.LIO_CMD : Nat := 0x400E000C
/-- `LIO_EVT_STAT` (R354, W1C). -/
abbrev Reg.LIO_EVT_STAT : Nat := 0x400E0010
/-- `LIO_EVT_EN` (R354, RW). -/
abbrev Reg.LIO_EVT_EN : Nat := 0x400E0014
/-- `LIO_DI_SEL` (R354, RW). -/
abbrev Reg.LIO_DI_SEL : Nat := 0x400E0018
/-- `LIO_DI_CFG` (R354, RO). -/
abbrev Reg.LIO_DI_CFG : Nat := 0x400E001C
/-- `LIO_DO_SEL` (R354, RW). -/
abbrev Reg.LIO_DO_SEL : Nat := 0x400E0020
/-- `LIO_DO_CFG` (R354, RO). -/
abbrev Reg.LIO_DO_CFG : Nat := 0x400E0024
/-- `LIO_WD` (R354, RO). -/
abbrev Reg.LIO_WD : Nat := 0x400E0028
/-- `LIO_WD_STAT` (R354, RO). -/
abbrev Reg.LIO_WD_STAT : Nat := 0x400E002C
/-- `LIO_DO_OVL_CNT` (R354, RO). -/
abbrev Reg.LIO_DO_OVL_CNT : Nat := 0x400E0030
/-- `LIO_DI_BRK_CNT` (R354, RO). -/
abbrev Reg.LIO_DI_BRK_CNT : Nat := 0x400E0034
/-- `LIO_WD_CNT` (R354, RO). -/
abbrev Reg.LIO_WD_CNT : Nat := 0x400E0038
/-- `AIO_ID` (R355, RO). -/
abbrev Reg.AIO_ID : Nat := 0x400F0000
/-- `AIO_CFG` (R355, RO). -/
abbrev Reg.AIO_CFG : Nat := 0x400F0004
/-- `AIO_STAT` (R355, RO). -/
abbrev Reg.AIO_STAT : Nat := 0x400F0008
/-- `AIO_CMD` (R355, WO). -/
abbrev Reg.AIO_CMD : Nat := 0x400F000C
/-- `AIO_EVT_STAT` (R355, W1C). -/
abbrev Reg.AIO_EVT_STAT : Nat := 0x400F0010
/-- `AIO_EVT_EN` (R355, RW). -/
abbrev Reg.AIO_EVT_EN : Nat := 0x400F0014
/-- `AIO_SUPPLY` (R355, RO). -/
abbrev Reg.AIO_SUPPLY : Nat := 0x400F0018
/-- `AIO_CONV` (R355, RO). -/
abbrev Reg.AIO_CONV : Nat := 0x400F001C
/-- `AIO_CH_CFG` (R355, RO). -/
abbrev Reg.AIO_CH_CFG (e : Nat) : Nat := 0x400F0040 + 0x40 * (e % 8)
/-- `AIO_CH_STAT` (R355, RO). -/
abbrev Reg.AIO_CH_STAT (e : Nat) : Nat := 0x400F0044 + 0x40 * (e % 8)
/-- `AIO_CH_OUT` (R355, RO). -/
abbrev Reg.AIO_CH_OUT (e : Nat) : Nat := 0x400F0048 + 0x40 * (e % 8)
/-- `AIO_CH_MEAS` (R355, RO). -/
abbrev Reg.AIO_CH_MEAS (e : Nat) : Nat := 0x400F004C + 0x40 * (e % 8)
/-- `AIO_CH_HEAD` (R355, RO). -/
abbrev Reg.AIO_CH_HEAD (e : Nat) : Nat := 0x400F0050 + 0x40 * (e % 8)
/-- `AIO_CH_SAFE` (R355, RO). -/
abbrev Reg.AIO_CH_SAFE (e : Nat) : Nat := 0x400F0054 + 0x40 * (e % 8)
/-- `AIO_CH_HART` (R355, RO). -/
abbrev Reg.AIO_CH_HART (e : Nat) : Nat := 0x400F0058 + 0x40 * (e % 8)
/-- `AIO_CH_HCNT` (R355, RO). -/
abbrev Reg.AIO_CH_HCNT (e : Nat) : Nat := 0x400F005C + 0x40 * (e % 8)
/-- `AIO_CH_EVCNT` (R355, RO). -/
abbrev Reg.AIO_CH_EVCNT (e : Nat) : Nat := 0x400F0060 + 0x40 * (e % 8)
/-- `CAN_ID` (R376, RO). -/
abbrev Reg.CAN_ID : Nat := 0x400D0000
/-- `CAN_STAT` (R376, RO). -/
abbrev Reg.CAN_STAT : Nat := 0x400D0004
/-- `CAN_CMD` (R376, WO). -/
abbrev Reg.CAN_CMD : Nat := 0x400D000C
/-- `CAN_EVT_STAT` (R376, W1C). -/
abbrev Reg.CAN_EVT_STAT : Nat := 0x400D0010
/-- `CAN_EVT_EN` (R376, RW). -/
abbrev Reg.CAN_EVT_EN : Nat := 0x400D0014
/-- `CAN_SCALE_SEL` (R376, RW). -/
abbrev Reg.CAN_SCALE_SEL : Nat := 0x400D0018
/-- `CAN_SCALE_GAIN` (R376, RO). -/
abbrev Reg.CAN_SCALE_GAIN : Nat := 0x400D001C
/-- `CAN_SCALE_OFS` (R376, RO). -/
abbrev Reg.CAN_SCALE_OFS : Nat := 0x400D0020
/-- `CAN_C_CFG` (R376, RO). -/
abbrev Reg.CAN_C_CFG (e : Nat) : Nat := 0x400D0100 + 0x100 * (e % 2)
/-- `CAN_C_BT` (R376, RO). -/
abbrev Reg.CAN_C_BT (e : Nat) : Nat := 0x400D0104 + 0x100 * (e % 2)
/-- `CAN_C_DBT` (R376, RO). -/
abbrev Reg.CAN_C_DBT (e : Nat) : Nat := 0x400D0108 + 0x100 * (e % 2)
/-- `CAN_C_STAT` (R376, RO). -/
abbrev Reg.CAN_C_STAT (e : Nat) : Nat := 0x400D010C + 0x100 * (e % 2)
/-- `CAN_C_ERR` (R376, RO). -/
abbrev Reg.CAN_C_ERR (e : Nat) : Nat := 0x400D0110 + 0x100 * (e % 2)
/-- `CAN_C_FRM` (R376, RO). -/
abbrev Reg.CAN_C_FRM (e : Nat) : Nat := 0x400D0114 + 0x100 * (e % 2)
/-- `CAN_C_ERRCNT` (R376, RO). -/
abbrev Reg.CAN_C_ERRCNT (e : Nat) : Nat := 0x400D0118 + 0x100 * (e % 2)
/-- `CAN_C_UNK` (R376, RO). -/
abbrev Reg.CAN_C_UNK (e : Nat) : Nat := 0x400D011C + 0x100 * (e % 2)
/-- `CAN_C_UNK_LAST` (R376, RO). -/
abbrev Reg.CAN_C_UNK_LAST (e : Nat) : Nat := 0x400D0120 + 0x100 * (e % 2)
/-- `CAN_RXO_SEL` (R376, RW). -/
abbrev Reg.CAN_RXO_SEL (e : Nat) : Nat := 0x400D0124 + 0x100 * (e % 2)
/-- `CAN_RXO_CFG` (R376, RO). -/
abbrev Reg.CAN_RXO_CFG (e : Nat) : Nat := 0x400D0128 + 0x100 * (e % 2)
/-- `CAN_RXO_ID` (R376, RO). -/
abbrev Reg.CAN_RXO_ID (e : Nat) : Nat := 0x400D012C + 0x100 * (e % 2)
/-- `CAN_RXO_STAT` (R376, RO). -/
abbrev Reg.CAN_RXO_STAT (e : Nat) : Nat := 0x400D0130 + 0x100 * (e % 2)
/-- `CAN_RXO_W0` (R376, RL). -/
abbrev Reg.CAN_RXO_W0 (e : Nat) : Nat := 0x400D0134 + 0x100 * (e % 2)
/-- `CAN_RXO_W1` (R376, RO). -/
abbrev Reg.CAN_RXO_W1 (e : Nat) : Nat := 0x400D0138 + 0x100 * (e % 2)
/-- `CAN_RXO_W2` (R376, RO). -/
abbrev Reg.CAN_RXO_W2 (e : Nat) : Nat := 0x400D013C + 0x100 * (e % 2)
/-- `CAN_RXO_W3` (R376, RO). -/
abbrev Reg.CAN_RXO_W3 (e : Nat) : Nat := 0x400D0140 + 0x100 * (e % 2)
/-- `CAN_RXO_Wn` (R376, RO). -/
abbrev Reg.CAN_RXO_Wn (e n : Nat) : Nat := 0x400D0144 + 0x100 * (e % 2) + 4 * (n % 16)
/-- `CAN_TXB_SEL` (R376, RW). -/
abbrev Reg.CAN_TXB_SEL (e : Nat) : Nat := 0x400D0184 + 0x100 * (e % 2)
/-- `CAN_TXB_CFG` (R376, RO). -/
abbrev Reg.CAN_TXB_CFG (e : Nat) : Nat := 0x400D0188 + 0x100 * (e % 2)
/-- `CAN_TXB_ID` (R376, RO). -/
abbrev Reg.CAN_TXB_ID (e : Nat) : Nat := 0x400D018C + 0x100 * (e % 2)
/-- `CAN_TXB_LIFE` (R376, RO). -/
abbrev Reg.CAN_TXB_LIFE (e : Nat) : Nat := 0x400D0190 + 0x100 * (e % 2)
/-- `CAN_TXB_STAT` (R376, RO). -/
abbrev Reg.CAN_TXB_STAT (e : Nat) : Nat := 0x400D0194 + 0x100 * (e % 2)
/-- `CAN_TXB_CMD` (R376, WO). -/
abbrev Reg.CAN_TXB_CMD (e : Nat) : Nat := 0x400D0198 + 0x100 * (e % 2)
/-- `CAN_TXB_CNT` (R376, RO). -/
abbrev Reg.CAN_TXB_CNT (e : Nat) : Nat := 0x400D019C + 0x100 * (e % 2)
/-- `CAN_TT_CFG` (R376, RO). -/
abbrev Reg.CAN_TT_CFG (e : Nat) : Nat := 0x400D01A0 + 0x100 * (e % 2)
/-- `CAN_TT_STAT` (R376, RO). -/
abbrev Reg.CAN_TT_STAT (e : Nat) : Nat := 0x400D01A4 + 0x100 * (e % 2)
/-- `CAN_TT_CELL_SEL` (R376, RW). -/
abbrev Reg.CAN_TT_CELL_SEL (e : Nat) : Nat := 0x400D01A8 + 0x100 * (e % 2)
/-- `CAN_TT_CELL` (R376, RO). -/
abbrev Reg.CAN_TT_CELL (e : Nat) : Nat := 0x400D01AC + 0x100 * (e % 2)
/-- `CAN_TT_MISS` (R376, RO). -/
abbrev Reg.CAN_TT_MISS (e : Nat) : Nat := 0x400D01B0 + 0x100 * (e % 2)
/-- `TIM_ID` (R397, RO). -/
abbrev Reg.TIM_ID : Nat := 0x400B0000
/-- `TIM_CFG` (R397, RO). -/
abbrev Reg.TIM_CFG : Nat := 0x400B0004
/-- `TIM_STAT` (R397, RO). -/
abbrev Reg.TIM_STAT : Nat := 0x400B0008
/-- `TIM_CMD` (R397, WO). -/
abbrev Reg.TIM_CMD : Nat := 0x400B000C
/-- `TIM_EVT_STAT` (R397, W1C). -/
abbrev Reg.TIM_EVT_STAT : Nat := 0x400B0010
/-- `TIM_EVT_EN` (R397, RW). -/
abbrev Reg.TIM_EVT_EN : Nat := 0x400B0014
/-- `TIM_NOW_SLO` (R397, RL). -/
abbrev Reg.TIM_NOW_SLO : Nat := 0x400B0018
/-- `TIM_NOW_SHI` (R397, RO). -/
abbrev Reg.TIM_NOW_SHI : Nat := 0x400B001C
/-- `TIM_NOW_NS` (R397, RO). -/
abbrev Reg.TIM_NOW_NS : Nat := 0x400B0020
/-- `TIM_MONO_LO` (R397, RL). -/
abbrev Reg.TIM_MONO_LO : Nat := 0x400B0024
/-- `TIM_MONO_HI` (R397, RO). -/
abbrev Reg.TIM_MONO_HI : Nat := 0x400B0028
/-- `TIM_TQ` (R397, RO). -/
abbrev Reg.TIM_TQ : Nat := 0x400B002C
/-- `TIM_UTC` (R397, RO). -/
abbrev Reg.TIM_UTC : Nat := 0x400B0030
/-- `TIM_UTC_CFG` (R397, RO). -/
abbrev Reg.TIM_UTC_CFG : Nat := 0x400B0034
/-- `TIM_DIFF_AB` (R397, RO). -/
abbrev Reg.TIM_DIFF_AB : Nat := 0x400B0038
/-- `TIM_HO_FREQ` (R397, RO). -/
abbrev Reg.TIM_HO_FREQ : Nat := 0x400B003C
/-- `TIM_HO_UNC` (R397, RO). -/
abbrev Reg.TIM_HO_UNC : Nat := 0x400B0040
/-- `TIM_HO_AGE` (R397, RO). -/
abbrev Reg.TIM_HO_AGE : Nat := 0x400B0044
/-- `TIM_PTP_SEL` (R397, RW). -/
abbrev Reg.TIM_PTP_SEL : Nat := 0x400B0048
/-- `TIM_PTP_CFG` (R397, RO). -/
abbrev Reg.TIM_PTP_CFG : Nat := 0x400B004C
/-- `TIM_PTP_STAT` (R397, RO). -/
abbrev Reg.TIM_PTP_STAT : Nat := 0x400B0050
/-- `TIM_PTP_OFS` (R397, RO). -/
abbrev Reg.TIM_PTP_OFS : Nat := 0x400B0054
/-- `TIM_PTP_DLY` (R397, RO). -/
abbrev Reg.TIM_PTP_DLY : Nat := 0x400B0058
/-- `TIM_PTP_GM_LO` (R397, RL). -/
abbrev Reg.TIM_PTP_GM_LO : Nat := 0x400B005C
/-- `TIM_PTP_GM_HI` (R397, RO). -/
abbrev Reg.TIM_PTP_GM_HI : Nat := 0x400B0060
/-- `TIM_PTP_GMQ` (R397, RO). -/
abbrev Reg.TIM_PTP_GMQ : Nat := 0x400B0064
/-- `TIM_PTP_CNT` (R397, RO). -/
abbrev Reg.TIM_PTP_CNT : Nat := 0x400B0068
/-- `TIM_IRIG_CFG` (R397, RO). -/
abbrev Reg.TIM_IRIG_CFG : Nat := 0x400B006C
/-- `TIM_IRIG_STAT` (R397, RO). -/
abbrev Reg.TIM_IRIG_STAT : Nat := 0x400B0070
/-- `TIM_IRIG_OFS` (R397, RO). -/
abbrev Reg.TIM_IRIG_OFS : Nat := 0x400B0074
/-- `TIM_PPS_CFG` (R397, RO). -/
abbrev Reg.TIM_PPS_CFG : Nat := 0x400B0078
/-- `TIM_CAP_SEL` (R397, RW). -/
abbrev Reg.TIM_CAP_SEL : Nat := 0x400B007C
/-- `TIM_CAP_CFG` (R397, RW). -/
abbrev Reg.TIM_CAP_CFG : Nat := 0x400B0080
/-- `TIM_CAP_STAT` (R397, RO). -/
abbrev Reg.TIM_CAP_STAT : Nat := 0x400B0084
/-- `TIM_CAP_SLO` (R397, RL). -/
abbrev Reg.TIM_CAP_SLO : Nat := 0x400B0088
/-- `TIM_CAP_SHI` (R397, RO). -/
abbrev Reg.TIM_CAP_SHI : Nat := 0x400B008C
/-- `TIM_CAP_NS` (R397, RO). -/
abbrev Reg.TIM_CAP_NS : Nat := 0x400B0090
/-- `TIM_LQ_CNT` (R397, RO). -/
abbrev Reg.TIM_LQ_CNT : Nat := 0x400B0094
/-- `ETH_ID` (R418, RO). -/
abbrev Reg.ETH_ID : Nat := 0x40090000
/-- `ETH_STAT` (R418, RO). -/
abbrev Reg.ETH_STAT : Nat := 0x40090004
/-- `ETH_CMD` (R418, WO). -/
abbrev Reg.ETH_CMD : Nat := 0x40090008
/-- `ETH_EVT_STAT` (R418, W1C). -/
abbrev Reg.ETH_EVT_STAT : Nat := 0x4009000C
/-- `ETH_EVT_EN` (R418, RW). -/
abbrev Reg.ETH_EVT_EN : Nat := 0x40090010
/-- `ETH_PORT_SEL` (R418, RW). -/
abbrev Reg.ETH_PORT_SEL : Nat := 0x40090014
/-- `ETH_PORT_STAT` (R418, RO). -/
abbrev Reg.ETH_PORT_STAT : Nat := 0x40090018
/-- `ETH_PORT_RX` (R418, RO). -/
abbrev Reg.ETH_PORT_RX : Nat := 0x4009001C
/-- `ETH_PORT_TX` (R418, RO). -/
abbrev Reg.ETH_PORT_TX : Nat := 0x40090020
/-- `ETH_PORT_ERR` (R418, RO). -/
abbrev Reg.ETH_PORT_ERR : Nat := 0x40090024
/-- `ETH_PP_SEL` (R418, RW). -/
abbrev Reg.ETH_PP_SEL : Nat := 0x40090028
/-- `ETH_PP_CFG` (R418, RO). -/
abbrev Reg.ETH_PP_CFG : Nat := 0x4009002C
/-- `ETH_PP_DUP` (R418, RO). -/
abbrev Reg.ETH_PP_DUP : Nat := 0x40090030
/-- `ETH_PP_NODES` (R418, RO). -/
abbrev Reg.ETH_PP_NODES : Nat := 0x40090034
/-- `ETH_PP_DROP` (R418, RO). -/
abbrev Reg.ETH_PP_DROP : Nat := 0x40090038
/-- `ETH_PP_STRANGER` (R418, RO). -/
abbrev Reg.ETH_PP_STRANGER : Nat := 0x4009003C
/-- `ETH_MAC_LO` (R418, RO). -/
abbrev Reg.ETH_MAC_LO : Nat := 0x40090040
/-- `ETH_MAC_HI` (R418, RO). -/
abbrev Reg.ETH_MAC_HI : Nat := 0x40090044
/-- `ETH_IP` (R418, RO). -/
abbrev Reg.ETH_IP : Nat := 0x40090048
/-- `ETH_FIP` (R418, RO). -/
abbrev Reg.ETH_FIP : Nat := 0x4009004C
/-- `ETH_SVC_IP` (R418, RO). -/
abbrev Reg.ETH_SVC_IP : Nat := 0x40090050
/-- `ETH_VLAN_SEL` (R418, RW). -/
abbrev Reg.ETH_VLAN_SEL : Nat := 0x40090054
/-- `ETH_VLAN` (R418, RO). -/
abbrev Reg.ETH_VLAN : Nat := 0x40090058
/-- `ETH_SESS_SEL` (R418, RW). -/
abbrev Reg.ETH_SESS_SEL : Nat := 0x4009005C
/-- `ETH_SESS` (R418, RO). -/
abbrev Reg.ETH_SESS : Nat := 0x40090060
/-- `ETH_SESS_IDLE` (R418, RO). -/
abbrev Reg.ETH_SESS_IDLE : Nat := 0x40090064
/-- `ETH_MMS_STAT` (R418, RO). -/
abbrev Reg.ETH_MMS_STAT : Nat := 0x40090068
/-- `ETH_MMS_CNT` (R418, RO). -/
abbrev Reg.ETH_MMS_CNT : Nat := 0x4009006C
/-- `GSE_ID` (R419, RO). -/
abbrev Reg.GSE_ID : Nat := 0x400A0000
/-- `GSE_CFG` (R419, RO). -/
abbrev Reg.GSE_CFG : Nat := 0x400A0004
/-- `GSE_STAT` (R419, RO). -/
abbrev Reg.GSE_STAT : Nat := 0x400A0008
/-- `GSE_CMD` (R419, WO). -/
abbrev Reg.GSE_CMD : Nat := 0x400A000C
/-- `GSE_EVT_STAT` (R419, W1C). -/
abbrev Reg.GSE_EVT_STAT : Nat := 0x400A0010
/-- `GSE_EVT_EN` (R419, RW). -/
abbrev Reg.GSE_EVT_EN : Nat := 0x400A0014
/-- `GSE_PUB_SEL` (R419, RW). -/
abbrev Reg.GSE_PUB_SEL : Nat := 0x400A0018
/-- `GSE_PUB_CFG` (R419, RO). -/
abbrev Reg.GSE_PUB_CFG : Nat := 0x400A001C
/-- `GSE_PUB_ST` (R419, RO). -/
abbrev Reg.GSE_PUB_ST : Nat := 0x400A0020
/-- `GSE_PUB_SQ` (R419, RO). -/
abbrev Reg.GSE_PUB_SQ : Nat := 0x400A0024
/-- `GSE_PUB_TIMES` (R419, RO). -/
abbrev Reg.GSE_PUB_TIMES : Nat := 0x400A0028
/-- `GSE_PUB_CONFREV` (R419, RO). -/
abbrev Reg.GSE_PUB_CONFREV : Nat := 0x400A002C
/-- `GSE_SUB_SEL` (R419, RW). -/
abbrev Reg.GSE_SUB_SEL : Nat := 0x400A0030
/-- `GSE_SUB_CFG` (R419, RO). -/
abbrev Reg.GSE_SUB_CFG : Nat := 0x400A0034
/-- `GSE_SUB_STAT` (R419, RO). -/
abbrev Reg.GSE_SUB_STAT : Nat := 0x400A0038
/-- `GSE_SUB_ST` (R419, RO). -/
abbrev Reg.GSE_SUB_ST : Nat := 0x400A003C
/-- `GSE_SUB_SQ` (R419, RO). -/
abbrev Reg.GSE_SUB_SQ : Nat := 0x400A0040
/-- `GSE_SUB_TAL` (R419, RO). -/
abbrev Reg.GSE_SUB_TAL : Nat := 0x400A0044
/-- `GSE_SUB_CNT` (R419, RO). -/
abbrev Reg.GSE_SUB_CNT : Nat := 0x400A0048
/-- `GSE_SUB_LOSTCNT` (R419, RO). -/
abbrev Reg.GSE_SUB_LOSTCNT : Nat := 0x400A004C
/-- `GSE_OKMAPn` (R419, RO). -/
abbrev Reg.GSE_OKMAPn (n : Nat) : Nat := 0x400A0050 + 4 * (n % 16)
/-- `UPD_ID` (R453, RO). -/
abbrev Reg.UPD_ID : Nat := 0x40130000
/-- `UPD_STAT` (R453, RO). -/
abbrev Reg.UPD_STAT : Nat := 0x40130004
/-- `UPD_CMD` (R453, WO). -/
abbrev Reg.UPD_CMD : Nat := 0x40130008
/-- `UPD_EVT_STAT` (R453, W1C). -/
abbrev Reg.UPD_EVT_STAT : Nat := 0x4013000C
/-- `UPD_EVT_EN` (R453, RW). -/
abbrev Reg.UPD_EVT_EN : Nat := 0x40130010
/-- `UPD_START` (R453, RO). -/
abbrev Reg.UPD_START : Nat := 0x40130014
/-- `UPD_STAGE_Tn` (R453, RO). -/
abbrev Reg.UPD_STAGE_Tn (n : Nat) : Nat := 0x40130018 + 4 * (n % 5)
/-- `UPD_SLOTMEM` (R453, RO). -/
abbrev Reg.UPD_SLOTMEM : Nat := 0x4013002C
/-- `UPD_CFG_GEN_LO` (R453, RL). -/
abbrev Reg.UPD_CFG_GEN_LO : Nat := 0x40130030
/-- `UPD_CFG_GEN_HI` (R453, RO). -/
abbrev Reg.UPD_CFG_GEN_HI : Nat := 0x40130034
/-- `UPD_CFG_ID` (R453, RO). -/
abbrev Reg.UPD_CFG_ID : Nat := 0x40130038
/-- `UPD_S1_STAT` (R453, RO). -/
abbrev Reg.UPD_S1_STAT : Nat := 0x4013003C
/-- `UPD_FW_SLOT` (R453, RO). -/
abbrev Reg.UPD_FW_SLOT : Nat := 0x40130040
/-- `UPD_FW_VERA` (R453, RO). -/
abbrev Reg.UPD_FW_VERA : Nat := 0x40130044
/-- `UPD_FW_VERB` (R453, RO). -/
abbrev Reg.UPD_FW_VERB : Nat := 0x40130048
/-- `UPD_FW_PCL` (R453, RO). -/
abbrev Reg.UPD_FW_PCL : Nat := 0x4013004C
/-- `UPD_STG_STAT` (R453, RO). -/
abbrev Reg.UPD_STG_STAT : Nat := 0x40130050
/-- `UPD_CONFIRM` (R453, RO). -/
abbrev Reg.UPD_CONFIRM : Nat := 0x40130054
/-- `UPD_OTP_ARB` (R453, RO). -/
abbrev Reg.UPD_OTP_ARB : Nat := 0x40130058
/-- `UPD_OTP_KEYS` (R453, RO). -/
abbrev Reg.UPD_OTP_KEYS : Nat := 0x4013005C
/-- `UPD_TRUST_STAT` (R453, RO). -/
abbrev Reg.UPD_TRUST_STAT : Nat := 0x40130060
/-- `UPD_TRUST_SEL` (R453, RW). -/
abbrev Reg.UPD_TRUST_SEL : Nat := 0x40130064
/-- `UPD_TRUST_ENT` (R453, RO). -/
abbrev Reg.UPD_TRUST_ENT : Nat := 0x40130068
/-- `UPD_TOKEN_NUM` (R453, RO). -/
abbrev Reg.UPD_TOKEN_NUM : Nat := 0x4013006C
/-- `UPD_DIE_LO` (R453, RL). -/
abbrev Reg.UPD_DIE_LO : Nat := 0x40130070
/-- `UPD_DIE_HI` (R453, RO). -/
abbrev Reg.UPD_DIE_HI : Nat := 0x40130074
/-- `UPD_REC_STAT` (R453, RO). -/
abbrev Reg.UPD_REC_STAT : Nat := 0x40130078
/-- `ACC_ID` (R467, RO). -/
abbrev Reg.ACC_ID : Nat := 0x40120000
/-- `ACC_STAT` (R467, RO). -/
abbrev Reg.ACC_STAT : Nat := 0x40120004
/-- `ACC_CMD` (R467, WO). -/
abbrev Reg.ACC_CMD : Nat := 0x40120008
/-- `ACC_EVT_STAT` (R467, W1C). -/
abbrev Reg.ACC_EVT_STAT : Nat := 0x4012000C
/-- `ACC_EVT_EN` (R467, RW). -/
abbrev Reg.ACC_EVT_EN : Nat := 0x40120010
/-- `ACC_BARRIER` (R467, WO). -/
abbrev Reg.ACC_BARRIER : Nat := 0x40120014
/-- `ACC_BAR_STAT` (R467, RO). -/
abbrev Reg.ACC_BAR_STAT : Nat := 0x40120018
/-- `ACC_INI_SEL` (R467, RW). -/
abbrev Reg.ACC_INI_SEL : Nat := 0x40120020
/-- `ACC_INI_BASE_LO` (R467, RWB). -/
abbrev Reg.ACC_INI_BASE_LO : Nat := 0x40120024
/-- `ACC_INI_BASE_HI` (R467, RWB). -/
abbrev Reg.ACC_INI_BASE_HI : Nat := 0x40120028
/-- `ACC_INI_ATTR` (R467, RWB). -/
abbrev Reg.ACC_INI_ATTR : Nat := 0x4012002C
/-- `ACC_INI_MID` (R467, RWB). -/
abbrev Reg.ACC_INI_MID : Nat := 0x40120030
/-- `ACC_TGT_SEL` (R467, RW). -/
abbrev Reg.ACC_TGT_SEL : Nat := 0x40120034
/-- `ACC_TGT_BASE_LO` (R467, RWB). -/
abbrev Reg.ACC_TGT_BASE_LO : Nat := 0x40120038
/-- `ACC_TGT_BASE_HI` (R467, RWB). -/
abbrev Reg.ACC_TGT_BASE_HI : Nat := 0x4012003C
/-- `ACC_TGT_ATTR` (R467, RWB). -/
abbrev Reg.ACC_TGT_ATTR : Nat := 0x40120040
/-- `ACC_TGT_MID` (R467, RWB). -/
abbrev Reg.ACC_TGT_MID : Nat := 0x40120044
/-- `ACC_ENG_PARTn` (R467, RO). -/
abbrev Reg.ACC_ENG_PARTn (n : Nat) : Nat := 0x40120048 + 4 * (n % 12)
/-- `ACC_VIOL_CNT` (R467, RO). -/
abbrev Reg.ACC_VIOL_CNT : Nat := 0x40120078
/-- `ACC_VIOL_LAST` (R467, RO). -/
abbrev Reg.ACC_VIOL_LAST : Nat := 0x4012007C
/-- `ACC_VIOL_ADDR_LO` (R467, RL). -/
abbrev Reg.ACC_VIOL_ADDR_LO : Nat := 0x40120080
/-- `ACC_VIOL_ADDR_HI` (R467, RO). -/
abbrev Reg.ACC_VIOL_ADDR_HI : Nat := 0x40120084
/-- `ACC_TBL_CRC` (R467, RO). -/
abbrev Reg.ACC_TBL_CRC : Nat := 0x40120088
/-- `REC_ID` (R483, RO). -/
abbrev Reg.REC_ID : Nat := 0x40110000
/-- `REC_STAT` (R483, RO). -/
abbrev Reg.REC_STAT : Nat := 0x40110004
/-- `REC_CMD` (R483, WO). -/
abbrev Reg.REC_CMD : Nat := 0x40110008
/-- `REC_EVT_STAT` (R483, W1C). -/
abbrev Reg.REC_EVT_STAT : Nat := 0x4011000C
/-- `REC_EVT_EN` (R483, RW). -/
abbrev Reg.REC_EVT_EN : Nat := 0x40110010
/-- `REC_SEQ_NEXT` (R483, RO). -/
abbrev Reg.REC_SEQ_NEXT : Nat := 0x40110014
/-- `REC_CLR_BASE` (R483, RO). -/
abbrev Reg.REC_CLR_BASE : Nat := 0x40110018
/-- `REC_LOCKET_CNT` (R483, RO). -/
abbrev Reg.REC_LOCKET_CNT : Nat := 0x4011001C
/-- `REC_RING_CNT` (R483, RO). -/
abbrev Reg.REC_RING_CNT : Nat := 0x40110020
/-- `REC_RING_OLDEST` (R483, RO). -/
abbrev Reg.REC_RING_OLDEST : Nat := 0x40110024
/-- `REC_TOTAL` (R483, RO). -/
abbrev Reg.REC_TOTAL : Nat := 0x40110028
/-- `REC_LOST` (R483, RO). -/
abbrev Reg.REC_LOST : Nat := 0x4011002C
/-- `REC_BUF_FILL` (R483, RO). -/
abbrev Reg.REC_BUF_FILL : Nat := 0x40110030
/-- `REC_FLUSH_CNT` (R483, RO). -/
abbrev Reg.REC_FLUSH_CNT : Nat := 0x40110034
/-- `REC_LAST_FLUSH` (R483, RO). -/
abbrev Reg.REC_LAST_FLUSH : Nat := 0x40110038
/-- `REC_CLR_NONCE` (R483, RO). -/
abbrev Reg.REC_CLR_NONCE : Nat := 0x4011003C
/-- `REC_CLR_LAST` (R483, RO). -/
abbrev Reg.REC_CLR_LAST : Nat := 0x40110040
/-- `REC_HDR_GEN` (R483, RO). -/
abbrev Reg.REC_HDR_GEN : Nat := 0x40110044
/-- `REC_RD_SEQ` (R483, RW). -/
abbrev Reg.REC_RD_SEQ : Nat := 0x40110048
/-- `REC_RD_W0` (R483, RL). -/
abbrev Reg.REC_RD_W0 : Nat := 0x4011004C
/-- `REC_RD_Wn` (R483, RO). -/
abbrev Reg.REC_RD_Wn (n : Nat) : Nat := 0x40110050 + 4 * (n % 7)
/-- `DPY_ID` (R500, RO). -/
abbrev Reg.DPY_ID : Nat := 0x40100000
/-- `DPY_CFG` (R500, RO). -/
abbrev Reg.DPY_CFG : Nat := 0x40100004
/-- `DPY_STAT` (R500, RO). -/
abbrev Reg.DPY_STAT : Nat := 0x40100008
/-- `DPY_CMD` (R500, WO). -/
abbrev Reg.DPY_CMD : Nat := 0x4010000C
/-- `DPY_EVT_STAT` (R500, W1C). -/
abbrev Reg.DPY_EVT_STAT : Nat := 0x40100010
/-- `DPY_EVT_EN` (R500, RW). -/
abbrev Reg.DPY_EVT_EN : Nat := 0x40100014
/-- `DPY_TEMP` (R500, RO). -/
abbrev Reg.DPY_TEMP : Nat := 0x40100018
/-- `DPY_TBL_CRC` (R500, RO). -/
abbrev Reg.DPY_TBL_CRC : Nat := 0x4010001C
/-- `DPY_REQ_ADDR` (R500, RW). -/
abbrev Reg.DPY_REQ_ADDR : Nat := 0x40100020
/-- `DPY_REQ` (R500, WO). -/
abbrev Reg.DPY_REQ : Nat := 0x40100024
/-- `DPY_REG_SEL` (R500, RW). -/
abbrev Reg.DPY_REG_SEL : Nat := 0x40100028
/-- `DPY_REG_CFG` (R500, RO). -/
abbrev Reg.DPY_REG_CFG : Nat := 0x4010002C
/-- `DPY_REG_STAT` (R500, RO). -/
abbrev Reg.DPY_REG_STAT : Nat := 0x40100030
/-- `DPY_UPD_CNT` (R500, RO). -/
abbrev Reg.DPY_UPD_CNT : Nat := 0x40100034
/-- `DPY_LED` (R500, RO). -/
abbrev Reg.DPY_LED : Nat := 0x40100038
/-- `DPY_JRNL_STAT` (R500, RO). -/
abbrev Reg.DPY_JRNL_STAT : Nat := 0x4010003C
/-- `DEV_ID` (R535, RO). -/
abbrev Reg.DEV_ID : Nat := 0x40000000
/-- `DEV_PRODUCT` (R535, RO). -/
abbrev Reg.DEV_PRODUCT : Nat := 0x40000004
/-- `DEV_STAT` (R535, RO). -/
abbrev Reg.DEV_STAT : Nat := 0x40000008
/-- `DEV_CMD` (R535, WO). -/
abbrev Reg.DEV_CMD : Nat := 0x4000000C
/-- `DEV_EVT_STAT` (R535, W1C). -/
abbrev Reg.DEV_EVT_STAT : Nat := 0x40000010
/-- `DEV_EVT_EN` (R535, RW). -/
abbrev Reg.DEV_EVT_EN : Nat := 0x40000014
/-- `DEV_ORDER` (R535, RO). -/
abbrev Reg.DEV_ORDER : Nat := 0x40000018
/-- `DEV_SER_LO` (R535, RL). -/
abbrev Reg.DEV_SER_LO : Nat := 0x4000001C
/-- `DEV_SER_HI` (R535, RO). -/
abbrev Reg.DEV_SER_HI : Nat := 0x40000020
/-- `DEV_STRAPS` (R535, RO). -/
abbrev Reg.DEV_STRAPS : Nat := 0x40000024
/-- `DEV_FEED` (R535, RO). -/
abbrev Reg.DEV_FEED : Nat := 0x40000028
/-- `DEV_MEM` (R535, RO). -/
abbrev Reg.DEV_MEM : Nat := 0x4000002C
/-- `DEV_FW_VER` (R535, RO). -/
abbrev Reg.DEV_FW_VER : Nat := 0x40000030
/-- `DEV_POH` (R535, RO). -/
abbrev Reg.DEV_POH : Nat := 0x40000034
/-- `DEV_INSERT` (R535, RO). -/
abbrev Reg.DEV_INSERT : Nat := 0x40000038
/-- `DEV_STARTS` (R535, RO). -/
abbrev Reg.DEV_STARTS : Nat := 0x4000003C
/-- `DEV_MFG` (R535, RO). -/
abbrev Reg.DEV_MFG : Nat := 0x40000040
/-- `DEV_UPTIME_LO` (R535, RL). -/
abbrev Reg.DEV_UPTIME_LO : Nat := 0x40000044
/-- `DEV_UPTIME_HI` (R535, RO). -/
abbrev Reg.DEV_UPTIME_HI : Nat := 0x40000048
/-- `DEV_I2C` (R535, RO). -/
abbrev Reg.DEV_I2C : Nat := 0x4000004C
/-- `DEV_BANDHn` (R535, RO). -/
abbrev Reg.DEV_BANDHn (n : Nat) : Nat := 0x40000050 + 4 * (n % 4)
/-- `MON_ID` (R536, RO). -/
abbrev Reg.MON_ID : Nat := 0x40140000
/-- `MON_STAT` (R536, RO). -/
abbrev Reg.MON_STAT : Nat := 0x40140004
/-- `MON_CMD` (R536, WO). -/
abbrev Reg.MON_CMD : Nat := 0x40140008
/-- `MON_EVT_STAT` (R536, W1C). -/
abbrev Reg.MON_EVT_STAT : Nat := 0x4014000C
/-- `MON_EVT_EN` (R536, RW). -/
abbrev Reg.MON_EVT_EN : Nat := 0x40140010
/-- `MON_DIE` (R536, RO). -/
abbrev Reg.MON_DIE : Nat := 0x40140014
/-- `MON_TREND_SEL` (R536, RW). -/
abbrev Reg.MON_TREND_SEL : Nat := 0x40140018
/-- `MON_TREND_VAL` (R536, RO). -/
abbrev Reg.MON_TREND_VAL : Nat := 0x4014001C
/-- `MON_TEMPn` (R536, RO). -/
abbrev Reg.MON_TEMPn (n : Nat) : Nat := 0x40140020 + 4 * (n % 12)
/-- `MON_TPEAKn` (R536, RO). -/
abbrev Reg.MON_TPEAKn (n : Nat) : Nat := 0x40140050 + 4 * (n % 12)
/-- `MON_VOLTn` (R536, RO). -/
abbrev Reg.MON_VOLTn (n : Nat) : Nat := 0x40140080 + 4 * (n % 24)
/-- `MON_VEXTn` (R536, RO). -/
abbrev Reg.MON_VEXTn (n : Nat) : Nat := 0x401400E0 + 4 * (n % 24)
/-- `MON_PROCn` (R536, RO). -/
abbrev Reg.MON_PROCn (n : Nat) : Nat := 0x40140140 + 4 * (n % 16)
/-- `MON_PBASEn` (R536, RO). -/
abbrev Reg.MON_PBASEn (n : Nat) : Nat := 0x40140180 + 4 * (n % 16)

end Sys2Proof.Machine
end

