-- ==== Sys2Proof/Machine/Parts6.lean ====
section
/-! DEFINITION. The state of the monitors and of the slot (chapters Health monitors, Module, slot and connector). -/

namespace Sys2Proof.Machine

/-- A temperature sensor (R523, R524), in tenths of a degree. hi, lo, top: consecutive samples at or above the warning, below
the clear level, and at or above 125 °C; far, near: consecutive samples that differ from the median or agree; recd: SEQ and
frame of the warning's record. -/
structure TempState where
  val : Int := 0
  hi : Nat := 0
  lo : Nat := 0
  top : Nat := 0
  far : Nat := 0
  near : Nat := 0
  valid : Bool := false
  excl : Bool := false
  warn : Bool := false
  crit : Bool := false
  peak : Option Int := none
  recd : Option (Nat × Nat) := none
deriving DecidableEq, Repr

/-- A voltage monitor (R528): outside its window, the extremes since the last clear, the record of the excursion. -/
structure VoltState where
  low : Bool := false
  high : Bool := false
  ext : Option (Nat × Nat) := none
  recd : Option (Nat × Nat) := none
deriving DecidableEq, Repr

/-- A ring oscillator (R529, R530), slowdown in 0.01 %: the present one, the sum and the number of the day's values, the bits. -/
structure ProcState where
  slow : Int := 0
  sum : Int := 0
  cnt : Nat := 0
  warn : Bool := false
  alarm : Bool := false
  rate : Bool := false
deriving DecidableEq, Repr

/-- The monitors. log: daily means, keyed TAI day × 16 + oscillator; newest: last day logged; poh, bands: ns accumulated;
lastTick: MONO_NOW at the last temperature sample; cool: MONO_NOW since which the die is below 110 °C after a drop; waiting:
the module waits in GUARD after a drop; trip: a hardware trip has switched the die off; hot: power-good is withheld; order, serial, mfg:
fused at manufacture (DEV_ORDER, DEV_SER, DEV_MFG). -/
structure HltState where
  temps : Tbl TempState := []
  volts : Tbl VoltState := []
  procs : Tbl ProcState := []
  log : Tbl (Option Int) := []
  newest : Option Nat := none
  poh : Nat := 0
  bands : Tbl Nat := []
  inserts : Nat := 0
  starts : Nat := 0
  lastTick : Nat := 0
  cool : Option Nat := none
  waiting : Bool := false
  trip : Bool := false
  hot : Bool := false
  order : Nat := 0x0153
  serial : Nat := 1
  mfg : Nat := 0
deriving DecidableEq, Repr

/-- The slot (R506–R515). latched: the lever latch switch is closed; side, sideN, cid: straps as read at the end of HOLD;
now…: straps at the pins; power: from t0 to the end of the hold-up; failing: the power-fail warning is asserted; removal: the
module is being withdrawn; remFlush: its recorder flush has started; remLit: the REMOVE LED; feed1, feed2: in range; seated: the
insertion has been counted; unlatchAt: MONO_NOW of the last refused unlatch. -/
structure SlotState where
  latched : Bool := true
  side : Bool := false
  sideN : Bool := false
  cid : Nat := 0
  nowSide : Bool := false
  nowSideN : Bool := true
  nowCid : Nat := 0
  power : Bool := false
  failing : Option Nat := none
  removal : Bool := false
  remFlush : Bool := false
  remLit : Bool := false
  faultFlash : Bool := false
  feed1 : Bool := false
  feed2 : Bool := false
  seated : Bool := false
  recButton : Bool := false
  unlatchAt : Option Nat := none
deriving DecidableEq, Repr

end Sys2Proof.Machine
end

