-- ==== Sys2Proof/Machine/Parts9.lean ====
section
/-! DEFINITION. The state of the front display (chapter Front display). -/

namespace Sys2Proof.Machine

/-- The journal of a row (R492). st: 0 settled, 1 running, 2 cancelling, 3 clearing; valid: its CRC verifies; n: phases of the
waveforms that the present state runs; prev, target: the levels of its 320 pixels; debts: the signed sum of phase codes of each
pixel at entry to the present state (none listed: zero). -/
structure DpyRow where
  st : Nat := 0
  valid : Bool := false
  done : Nat := 0
  n : Nat := 0
  band : Nat := 0
  prev : List Nat := []
  target : List Nat := []
  debts : List Int := []
deriving DecidableEq, Repr

/-- A region (R491): the rows of the request under way, whether its waveforms have started, and the pending request. -/
structure DpyRegion where
  cur : Option (List (Nat × List Nat)) := none
  started : Bool := false
  pend : Option (List (Nat × List Nat)) := none
deriving DecidableEq, Repr

/-- The display. rows: the journal, in MRAM; regions: the regions in force; clear: rows that owe a full clear to their present
levels; flip: VCOM signs are the opposite of the first ones; stopping, stopped: after a power-fail warning; final: 0 none,
1 wanted, 2 being written; recov: rows in recovery; wait: those of them not yet
started; src, nodrive: as in DPY_STAT; shown: what region 0 shows. -/
structure DpyState where
  rows : Tbl DpyRow := []
  regions : List (Nat × (Nat × Nat)) := []
  reqs : Tbl DpyRegion := []
  clear : List Nat := []
  flip : Bool := false
  stopping : Bool := false
  stopped : Bool := false
  final : Nat := 0
  recov : List Nat := []
  wait : List Nat := []
  src : Bool := false
  nodrive : Bool := false
  temp : Int := 0
  replaced : Nat := 0
  updates : Nat := 0
  startCode : Nat := 0
  nrec : Nat := 0
  nunk : Nat := 0
  shown : List Nat := []
deriving DecidableEq, Repr

end Sys2Proof.Machine
end

