-- ==== Sys2Proof/Machine/State.lean ====
section
/-! DEFINITION. The state of the module, the reasons a step can stop, and the state after reset. -/

namespace Sys2Proof.Machine

open Sys2Proof

/-- Why the module stops. No rule of the spec stops the module without an effect, so no command raises one. -/
inductive Fault where
  /-- Raised by no command of this model (safe). -/
  | none
deriving DecidableEq, Repr

/-- Why a command is not run. -/
inductive Refusal where
  /-- A command that has no meaning yet (safe); raised by no arm once the model is whole. -/
  | notModelled (mnemonic : String)
deriving DecidableEq, Repr

/-- The answer the sender of the last command gets: nothing, an error response, one value, several values, a stall, or a
refusal with its code. -/
inductive Resp where
  | none
  | error
  | value (v : Nat)
  | values (vs : List Nat)
  | stall
  | refused (code : Nat)
deriving DecidableEq, Repr

/-- Something the module sent since the freeze: the bus (0 Tokel, 1 chain, 2 CAN, 3 Ethernet, 4 HART, 5 chassis management
bus, 6 local lines), a kind and the content. -/
structure Sent where
  bus : Nat := 0
  kind : Nat := 0
  data : List Nat := []
deriving DecidableEq, Repr

/-- The state. regs holds every stored register (an unlisted one holds its reset value); cfg is the configuration image in
force; freeN counts the free values drawn; sent lists what the module
has sent since the freeze; resp answers the last command; pending is the queue of waiting commands. -/
structure State where
  pending : List Instr := []
  resp : Resp := .none
  sent : List Sent := []
  freeN : Nat := 0
  regs : Tbl Word := []
  cfg : Image := {}
  grid : Grid := {}
  sig : Signals := {}
  sched : Sched := {}
  le : Tbl LeEngine := []
  fbx : Fbx := {}
  acc : AccState := {}
  rcd : Recorder := {}
  pair : PairState := {}
  saf : SafState := {}
  olc : OlcState := {}
  frc : FrcState := {}
  upd : UpdState := {}
  lio : LioState := {}
  chn : ChnState := {}
  can : CanState := {}
  tim : TimState := {}
  hlt : HltState := {}
  slot : SlotState := {}
  svi : SviState := {}
  pe : PeState := {}
  stn : StnState := {}
  dpy : DpyState := {}
  sess : Tbl (Option Session) := []
deriving DecidableEq, Repr

/-- The module right after reset. -/
def State.reset : State := {}

/-- The outcome type of every command. -/
abbrev Out := Host.Outcome State Fault Refusal

end Sys2Proof.Machine
end

