-- ==== Sys2Proof/Machine/Ops.lean ====
section
/-! DEFINITION. The shared operations: registers, records, commands with a key, access decisions, the directory and the
collection of values. -/

namespace Sys2Proof.Machine

open Sys2Proof

/-! ### Registers -/

/-- The word a stored register holds. -/
def rd (s : State) (a : Nat) : Word := Tbl.read regReset s.regs a

/-- Write a stored register. -/
def wr (s : State) (a : Nat) (v : Word) : State := { s with regs := Tbl.write regReset s.regs a v }

/-- Write one field of a stored register. -/
def wrField (s : State) (a hi lo v : Nat) : State := wr s a (putField (rd s a) hi lo v)

/-- Set bits of a stored register. -/
def setBits (s : State) (a : Nat) (m : Word) : State := wr s a (rd s a ||| m)

/-- Clear bits of a stored register. -/
def clrBits (s : State) (a : Nat) (m : Word) : State := wr s a (rd s a &&& ~~~ m)

/-- Set one bit. -/
def setBit (s : State) (a i : Nat) : State := wr s a (rd s a ||| BitVec.ofNat 32 (2 ^ i))

/-- Add to a 32-bit counter that saturates. -/
def addReg (s : State) (a k : Nat) : State := wr s a (w32 (satAdd 0xFFFFFFFF (rd s a).toNat k))

/-- Count one event in a 32-bit counter that saturates. -/
def bump (s : State) (a : Nat) : State := addReg s a 1

/-- Add to a counter in field hi:lo that saturates. -/
def addField (s : State) (a hi lo k : Nat) : State :=
  wrField s a hi lo (satAdd (2 ^ (hi + 1 - lo) - 1) (field (rd s a) hi lo) k)

/-- Keep the greater of a peak in field hi:lo and v. -/
def peakField (s : State) (a hi lo v : Nat) : State :=
  wrField s a hi lo (max (field (rd s a) hi lo) (min v (2 ^ (hi + 1 - lo) - 1)))

/-- Set registers to zero. -/
def zeroRegs (s : State) (as : List Nat) : State := as.foldl (fun t a => wr t a 0) s

/-- The numbers 0 to n - 1. -/
def upto (n : Nat) : List Nat := List.range n

/-! ### Answers and free values -/

/-- The machine goes on. -/
def done (s : State) : Out := .next s

/-- Answer the sender. -/
def answer (s : State) (r : Resp) : State := { s with resp := r }

/-- Draw a fresh 32-bit value that the spec does not state. -/
def drawWord (s : State) : Word × State := (Config.freeWord s.freeN, { s with freeN := s.freeN + 1 })

/-- Draw a fresh 64-bit value that the spec does not state. -/
def drawDWord (s : State) : DWord × State := (Config.freeDWord s.freeN, { s with freeN := s.freeN + 1 })

/-! ### Time -/

/-- The start of absolute frame n in ns of sequencer time (R15, R17). -/
def frameStart (n : Nat) : Nat := n / 2400 * 1000000000 + n % 2400 * 1250000 / 3

/-- Sequencer time reaches t. Time never runs back. -/
def atTime (s : State) (t : Nat) : State :=
  { s with grid := { s.grid with now := max s.grid.now t, mono := s.grid.mono + (t - s.grid.now) } }

/-- The period of a period index in frames (R28). -/
def periodFrames : Nat → Nat
  | 0 => 1 | 1 => 2 | 2 => 4 | 3 => 8 | 4 => 16 | 5 => 32 | 6 => 96 | 7 => 480 | _ => 2400

/-! ### The recorder (R468–R477) -/

/-- What enters the recorder: block, event byte, severity and partition where the rules state them (no severity: a free
one), the parameters that the rules state, the facts a rule lists without a parameter order, and a hardware timestamp. -/
structure RecReq where
  blk : Nat
  ev : Nat
  sev : Option Nat := none
  part : Nat := 255
  p : List (Option Nat) := []
  info : List Nat := []
  stamp : Option Nat := none

/-- Parameter i of a record: the stated value or a free one. -/
def recParamAt (n : Nat) (p : List (Option Nat)) (i : Nat) : Word :=
  match p[i]? with
  | some (some v) => w32 v
  | _ => Config.recParam n i

/-- TIM_TQ bits 7:4 at present. -/
def tqNow (s : State) : Nat := field (rd s Reg.TIM_TQ) 7 4

/-- The record that a request makes (R468–R472). -/
def recOf (s : State) (r : RecReq) : Rec :=
  let code := r.blk * 256 + r.ev
  let coarse := r.stamp.isNone && Config.recCoarse code
  { time := match r.stamp with
      | some t => t
      | none => if coarse then s.grid.freezeAt else s.grid.now
    seq := s.rcd.seqNext
    code := code
    part := r.part
    tq := tqNow s
    pf := s.rcd.pf
    coarse := coarse
    sev := match r.sev with
      | some v => v
      | none => (Config.recSev s.freeN).val
    p := (upto 4).map (recParamAt s.freeN r.p)
    info := r.info.map w32 }

/-- The newest info record of a buffer replaced by an alarm (R481). -/
def dropNewestInfo : List Rec → List Rec
  | [] => []
  | r :: rs => if r.sev ≤ 1 ∧ rs.all (fun q => decide (2 ≤ q.sev)) then rs else r :: dropNewestInfo rs

/-- The severity of the newest info record of a buffer. -/
def newestInfoSev (b : List Rec) : Nat := (b.reverse.find? fun q => decide (q.sev ≤ 1)).elim 0 (·.sev)

/-- A record is discarded (R475). -/
def discardRec (s : State) (sev : Nat) : State :=
  setBit { s with rcd := { s.rcd with lost := satAdd 0xFFFFFFFF s.rcd.lost 1, frameLost := sev :: s.rcd.frameLost } } Reg.REC_EVT_STAT 0

/-- A record enters the buffer and receives its SEQ (R471). -/
def acceptRec (s : State) (r : Rec) : State :=
  let b := s.rcd.buf ++ [r]
  { s with rcd := { s.rcd with
      buf := b
      peak := max s.rcd.peak b.length
      seqNext := s.rcd.seqNext + 1
      total := satAdd 0xFFFFFFFF s.rcd.total 1 } }

/-- A record enters the recorder or is discarded (R475, R481). -/
def enterRec (s : State) (r : Rec) : State :=
  if r.sev ≤ 1 then
    if s.rcd.buf.length < 12288 then acceptRec s r else discardRec s r.sev
  else if s.rcd.buf.length < 16384 then acceptRec s r
  else acceptRec (discardRec { s with rcd := { s.rcd with buf := dropNewestInfo s.rcd.buf } } (newestInfoSev s.rcd.buf)) r

/-- Record an event. -/
def record (s : State) (r : RecReq) : State := enterRec { s with freeN := s.freeN + 1 } (recOf s r)

/-- Record an event that has no status bit; k numbers it within its block (R470). -/
def recordBare (s : State) (k : Nat) (r : RecReq) : State :=
  record s { r with ev := 0x80 + (Config.recByte r.blk k).val }

/-- The event status register of a block; the blocks with one register for each engine take the engine (R538). -/
def evtStat (blk e : Nat) : Nat :=
  match blk with
  | 0 => Reg.DEV_EVT_STAT | 1 => Reg.FRM_EVT_STAT | 2 => Reg.SIG_EVT_STAT | 3 => Reg.LE_EVT_STAT e
  | 4 => Reg.FBX_EVT_STAT | 5 => Reg.PE_EVT_STAT e | 6 => Reg.SVI_EVT_STAT | 7 => Reg.PAIR_EVT_STAT
  | 8 => Reg.SAF_EVT_STAT | 9 => Reg.ETH_EVT_STAT | 10 => Reg.GSE_EVT_STAT | 11 => Reg.TIM_EVT_STAT
  | 12 => Reg.CHN_EVT_STAT | 13 => Reg.CAN_EVT_STAT | 14 => Reg.LIO_EVT_STAT | 15 => Reg.AIO_EVT_STAT
  | 16 => Reg.DPY_EVT_STAT | 17 => Reg.REC_EVT_STAT | 18 => Reg.ACC_EVT_STAT | 19 => Reg.UPD_EVT_STAT
  | 20 => Reg.MON_EVT_STAT | 21 => Reg.FRC_EVT_STAT | _ => Reg.OLC_EVT_STAT

/-- An event sets its status bit and is recorded (R470). The event byte of r is the bit. -/
def raise (s : State) (r : RecReq) (e : Nat := 0) : State := record (setBit s (evtStat r.blk e) r.ev) r

/-- A flush starts, or a running one is extended (R476). Cause: 1 period, 2 alarm, 3 fault, 4 power-fail, 5 command, 6 clear. -/
def startFlush (s : State) (cause : Nat) : State :=
  if s.rcd.flushing then s
  else { s with rcd := { s.rcd with flushing := true, cause := cause, lastFlushFrame := s.grid.frame } }

/-! ### Commands and their checks -/

/-- A session holds the role (R415). -/
def hasRole (s : State) (session role : Nat) : Bool :=
  s.sess.any fun e => match e.2 with
    | some x => decide (x.id = session) && decide (x.role = role)
    | none => false

/-- The session is open. -/
def hasSession (s : State) (session : Nat) : Bool :=
  s.sess.any fun e => match e.2 with
    | some x => decide (x.id = session)
    | none => false

/-- A command of a session is traffic of it (R415). -/
def touch (s : State) (session : Nat) : State :=
  { s with sess := s.sess.map fun e => (e.1, e.2.map fun x => if x.id = session then { x with idleAt := s.grid.mono } else x) }

/-- The register offset within its block. -/
def offsetOf (a : Nat) : Nat := a % 0x10000

/-- A request was refused (event byte 0x40); a rule that names no code leaves P0 free. -/
def refuse (s : State) (reg : Nat) (code : Option Nat) (session : Nat) (sev : Option Nat := none) : State :=
  answer (record s { blk := blockOf reg, ev := 0x40, sev := sev, p := [code, some session, some (offsetOf reg)] })
    (.refused (code.getD 0))

/-- A KEY field did not hold 0x5A3C (event byte 0x41). -/
def keyWrong (s : State) (reg : Nat) (v : Word) : State :=
  answer (record s { blk := blockOf reg, ev := 0x41, p := [some (offsetOf reg), some v.toNat] }) (.refused 0)

/-- A command was accepted (event byte 0x44). -/
def accepted (s : State) (reg : Nat) (c : Cmd) : State :=
  record s { blk := blockOf reg, ev := 0x44, p := [some (offsetOf reg), some c.value.toNat, some c.session] }

/-- Counters were cleared (event byte 0x42). -/
def cleared (s : State) (reg session : Nat) : State :=
  record s { blk := blockOf reg, ev := 0x42, p := [some (offsetOf reg), some session] }

/-- A Level X setting was written (event byte 0x43). -/
def settingWritten (s : State) (reg : Nat) (old new : Word) (session : Nat) : State :=
  record s { blk := blockOf reg, ev := 0x43, p := [some (offsetOf reg), some old.toNat, some new.toNat, some session] }

/-- A condition recorded earlier ended (event byte 0x45): the code that began it, its SEQ and its duration in frames. -/
def conditionEnded (s : State) (blk beginEv seq frames : Nat) : State :=
  record s { blk := blk, ev := 0x45, p := [some (blk * 256 + beginEv), some seq, some frames] }

/-! ### Access control (R454–R461) -/

/-- The master code and the partition of an identity (R454). -/
def masterCode (m : Nat) : Nat := m / 128 % 32
def masterPart (m : Nat) : Nat := m % 128

/-- Kinds of access. -/
inductive AccKind where
  | read | write | fetch
deriving DecidableEq, Repr

/-- The permission bit of a kind in the attributes. -/
def AccKind.bit : AccKind → Nat
  | .read => 30 | .write => 29 | .fetch => 28

/-- The KIND code of ACC_VIOL_LAST. -/
def AccKind.code : AccKind → Nat
  | .read => 0 | .write => 1 | .fetch => 2

/-- A region allows a 256-byte granule to a master (R456, R459). -/
def Region.allows (r : Region) (granule master : Nat) (k : AccKind) : Bool :=
  let sz := field r.attr 21 16
  let mask := field r.mid 11 0
  flag r.attr 31 && flag r.attr k.bit
    && decide (Nat.land master mask = Nat.land (field r.mid 27 16) mask)
    && decide (granule * 256 / 2 ^ sz = r.base / 2 ^ sz)

/-- Some region of keys base … base + n - 1 allows the granule. -/
def endAllows (t : Tbl Region) (base n granule master : Nat) (k : AccKind) : Bool :=
  t.any fun e => decide (base ≤ e.1) && decide (e.1 < base + n) && e.2.allows granule master k

/-- The granules of an access. -/
def granulesOf (addr len : Nat) : List Nat :=
  (upto ((addr + len - 1) / 256 + 1 - addr / 256)).map (· + addr / 256)

/-- Only application cores and logic engines have an initiator set (R457). -/
def hasInitiatorSet (master : Nat) : Bool := decide (1 ≤ masterCode master) && decide (masterCode master ≤ 12)

/-- The target side: SC passes region 0 of every port (R458); the ACC block is read-only to every other master (R462). -/
def targetAllows (s : State) (port granule master : Nat) (k : AccKind) : Bool :=
  decide (master = 0)
    || (endAllows s.acc.tgt (port * 64) 64 granule master k
        && !(decide (port = 4) && decide (k = .write) && decide (blockOf (granule * 256) = 0x12)))

/-- The first granule refused, with the end that refuses it (false: initiator). -/
def firstRefused (s : State) (port addr len master : Nat) (k : AccKind) : Option (Bool × Nat) :=
  match (granulesOf addr len).find? (fun g =>
      hasInitiatorSet master && !endAllows s.acc.ini (masterPart master * 16) 16 g master k) with
  | some g => some (false, max addr (g * 256))
  | none =>
    match (granulesOf addr len).find? (fun g => !targetAllows s port g master k) with
    | some g => some (true, max addr (g * 256))
    | none => none

/-- A refusal is counted and, as the first of its master in the frame, recorded (R460). -/
def recordRefusal (s : State) (port addr master : Nat) (k : AccKind) (target : Bool) : State :=
  let w := w32 (bit1 target 31 + k.code * 2 ^ 29 + port * 2 ^ 26 + master % 4096)
  let s1 := bump (wr s Reg.ACC_VIOL_LAST w) Reg.ACC_VIOL_CNT
  let s2 := { s1 with acc := { s1.acc with violAddr := addr } }
  let code := masterCode master
  let sev := if 1 ≤ code ∧ code ≤ 18 then some 2 else if 19 ≤ code ∧ code ≤ 23 then some 1 else none
  if s.acc.recorded.contains master then setBit s2 Reg.ACC_EVT_STAT 0
  else raise { s2 with acc := { s2.acc with recorded := master :: s2.acc.recorded } }
    { blk := 0x12, ev := 0, sev := sev, info := [master, addr % 2 ^ 32, addr / 2 ^ 32, bit1 target 0, k.code, port] }

/-- Run an access through access control: a refused one answers with an error and changes nothing else (R460). -/
def guarded (s : State) (port addr len master : Nat) (k : AccKind) (f : State → State) : State :=
  match firstRefused s port addr len master k with
  | some (e, a) => answer (recordRefusal s port a master k e) .error
  | none => f s

/-- A write of a register by a session or a core: traffic of the session (R415), then the access decision, then f. -/
def written (s : State) (reg : Nat) (c : Cmd) (f : State → State) : State :=
  guarded (touch s c.session) 4 reg 4 c.master .write f

/-- A write of a command register whose KEY stands in bits 31:16 (R538): the access decision, then the key, then f. -/
def keyed (s : State) (reg : Nat) (c : Cmd) (f : State → State) : State :=
  written s reg c fun t => if field c.value 31 16 = 0x5A3C then f t else keyWrong t reg c.value

/-- A keyed command selected by one bit of the value. -/
def keyedBit (s : State) (reg bit : Nat) (c : Cmd) (f : State → State) : State :=
  keyed s reg c fun t => if flag c.value bit then f t else t

/-! ### The signal directory (R50–R54) -/

/-- The directory entry of an endpoint. -/
def dirEntry (s : State) (ep : Nat) : DWord := (look s.cfg.dir ep).getD 0
/-- BTYPE of an entry (R51). -/
def btype (e : DWord) : Nat := field e 63 60
/-- PCLASS of an entry. -/
def pclass (e : DWord) : Nat := field e 59 56
/-- PART of an entry. -/
def dpart (e : DWord) : Nat := field e 55 49
/-- ADDR of an entry. -/
def daddr (e : DWord) : Nat := field e 39 0
def dSafety (e : DWord) : Bool := flag e 48
def dRetain (e : DWord) : Bool := flag e 47
def dForceable (e : DWord) : Bool := flag e 46
def dPrompt (e : DWord) : Bool := flag e 45
def dTestok (e : DWord) : Bool := flag e 44
def dSq (e : DWord) : Bool := flag e 43

/-- An endpoint number is binary below 0x4_0000 (R50). -/
def isBinary (ep : Nat) : Bool := decide (ep < 0x40000)

/-- The endpoints with a directory entry that satisfies p, in ascending order of the image. -/
def endpointsWith (s : State) (p : Nat → DWord → Bool) : List Nat :=
  (s.cfg.dir.filter fun e => p e.1 e.2).map (·.1)

/-! ### Tetrads and quality (R38–R49) -/

/-- The state bits of a tetrad: 0 MID, 1 OFF, 2 ON, 3 BAD. -/
def tstate (t : Tetrad) : Nat := t.toNat % 4
/-- The doubt flag. -/
def tdoubt (t : Tetrad) : Bool := t.getLsbD 2
/-- The override flag. -/
def tover (t : Tetrad) : Bool := t.getLsbD 3
/-- A tetrad from its parts. -/
def mkTet (st : Nat) (d o : Bool) : Tetrad := BitVec.ofNat 4 (st % 4 + bit1 d 2 + bit1 o 3)

/-- VALID of a quality word. -/
def qvalid (q : Qual) : Nat := field q 1 0
/-- The flags that a quality word gives a tetrad (R49). -/
def qualD (q : Qual) : Bool := decide (qvalid q ≠ 0) || flag q 15
def qualO (q : Qual) : Bool := flag q 10 || flag q 11 || flag q 12

/-- A tetrad from a state and a quality word (R49). -/
def tetOfQual (st : Nat) (q : Qual) : Tetrad := mkTet st (qualD q) (qualO q)

/-- The quality of a signal never collected (R41, R46): VALID invalid, OLD. -/
def qualNever : Qual := 0x0081#16

/-- A binary32 pattern that is a NaN or an infinity. -/
def nonFinite (v : Word) : Bool := decide (field v 30 23 = 255)

/-! ### Reading images -/

/-- The tetrad of an endpoint in a bank: unbound reads BAD:d (R52), a constant its ADDR, one never collected BAD:d (R41). -/
def bankBin (s : State) (b : Bank) (ep : Nat) : Tetrad :=
  match btype (dirEntry s ep) with
  | 0 => 0x7#4
  | 0xE => BitVec.ofNat 4 (daddr (dirEntry s ep))
  | _ => tget 0x7#4 b.bin ep

/-- The analogue signal of an endpoint in a bank. -/
def bankAna (s : State) (b : Bank) (ep : Nat) : AnaCell :=
  match btype (dirEntry s ep) with
  | 0xE => { val := w32 (daddr (dirEntry s ep)), qual := 0, born := some s.grid.freezes }
  | _ => tget {} b.ana ep

/-- The settings of an analogue channel. -/
def axCfg (s : State) (ch : Nat) : AxCfg := (look s.cfg.lio.ax ch).getD {}

/-- The channel of a local analogue endpoint works in an output mode (R53, R342). -/
def aoMode (s : State) (ep : Nat) : Bool :=
  let d := dirEntry s ep
  let m := (axCfg s (daddr d % 8)).mode
  decide (btype d = 4) && (decide (m = 1) || decide (m = 2))

/-- The force on an endpoint (R217). -/
def forceOf (s : State) (ep : Nat) : Option Force :=
  (s.frc.table.find? fun e => match e.2 with
    | some f => decide (f.ep = ep)
    | none => false).bind (·.2)

/-- The bindings that are sources (R218). -/
def isSource (s : State) (ep : Nat) : Bool :=
  let b := btype (dirEntry s ep)
  [2, 5, 7, 9, 0xB, 0xC, 0xD].contains b || (decide (b = 4) && !aoMode s ep)

/-- A forced tetrad carries o (R218). -/
def forcedTet (f : Force) : Tetrad := BitVec.ofNat 4 (field f.val 3 0) ||| 0x8#4
/-- The side quality word of a forced binary endpoint (R218). -/
def forcedSq (f : Force) : Qual := if flag f.val 2 then 0x0403#16 else 0x0400#16
/-- A forced analogue signal: VALID good, SUBST, age 0 (R218). -/
def forcedAna (s : State) (f : Force) : AnaCell := { val := f.val, qual := 0x0400#16, born := some s.grid.freezes }

/-- The frozen tetrad of an endpoint: its value in the working bank, where a forced source takes its force (R218). -/
def frozenBin (s : State) (ep : Nat) : Tetrad :=
  match forceOf s ep with
  | some f => if isSource s ep then forcedTet f else bankBin s s.sig.working ep
  | none => bankBin s s.sig.working ep
/-- The frozen analogue signal of an endpoint. -/
def frozenAna (s : State) (ep : Nat) : AnaCell :=
  match forceOf s ep with
  | some f => if isSource s ep then forcedAna s f else bankAna s s.sig.working ep
  | none => bankAna s s.sig.working ep
/-- The frozen side quality word of a binary endpoint (R54). -/
def frozenSq (s : State) (ep : Nat) : Qual :=
  match forceOf s ep with
  | some f => if isSource s ep then forcedSq f else tget qualNever s.sig.working.sq ep
  | none => tget qualNever s.sig.working.sq ep

/-- The committed tetrad, side quality and analogue signal of an internal or sink endpoint: the stored one, or its force. -/
def forcedOutBin (s : State) (ep : Nat) : Tetrad :=
  match forceOf s ep with
  | some f => if isSource s ep then tget 0x7#4 s.sig.output.bin ep else forcedTet f
  | none => tget 0x7#4 s.sig.output.bin ep
def forcedOutSq (s : State) (ep : Nat) : Qual :=
  match forceOf s ep with
  | some f => if isSource s ep then tget qualNever s.sig.output.sq ep else forcedSq f
  | none => tget qualNever s.sig.output.sq ep
def forcedOutAna (s : State) (ep : Nat) : AnaCell :=
  match forceOf s ep with
  | some f => if isSource s ep then tget {} s.sig.output.ana ep else forcedAna s f
  | none => tget {} s.sig.output.ana ep

/-- The age of an analogue signal (R46). -/
def ageOf (s : State) (a : AnaCell) : Nat :=
  match a.born with
  | none => 0xFFFF
  | some k => min 0xFFFF (s.grid.freezes - k)

/-! ### Collecting values (R23, R24, R43, R47) -/

/-- Put a value into what is collected; a second update in the frame marks the endpoint. -/
def Collect.put (c : Collect) (ep : Nat) (g : Got) : Collect :=
  { got := tset none c.got ep (some g)
    multi := if (tget none c.got ep).isSome then tset false c.multi ep true else c.multi }

/-- The start of the next frame. -/
def nextFreeze (s : State) : Nat := frameStart (s.grid.frame + 1)

/-- A value enters the image it belongs to by its arrival timestamp (R23). -/
def collectGot (s : State) (ep : Nat) (g : Got) : State :=
  if g.stamp < nextFreeze s then { s with sig := { s.sig with coll := s.sig.coll.put ep g } }
  else { s with sig := { s.sig with next := s.sig.next.put ep g } }

/-- A lost source delivers again for an endpoint (R43). -/
def sourceBack (s : State) (ep : Nat) : State :=
  if tget false s.sig.lost ep then
    let s1 := { s with sig := { s.sig with lost := tset false s.sig.lost ep false } }
    raise (wr s1 Reg.SIG_LOST_CNT (w32 s1.sig.lost.length)) { blk := 2, ev := 3, info := [ep] }
  else s

/-- Collect a tetrad with its quality word at time t. -/
def collectTet (s : State) (ep : Nat) (v : Tetrad) (q : Qual) (t : Nat) : State :=
  collectGot (sourceBack s ep) ep { tet := v, qual := q, stamp := t }

/-- Collect a binary state whose flags follow from its quality word (R49, R54). -/
def collectState (s : State) (ep st : Nat) (q : Qual) (t : Nat) : State :=
  collectTet s ep (tetOfQual st q) q t

/-- Collect a tetrad whose source gives no quality word: its side quality word is free (R54). -/
def collectOwn (s : State) (ep : Nat) (v : Tetrad) (t : Nat) : State := collectTet s ep v (Config.sideQual v.toNat) t

/-- The last value collected or frozen for an analogue endpoint. -/
def lastAna (s : State) (ep : Nat) : Word :=
  match tget none s.sig.coll.got ep with
  | some g => g.val
  | none => (bankAna s s.sig.working ep).val

/-- Collect an analogue value; a NaN or an infinity keeps the last finite value, invalid and failed (R47). -/
def collectAna (s : State) (ep : Nat) (v : Word) (q : Qual) (t : Nat) : State :=
  let s1 := sourceBack s ep
  if nonFinite v then
    let q' : Qual := (q &&& 0xFFFC#16) ||| 0x0041#16
    collectGot (raise (bump s1 Reg.SIG_NONFIN_CNT) { blk := 2, ev := 1, info := [ep] }) ep
      { val := lastAna s ep, qual := q', stamp := t }
  else collectGot s1 ep { val := v, qual := q, stamp := t }

/-- The last value collected or frozen for a binary endpoint. -/
def lastBin (s : State) (ep : Nat) : Tetrad :=
  match tget none s.sig.coll.got ep with
  | some g => g.tet
  | none => bankBin s s.sig.working ep

/-- One endpoint of a lost source: a binary one keeps its last state with d set (R43). -/
def loseEndpoint (s : State) (t : Nat) (ep : Nat) : State :=
  let s1 := { s with sig := { s.sig with lost := tset false s.sig.lost ep true } }
  if isBinary ep then collectGot s1 ep { tet := lastBin s ep ||| 0x4#4, qual := tget qualNever s.sig.working.sq ep, stamp := t } else s1

/-- A source is declared lost (R43). -/
def loseSource (s : State) (eps : List Nat) (t : Nat) : State :=
  let s1 := eps.foldl (fun acc ep => loseEndpoint acc t ep) s
  raise (wr s1 Reg.SIG_LOST_CNT (w32 s1.sig.lost.length)) { blk := 2, ev := 2, info := eps }

/-! ### The engines and the partitions -/

/-- A logic engine. -/
def leOf (s : State) (e : Nat) : LeEngine := tget {} s.le e
def setLe (s : State) (e : Nat) (x : LeEngine) : State := { s with le := tset {} s.le e x }
def LeEngine.stream (x : LeEngine) (i : Nat) : LeStream := if i = 0 then x.s0 else x.s1
def LeEngine.setStream (x : LeEngine) (i : Nat) (st : LeStream) : LeEngine :=
  if i = 0 then { x with s0 := st } else { x with s1 := st }
/-- The settings of an engine. -/
def leCfg (s : State) (e : Nat) : LeCfg := (look s.cfg.le e).getD {}

/-- An application core. -/
def acOf (s : State) (k : Nat) : AcCore := tget {} s.fbx.cores k
def setAc (s : State) (k : Nat) (x : AcCore) : State := { s with fbx := { s.fbx with cores := tset {} s.fbx.cores k x } }

/-- A partition. -/
def partOf (s : State) (p : Nat) : PartState := tget {} s.sched.parts p
def setPart (s : State) (p : Nat) (x : PartState) : State := { s with sched := { s.sched with parts := tset {} s.sched.parts p x } }
/-- The settings of a partition. -/
def partCfg (s : State) (p : Nat) : PartCfg := (look s.cfg.parts p).getD {}

/-- A class. -/
def classOf (s : State) (k : Nat) : ClassState := tget {} s.sched.classes k
def setClass (s : State) (k : Nat) (x : ClassState) : State := { s with sched := { s.sched with classes := tset {} s.sched.classes k x } }
/-- The settings of a class. -/
def classCfg (s : State) (k : Nat) : ClassCfg := (look s.cfg.classes k).getD {}

/-- A class is due in frame n (R28). -/
def classDue (c : ClassCfg) (n : Nat) : Bool := decide (n % periodFrames c.period = c.phase)

/-- The reaction of a partition that a safety partition pins to SAFE (R35). -/
def reaction (c : PartCfg) : Nat := if c.safety then 2 else c.react

/-- The partition's classes do not run: it is in the reaction STOP or SAFE (R35). -/
def partStopped (s : State) (p : Nat) : Bool := (partOf s p).react && ((partOf s p).safe || reaction (partCfg s p) != 0)

end Sys2Proof.Machine
end

