-- ==== Sys2Proof/Machine/PairOps.lean ====
section
/-! DEFINITION. The shared operations of the pair, of the safety monitor and of a restart: role changes, switchovers,
leaving service, the module and the partition safe state, debug sessions and armed changes that end. -/

namespace Sys2Proof.Machine

open Sys2Proof

/-! ### Stages, sending and small views -/

/-- The stage of the start (UPD_STAT.STAGE): 0 HOLD, 1 GUARD, 2 LOAD, 3 CONFIGURE, 4 JOIN, 5 RUN, 6 recovery. -/
def stage (s : State) : Nat := field (rd s Reg.UPD_STAT) 31 29

/-- Enter a stage at the present instant (UPD_STAGE_Tn in ms from t0). -/
def enterStage (s : State) (k : Nat) : State :=
  let s1 := wrField s Reg.UPD_STAT 31 29 k
  if 1 ≤ k ∧ k ≤ 5 then wrField s1 (Reg.UPD_STAGE_Tn (k - 1)) 15 0 (min 65534 ((s.grid.mono - s.upd.t0) / 1000000)) else s1

/-- Send something on a bus. -/
def send (s : State) (bus kind : Nat) (data : List Nat) : State :=
  { s with sent := s.sent ++ [{ bus := bus, kind := kind, data := data }] }

/-- Send an Ethernet frame on a port; it is counted (ETH_PORT_TX). -/
def ethSend (s : State) (port kind : Nat) (data : List Nat) : State :=
  send { s with stn := { s.stn with ports := tmod {} s.stn.ports port fun x => { x with tx := x.tx + 1 } } } 3 kind (port :: data)

/-- Send a message over the Tokel link; its type code is the kind (R251). -/
def tokel (s : State) (kind : Nat) (data : List Nat) : State := send s 0 kind data

/-- Change the pair state. -/
def setPair (s : State) (f : PairState → PairState) : State := { s with pair := f s.pair }

/-- An event of the second event status register of PAIR (R470). -/
def raiseA (s : State) (bit : Nat) (info : List Nat) (sev : Option Nat := none) : State :=
  record (setBit s Reg.PAIR_AEVT_STAT bit) { blk := 7, ev := 0x20 + bit, sev := sev, info := info }

/-- The module holds the grant by its role. -/
def Role.leads (r : Role) : Bool := decide (r = .active) || decide (r = .solo)

/-- The roles whose classes run (R227); a LEARNING module runs them from frame f+1 of FINAL (R264). -/
def runsClasses (s : State) : Bool :=
  match s.pair.role with
  | .offline => false
  | .learning => s.pair.learn.running
  | _ => true

/-- This module is the one that aligns: STANDBY, or LEARNING with its classes running. -/
def aligns (s : State) : Bool :=
  decide (s.pair.role = .standby) || (decide (s.pair.role = .learning) && s.pair.learn.running)

/-- d nanoseconds last at least n frames. -/
def lasts (d n : Nat) : Bool := decide (n * 1250000 ≤ 3 * d)

/-- The running pair-compatibility level. -/
def ownPcl (s : State) : Nat := field (rd s Reg.UPD_FW_PCL) 31 16

/-! ### The life contact (R351) -/

/-- The life contact is energised or de-energised; each change is recorded. -/
def setLife (s : State) (on : Bool) : State :=
  if s.lio.life = on then s
  else
    raise (wrField { s with lio := { s.lio with life := on } } Reg.LIO_STAT 2 2 (if on then 1 else 0)) { blk := 0xE, ev := 3, info := [bit1 on 0] }

/-- The next entry to OFFLINE drops the life contact: a failure, 125 °C or a removal leads to it. -/
def markLifeDrop (s : State) : State := { s with lio := { s.lio with lifeDrop := true } }

/-- What an entry to OFFLINE does to the life contact. -/
def lifeOnOffline (s : State) : State :=
  if s.pair.killq || s.saf.safe || s.lio.lifeDrop then setLife { s with lio := { s.lio with lifeDrop := false } } false else s

/-! ### What a change of role ends -/

/-- The engine hosts a safety program (LE_CFG.SAFETY). -/
def hostsSafety (s : State) (e : Nat) : Bool := (leCfg s e).progs.any fun p => (partCfg s p.2.part).safety

/-- A debug session ends (R108). -/
def closeDebug (s : State) (e : Nat) : State :=
  let x := leOf s e
  let s1 := setLe s e { x with halt := false, haltReq := false, passBp := false }
  recordBare (wr s1 (Reg.LE_DBG_CTRL e) ((rd s1 (Reg.LE_DBG_CTRL e)) &&& 0x3FFFFFFF#32)) 3 { blk := 3, ev := 0, info := [e, 0] }

/-- Debug sessions end when the module leaves SOLO or DETACHED (R108). -/
def closeDebugAll (s : State) : State :=
  (upto 8).foldl (fun t e => if flag (rd t (Reg.LE_DBG_CTRL e)) 31 then closeDebug t e else t) s

/-- An armed change is disarmed (R206). -/
def autoDisarm (s : State) (cause : Nat) : State :=
  if s.olc.stage = 3 then
    raise { s with olc := { s.olc with stage := 2, asking := none } } { blk := 0x16, ev := 1, sev := some 2, info := [cause] }
  else s

/-- The safety input entries of partitions re-enter PENDING (R36, R287). -/
def pendSins (s : State) (parts : List Nat) : State :=
  (s.cfg.saf.sins.filter fun e => parts.contains (dpart (dirEntry s e.2.epA))).foldl (fun t e =>
    { t with saf := { t.saf with sin := tmod {} t.saf.sin e.1 fun x => { x with proof := 0, offRun := 0 } } }) s

/-- Deny every force of a safety endpoint; maintenance mode has ended or the module restarts (R221, R299). -/
def dropSafetyForces (s : State) : State :=
  s.frc.table.foldl (fun t e => match e.2 with
    | some f =>
      if dSafety (dirEntry t f.ep) then
        let t1 := { t with frc := { t.frc with table := tset none t.frc.table e.1 none } }
        raise (wr t1 Reg.FRC_LAST_LO (w32 t1.grid.frame)) { blk := 0x15, ev := 1, info := [f.session, f.ep, f.val.toNat] }
      else t
    | none => t) s

/-- RUN is reached (R420). -/
def reachRun (s : State) : State :=
  if stage s = 4 then
    raise { (enterStage s 5) with upd := { s.upd with runFrames := 0, matchRun := 0, clean := true } } { blk := 0x13, ev := 0 }
  else s

/-- The module takes a role, with its cause, as of frame n (R227, R229). -/
def takeRoleAt (s : State) (r : Role) (cause n : Nat) : State :=
  let old := s.pair.role
  if old = r then s
  else
    let s1 := setPair s fun p => { p with
      role := r, since := n, hmCompared := false
      learnFail := if r = .standby then 0 else p.learnFail
      learn := if r = .learning then { phase := 1, start := s.grid.frame } else { p.learn with running := false }
      lostAt := none
      lines := { p.lines with ready := decide (r = .standby ∨ r = .learning ∨ r = .detached), yield := false } }
    let s2 := raise s1 { blk := 7, ev := 0, info := [old.code, r.code, cause], stamp := some s.grid.freezeAt }
    let s3 := if old = .active then autoDisarm s2 1 else s2
    let s4 := if (old = .solo ∨ old = .detached) ∧ ¬ (r = .solo ∨ r = .detached) then closeDebugAll s3 else s3
    if r = .solo ∨ r = .active ∨ r = .standby then reachRun s4 else if r = .offline then lifeOnOffline s4 else s4

/-- The module takes a role now. -/
def takeRole (s : State) (r : Role) (cause : Nat) : State := takeRoleAt s r cause s.grid.frame

/-- A change of role takes effect at the next frame boundary (R229); a pending OFFLINE stands. -/
def requestRole (s : State) (r : Role) (cause : Nat) : State :=
  match s.pair.next with
  | some (.offline, _) => s
  | _ => setPair s fun p => { p with next := some (r, cause) }

/-- The module enters OFFLINE at the next frame boundary and restarts (R103, R229). The start's cause is kept for UPD_START;
7 stands for a cause that R453 does not code. -/
def leaveForRestart (s : State) (cause : Nat := 7) : State :=
  setPair (requestRole (if cause = 7 then markLifeDrop s else s) .offline 6) fun p => { p with
    restartDue := some (p.restartDue.getD cause), hbStopped := true }

/-- A re-learn (R263): OFFLINE at the next frame boundary, JOIN in the frame after. -/
def reLearn (s : State) (cause : Nat) : State :=
  setPair (requestRole s .offline cause) fun p => { p with rejoinAt := some (s.grid.frame + 2) }

/-! ### Switchovers (R240, R241) -/

/-- A switchover is refused (R241). -/
def refuseSwitch (s : State) (code session : Nat) : State :=
  refuse (setBit (wrField s Reg.PAIR_STAT 19 16 code) Reg.PAIR_EVT_STAT 3) Reg.PAIR_CMD (some code) session

/-- The cause for which a switchover of a kind is refused; 0 none (R241). Kind 2 is a requested one. -/
def switchRefusal (s : State) (kind : Nat) : Nat :=
  let p := s.pair
  if p.role ≠ .active then 6
  else if p.sw.isSome then 9
  else if p.partner.role ≠ 3 then 1
  else if kind ≠ 2 ∧ (s.olc.stage = 3 ∨ s.olc.stage = 4 ∨ s.olc.stage = 5) then 2
  else if p.claspFail = true then 3
  else if p.lastHm.contains false then 4
  else if kind ≠ 2 ∧ p.partner.pcl ≠ ownPcl s then 5 else 0

/-- A switchover is accepted in frame k: it names h = k + 3 to the partner (R240). -/
def startSwitch (s : State) (kind : Nat) (restart : Bool) : State :=
  let h := s.grid.frame + 3
  tokel (setPair s fun p => { p with sw := some { h := h, kind := kind, start := s.grid.frame, restart := restart } }) 0x30 [1, h, kind]

/-- A switchover is asked for by a session (0: the module itself): refused or started. -/
def askSwitch (s : State) (kind session : Nat) (restart : Bool := false) : State :=
  let code := switchRefusal s kind
  if code ≠ 0 then refuseSwitch s code session else startSwitch s kind restart

/-- A requested switchover (R240): on a SOLO module it is recorded and does not take place. Cause: 0 engine, 1 phasor engine,
2 die temperature. -/
def requestSwitchover (s : State) (cause : Nat) : State :=
  match s.pair.role with
  | .solo => recordBare s 1 { blk := 7, ev := 0, info := [cause] }
  | .active => askSwitch (recordBare s 1 { blk := 7, ev := 0, info := [cause] }) 2 0 true
  | _ => s

/-! ### Stops and removal -/

/-- The start stops at the function of GUARD (R423). -/
def stopStart (s : State) (cause : Nat) : State :=
  raise (wrField s Reg.UPD_STAT 28 26 cause) { blk := 0x13, ev := 1, sev := some 2, info := [cause] }

/-- A module being withdrawn that holds no grant and drives no output flushes its recorder; a switchover by the lever leads
there (R508). -/
def removalTick (s : State) : State :=
  let overN := match s.pair.ho with
    | some h => h.released && decide (100 ≤ h.fade)
    | none => true
  if s.slot.removal && !s.slot.remFlush && decide (s.pair.role = .offline) && !s.pair.granted && s.pair.sw.isNone && overN then
    startFlush { s with slot := { s.slot with remFlush := true } } 5
  else s

/-! ### Safe states (R284, R285) -/

/-- SAF opens the series switches and closes the gates of safety partitions on a failed engine (R285). -/
def partitionSafeState (s : State) (parts : List Nat) : State :=
  let new := parts.filter fun p => !s.saf.psafe.contains p
  if new.isEmpty then s
  else
    let s1 := { s with saf := { s.saf with psafe := s.saf.psafe ++ new } }
    let s2 := new.foldl (fun t p => setBit t (Reg.SAF_PSAFEn (p / 32)) (p % 32)) s1
    startFlush (raise s2 { blk := 8, ev := 1, info := new }) 3

/-- The outputs, the chain and CAN transmit enables and the Ethernet publication gates are off: a qualified KILL or the end
of the hold-up (R236, R511). -/
def gatesClosed (s : State) : Bool := s.pair.gatesOff

/-- The module enters the module safe state (R284): series switches open, gates close, HB0 stops, the life contact drops,
and the module goes OFFLINE. A cause that no rule codes is a free value. -/
def moduleSafe (s : State) (cause : Option Nat) (detail : Nat := 0) : State :=
  if s.saf.safe then s
  else
    let s0 := { s with freeN := s.freeN + 1 }
    let code := match cause with
      | some c => c
      | none => (Config.freeWord s.freeN).toNat % 16
    let s1 := { s0 with saf := { s0.saf with safe := true, safeAt := s0.grid.mono, safeHeld := s0.pair.role.leads } }
    let s2 := wr (wr s1 Reg.SAF_CAUSE (w32 (code * 2 ^ 28 + detail % 256))) Reg.SAF_SAFE_FNUM (w32 s1.grid.frame)
    let s3 := startFlush (raise s2 { blk := 8, ev := 0, sev := some 3, info := [code, s2.grid.frame] }) 3
    setPair (requestRole (setLife s3 false) .offline 15) fun p => { p with hbStopped := true, restartDue := some 4 }

end Sys2Proof.Machine
end

