-- ==== Sys2Proof/Machine/Access.lean ====
section
/-! DEFINITION. Changing the access rules (R462–R465): region writes, barriers and their drain; the ACC counters. -/

namespace Sys2Proof.Machine

open Sys2Proof

/-- A region descriptor after a write of one of its registers: 0 base low, 1 base high, 2 attributes, 3 match (R456). -/
def Region.put (r : Region) (i : Nat) (v : Word) : Region :=
  match i with
  | 0 => { r with base := r.base / 2 ^ 32 * 2 ^ 32 + field v 31 8 * 256 }
  | 1 => { r with base := field v 7 0 * 2 ^ 32 + r.base % 2 ^ 32 }
  | 2 => { r with attr := v &&& 0xF03F0000#32 }
  | _ => { r with mid := v &&& 0x0FFF0FFF#32 }

/-- The key of the selected initiator region. -/
def iniKey (s : State) : Nat := field (rd s Reg.ACC_INI_SEL) 10 0
/-- The key of the selected target region. -/
def tgtKey (s : State) : Nat := field (rd s Reg.ACC_TGT_SEL) 10 8 * 64 + field (rd s Reg.ACC_TGT_SEL) 5 0

/-- A write to a region register goes to the shadow copy (R462). Firmware regions are locked after LOAD (R458, R465): the
refusal of SC's write is recorded and enters the module safe state (R461). -/
def execAccRegionWrite (reg : Nat) (c : Cmd) (s : State) : Out :=
  let i := (reg - Reg.ACC_INI_BASE_LO) / 4
  let j := (reg - Reg.ACC_TGT_BASE_LO) / 4
  done (written s reg c fun t =>
    if Reg.ACC_INI_BASE_LO ≤ reg ∧ reg ≤ Reg.ACC_INI_MID ∧ reg % 4 = 0 then
      { t with acc := { t.acc with iniSh := tmod {} t.acc.iniSh (iniKey t) (fun r => r.put i c.value) } }
    else if Reg.ACC_TGT_BASE_LO ≤ reg ∧ reg ≤ Reg.ACC_TGT_MID ∧ reg % 4 = 0 then
      if tgtKey t % 64 < 4 ∧ t.acc.locked = true then
        let t1 := recordRefusal t 4 reg c.master .write true
        moduleSafe (answer (raise t1 { blk := 0x12, ev := 2, info := [tgtKey t] }) .error) none
      else { t with acc := { t.acc with tgtSh := tmod {} t.acc.tgtSh (tgtKey t) (fun r => r.put j c.value) } }
    else t)

/-- The entries of a table with keys lo … hi - 1. -/
def tblRange {α : Type} (t : Tbl α) (lo hi : Nat) : Tbl α := t.filter fun e => decide (lo ≤ e.1) && decide (e.1 < hi)

/-- A table whose keys lo … hi - 1 are replaced by those of another. -/
def tblReplace (t src : Tbl Region) (lo hi : Nat) : Tbl Region :=
  tsetAll {} (t.filter fun e => !(decide (lo ≤ e.1) && decide (e.1 < hi))) (tblRange src lo hi)

/-- A barrier takes effect: the shadow copies of its scope become the rules in force (R463). Scope: 0 partition set,
1 target port, 2 everything. -/
def takeBarrier (s : State) (scope index : Nat) : State :=
  let a := s.acc
  let a1 := match scope with
    | 0 => { a with ini := tblReplace a.ini a.iniSh (index * 16) (index * 16 + 16) }
    | 1 => { a with tgt := tblReplace a.tgt a.tgtSh (index * 64) (index * 64 + 64) }
    | _ => { a with ini := a.iniSh, tgt := a.tgtSh }
  let a2 := { a1 with scope := scope, count := satAdd 0xFFFF a.count 1, applied := a.applied || decide (scope = 2) }
  raise { s with acc := a2 } { blk := 0x12, ev := 1, info := [scope, index] }

/-- ACC_BARRIER: SC's barrier takes effect, or is held while an older one drains (R463). inflight: an access of the scope
checked under the old rules has not completed. -/
def execAccBarrier (c : Cmd) (inflight : Bool) (s : State) : Out :=
  done (keyed s Reg.ACC_BARRIER c fun t =>
    let scope := field c.value 9 8
    let index := if scope = 1 then field c.value 2 0 else field c.value 6 0
    if scope = 3 then t
    else if t.acc.drain then { t with acc := { t.acc with held := t.acc.held ++ [(scope, index)] } }
    else
      let t1 := takeBarrier t scope index
      { t1 with acc := { t1.acc with drain := inflight } })

/-- The last old-generation access completes; a held barrier takes effect with the shadow content as it stands (R463). -/
def execBarrierDrainEnd (inflight : Bool) (s : State) : Out :=
  if !s.acc.drain then done s
  else match s.acc.held with
  | [] => done { s with acc := { s.acc with drain := false } }
  | (scope, index) :: rest =>
    let s1 := takeBarrier { s with acc := { s.acc with held := rest } } scope index
    done { s1 with acc := { s1.acc with drain := inflight } }

/-- ACC_CMD.CLR_CNT clears ACC_VIOL_CNT (R467). -/
def execAccClrCnt (c : Cmd) (s : State) : Out :=
  done (keyedBit s Reg.ACC_CMD 0 c fun t => cleared (wr t Reg.ACC_VIOL_CNT 0) Reg.ACC_CMD c.session)

/-- ACC_VIOL_ADDR_LO answers the first refused byte and latches the high bits (R467). -/
def execAccViolAddrLo (s : State) : Out :=
  let a := s.acc.violAddr
  done (answer (wr (wr s Reg.ACC_VIOL_ADDR_LO (w32 a)) Reg.ACC_VIOL_ADDR_HI (w32 (a / 2 ^ 32 % 256))) (.value (a % 2 ^ 32)))

end Sys2Proof.Machine
end

