-- ==== Sys2Proof/Machine/Flags.lean ====
section
/-! DEFINITION. The three-valued operators with their flag rules (R73, R74), the dual operators of the shadow pass (R96) and
the quality operations (R79). States: 0 MID, 1 OFF, 2 ON, 3 BAD. -/

namespace Sys2Proof.Machine

open Sys2Proof

/-- An unknown result: BAD when an unknown operand is BAD, otherwise MID (R73). -/
def unknownOf (a b : Nat) : Nat := if a = 3 ∨ b = 3 then 3 else 0

/-- The state of a AND b (R73). -/
def andState (a b : Nat) : Nat :=
  if a = 1 ∨ b = 1 then 1 else if a = 2 ∧ b = 2 then 2 else unknownOf a b

/-- The state of a OR b (R73). -/
def orState (a b : Nat) : Nat :=
  if a = 2 ∨ b = 2 then 2 else if a = 1 ∧ b = 1 then 1 else unknownOf a b

/-- The state of a XOR b (R73). -/
def xorState (a b : Nat) : Nat :=
  if (a = 1 ∨ a = 2) ∧ (b = 1 ∨ b = 2) then (if a = b then 1 else 2) else unknownOf a b

/-- The state of NOT a (R73). -/
def notState (a : Nat) : Nat := if a = 1 then 2 else if a = 2 then 1 else a

/-- One flag of a result that the deciding state dec determines: every operand in that state carries it (R74). -/
def decidedFlag (dec a b : Nat) (fa fb : Bool) : Bool := (decide (a ≠ dec) || fa) && (decide (b ≠ dec) || fb)

/-- NOT: the state changes, the flags stay (R74). -/
def tnot (a : Tetrad) : Tetrad := mkTet (notState (tstate a)) (tdoubt a) (tover a)

/-- AND with its flags (R74). -/
def tand (a b : Tetrad) : Tetrad :=
  let r := andState (tstate a) (tstate b)
  let f := fun (x y : Bool) => if r = 1 then decidedFlag 1 (tstate a) (tstate b) x y else x || y
  mkTet r (f (tdoubt a) (tdoubt b)) (f (tover a) (tover b))

/-- OR with its flags (R74). -/
def tor (a b : Tetrad) : Tetrad :=
  let r := orState (tstate a) (tstate b)
  let f := fun (x y : Bool) => if r = 2 then decidedFlag 2 (tstate a) (tstate b) x y else x || y
  mkTet r (f (tdoubt a) (tdoubt b)) (f (tover a) (tover b))

/-- XOR with its flags (R74). -/
def txor (a b : Tetrad) : Tetrad :=
  mkTet (xorState (tstate a) (tstate b)) (tdoubt a || tdoubt b) (tover a || tover b)

/-- The operators by their SEL code (R72): 0 AND, 1 ANDN, 2 OR, 3 ORN, 4 XOR, 5 XORN. -/
def tetOp (op : Nat) (a b : Tetrad) : Tetrad :=
  match op with
  | 0 => tand a b
  | 1 => tand a (tnot b)
  | 2 => tor a b
  | 3 => tor a (tnot b)
  | 4 => txor a b
  | _ => txor a (tnot b)

/-! ### The dual circuits of the shadow pass (R96) -/

/-- The unknown choice of the shadow: MID when an unknown operand is MID, otherwise BAD. -/
def unknownDual (a b : Nat) : Nat := if a = 0 ∨ b = 0 then 0 else 3

/-- The dual of AND: Kleene OR with the inverted unknown choice; ON carries f when any ON operand carries it, any other
result when both carry it. -/
def dualAnd (a b : Tetrad) : Tetrad :=
  let sa := tstate a; let sb := tstate b
  let r := if sa = 2 ∨ sb = 2 then 2 else if sa = 1 ∧ sb = 1 then 1 else unknownDual sa sb
  let f := fun (x y : Bool) => if r = 2 then (decide (sa = 2) && x) || (decide (sb = 2) && y) else x && y
  mkTet r (f (tdoubt a) (tdoubt b)) (f (tover a) (tover b))

/-- The dual of OR: Kleene AND with the inverted unknown choice; OFF carries f when any OFF operand carries it, any other
result when both carry it. -/
def dualOr (a b : Tetrad) : Tetrad :=
  let sa := tstate a; let sb := tstate b
  let r := if sa = 1 ∨ sb = 1 then 1 else if sa = 2 ∧ sb = 2 then 2 else unknownDual sa sb
  let f := fun (x y : Bool) => if r = 1 then (decide (sa = 1) && x) || (decide (sb = 1) && y) else x && y
  mkTet r (f (tdoubt a) (tdoubt b)) (f (tover a) (tover b))

/-- The dual of XOR: Kleene XOR followed by NOT, with the inverted unknown choice; both operands must carry f. -/
def dualXor (a b : Tetrad) : Tetrad :=
  let sa := tstate a; let sb := tstate b
  let r := if (sa = 1 ∨ sa = 2) ∧ (sb = 1 ∨ sb = 2) then (if sa = sb then 2 else 1) else unknownDual sa sb
  mkTet r (tdoubt a && tdoubt b) (tover a && tover b)

/-- The dual operators by the SEL code. -/
def dualOp (op : Nat) (a b : Tetrad) : Tetrad :=
  match op with
  | 0 => dualAnd a b
  | 1 => dualAnd a (tnot b)
  | 2 => dualOr a b
  | 3 => dualOr a (tnot b)
  | 4 => dualXor a b
  | _ => dualXor a (tnot b)

/-- The operator of a pass. -/
def passOp (shadow : Bool) (op : Nat) (a b : Tetrad) : Tetrad := if shadow then dualOp op a b else tetOp op a b

/-! ### Quality operations -/

/-- TSTD (R79). -/
def tstd (sel : Nat) (a : Tetrad) : Tetrad :=
  if tdoubt a || (decide (sel = 1) && (decide (tstate a = 0) || decide (tstate a = 3))) then 0x2#4 else 0x1#4

/-- STRO (R79). -/
def stro (a : Tetrad) : Tetrad := mkTet (tstate a) (tdoubt a) false

/-- FRCD (R79). -/
def frcd (a : Tetrad) : Tetrad := mkTet (tstate a) true (tover a)

/-- The dual of TSTD: OFF when d is clear, otherwise ON, with SEL 1 also OFF on MID or BAD; both flags set (R96). -/
def dualTstd (sel : Nat) (a : Tetrad) : Tetrad :=
  if !tdoubt a || (decide (sel = 1) && (decide (tstate a = 0) || decide (tstate a = 3))) then 0xD#4 else 0xE#4

/-- The dual of STRO: sets o (R96). -/
def dualStro (a : Tetrad) : Tetrad := mkTet (tstate a) (tdoubt a) true

/-- The dual of FRCD: clears d (R96). -/
def dualFrcd (a : Tetrad) : Tetrad := mkTet (tstate a) false (tover a)

/-- The condition of SKIP (R80). -/
def skipCond (sel : Nat) (a : Tetrad) : Bool :=
  match sel with
  | 0 => decide (tstate a = 2)
  | 1 => decide (tstate a = 1)
  | 2 => decide (tstate a = 0) || decide (tstate a = 3)
  | 3 => decide (tstate a ≠ 2)
  | _ => tdoubt a

/-- The dual condition of SKIP (R96): OFF; ON; MID or BAD; not OFF; d clear. -/
def dualSkipCond (sel : Nat) (a : Tetrad) : Bool :=
  match sel with
  | 0 => decide (tstate a = 1)
  | 1 => decide (tstate a = 2)
  | 2 => decide (tstate a = 0) || decide (tstate a = 3)
  | 3 => decide (tstate a ≠ 1)
  | _ => !tdoubt a

/-- The flags that a stateful instruction's out carries from its in (R83): d also when in is unknown. -/
def statefulOut (inp : Tetrad) (st : Nat) : Tetrad :=
  mkTet st (tdoubt inp || decide (tstate inp = 0) || decide (tstate inp = 3)) (tover inp)

end Sys2Proof.Machine
end

