-- ==== Sys2Proof/Machine/Operands.lean ====
section
/-! DEFINITION. The instruction words of a logic engine and their operand forms (R70–R72), and the cell functions of the
edge, timer and counter instructions (R81–R86). -/

namespace Sys2Proof.Machine

open Sys2Proof

/-- An operand: an immediate tetrad or a binary signal index (R71). -/
inductive LeOpd where
  | imm (t : Tetrad)
  | sig (ep : Nat)
deriving DecidableEq, Repr

/-- A decoded instruction (R72). Operators op: 0 AND, 1 ANDN, 2 OR, 3 ORN, 4 XOR, 5 XORN. Timers kind: 0 TON, 1 TOF,
2 TP. -/
inductive LeInsn where
  | ld (neg : Bool) (o : LeOpd)
  | ldl (ep : Nat)
  | alu (op : Nat) (o : LeOpd)
  | bop (op : Nat) (o : LeOpd)
  | bcl
  | st (neg : Bool) (ep : Nat)
  | setrst (on : Bool) (ep : Nat)
  | edge (rising efe : Bool) (cell : Nat)
  | timer (kind preset : Nat) (efe : Bool) (cell : Nat)
  | ctu (preset : Nat) (efe : Bool) (cell : Nat)
  | ctd (efe : Bool) (cell : Nat)
  | ctl (val cell : Nat)
  | tstd (sel : Nat)
  | stro
  | frcd
  | skip (sel count : Nat)
  | fin
deriving DecidableEq, Repr

/-- The opcode of a word (R70). -/
def leOpcode (w : Word) : Nat := field w 31 24

/-- The operand of a word that allows IMM: bits 22:21 zero, and with IMM bits 17:4 zero (R71). -/
def leOpd (w : Word) : Option LeOpd :=
  if field w 22 21 ≠ 0 then none
  else if flag w 23 then (if field w 17 4 = 0 then some (.imm (BitVec.ofNat 4 (field w 3 0))) else none)
  else some (.sig (field w 17 0))

/-- The operand of a word without IMM and SEL. -/
def leSig (w : Word) : Option Nat := if field w 23 18 = 0 then some (field w 17 0) else none

/-- The second word of an edge, timer or counter instruction: TAG, EFE and CELL (R70). -/
def leSecond (w : Word) (efeOk : Bool) : Option (Bool × Nat) :=
  if field w 31 24 = 0xFF ∧ field w 22 16 = 0 ∧ (efeOk = true ∨ flag w 23 = false) then some (flag w 23, field w 15 0)
  else none

/-- The operator code of an ALU opcode. -/
def aluOp (opc : Nat) : Nat := opc - 0x10

/-- Decode an instruction of words w and w2; none is an illegal opcode or a malformed word (R70–R72, R88). -/
def leDecode (w w2 : Word) : Option LeInsn :=
  match leOpcode w with
  | 0x01 => if field w 20 18 = 0 then (leOpd w).map (.ld false) else none
  | 0x02 => if field w 20 18 = 0 then (leOpd w).map (.ld true) else none
  | 0x03 => (leSig w).map .ldl
  | 0x10 => if field w 20 18 = 0 then (leOpd w).map (.alu 0) else none
  | 0x11 => if field w 20 18 = 0 then (leOpd w).map (.alu 1) else none
  | 0x12 => if field w 20 18 = 0 then (leOpd w).map (.alu 2) else none
  | 0x13 => if field w 20 18 = 0 then (leOpd w).map (.alu 3) else none
  | 0x14 => if field w 20 18 = 0 then (leOpd w).map (.alu 4) else none
  | 0x15 => if field w 20 18 = 0 then (leOpd w).map (.alu 5) else none
  | 0x18 => if field w 20 18 ≤ 5 then (leOpd w).map (.bop (field w 20 18)) else none
  | 0x19 => if field w 23 0 = 0 then some .bcl else none
  | 0x20 => (leSig w).map (.st false)
  | 0x21 => (leSig w).map (.st true)
  | 0x22 => (leSig w).map (.setrst true)
  | 0x23 => (leSig w).map (.setrst false)
  | 0x30 => if field w 23 0 = 0 then (leSecond w2 true).map (fun p => .edge true p.1 p.2) else none
  | 0x31 => if field w 23 0 = 0 then (leSecond w2 true).map (fun p => .edge false p.1 p.2) else none
  | 0x38 => (leSecond w2 false).map (fun p => .timer 0 (field w 23 0) p.1 p.2)
  | 0x39 => (leSecond w2 false).map (fun p => .timer 1 (field w 23 0) p.1 p.2)
  | 0x3A => (leSecond w2 true).map (fun p => .timer 2 (field w 23 0) p.1 p.2)
  | 0x40 => (leSecond w2 true).map (fun p => .ctu (field w 23 0) p.1 p.2)
  | 0x41 => if field w 23 0 = 0 then (leSecond w2 true).map (fun p => .ctd p.1 p.2) else none
  | 0x42 => (leSecond w2 false).map (fun p => .ctl (field w 23 0) p.2)
  | 0x48 => if field w 23 21 = 0 ∧ field w 17 0 = 0 ∧ field w 20 18 ≤ 1 then some (.tstd (field w 20 18)) else none
  | 0x49 => if field w 23 0 = 0 then some .stro else none
  | 0x4A => if field w 23 0 = 0 then some .frcd else none
  | 0x50 =>
    if field w 23 21 = 0 ∧ field w 20 18 ≤ 4 ∧ 1 ≤ field w 17 0 ∧ field w 17 0 ≤ 131071
    then some (.skip (field w 20 18) (field w 17 0)) else none
  | 0x7F => if field w 23 0 = 0 then some .fin else none
  | _ => none

/-- The opcodes that take a second word. -/
def leTwoWords (opc : Nat) : Bool := [0x30, 0x31, 0x38, 0x39, 0x3A, 0x40, 0x41, 0x42].contains opc

/-- The slot cost of an opcode (R72). -/
def leSlots (opc : Nat) : Nat := if leTwoWords opc || opc == 0x03 then 2 else 1

/-- The preset of a timer: 0 encodes 16,777,216 (R85). -/
def timerPreset (v : Nat) : Nat := if v = 0 then 16777216 else v

/-- A cell's word, all other fields zero when it is absent (R81). -/
def presentCell (w : Word) : Word := if flag w 31 then w else 0

/-- The last known input of a LAST field: a field that is none reads as EFE says (R82). -/
def lastOf (fld : Nat) (efe : Bool) (asIf : Nat) : Nat := if fld = 0 ∧ efe then asIf else fld

/-- The LAST field after an input: an unknown one leaves it (R82). -/
def nextLast (fld inp : Nat) : Nat := if inp = 1 ∨ inp = 2 then inp else fld

/-- The known states. -/
def known (st : Nat) : Bool := decide (st = 1) || decide (st = 2)

/-- REDG and FEDG (R84): the state of out and the new cell, if it changes. -/
def edgeStep (rising efe : Bool) (inp : Nat) (w : Word) : Nat × Option Word :=
  let c := presentCell w
  let last := lastOf (field c 1 0) efe (if rising then 1 else 2)
  if known inp then
    let hit := if rising then decide (inp = 2 ∧ last = 1) else decide (inp = 1 ∧ last = 2)
    (if hit then 2 else 1, some (putFlag (putField 0 1 0 inp) 31 true))
  else (1, none)

/-- A timer cell from its fields. -/
def timerCell (q run : Bool) (last e : Nat) : Word := w32 (2 ^ 31 + bit1 q 30 + bit1 run 29 + last * 2 ^ 25 + e % 2 ^ 25)

/-- TON (R85). -/
def tonStep (t p inp : Nat) (w : Word) : Nat × Word :=
  let c := presentCell w
  let run := flag c 29
  let e := field c 24 0
  if inp = 2 then
    let e' := if run then min (e + p) t else 0
    let out := if t ≤ e' then 2 else 1
    (out, timerCell (out == 2) true 0 e')
  else
    let out := inp
    (out, timerCell (out == 2) false 0 0)

/-- TOF (R85). -/
def tofStep (t p inp : Nat) (w : Word) : Nat × Word :=
  let c := presentCell w
  let q := flag c 30
  let run := flag c 29
  let e := field c 24 0
  if inp = 2 then (2, timerCell true false 0 0)
  else if inp = 1 then
    let e1 := if q && !run then 0 else if run then min (e + p) t else e
    let run1 := run || (q && !run)
    if run1 && decide (t ≤ e1) then (1, timerCell false false 0 0)
    else (if q then 2 else 1, timerCell q run1 0 e1)
  else (inp, timerCell q false 0 0)

/-- TP (R85). -/
def tpStep (t p inp : Nat) (efe : Bool) (w : Word) : Nat × Word :=
  let c := presentCell w
  let run := flag c 29
  let e := field c 24 0
  let last := field c 26 25
  let edge := decide (inp = 2) && decide (lastOf last efe 1 = 1)
  let e1 := if run then min (e + p) t else e
  let run' := if run then !decide (t ≤ e1) else edge
  let e' := if run then (if t ≤ e1 then 0 else e1) else if edge then 0 else e
  let out := if run' then 2 else if known inp then 1 else inp
  (out, timerCell (out == 2) run' (nextLast last inp) e')

/-- A counter cell from its fields (R82). -/
def counterCell (lastu lastd count : Nat) : Word := w32 (2 ^ 31 + lastu % 4 * 2 ^ 29 + lastd % 4 * 2 ^ 27 + count % 2 ^ 24)

/-- CTU (R86). -/
def ctuStep (preset inp : Nat) (efe : Bool) (w : Word) : Nat × Word :=
  let c := presentCell w
  let last := field c 30 29
  let count := if inp = 2 ∧ lastOf last efe 1 = 1 then min (field c 23 0 + 1) 16777215 else field c 23 0
  (if preset ≤ count then 2 else 1, counterCell (nextLast last inp) (field c 28 27) count)

/-- CTD (R86). -/
def ctdStep (inp : Nat) (efe : Bool) (w : Word) : Nat × Word :=
  let c := presentCell w
  let last := field c 28 27
  let count := if inp = 2 ∧ lastOf last efe 1 = 1 then field c 23 0 - 1 else field c 23 0
  (if count = 0 then 2 else 1, counterCell (field c 30 29) (nextLast last inp) count)

/-- CTL (R86). -/
def ctlStep (val inp : Nat) (w : Word) : Nat × Word :=
  let c := presentCell w
  (inp, counterCell (field c 30 29) (field c 28 27) (if inp = 2 then val else field c 23 0))

end Sys2Proof.Machine
end

