-- ==== Sys2Proof/Machine/Sched.lean ====
section
/-! DEFINITION. Classes in a frame: which are due, starting, finishing and stopping them, overruns, program faults and
fault reactions (R28–R37, R67, R68, R88, R125). -/

namespace Sys2Proof.Machine

open Sys2Proof

/-- Insert a class by period index, then class number (R67). -/
def insertClass (s : State) (k : Nat) : List Nat → List Nat
  | [] => [k]
  | j :: js =>
    let a := (classCfg s k).period
    let b := (classCfg s j).period
    if a < b ∨ (a = b ∧ k ≤ j) then k :: j :: js else j :: insertClass s k js

/-- The class has a program on the stream of the engine (R105). -/
def onStream (s : State) (e i k : Nat) : Bool :=
  (leCfg s e).progs.any fun p => decide (p.2.cls = k) && decide (p.2.stream = i)

/-- The classes an engine (numbered as in FRM_ENG_BUDGETn) runs in this frame: due, of a partition that runs and does not lag (R257). -/
def dueOn (s : State) (eng : Nat) : List Nat :=
  ((s.cfg.classes.filter fun c =>
      decide (c.2.engine = eng) && classDue c.2 s.grid.frame && !partStopped s c.2.part
        && !(aligns s && s.pair.align.lag.contains c.2.part)).map (·.1))

/-- The classes of a logic engine's stream in running order (R67). -/
def leQueue (s : State) (e i : Nat) : List Nat :=
  ((dueOn s (4 + e)).filter fun k => !(leOf s e).split || onStream s e i k).foldl (fun l k => insertClass s k l) []

/-- Insert a program table entry by its number. -/
def insertNat (k : Nat) : List Nat → List Nat
  | [] => [k]
  | j :: js => if k ≤ j then k :: j :: js else j :: insertNat k js

/-- The programs of a class on a stream, in table order (R67). -/
def progsOf (s : State) (e i k : Nat) : List Nat :=
  (((leCfg s e).progs.filter fun p => decide (p.2.cls = k) && (!(leOf s e).split || decide (p.2.stream = i))).map (·.1)).foldl
    (fun l p => insertNat p l) []

/-- The settings of a program table entry. -/
def progCfg (s : State) (e p : Nat) : ProgCfg := (look (leCfg s e).progs p).getD {}

/-- A stream at the start of a program: empty stack, BAD:d in the primary accumulator and its complement in the shadow
accumulator (R75, R95). -/
def LeStream.enter (st : LeStream) (entry : Nat) : LeStream :=
  { st with pc := entry, acc := 0x7#4, accS := 0x8#4, stack := [], stackS := [], slots := 0, frameSlots := st.frameSlots + 16 }

/-- The next class of a stream starts at time t; its queue may be empty. -/
def startNext (s : State) (e i t : Nat) : State :=
  let x := leOf s e
  let st := x.stream i
  match st.queue with
  | [] => setLe s e (x.setStream i { st with cls := none, progs := [], hbuf := [], stores := [] })
  | k :: ks =>
    let ps := progsOf s e i k
    let st1 : LeStream := { st with cls := some k, progs := ps, queue := ks, hbuf := [], stores := [] }
    let st2 := match ps with
      | [] => st1
      | p :: _ => st1.enter (progCfg s e p).entry
    let s1 := setLe s e (x.setStream i st2)
    setClass s1 k { classOf s1 k with st := .running, since := t }

/-- The budget of a partition falls by the time an engine ran for it (R32). -/
def spend (s : State) (p ns : Nat) : State := setPart s p { partOf s p with budget := (partOf s p).budget - ns }

/-- The instant up to which a running class has used time at t: the halt, on an engine that a debugger halts (R111). -/
def usedTill (s : State) (k t : Nat) : Nat :=
  let eng := (classCfg s k).engine
  if 4 ≤ eng ∧ (leOf s (eng - 4)).halt then (leOf s (eng - 4)).haltAt else t

/-- The running classes of a partition. -/
def runningOf (s : State) (p : Nat) : List (Nat × ClassState) :=
  s.sched.classes.filter fun c => decide (c.2.st = .running) && decide ((classCfg s c.1).part = p)

/-- The time that they have used at t and that is not yet charged (R32). -/
def runningNs (s : State) (p t : Nat) : Nat := (runningOf s p).foldl (fun n c => n + (usedTill s c.1 t - c.2.since)) 0

/-- The partition's budget has run out while classes of it run (R33). -/
def budgetGone (s : State) (p t : Nat) : Bool := decide ((partOf s p).budget ≤ runningNs s p t) && !(runningOf s p).isEmpty

/-- A class leaves its engine at time t: the time it used is charged to the engine and the partition. -/
def chargeClass (s : State) (k t : Nat) (st : RunState) : State :=
  let c := classOf s k
  let cfg := classCfg s k
  let ns := usedTill s k t - c.since
  let u := tget {} s.sched.engines cfg.engine
  let s1 := setClass s k { c with st := st, lastNs := ns }
  let s2 := { s1 with sched := { s1.sched with engines := tset {} s1.sched.engines cfg.engine { u with busy := u.busy ++ [(c.since, t)] } } }
  spend s2 cfg.part ns

/-- Each overrun event is counted and recorded, and the third within 2,400 frames brings the reaction (R33, R35).
Cause: 0 window, 1 budget. -/
def overrun (s : State) (k cause : Nat) : State :=
  let cfg := classCfg s k
  let n := s.grid.frame
  let c := classOf s k
  let s1 := setClass s k { c with overruns := satAdd 255 c.overruns 1, st := .stopped }
  let s2 := wr (bump s1 Reg.FRM_OVR_TOTAL) Reg.FRM_LAST_OVR
    (w32 (cause * 2 ^ 31 + cfg.part * 2 ^ 20 + cfg.engine * 2 ^ 16 + k))
  let p := partOf s2 cfg.part
  let win := n :: p.overruns.filter fun f => decide (n - f ≤ 2399)
  let s3 := setPart s2 cfg.part { p with
    overruns := win
    total := satAdd 0xFFFF p.total 1
    reactDue := p.reactDue || (!p.react && decide (3 ≤ win.length)) }
  raise s3 { blk := 1, ev := 0, part := cfg.part, info := [cfg.part, k, cfg.engine, cause] }

/-- The retained words among the words a class wrote. -/
def isRetWord (s : State) (a : Nat) : Bool :=
  s.cfg.fbx.areas.any fun r => decide (r.kind = 3) && decide (r.lo ≤ a) && decide (a < r.hi)

/-- A logic-engine class is stopped: no store, no history write (R34, R68). The stream then starts its next class. -/
def stopLe (s : State) (e i t : Nat) : State := startNext s e i t

/-- Service work takes or leaves a core at time t (R120). -/
def AcCore.serve (x : AcCore) (on : Bool) (t : Nat) : AcCore :=
  if x.service = on then x
  else if on then { x with service := true, svcFrom := t }
  else { x with service := false, svcNs := x.svcNs + (t - x.svcFrom) }

/-- An application-core class is stopped: its stores are dropped and its journal becomes a rollback (R125). -/
def stopAc (s : State) (core t : Nat) : State :=
  let x := acOf s core
  match x.cls with
  | none => s
  | some k =>
    let part := (classCfg s k).part
    let s1 := setAc s core { x.serve true t with
      cls := none, stalled := false, stores := [], journal := [], retJournal := [], recs := 0
      prevEnd := t
      rolls := x.rolls ++ [{ part := part, words := x.journal }] }
    let s2 := { s1 with fbx := { s1.fbx with rollbacks := tmod 0 s1.fbx.rollbacks part (fun r => satAdd 0xFFFF r 1) } }
    let s3 := wrField s2 (Reg.FBX_JRNL_STATn core) 13 0 x.journal.length
    raise s3 { blk := 4, ev := 2, part := part, info := [core, k, x.journal.length] }

/-- Stop the running class of an engine (numbered as in FRM_ENG_BUDGETn) and stream. -/
def stopOn (s : State) (eng i t : Nat) : State := if eng < 4 then stopAc s eng t else stopLe s (eng - 4) i t

/-- The stream of a logic engine that runs class k. -/
def streamOf (s : State) (e k : Nat) : Nat := if (leOf s e).s1.cls = some k then 1 else 0

/-- A class is taken out of the queues of its engine without running. -/
def unqueue (s : State) (k : Nat) : State :=
  let eng := (classCfg s k).engine
  if eng < 4 then
    let x := acOf s eng
    let table := (look s.cfg.fbx.slots eng).getD []
    setAc s eng { x with used := x.used.filter fun j => match table[j]? with
      | some ent => decide (ent.cls ≠ k)
      | none => true }
  else
    let e := eng - 4
    let x := leOf s e
    setLe s e { x with
      s0 := { x.s0 with queue := x.s0.queue.filter (· != k) }
      s1 := { x.s1 with queue := x.s1.queue.filter (· != k) } }

/-- The partition's reaction takes effect at the commit of this frame, or of the next after the commit (R35, R88, R103). -/
def reactAtCommit (s : State) (p : Nat) : State := setPart s p { partOf s p with reactDue := true }

/-- A program fault of a logic engine stops the class, and its partition's reaction follows at the commit (R88). -/
def leFault (s : State) (e i cause t : Nat) : State :=
  let x := leOf s e
  let st := x.stream i
  match st.cls, st.progs with
  | some k, p :: _ =>
    let n := s.grid.frame
    let part := (classCfg s k).part
    let s1 := wr (bump s (Reg.LE_FAULT_CNT e)) (Reg.LE_FAULT_LAST e) (w32 (cause * 2 ^ 28 + p * 2 ^ 19 + st.pc))
    let x1 := leOf s1 e
    let again := match x1.lastFault with
      | some (c0, p0, n0) => decide (c0 = cause) && decide (p0 = p) && decide (n - n0 ≤ 2399)
      | none => false
    let s2 := setLe s1 e { x1 with
      progFaults := tmod 0 x1.progFaults p (fun f => satAdd 255 f 1)
      lastFault := if again then x1.lastFault else some (cause, p, n) }
    let s3 := setBit s2 (Reg.LE_EVT_STAT e) 0
    let s4 := if again then s3 else record s3 { blk := 3, ev := 0, part := part, info := [e, p, st.pc, cause] }
    let s5 := startFlush (reactAtCommit s4 part) 3
    stopLe (chargeClass s5 k t .stopped) e i t
  | _, _ => s

/-- A program fault of an application core (R126). -/
def acFault (s : State) (core cause addr t : Nat) : State :=
  let x := acOf s core
  match x.cls with
  | none => s
  | some k =>
    let n := s.grid.frame
    let part := (classCfg s k).part
    let s1 := wr (bump s Reg.FBX_FAULT_CNT) Reg.FBX_FAULT_LAST (w32 (cause * 2 ^ 28 + core * 2 ^ 26 + part * 2 ^ 16 + k))
    let s2 := wr s1 Reg.FBX_FAULT_ADDR (w32 addr)
    let again := match s2.fbx.lastFault with
      | some (c0, k0, n0) => decide (c0 = cause) && decide (k0 = k) && decide (n - n0 ≤ 2399)
      | none => false
    let s3 := { s2 with fbx := { s2.fbx with lastFault := if again then s2.fbx.lastFault else some (cause, k, n) } }
    let s4 := setBit s3 Reg.FBX_EVT_STAT 0
    let s5 := if again then s4 else record s4 { blk := 4, ev := 0, part := part, info := [core, k, addr, cause] }
    let s6 := startFlush (reactAtCommit s5 part) 3
    stopAc (chargeClass s6 k t .stopped) core t

/-- The partitions with a class on an engine. -/
def partsOn (s : State) (eng : Nat) : List Nat :=
  ((s.cfg.classes.filter fun c => decide (c.2.engine = eng)).map (fun c => c.2.part)).eraseDups

/-- A logic engine is declared failed (R103). -/
def engineFailed (s : State) (e : Nat) : State :=
  let x := leOf s e
  if x.failed then s
  else
    let s1 := setLe s e { x with failed := true, s0 := {}, s1 := {} }
    let parts := partsOn s (4 + e)
    let s2 := parts.foldl reactAtCommit s1
    let s3 := recordBare s2 1 { blk := 3, ev := 0, info := [e] }
    let s4 := partitionSafeState (startFlush s3 3) (parts.filter fun p => (partCfg s p).safety)
    match s4.pair.role with
    | .active => requestSwitchover s4 0
    | .solo => requestSwitchover s4 0
    | .standby => leaveForRestart s4
    | .learning => leaveForRestart s4
    | .detached => leaveForRestart s4
    | .offline => s4

/-- A mismatch or an uncorrectable word counts in the window of R102; a second one within 2,400 frames fails the engine. -/
def windowEvent (s : State) (e : Nat) : State :=
  let x := leOf s e
  let n := s.grid.frame
  let near := x.events.filter fun f => decide (n - f ≤ 2399)
  let s1 := setLe s e { x with events := n :: near, fullTest := true }
  let s2 := wrField s1 (Reg.LE_CMP_STAT e) 31 31 1
  if near.isEmpty then s2 else engineFailed s2 e

/-- Classes not yet run after a mismatch are skipped and recorded as skipped (R100). -/
def skipRest (s : State) (e : Nat) : State :=
  let x := leOf s e
  let ks := x.s0.queue ++ x.s1.queue
  let s1 := setLe s e { x with s0 := { x.s0 with queue := [] }, s1 := { x.s1 with queue := [] } }
  ks.foldl (fun t k => recordBare (setClass t k { classOf t k with st := .skipped }) 2
    { blk := 3, ev := 0, part := (classCfg t k).part, info := [e, k] }) s1

end Sys2Proof.Machine
end

