-- ==== Sys2Proof/Machine/Real32.lean ====
section
/-! DEFINITION. Binary32 values as exact fractions: a pattern read as a fraction, a fraction rounded to the nearest pattern
(ties to even), and comparisons. -/

namespace Sys2Proof.Machine

open Sys2Proof

/-- A fraction: numerator and positive denominator. -/
structure Frac where
  num : Int := 0
  den : Nat := 1
deriving DecidableEq, Repr

/-- A whole number. -/
def Frac.ofInt (n : Int) : Frac := { num := n }
/-- n / d. -/
def frac (n : Int) (d : Nat) : Frac := { num := n, den := max d 1 }
def Frac.add (a b : Frac) : Frac := { num := a.num * b.den + b.num * a.den, den := a.den * b.den }
def Frac.neg (a : Frac) : Frac := { a with num := -a.num }
def Frac.sub (a b : Frac) : Frac := a.add b.neg
def Frac.mul (a b : Frac) : Frac := { num := a.num * b.num, den := a.den * b.den }
/-- a / b; zero where b is zero. -/
def Frac.div (a b : Frac) : Frac :=
  if b.num = 0 then {} else if 0 < b.num then { num := a.num * b.den, den := a.den * b.num.natAbs }
  else { num := -(a.num * b.den), den := a.den * b.num.natAbs }
def Frac.le (a b : Frac) : Bool := decide (a.num * b.den ≤ b.num * a.den)
def Frac.lt (a b : Frac) : Bool := decide (a.num * b.den < b.num * a.den)
def Frac.abs (a : Frac) : Frac := { a with num := a.num.natAbs }
def Frac.max (a b : Frac) : Frac := if a.le b then b else a
def Frac.min (a b : Frac) : Frac := if a.le b then a else b
/-- The nearest whole number, ties to even. -/
def Frac.round (a : Frac) : Int :=
  let q := a.num / a.den
  let r := 2 * (a.num - q * a.den)
  if r < a.den then q else if (a.den : Int) < r then q + 1 else if q % 2 = 0 then q else q + 1
/-- The greatest whole number not above. -/
def Frac.floor (a : Frac) : Int := a.num / a.den
/-- The sum of a list. -/
def Frac.sum (l : List Frac) : Frac := l.foldl Frac.add {}

/-- The fraction that a finite binary32 pattern holds. -/
def fracOf (w : Word) : Frac :=
  let e := field w 30 23
  let m : Int := if e = 0 then field w 22 0 else field w 22 0 + 8388608
  let sm := if flag w 31 then -m else m
  let x := if e = 0 then 1 else e
  if 150 ≤ x then { num := sm * 2 ^ (x - 150), den := 1 } else { num := sm, den := 2 ^ (150 - x) }

/-- A non-negative a / d · 2^k rounded to the nearest whole number, ties to even. -/
def roundScaled (a d : Nat) (k : Int) : Nat :=
  let f : Frac := if 0 ≤ k then { num := a * 2 ^ k.toNat, den := d } else { num := a, den := d * 2 ^ (-k).toNat }
  f.round.toNat

/-- The exponent e with 2^e ≤ a / d < 2^(e+1), for a positive a. -/
def expOf (a d : Nat) : Int :=
  let e : Int := (Nat.log2 a : Int) - Nat.log2 d
  let below := if 0 ≤ e then decide (a < d * 2 ^ e.toNat) else decide (a * 2 ^ (-e).toNat < d)
  if below then e - 1 else e

/-- The binary32 pattern nearest to a fraction. -/
def word32 (f : Frac) : Word :=
  let a := f.num.natAbs
  if a = 0 then 0
  else
    let e := max (expOf a f.den) (-126)
    let m := roundScaled a f.den (23 - e)
    let bits := (e + 126).toNat * 8388608 + m
    let top := if 0x7F800000 ≤ bits then 0x7F800000 else bits
    w32 (top + (if f.num < 0 then 2147483648 else 0))

/-- A whole number as a binary32 pattern. -/
def intWord32 (n : Int) : Word := word32 { num := n }

end Sys2Proof.Machine
end

