-- ==== Sys2Proof/Machine/Terminal.lean ====
section
/-! DEFINITION. The local terminals: what a digital input reads, which outputs the module drives and with what, and their
statuses (R333–R346, R266–R271). -/

namespace Sys2Proof.Machine

open Sys2Proof

/-- Change the local field I/O. -/
def setLio (s : State) (f : LioState → LioState) : State := { s with lio := f s.lio }
def diCfg (s : State) (n : Nat) : DiCfg := (look s.cfg.lio.di n).getD {}
def diOf (s : State) (n : Nat) : DiState := tget {} s.lio.di n
def setDi (s : State) (n : Nat) (x : DiState) : State := setLio s fun l => { l with di := tset {} l.di n x }
def doOf (s : State) (ch : Nat) : DoState := tget {} s.lio.dos ch
def setDo (s : State) (ch : Nat) (x : DoState) : State := setLio s fun l => { l with dos := tset {} l.dos ch x }
def grpOf (s : State) (g : Nat) : DoGroup := tget {} s.lio.groups g
def setGrp (s : State) (g : Nat) (x : DoGroup) : State := setLio s fun l => { l with groups := tset {} l.groups g x }
def axOf (s : State) (ch : Nat) : AxState := tget {} s.lio.ax ch
def setAx (s : State) (ch : Nat) (x : AxState) : State := setLio s fun l => { l with ax := tset {} l.ax ch x }

/-- The endpoints of a binding type at an address, with their entries. -/
def epsAt (s : State) (bt : Nat) (p : Nat → Bool) : List Nat := endpointsWith s fun _ d => decide (btype d = bt) && p (daddr d)

/-! ### Digital inputs -/

/-- The class of a filtered current in µA at a voltage in mV, from the class before (R331, R333). -/
def diClass (wbrk : Bool) (old cur mv : Nat) : Nat :=
  if wbrk ∧ (cur < 350 ∨ (old = 2 ∧ cur < 500)) then 2
  else if 2000 ≤ cur ∧ 11000 ≤ mv then 1
  else if cur ≤ 1500 ∨ mv ≤ 5000 then 0
  else if old = 2 then 0 else old

/-- The tetrad of a digital input at time t (R335). -/
def diTet (s : State) (n t : Nat) : Tetrad :=
  let x := diOf s n
  match x.doubtTill with
  | none => 0x7#4
  | some u => if x.deb = 2 then 0x7#4 else mkTet (if x.deb = 1 then 2 else 1) (decide (t < u)) false

/-- A channel starts or restarts its debounce history (R335). -/
def diStart (s : State) (n : Nat) : State :=
  let x := diOf s n
  setDi s n { x with doubtTill := some (s.grid.now + (diCfg s n).deb * 1000 + 100000) }

/-! ### Who drives -/

/-- The role drives its frame path on trip-class outputs (R227). -/
def framePath (s : State) : Bool :=
  match s.pair.role with
  | .solo => true | .active => true | .standby => true
  | _ => false

/-- The outputs exist: no qualified KILL and no end of hold-up holds them off (R236, R511). -/
def outputsOn (s : State) : Bool := !gatesClosed s

/-- The module drives control-class local digital outputs: with the grant of its role, as the incoming side from h + 2 on,
as the outgoing side until it releases them, or from an unplanned grant on (R266, R268, R269). -/
def drivesControl (s : State) : Bool :=
  outputsOn s && match s.pair.ho with
    | some h => if h.outgoing then !h.released else s.pair.role.leads && decide (h.h + 2 ≤ s.grid.frame)
    | none => s.pair.role.leads || (s.pair.grantLatch && s.pair.granted)

/-- The module latches control-class outputs at the common instant of the present frame: the outgoing side holds from h + 2 on, and
an unplanned grant latches by itself until the takeover commit (R268, R269). -/
def latchesControl (s : State) : Bool :=
  match s.pair.ho with
  | some h => if h.outgoing then decide (s.grid.frame ≤ h.h + 1) else s.pair.role.leads && decide (h.h + 2 ≤ s.grid.frame)
  | none => s.pair.role.leads

/-- The module drives analogue outputs (R270, R271). -/
def drivesAnalogue (s : State) : Bool :=
  outputsOn s && !s.lio.aoWait && match s.pair.ho with
    | some h => if h.outgoing then decide (h.fade < 100) else s.pair.role.leads && decide (h.h + 2 ≤ s.grid.frame)
    | none => s.pair.role.leads || (s.pair.grantLatch && s.pair.granted)

/-- SAF holds the series switch of a safety output open (R284, R285). -/
def switchOpen (s : State) (ep : Nat) : Bool :=
  let d := dirEntry s ep
  dSafety d && (s.saf.safe || s.saf.psafe.contains (dpart d))

/-! ### Prompt assertions on a terminal (R58, R59, R227) -/

/-- The prompt path of the module reaches its outputs: every role but OFFLINE, and OFFLINE in JOIN (R227). -/
def promptPath (s : State) : Bool := outputsOn s && (decide (s.pair.role ≠ .offline) || (decide (1 ≤ stage s) && decide (stage s ≤ 4)))

/-- A prompt assertion holds on an endpoint. -/
def promptOn (s : State) (ep : Nat) : Bool := s.sched.prompts.any fun e => match e.2 with
  | some h => decide (h.ep = ep)
  | none => false

/-! ### Digital outputs -/

/-- The endpoint of a digital output. -/
def doEp (s : State) (ch : Nat) : Option Nat := (epsAt s 3 fun a => decide (a % 16 = ch)).head?

/-- The module drives a channel by its frame path. -/
def drivesDo (s : State) (ep : Nat) : Bool := if dPrompt (dirEntry s ep) then framePath s && outputsOn s else drivesControl s

/-- The safe state of a channel. -/
def doSafe (s : State) (ch : Nat) (x : DoState) : Bool :=
  match (look s.cfg.lio.dos ch).getD 0 with
  | 0 => false
  | 1 => true
  | _ => x.latched

/-- The channel is held ON by a prompt assertion, or until the common instant after its last one; a forced output is not. -/
def doPrompt (s : State) (ch ep : Nat) : Bool :=
  dPrompt (dirEntry s ep) && promptPath s && (promptOn s ep || (doOf s ch).tail) && (forceOf s ep).isNone

/-- What the frame path or the watchdog demands of a channel. -/
def doWanted (s : State) (ch ep : Nat) : Bool :=
  let x := doOf s ch
  if doPrompt s ch ep then true else drivesDo s ep && (if s.lio.wdHold then doSafe s ch x else x.latched)

/-- The state of a digital output's switch. -/
def doOut (s : State) (ch : Nat) : Bool :=
  match doEp s ch with
  | none => false
  | some ep => doWanted s ch ep && !switchOpen s ep && !(doOf s ch).off && !(grpOf s (ch / 8)).off

/-- The status tetrad of a digital output (R336). -/
def doStatus (s : State) (ch : Nat) : Tetrad :=
  match doEp s ch with
  | none => 0x5#4
  | some ep =>
    let x := doOf s ch
    let g := grpOf s (ch / 8)
    if x.off || g.off || g.low || decide (2 ≤ x.miss) then 0x7#4
    else if switchOpen s ep || !(drivesDo s ep || doPrompt s ch ep) then 0x5#4
    else if s.lio.wdHold && !doPrompt s ch ep then 0x6#4
    else 0x2#4

/-- A digital output latches a tetrad: only ON drives ON (R42, R336). -/
def latchDo (s : State) (ch : Nat) (v : Tetrad) : State :=
  setDo s ch { doOf s ch with latched := decide (tstate v = 2), tail := false }

/-- The distributed value of an endpoint. -/
def distBin (s : State) (ep : Nat) : Tetrad := tget 0x7#4 s.sig.distribute.bin ep
def distAna (s : State) (ep : Nat) : AnaCell := tget {} s.sig.distribute.ana ep

/-- The channels with a bound output. -/
def boundDos (s : State) : List (Nat × Nat) := (upto 16).filterMap fun ch => (doEp s ch).map fun ep => (ch, ep)

/-! ### Analogue channels -/

/-- The endpoint of an analogue channel. -/
def axEp (s : State) (ch : Nat) : Option Nat := (epsAt s 4 fun a => decide (a % 8 = ch)).head?
/-- The channel is in an output mode, in an input mode. -/
def axOutput (s : State) (ch : Nat) : Bool := let m := (axCfg s ch).mode; decide (m = 1) || decide (m = 2)
def axInput (s : State) (ch : Nat) : Bool := let m := (axCfg s ch).mode; decide (m = 3) || decide (m = 4)

/-- A commanded value clamped to 0–24 mA, and whether it was clamped (R344). -/
def axClamp (v : Word) : Word × Bool :=
  let f := fracOf v
  if f.lt (Frac.ofInt 0) then (0, true) else if (Frac.ofInt 24).lt f then (0x41C00000#32, true) else (v, false)

/-- The channel drives current: an output mode, driven by this module, and not at high impedance. -/
def axDriven (s : State) (ch : Nat) : Bool :=
  axOutput s ch && drivesAnalogue s && !(axOf s ch).hiz && !(s.lio.wdHold && decide ((axCfg s ch).safek = 2))

/-- The value that the channel commands: its command, or its safe value under the watchdog (R346). -/
def axCommand (s : State) (ch : Nat) : Word :=
  if s.lio.wdHold && decide ((axCfg s ch).safek = 1) then (axCfg s ch).safe else (axOf s ch).cmd

/-- Set VALID of a quality word, and bits. -/
def qualWith (valid : Nat) (bits : Qual) : Qual := BitVec.ofNat 16 valid ||| bits

/-- The quality and the status tetrad of a measured current in an input mode (R343). -/
def aiJudge (v : Word) : Qual × Tetrad :=
  let f := fracOf v
  let at_ := fun (n : Int) => frac n 10
  if f.lt (at_ 5) then (0x0041#16, 0x7#4)
  else if f.lt (at_ 36) || (at_ 210).lt f then (0x0049#16, 0x7#4)
  else if f.lt (at_ 38) || (at_ 205).lt f then (0x000B#16, 0x6#4)
  else (0#16, 0x2#4)

/-- The value that an input presents: the mean of the last 24 samples with the filter, otherwise the last sample. -/
def aiValue (s : State) (ch : Nat) : Word :=
  let x := axOf s ch
  if (axCfg s ch).hartflt ∧ x.samples ≠ [] then
    word32 ((Frac.sum (x.samples.map fracOf)).mul (frac 1 x.samples.length))
  else x.meas

/-- Value, quality and status tetrad of an input at the common instant; the filter not full makes them doubtful. -/
def aiRead (s : State) (ch : Nat) : Word × Qual × Tetrad :=
  let v := aiValue s ch
  let (q, t) := aiJudge v
  if (axCfg s ch).hartflt && decide ((axOf s ch).samples.length < 24) then
    (v, if qvalid q = 0 then q ||| 0x0003#16 else q, t ||| 0x4#4)
  else (v, q, t)

/-- The status tetrad of an analogue channel (R343, R344). -/
def axStatus (s : State) (ch : Nat) : Tetrad :=
  let x := axOf s ch
  if axInput s ch then (if x.conv then 0x7#4 else (aiRead s ch).2.2)
  else if !axDriven s ch then 0x5#4
  else if x.conv || x.isOpen then 0x7#4
  else if x.isComp || s.lio.wdHold then 0x6#4 else 0x2#4

/-- The quality of the readback of an output (R344, R345). -/
def aoQual (s : State) (ch : Nat) : Qual :=
  let x := axOf s ch
  let oor : Qual := if x.oor then 0x0008#16 else 0
  if x.isOpen || x.conv then oor ||| 0x0041#16 else if x.isComp then oor ||| 0x0003#16 else oor

/-- The condition code of AIO_CH_STAT.COND. -/
def axCond (s : State) (ch : Nat) : Nat :=
  let x := axOf s ch
  if x.conv then 5
  else if axOutput s ch then (if !axDriven s ch then 4 else if x.isOpen then 2 else if x.isComp then 1 else 0)
  else if axInput s ch then
    (let q := (aiJudge (aiValue s ch)).1
     if q = 0 then 0 else if q = 0x0041#16 then 2 else 3)
  else 0

/-- HART transmission on the channel is suspended: open loop, compliance, or a cross-fade (R345, R270). -/
def hartSuspended (s : State) (ch : Nat) : Bool :=
  let x := axOf s ch
  (axOutput s ch && (x.isOpen || x.isComp)) || s.pair.ho.isSome

/-- DUR: the frames in the present condition. -/
def axDur (s : State) (ch : Nat) : Nat := min 8191 (s.grid.frame - (axOf s ch).since)

end Sys2Proof.Machine
end

