-- ==== Sys2Proof/Machine/LePass.lean ====
section
/-! DEFINITION. One issue of a logic engine: the primary and the shadow pass, their comparison, mismatches, live loads,
breakpoints and the release of stores and cell writes (R75–R88, R94–R104, R109). -/

namespace Sys2Proof.Machine

open Sys2Proof

/-- What one pass of an instruction yields (R98): accumulator, stack, store, cell write, next word address, the decision of
a SKIP and the fault condition it reaches. -/
structure PassOut where
  acc : Tetrad
  stack : List StackEnt
  store : Option (Nat × Tetrad) := none
  cell : Option (Nat × Word) := none
  next : Nat
  skips : Bool := false
  fault : Option Nat := none
deriving DecidableEq, Repr

/-- What a pass reads: operand tetrad, history cell word and frozen target, already inverted for the shadow pass (R95); and
what both passes see alike: the class period, the program's last word, and whether the endpoint accepts the store, the cell
lies in the window and the write-back buffer has room. -/
structure PassIn where
  v : Tetrad := 0
  cell : Word := 0
  target : Tetrad := 0
  period : Nat := 1
  pc : Nat := 0
  last : Nat := 0
  storeOk : Bool := true
  cellOk : Bool := true
  roomOk : Bool := true

/-- The fault of a cell instruction (R88): CELL, then HBUF. -/
def cellFault (e : PassIn) : Option Nat := if !e.cellOk then some 7 else if !e.roomOk then some 8 else none

/-- A cell instruction in one pass. The shadow pass evaluates it on inverted words with inverted arithmetic, so its results
are the complements of the primary's (R97). -/
def cellPass (sh : Bool) (e : PassIn) (acc : Tetrad) (stack : List StackEnt) (cell : Nat)
    (f : Nat → Word → Nat × Option Word) : PassOut :=
  let inp := if sh then ~~~ acc else acc
  let w := if sh then ~~~ e.cell else e.cell
  let r := f (tstate inp) w
  let out := statefulOut inp r.1
  { acc := if sh then ~~~ out else out
    stack := stack
    cell := if (cellFault e).isSome then none else r.2.map fun c => (cell, if sh then ~~~ c else c)
    next := e.pc + 2
    fault := if r.2.isNone && e.cellOk then none else cellFault e }

/-- One pass of an instruction (R72–R87); sh is the shadow pass with its dual circuits (R96). -/
def lePass (sh : Bool) (n : LeInsn) (e : PassIn) (acc : Tetrad) (stack : List StackEnt) : PassOut :=
  let plain : PassOut := { acc := acc, stack := stack, next := e.pc + 1 }
  match n with
  | .ld neg _ => { plain with acc := if neg then tnot e.v else e.v }
  | .ldl _ => { plain with acc := e.v }
  | .alu op _ => { plain with acc := passOp sh op acc e.v }
  | .bop op _ =>
    if stack.length = 16 then { plain with fault := some 2 }
    else { plain with acc := e.v, stack := { acc := acc, op := op } :: stack }
  | .bcl =>
    match stack with
    | [] => { plain with fault := some 3 }
    | t :: ts => { plain with acc := passOp sh t.op t.acc acc, stack := ts }
  | .st neg ep =>
    if e.storeOk then { plain with store := some (ep, if neg then tnot acc else acc) } else { plain with fault := some 5 }
  | .setrst on ep =>
    let trigger := if sh then decide (tstate acc = 1) else decide (tstate acc = 2)
    let idle := if sh then decide (tstate acc = 2) else decide (tstate acc = 1)
    let onSt := if sh then 1 else 2
    let offSt := if sh then 2 else 1
    if trigger then
      if e.storeOk then { plain with store := some (ep, mkTet (if on then onSt else offSt) (tdoubt acc) (tover acc)) }
      else { plain with fault := some 5 }
    else if idle then plain
    else if e.storeOk then { plain with store := some (ep, mkTet (tstate e.target) (!sh) (tover acc)) }
    else { plain with fault := some 5 }
  | .edge rising efe cell => cellPass sh e acc stack cell fun i w => edgeStep rising efe i w
  | .timer kind preset efe cell => cellPass sh e acc stack cell fun i w =>
      let r := match kind with
        | 0 => tonStep (timerPreset preset) e.period i w
        | 1 => tofStep (timerPreset preset) e.period i w
        | _ => tpStep (timerPreset preset) e.period i efe w
      (r.1, some r.2)
  | .ctu preset efe cell => cellPass sh e acc stack cell fun i w => let r := ctuStep preset i efe w; (r.1, some r.2)
  | .ctd efe cell => cellPass sh e acc stack cell fun i w => let r := ctdStep i efe w; (r.1, some r.2)
  | .ctl val cell => cellPass sh e acc stack cell fun i w => let r := ctlStep val i w; (r.1, some r.2)
  | .tstd sel => { plain with acc := if sh then dualTstd sel acc else tstd sel acc }
  | .stro => { plain with acc := if sh then dualStro acc else stro acc }
  | .frcd => { plain with acc := if sh then dualFrcd acc else frcd acc }
  | .skip sel count =>
    let c := if sh then dualSkipCond sel acc else skipCond sel acc
    if c then
      if e.last < e.pc + 1 + count then { plain with skips := true, fault := some 6 }
      else { plain with skips := true, next := e.pc + 1 + count }
    else plain
  | .fin => if stack.isEmpty then { plain with next := e.pc } else { plain with fault := some 4 }

/-- The shadow result re-complemented (R98). -/
def PassOut.recomplement (r : PassOut) : PassOut :=
  { r with
    acc := ~~~ r.acc
    stack := r.stack.map fun t => { t with acc := ~~~ t.acc }
    store := r.store.map fun p => (p.1, ~~~ p.2)
    cell := r.cell.map fun p => (p.1, ~~~ p.2) }

/-- An upset changes the shadow result. -/
def PassOut.upset (r : PassOut) (u : Upset) : PassOut :=
  { r with
    acc := r.acc ^^^ u.acc
    stack := match r.stack with
      | [] => []
      | t :: ts => { t with acc := t.acc ^^^ u.stack } :: ts
    store := r.store.map fun p => (p.1, p.2 ^^^ u.store)
    cell := r.cell.map fun p => (p.1, p.2 ^^^ u.cell)
    next := if u.flow then r.next + 1 else r.next }

/-- The kind of a mismatch (LE_CMP_STAT.KIND), with both values; none when the passes agree (R98). -/
def passDiff (p q : PassOut) : Option (Nat × Nat × Nat) :=
  if p.fault ≠ q.fault then
    some (if p.fault = some 2 ∨ p.fault = some 3 ∨ p.fault = some 4 ∨ q.fault = some 2 ∨ q.fault = some 3 ∨ q.fault = some 4
      then 4 else 5, p.fault.getD 0, q.fault.getD 0)
  else if p.store ≠ q.store then some (2, (p.store.map fun x => x.2.toNat).getD 0, (q.store.map fun x => x.2.toNat).getD 0)
  else if p.cell ≠ q.cell then some (3, (p.cell.map fun x => x.2.toNat).getD 0, (q.cell.map fun x => x.2.toNat).getD 0)
  else if p.acc ≠ q.acc then some (1, p.acc.toNat, q.acc.toNat)
  else if p.stack ≠ q.stack then some (4, p.stack.length, q.stack.length)
  else if p.next ≠ q.next ∨ p.skips ≠ q.skips then some (5, p.next, q.next)
  else none

/-! ### What an issue reads -/

/-- The debounced state that a local digital input presents at this instant (R22, R77). -/
def diLive (s : State) (ep t : Nat) : Tetrad := diTet s (daddr (dirEntry s ep) % 32) t

/-- The live value of an operand read at time t (R77); a forced source reads its force (R218). -/
def liveBin (s : State) (ep t : Nat) : Tetrad :=
  let b := btype (dirEntry s ep)
  if (forceOf s ep).isSome then frozenBin s ep
  else if b = 2 then diLive s ep t
  else if [5, 7, 9, 0xB, 0xC].contains b then
    match tget none s.sig.coll.got ep with
    | some g => if s.grid.freezeAt ≤ g.stamp ∧ g.stamp < t then g.tet else frozenBin s ep
    | none => frozenBin s ep
  else frozenBin s ep

/-- R53 for a binary endpoint: BTYPE 0x1, 0x3, 0x6, 0x8 or 0xA and the storing class's partition. -/
def binStoreOk (s : State) (ep part : Nat) : Bool :=
  [1, 3, 6, 8, 0xA].contains (btype (dirEntry s ep)) && decide (dpart (dirEntry s ep) = part) && isBinary ep

/-- The operand tetrad of an instruction, with the outcome of a live load: 0 agreed or none, 1 agreed at the second
samples, 2 diverged twice (R104). -/
def opdValue (s : State) (n : LeInsn) (st : LeStep) (split : Bool) : Tetrad × Nat :=
  let ofOpd := fun (o : LeOpd) => match o with
    | .imm t => t
    | .sig ep => frozenBin s ep
  match n with
  | .ld _ o => (ofOpd o, 0)
  | .alu _ o => (ofOpd o, 0)
  | .bop _ o => (ofOpd o, 0)
  | .ldl ep =>
    match st.live with
    | none => (liveBin s ep st.time, 0)
    | some (p1, s1, p2, s2) =>
      if split || decide (p1 = s1) then (p1, 0)
      else if p2 = s2 then (p2, 1) else (p2 ||| 0x4#4, 2)
  | _ => (0, 0)

/-- The history cell of an instruction. -/
def insnCell : LeInsn → Option Nat
  | .edge _ _ c => some c
  | .timer _ _ _ c => some c
  | .ctu _ _ c => some c
  | .ctd _ c => some c
  | .ctl _ c => some c
  | _ => none

/-- The endpoint an instruction stores to. -/
def insnTarget : LeInsn → Option Nat
  | .st _ ep => some ep
  | .setrst _ ep => some ep
  | _ => none

/-- The words of an instruction. -/
def insnWords (n : LeInsn) : Nat := if (insnCell n).isSome then 2 else 1

/-- What the primary pass of an issue reads. -/
def passIn (s : State) (x : LeEngine) (e i p : Nat) (n : LeInsn) (v : Tetrad) : PassIn :=
  let st := x.stream i
  let pc := progCfg s e p
  let win := (look (leCfg s e).windows pc.part).getD {}
  let c := (insnCell n).getD 0
  let ep := (insnTarget n).getD 0
  { v := v
    cell := match tget none st.hbuf c with
      | some w => w
      | none => tget 0 x.hist c
    target := frozenBin s ep
    period := periodFrames (classCfg s pc.cls).period
    pc := st.pc
    last := pc.entry + pc.len - 1
    storeOk := binStoreOk s ep pc.part
    cellOk := decide (win.base ≤ c) && decide (c < win.base + win.count)
    roomOk := (tget none st.hbuf c).isSome || decide (st.hbuf.length < 8192) }

/-- The shadow pass reads complements (R95). -/
def PassIn.inverted (e : PassIn) : PassIn := { e with v := ~~~ e.v, cell := ~~~ e.cell, target := ~~~ e.target }

/-! ### Outcomes of an issue -/

/-- A mismatch (R100): the class stops, the rest of the engine's classes are skipped, and the full self-test is due. -/
def mismatch (s : State) (e t : Nat) (d : Nat × Nat × Nat) : State :=
  let x := leOf s e
  let st := x.s0
  match st.cls, st.progs with
  | some k, p :: _ =>
    let s1 := addField s (Reg.LE_MISM_CNT e) 31 16 1
    let s2 := wrField (wrField s1 (Reg.LE_CMP_STAT e) 27 25 d.1) (Reg.LE_CMP_STAT e) 15 0 s.grid.frame
    let s3 := raise s2 { blk := 3, ev := 3, part := (classCfg s k).part, info := [e, p, st.pc, d.1, d.2.1, d.2.2] } e
    let s4 := skipRest (chargeClass s3 k t .stopped) e
    windowEvent (stopLe s4 e 0 t) e
  | _, _ => s

/-- An uncorrectable-memory event is shown as a mismatch of kind 6 of this frame (R115). -/
def badWord (s : State) (e : Nat) : State :=
  wrField (wrField (raise s { blk := 3, ev := 2, info := [e] } e) (Reg.LE_CMP_STAT e) 27 25 6) (Reg.LE_CMP_STAT e) 15 0 s.grid.frame

/-- An uncorrectable word read by a class (R65): program fault MEM, and the event counts as a mismatch does (R102). -/
def memFault (s : State) (e i t : Nat) : State := windowEvent (leFault (badWord s e) e i 9 t) e

/-- A single-bit error is corrected and counted (R65). hi says which half of LE_ECC_CNT counts it. -/
def eccCorrected (s : State) (e : Nat) (prog : Bool) : State :=
  let s1 := if prog then addField s (Reg.LE_ECC_CNT e) 31 16 1 else addField s (Reg.LE_ECC_CNT e) 15 0 1
  raise s1 { blk := 3, ev := 1, info := [e] } e

/-- Counting of a live-load divergence (R104). -/
def divergence (s : State) (e outcome : Nat) : State :=
  match outcome with
  | 0 => s
  | 1 => addField s (Reg.LE_DIVG_CNT e) 15 0 1
  | _ => raise (addField (addField s (Reg.LE_DIVG_CNT e) 15 0 1) (Reg.LE_DIVG_CNT e) 31 16 1) { blk := 3, ev := 4, info := [e] } e

/-- The results of a slot are taken over: both accumulators and stacks, the released store and cell write (R99). -/
def release (s : State) (e i : Nat) (split : Bool) (p q : PassOut) (cost : Nat) : State :=
  let x := leOf s e
  let st := x.stream i
  let st1 : LeStream := { st with
    acc := p.acc
    accS := q.acc
    stack := p.stack
    stackS := q.stack
    pc := p.next
    slots := st.slots + cost
    frameSlots := st.frameSlots + cost
    stores := match p.store with
      | some (ep, v) => st.stores ++ [{ ep := ep, tet := v }]
      | none => st.stores
    hbuf := match p.cell with
      | some (c, w) => tset none st.hbuf c (some w)
      | none => st.hbuf }
  let s1 := setLe s e (x.setStream i st1)
  let s2 := peakField (peakField s1 (Reg.LE_PEAKS e) 28 24 st1.stack.length) (Reg.LE_PEAKS e) 13 0 st1.hbuf.length
  if !split && (p.store.isSome || p.cell.isSome) then
    peakField { s2 with freeN := s2.freeN + 1 } (Reg.LE_CMP_STAT e) 19 16 ((Config.cbufUse s2.freeN).val + 1)
  else s2

/-- A program reached END: its slots are kept and the next program of the class begins (R67, R75). -/
def programEnd (s : State) (e i : Nat) : State :=
  let x := leOf s e
  let st := x.stream i
  match st.progs with
  | [] => s
  | p :: ps =>
    let x1 := { x with progSlots := tset 0 x.progSlots p st.slots }
    let st1 := { st with progs := ps }
    let st2 := match ps with
      | [] => { st1 with frameSlots := st1.frameSlots + 50 }
      | p2 :: _ => st1.enter (progCfg s e p2).entry
    setLe s e (x1.setStream i st2)

/-- A decoded instruction runs: both passes, the comparison, and its outcome. In split mode there is no comparison (R105). -/
def runInsn (s : State) (st : LeStep) (i : Nat) (n : LeInsn) (opc : Nat) : State :=
  let e := st.eng
  let x := leOf s e
  let strm := x.stream i
  match strm.progs with
  | [] => s
  | p :: _ =>
    let lv := opdValue s n st x.split
    let env := passIn s x e i p n lv.1
    let pr := lePass false n env strm.acc strm.stack
    let shd := (lePass true n env.inverted strm.accS strm.stackS).upset st.upset
    let s1 := divergence s e lv.2
    let d := if x.split then none else passDiff pr shd.recomplement
    match d with
    | some k => mismatch s1 e st.time k
    | none =>
      match pr.fault with
      | some c =>
        let s2 := if c = 5 then
            let ep := (insnTarget n).getD 0
            let m := (5 + e) * 128 + (progCfg s e p).part
            raise (wr (bump s1 Reg.SIG_REJ_CNT) Reg.SIG_REJ_LAST (w32 (m * 2 ^ 19 + ep)))
              { blk := 2, ev := 0, part := (progCfg s e p).part, info := [m, ep] }
          else s1
        leFault s2 e i c st.time
      | none =>
        let s2 := release s1 e i x.split pr shd (leSlots opc)
        if n = .fin then programEnd s2 e i
        else if env.last < pr.next then leFault s2 e i 0xA st.time else s2

/-- The engine stands before an instruction at a halting word: the observed stream, an armed breakpoint or a halt request,
and not just told to pass it (R109). Answers the cause: 1 breakpoint, 2 halt request. -/
def haltCause (s : State) (e i : Nat) : Nat :=
  let x := leOf s e
  let ctrl := rd s (Reg.LE_DBG_CTRL e)
  let bp := rd s (Reg.LE_DBG_BP e)
  let seen := if x.split then field ctrl 24 24 else 0
  if !flag ctrl 31 || decide (i ≠ seen) then 0
  else if x.haltReq then 2
  else if flag bp 31 && !x.passBp && (!x.split || decide (field bp 30 30 = i)) && decide (field bp 16 0 = (x.stream i).pc) then 1
  else 0

/-- The engine halts with a cause (LE_DBG_CTRL.CAUSE). -/
def haltEngine (s : State) (e cause : Nat) : State :=
  let x := leOf s e
  let s1 := setLe s e { x with halt := true, haltReq := false, haltAt := s.grid.now }
  wrField (wrField s1 (Reg.LE_DBG_CTRL e) 30 30 1) (Reg.LE_DBG_CTRL e) 26 25 cause

/-- The word at the stream's address is read with its ECC state; then the instruction, if it is the one asked for, runs. -/
def issueWord (s0 : State) (st : LeStep) (i : Nat) (want : Option Nat) (illegal : Bool) : State :=
  let e := st.eng
  let x := leOf s0 e
  let pc := (x.stream i).pc
  let s := wr s0 (Reg.LE_PC e) (w32 pc)
  let w := tget 0 x.pmem pc
  let n := leDecode w (tget 0 x.pmem (pc + 1))
  if st.eccProg = 2 then memFault s e i st.time
  else
    let s1 := if st.eccProg = 1 then eccCorrected s e true else s
    match n with
    | none => if illegal then leFault s1 e i 1 st.time else s
    | some m =>
      if illegal ∨ (want.isSome ∧ want ≠ some (leOpcode w)) then s
      else if (insnCell m).isSome ∧ st.eccHist = 2 then memFault s1 e i st.time
      else
        let s2 := if (insnCell m).isSome ∧ st.eccHist = 1 then eccCorrected s1 e false else s1
        runInsn s2 st i m (leOpcode w)

/-- The stream of an issue: in checked mode there is one. -/
def issueStream (s : State) (st : LeStep) : Nat := if (leOf s st.eng).split then min st.stream 1 else 0

/-- A class runs on the stream of the issue, in the compute phase, on an engine that is neither failed nor halted. -/
def canIssue (s : State) (st : LeStep) : Bool :=
  decide (st.eng < 8) && decide (s.grid.phase = 1) && !(leOf s st.eng).failed
    && !((leOf s st.eng).stream (issueStream s st)).progs.isEmpty

/-- One instruction of a program, named by its opcode (none: the illegal word). A debugger's halting word halts instead. -/
def issue (s0 : State) (st : LeStep) (want : Option Nat) : State :=
  let s := atTime s0 st.time
  let i := issueStream s st
  if !canIssue s st || (leOf s st.eng).halt then s0
  else
    let c := haltCause s st.eng i
    if c ≠ 0 then haltEngine s st.eng c
    else
      let s1 := setLe s st.eng { leOf s st.eng with passBp := false }
      issueWord s1 st i want want.isNone

end Sys2Proof.Machine
end

