-- ==== Sys2Proof/Machine/AppCore.lean ====
section
/-! DEFINITION. The application cores (R116–R141): class starts and ends, stores and writes with the undo journal, library
calls, the telegram FIFO, and the write-through of the retained data. -/

namespace Sys2Proof.Machine

open Sys2Proof

/-! ### Retained data (R127–R129) -/

/-- The key of a retained item in a copy: an 8-byte word of instance memory. -/
def retKeyWord (a : Nat) : Nat := a * 4
/-- The key of a history cell. -/
def retKeyCell (e c : Nat) : Nat := (e * 65536 + c) * 4 + 1
/-- The key of an endpoint. -/
def retKeyEp (ep : Nat) : Nat := ep * 4 + 2

/-- Retained changes of the frame (R128). -/
def retChange (s : State) (key : Nat) (v : DWord) : State :=
  { s with fbx := { s.fbx with changed := tset none s.fbx.changed key (some v) } }

/-- A cell of an engine is a retained cell of its partition's window (R66). -/
def isRetCell (s : State) (e c : Nat) : Bool :=
  (leCfg s e).windows.any fun w => decide (w.2.base ≤ c) && decide (c < w.2.base + w.2.retained)

/-- The words of a write-through go into a copy: in progress, the words, generation, complete (R129). -/
def RetCopy.absorb (r : RetCopy) (gen image : Nat) (hashes : List (Nat × Word)) (ws : List (Nat × DWord)) : RetCopy :=
  { gen := gen, image := image, hashes := hashes, marker := 1, bodyOk := true, hdrOk := true, content := tsetAll 0 r.content ws }

/-- The state code of a copy in FBX_RET_COPY. -/
def RetCopy.state (r : RetCopy) : Nat :=
  if r.marker = 0 then 0 else if r.marker = 2 then 2 else if r.bodyOk && r.hdrOk then 1 else 3

/-- A copy is valid (R130). -/
def RetCopy.valid (r : RetCopy) : Bool := decide (r.marker = 1) && r.bodyOk && r.hdrOk

/-- The layout hashes of the image's partitions. -/
def imageHashes (i : Image) : List (Nat × Word) := i.parts.map fun p => (p.1, p.2.lhash)

/-- FBX_RET_COPY shows the two copies. -/
def showCopies (s : State) : State :=
  wrField (wrField s Reg.FBX_RET_COPY 31 30 s.fbx.copyA.state) Reg.FBX_RET_COPY 29 28 s.fbx.copyB.state

/-- The commit of a frame starts the write-through of its retained changes: copy A first in even frames (R129).
While a change is being persisted, copy A is rewritten whole first, and copy B stays frozen until step 3 ends (R215). -/
def startWriteThrough (s : State) : State :=
  if s.fbx.retStopped ∨ s.olc.slotw = 1 then s
  else
    let ws := s.fbx.changed.filterMap fun e => e.2.map fun v => (e.1, v)
    let onlyA := decide (s.olc.slotw = 2 ∨ s.olc.slotw = 3)
    let first := decide (s.grid.frame % 2 = 1) && !onlyA
    let n := ws.length
    let s1 := wrField (wrField s Reg.FBX_RET_FRAME 13 0 n) Reg.FBX_RET_FRAME 29 16
      (max n (field (rd s Reg.FBX_RET_FRAME) 29 16))
    let s2 := { s1 with fbx := { s1.fbx with
      changed := []
      job := some { gen := s.grid.frame, words := ws, copies := if onlyA then [false] else [first, !first] }
      copyA := if first then s1.fbx.copyA else { s1.fbx.copyA with marker := 2 }
      copyB := if first then { s1.fbx.copyB with marker := 2 } else s1.fbx.copyB } }
    showCopies s2

/-- A retained write-through to one copy completes and its header shows the generation; the other copy follows (R129). -/
def execRetainedWriteDone (copyB : Bool) (s : State) : Out :=
  match s.fbx.job with
  | none => done s
  | some j =>
    match j.copies with
    | [] => done s
    | c :: rest =>
      if c ≠ copyB then done s
      else
        let h := imageHashes s.cfg
        let f1 := if c then { s.fbx with copyB := s.fbx.copyB.absorb j.gen s.cfg.id h j.words }
                  else { s.fbx with copyA := s.fbx.copyA.absorb j.gen s.cfg.id h j.words }
        let f2 := match rest with
          | [] => { f1 with job := none }
          | d :: _ => if d then { f1 with job := some { j with copies := rest }, copyB := { f1.copyB with marker := 2 } }
                      else { f1 with job := some { j with copies := rest }, copyA := { f1.copyA with marker := 2 } }
        done (showCopies { s with fbx := f2 })

/-- FBX_RET_GEN_LO answers the generation of the newest valid copy and latches its high half (R141). -/
def execFbxRetGenLo (s : State) : Out :=
  let a := if s.fbx.copyA.valid then s.fbx.copyA.gen else 0
  let b := if s.fbx.copyB.valid then s.fbx.copyB.gen else 0
  let g := max a b
  done (answer (wr (wr s Reg.FBX_RET_GEN_LO (w32 g)) Reg.FBX_RET_GEN_HI (w32 (g / 2 ^ 32))) (.value (g % 2 ^ 32)))

/-! ### Classes -/

/-- The slot table of a core. -/
def slotTable (s : State) (core : Nat) : List SlotEnt := (look s.cfg.fbx.slots core).getD []

/-- The entries of a core's slot table used in this frame: those whose class is due (R116). -/
def usedSlots (s : State) (core : Nat) : List Nat :=
  let due := dueOn s core
  let t := slotTable s core
  (upto t.length).filter fun j => match t[j]? with
    | some ent => due.contains ent.cls
    | none => false

/-- The class of the next used entry starts at time t, no earlier than its offset and the end of the class before it
(R117). A later start is counted and recorded with its delay. -/
def execAcSlotStart (core t : Nat) (s0 : State) : Out :=
  let s := atTime s0 t
  let x := acOf s core
  match x.used with
  | [] => done s0
  | j :: js =>
    match (slotTable s core)[j]? with
    | none => done s0
    | some ent =>
      let due := s.grid.freezeAt + 40000 + ent.start
      if core < 4 ∧ s.grid.phase = 1 ∧ x.cls = none ∧ max due x.prevEnd ≤ t then
        let s1 := setAc s core { x.serve false t with
          cls := some ent.cls, used := js, stores := [], journal := [], retJournal := [], recs := 0
          late := if due < t then satAdd 0xFFFF x.late 1 else x.late }
        let s2 := setClass s1 ent.cls { classOf s1 ent.cls with st := .running, since := t }
        if due < t then
          done (raise s2 { blk := 4, ev := 1, part := (classCfg s2 ent.cls).part, info := [core, ent.cls, t - due] })
        else done s2
      else done s0

/-- Service work stops 2,000 ns before a used slot's start (R120). -/
def execServicePreempt (core t : Nat) (s : State) : Out :=
  if core < 4 ∧ (acOf s core).cls = none then
    let s1 := atTime s t
    done (setAc s1 core ((acOf s1 core).serve false t))
  else done s

/-- The stores of a class that completed join the sealed image of the frame (R25, R34). -/
def keepStores (s : State) (vs : List StoreVal) : State :=
  { s with sig := { s.sig with pend := s.sig.pend ++ vs } }

/-- The history buffer of a class that completed goes to history memory (R68); retained cells count as changes. -/
def keepCells (s : State) (e : Nat) (hb : Tbl (Option Word)) : State :=
  hb.foldl (fun t ent => match ent.2 with
    | none => t
    | some w =>
      let x := leOf t e
      let t1 := setLe t e { x with hist := tset 0 x.hist ent.1 w }
      if isRetCell t e ent.1 then retChange t1 (retKeyCell e ent.1) (w.zeroExtend 64) else t1) s

/-- A class completes: its history buffer or journal is released for commit (R68, R125), and the engine goes on. -/
def execClassEnd (eng stream t : Nat) (s0 : State) : Out :=
  let s := atTime s0 t
  if s.grid.phase ≠ 1 ∨ 12 ≤ eng then done s0
  else if eng < 4 then
    let x := acOf s eng
    match x.cls with
    | none => done s0
    | some k =>
      if x.stalled then done s0
      else
        let s1 := chargeClass s k t .done
        let s2 := x.retJournal.foldl (fun u a => retChange u (retKeyWord a) (tget 0 u.fbx.mem a)) (keepStores s1 x.stores)
        let part := (classCfg s k).part
        done (setAc s2 eng { (acOf s2 eng).serve true t with
          released := x.released ++ x.journal.map fun j => (part, j.1, tget 0 s2.fbx.mem j.1)
          cls := none, stores := [], journal := [], retJournal := [], recs := 0, prevEnd := t })
  else
    let e := eng - 4
    let x := leOf s e
    let i := if x.split then min stream 1 else 0
    let st := x.stream i
    match st.cls with
    | none => done s0
    | some k =>
      if !st.progs.isEmpty then done s0
      else
        let s1 := keepCells (keepStores (chargeClass s k t .done) st.stores) e st.hbuf
        done (startNext s1 e i t)

/-- A partition's budget reaches zero: its running classes stop, and its due classes not yet started with them; each stop
is an overrun (R33). -/
def execBudgetExhausted (part t : Nat) (s0 : State) : Out :=
  let s := atTime s0 t
  if s.grid.phase ≠ 1 ∨ budgetGone s part t = false then done s0
  else
    let mine := s.cfg.classes.filter fun c => decide (c.2.part = part)
    let stopped := mine.foldl (fun u c =>
      match (classOf u c.1).st with
      | .running =>
        let eng := c.2.engine
        let i := if eng < 4 then 0 else streamOf u (eng - 4) c.1
        let u1 := overrun (chargeClass u c.1 t .stopped) c.1 1
        if eng < 4 then stopAc u1 eng t
        else stopLe (unqueueAll u1 mine (eng - 4)) (eng - 4) i t
      | .due => overrun (unqueue u c.1) c.1 1
      | _ => u) s
    done (setPart stopped part { partOf stopped part with budget := 0 })
where
  /-- The partition's own classes leave the queues of an engine before it starts its next class. -/
  unqueueAll (u : State) (mine : List (Nat × ClassCfg)) (e : Nat) : State :=
    mine.foldl (fun v c => if c.2.engine = 4 + e then
      (if (classOf v c.1).st = .due then overrun (unqueue v c.1) c.1 1 else v) else v) u

/-- The journal unit finishes restoring the words of a stopped class (R125). -/
def execRollbackEnd (core : Nat) (s : State) : Out :=
  let x := acOf s core
  match x.rolls with
  | [] => done s
  | r :: rs =>
    let s1 := { s with fbx := { s.fbx with mem := tsetAll 0 s.fbx.mem r.words } }
    done (setAc s1 core { acOf s1 core with rolls := rs })

/-! ### Stores and writes -/

/-- R53 for an endpoint: a binding that accepts stores, and the partition of the storing class. -/
def storeOk (s : State) (ep part : Nat) : Bool :=
  let e := dirEntry s ep
  ([1, 3, 6, 8, 0xA].contains (btype e) || (decide (btype e = 4) && aoMode s ep)) && decide (dpart e = part)

/-- A rejected store (R53): counted, shown and recorded. -/
def storeRejected (s : State) (master part ep : Nat) : State :=
  raise (wr (bump s Reg.SIG_REJ_CNT) Reg.SIG_REJ_LAST (w32 (master * 2 ^ 19 + ep)))
    { blk := 2, ev := 0, part := part, info := [master, ep] }

/-- A rollback of the partition's memory is still running (R125). -/
def rollingBack (s : State) (part : Nat) : Bool :=
  (upto 4).any fun k => (acOf s k).rolls.any fun r => decide (r.part = part)

/-- The retained words changed so far in the frame: those of finished classes and those of the classes running (R128). -/
def retainedInFrame (s : State) : Nat :=
  (upto 4).foldl (fun n k => n + (acOf s k).retJournal.length) s.fbx.changed.length

/-- The area kind of a word of partition memory. -/
def areaKind (s : State) (part a : Nat) : Option Nat :=
  (s.cfg.fbx.areas.find? fun r => decide (r.part = part) && decide (r.lo ≤ a) && decide (a < r.hi)).map (·.kind)

/-- A write of a word of partition memory, journaled at its first write in the class run (R125, R126, R128). addr is the
faulting instruction's address. -/
def memWrite (s : State) (core part a : Nat) (v : DWord) (addr t : Nat) : State :=
  let x := acOf s core
  let kind := (areaKind s part a).getD 2
  let fresh := decide (2 ≤ kind) && (x.journal.lookup a).isNone
  let ret := decide (kind = 3) && !x.retJournal.contains a && (tget none s.fbx.changed (retKeyWord a)).isNone
  if fresh && decide (8192 ≤ x.journal.length) then acFault s core 5 addr t
  else if ret && decide (8192 ≤ retainedInFrame s) then acFault s core 6 addr t
  else
    let x1 := { x with
      journal := if fresh then x.journal ++ [(a, tget 0 s.fbx.mem a)] else x.journal
      retJournal := if decide (kind = 3) && !x.retJournal.contains a then x.retJournal ++ [a] else x.retJournal }
    let s1 := setAc s core x1
    peakField { s1 with fbx := { s1.fbx with mem := tset 0 s1.fbx.mem a v } } (Reg.FBX_JRNL_STATn core) 29 16 x1.journal.length

/-- A store or write of the running class of an application core (R121–R126). raises names a fault that the core itself
meets at the instruction (1 TRAP, 2 BOUND, 7 MEM); addr is the instruction's address. -/
def execAcStore (core : Nat) (op : AcOp) (raises : Option Nat) (addr t : Nat) (s0 : State) : Out :=
  let s := atTime s0 t
  let x := acOf s core
  match x.cls with
  | none => done s0
  | some k =>
    let part := (classCfg s k).part
    let master := (1 + core) * 128 + part
    if 4 ≤ core ∨ s.grid.phase ≠ 1 ∨ x.stalled then done s0
    else match raises with
    | some c => if c = 1 ∨ c = 2 ∨ c = 7 then done (acFault s core c addr t) else done s0
    | none =>
      match op with
      | .bin ep v q =>
        if storeOk s ep part && isBinary ep then
          done (setAc s core { x with stores := x.stores ++ [{ ep := ep, tet := v, qual := q }] })
        else done (acFault (storeRejected s master part ep) core 4 addr t)
      | .ana ep v q =>
        if storeOk s ep part && !isBinary ep then
          done (setAc s core { x with stores := x.stores ++ [{ ep := ep, val := v, qual := q }] })
        else done (acFault (storeRejected s master part ep) core 4 addr t)
      | .mem a v =>
        if a % 8 ≠ 0 then done (acFault s core 1 addr t)
        else match firstRefused s 0 a 8 master .write with
        | some (e, b) => done (acFault (recordRefusal s 0 b master .write e) core 3 addr t)
        | none =>
          if rollingBack s part then done (answer s .stall)
          else done (memWrite s core part (a / 8) v addr t)

/-! ### Library calls (R123) -/

/-- The class running on a core, in the compute phase. -/
def runningClass (s : State) (core : Nat) : Option Nat :=
  if core < 4 ∧ s.grid.phase = 1 ∧ (acOf s core).stalled = false then (acOf s core).cls else none

/-- FRAME_NOW: the absolute frame number (R17, R123). -/
def execFrameNow (core : Nat) (s : State) : Out :=
  match runningClass s core with
  | none => done s
  | some _ => done (answer s (.value s.grid.frame))

/-- TAI_FREEZE: the 80-bit timestamp of the present freeze, as seconds and ns, with time quality (R123, R388). -/
def execTaiFreeze (core : Nat) (s : State) : Out :=
  match runningClass s core with
  | none => done s
  | some _ => done (answer s (.values [s.grid.freezeAt / 1000000000, s.grid.freezeAt % 1000000000, (rd s Reg.TIM_TQ).toNat]))

/-- MONO_NOW: TB-L in ns since power-up (R123). -/
def execMonoNow (core : Nat) (s : State) : Out :=
  match runningClass s core with
  | none => done s
  | some _ => done (answer s (.value s.grid.mono))

/-- SQ_READ: the side quality word of a binary signal with SQ = 1 (R54, R123). -/
def execSqRead (core ep : Nat) (s : State) : Out :=
  match runningClass s core with
  | none => done s
  | some _ =>
    if dSq (dirEntry s ep) then done (answer s (.value (frozenSq s ep).toNat))
    else let r := drawWord s; done (answer r.2 (.value (r.1.toNat % 65536)))

/-- REC_EVENT: a record of severity 0 or 1, at most 16 in one class run (R123). -/
def execRecEvent (core sev : Nat) (ps : List Word) (s : State) : Out :=
  match runningClass s core with
  | none => done s
  | some k =>
    let x := acOf s core
    let s1 := setAc s core { x with recs := x.recs + 1 }
    if x.recs < 16 ∧ sev ≤ 1 then
      let vals := (upto 4).map fun i => some ((ps[i]?).getD 0).toNat
      done (recordBare s1 1 { blk := 4, ev := 0, sev := some sev, part := (classCfg s k).part, p := vals })
    else done s1

/-! ### The telegram FIFO (R134–R138) -/

/-- The words of the items of a bank. -/
def TgBank.size (b : TgBank) : Nat := b.items.foldl (fun n i => n + i.words.length) 0

/-- A partition's own words in a bank, in order. -/
def TgBank.wordsOf (b : TgBank) (part : Nat) : List DWord :=
  (b.items.filter fun i => decide (i.part = part)).flatMap (·.words)

/-- The header word of an item (R135). -/
def tgHeader (len src part index ns : Nat) : DWord :=
  BitVec.ofNat 64 (len % 4096 * 2 ^ 52 + src % 16 * 2 ^ 48 + part % 128 * 2 ^ 41 + index % 512 * 2 ^ 32 + ns % 2 ^ 32)

/-- The info word of an item (R135). -/
def tgInfo (bytes sec aux : Nat) : DWord :=
  BitVec.ofNat 64 (bytes % 65536 * 2 ^ 48 + sec % 65536 * 2 ^ 32 + aux % 2 ^ 32)

/-- The bytes of a telegram packed little-endian and padded with zeros to whole words. -/
def packWords : Nat → List Byte → List DWord
  | 0, _ => []
  | _, [] => []
  | k + 1, bs => BitVec.ofNat 64 (ofLeBytes (bs.take 8)) :: packWords k (bs.drop 8)

/-- An item of the FIFO: header, info word, bytes (R135). src: 1 GOOSE, 2 MMS, 3 HART, 4 CAN. -/
def tgItem (part src index stamp aux : Nat) (bs : List Byte) : TgItem :=
  let ws := packWords bs.length bs
  { part := part
    words := tgHeader (ws.length + 2) src part index (stamp % 1000000000) ::
      tgInfo bs.length (stamp / 1000000000) aux :: ws }

/-- A telegram is discarded because the filling bank is full (R138). -/
def tgDiscard (s : State) (core part : Nat) : State :=
  let x := acOf s core
  let s1 := setAc s core { x with fill := { x.fill with full := true, lost := tmod 0 x.fill.lost part (· + 1) } }
  raise (addField s1 (Reg.FBX_FIFO_LOSTn core) 31 16 1) { blk := 4, ev := 3, part := part, info := [core, part] }

/-- A telegram enters the filling bank of the core its partition is routed to, or is discarded with every later one of
the frame (R134, R138). -/
def putTelegram (s : State) (it : TgItem) : State :=
  let core := (partCfg s it.part).core
  let x := acOf s core
  if x.fill.full || decide (32768 < x.fill.size + it.words.length) then tgDiscard s core it.part
  else setAc s core { x with fill := { x.fill with items := x.fill.items ++ [it] } }

/-- The LOST item of a partition (R136): LEN 2, SRC 0xE, and the telegrams discarded in BYTES. -/
def lostItem (n part count : Nat) : TgItem :=
  { part := part
    words := [BitVec.ofNat 64 (2 * 2 ^ 52 + 0xE * 2 ^ 48 + part % 128 * 2 ^ 41 + (Config.lostHeader n).val % 2 ^ 41),
      BitVec.ofNat 64 (count % 65536 * 2 ^ 48 + (Config.lostInfo n).val)] }

/-- The end marker for a partition (R135). -/
def endMarker (part : Nat) : DWord := tgHeader 1 0xF part 0 0

/-- The words of a core's drain bank not yet read. -/
def unreadWords (x : AcCore) : Nat :=
  x.drain.size - x.cursors.foldl (fun n c => n + c.2.taken) 0

/-- The banks of one core swap at the freeze; items not read are discarded and counted (R134, R136). The drain bank closes
at once unless the module is a STANDBY (R137). -/
def swapFifo (s : State) (core : Nat) : State :=
  let x := acOf s core
  let lostIt := x.fill.lost.map fun e => lostItem s.freeN e.1 e.2
  let unread := unreadWords x
  let s1 := setAc { s with freeN := s.freeN + 1 } core { x with
    drain := { x.fill with items := lostIt ++ x.fill.items }
    fill := {}
    fillBank := !x.fillBank
    cursors := []
    closed := !aligns s }
  if unread = 0 then s1
  else raise (addField s1 (Reg.FBX_FIFO_LOSTn core) 15 0 unread) { blk := 4, ev := 4, info := [core, unread] }

/-- What TG_READ finds for a partition: its next word, or none. -/
def nextTgWord (x : AcCore) (part : Nat) : Option DWord :=
  (x.drain.wordsOf part)[(tget {} x.cursors part).taken]?

/-- The cursor after a word is read: a header opens a telegram of LEN words. -/
def TgCursor.step (c : TgCursor) (w : DWord) : TgCursor :=
  { taken := c.taken + 1, left := if c.left = 0 then field w 63 52 - 1 else c.left - 1 }

/-- TG_READ at time t: the next word, the end marker, or a stall (R136, R137). -/
def tgReadAt (s : State) (core part t : Nat) : State :=
  let x := acOf s core
  match nextTgWord x part with
  | some w => answer (setAc s core { x with
      stalled := false, cursors := tmod ({} : TgCursor) x.cursors part (fun c => c.step w) }) (.value w.toNat)
  | none =>
    if x.closed || decide (s.grid.freezeAt + 360000 ≤ t) then
      answer (setAc s core { x with stalled := false }) (.value (endMarker part).toNat)
    else answer (setAc s core { x with stalled := true }) .stall

/-- TG_READ (R136, R137). -/
def execTgRead (core t : Nat) (s : State) : Out :=
  match runningClass s core with
  | none => done s
  | some k => done (tgReadAt (atTime s t) core (classCfg s k).part t)

/-- A stalled TG_READ returns when an item arrives, the bank closes, or at 360,000 ns (R137). -/
def execTgReadStallEnd (core t : Nat) (s : State) : Out :=
  let x := acOf s core
  match x.cls with
  | none => done s
  | some k =>
    if core < 4 ∧ x.stalled then done (tgReadAt (atTime s t) core (classCfg s k).part t) else done s

/-- TG_DROP moves the cursor past the rest of the telegram read last; at a header it has no effect (R136). -/
def execTgDrop (core : Nat) (s : State) : Out :=
  match runningClass s core with
  | none => done s
  | some k =>
    let x := acOf s core
    let skipTo := fun (c : TgCursor) => ({ taken := c.taken + c.left, left := 0 } : TgCursor)
    done (setAc s core { x with cursors := tmod ({} : TgCursor) x.cursors (classCfg s k).part skipTo })

/-- FBX_CMD.CLR_CNT clears the fault, FIFO and journal counters (R141). -/
def execFbxClrCnt (c : Cmd) (s : State) : Out :=
  done (keyedBit s Reg.FBX_CMD 2 c fun t =>
    cleared (zeroRegs t ([Reg.FBX_FAULT_CNT] ++ (upto 4).map Reg.FBX_FIFO_LOSTn ++ (upto 4).map Reg.FBX_JRNL_STATn))
      Reg.FBX_CMD c.session)

end Sys2Proof.Machine
end

