-- ==== Sys2Proof/Machine/Can.lean ====
section
/-! DEFINITION. The cubicle CAN controllers: receive objects, transmit buffers and time-triggered operation (R356–R376). -/

namespace Sys2Proof.Machine

open Sys2Proof

/-! ### Views -/

def canCfg (s : State) (c : Nat) : CanCtlCfg := (look s.cfg.can.ctls c).getD {}
/-- The controller is in use. -/
def canOn (s : State) (c : Nat) : Bool := (look s.cfg.can.ctls c).isSome
def canCtl (s : State) (c : Nat) : CanCtl := tget {} s.can.ctls c
def setCan (s : State) (c : Nat) (x : CanCtl) : State := { s with can := { s.can with ctls := tset {} s.can.ctls c x } }
def modCan (s : State) (c : Nat) (f : CanCtl → CanCtl) : State := setCan s c (f (canCtl s c))
def rxObj (s : State) (c n : Nat) : RxObj := tget {} (canCtl s c).objs n
def setObj (s : State) (c n : Nat) (x : RxObj) : State := modCan s c fun q => { q with objs := tset {} q.objs n x }
def txBuf (s : State) (c n : Nat) : TxBuf := tget {} (canCtl s c).bufs n
def setBuf (s : State) (c n : Nat) (x : TxBuf) : State := modCan s c fun q => { q with bufs := tset {} q.bufs n x }
def txbCfg (s : State) (c n : Nat) : TxbCfg := (look (canCfg s c).bufs n).getD {}
def rxoCfg (s : State) (c n : Nat) : RxoCfg := (look (canCfg s c).objs n).getD {}

/-- The controllers run in normal mode: with the lead, or as the outgoing side through frame h (R359, R372). -/
def canNormal (s : State) : Bool :=
  outputsOn s && (s.pair.role.leads || decide (s.chn.masterTill = some s.grid.frame))

/-! ### Endpoints (R364, R365) -/

def canCtrl (a : Nat) : Nat := a / 2 ^ 31 % 2
def canNum (a : Nat) : Nat := a / 2 ^ 22 % 512
def canFormat (a : Nat) : Nat := a / 2 ^ 19 % 8
def canBit (a : Nat) : Nat := a / 2 ^ 10 % 512
def canScale (a : Nat) : Nat := a % 256

/-- The endpoints of a binding type on an object or a buffer. -/
def canEps (s : State) (bt c n : Nat) : List Nat := epsAt s bt fun a => decide (canCtrl a = c) && decide (canNum a = n)

/-- The width of a format in bits. -/
def fmtBits : Nat → Nat
  | 0 => 1 | 1 => 2 | 2 => 4 | 3 => 16 | 4 => 16 | _ => 32

/-- GAIN and OFFSET of a scale table entry. -/
def scaleOf (s : State) (i : Nat) : Frac × Frac :=
  match look s.cfg.can.scale i with
  | some (g, o) => (fracOf g, fracOf o)
  | none => (Frac.ofInt 1, {})

/-- A field's raw value as a fraction. -/
def rawOf (fmt raw : Nat) : Frac :=
  let signed := fun (w : Nat) => if 2 ^ (w - 1) ≤ raw then (raw : Int) - 2 ^ w else raw
  match fmt with
  | 4 => Frac.ofInt (signed 16)
  | 6 => Frac.ofInt (signed 32)
  | 7 => fracOf (w32 raw)
  | _ => Frac.ofInt raw

/-- A received value in mA, V or other units: raw × GAIN + OFFSET. A binary32 field that holds no finite value passes as it is. -/
def scaledIn (s : State) (fmt sc raw : Nat) : Word :=
  if fmt = 7 ∧ nonFinite (w32 raw) = true then w32 raw
  else
    let (g, o) := scaleOf s sc
    word32 (((rawOf fmt raw).mul g).add o)

/-- Clamp a whole number. -/
def clampInt (lo hi v : Int) : Int := max lo (min hi v)

/-- The raw value of a sent analogue value: (value − OFFSET) / GAIN, rounded and saturated; with GAIN 0 the value is free. -/
def scaledOut (s : State) (fmt sc : Nat) (v : Word) : Nat :=
  let (g, o) := scaleOf s sc
  let r := if g.num = 0 then ((Config.freeWord v.toNat).toNat : Int) else (((fracOf v).sub o).div g).round
  match fmt with
  | 3 => (clampInt 0 65535 r).toNat
  | 4 => (BitVec.ofInt 16 (clampInt (-32768) 32767 r)).toNat
  | 5 => (clampInt 0 4294967295 r).toNat
  | 6 => (BitVec.ofInt 32 (clampInt (-2147483648) 2147483647 r)).toNat
  | _ => (intWord32 r).toNat

/-- Collect one endpoint from a payload (R361, R364); a frame shorter than the field is a format error. -/
def collectCan (s : State) (c ep : Nat) (f : CanFrame) : State :=
  let a := daddr (dirEntry s ep)
  let fmt := canFormat a
  let b := canBit a
  if 8 * f.data.length < b + fmtBits fmt then modCan s c fun q => { q with fmt := satAdd 0xFFFF q.fmt 1 }
  else
    let raw := bitsOf (ofLeBytes f.data) (b + fmtBits fmt - 1) b
    match fmt with
    | 0 => collectTet s ep (mkTet (if raw = 1 then 2 else 1) false false) 0 f.stamp
    | 1 => collectTet s ep (mkTet raw false false) 0 f.stamp
    | 2 => collectTet s ep (BitVec.ofNat 4 raw) 0 f.stamp
    | _ => collectAna s ep (scaledIn s fmt (canScale a) raw) 0 f.stamp

/-- Put w bits v at bit b of a payload. -/
def putBits (p b w v : Nat) : Nat := p - bitsOf p (b + w - 1) b * 2 ^ b + v % 2 ^ w * 2 ^ b

/-- A buffer's payload from the committed image (R365). -/
def txPayload (s : State) (c n : Nat) : Nat :=
  (canEps s 8 c n).foldl (fun p ep =>
    let a := daddr (dirEntry s ep)
    let fmt := canFormat a
    let v := tget 0x7#4 s.sig.committed.bin ep
    match fmt with
    | 0 => putBits p (canBit a) 1 (if tstate v = 2 then 1 else 0)
    | 1 => putBits p (canBit a) 2 (tstate v)
    | 2 => putBits p (canBit a) 4 v.toNat
    | _ => if s.can.fill.contains ep then p
           else putBits p (canBit a) (fmtBits fmt) (scaledOut s fmt (canScale a) (tget {} s.sig.committed.ana ep).val)) (txbCfg s c n).fill

/-! ### Receiving (R360–R363) -/

/-- A frame is stored in an object, or in its shadow while it is locked. -/
def storeCan (s : State) (c n : Nat) (f : CanFrame) : State :=
  let x := rxObj s c n
  let y := { x with timedOut := false, at0 := s.grid.frame, seq := (x.seq + 1) % 65536 }
  let locked := match (canCtl s c).lock with
    | some (k, _) => decide (k = n)
    | none => false
  if locked then setObj s c n { y with shadow := some f, shadowLost := x.shadow.isSome || x.shadowLost }
  else setObj s c n { y with cur := some f, isNew := true, lost := x.lost || x.isNew }

/-- A frame with no object is counted; at most one record per controller and second (R363). -/
def unknownCan (s : State) (c : Nat) (f : CanFrame) : State :=
  let x := canCtl s c
  let n := x.unkSince + 1
  let s1 := setBit (setCan s c { x with
    unk := satAdd 0xFFFF x.unk 1, unkLast := w32 (bit1 f.ide 31 + f.id % 2 ^ 29), unkSince := n }) Reg.CAN_EVT_STAT 3
  let may := match x.unkAt with
    | some a => decide (a + 1000000000 ≤ f.stamp)
    | none => true
  if may then
    record (modCan s1 c fun q => { q with unkSince := 0, unkAt := some f.stamp }) { blk := 0xD, ev := 3, info := [c, f.id, n], stamp := some f.stamp }
  else s1

/-- The telegram item of a routed frame (R361). -/
def canItem (c n part : Nat) (f : CanFrame) : TgItem :=
  tgItem part 4 n f.stamp (bit1 (decide (c = 1)) 31 + bit1 f.fd 30 + bit1 f.ide 29 + f.id % 2 ^ 29) f.data

/-- An error-free frame lowers the receive error counter (ISO 11898-1). -/
def rxGood (x : CanCtl) : CanCtl := { x with rec_ := if 127 < x.rec_ then 127 else x.rec_ - 1, rxSec := x.rxSec + 1 }

/-- A frame is a reference message of the controller (R370). -/
def isRef (s : State) (c : Nat) (f : CanFrame) : Bool :=
  (canCfg s c).tt && !f.ide && decide (f.id / 8 = (canCfg s c).refid / 8)

/-- The current time master of a controller is the potential master of priority p. -/
def timeMaster (s : State) (c p : Nat) : State :=
  if (canCtl s c).cur = some p then s
  else raise (modCan s c fun q => { q with cur := some p }) { blk := 0xD, ev := 7, info := [c, p] }

/-- A reference message is heard: cycle count and global time are taken from it (R370, R371). -/
def hearRef (s : State) (c : Nat) (f : CanFrame) : State :=
  let s1 := modCan s c fun q => { q with
    cycle := leAt f.data 0 1 % 64, global := leAt f.data 2 2, refFrame := some s.grid.frame, refAt := f.stamp }
  timeMaster s1 c (f.id % 8)

/-- CAN_FRAME_RECEIVED: at the last bit of the end of frame (R360–R363). -/
def execCanFrameReceived (c : Nat) (f : CanFrame) (s0 : State) : Out :=
  let s := atTime s0 f.stamp
  if !canOn s c then done s
  else
    let s1 := modCan s c rxGood
    if f.rtr then done (modCan s1 c fun q => { q with fmt := satAdd 0xFFFF q.fmt 1 })
    else
      let s2 := if isRef s1 c f then hearRef s1 c f else s1
      let s3 := (canCfg s2 c).bufs.foldl (fun u b =>
        if b.2.id = f.id ∧ b.2.ide = f.ide then setBuf u c b.1 { txBuf u c b.1 with heard := some (ofLeBytes f.data) } else u) s2
      match (canCfg s3 c).objs.find? fun o => decide (o.2.id = f.id) && decide (o.2.ide = f.ide) with
      | none => if isRef s1 c f then done s3 else done (unknownCan s3 c f)
      | some (n, o) =>
        if o.fd ≠ f.fd then done (modCan s3 c fun q => { q with fmt := satAdd 0xFFFF q.fmt 1 })
        else
          let s4 := (canEps s3 7 c n).foldl (fun u ep => collectCan u c ep f) s3
          let s5 := match o.route with
            | some p => putTelegram s4 (canItem c n p f)
            | none => s4
          done (storeCan s5 c n f)

/-- CAN_RX_TIMEOUT: the object is a lost source until its next frame (R361). -/
def execCanRxTimeout (c n t : Nat) (s0 : State) : Out :=
  let s := atTime s0 t
  let x := rxObj s c n
  let o := rxoCfg s c n
  if o.timeout ≠ 0 ∧ !x.timedOut ∧ x.at0 + o.timeout ≤ s.grid.frame then
    done (raise (loseSource (setObj s c n { x with timedOut := true }) (canEps s 7 c n) t) { blk := 0xD, ev := 2, info := [c, n] })
  else done s

/-! ### The register window (R362) -/

/-- The selected object of a controller. -/
def selObj (s : State) (c : Nat) : Nat := field (rd s (Reg.CAN_RXO_SEL c)) 8 0

/-- The 20 words of an object's window. -/
def windowWords (x : RxObj) : List Word :=
  match x.cur with
  | none => w32 (bit1 x.isNew 31 + bit1 x.lost 30 + x.seq) :: List.replicate 19 0
  | some f =>
    w32 (bit1 x.isNew 31 + bit1 x.lost 30 + bit1 f.fd 29 + bit1 f.brs 28 + bit1 f.ide 27 + f.data.length % 128 * 2 ^ 16 + x.seq)
      :: w32 f.id :: w32 (f.stamp % 1000000000) :: w32 (f.stamp / 1000000000 % 65536)
      :: (upto 16).map fun i => w32 (leAt f.data (4 * i) 4)

/-- A lock ends: a full shadow moves into the object; at a release NEW and LOST clear first. -/
def endLock (s : State) (c : Nat) (release : Bool) : State :=
  match (canCtl s c).lock with
  | none => s
  | some (n, _) =>
    let s1 := modCan s c fun q => { q with lock := none }
    let x := rxObj s1 c n
    let x1 := if release then { x with isNew := false, lost := false } else { x with lockTo := satAdd 0xFFFF x.lockTo 1 }
    let x2 := match x1.shadow with
      | some f => { x1 with cur := some f, isNew := true, lost := x1.shadowLost, shadow := none, shadowLost := false }
      | none => x1
    let s2 := setObj s1 c n x2
    if release then s2 else raise s2 { blk := 0xD, ev := 4, info := [c, n] }

/-- A read of CAN_RXO_W0: it locks the selected object, or restarts the lock. -/
def execCanRxoW0 (c t : Nat) (s0 : State) : Out :=
  let s := atTime s0 t
  let n := selObj s c
  let ws := windowWords (rxObj s c n)
  let s1 := modCan s c fun q => { q with lock := some (n, t) }
  let s2 := (upto 20).foldl (fun u i => wr u (Reg.CAN_RXO_W0 c + 4 * i) (ws.getD i 0)) s1
  done (answer s2 (.value (ws.getD 0 0).toNat))

/-- A read of CAN_RXO_W19: it releases the lock. -/
def execCanRxoW19 (c t : Nat) (s0 : State) : Out :=
  let s := atTime s0 t
  done (answer (endLock s c true) (.value (rd s (Reg.CAN_RXO_W0 c + 76)).toNat))

/-- A write of CAN_RXO_SEL: a lock ends without release. -/
def execCanRxoSel (c : Nat) (k : Cmd) (s : State) : Out :=
  done (written s (Reg.CAN_RXO_SEL c) k fun t =>
    let a := Reg.CAN_RXO_SEL c
    let new := k.value &&& 0x1FF#32
    settingWritten (wr (endLock t c false) a new) a (rd t a) new k.session)

/-- CAN_LOCK_TIMEOUT: 1,000 µs after the last read of W0. -/
def execCanLockTimeout (c t : Nat) (s0 : State) : Out :=
  let s := atTime s0 t
  match (canCtl s c).lock with
  | some (_, u) => if u + 1000000 ≤ t then done (endLock s c false) else done s
  | none => done s

/-! ### Transmitting (R366–R368) -/

/-- A frame of a buffer becomes pending. -/
def pendCan (s : State) (c n p : Nat) : State :=
  setBuf s c n { txBuf s c n with pend := some p, since := s.grid.frame, arb := false, due := false, lastQ := some p }

/-- A pending frame is cancelled. -/
def cancelCan (s : State) (c n : Nat) : State :=
  let x := txBuf s c n
  setBuf s c n { x with pend := none, arb := false, due := false, cancels := satAdd 0xFFFF x.cancels 1 }

/-- A buffer is queued with a payload (R366–R368). -/
def queueCan (s : State) (c n p : Nat) : State :=
  let x := txBuf s c n
  match x.pend with
  | none => pendCan s c n p
  | some _ =>
    if (txbCfg s c n).cancel then
      if x.arb then setBuf s c n { x with due := true, held := some p, lastQ := some p } else pendCan (cancelCan s c n) c n p
    else setBuf s c n { x with held := some p, lastQ := some p }

/-- The buffers that a commit queues (R366). -/
def canCommit (s : State) : State :=
  if !canNormal s then s
  else s.cfg.can.ctls.foldl (fun u e => e.2.bufs.foldl (fun v b =>
    let p := txPayload v e.1 b.1
    match b.2.trig with
    | 0 => if v.grid.frame % periodFrames b.2.period = b.2.phase then queueCan v e.1 b.1 p else v
    | 1 => if (txBuf v e.1 b.1).lastQ ≠ some p then queueCan v e.1 b.1 p else v
    | _ => v) u) s

/-- The held content of a buffer becomes pending once the frame before it has gone. -/
def nextCan (s : State) (c n : Nat) : State :=
  let x := txBuf s c n
  match x.held with
  | some p => pendCan (setBuf s c n { x with held := none }) c n p
  | none => s

/-- CAN_ARBITRATION_START: the start-of-frame bit of an attempt is sent (R368). -/
def execCanArbitrationStart (c n t : Nat) (s0 : State) : Out :=
  let s := atTime s0 t
  let x := txBuf s c n
  if canNormal s ∧ x.pend.isSome ∧ !(canCtl s c).busOff then done (setBuf s c n { x with arb := true }) else done s

/-- CAN_TX_DONE: a frame has been sent (R366–R368). -/
def execCanTxDone (c n t : Nat) (s0 : State) : Out :=
  let s := atTime s0 t
  let x := txBuf s c n
  match x.pend with
  | none => done s
  | some p =>
    if !canNormal s then done s
    else
      let b := txbCfg s c n
      let s1 := send s 2 c [b.id, bit1 b.ide 0 + bit1 b.fd 1 + bit1 b.brs 2, b.len, p]
      let s2 := modCan s1 c fun q => { q with tec := q.tec - 1, txSec := q.txSec + 1 }
      let s3 := setBuf s2 c n { x with pend := none, arb := false, due := false, sent := satAdd 0xFFFF x.sent 1, heard := some p }
      done (nextCan s3 c n)

/-- The error state of a controller after its counters changed (ISO 11898-1, R358). -/
def errState (s : State) (c : Nat) (wasPassive : Bool) : State :=
  let x := canCtl s c
  let passive := decide (127 < x.tec) || decide (127 < x.rec_)
  let s1 := if passive && !wasPassive then raise s { blk := 0xD, ev := 0, info := [c] } else s
  if 255 < x.tec ∧ !x.busOff then
    let s2 := modCan s1 c fun q => { q with busOff := true, recover := false, busOffs := satAdd 0xFFFF q.busOffs 1 }
    let s3 := raise (wrField s2 Reg.CAN_STAT c c 1) { blk := 0xD, ev := 1, info := [c] }
    loseSource s3 (epsAt s3 7 fun a => decide (canCtrl a = c)) s3.grid.now
  else s1

/-- A controller is error passive. -/
def canPassive (x : CanCtl) : Bool := decide (127 < x.tec) || decide (127 < x.rec_)

/-- CAN_TX_ERROR: an attempt loses arbitration or ends in an error (R367–R369). -/
def execCanTxError (c n : Nat) (lost : Bool) (t : Nat) (s0 : State) : Out :=
  let s := atTime s0 t
  let x := txBuf s c n
  if x.pend.isNone ∨ !canNormal s then done s
  else
    let was := canPassive (canCtl s c)
    let s1 := setBuf s c n { x with arb := false }
    let s2 := if lost then s1 else modCan s1 c fun q => { q with tec := q.tec + 8, errs := satAdd 0xFFFF q.errs 1 }
    let s3 := if x.due then nextCan (cancelCan s2 c n) c n else s2
    done (errState s3 c was)

/-- CAN_BUS_ERROR: an error while receiving; dominant after the error flag counts 8 (ISO 11898-1). -/
def execCanBusError (c : Nat) (dominant : Bool) (t : Nat) (s0 : State) : Out :=
  let s := atTime s0 t
  if !canOn s c then done s
  else
    let was := canPassive (canCtl s c)
    let s1 := modCan s c fun q => { q with rec_ := min 255 (q.rec_ + (if dominant then 8 else 1)), errs := satAdd 0xFFFF q.errs 1 }
    done (errState s1 c was)

/-- CAN_TX_LIFETIME: a CANCEL frame has been pending for its lifetime (R368). -/
def execCanTxLifetime (c n t : Nat) (s0 : State) : Out :=
  let s := atTime s0 t
  let x := txBuf s c n
  let b := txbCfg s c n
  if x.pend.isSome ∧ b.cancel ∧ x.since + b.life ≤ s.grid.frame then
    if x.arb then done (setBuf s c n { x with due := true }) else done (cancelCan s c n)
  else done s

/-- CAN_TXB_CMD.CANCEL of the selected buffer (R368). -/
def execCanCancel (c : Nat) (k : Cmd) (s : State) : Out :=
  done (keyedBit s (Reg.CAN_TXB_CMD c) 0 k fun t =>
    let n := field (rd t (Reg.CAN_TXB_SEL c)) 5 0
    let x := txBuf t c n
    if x.pend.isNone ∨ !(txbCfg t c n).cancel then t
    else if x.arb then raise t { blk := 0xD, ev := 5, info := [c, n] }
    else cancelCan (accepted t (Reg.CAN_TXB_CMD c) k) c n)

/-- BUS_OFF_RECOVERY: 128 occurrences of 11 recessive bits (R358). -/
def execBusOffRecovery (c t : Nat) (s0 : State) : Out :=
  let s := atTime s0 t
  let x := canCtl s c
  if x.busOff ∧ ((canCfg s c).autorec ∨ x.recover) then
    done (wrField (setCan s c { x with busOff := false, recover := false, tec := 0, rec_ := 0 }) Reg.CAN_STAT c c 0)
  else done s

/-- CAN_CMD.RECOVERn (R358). -/
def execCanRecover (k : Cmd) (s : State) : Out :=
  done (keyed s Reg.CAN_CMD k fun t =>
    if field k.value 1 0 = 0 then t
    else (upto 2).foldl (fun u c => if flag k.value c then modCan u c fun q => { q with recover := q.busOff } else u) (accepted t Reg.CAN_CMD k))

/-- CAN_CMD.CLR_CNT (R376). -/
def execCanClrCnt (k : Cmd) (s : State) : Out :=
  done (keyedBit s Reg.CAN_CMD 2 k fun t =>
    let t1 := (upto 2).foldl (fun u c => modCan u c fun q => { q with
      busOffs := 0, errs := 0, unk := 0, fmt := 0, rxMiss := 0, refMiss := 0
      objs := tmapAll {} (fun _ x => { x with lockTo := 0 }) q.objs
      bufs := tmapAll {} (fun _ x => { x with sent := 0, cancels := 0 }) q.bufs }) t
    cleared t1 Reg.CAN_CMD k.session)

/-! ### Time-triggered operation (R369–R371) -/

/-- The reception check of the mark before is judged. -/
def ttJudge (s : State) (c : Nat) : State :=
  match (canCtl s c).check with
  | none => s
  | some (n, k) =>
    let s1 := modCan s c fun q => { q with check := none }
    if (rxObj s c n).seq = k then raise (modCan s1 c fun q => { q with rxMiss := satAdd 0xFFFF q.rxMiss 1 }) { blk := 0xD, ev := 6, info := [c, n] }
    else s1

/-- TT_TIME_MARK: a mark of the present basic cycle (R369). -/
def execTtTimeMark (c mark t : Nat) (s0 : State) : Out :=
  let s := atTime s0 t
  let cfg := canCfg s c
  if !cfg.tt then done s
  else
    let s1 := ttJudge s c
    match cfg.cells.find? fun x => decide (x.cycle = (canCtl s1 c).cycle % max cfg.cycles 1) && decide (x.mark = mark) with
    | none => done s1
    | some x =>
      match x.kind with
      | 3 => done (modCan s1 c fun q => { q with check := x.index.head?.map fun n => (n, (rxObj s1 c n).seq) })
      | 0 => done s1
      | _ => if canNormal s1 then done (x.index.foldl (fun u n => pendCan u c n (txPayload u c n)) s1) else done s1

/-- The reference message of a basic cycle, at the freeze (R370, R371), and the count of missed ones. -/
def ttFreeze (s : State) (c : Nat) : State :=
  let cfg := canCfg s c
  let x := canCtl s c
  let better := match x.cur with
    | some p => decide (p < cfg.prio)
    | none => false
  if canNormal s && !x.busOff && !better then
    if s.grid.frame % max cfg.cyclefr 1 = 0 then
      let k := (x.cycle + 1) % max cfg.cycles 1
      let g := s.grid.freezeAt / 1000 % 65536
      let s1 := setCan s c { x with cycle := k, global := g, refFrame := some s.grid.frame, refAt := s.grid.freezeAt }
      timeMaster (send s1 2 c [cfg.refid / 8 * 8 + cfg.prio, 0, 8, k + g * 65536]) c cfg.prio
    else s
  else
    match x.refFrame with
    | some f =>
      let d := s.grid.frame - f
      let n := max cfg.cyclefr 1
      if n < d ∧ (d - 1) % n = 0 then setCan s c { x with refMiss := satAdd 0xFFFF x.refMiss 1 } else s
    | none => s

/-- In sync with a reference message of the last 2 basic cycles. -/
def ttSync (s : State) (c : Nat) : Bool :=
  match (canCtl s c).refFrame with
  | some f => decide (s.grid.frame - f ≤ 2 * (canCfg s c).cyclefr)
  | none => false

/-- What the freeze does to the controllers: reference messages, frames of the last second, and pending frames of a module
that no longer transmits. -/
def canFreeze (s : State) : State :=
  s.cfg.can.ctls.foldl (fun u e =>
    let c := e.1
    let u1 := if e.2.tt then ttFreeze u c else u
    let u2 := if u1.grid.frame % 2400 = 0 then
      modCan u1 c fun q => { q with rxShown := min 0xFFFF q.rxSec, txShown := min 0xFFFF q.txSec, rxSec := 0, txSec := 0 } else u1
    if canNormal u2 then u2
    else modCan u2 c fun q => { q with bufs := tmapAll {} (fun _ b => { b with pend := none, arb := false, held := none, due := false }) q.bufs }) s

/-- The module takes the lead: on-change buffers compare with what was heard; at an unplanned takeover they are sent at once
(R372). -/
def canLead (s : State) : State :=
  let now := s.pair.ho.isNone && decide (s.pair.role = .active)
  s.cfg.can.ctls.foldl (fun u e => e.2.bufs.foldl (fun v b =>
    let x := txBuf v e.1 b.1
    let v1 := setBuf v e.1 b.1 { x with lastQ := x.heard }
    let p := txPayload v1 e.1 b.1
    if now ∧ b.2.trig = 1 ∧ x.heard ≠ some p then queueCan v1 e.1 b.1 p else v1) u) s

/-- A new image: altered buffers and objects are replaced, pending frames of altered buffers are cancelled (R374). -/
def canImage (s : State) (old : Image) : State :=
  s.cfg.can.ctls.foldl (fun u e =>
    let o : CanCtlCfg := (look old.can.ctls e.1).getD {}
    let u1 := e.2.bufs.foldl (fun v b =>
      if look o.bufs b.1 = some b.2 then v
      else if (txBuf v e.1 b.1).pend.isSome then setBuf (cancelCan v e.1 b.1) e.1 b.1 { txBuf (cancelCan v e.1 b.1) e.1 b.1 with held := none, lastQ := none }
      else setBuf v e.1 b.1 { txBuf v e.1 b.1 with held := none, lastQ := none }) u
    e.2.objs.foldl (fun v b => if look o.objs b.1 = some b.2 then v else setObj v e.1 b.1 { at0 := v.grid.frame }) u1) s

/-- The status tetrads of a controller (R373). -/
def canStatus (s : State) (c kind : Nat) : Tetrad :=
  let x := canCtl s c
  if kind = 0 then
    if !canOn s c || x.busOff then 0x5#4 else if canPassive x then 0x6#4 else 0x2#4
  else if !(canCfg s c).tt || !ttSync s c then 0x5#4
  else if x.cur = some (canCfg s c).prio then 0x2#4 else 0x1#4

end Sys2Proof.Machine
end

