-- ==== Sys2Proof/Machine/ChainOps.lean ====
section
/-! DEFINITION. The chain's shared operations: its ports and nodes, who transmits, epochs, and what a change of lead or of
configuration does to it (R318, R321, R325, R327, R328). -/

namespace Sys2Proof.Machine

open Sys2Proof

/-! ### Views -/

def setChn (s : State) (f : ChnState → ChnState) : State := { s with chn := f s.chn }
def chnPort (s : State) (p : Nat) : ChnPort := tget {} s.chn.ports p
def setPort (s : State) (p : Nat) (x : ChnPort) : State := setChn s fun c => { c with ports := tset {} c.ports p x }
def chnCfg (s : State) (p : Nat) : ChnPortCfg := (look s.cfg.chn p).getD {}
def nodeCfg (s : State) (p n : Nat) : ChnNodeCfg := (look (chnCfg s p).nodes n).getD {}
def chnNode (s : State) (p n : Nat) : ChnNode := tget {} (chnPort s p).nodes n
def setNode (s : State) (p n : Nat) (x : ChnNode) : State :=
  let q := chnPort s p
  setPort s p { q with nodes := tset {} q.nodes n x }
def nodeSeg (s : State) (p n i : Nat) : ChnSeg := (look (nodeCfg s p n).segs i).getD {}
/-- The node is configured. -/
def isNode (s : State) (p n : Nat) : Bool := (look (chnCfg s p).nodes n).isSome
/-- The port is in use. -/
def portOn (s : State) (p : Nat) : Bool := (look s.cfg.chn p).isSome

/-- The module transmits on the chain: with the grant of its role, from its first frame on; the outgoing side through frame h
(R327). -/
def chnMaster (s : State) : Bool :=
  outputsOn s && ((s.pair.role.leads && decide (s.chn.masterFrom ≤ s.grid.frame)) || decide (s.chn.masterTill = some s.grid.frame))

/-- A new epoch is chosen: written to MRAM, recorded and shown (R325). -/
def newEpoch (s : State) (p e : Nat) : State :=
  let q := chnPort s p
  raise (setPort s p { q with epoch := some (e % 256), mram := e % 256 }) { blk := 0xC, ev := 6, info := [p, e % 256] }

/-- PORT, NODE, AREA and INDEX of a chain endpoint's ADDR. -/
def chnPortOf (a : Nat) : Nat := a / 2 ^ 22 % 4
def chnNodeOf (a : Nat) : Nat := a / 2 ^ 16 % 64
def chnArea (a : Nat) : Nat := a / 2 ^ 14 % 4
def chnIndex (a : Nat) : Nat := a % 2048

/-- The input endpoints of a node. -/
def nodeInputs (s : State) (p n : Nat) : List Nat :=
  epsAt s 5 fun a => decide (chnPortOf a = p) && decide (chnNodeOf a = n)

/-- A node becomes LOST: its sources are lost (R319, R321). -/
def nodeLost (s : State) (p n : Nat) : State :=
  raise (setNode (loseSource s (nodeInputs s p n) s.grid.now) p n { chnNode s p n with st := 4 }) { blk := 0xC, ev := 1, info := [p, n] }

/-- The module becomes master as of frame h: after a takeover or switchover from the epoch heard, after JOIN by search
(R321, R325, R327). -/
def chainLead (s : State) (h : Nat) : State :=
  let planned := s.pair.ho.isSome
  let s1 := setChn s fun c => { c with
    masterFrom := h, masterTill := none, omitFrame := if planned ∨ s.pair.role = .solo then none else some s.grid.frame }
  s1.cfg.chn.foldl (fun u e =>
    let q := chnPort u e.1
    if u.pair.role = .solo then
      setPort u e.1 { q with epoch := none, since := h, nodes := e.2.nodes.foldl (fun t n => tset {} t n.1 { chnNode u e.1 n.1 with st := 1, step := 0 }) [] }
    else match q.heard with
      | some k => newEpoch (setPort u e.1 { q with since := h }) e.1 (k + 1)
      | none => setPort u e.1 { q with epoch := none, since := h }) s1

/-- The module is no longer master; the outgoing side of a switchover transmits through frame h (R327). -/
def chainYield (s : State) (h : Nat) : State :=
  setChn s fun c => { c with masterTill := if s.pair.ho.isSome then some h else none, omitFrame := none }

/-- A new image: nodes with another map that did not echo it are LOST until admitted (R328); MISMATCH nodes are admitted
again (R321). -/
def chainImage (s : State) (old : Image) : State :=
  s.cfg.chn.foldl (fun u e => e.2.nodes.foldl (fun v n =>
    let was := (look ((look old.chn e.1).getD {}).nodes n.1).map (·.segs)
    let x := chnNode v e.1 n.1
    let y := { x with staged := false }
    if was = some n.2.segs then (if x.st = 6 then setNode v e.1 n.1 { y with st := 1, step := 0 } else setNode v e.1 n.1 y)
    else if x.st = 3 ∧ !x.staged then nodeLost (setNode v e.1 n.1 { y with needAdmit := true, step := 0 }) e.1 n.1
    else if x.staged then setNode v e.1 n.1 y
    else setNode v e.1 n.1 { y with st := 1, step := 0 }) u) s

end Sys2Proof.Machine
end

