-- ==== Sys2Proof/Machine/LocalIo.lean ====
section
/-! DEFINITION. The commands of the local field I/O and of the output hand-over (R333–R352, R268–R271). -/

namespace Sys2Proof.Machine

open Sys2Proof

/-! ### Common fault bits and fault records (R337, R341) -/

/-- LIO_STAT shows the common fault bits; each rise is an event. -/
def lioFaults (s : State) : State :=
  let di := (s.cfg.lio.di.any fun e => decide ((diOf s e.1).deb = 2)) || s.lio.di.any fun e => decide (e.2.deb = 2)
  let dof := (boundDos s).any fun e => decide (doStatus s e.1 = 0x7#4)
  let was := rd s Reg.LIO_STAT
  let s1 := wrField (wrField s Reg.LIO_STAT 0 0 (if di then 1 else 0)) Reg.LIO_STAT 1 1 (if dof then 1 else 0)
  let s2 := if di && !flag was 0 then raise s1 { blk := 0xE, ev := 0 } else s1
  if dof && !flag was 1 then raise s2 { blk := 0xE, ev := 1 } else s2

/-- The event byte of an event of LIO without a status bit (R470). -/
def lioBare (k : Nat) : Nat := 0x80 + (Config.recByte 0xE k).val

/-- A fault begins: recorded once. -/
def faultBegin (s : State) (k : Nat) (info : List Nat) : State × FaultRec :=
  (recordBare s k { blk := 0xE, ev := 0, info := info }, { seq := s.rcd.seqNext.toNat, frame := s.grid.frame })

/-- A fault that was recorded clears. -/
def faultEnd (s : State) (k : Nat) (r : Option FaultRec) : State :=
  match r with
  | some f => conditionEnded s 0xE (lioBare k) f.seq (s.grid.frame - f.frame)
  | none => s

/-! ### Digital inputs -/

/-- DI_CHANGE: the filtered class of an input changes at time t (R333, R334). -/
def execDiChange (n cur mv t : Nat) (s0 : State) : Out :=
  let s := atTime s0 t
  let x := diOf s n
  let c := diClass (diCfg s n).wbrk x.cls cur mv
  if 32 ≤ n ∨ c = x.cls then done s
  else done (setDi s n { x with cls := c, since := if c = x.deb then none else some t })

/-- DEBOUNCE_EXPIRY: the class has been held for t_deb (R334). -/
def execDebounceExpiry (n t : Nat) (s0 : State) : Out :=
  let s := atTime s0 t
  let x := diOf s n
  match x.since with
  | some u =>
    if u + (diCfg s n).deb * 1000 ≤ t then
      let s1 := setDi s n { x with deb := x.cls, since := none }
      done (lioFaults (if x.cls = 2 then bump s1 Reg.LIO_DI_BRK_CNT else s1))
    else done s
  | none => done s

/-- The digital inputs present their debounced state at the common instant (R22). -/
def presentDis (s : State) : State :=
  (epsAt s 2 fun _ => true).foldl (fun t ep =>
    collectOwn t ep (diTet t (daddr (dirEntry t ep) % 32) t.grid.freezeAt) t.grid.freezeAt) s

/-! ### Digital outputs -/

/-- DO_READBACK: what the channel's sense reads 50 µs after the latch (R336, R337). -/
def execDoReadback (ch : Nat) (sense : Bool) (t : Nat) (s0 : State) : Out :=
  let s := atTime s0 t
  match doEp s ch with
  | none => done s
  | some ep =>
    let x := doOf s ch
    if !(drivesDo s ep || doPrompt s ch ep) then done s
    else if sense = doWanted s ch ep then
      done (lioFaults (faultEnd (setDo s ch { x with miss := 0, rbRec := none }) 1 x.rbRec))
    else
      let n := min 2 (x.miss + 1)
      if n = 2 ∧ x.rbRec = none then
        let (s1, r) := faultBegin (bump s Reg.LIO_DO_OVL_CNT) 1 [ch]
        done (lioFaults (setDo s1 ch { x with miss := n, rbRec := some r }))
      else done (setDo s ch { x with miss := n })

/-- DO_OVERLOAD: 2 ms in current limit or thermal shutdown (R337). -/
def execDoOverload (ch t : Nat) (s0 : State) : Out :=
  let s := atTime s0 t
  let x := doOf s ch
  if 16 ≤ ch ∨ x.off then done s
  else
    let (s1, r) := match x.ovlRec with
      | some r => (s, r)
      | none => faultBegin s 2 [ch]
    done (lioFaults (setDo (bump s1 Reg.LIO_DO_OVL_CNT) ch { x with off := true, retryAt := s.grid.frame + 240, ovlRec := some r }))

/-- GROUP_OVERCURRENT: a group above 4.4 A for 10 ms (R337). -/
def execGroupOvercurrent (g t : Nat) (s0 : State) : Out :=
  let s := atTime s0 t
  let x := grpOf s g
  if 2 ≤ g ∨ x.off then done s
  else
    let (s1, r) := match x.ocRec with
      | some r => (s, r)
      | none => faultBegin s 3 [g]
    done (lioFaults (setGrp (bump s1 Reg.LIO_DO_OVL_CNT) g { x with off := true, retryAt := s.grid.frame + 240, ocRec := some r }))

/-- DO_RETRY of a channel (group false) or a group after 240 frames: it persists, or the stage works again (R337). -/
def execDoRetry (group : Bool) (n : Nat) (persists : Bool) (t : Nat) (s0 : State) : Out :=
  let s := atTime s0 t
  if group then
    let x := grpOf s n
    if !x.off ∨ s.grid.frame < x.retryAt then done s
    else if persists then done (setGrp s n { x with retryAt := s.grid.frame + 240 })
    else done (lioFaults (faultEnd (setGrp s n { x with off := false, ocRec := none }) 3 x.ocRec))
  else
    let x := doOf s n
    if !x.off ∨ s.grid.frame < x.retryAt then done s
    else if persists then done (setDo s n { x with retryAt := s.grid.frame + 240 })
    else done (lioFaults (faultEnd (setDo s n { x with off := false, ovlRec := none }) 2 x.ovlRec))

/-- GROUP_SUPPLY_LOW: a group supply falls below 18.0 V or returns (R337). -/
def execGroupSupplyLow (g : Nat) (low : Bool) (t : Nat) (s0 : State) : Out :=
  let s := atTime s0 t
  let x := grpOf s g
  if 2 ≤ g ∨ x.low = low then done s
  else if low then
    let (s1, r) := faultBegin s 4 [g]
    done (lioFaults (setGrp s1 g { x with low := true, lowRec := some r }))
  else done (lioFaults (faultEnd (setGrp s g { x with low := false, lowRec := none }) 4 x.lowRec))

/-- The digital outputs latch at the common instant from the distribute bank (R22, R336). -/
def latchDos (s : State) : State :=
  (boundDos s).foldl (fun t e =>
    let latches := if dPrompt (dirEntry t e.2) then framePath t else latchesControl t
    if latches && !t.lio.wdHold then latchDo t e.1 (distBin t e.2) else setDo t e.1 { doOf t e.1 with tail := false }) s

/-! ### Output watchdog (R338, R346) -/

/-- The watchdog runs: the module drives outputs. -/
def wdArmed (s : State) : Bool := outputsOn s && framePath s

/-- The frames since the last distribution. -/
def wdAge (s : State) : Nat := min 8191 ((s.grid.mono - s.lio.wdAt) * 3 / 1250000)

/-- OUTPUT_WATCHDOG_EXPIRY. -/
def execOutputWatchdogExpiry (t : Nat) (s0 : State) : Out :=
  let s := atTime s0 t
  if wdArmed s ∧ !s.lio.wdHold ∧ lasts (s.grid.mono - s.lio.wdAt) s.cfg.lio.wd then
    let s1 := setLio (bump s Reg.LIO_WD_CNT) fun l => { l with wdExpired := true, wdHold := true }
    let s2 := raise s1 { blk := 0xE, ev := 2 }
    done (if (upto 8).any (axOutput s) then setBit s2 Reg.AIO_EVT_STAT 2 else s2)
  else done s

/-- A distribution arrives at the output stages at a freeze: safe states hold until the next common instant. -/
def distributed (s : State) : State :=
  setLio s fun l => { l with wdAt := s.grid.mono, wdHold := l.wdExpired, wdExpired := false }

/-! ### HART (R347–R349) -/

/-- A transaction is complete: its item is delivered (R348). -/
def hartDeliver (s : State) (ch status cmd : Nat) (bs : List Byte) (t : Nat) : State :=
  let x := axOf s ch
  let s1 := setAx s ch { x with
    last := status, lastCmd := cmd
    hartOk := if status = 0 then satAdd 0xFFFF x.hartOk 1 else x.hartOk
    hartBad := if status = 1 ∨ status = 2 then satAdd 0xFFFF x.hartBad 1 else x.hartBad }
  putTelegram s1 (tgItem (axCfg s ch).part 3 ch t 0 (BitVec.ofNat 8 status :: bs))

/-- The module transmits HART (R349). -/
def hartSends (s : State) : Bool := s.pair.granted && s.pair.role.leads && outputsOn s

/-- The master starts the head of its queue; a suspended channel drops it (R347–R349). -/
def hartStart (s : State) (ch t : Nat) : State :=
  let x := axOf s ch
  match x.queue with
  | [] => s
  | r :: rs =>
    if x.busy.isSome || !hartSends s then s
    else if hartSuspended s ch then hartDeliver (setAx s ch { x with queue := rs }) ch 3 r.cmd [] t
    else send (setAx s ch { x with queue := rs, busy := some r, busyAt := t }) 4 ch (r.cmd :: r.data.map (·.toNat))

/-- HART_REQ: a class of an application core queues a command for a channel (R123, R347). A full queue answers status 4. -/
def execHartReq (core ch cmd : Nat) (data : List Byte) (t : Nat) (s0 : State) : Out :=
  let s := atTime s0 t
  match runningClass s core with
  | none => done s
  | some _ =>
    let x := axOf s ch
    if 8 ≤ ch ∨ (axCfg s ch).hart = false then done s
    else if 8 ≤ x.queue.length then done (answer (setAx s ch { x with last := 4 }) (.value 4))
    else done (hartStart (setAx s ch { x with queue := x.queue ++ [{ cmd := cmd, data := data }] }) ch t)

/-- HART_RESPONSE: a response is heard, with the command of its request; ok: no framing, parity or check error (R348, R349). -/
def execHartResponse (ch cmd : Nat) (bs : List Byte) (ok : Bool) (t : Nat) (s0 : State) : Out :=
  let s := atTime s0 t
  let x := axOf s ch
  let status := if ok then 0 else 2
  if (axCfg s ch).hart = false then done s
  else
    match x.busy with
    | some r => done (hartStart (hartDeliver (setAx s ch { x with busy := none }) ch status r.cmd bs t) ch t)
    | none =>
      if hartSends s then done s
      else
        let q := match x.queue with
          | r :: rs => if r.cmd = cmd then rs else x.queue
          | [] => []
        done (hartDeliver (setAx s ch { x with queue := q }) ch status cmd bs t)

/-- HART_TIMEOUT: no response within 256 ms (R348). -/
def execHartTimeout (ch t : Nat) (s0 : State) : Out :=
  let s := atTime s0 t
  let x := axOf s ch
  match x.busy with
  | some r =>
    if x.busyAt + 256000000 ≤ t then
      let s1 := raise (setAx s ch { x with busy := none }) { blk := 0xF, ev := 3, info := [ch] }
      done (hartStart (hartDeliver s1 ch 1 r.cmd [] t) ch t)
    else done s
  | none => done s

/-- The grant is lost: a running transaction ends with status 1 or 3, and queued ones are dropped (R348, R349). -/
def hartLost (s : State) (t : Nat) : State :=
  (upto 8).foldl (fun u ch =>
    let x := axOf u ch
    let st := if (Config.freeWord u.freeN).getLsbD 0 then 1 else 3
    let u1 := match x.busy with
      | some r => hartDeliver (setAx { u with freeN := u.freeN + 1 } ch { x with busy := none }) ch st r.cmd [] t
      | none => u
    x.queue.foldl (fun v r => hartDeliver (setAx v ch { axOf v ch with queue := (axOf v ch).queue.drop 1 }) ch 3 r.cmd [] t) u1) s

/-! ### Analogue channels -/

/-- The present condition of a channel ends: so does its record (R345). -/
def condEnds (s : State) (ch : Nat) : State :=
  let x := axOf s ch
  match x.recSeq with
  | some r => conditionEnded (setAx s ch { x with recSeq := none }) 0xF (if x.isOpen then 1 else 0) r.seq (s.grid.frame - x.since)
  | none => s

/-- A channel that is not driven has no condition. -/
def dropConds (s : State) (ch : Nat) : State :=
  let s1 := condEnds s ch
  setAx s1 ch { axOf s1 ch with openN := 0, openL := 0, compN := 0, compL := 0, isOpen := false, isComp := false }

/-- A channel of another mode is at high impedance, with no sample and no condition. -/
def resetAx (s : State) (ch : Nat) : State :=
  let s1 := dropConds s ch
  setAx s1 ch { axOf s1 ch with hiz := true, samples := [] }

/-- A count of consecutive samples that meet a criterion. -/
def runOf (n : Nat) (hit : Bool) : Nat := if hit then min 3 (n + 1) else 0

/-- The conditions of an output after a sample (R345). -/
def axJudge (s : State) (ch : Nat) : State :=
  let x := axOf s ch
  if !axDriven s ch then dropConds s ch
  else
    let cmd := fracOf (axCommand s ch)
    let m := fracOf x.meas
    let h := fracOf x.head
    let y := { x with
      openN := runOf x.openN ((Frac.ofInt 1).le cmd && m.lt (frac 1 5))
      openL := runOf x.openL ((cmd.mul (frac 1 2)).le m)
      compN := runOf x.compN (h.lt (frac 3 2))
      compL := runOf x.compL ((frac 17 10).le h) }
    let o := if x.isOpen then decide (y.openL < 3) else decide (y.openN = 3)
    let c := if x.isComp then decide (y.compL < 3) else decide (y.compN = 3)
    let code := fun (a b : Bool) => if a then 2 else if b then 1 else 0
    let was := code x.isOpen x.isComp
    let now := code o c
    let s1 := if was ≠ now ∧ was ≠ 0 then condEnds s ch else s
    let z := axOf s1 ch
    let y1 := { y with
      recSeq := z.recSeq, isOpen := o, isComp := c
      since := if was ≠ now then s.grid.frame else x.since
      openCnt := if o && !x.isOpen then satAdd 0xFFFF x.openCnt 1 else x.openCnt
      compCnt := if c && !x.isComp then satAdd 0xFFFF x.compCnt 1 else x.compCnt }
    setAx s1 ch y1

/-- ADC_SAMPLE: measured current and headroom as binary32, and the state of the converter (R343–R345). -/
def execAdcSample (ch : Nat) (meas head : Word) (conv : Bool) (t : Nat) (s0 : State) : Out :=
  let s := atTime s0 t
  let x := axOf s ch
  if 8 ≤ ch ∨ (axCfg s ch).mode = 0 then done s
  else
    let was := axCond s ch
    let s1 := axJudge (setAx s ch { x with meas := meas, head := head, conv := conv, samples := (meas :: x.samples).take 24 }) ch
    let s2 := if axCond s1 ch = was ∨ axOutput s1 ch then s1 else setAx s1 ch { axOf s1 ch with since := s1.grid.frame }
    done (wrField s2 Reg.AIO_CONV ch ch (if conv then 1 else 0))

/-- CONDITION_RECORD: a condition has lasted COMPT frames (R345). -/
def execConditionRecord (ch t : Nat) (s0 : State) : Out :=
  let s := atTime s0 t
  let x := axOf s ch
  if (x.isOpen ∨ x.isComp) ∧ x.recSeq = none ∧ (axCfg s ch).compt ≤ s.grid.frame - x.since then
    let r : FaultRec := { seq := s.rcd.seqNext.toNat, frame := x.since }
    done (raise (setAx s ch { x with recSeq := some r }) { blk := 0xF, ev := if x.isOpen then 1 else 0, info := [ch] })
  else done s

/-- An output channel latches a value (R344). -/
def latchAx (s : State) (ch : Nat) (v : Word) : State :=
  let (w, o) := axClamp v
  setAx s ch { axOf s ch with cmd := w, oor := o, hiz := false }

/-- The analogue outputs latch at the common instant; the incoming side of a cross-fade starts at 0 % (R270). -/
def latchAxs (s : State) : State :=
  (upto 8).foldl (fun t ch =>
    match axEp t ch with
    | none => t
    | some ep =>
      if !axOutput t ch ∨ t.lio.wdHold ∨ t.lio.aoWait ∨ !latchesControl t then t
      else
        let t1 := if t.sig.distribute.hiz.contains ep then setAx t ch { axOf t ch with hiz := true } else latchAx t ch (distAna t ep).val
        match t.pair.ho with
        | some h => if !h.outgoing ∧ h.h + 2 = t.grid.frame then setAx t1 ch { axOf t1 ch with pct := 0 } else t1
        | none => setAx t1 ch { axOf t1 ch with pct := 100 }) s

/-- The analogue inputs present their values at the common instant (R22, R343). -/
def presentAis (s : State) : State :=
  (upto 8).foldl (fun t ch =>
    if !axInput t ch then t
    else
      let (v, q, _) := aiRead t ch
      (epsAt t 4 fun a => decide (a % 8 = ch)).foldl (fun u ep => collectAna u ep v q u.grid.freezeAt) t) s

/-- CROSS_FADE_STEP: step s of the fade, 4,000 ns after the one before (R270). -/
def execCrossFadeStep (t : Nat) (s0 : State) : Out :=
  let s := atTime s0 t
  match s.pair.ho with
  | none => done s
  | some h =>
    let k := h.fade + 1
    if 100 < k ∨ t < frameStart (h.h + 2) + 4000 * k then done s
    else
      let s1 := setPair s fun p => { p with ho := some { h with fade := k } }
      let s2 := (upto 8).foldl (fun u ch =>
        if !axOutput u ch then u
        else
          let x := axOf u ch
          setAx u ch { x with pct := if h.outgoing then 100 - k else k, hiz := x.hiz || (h.outgoing && decide (k = 100)) }) s1
      if k = 100 ∧ (upto 8).any (axOutput s) = true then done (removalTick (raise s2 { blk := 0xF, ev := 4 })) else done (removalTick s2)

/-- DO_RELEASE: 100 µs after the common instant of h + 2 the outgoing module releases its digital outputs (R268). -/
def execDoRelease (t : Nat) (s0 : State) : Out :=
  let s := atTime s0 t
  match s.pair.ho with
  | some h =>
    if h.outgoing ∧ frameStart (h.h + 2) + 100000 ≤ t then
      let s1 := setPair s fun p => { p with ho := some { h with released := true } }
      done ((boundDos s).foldl (fun u e => if dPrompt (dirEntry u e.2) then u else setDo u e.1 { doOf u e.1 with latched := false }) s1)
    else done s
  | none => done s

/-! ### Unplanned takeover (R269, R271) and input loops (R350) -/

/-- The most recently sealed image: from the seal on the assembled output image, otherwise the last committed one. -/
def sealedBin (s : State) (ep : Nat) : Tetrad := if s.grid.phase = 2 then forcedOutBin s ep else tget 0x7#4 s.sig.committed.bin ep
def sealedAna (s : State) (ep : Nat) : Word := if s.grid.phase = 2 then (forcedOutAna s ep).val else (tget {} s.sig.committed.ana ep).val

/-- An unplanned grant latches the control-class digital outputs from the sealed image; the analogue ones wait (R269, R271). -/
def grantLatchIo (s : State) : State :=
  let s1 := (boundDos s).foldl (fun t e => if dPrompt (dirEntry t e.2) then t else latchDo t e.1 (sealedBin t e.2)) s
  setLio s1 fun l => { l with aoWait := true, burden := true }

/-- AO_TAKEOVER_DRIVE: 436,667 ns after PGRANT fell (R271). -/
def execAoTakeoverDrive (t : Nat) (s0 : State) : Out :=
  let s := atTime s0 t
  if s.lio.aoWait ∧ s.pair.pgrantAt + 436667 ≤ t then
    let s1 := setLio s fun l => { l with aoWait := false }
    done ((upto 8).foldl (fun u ch => match axEp u ch with
      | some ep => if axOutput u ch then setAx (latchAx u ch (sealedAna u ep)) ch { axOf (latchAx u ch (sealedAna u ep)) ch with pct := 100 } else u
      | none => u) s1)
  else done s

/-- BURDEN_SWITCH: 20 µs after the common instant of h + 2 the incoming module connects, 120 µs after it the outgoing one
disconnects (R350). -/
def execBurdenSwitch (t : Nat) (s0 : State) : Out :=
  let s := atTime s0 t
  match s.pair.ho with
  | some h =>
    let b := frameStart (h.h + 2)
    if !h.outgoing ∧ b + 20000 ≤ t then done (setLio s fun l => { l with burden := true })
    else if h.outgoing ∧ b + 120000 ≤ t then done (setLio s fun l => { l with burden := false })
    else done s
  | none => done s

/-- The burdens when the module takes or leaves the lead other than at a hand-over. -/
def burdenLead (s : State) (on : Bool) : State := if s.pair.ho.isNone then setLio s fun l => { l with burden := on } else s

/-! ### Changes of configuration (R335, R342) and clears -/

/-- The local terminals meet a new image: changed inputs restart, channels of another mode go to high impedance. -/
def lioImage (s : State) (old : Image) : State :=
  let new := s.cfg
  let bound : Image → Nat → List Nat := fun i n => (i.dir.filter fun e => decide (btype e.2 = 2) && decide (daddr e.2 % 32 = n)).map (·.1)
  let s1 := (upto 32).foldl (fun t n =>
    if look old.lio.di n = look new.lio.di n ∧ bound old n = bound new n then t else diStart t n) s
  (upto 8).foldl (fun t ch =>
    if (look old.lio.ax ch).map (·.mode) = (look new.lio.ax ch).map (·.mode) then t
    else resetAx t ch) s1

/-- LIO_CMD.CLR_CNT (R354). -/
def execLioClrCnt (c : Cmd) (s : State) : Out :=
  done (keyedBit s Reg.LIO_CMD 0 c fun t =>
    cleared (zeroRegs t [Reg.LIO_DO_OVL_CNT, Reg.LIO_DI_BRK_CNT, Reg.LIO_WD_CNT]) Reg.LIO_CMD c.session)

/-- AIO_CMD.CLR_CNT (R355). -/
def execAioClrCnt (c : Cmd) (s : State) : Out :=
  done (keyedBit s Reg.AIO_CMD 0 c fun t =>
    let t1 := (upto 8).foldl (fun u ch => setAx u ch { axOf u ch with openCnt := 0, compCnt := 0, hartOk := 0, hartBad := 0 }) t
    cleared t1 Reg.AIO_CMD c.session)

/-- The statuses of the local terminals as module-status endpoints (R332): tetrads and analogue values. -/
def lioStatusTet (s : State) (addr : Nat) : Tetrad := if addr / 2 ^ 32 = 0xE then doStatus s (addr % 16) else axStatus s (addr % 8)
/-- Measured current (kind 1) and headroom (kind 2) with their quality. -/
def axStatusAna (s : State) (kind ch : Nat) : Word × Qual :=
  if kind = 1 then (if axInput s ch then ((aiRead s ch).1, (aiRead s ch).2.1) else ((axOf s ch).meas, aoQual s ch))
  else ((axOf s ch).head, Config.sideQual 16)

end Sys2Proof.Machine
end

