-- ==== Sys2Proof/Machine/Restart.lean ====
section
/-! DEFINITION. What a cold or a warm restart initialises and restores (R130–R132), and what a start keeps. -/

namespace Sys2Proof.Machine

open Sys2Proof

/-- A copy is usable for the image applied (R130). -/
def RetCopy.usable (r : RetCopy) (image : Nat) : Bool := r.valid && decide (r.image = image)

/-- The copy to restore from (false A), or none; the second part says that the copies are ambiguous (R130). -/
def retPick (s : State) : Option Bool × Bool :=
  let a := s.fbx.copyA
  let b := s.fbx.copyB
  match a.usable s.cfg.id, b.usable s.cfg.id with
  | true, true =>
    if a.gen = b.gen ∧ a.content ≠ b.content then (none, true)
    else if a.gen < b.gen then (some true, false) else (some false, false)
  | true, false => (some false, false)
  | false, true => (some true, false)
  | false, false => (none, false)

/-- The state of the running application is initialised as both restart kinds do (R131); the bank roles stand. -/
def initRun (s : State) : State :=
  { s with
    sig := { s.sig with
      coll := {}, next := {}, working := {}, output := {}, committed := {}, distribute := {}, pend := [], lost := [] }
    sched := { prompts := s.sched.prompts }
    le := s.cfg.le.foldl (fun t e => tset {} t e.1 { split := e.2.split, pmem := tsetAll 0 [] e.2.pmem }) []
    fbx := { s.fbx with
      cores := [], mem := tsetAll 0 [] s.cfg.fbx.initWords, changed := [], job := none, lastFault := none, rollbacks := [] } }

/-- The partition of a retained item, by its key in a copy. -/
def retPart (s : State) (key : Nat) : Nat :=
  if key % 4 = 0 then ((s.cfg.fbx.areas.find? fun r => decide (r.lo ≤ key / 4) && decide (key / 4 < r.hi)).map (·.part)).getD 0
  else if key % 4 = 1 then
    let e := key / 4 / 65536
    let c := key / 4 % 65536
    (((leCfg s e).windows.find? fun w => decide (w.2.base ≤ c) && decide (c < w.2.base + w.2.count)).map (·.1)).getD 0
  else dpart (dirEntry s (key / 4))

/-- The item of an endpoint in a copy: the tetrad or the binary32 value, and the quality word. -/
def retEpWord (tet : Tetrad) (val : Word) (q : Qual) (bin : Bool) : DWord :=
  BitVec.ofNat 64 ((if bin then tet.toNat else val.toNat) + q.toNat * 2 ^ 32)

/-- An endpoint takes a restored value. -/
def restoreEp (s : State) (ep : Nat) (v : DWord) : State :=
  let cell : AnaCell := { val := BitVec.ofNat 32 (field v 31 0), qual := BitVec.ofNat 16 (field v 47 32), born := some s.grid.freezes }
  let put := fun (b : Bank) => if isBinary ep then
      { b with bin := tset 0x7#4 b.bin ep (BitVec.ofNat 4 (field v 3 0)), sq := tset qualNever b.sq ep (BitVec.ofNat 16 (field v 47 32)) }
    else { b with ana := tset {} b.ana ep cell }
  { s with sig := { s.sig with working := put s.sig.working, output := put s.sig.output } }

/-- One retained item is restored. -/
def restoreItem (s : State) (key : Nat) (v : DWord) : State :=
  if key % 4 = 0 then { s with fbx := { s.fbx with mem := tset 0 s.fbx.mem (key / 4) v } }
  else if key % 4 = 1 then
    let e := key / 4 / 65536
    setLe s e { leOf s e with hist := tset 0 (leOf s e).hist (key / 4 % 65536) (BitVec.ofNat 32 v.toNat) }
  else restoreEp s (key / 4) v

/-- The restore outcome of a partition (FBX_PART_STAT.RESTORE). -/
def restoreCode (s : State) (r : Option RetCopy) (p : Nat) : Nat :=
  if !(s.cfg.fbx.areas.any fun a => decide (a.part = p)) then 3
  else match r with
  | none => 0
  | some c => if c.hashes.lookup p = some (partCfg s p).lhash then 1 else 2

/-- The application starts cold, or warm from the copy that R130 picks; warm without a usable copy is cold (R131, R132). -/
def restoreRun (s : State) (warm : Bool) : State :=
  let s1 := initRun s
  let pick := retPick s1
  let src : Option Bool := if warm then pick.1 else none
  let copy : Option RetCopy := src.map fun b => if b then s1.fbx.copyB else s1.fbx.copyA
  let bad := fun (p : Nat) => match copy with
    | none => true
    | some c => decide (c.hashes.lookup p ≠ some (partCfg s1 p).lhash)
  let s2 : State := match copy with
    | none => s1
    | some c => c.content.foldl (fun t e => if bad (retPart t e.1) then t else restoreItem t e.1 e.2) s1
  let codes : List (Nat × Nat) := s2.cfg.parts.map fun p => (p.1, restoreCode s2 copy p.1)
  let partial_ := copy.isSome && codes.any fun c => decide (c.2 = 2)
  let s3 := { s2 with fbx := { s2.fbx with restore := tsetAll 0 [] codes } }
  let last := if copy.isNone then 1 else if partial_ then 3 else 2
  let s4 := wrField (wrField s3 Reg.FBX_STAT 31 30 last) Reg.FBX_STAT 29 28 (match src with
    | none => 0
    | some b => if b then 2 else 1)
  let s5 := if warm && pick.2 then raise (setBit s4 Reg.FBX_STAT 27) { blk := 4, ev := 6 } else s4
  let s6 := if warm && (copy.isNone || partial_) then
      raise s5 { blk := 4, ev := 5, info := (codes.filter fun c => decide (c.2 = 2)).map (·.1) } else s5
  showCopies s6

/-- Level X settings return to their reset values (R12). -/
def resetLevelX (s : State) : State :=
  { s with regs := s.regs.filter fun e => match regRow e.1 with
    | some r => decide (r.access ≠ .rw)
    | none => true }

/-- A warm restart in place, without the stages of a start (R229, R131). -/
def warmInPlace (s : State) : State := restoreRun (resetLevelX s) true

end Sys2Proof.Machine
end

