-- ==== Sys2Proof/Machine/Lead.lean ====
section
/-! DEFINITION. What the field buses and the outputs do when the module gains the grant or leads. -/

namespace Sys2Proof.Machine

open Sys2Proof

/-- Change the station and process bus. -/
def setStn (s : State) (f : StnState → StnState) : State := { s with stn := f s.stn }

/-- The module leads: it takes the floating address and the control-class publications (R405, R409). -/
def stationLead (s : State) : State :=
  if s.stn.fip then s
  else
    let heard := s.stn.pubs.any fun e => e.2.heard
    raise (setStn s fun n => { n with fip := true, garp := 3, takeover := heard }) { blk := 9, ev := 3, info := [1] }

/-- The module has left ACTIVE or SOLO: it gives up the floating address and serves no MMS (R405, R412, R414). -/
def stationYield (s : State) : State :=
  if !s.stn.fip then s
  else
    raise (setStn s fun n => { n with
      fip := false, garp := 0, takeover := false, assocs := []
      rcbs := tmapAll {} (fun _ x => { x with ena := none }) n.rcbs
      objs := tmapAll {} (fun _ x => { x with sel := none }) n.objs }) { blk := 9, ev := 3, info := [0] }

/-- One gratuitous ARP for the floating address in each of three frames (R405). -/
def gratuitousArp (s : State) : State :=
  if s.stn.garp = 0 ∨ !s.stn.fip then s
  else [0, 1].foldl (fun u k => ethSend u k 0x0806 [s.stn.macSb, s.cfg.stn.fip]) (setStn s fun n => { n with garp := n.garp - 1 })

/-- An unplanned grant latches the control-class outputs from the sealed image (R269). -/
def onGrant (s : State) (_t : Nat) : State := grantLatchIo s

/-- The module has become ACTIVE or SOLO. h: first frame with the new chain epoch. -/
def onLead (s : State) (h : Nat) : State := stationLead (canLead (chainLead (burdenLead s true) h))

/-- The module has left ACTIVE or SOLO. -/
def onYieldLead (s : State) (h : Nat) : State := stationYield (chainYield (hartLost (burdenLead s false) s.grid.now) h)

end Sys2Proof.Machine
end

