-- ==== Sys2Proof/Machine/Relabel.lean ====
section
/-! DEFINITION. A relabelling of the current frame (R19, R254): the frame boundaries stand, and every frame number and every
instant of sequencer time that the state holds moves with the labels. Records, captures and MONO_NOW keep their stamps. -/

namespace Sys2Proof.Machine

open Sys2Proof

/-- The frame in which an instant of sequencer time lies (R15). -/
def frameAt (t : Nat) : Nat := t / 1000000000 * 2400 + (t % 1000000000 * 3 + 2) / 1250000

/-- The frame whose start lies nearest an instant. -/
def nearestFrame (t : Nat) : Nat :=
  let k := frameAt t
  if 2 * t < frameStart k + frameStart (k + 1) then k else k + 1

/-- A number moved by d. -/
def shifted (d : Int) (n : Nat) : Nat := (Int.ofNat n + d).toNat

/-- The sequencer and the images. -/
def relabelGrid (d e : Int) (s : State) : State :=
  let mv : Collect → Collect := fun c => { c with got := c.got.map fun g => (g.1, g.2.map fun x => { x with stamp := shifted e x.stamp }) }
  { s with
    grid := { s.grid with
      frame := shifted d s.grid.frame, freezeAt := shifted e s.grid.freezeAt, now := shifted e s.grid.now
      tick := shifted (d * (if s.cfg.highrate then 6 else 2)) s.grid.tick }
    sig := { s.sig with coll := mv s.sig.coll, next := mv s.sig.next } }

/-- Partitions, classes, engines and prompts. -/
def relabelSched (d e : Int) (s : State) : State :=
  { s with
    sched := { s.sched with
      parts := tmapAll {} (fun _ x => { x with overruns := x.overruns.map (shifted d), resumeAt := x.resumeAt.map (shifted d) }) s.sched.parts
      classes := tmapAll {} (fun _ x => { x with since := shifted e x.since }) s.sched.classes
      engines := tmapAll {} (fun _ x => { x with
        busy := x.busy.map fun b => (shifted e b.1, shifted e b.2)
        hist := x.hist.map fun b => (shifted d b.1, b.2) }) s.sched.engines
      prompts := s.sched.prompts.map fun x => (x.1, x.2.map fun h => { h with till := shifted e h.till }) }
    le := tmapAll {} (fun _ x => { x with
      events := x.events.map (shifted d)
      modePend := x.modePend.map fun m => (m.1, shifted d m.2)
      haltAt := shifted e x.haltAt }) s.le
    fbx := { s.fbx with cores := tmapAll {} (fun _ x => { x with prevEnd := shifted e x.prevEnd, svcFrom := shifted e x.svcFrom }) s.fbx.cores }
    rcd := { s.rcd with lastFlushFrame := shifted d s.rcd.lastFlushFrame } }

/-- The pair. -/
def relabelPair (d e : Int) (s : State) : State :=
  let p := s.pair
  let hm : Hallmark → Hallmark := fun h => { h with frame := shifted d h.frame }
  let pm := { p.partner with fmarkFrame := p.partner.fmarkFrame.map (shifted d) }
  let lr := { p.learn with start := shifted d p.learn.start, finalFrame := shifted d p.learn.finalFrame }
  { s with pair := { p with
    since := shifted d p.since
    grantAt := shifted e p.grantAt
    grantLostAt := shifted e p.grantLostAt
    pgrantAt := shifted e p.pgrantAt
    killAt := p.killAt.map (shifted e)
    claspFrame := shifted d p.claspFrame
    retryAt := p.retryAt.map (shifted d)
    joinSince := p.joinSince.map (shifted d)
    rejoinAt := p.rejoinAt.map (shifted d)
    lostAt := p.lostAt.map (shifted d)
    sw := p.sw.map fun x => { x with h := shifted d x.h, start := shifted d x.start }
    ho := p.ho.map fun x => { x with h := shifted d x.h }
    hm := p.hm.map hm
    hmPartner := p.hmPartner.map hm
    hmMisses := p.hmMisses.map (shifted d)
    partner := pm
    learn := lr } }

/-- Safety, forces, on-line change and update. -/
def relabelCare (d : Int) (s : State) : State :=
  let m := s.saf.smm
  let smm : Smm := { m with
    askedAt := shifted d m.askedAt, startAt := m.startAt.map (shifted d), till := shifted d m.till, endAt := m.endAt.map (shifted d) }
  { s with
    saf := { s.saf with
      smm := smm
      stc := tmapAll {} (fun _ x => { x with
        lastFrame := shifted d x.lastFrame, copy := x.copy.map fun q => { q with frame := shifted d q.frame } }) s.saf.stc
      pub := tmapAll {} (fun _ x => { x with n0 := x.n0.map (shifted d), sentFrame := shifted d x.sentFrame }) s.saf.pub }
    frc := { s.frc with
      table := s.frc.table.map fun x => (x.1, x.2.map fun f => { f with till := f.till.map (shifted d) })
      reqs := s.frc.reqs.map fun r => { r with frame := shifted d r.frame } }
    olc := { s.olc with
      askFrame := shifted d s.olc.askFrame, arm := shifted d s.olc.arm
      windowEnd := shifted d s.olc.windowEnd, revertAt := shifted d s.olc.revertAt }
    upd := { s.upd with across := s.upd.across.map (shifted d) } }

/-- Local I/O, chain and CAN. -/
def relabelField (d e : Int) (s : State) : State :=
  let fr : FaultRec → FaultRec := fun r => { r with frame := shifted d r.frame }
  { s with
    lio := { s.lio with
      di := tmapAll {} (fun _ x => { x with since := x.since.map (shifted e), doubtTill := x.doubtTill.map (shifted e) }) s.lio.di
      dos := tmapAll {} (fun _ x => { x with retryAt := shifted d x.retryAt, ovlRec := x.ovlRec.map fr, rbRec := x.rbRec.map fr }) s.lio.dos
      groups := tmapAll {} (fun _ x => { x with retryAt := shifted d x.retryAt, ocRec := x.ocRec.map fr, lowRec := x.lowRec.map fr }) s.lio.groups
      ax := tmapAll {} (fun _ x => { x with since := shifted d x.since, recSeq := x.recSeq.map fr, busyAt := shifted e x.busyAt }) s.lio.ax }
    chn := { s.chn with
      omitFrame := s.chn.omitFrame.map (shifted d), masterFrom := shifted d s.chn.masterFrom, masterTill := s.chn.masterTill.map (shifted d)
      ports := tmapAll {} (fun _ x => { x with
        since := shifted d x.since
        req := x.req.map fun r => { r with fnum := shifted d r.fnum % 2 ^ 24, sentAt := shifted e r.sentAt }
        nodes := tmapAll {} (fun _ n => { n with held := n.held.map (shifted d) }) x.nodes }) s.chn.ports }
    can := { s.can with
      ctls := tmapAll {} (fun _ x => { x with
        refFrame := x.refFrame.map (shifted d), refAt := shifted e x.refAt, unkAt := x.unkAt.map (shifted e)
        lock := x.lock.map fun l => (l.1, shifted e l.2)
        objs := tmapAll {} (fun _ o => { o with at0 := shifted d o.at0 }) x.objs
        bufs := tmapAll {} (fun _ b => { b with since := shifted d b.since }) x.bufs }) s.can.ctls } }

/-- The time bases. -/
def relabelTime (e : Int) (s : State) : State :=
  let t := s.tim
  { s with tim := { t with
    irigOfs := t.irigOfs - e
    inst := tmapAll {} (fun _ x => { x with
      abs3 := x.abs3 - 3 * e, lastAnn := shifted e x.lastAnn, okSince := x.okSince.map (shifted e) }) t.inst
    lq := tmapAll {} (fun _ q => { q with
      headAt := shifted e q.headAt, ents := q.ents.map fun x => { x with time := shifted e x.time } }) t.lq } }

/-- The sample rings: native slots keep their places in time; a stream of 4,000 Hz, whose numbering is not a multiple of the
frames, starts its rings afresh. -/
def relabelSvi (d e : Int) (s : State) : State :=
  let depth := if s.cfg.highrate then 768 else 256
  let k : Int := d * (if s.cfg.highrate then 6 else 2)
  let move : Tbl (Option SvSlot) → Tbl (Option SvSlot) := fun r => r.foldl (fun acc p => match p.2 with
    | some z => tset none acc (shifted k z.n % depth) (some { z with n := shifted k z.n })
    | none => acc) []
  { s with svi := { s.svi with
    common := s.svi.common.map (· + k)
    streams := s.svi.streams.map fun p => (p.1, p.2.map fun x =>
      let native := decide (((look s.cfg.sv p.1).getD {}).format ≠ 5)
      { x with
        since := shifted e x.since, errSince := x.errSince.map (shifted e)
        first := if native then shifted k x.first else 0
        offs := if x.anch = 1 then x.offs + (if native then k else e / 250000) else x.offs
        ring := if native then move x.ring else []
        out := move x.out }) } }

/-- The phasor engines: every element that reads streams warms up again (R198). -/
def relabelPe (d e : Int) (s : State) : State :=
  { s with pe := { s.pe with
    caps := s.pe.caps.map fun c => { c with at0 := shifted e c.at0 }
    engines := tmapAll {} (fun _ x => { x with
      tick := shifted (d * (if s.cfg.highrate then 6 else 2)) x.tick
      ovrs := x.ovrs.map (shifted d)
      peaks := x.peaks.map fun p => (shifted d p.1, p.2)
      elems := tmapAll {} (fun _ y => { y with lastN := none, fill := 0, more := 0, hist := [], thetas := [], freqs := [] }) x.elems }) s.pe.engines } }

/-- The current frame takes number n. -/
def relabel (s : State) (n : Nat) : State :=
  let d : Int := Int.ofNat n - Int.ofNat s.grid.frame
  let e : Int := Int.ofNat (frameStart n) - Int.ofNat (frameStart s.grid.frame)
  if d = 0 then s
  else relabelPe d e (relabelSvi d e (relabelTime e (relabelField d e (relabelCare d (relabelPair d e (relabelSched d e (relabelGrid d e s)))))))

end Sys2Proof.Machine
end

