-- ==== Sys2Proof/Machine/TimeOps.lean ====
section
/-! DEFINITION. The shared operations of the time bases: healthy bases, the selection, slewing, holdover, the time quality, the
UTC offset and the launch queues (R377–R388, R393, R394). Bases are numbered as TIM_STAT.SEL numbers them: 1 TB-A, 2 TB-B. -/

namespace Sys2Proof.Machine

open Sys2Proof

/-- Change the time bases. -/
def setTim (s : State) (f : TimState → TimState) : State := { s with tim := f s.tim }

/-- A PTP instance and its settings. -/
def ptpInst (s : State) (i : Nat) : PtpInst := tget {} s.tim.inst i
def setInst (s : State) (i : Nat) (x : PtpInst) : State := setTim s fun t => { t with inst := tset {} t.inst i x }
def ptpCfg (s : State) (i : Nat) : PtpCfg := (look s.cfg.tim.inst i).getD {}

/-- The selected base (TIM_STAT.SEL). -/
def selBase (s : State) : Nat := field (rd s Reg.TIM_STAT) 31 30

/-- The module applies R381 to R383 itself (R385). -/
def ownSelection (s : State) : Bool := !(decide (s.pair.role = .standby) || decide (s.pair.role = .learning))

/-- The inaccuracy that the grandmaster and the network declare (R379). -/
def declared (s : State) (i : Nat) : Nat :=
  if (ptpCfg s i).c37 then ((ptpInst s i).parent.map (·.inacc)).getD 0 else 250

/-- U of a base (R386). -/
def baseU (s : State) (b : Nat) : Nat := declared s (b - 1) + (ptpInst s (b - 1)).ofs.natAbs

/-- A base is healthy (R379). -/
def healthyBase (s : State) (b : Nat) : Bool :=
  let x := ptpInst s (b - 1)
  (decide (b = 1) || decide (b = 2)) && (ptpCfg s (b - 1)).en && decide (x.st = 2)
    && (x.parent.any fun a => decide (a.clockClass = 6) || decide (a.clockClass = 7))
    && decide (baseU s b ≤ (ptpCfg s (b - 1)).maxinacc)

/-- A base is outvoted (R383). -/
def outvoted (s : State) (b : Nat) : Bool := flag (rd s Reg.TIM_STAT) (25 + b)

/-- A base can be selected. -/
def selectable (s : State) (b : Nat) : Bool := healthyBase s b && !outvoted s b

/-- A disagreement exists (R382). -/
def disagreeing (s : State) : Bool := flag (rd s Reg.TIM_STAT) 28

/-- Holdover (R384). -/
def inHoldover (s : State) : Bool := flag (rd s Reg.TIM_STAT) 29

/-- U of the holdover prediction in ns (R384). -/
def holdU (s : State) : Nat := 100 + (s.grid.mono - s.tim.lastOk) * 4000 / 3600000000000

/-- U of the present time (R386). -/
def nowU (s : State) : Nat := if healthyBase s (selBase s) then baseU s (selBase s) else holdU s

/-- TMQ (R386). -/
def tmqOf (s : State) : Nat :=
  let u := nowU s
  if s.grid.neverSync ∨ 10000000000 < u then 15
  else if healthyBase s (selBase s) ∧ u ≤ 1000 then 0
  else ((upto 11).find? fun c => decide (u ≤ 10 ^ c)).elim 15 (· + 1)

/-- Time doubt (R383, R384). -/
def doubtNow (s : State) : Bool :=
  s.tim.doubt383 || (inHoldover s && decide (s.cfg.tim.doubtus * 1000 < holdU s))

/-- TimeAccuracy of the IEC 61850 TimeQuality (R386). -/
def timeAccuracy (s : State) : Nat := if s.grid.neverSync then 31 else min 30 (Nat.log2 (1000000000 / max 1 (nowU s)))

/-- The leapsec field of COMTRADE (R387). -/
def leapCode (s : State) : Nat := if s.tim.leap61 then 1 else if s.tim.leap59 then 2 else if s.tim.lsk then 0 else 3

/-! ### UTC (R387) -/

/-- What an instance's parent supplies: the offset and the leap flags. -/
def utcOfInst (s : State) (i : Nat) : Option (Nat × Bool × Bool) :=
  (ptpInst s i).parent.bind fun a => if (ptpCfg s i).en && a.utcValid then some (a.utc, a.leap61, a.leap59) else none

/-- IRIG-B is VALID (R389). -/
def irigValid (s : State) : Bool := decide (field (rd s Reg.TIM_IRIG_STAT) 31 30 = 2)

/-- The first source that supplies them; with no base selected the instances stand in their order. -/
def utcSource (s : State) : Option (Nat × Bool × Bool) :=
  let i := if selBase s = 2 then 1 else 0
  match utcOfInst s i, utcOfInst s (1 - i) with
  | some x, _ => some x
  | none, some x => some x
  | none, none => if irigValid s then some (s.tim.irigUtc, s.tim.irig61, s.tim.irig59) else none

/-- The UTC offset shown. -/
def utcShown (s : State) : Nat := if s.tim.lsk then s.tim.utc else s.cfg.tim.utc

/-- Take what a source supplies; with none the last values stand. -/
def utcRefresh (s : State) : State :=
  match utcSource s with
  | some (o, a, b) => setTim s fun t => { t with lsk := true, utc := o, leap61 := a, leap59 := b }
  | none => s

/-! ### The quantities shown -/

/-- The fields that follow from the rest: health, holdover, doubt and time quality. A healthy selected base is the reference
from which holdover counts; a module that follows its partner leaves NEVERSYNC once a base of its own is healthy. -/
def timRefresh (s : State) : State :=
  let s1 := utcRefresh s
  let okNow := healthyBase s1 (selBase s1)
  let s2 := if okNow then setTim s1 fun t => { t with lastOk := s1.grid.mono, lastOkSec := s1.grid.now / 1000000000 } else s1
  let never := s2.grid.neverSync && (ownSelection s2 || !(healthyBase s2 1 || healthyBase s2 2))
  let s3 := { s2 with grid := { s2.grid with neverSync := never } }
  let hold := decide (selBase s3 = 0) && !never
  let s4 := wrField (wrField s3 Reg.TIM_STAT 25 24 (bit1 (healthyBase s3 1) 0 + bit1 (healthyBase s3 2) 1)) Reg.TIM_STAT 29 29 (bit1 hold 0)
  let s5 := if hold = inHoldover s then s4 else raise s4 { blk := 0xB, ev := 2, info := [bit1 hold 0] }
  let d := doubtNow s5
  let s6 := if d = flag (rd s Reg.TIM_TQ) 6 then s5 else raise s5 { blk := 0xB, ev := 4, info := [bit1 d 0] }
  let tq := bit1 never 7 + bit1 d 6 + bit1 hold 5 + bit1 s6.tim.lsk 4 + tmqOf s6
  let utc := bit1 s6.tim.lsk 31 + bit1 s6.tim.leap61 30 + bit1 s6.tim.leap59 29 + utcShown s6 % 65536
  let s7 := wr (wr s6 Reg.TIM_TQ (w32 tq)) Reg.TIM_UTC (w32 utc)
  wr (wr s7 Reg.TIM_HO_UNC (w32 (min 0xFFFFFFFF (holdU s7)))) Reg.TIM_HO_AGE
    (w32 (min 0xFFFFFFFF ((s7.grid.mono - s7.tim.lastOk) / 1000000000)))

/-! ### Following a base (R18, R19, R381) -/

/-- The present offset of a base from sequencer time, in thirds of ns. -/
def baseOfs3 (s : State) (b : Nat) : Int := (ptpInst s (b - 1)).abs3 - s.tim.adj3

/-- Sequencer time has to follow a new offset: one step of at most 250 ns at the next boundary, or a slew (R18). -/
def followOfs (s : State) (o : Int) (always : Bool := false) : State :=
  let s1 := setTim s fun t => { t with ofs3 := o }
  if s.grid.slewing ∨ o = 0 ∨ (o.natAbs ≤ 750 ∧ ¬ always) then s1
  else raise { s1 with grid := { s1.grid with slewing := true, slewPpb := if 0 < o then 100000 else -100000 } } { blk := 1, ev := 2, info := [o.natAbs / 3] }

/-- At a frame boundary: an offset of at most 250 ns goes in one step; a slew removes 100 ppm of a frame (R18). -/
def gridAdjust (s : State) : State :=
  let o := s.tim.ofs3
  let step : Int := if s.grid.slewing then max (-125) (min 125 o) else if o.natAbs ≤ 750 then o else 0
  let s1 := setTim s fun t => { t with ofs3 := o - step, adj3 := t.adj3 + step }
  if s.grid.slewing then
    { s1 with grid := { s1.grid with slewPpb := if 0 < o then 100000 else if o < 0 then -100000 else 0 } }
  else s1

/-- The first lock after a start (R19): the current frame takes its nearest TAI number, and the residual offset is slewed. -/
def firstLock (s : State) (b : Nat) : State :=
  let at_ := Int.ofNat (frameStart s.grid.frame) + baseOfs3 s b / 3
  let n := nearestFrame at_.toNat
  let s1 := relabel { s with grid := { s.grid with neverSync := false } } n
  let o := baseOfs3 s1 b
  let s2 := if o = 0 then raise s1 { blk := 1, ev := 2, info := [n] } else recordBare s1 2 { blk := 1, ev := 0, info := [n] }
  followOfs s2 o true

/-- Select a base, or none: holdover (R381, R384). -/
def selectBase (s : State) (b : Nat) : State :=
  let old := selBase s
  if old = b then s
  else
    let s1 := raise (raise (wrField s Reg.TIM_STAT 31 30 b) { blk := 0xB, ev := 1, info := [old, b] }) { blk := 1, ev := 6, info := [old, b] }
    if b = 0 then setTim s1 fun t => { t with ofs3 := 0 }
    else if s.grid.neverSync ∧ ownSelection s then firstLock s1 b
    else followOfs s1 (baseOfs3 s1 b)

/-- A base has become selectable, or is no longer. -/
def okTick (s : State) (b : Nat) : State :=
  let x := ptpInst s (b - 1)
  let ok := selectable s b && !disagreeing s
  if ok = x.okSince.isSome then s else setInst s (b - 1) { x with okSince := if ok then some s.grid.now else none }

/-- The selection follows the state of the bases (R381, R385). -/
def timSelect (s0 : State) : State :=
  let s := okTick (okTick s0 1) 2
  let sel := selBase s
  if !ownSelection s then
    if s.pair.partner.fmarkFrame.isSome ∧ s.pair.partner.base ≤ 2 then selectBase s s.pair.partner.base else s
  else if healthyBase s sel then s
  else
    let pref := if s.cfg.tim.pref then 2 else 1
    let first := if sel = 0 then pref else 3 - sel
    let other := if sel = 0 then 3 - pref else 0
    if selectable s first then selectBase s first
    else if selectable s other then selectBase s other
    else selectBase s 0

/-- The freeze's share: the offset, a follower's base, and what follows from time (R18, R384, R385). -/
def timFreeze (s : State) : State := timRefresh (timSelect (gridAdjust s))

/-- The image applied at CONFIGURE: IRIG-B in use starts to search, and the estimate in MRAM is the starting one (R380, R389). -/
def timStart (s : State) : State :=
  let s1 := setTim s fun t => { t with freq := t.mram.freq }
  timRefresh (wr (wrField s1 Reg.TIM_IRIG_STAT 31 30 (bit1 s.cfg.tim.irig 0)) Reg.TIM_HO_FREQ (i32 s1.tim.freq))

/-! ### Launch queues (R393, R394). Ports 0–3 are SB-A, SB-B, PB-A, PB-B; port 4 + p is chain port p. -/

/-- The queue of a port. -/
def launchQ (s : State) (p : Nat) : LaunchQ := tget {} s.tim.lq p
def setLaunchQ (s : State) (p : Nat) (q : LaunchQ) : State := setTim s fun t => { t with lq := tset {} t.lq p q }

/-- Entry a launches before entry b, which stood in the queue already. -/
def LaunchEnt.before (a b : LaunchEnt) : Bool :=
  if a.prompt ≠ b.prompt then a.prompt
  else decide (a.time < b.time) || (decide (a.time = b.time) && decide (b.prio < a.prio))

/-- An entry takes its place. -/
def launchPlace (a : LaunchEnt) : List LaunchEnt → List LaunchEnt
  | [] => [a]
  | b :: bs => if a.before b then a :: b :: bs else b :: launchPlace a bs

/-- An entry is queued; a full queue refuses it. -/
def enqueue (s : State) (p : Nat) (a : LaunchEnt) : State :=
  let q := launchQ s p
  if 512 ≤ q.ents.length then recordBare (addField s Reg.TIM_LQ_CNT 7 0 1) 1 { blk := 0xB, ev := 0, info := [p] }
  else
    let es := launchPlace a q.ents
    setLaunchQ s p { ents := es, headAt := if es.head? = q.ents.head? then q.headAt else s.grid.now }

/-- On loss of the grant the control-class entries are discarded. -/
def dropControl (s : State) : State :=
  s.tim.lq.foldl (fun u e =>
    let keep := e.2.ents.filter fun x => !x.ctrl
    let u1 := addField u Reg.TIM_LQ_CNT 15 8 (e.2.ents.length - keep.length)
    setLaunchQ u1 e.1 { ents := keep, headAt := if keep.head? = e.2.ents.head? then e.2.headAt else u.grid.now }) s

end Sys2Proof.Machine
end

