-- ==== Sys2Proof/Machine/Pair.lean ====
section
/-! DEFINITION. Roles, the clasp lines, takeovers and switchovers (R227–R249). -/

namespace Sys2Proof.Machine

open Sys2Proof

/-! ### Joining (R230) -/

/-- The partner leads or joins with another image, compatibility level, or on the same side (R230, R514). -/
def joinMismatch (s : State) : Bool :=
  let q := s.pair.partner
  q.reported && (decide (q.role = 1) || decide (q.role = 2) || q.inJoin)
    && (decide (q.image ≠ s.cfg.id) || decide (q.pcl ≠ ownPcl s) || decide (q.sideB = s.pair.sideB))

/-- The join wait has ended (R230, step 3). -/
def joinWaited (s : State) : Bool :=
  match s.pair.joinSince with
  | some f => decide (s.cfg.joinwait ≤ s.grid.frame - f)
  | none => false

/-- The module in JOIN may take SOLO with the grant (R230, steps 2, 3 and 5). -/
def mayLead (s : State) : Bool :=
  let q := s.pair.partner
  if q.reported then true else !s.pair.present || joinWaited s

/-- The decision of R230 on what is known now. -/
def decideJoin (s : State) : State :=
  let p := s.pair
  if stage s ≠ 4 ∨ p.role ≠ .offline ∨ p.joinSince = none ∨ s.slot.removal = true then s
  else if joinMismatch s then
    if p.joinHeld then s
    else recordBare (setPair s fun x => { x with joinHeld := true, lines := { x.lines with ready := false } }) 2
      { blk := 7, ev := 0, info := [p.partner.image, p.partner.pcl, bit1 p.partner.sideB 0] }
  else if p.partner.reported ∧ (p.partner.role = 1 ∨ p.partner.role = 2) then requestRole s .learning 2
  else if p.granted && mayLead s then requestRole s .solo 1
  else s

/-- JOIN is entered: READY rises and the wait begins (R230). -/
def enterJoin (s : State) : State :=
  decideJoin (setPair (enterStage s 4) fun p => { p with
    joinSince := some s.grid.frame, joinHeld := false, rejoinAt := none, retryAt := none, hbStopped := p.killq
    lines := { p.lines with ready := true } })

/-- JOIN_DECISION (R230). -/
def execJoinDecision (t : Nat) (s0 : State) : Out :=
  let s := atTime s0 t
  if stage s = 4 ∧ s.pair.role = .offline ∧ s.pair.learnFail < 3 ∧ s.pair.retryAt = none ∧ s.pair.rejoinAt = none ∧ s.slot.removal = false then
    if s.pair.joinSince = none then done (enterJoin s) else done (decideJoin s)
  else done s

/-- The join wait ends without a report of the partner (R230, step 3). -/
def execJoinWaitExpiry (t : Nat) (s0 : State) : Out := done (decideJoin (atTime s0 t))

/-! ### The partner's reports -/

/-- A role report of the partner is taken (R229, R230, R206). -/
def partnerReported (s : State) (r : PartnerReport) : State :=
  let old := s.pair.partner
  let s1 := setPair s fun p => { p with partner := { p.partner with
    role := r.role, inJoin := r.inJoin, reported := true, image := r.image, pcl := r.pcl, sideB := r.sideB } }
  let s2 := if r.role = 0 ∧ old.role ≠ 0 ∧ old.reported then raise s1 { blk := 7, ev := 8 } else s1
  let s3 := if old.role = 3 ∧ r.role ≠ 3 then autoDisarm s2 2 else s2
  match s3.pair.role with
  | .active => if r.role = 0 then requestRole s3 .solo 13 else s3
  | .solo => if r.role = 4 then requestRole s3 .active 12 else s3
  | .offline => decideJoin s3
  | _ => if r.role = 1 ∧ old.role ≠ 1 then reLearn s3 7 else s3

/-! ### The clasp lines (R236, R243–R245) -/

/-- Own GRANT asserted. -/
def PairLines.granted (l : PairLines) : Bool := l.grant && !l.grantN
/-- KILL asserted. -/
def PairLines.killed (l : PairLines) : Bool := l.kill && !l.killN

/-- The clasp is declared failed (R243). -/
def failClasp (s : State) (cause : Nat) : State :=
  let s1 := setPair s fun p => { p with claspFail := true, claspFrame := s.grid.frame }
  let s2 := addField (wrField s1 Reg.PAIR_CLASP_STAT 31 28 cause) Reg.PAIR_CLASP_STAT 15 0 1
  raise s2 { blk := 7, ev := 6, sev := some 2, info := [cause] }

/-- A kill state ends: a qualified one lets the module restart, a shorter one is a glitch (R229, R236). -/
def killEnds (s : State) : State :=
  let s1 := setPair s fun p => { p with killAt := none, killq := false }
  if s.pair.killq then setPair s1 fun p => { p with restartDue := some (p.restartDue.getD 7) }
  else raise (addField s1 Reg.PAIR_KILL_CNT 15 0 1) { blk := 7, ev := 5 }

/-- Instant t lies within 100 µs after the boundary of the announced handover frame (R236). -/
def atHandover (s : State) (t : Nat) (outgoing : Bool) : Bool :=
  match s.pair.sw with
  | some w => decide (w.outgoing = outgoing) && decide (frameStart w.h ≤ t) && decide (t ≤ frameStart w.h + 100000)
  | none => false

/-- The own GRANT rises with PGRANT low (R236). -/
def grantGained (s : State) (t : Nat) : State :=
  let p := s.pair
  if p.lines.ready && (decide (t - p.pgrantAt ≤ 100000) || lasts (t - p.pgrantAt) 1) then
    let s1 := setPair s fun x => { x with granted := true, grantAt := t }
    match p.role with
    | .standby =>
      if atHandover s t false then s1
      else onGrant (setPair s1 fun x => { x with unplanned := true, grantLatch := true }) t
    | .offline => decideJoin s1
    | _ => s1
  else failClasp s 5

/-- The own GRANT falls (R236): with KILL, or at the boundary of an announced handover frame. Any other fall fails the clasp, and
the module then ignores it (R244). -/
def grantLost (s : State) (t : Nat) : State :=
  if s.pair.lines.killed || (atHandover s t true && s.pair.lines.yield) then
    dropControl (setPair s fun x => { x with granted := false, grantLostAt := t, unplanned := false })
  else failClasp s 5

/-- The lines change at instant t and are judged, unless the clasp is failed (R236, R244). -/
def seeLines (s0 : State) (l : ClaspLines) (t : Nat) : State :=
  let s := atTime s0 t
  let p := s.pair
  let new := { p.lines with grant := l.grant, grantN := l.grantN, kill := l.kill, killN := l.killN, pgrant := l.pgrant }
  let s1 := setPair s fun x => { x with lines := new, pgrantAt := if l.pgrant = p.lines.pgrant then p.pgrantAt else t }
  if p.claspFail then s1
  else
    let s2 := if new.killed && !p.lines.killed then setPair s1 fun x => { x with killAt := some t }
      else if p.lines.killed && !new.killed then killEnds s1 else s1
    if new.granted && new.pgrant && !(p.lines.granted && p.lines.pgrant) then failClasp s2 4
    else if new.granted && !p.lines.granted then grantGained s2 t
    else if p.lines.granted && !new.granted then grantLost s2 t
    else s2

/-- GRANT, GRANT_N or PGRANT changes (R236). -/
def execGrantLineChange (l : ClaspLines) (t : Nat) (s : State) : Out := done (seeLines s l t)

/-- KILL or KILL_N changes (R236). -/
def execKillLineChange (l : ClaspLines) (t : Nat) (s : State) : Out := done (seeLines s l t)

/-- A kill state held one frame with the own GRANT deasserted is qualified (R236). -/
def execKillQualified (t : Nat) (s0 : State) : Out :=
  let s := atTime s0 t
  let p := s.pair
  match p.killAt with
  | none => done s
  | some k =>
    if !p.claspFail ∧ !p.killq ∧ p.lines.killed ∧ !p.lines.granted ∧ lasts (t - max k p.grantLostAt) 1 then
      let s1 := setPair s fun x => { x with killq := true, gatesOff := true, hbStopped := true, sw := none }
      let s2 := raise (addField s1 Reg.PAIR_KILL_CNT 31 16 1) { blk := 7, ev := 4 }
      done (requestRole (startFlush s2 3) .offline 14)
    else done s

/-- A condition of R243 holds on the lines as they stand; conditions 1 and 5 are seen by the hardware alone. -/
def claspCondition (s : State) (cause t : Nat) : Bool :=
  let l := s.pair.lines
  match cause with
  | 1 => true
  | 2 => decide (l.grant = l.grantN)
  | 3 => decide (l.kill = l.killN)
  | 4 => l.granted && l.pgrant
  | 5 => true
  | 6 => l.killed && l.granted && (match s.pair.killAt with
      | some k => lasts (t - k) 1
      | none => false)
  | _ => false

/-- CLASP_FAIL (R243). A condition that goes on keeps the failure from clearing. -/
def execClaspFail (cause t : Nat) (s0 : State) : Out :=
  let s := atTime s0 t
  if claspCondition s cause t then
    if s.pair.claspFail then done (setPair s fun p => { p with claspFrame := s.grid.frame })
    else done (failClasp s cause)
  else done s

/-- CLASP_FAIL_CLEAR (R245). -/
def execClaspFailClear (t : Nat) (s0 : State) : Out :=
  let s := atTime s0 t
  let p := s.pair
  if p.claspFail ∧ p.claspFrame + 2400 ≤ s.grid.frame ∧ p.lines.granted = p.role.leads then
    done (raise (setPair s fun x => { x with claspFail := false, granted := p.lines.granted }) { blk := 7, ev := 7 })
  else done s

/-! ### Takeovers (R229, R237) -/

/-- The last switchover is shown (PAIR_LAST_SW). -/
def showSwitch (s : State) (kind gap : Nat) (partnerLeads : Bool) : State :=
  wr s Reg.PAIR_LAST_SW (w32 (kind * 2 ^ 29 + bit1 partnerLeads 28 + min gap (2 ^ 18 - 1)))

/-- An unplanned takeover is counted, with its gap in µs. -/
def countTakeover (s : State) (kind gap : Nat) : State :=
  let s1 := peakField (addField (showSwitch s kind gap false) Reg.PAIR_SW_CNT 31 16 1) Reg.PAIR_GAP_MAX 17 0 gap
  raise s1 { blk := 7, ev := 1, info := [kind, gap] }

/-- TAKEOVER at the boundary: the sealed image is released to the distribute role (R237). Partitions that lagged go on from
their state of the frame before, recorded (R273). -/
def execTakeover (gap t : Nat) (s0 : State) : Out :=
  let s := atTime s0 t
  let p := s.pair
  if p.role = .standby ∧ p.granted ∧ p.unplanned ∧ !p.claspFail ∧ p.grantAt + 50000 ≤ s.grid.freezeAt then
    let s1 := { s with sig := { s.sig with distribute := s.sig.committed } }
    let s2 := takeRole (setPair s1 fun x => { x with unplanned := false, sw := none, next := none }) .active 8
    let s3 := p.align.lag.foldl (fun u q => recordBare u 3 { blk := 7, ev := 0, part := q, info := [q] }) s2
    done (onLead (countTakeover s3 1 gap) s.grid.frame)
  else done s

/-- WARM_TAKEOVER: a LEARNING or DETACHED module with the grant makes a warm restart and becomes ACTIVE (R229, R273). -/
def execWarmTakeover (gap t : Nat) (s0 : State) : Out :=
  let s := atTime s0 t
  let p := s.pair
  if (p.role = .learning ∨ p.role = .detached) ∧ p.granted ∧ !p.claspFail then
    let s1 := takeRole (setPair (warmInPlace s) fun x => { x with next := none, rejoinAt := none }) .active 4
    done (onLead (countTakeover (reachRun s1) 6 gap) s.grid.frame)
  else done s

/-! ### Switchovers (R240–R242) -/

/-- A write of PAIR_CMD: a wrong KEY is refused with code 7 (R249). -/
def pairKeyed (s : State) (c : Cmd) (f : State → State) : State :=
  written s Reg.PAIR_CMD c fun t =>
    if field c.value 31 16 = 0x5A3C then f t else wrField (keyWrong t Reg.PAIR_CMD c.value) Reg.PAIR_STAT 19 16 7

/-- PAIR_CMD.SWITCH (R240). -/
def execPairSwitch (c : Cmd) (s : State) : Out :=
  done (pairKeyed s c fun t =>
    if !flag c.value 0 then t
    else if !hasRole t c.session 2 then refuseSwitch t 8 c.session
    else if switchRefusal t 3 ≠ 0 then refuseSwitch t (switchRefusal t 3) c.session
    else startSwitch (accepted t Reg.PAIR_CMD c) 3 false)

/-- A switchover ends without the move: YIELD drops and both roles stand (R240, step 5; step 2 for code 1). One by the lever
is then refused (R242). -/
def abortSwitch (s : State) (code : Nat) : State :=
  let lever := s.pair.sw.any fun w => decide (w.kind = 4)
  let s1 := if lever then { s with slot := { s.slot with removal := false, faultFlash := true, unlatchAt := some s.grid.mono } } else s
  refuseSwitch (setPair s1 fun p => { p with sw := none, lines := { p.lines with yield := false } }) code 0

/-- The partner has not confirmed h by the end of frame k + 1 (R240, step 2). -/
def switchTick (s : State) : State :=
  match s.pair.sw with
  | some w => if w.outgoing && !w.confirmed && decide (w.start + 2 ≤ s.grid.frame) then abortSwitch s 1 else s
  | none => s

/-- After the commit of frame h − 1 the outgoing module raises YIELD (R240, step 3). -/
def raiseYield (s : State) : State :=
  match s.pair.sw with
  | some w =>
    if w.outgoing && w.confirmed && decide (s.grid.frame + 1 = w.h) then
      setPair s fun p => { p with lines := { p.lines with yield := true } } else s
  | none => s

/-- The move of the grant was seen: the roles change as of boundary h (R240, steps 5 and 6). -/
def completeSwitch (s : State) (w : Switchover) : State :=
  let s1 := setPair s fun p => { p with
    sw := none, next := none, ho := some { h := w.h, outgoing := w.outgoing }, lines := { p.lines with yield := false } }
  let s2 := addField (showSwitch s1 w.kind 0 w.outgoing) Reg.PAIR_SW_CNT 15 0 1
  let s3 := raise s2 { blk := 7, ev := 2, info := [w.kind], stamp := some s.grid.freezeAt }
  if w.outgoing then
    if w.kind = 3 then onYieldLead (takeRoleAt s3 .standby 9 w.h) w.h
    else
      let s4 := onYieldLead (takeRoleAt (if w.kind = 5 then s3 else markLifeDrop s3) .offline 9 w.h) w.h
      if w.restart then setPair s4 fun p => { p with restartDue := some (if w.kind = 5 then 2 else 7), hbStopped := true } else s4
  else onLead (takeRoleAt s3 .active 9 w.h) (w.h + 1)

/-- SWITCHOVER_EVAL, 100 µs after the freeze of h (R240, step 5). -/
def execSwitchoverEval (t : Nat) (s0 : State) : Out :=
  let s := atTime s0 t
  match s.pair.sw with
  | none => done s
  | some w =>
    if s.grid.frame ≠ w.h ∨ t < s.grid.freezeAt + 100000 then done s
    else
      let l := s.pair.lines
      let moved := if w.outgoing then !l.granted && l.pgrant else l.granted && !l.pgrant
      if moved && !s.pair.claspFail && w.confirmed then done (completeSwitch s w)
      else done (abortSwitch s (if w.kind = 2 ∧ s.pair.partner.role ≠ 3 then 1 else 3))

/-! ### Commands and counters -/

/-- PAIR_CMD.REJOIN (R232). -/
def execPairRejoin (c : Cmd) (s : State) : Out :=
  done (pairKeyed s c fun t =>
    if !flag c.value 1 then t
    else
      let fails := t.pair.learnFail
      let t1 := wrField (setPair (accepted t Reg.PAIR_CMD c) fun p => { p with learnFail := 0 }) Reg.PAIR_HM_STAT 29 29 0
      match t.pair.role with
      | .offline => if fails = 3 ∧ stage t = 4 then enterJoin t1 else t1
      | .standby => reLearn t1 7
      | .learning => reLearn t1 7
      | _ => t1)

/-- PAIR_CMD.CLR_CNT (R249, R277). -/
def execPairClrCnt (c : Cmd) (s : State) : Out :=
  done (pairKeyed s c fun t =>
    if !flag c.value 2 then t
    else
      let t1 := zeroRegs t [Reg.PAIR_SW_CNT, Reg.PAIR_GAP_MAX, Reg.PAIR_KILL_CNT, Reg.PAIR_LINK_CNT, Reg.PAIR_ALIGN_CNT,
        Reg.PAIR_HM_CNT]
      cleared (wrField t1 Reg.PAIR_CLASP_STAT 15 0 0) Reg.PAIR_CMD c.session)

/-! ### Learning attempts and the link (R229, R231, R232) -/

/-- A learning attempt fails (R232). -/
def learnFails (s : State) : State :=
  let n := min 3 (s.pair.learnFail + 1)
  let s1 := setPair s fun p => { p with
    learnFail := n, learn := { p.learn with phase := 7, running := false }
    retryAt := if n < 3 then some (s.grid.frame + 2400) else none
    joinSince := none }
  requestRole (raise (enterStage s1 4) { blk := 7, ev := 9, info := [n] }) .offline 5

/-- LEARN_TIMEOUT: an attempt not complete within 14,400 frames fails. -/
def execLearnTimeout (t : Nat) (s0 : State) : Out :=
  let s := atTime s0 t
  if s.pair.role = .learning ∧ s.pair.learn.start + 14400 < s.grid.frame ∧ s.pair.next = none then done (learnFails s) else done s

/-- JOIN_RETRY, 2,400 frames after the failure. -/
def execJoinRetry (t : Nat) (s0 : State) : Out :=
  let s := atTime s0 t
  match s.pair.retryAt with
  | some f => if f ≤ s.grid.frame ∧ s.pair.role = .offline then done (enterJoin s) else done s
  | none => done s

/-- RE_LEARN: the module re-enters JOIN in the frame after it entered OFFLINE (R263). -/
def execReLearn (t : Nat) (s0 : State) : Out :=
  let s := atTime s0 t
  match s.pair.rejoinAt with
  | some f =>
    if f ≤ s.grid.frame ∧ s.pair.role = .offline then
      done (enterJoin (initRun (wrField s Reg.UPD_START 31 28 5)))
    else done s
  | none => done s

/-- TOKEL_LINK_LOST: a lane loses lock or misses FMARKs, and the link with it (R252). -/
def execTokelLinkLost (lane t : Nat) (s0 : State) : Out :=
  let s := atTime s0 t
  if 4 ≤ lane ∨ !s.pair.linkUp then done s
  else
    let s1 := setPair s fun p => { p with
      linkUp := false, upFrames := 0, lanesIn := p.lanesIn.filter (· ≠ lane)
      lostAt := if p.role = .standby then some s.grid.frame else none }
    let s2 := raiseA (addField s1 Reg.PAIR_LINK_CNT 15 0 1) 4 [lane]
    done (autoDisarm s2 3)

/-- DETACH_WAIT_END: 8 frames after the loss (R231). -/
def execDetachWaitEnd (t : Nat) (s0 : State) : Out :=
  let s := atTime s0 t
  match s.pair.lostAt with
  | some f =>
    if s.pair.role = .standby ∧ f + 8 ≤ s.grid.frame ∧ !s.pair.granted then
      let s1 := setPair s fun p => { p with lostAt := none }
      if s.pair.linkUp then done s1 else done (requestRole s1 .detached 10)
    else done s
  | none => done s

/-- LINK_UP_COUNT: the link has been up 240 frames and a DETACHED module learns (R229). -/
def execLinkUpCount (t : Nat) (s0 : State) : Out :=
  let s := atTime s0 t
  if s.pair.role = .detached ∧ 240 ≤ s.pair.upFrames then done (requestRole s .learning 11) else done s

/-- A change of role due at the frame boundary takes effect (R229). -/
def applyRole (s : State) : State :=
  match s.pair.next with
  | none => s
  | some (r, cause) =>
    let old := s.pair.role
    let s1 := takeRole (setPair s fun p => { p with next := none }) r cause
    if r.leads && !old.leads then onLead s1 s.grid.frame
    else if old.leads && !r.leads then onYieldLead s1 s.grid.frame
    else s1

end Sys2Proof.Machine
end

