-- ==== Sys2Proof/Machine/Ingress.lean ====
section
/-! DEFINITION. The sampled-value ingress (R142–R160). -/

namespace Sys2Proof.Machine

open Sys2Proof

/-! ### Ticks and formats (R16, R142) -/

/-- Sample ticks in a second, and in a frame. -/
def ticksPerSec (s : State) : Nat := if s.cfg.highrate then 14400 else 4800
def ticksPerFrame (s : State) : Nat := if s.cfg.highrate then 6 else 2

/-- The start of an absolute tick. -/
def tickStart (s : State) (n : Nat) : Nat :=
  if s.cfg.highrate then n / 14400 * 1000000000 + n % 14400 * 625000 / 9 else n / 4800 * 1000000000 + n % 4800 * 625000 / 3

/-- The absolute tick in which an instant lies. -/
def tickAt (s : State) (t : Nat) : Nat :=
  let r := t % 1000000000
  if s.cfg.highrate then t / 1000000000 * 14400 + (9 * r + 8) / 625000 else t / 1000000000 * 4800 + (3 * r + 2) / 625000

/-- Samples per second of a format, and ASDUs per message. -/
def svRate (f : Nat) : Nat := if f = 3 then 14400 else if f = 5 then 4000 else 4800
def svAsdus (f : Nat) : Nat := if f = 2 then 2 else if f = 3 then 6 else 1

/-- The depth of the rings (R149). -/
def ringDepth (s : State) : Nat := if s.cfg.highrate then 768 else 256

/-- The subscriptions in force. -/
def svCfg (s : State) (k : Nat) : SvCfg := (look s.cfg.sv k).getD {}

/-- A stream's state; an unsubscribed one has none. -/
def svStream (s : State) (k : Nat) : Option SvStream := tget none s.svi.streams k
def setSvi (s : State) (f : SviState → SviState) : State := { s with svi := f s.svi }
def setStream (s : State) (k : Nat) (x : SvStream) : State := setSvi s fun v => { v with streams := tset none v.streams k (some x) }

/-- smpSynch counts as synchronised (R157). -/
def svSynced (v : Nat) : Bool := decide (v = 1) || decide (v = 2) || (decide (5 ≤ v) && decide (v ≤ 254))

/-- The instant of a sample in the stream's own numbering (R147). -/
def svInstant (s : State) (c : SvCfg) (n : Nat) : Nat :=
  if c.format = 5 then n / 4000 * 1000000000 + n % 4000 * 250000 else tickStart s n

/-- The sample interval of the stream in which an instant lies. -/
def svArrival (s : State) (c : SvCfg) (t : Nat) : Nat :=
  if c.format = 5 then t / 1000000000 * 4000 + t % 1000000000 / 250000 else tickAt s t

/-- The tick of the deadline of sample n (R151, R154). -/
def svDeadline (c : SvCfg) (n : Nat) : Nat := (if c.format = 5 then (6 * n + 4) / 5 else n) + c.deadline

/-- The N congruent to cnt that lies nearest to T, the earlier of two (R147). -/
def svNearest (rate t cnt : Nat) : Nat :=
  let d := (cnt % rate + rate - t % rate) % rate
  if 2 * d < rate then t + d else t + d - rate

/-! ### State changes (R155, R156) -/

/-- The status endpoints of a stream: module status with tag 0x06 (R156). -/
def svEndpoints (s : State) (k : Nat) : List Nat :=
  endpointsWith s fun _ e => decide (btype e = 0xD) && decide (daddr e / 2 ^ 32 = 6) && decide (daddr e % 256 = k)

/-- The status tetrad of a stream (R156). -/
def svStatus (s : State) (k : Nat) : Tetrad :=
  let o := (svCfg s k).sim
  match svStream s k with
  | none => 0x7#4
  | some x =>
    match x.state with
    | 2 => mkTet 2 x.unsync o
    | 5 => mkTet 3 true o
    | _ => mkTet 1 true o

/-- A stream enters a state; GAP, LOST, ERROR and the return to OK are recorded (R155). -/
def svEnter (s : State) (k : Nat) (x : SvStream) (st t : Nat) : State :=
  if x.state = st then setStream s k x
  else
    let s1 := setStream s k { x with state := st, since := t }
    let s2 := if x.state = 4 then { s1 with sig := { s1.sig with lost := (svEndpoints s1 k).foldl (fun l ep => tset false l ep false) s1.sig.lost } } else s1
    match st with
    | 3 => raise s2 { blk := 6, ev := 1, info := [k] }
    | 4 => loseSource (raise s2 { blk := 6, ev := 3, info := [k] }) (svEndpoints s k) t
    | 5 => raise s2 { blk := 6, ev := 4, info := [k, x.err] }
    | 2 => if x.state = 1 then s2 else raise s2 { blk := 6, ev := 2, info := [k] }
    | _ => s2

/-- A gap begins; while WAITING none does (R151). -/
def svGap (s : State) (k : Nat) (x : SvStream) (t : Nat) : State :=
  if x.state = 1 ∨ x.inGap then setStream s k x
  else
    let y := { x with inGap := true, gaps := satAdd 0xFFFFFFFF x.gaps 1, runlen := 0 }
    if x.state = 2 then svEnter s k y 3 t else setStream s k y

/-- A stream is anchored or re-anchored, or common anchoring ends (R148, R158): counted, recorded, and a gap starts. -/
def svAnchor (s : State) (k : Nat) (x : SvStream) (kind : Nat) (offs : Int) (t : Nat) : State :=
  let y := { x with anch := kind, offs := offs, anchors := satAdd 0xFFFFFFFF x.anchors 1, lates := 0, ring := [] }
  svGap (raise (setStream s k y) { blk := 6, ev := 5, info := [k] }) k y t

/-! ### Messages (R145–R150) -/

/-- The subscription of a message. -/
def svMatch (s : State) (m : SvMsg) : Option Nat :=
  (s.cfg.sv.find? fun e => decide (e.2.mac = m.mac) && decide (e.2.appid = m.appid) && decide (e.2.svid = m.svid)
    && (svStream s e.1).isSome).map (·.1)

/-- The cause for which a matched message is discarded; 0 none (R145, R146). -/
def svCause (c : SvCfg) (m : SvMsg) : Nat :=
  if m.asdus.any (fun a => decide (a.confRev ≠ c.confRev)) then 1
  else if !m.encOk ∨ m.asdus.length ≠ svAsdus c.format ∨ m.asdus.any (fun a => decide (a.chans.length ≠ 8)) then 2
  else if m.asdus.any (fun a => decide (svRate c.format ≤ a.smpCnt)) then 3
  else if m.sec ≠ 0 then 4
  else if m.sim ≠ c.sim then 5 else 0

/-- A channel of a received sample: binary32 in primary units and its quality word (R143, R146, R157). -/
def svChan (c : SvCfg) (sync : Bool) (i : Nat) (v : Int × Nat) : Word × Qual :=
  (word32 (frac v.1 (if i < 4 then 1000 else 100)),
    BitVec.ofNat 16 (Nat.lor (v.2 % 8192) (bit1 c.sim 11 + bit1 (!sync) 13)))

/-- One sample is placed (R147–R151). -/
def svPlace (s : State) (k : Nat) (t : Nat) (a : SvAsdu) : State :=
  match svStream s k with
  | none => s
  | some x =>
    let c := svCfg s k
    let rate := svRate c.format
    let arr := svArrival s c t
    let cnt := if x.anch = 0 then a.smpCnt else ((Int.ofNat a.smpCnt + x.offs) % Int.ofNat rate).toNat
    let n := svNearest rate arr cnt
    let again := fun (u : State) (y : SvStream) => svAnchor u k y 1 (Int.ofNat arr - 1 - Int.ofNat a.smpCnt) t
    if arr + 1 < n then
      let y := { x with early := satAdd 0xFFFF x.early 1 }
      if x.anch = 1 then again s y else setStream s k y
    else if tickStart s (svDeadline c n) ≤ t then
      let y := { x with late := satAdd 0xFFFF x.late 1, lates := x.lates + 1 }
      if x.anch = 1 ∧ 2 ≤ y.lates then again s y else setStream s k y
    else
      let i := n % ringDepth s
      if (tget none x.ring i).any (fun z => decide (z.n = n) && decide (z.st = 0)) then
        setStream s k { x with lates := 0, dup := satAdd 0xFFFFFFFF x.dup 1 }
      else
        let z : SvSlot := { n := n, at0 := t, st := 0, synch := a.smpSynch, chans := a.chans.zipIdx.map fun p => svChan c (svSynced a.smpSynch) p.2 p.1 }
        let lag := min 0xFFFF ((t - svInstant s c n) / 1000)
        setStream s k { x with
          lates := 0, ring := tset none x.ring i (some z), lastSynch := a.smpSynch, lastCnt := a.smpCnt
          lag := lag, lagPeak := max x.lagPeak lag }

/-- A change between synchronised and unsynchronised, and common anchoring (R148, R157). -/
def svAnchoring (s : State) (k : Nat) (m : SvMsg) (t : Nat) : State :=
  match svStream s k, m.asdus.getLast? with
  | some x, some a =>
    let offs := Int.ofNat (svArrival s (svCfg s k) t) - 1 - Int.ofNat a.smpCnt
    if !svSynced a.smpSynch then (if x.anch = 1 then s else svAnchor s k x 1 offs t)
    else if s.grid.neverSync then
      if x.anch = 2 then s
      else
        let common := s.svi.common.getD offs
        svAnchor (wrField (wr (setSvi s fun v => { v with common := some common }) Reg.SVI_ANCHOR (i32 common)) Reg.SVI_STAT 30 30 1)
          k x 2 common t
    else if x.anch = 2 then
      svAnchor (wrField (setSvi s fun v => { v with common := none }) Reg.SVI_STAT 30 30 0) k x 0 0 t
    else if x.anch = 1 then setStream s k { x with anch := 0, offs := 0 }
    else s
  | _, _ => s

/-- SV_MESSAGE with its arrival timestamp. -/
def execSvMessage (m : SvMsg) (t : Nat) (s0 : State) : Out :=
  let s := atTime s0 t
  if !s.svi.run then done s
  else
    match svMatch s m with
    | none => done (bump s Reg.SVI_DROP_CNT)
    | some k =>
      match svStream s k with
      | none => done s
      | some x =>
        let cause := svCause (svCfg s k) m
        if cause ≠ 0 then
          done (bump (setStream s k { x with err := cause, errSince := some (x.errSince.getD t) }) Reg.SVI_FMT_CNT)
        else
          let s1 := setSvi (setStream s k { x with errSince := none }) fun v => { v with rxSec := v.rxSec + 1 }
          let s2 := svAnchoring s1 k m t
          done (m.asdus.foldl (fun u a => svPlace u k t a) s2)

/-- STREAM_LOSS_TIMEOUT: GAP or WAITING has lasted the loss time. -/
def execStreamLossTimeout (k t : Nat) (s0 : State) : Out :=
  let s := atTime s0 t
  match svStream s k with
  | some x =>
    if (x.state = 1 ∨ x.state = 3) ∧ x.since + (svCfg s k).lostms * 1000000 ≤ t then done (svEnter s k x 4 t) else done s
  | none => done s

/-- STREAM_ERROR_TIMEOUT: a cause of R145 has persisted for the loss time. -/
def execStreamErrorTimeout (k t : Nat) (s0 : State) : Out :=
  let s := atTime s0 t
  match svStream s k with
  | some x =>
    if x.state ≠ 5 ∧ (x.errSince.any fun e => decide (e + (svCfg s k).lostms * 1000000 ≤ t)) then done (svEnter s k x 5 t) else done s
  | none => done s

/-! ### Release (R151, R152, R154) -/

/-- Slot n of a ring. -/
def slotOf (s : State) (r : Tbl (Option SvSlot)) (n : Nat) : Option SvSlot :=
  (tget none r (n % ringDepth s)).filter fun z => decide (z.n = n)

/-- The rank of a VALID (R48). -/
def validRank (q : Qual) : Nat := if qvalid q = 0 then 0 else if qvalid q = 3 then 1 else 2
/-- The worst VALID of several words and the OR of their other bits (R152, R175). -/
def worstQual (qs : List Qual) : Qual :=
  let r := qs.foldl (fun m q => max m (validRank q)) 0
  let v : Qual := if r = 0 then 0 else if r = 1 then 3 else 1
  (qs.foldl (fun m q => m ||| (q &&& 0xFFFC#16)) 0) ||| v

/-- A missing slot: 0.0, VALID invalid and OLD in every channel. -/
def missingSlot (n : Nat) : SvSlot := { n := n, st := 2, chans := List.replicate 8 (0, 0x0081#16) }

/-- An interpolated slot (R151, R152). -/
def interpSlot (n : Nat) (a b : SvSlot) : SvSlot :=
  { n := n, st := 1, synch := a.synch
    chans := (a.chans.zip b.chans).map fun p =>
      (word32 (((fracOf p.1.1).add (fracOf p.2.1)).mul (frac 1 2)), worstQual [p.1.2, p.2.2] ||| 0x8000#16) }

/-- The release of sample n in the stream's own numbering. -/
def svRelease (s : State) (k n t : Nat) : State :=
  match svStream s k with
  | none => s
  | some x =>
    if n < x.first then s
    else
      let i := n % ringDepth s
      let native := (svCfg s k).format ≠ 5
      match slotOf s x.ring n, slotOf s x.ring (n - 1), slotOf s x.ring (n + 1) with
      | some z, _, _ =>
        if z.st = 0 then
          let y := { x with
            inGap := false, runlen := satAdd 0xFFFF x.runlen 1, unsync := !svSynced z.synch
            shown := if native then some z else x.shown }
          svEnter s k y 2 t
        else s
      | none, p, q =>
        let mk := fun (u : State) =>
          let z := missingSlot n
          let y := { x with ring := tset none x.ring i (some z), shown := if native then some z else x.shown }
          if x.state = 1 then setStream u k y
          else svGap u k { y with miss := satAdd 0xFFFFFFFF x.miss 1 } t
        match p, q with
        | some a, some b =>
          if a.st = 0 ∧ b.st = 0 ∧ n ≠ 0 then
            let z := interpSlot n a b
            raise (setStream s k { x with
              ring := tset none x.ring i (some z), interp := satAdd 0xFFFFFFFF x.interp 1, runlen := satAdd 0xFFFF x.runlen 1
              shown := if native then some z else x.shown }) { blk := 6, ev := 0, info := [k, n] }
          else mk s
        | _, _ => mk s

/-- The inputs of an output slot of format 5: instants within ±1,250 µs of tick j (R154). -/
def rsInputs (s : State) (j : Nat) : List Nat :=
  let t := tickStart s j
  let lo := (t - 1250000 + 249999) / 250000
  let hi := (t + 1250000) / 250000
  (upto (hi + 1 - lo)).map (· + lo)

/-- Output slot j of a format 5 stream. The coefficient table is fixed in firmware, so the values are free. -/
def svResample (s : State) (k j : Nat) : State :=
  match svStream s k with
  | none => s
  | some x =>
    let zs := (rsInputs s j).map (slotOf s x.ring)
    let bad := zs.any fun z => z.all fun v => decide (v.st = 2)
    let put := fun (u : State) (z : SvSlot) => setStream u k { x with out := tset none x.out (j % ringDepth s) (some z), shown := some z }
    if bad then put s (missingSlot j)
    else
      let got := zs.filterMap id
      let interp : Qual := if got.any (fun z => decide (z.st = 1)) then 0x8000#16 else 0
      let synch := ((got.getLast?).map (·.synch)).getD 0
      let chans : List (Word × Qual) := (upto 8).map fun c =>
        (Config.freeWord (s.freeN + c), worstQual (got.map fun z => ((z.chans[c]?).getD (0, 0x0081#16)).2) ||| interp ||| 0x4000#16)
      put { s with freeN := s.freeN + 8 } { n := j, st := 0, synch := synch, chans := chans }

/-- The releases of one stream at tick j, and the sample number posted to the phasor engines (R153, R154). -/
def svTick (s : State) (k j t : Nat) : State × Option Nat :=
  let c := svCfg s k
  if c.format = 5 then
    let m := j - c.deadline
    let i1 := 5 * m / 6
    let s1 := if c.deadline ≤ j ∧ 0 < i1 ∧ svDeadline c i1 = j then svRelease s k (i1 - 1) t else s
    if c.deadline + 8 ≤ j then (svResample s1 k (j - c.deadline - 8), some (j - c.deadline - 8)) else (s1, none)
  else if c.deadline + 1 ≤ j then
    let n := j - c.deadline - 1
    (svRelease s k n t, if (svStream s k).any fun x => decide (x.first ≤ n) then some n else none)
  else (s, none)

/-- The maps of the streams that are OK. -/
def svMaps (s : State) : State :=
  let ok := fun (k : Nat) => (svStream s k).any fun x => decide (x.state = 2)
  let s1 := (upto 8).foldl (fun u n => wr u (Reg.SVI_OKMAPn n) (w32 ((upto 32).foldl (fun w b => w + bit1 (ok (32 * n + b)) b) 0))) s
  wrField s1 Reg.SVI_STAT 8 0 ((s.svi.streams.filter fun e => ok e.1).length)

/-- Every release of tick j: the state and the sample number that each stream posted. -/
def sviTick (s : State) (j t : Nat) : State × List (Nat × Nat) :=
  if !s.svi.run then (s, [])
  else
    let (s1, ns) := s.svi.streams.foldl (fun (p : State × List (Nat × Nat)) e =>
      let (u, n) := svTick p.1 e.1 j t
      (u, match n with
        | some v => p.2 ++ [(e.1, v)]
        | none => p.2)) (s, [])
    let s2 := if j % ticksPerSec s = 0 then setSvi (wr s1 Reg.SVI_RX_CNT (w32 s1.svi.rxSec)) fun v => { v with rxSec := 0 } else s1
    (svMaps s2, ns)

/-! ### Start and on-line change -/

/-- A new stream (R155). -/
def freshStream (s : State) (k : Nat) : SvStream :=
  { state := 1, since := s.grid.now, first := svArrival s (svCfg s k) s.grid.now }

/-- The ingress subscribes the streams of the image; those that stand already continue where keep holds (R158). -/
def sviSubscribe (s : State) (keep : Nat → Bool) : State :=
  let old := s.svi.streams
  let s1 := setSvi s fun v => { v with run := true, streams := [] }
  let s2 := s.cfg.sv.foldl (fun u e => match tget none old e.1 with
    | some x => if keep e.1 then setStream u e.1 x else setStream u e.1 (freshStream u e.1)
    | none => setStream u e.1 (freshStream u e.1)) s1
  svMaps (wrField (wrField s2 Reg.SVI_STAT 31 31 1) Reg.SVI_STAT 24 16 s.cfg.sv.length)

/-- An on-line change keeps a stream whose APPID, svID and format stand. -/
def sviImage (s : State) (old : Image) : State :=
  sviSubscribe s fun k => match look old.sv k, look s.cfg.sv k with
    | some a, some b => decide (a.appid = b.appid) && decide (a.svid = b.svid) && decide (a.format = b.format)
    | _, _ => false

/-- SVI_CMD.CLR_CNT (R160). -/
def execSviClrCnt (c : Cmd) (s : State) : Out :=
  done (keyedBit s Reg.SVI_CMD 0 c fun t =>
    let t1 := setSvi t fun v => { v with
      rxSec := 0
      streams := v.streams.map fun e => (e.1, e.2.map fun x => { x with
        miss := 0, interp := 0, gaps := 0, late := 0, early := 0, dup := 0, anchors := 0, lagPeak := 0 }) }
    cleared (zeroRegs t1 [Reg.SVI_RX_CNT, Reg.SVI_DROP_CNT, Reg.SVI_FMT_CNT]) Reg.SVI_CMD c.session)

end Sys2Proof.Machine
end

