-- ==== Sys2Proof/Machine/PhasorMath.lean ====
section
/-! DEFINITION. The element arithmetic of the phasor engines: descriptors, complex values, and one evaluation of each element
type (R170–R185). -/

namespace Sys2Proof.Machine

open Sys2Proof

/-! ### Descriptors (R170, R173) -/

/-- A little-endian field of n bytes at offset o. -/
def dFld (d : List Byte) (o n : Nat) : Nat := leAt d o n
/-- A binary32 field. -/
def dReal (d : List Byte) (o : Nat) : Frac := fracOf (w32 (leAt d o 4))
def dIid (d : List Byte) : Nat := leAt d 0 4
def dType (d : List Byte) : Nat := leAt d 4 1
def dFlags (d : List Byte) : Nat := leAt d 5 1
def dPartOf (d : List Byte) : Nat := leAt d 6 1 % 128
def dIn0 (d : List Byte) : Nat := leAt d 8 2
def dIn1 (d : List Byte) : Nat := leAt d 10 2
def dTdly (d : List Byte) : Nat := leAt d 12 4 % 2 ^ 24
/-- The descriptor of a slot; an unused one is zero. -/
def descOf (s : State) (e slot : Nat) : List Byte := (look ((look s.cfg.pe e).getD {}).descs slot).getD []
/-- The channels that bits of a mask select. -/
def maskList (m n : Nat) : List Nat := (upto n).filter fun i => bitOf m i
/-- The harmonics a PHASOR selects. -/
def harmonics (d : List Byte) : List Nat := (maskList (dFld d 18 2) 16).filter fun h => decide (2 ≤ h)
/-- The nominal frequency of a PHASOR. -/
def fnom (d : List Byte) : Nat := if dFld d 17 1 = 1 then 60 else 50
/-- The terminals of a DIFF. -/
def terminals (d : List Byte) : List Nat := ((upto 12).map fun i => dFld d (16 + 2 * i) 2).filter fun t => decide (t ≠ 0xFFFF)

/-- Binary and analogue outputs of a type (R174). -/
def binCount : Nat → Nat
  | 2 => 5 | 3 => 2 | 4 => 2 | 5 => 8 | 6 => 7 | 7 => 2 | 8 => 5 | 9 => 2 | 10 => 2 | 11 => 1 | _ => 0
def anaCount : Nat → Nat
  | 1 => 64 | 2 => 2 | 3 => 6 | 4 => 4 | 5 => 12 | 6 => 6 | 7 => 2 | 8 => 3 | _ => 0
/-- A type has a trip output. -/
def hasTrip (ty : Nat) : Bool := decide (2 ≤ ty) && decide (ty ≤ 10)

/-- The worst-case cost of an element in cycles (R169). -/
def elemCost (d : List Byte) : Nat :=
  match dType d with
  | 1 => 600 + (900 + 150 * (harmonics d).length) * (maskList (dFld d 16 1) 8).length
  | 2 => 1200 | 3 => 400 | 4 => 500
  | 5 => 300 + 700 * (maskList (dFld d 16 1) 6).length
  | 6 => 800 + 350 * (terminals d).length + (if dFld d 56 1 ≠ 0 ∨ dFld d 57 1 ≠ 0 then 600 else 0)
  | 7 => if dFld d 19 1 = 0 then 150 else 300
  | 8 => 250 | 9 => 120 | 10 => 60
  | 11 => 150 + 30 * 8 * (((upto 8).map fun i => dFld d (24 + 2 * i) 2).filter fun k => decide (k ≠ 0xFFFF)).length
      + 10 * (((upto 8).map fun i => dFld d (40 + 2 * i) 2).filter fun k => decide (k ≠ 0xFFFF)).length
  | _ => 0

/-- The cycle budget B (R168). -/
def peBudget (highrate : Bool) : Nat := if highrate then 62499 else 187499

/-- The references of a descriptor lie on the engine below its own slot (R171). -/
def refsOk (c : PeCfg) (slot : Nat) (d : List Byte) : Bool :=
  let has := fun (k : Nat) => (look c.descs k).isSome
  let below := fun (k : Nat) => has k && decide (k < slot)
  let ofType := fun (k ty : Nat) => decide (dType ((look c.descs k).getD []) = ty)
  match dType d with
  | 1 => dFld d 29 1 = 0 || (has (dIn1 d) && ofType (dIn1 d) 2)
  | 9 => true
  | 2 => below (dIn0 d) && ofType (dIn0 d) 1
  | 3 => below (dIn0 d) && ofType (dIn0 d) 1
  | 4 => below (dIn0 d) && ofType (dIn0 d) 1
  | 5 => below (dIn0 d) && ofType (dIn0 d) 1
  | 8 => below (dIn0 d) && ofType (dIn0 d) 1
  | 6 => (terminals d).all (fun k => below k && ofType k 1) && decide (2 ≤ (terminals d).length)
  | 11 => below (dIn0 d) && (((upto 8).map fun i => dFld d (40 + 2 * i) 2).filter fun k => decide (k ≠ 0xFFFF)).all fun k => below (k / 64)
  | _ => below (dIn0 d)

/-- The fields of a descriptor lie in their ranges (R163, R170, R173, R192). -/
def fieldsOk (d : List Byte) : Bool :=
  decide (d.length = 64) && decide (dIid d ≠ 0) && decide (1 ≤ dType d) && decide (dType d ≤ 11) && decide (dFlags d / 2 = 0)
    && decide (leAt d 6 1 < 128) && decide (leAt d 7 1 = 0) && decide (leAt d 12 4 < 2 ^ 24)
    && match dType d with
      | 1 => decide ((harmonics d).length ≤ 6) && decide (dFld d 18 2 % 4 = 0) && decide (dFld d 17 1 < 2)
      | 2 => decide (2 ≤ dFld d 16 1) && decide (dFld d 16 1 ≤ 50)
      | 5 => decide (1 ≤ dFld d 18 1) && decide (dFld d 18 1 ≤ 8) && decide (dFld d 16 1 < 64)
      | 6 => decide (dFld d 44 2 ≤ 2000) && decide (dFld d 46 2 ≤ 2000) && decide (dFld d 56 1 ≤ 100) && decide (dFld d 57 1 ≤ 100)
      | 7 => decide (dFld d 19 1 ≤ 4)
      | 9 => decide (1 ≤ dFld d 17 1) && decide (dFld d 17 1 ≤ 16)
      | 10 => decide (dFld d 20 4 < 2 ^ 24) && decide (dFld d 24 4 < 2 ^ 24)
      | 11 => decide (dFld d 18 2 ≤ 4800) && decide (1 ≤ dFld d 20 4) && decide (dFld d 20 4 ≤ 48000)
      | _ => true

/-- The phasor content of an image passes R163, R168, R171, R174 and R188. -/
def peOk (i : Image) : Bool :=
  decide ((i.pe.foldl (fun n e => n + e.2.descs.length) 0) ≤ 4096)
    && i.pe.all (fun e =>
      decide (e.1 < 6) && decide (e.2.descs.length ≤ 1024)
        && decide (3000 + e.2.descs.foldl (fun n d => n + elemCost d.2) 0 ≤ peBudget i.highrate)
        && e.2.descs.all (fun d => fieldsOk d.2 && refsOk e.2 d.1 d.2)
        && e.2.routes.all fun r =>
          let de := (look i.dir r.2.2).getD 0
          match look e.2.descs r.2.1 with
          | some d => decide (dFlags d % 2 = 1) && hasTrip (dType d) && dPrompt de && (decide (btype de = 3) || decide (btype de = 0xA))
          | none => false)
    && i.dir.all fun x =>
      if btype x.2 = 0xB then
        let a := daddr x.2
        match (look i.pe (a / 2 ^ 16)).bind fun c => look c.descs (a / 64 % 1024) with
        | some d =>
          decide (dpart x.2 = dPartOf d)
            && decide (a % 64 < if isBinary x.1 then binCount (dType d) else anaCount (dType d))
        | none => false
      else true

/-! ### Complex values -/

/-- A complex value. -/
structure Cx where
  re : Frac := {}
  im : Frac := {}
deriving DecidableEq, Repr

def Cx.add (a b : Cx) : Cx := { re := a.re.add b.re, im := a.im.add b.im }
def Cx.sub (a b : Cx) : Cx := { re := a.re.sub b.re, im := a.im.sub b.im }
def Cx.mul (a b : Cx) : Cx := { re := (a.re.mul b.re).sub (a.im.mul b.im), im := (a.re.mul b.im).add (a.im.mul b.re) }
def Cx.conj (a : Cx) : Cx := { a with im := a.im.neg }
def Cx.neg (a : Cx) : Cx := { re := a.re.neg, im := a.im.neg }
def Cx.scale (a : Cx) (k : Frac) : Cx := { re := a.re.mul k, im := a.im.mul k }
/-- The square of the magnitude. -/
def Cx.abs2 (a : Cx) : Frac := (a.re.mul a.re).add (a.im.mul a.im)
def Cx.div (a b : Cx) : Cx := (a.mul b.conj).scale ((frac 1 1).div b.abs2)
def Cx.sum (l : List Cx) : Cx := l.foldl Cx.add {}

/-- The square root. -/
def sqrtOf (f : Frac) : Frac := fracOf (Config.sqrtF f.num f.den)
/-- Cosine and sine of degrees. -/
def cosOf (f : Frac) : Frac := fracOf (Config.cosDeg f.num f.den)
def sinOf (f : Frac) : Frac := fracOf (Config.sinDeg f.num f.den)
def tanOf (f : Frac) : Frac := (sinOf f).div (cosOf f)
/-- Magnitude and angle in degrees. -/
def Cx.mag (a : Cx) : Frac := sqrtOf a.abs2
def Cx.arg (a : Cx) : Frac := fracOf (Config.atanDeg (a.re.num, a.re.den) (a.im.num, a.im.den))
/-- m∠a. -/
def polar (m a : Frac) : Cx := { re := m.mul (cosOf a), im := m.mul (sinOf a) }
/-- a = 1∠120° and its square. -/
def opA : Cx := { re := frac (-1) 2, im := (sqrtOf (frac 3 1)).mul (frac 1 2) }
def opA2 : Cx := opA.conj
/-- An angle wrapped to ±180°. -/
def wrap180 (f : Frac) : Frac := f.sub (frac (360 * ((f.add (frac 180 1)).mul (frac 1 360)).floor) 1)

/-- The symmetrical components of three phasors (R178). -/
def seq0 (a b c : Cx) : Cx := ((a.add b).add c).scale (frac 1 3)
def seq1 (a b c : Cx) : Cx := ((a.add (opA.mul b)).add (opA2.mul c)).scale (frac 1 3)
def seq2 (a b c : Cx) : Cx := ((a.add (opA2.mul b)).add (opA.mul c)).scale (frac 1 3)

/-- The fundamental or harmonic h of channel c of a PHASOR result; a channel not selected is zero. -/
def PhRes.cx (r : PhRes) (c h : Nat) : Cx :=
  match r.ph.lookup (c * 16 + h) with
  | some w => { re := fracOf w.1, im := fracOf w.2 }
  | none => {}

/-! ### Samples (R182) -/

/-- The released slot n of a stream, as the engines read it. -/
def peSlot (s : State) (k n : Nat) : Option SvSlot :=
  (svStream s k).bind fun x => slotOf s (if (svCfg s k).format = 5 then x.out else x.ring) n

/-- A channel of a slot; a slot that is not there is missing. -/
def slotChan (z : Option SvSlot) (c : Nat) : Word × Qual := (z.bind fun v => v.chans[c]?).getD (0, 0x0081#16)

/-- A slot is usable on the channels of a mask. -/
def usableOn (z : Option SvSlot) (cs : List Nat) : Bool :=
  z.any fun v => decide (v.st < 2) && cs.all fun c => decide (validRank (slotChan z c).2 < 2)

/-- The samples per second that the engines see, and W (R183). -/
def windowW (rate f : Nat) : Nat := (9 * rate + 8 * f - 1) / (8 * f)

/-! ### What an evaluation gives -/

/-- One evaluation: ready, the states of the binary outputs, analogue outputs with the VALID bits to add to each, the quality. -/
structure Eval where
  ready : Bool := true
  bins : List Bool := []
  anas : List Frac := []
  aq : List Qual := []
  q : Qual := 0
deriving DecidableEq, Repr

/-- The outputs of a not-ready element (R184). -/
def ElemState.notReady (x : ElemState) (ty : Nat) (q : Qual) : ElemState :=
  let qn : Qual := (q &&& 0xFFFC#16) ||| 0x0081#16
  { x with
    ready := false, skipped := false, trip := false, qual := qn
    bins := List.replicate (binCount ty) (mkTet 1 true (qualO qn))
    anas := List.replicate (anaCount ty) 0, aqual := List.replicate (anaCount ty) qn }

/-- The trip output (R172): start has been ON for TDLY evaluations more; go: a further condition of the type. -/
def ElemState.tripStep (x : ElemState) (start go : Bool) (tdly : Nat) : ElemState :=
  let run := if start then x.run + 1 else 0
  { x with run := run, trip := start && go && decide (tdly < run) }

/-- The outputs of an evaluation (R175); output 1 is the trip. -/
def ElemState.put (x : ElemState) (v : Eval) : ElemState :=
  { x with
    ready := true, skipped := false, qual := v.q
    bins := v.bins.map fun b => mkTet (if b then 2 else 1) (qualD v.q) (qualO v.q)
    anas := v.anas.map word32
    aqual := v.anas.zipIdx.map fun p => worstQual [v.q, v.aq.getD p.2 0] }

/-- The binary outputs 0 start, 1 trip and the others. -/
def startTrip (x : ElemState) (start : Bool) (more : List Bool) : List Bool := start :: x.trip :: more

/-! ### PHASOR (R176) -/

/-- The value of a channel at x samples before N, by 4-point cubic Lagrange interpolation over samples i … i + 3 before N. -/
def lagrange (s : State) (k n c : Nat) (x : Frac) : Frac :=
  let b := max 0 (x.floor - 1)
  let u := x.sub (frac b 1)
  let v := fun (i : Nat) => fracOf (slotChan (peSlot s k (n - (b.toNat + i))) c).1
  let m := fun (a : Int) => u.sub (frac a 1)
  Frac.sum [
    (v 0).mul (((m 1).mul ((m 2).mul (m 3))).mul (frac (-1) 6)),
    (v 1).mul ((u.mul ((m 2).mul (m 3))).mul (frac 1 2)),
    (v 2).mul ((u.mul ((m 1).mul (m 3))).mul (frac (-1) 2)),
    (v 3).mul ((u.mul ((m 1).mul (m 2))).mul (frac 1 6))]

/-- The phasor of harmonic h of a channel at N: a 64-point DFT over one cycle of f, RMS, its angle relative to the cosine of
h × f_nom that is zero at the start of the second. -/
def dftAt (s : State) (k n c h rate f0 : Nat) (f : Frac) : Cx :=
  let step := (frac rate 1).div (f.mul (frac 64 1))
  let pts := (upto 64).map fun (i : Nat) =>
    let x := lagrange s k n c (step.mul (frac i 1))
    let a := frac (360 * h * i) 64
    ({ re := x.mul (cosOf a), im := x.mul (sinOf a) } : Cx)
  let raw := (Cx.sum pts).scale ((sqrtOf (frac 2 1)).mul (frac 1 64))
  raw.mul (polar (frac 1 1) (frac (-(360 * h * f0 * (n % rate) : Int)) rate))

/-- The window frequency: tracking reads the FREQ result of the previous tick (R171, R176). -/
def trackF (d : List Byte) (freq : Option ElemState) : Frac :=
  let f0 := frac (fnom d) 1
  match freq with
  | some x =>
    if dFld d 29 1 = 1 ∧ x.ready then
      ((fracOf (x.anas.getD 0 0)).max (f0.mul (frac 9 10))).min (f0.mul (frac 11 10))
    else f0
  | none => f0

/-- The phasors of an evaluation: scaled, without the zero sequence, shifted. -/
def phasorsOf (s : State) (d : List Byte) (n rate : Nat) (f : Frac) : List (Nat × Cx) :=
  let cs := maskList (dFld d 16 1) 8
  let hs := 1 :: harmonics d
  let raw := cs.flatMap fun c => hs.map fun h =>
    (c * 16 + h, (dftAt s (dIn0 d) n c h rate (fnom d) f).scale (if c < 4 then dReal d 20 else dReal d 24))
  let zs := dFld d 28 1 / 128 % 2 == 1
  let rot := polar (frac 1 1) (frac (-(30 * (dFld d 28 1 % 16) : Int)) 1)
  let get := fun (k : Nat) => (raw.lookup k).getD {}
  raw.map fun p =>
    let c := p.1 / 16
    let h := p.1 % 16
    if c < 3 then
      let z := if zs then p.2.sub (((get h).add ((get (16 + h)).add (get (32 + h)))).scale (frac 1 3)) else p.2
      (p.1, z.mul rot)
    else p

/-- The analogue outputs of a PHASOR (R174). -/
def phasorAnas (d : List Byte) (r : PhRes) : List Frac :=
  let hs := harmonics d
  (upto 64).map fun i =>
    if i < 16 then (if i % 2 = 0 then (r.cx (i / 2) 1).mag else (r.cx (i / 2) 1).arg)
    else
      let c := (i - 16) / 6
      match hs[(i - 16) % 6]? with
      | some h => (r.cx c h).mag.div (r.cx c 1).mag
      | none => {}

/-- One evaluation of a PHASOR for sample n. -/
def evalPhasor (s : State) (d : List Byte) (x : ElemState) (freq : Option ElemState) (n : Nat) : ElemState :=
  let cs := maskList (dFld d 16 1) 8
  let rate := ticksPerSec s
  let z := peSlot s (dIn0 d) n
  let next := decide (x.lastN = some (n - 1)) && decide (n ≠ 0)
  let fill := if usableOn z cs then (if next then min 0xFFFF (x.fill + 1) else 1) else 0
  let w := windowW rate (fnom d)
  let x1 : ElemState := { x with lastN := some n, fill := fill }
  let push := fun (y : ElemState) (r : PhRes) => { y with hist := (r :: y.hist).take 16 }
  if fill < w then push (x1.notReady 1 (worstQual (cs.map fun c => (slotChan z c).2))) { n := n }
  else
    let q := worstQual ((upto w).flatMap fun i => cs.map fun c => (slotChan (peSlot s (dIn0 d) (n - i)) c).2)
    let ph := (phasorsOf s d n rate (trackF d freq)).map fun p => (p.1, (word32 p.2.re, word32 p.2.im))
    let r : PhRes := { n := n, ok := true, q := q, ph := ph }
    push (x1.put { anas := phasorAnas d r, q := q }) r

/-! ### Elements on one PHASOR (R177–R181) -/

/-- FREQ: f, ROCOF and its starts. -/
def evalFreq (d : List Byte) (x : ElemState) (r : PhRes) (f0 rate : Nat) : ElemState :=
  let nc := rate / f0
  let v1 := seq1 (r.cx 4 1) (r.cx 5 1) (r.cx 6 1)
  if !r.ok then { (x.notReady 2 r.q) with more := 0, thetas := [], freqs := [] }
  else
    let th := v1.arg
    let more := x.more + 1
    let rw := dFld d 16 1 * nc
    let thetas := (word32 th :: x.thetas).take (nc + 1)
    let x1 : ElemState := { x with more := more, thetas := thetas }
    if more ≤ nc then x1.notReady 2 r.q
    else if v1.abs2.lt ((dReal d 20).mul (dReal d 20)) then
      let q : Qual := (r.q &&& 0xFFFC#16) ||| 0x0001#16
      let y := x1.tripStep false true (dTdly d)
      let keep := if x.ready then x.anas else [word32 (frac f0 1), 0]
      { (y.put { bins := startTrip y false [false, false, false], q := q }) with anas := keep, aqual := [q, q] }
    else
      let dth := wrap180 (th.sub (fracOf (thetas.getD nc 0)))
      let f := (frac f0 1).add (dth.mul (frac f0 360))
      let fs := (word32 f :: x.freqs).take rw
      let ready2 := decide (nc + rw ≤ more) && decide (fs.length = rw)
      let m := fs.length
      let mean := fun (l : List Frac) => (Frac.sum l).mul (frac 1 m)
      let ts := (upto m).map fun (i : Nat) => frac (-(Int.ofNat i)) rate
      let vs := fs.map fracOf
      let tm := mean ts
      let vm := mean vs
      let slope := (Frac.sum ((ts.zip vs).map fun p => (p.1.sub tm).mul (p.2.sub vm))).div
        (Frac.sum (ts.map fun t => (t.sub tm).mul (t.sub tm)))
      let roc : Frac := if ready2 then slope else {}
      let on := fun (o : Nat) => decide ((dReal d o).num ≠ 0)
      let overN := on 24 && (dReal d 24).le f
      let under := on 28 && f.le (dReal d 28)
      let rocS := ready2 && on 32 && (dReal d 32).le roc.abs
      let y := x1.tripStep (overN || under || rocS) true (dTdly d)
      let z := y.put { bins := startTrip y (overN || under || rocS) [overN, under, rocS], anas := [f, roc], q := r.q
                       aq := [0, if ready2 then 0 else 0x0081#16] }
      { z with
        freqs := fs
        bins := if ready2 then z.bins else z.bins.zipIdx.map fun b => if b.2 = 4 then b.1 ||| 0x4#4 else b.1 }

/-- SEQ. -/
def evalSeq (d : List Byte) (x : ElemState) (r : PhRes) : ElemState :=
  let b := if dFld d 16 1 = 1 then 4 else 0
  let a0 := r.cx b 1
  let a1 := r.cx (b + 1) 1
  let a2 := r.cx (b + 2) 1
  let x0 := seq0 a0 a1 a2
  let x1 := seq1 a0 a1 a2
  let x2 := seq2 a0 a1 a2
  let k := dReal d 20
  let start := decide (k.num ≠ 0) && ((k.mul k).mul x1.abs2).le x2.abs2 && decide (x1.abs2.num ≠ 0)
  let y := x.tripStep start true (dTdly d)
  y.put { bins := startTrip y start [], anas := [x0.mag, x0.arg, x1.mag, x1.arg, x2.mag, x2.arg], q := r.q }

/-- PWR. -/
def evalPwr (d : List Byte) (x : ElemState) (r : PhRes) : ElemState :=
  let sv := Cx.sum ((upto 3).map fun i => (r.cx (4 + i) 1).mul (r.cx i 1).conj)
  let p := dReal d 16
  let start := if 0 < p.num then p.le sv.re else if p.num < 0 then sv.re.le p else false
  let zero := decide (sv.abs2.num = 0)
  let y := x.tripStep start true (dTdly d)
  y.put { bins := startTrip y start []
          anas := [sv.re, sv.im, sv.mag, if zero then frac 1 1 else sv.re.div sv.mag]
          q := r.q, aq := [0, 0, 0, if zero then 3 else 0] }

/-- The impedance of a loop and whether its current reaches IMIN (R179). Loops 0–2 AG, BG, CG; 3–5 AB, BC, CA. -/
def loopZ (d : List Byte) (r : PhRes) (l : Nat) : Option Cx :=
  let i := fun (c : Nat) => r.cx c 1
  let i0 := if dFld d 19 1 = 1 then i 3 else (i 0).add ((i 1).add (i 2))
  let k0 := polar (dReal d 20) (dReal d 24)
  let den := if l < 3 then (i l).add (k0.mul i0) else (i (l - 3)).sub (i ((l - 2) % 3))
  let num := if l < 3 then r.cx (4 + l) 1 else (r.cx (l + 1) 1).sub (r.cx (4 + (l - 2) % 3) 1)
  if den.abs2.lt ((dReal d 44).mul (dReal d 44)) ∨ den.abs2.num = 0 then none else some (num.div den)

/-- An impedance lies inside the characteristic. -/
def insideZ (d : List Byte) (z0 : Cx) : Bool :=
  let z := if dFld d 17 1 / 128 % 2 = 1 then z0.neg else z0
  let zr := dReal d 28
  if dFld d 17 1 % 2 = 0 then
    let h := zr.mul (frac 1 2)
    (z.sub (polar h (dReal d 32))).abs2.le (h.mul h)
  else
    z.im.le (zr.sub (z.re.mul (tanOf (dReal d 40))))
      && z.re.le ((dReal d 36).add (z.im.div (tanOf (dReal d 32))))
      && (z.re.mul (tanOf (frac 15 1))).neg.le z.im
      && (z.im.mul (tanOf (frac 30 1))).neg.le z.re

/-- IMP; a loop without an impedance leaves its outputs open. -/
def evalImp (d : List Byte) (x : ElemState) (r : PhRes) (fr : Nat) : ElemState :=
  let zs := (upto 6).map fun l => if bitOf (dFld d 16 1) l then loopZ d r l else none
  let cnts := zs.zipIdx.map fun p => if p.1.any (insideZ d) then min 8 (x.cnts.getD p.2 0 + 1) else 0
  let starts := cnts.map fun k => decide (dFld d 18 1 ≤ k) && decide (0 < k)
  let start := starts.any id
  let y := ({ x with cnts := cnts } : ElemState).tripStep start true (dTdly d)
  y.put { bins := startTrip y start starts
          anas := zs.zipIdx.flatMap fun p => match p.1 with
            | some z => [z.re, z.im]
            | none => [fracOf (Config.peOpen (2 * p.2) fr), fracOf (Config.peOpen (2 * p.2 + 1) fr)]
          q := r.q }

/-- DIFF over the results of its terminals (R180). -/
def evalDiff (d : List Byte) (x : ElemState) (rs : List PhRes) : ElemState :=
  let k := fun (o : Nat) => frac (dFld d o 2) 1000
  let knee := dReal d 48
  let phase := fun (p : Nat) =>
    let is := rs.map fun r => r.cx p 1
    let id2 := (Cx.sum is).abs2
    let idm := sqrtOf id2
    let ib := (Frac.sum (is.map Cx.mag)).mul (frac 1 2)
    let restr := if ib.le knee then (k 44).mul ib else ((k 44).mul knee).add ((k 46).mul (ib.sub knee))
    let hb := fun (h o : Nat) => decide (dFld d o 1 ≠ 0)
      && ((frac (dFld d o 1 * dFld d o 1) 10000).mul id2).le (Cx.sum (rs.map fun r => r.cx p h)).abs2
    (idm, ib, restr, hb 2 56 || hb 5 57)
  let ps := (upto 3).map phase
  let any := ps.any fun v => v.2.2.2
  let cross := dFld d 58 1 % 2 == 1
  let unres := ps.map fun v => (dReal d 52).le v.1
  let ops := (ps.zip unres).map fun p =>
    p.2 || ((dReal d 40).le p.1.1 && p.1.2.2.1.le p.1.1 && !(p.1.2.2.2 || (cross && any)))
  let start := ops.any id
  let y := x.tripStep start true (dTdly d)
  y.put { bins := startTrip y start (ops ++ [any, unres.any id]), anas := ps.flatMap fun v => [v.1, v.2.1]
          q := worstQual (rs.map (·.q)) }

/-- The time t(G) of an inverse curve (R180). -/
def curveT (d : List Byte) (g0 : Frac) : Frac :=
  let g := (g0.max (frac 105 100)).min (frac 40 1)
  let tms := dReal d 24
  match dFld d 19 1 with
  | 1 => (tms.mul (frac 14 100)).div ((fracOf (Config.pow002 g.num g.den)).sub (frac 1 1))
  | 2 => (tms.mul (frac 135 10)).div (g.sub (frac 1 1))
  | 3 => (tms.mul (frac 80 1)).div ((g.mul g).sub (frac 1 1))
  | _ => (tms.mul (frac 120 1)).div (g.sub (frac 1 1))

/-- OC on the analogue outputs of its input. -/
def evalOc (d : List Byte) (x : ElemState) (inp : ElemState) (rate : Nat) : ElemState :=
  let idx := ((upto 3).map fun i => dFld d (16 + i) 1).filter fun i => decide (i ≠ 0xFF)
  let i := (idx.map fun k => fracOf (inp.anas.getD k 0)).foldl Frac.max {}
  let q := worstQual (idx.map fun k => inp.aqual.getD k 0x0081#16)
  let g := i.div (dReal d 20)
  let start := if x.out then (frac 95 100).le g else (frac 1 1).le g
  let inv := decide (dFld d 19 1 ≠ 0)
  let hold := if start then 0 else x.hold + 1
  let integ :=
    if !inv then 0
    else if start then word32 ((fracOf x.integ).add ((frac 1 rate).div (curveT d g)))
    else if dFld d 28 1 = 1 ∧ hold < dFld d 32 4 then x.integ else 0
  let go := !inv || (frac 1 1).le (fracOf integ)
  let y := ({ x with out := start, hold := hold, integ := integ } : ElemState).tripStep start go (dTdly d)
  y.put { bins := startTrip y start [], anas := [i, (fracOf integ).min (frac 1 1)], q := q }

/-- VLT. -/
def evalVlt (d : List Byte) (x : ElemState) (r : PhRes) : ElemState :=
  let mode := dFld d 16 1
  let overN := mode % 2 == 1
  let v := fun (i : Nat) => r.cx (4 + i % 3) 1
  let ms := (upto 3).map fun i => if mode / 2 % 2 = 1 then (v i).sub (v (i + 1)) else v i
  let sq := fun (f : Frac) => f.mul f
  let vset := dReal d 20
  let hy := frac (dFld d 17 1) 1000
  let pick := ms.zipIdx.map fun p =>
    let was := decide (x.cnts.getD p.2 0 = 1)
    let m2 := p.1.abs2
    if overN then
      if was then !m2.lt (sq (vset.mul ((frac 1 1).sub hy))) else (sq vset).le m2
    else if was then m2.le (sq (vset.mul ((frac 1 1).add hy))) else m2.le (sq vset)
  let comb := if mode / 4 % 2 = 1 then pick.all id else pick.any id
  let blk := !overN && decide ((dReal d 24).num ≠ 0) && ms.all fun m => m.abs2.lt (sq (dReal d 24))
  let start := comb && !blk
  let y := ({ x with cnts := pick.map fun b => bit1 b 0 } : ElemState).tripStep start true (dTdly d)
  y.put { bins := startTrip y start pick, anas := ms.map Cx.mag, q := r.q }

/-- SAMP for sample n (R181). -/
def evalSamp (s : State) (d : List Byte) (x : ElemState) (n : Nat) : ElemState :=
  let cs := maskList (dFld d 16 1) 8
  let z := peSlot s (dIn0 d) n
  let q := worstQual (cs.map fun c => (slotChan z c).2)
  let x1 : ElemState := { x with lastN := some n }
  if !usableOn z cs then { (x1.notReady 9 q) with cnt := 0, fill := 0 }
  else
    let hit := cs.any fun c => (dReal d 20).le (fracOf (slotChan z c).1).abs
    let cnt := if hit then min 16 (x.cnt + 1) else 0
    let start := decide (dFld d 17 1 ≤ cnt)
    let y := ({ x1 with cnt := cnt, fill := min 0xFFFF (x.fill + 1) } : ElemState).tripStep start true (dTdly d)
    y.put { bins := startTrip y start [], q := q }

/-- TIMER on the state of its input (R181, R185). -/
def evalTimer (d : List Byte) (x : ElemState) (inp : ElemState) : ElemState :=
  let v := inp.bins.getD (dFld d 16 1) 0x5#4
  let on := decide (tstate v = 2) && inp.ready
  let cnt := if on = x.cap.trig then x.cnt + 1 else 1
  let out := if on then x.out || decide (dFld d 20 4 ≤ cnt) else x.out && decide (cnt < dFld d 24 4)
  let cap : CapState := { x.cap with trig := on }
  let y : ElemState := { x with cnt := cnt, out := out, trip := out, cap := cap }
  y.put { bins := [on, out], q := inp.qual }

end Sys2Proof.Machine
end

