-- ==== Sys2Proof/Machine/ConfigRules.lean ====
section
/-! DEFINITION. The checks that CONFIGURE and an on-line change apply to an image (R69, R105, R203, R253, R278, R540). -/

namespace Sys2Proof.Machine

open Sys2Proof

/-- A safety partition has classes only on logic engines in checked mode, and reacts with SAFE (R278). -/
def safetyClassesOk (i : Image) : Bool :=
  i.classes.all fun c =>
    let p := (look i.parts c.2.part).getD {}
    !p.safety || (decide (4 ≤ c.2.engine) && !((look i.le (c.2.engine - 4)).getD {}).split && decide (p.react = 2))

/-- An endpoint with SAFETY = 1 belongs to a safety partition (R278) and has a binding that R279 allows. -/
def safetyDirOk (i : Image) : Bool :=
  i.dir.all fun e =>
    let d := e.2
    !dSafety d || (((look i.parts (dpart d)).getD {}).safety && [1, 2, 3, 5, 6, 9, 0xA, 0xD].contains (btype d)
      && !(decide (btype d = 3) && dPrompt d))

/-- The PAIR status endpoints name a kind that is used (R253, R540). -/
def pairKindsOk (i : Image) : Bool :=
  i.dir.all fun e =>
    let d := e.2
    decide (btype d ≠ 0xD ∨ field d 39 32 ≠ 7) || decide (field d 6 0 ≤ 1) || (decide (32 ≤ field d 6 0) && decide (field d 6 0 ≤ 95))

/-- An internal or sink endpoint has at most one writing program, of its own partition (R69). -/
def writersOk (i : Image) : Bool :=
  i.writers.all fun w => decide ((i.writers.filter fun v => decide (v.1 = w.1)).length = 1)

/-- The streams of a program in checked mode are stream 0 (R105). -/
def streamsOk (i : Image) : Bool :=
  i.le.all fun e => e.2.split || e.2.progs.all fun p => decide (p.2.stream = 0)

/-- ON is no safe state of a DO with SAFETY = 1 or PROMPT = 1 (R339). -/
def doSafeOk (i : Image) : Bool :=
  i.dir.all fun e =>
    let d := e.2
    decide (btype d ≠ 3) || !(dSafety d || dPrompt d) || decide ((look i.lio.dos (daddr d % 16)).getD 0 ≠ 1)

/-- The segment of a node in an image. -/
def imageSeg (c : ChnPortCfg) (n i : Nat) : ChnSeg := (look ((look c.nodes n).getD {}).segs i).getD {}

/-- The due entries of a port start at 4,000 ns or later, end by 412,000 ns and do not overlap in any frame (R315): of two
periods the shorter divides the longer, so both are due in some frame when their phases agree modulo the shorter. -/
def schedOk (c : ChnPortCfg) : Bool :=
  let span := fun (e : ChnEnt) =>
    let g := imageSeg c e.node e.seg
    (e.start, e.start + (36 + g.outLen + g.inLen) * 100 + 2400)
  c.sched.all fun e =>
    let a := span e.2
    decide (4000 ≤ a.1) && decide (a.2 ≤ 412000) && c.sched.all fun f =>
      let b := span f.2
      let m := min (periodFrames e.2.period) (periodFrames f.2.period)
      decide (e.1 = f.1) || decide (e.2.phase % m ≠ f.2.phase % m) || decide (a.2 ≤ b.1) || decide (b.2 ≤ a.1)

/-- A chain endpoint's byte lies inside a segment of its direction (R318). -/
def chnEpsOk (i : Image) : Bool :=
  i.dir.all fun e =>
    let d := e.2
    let a := daddr d
    let area := a / 2 ^ 14 % 4
    let x := a % 2048
    let b := if area = 0 then (x / 2, 1) else if area = 1 then (0x400 + 8 * x, 8) else (0xC40 + 56 * (x / 64), 56)
    let n := (look ((look i.chn (a / 2 ^ 22 % 4)).getD {}).nodes (a / 2 ^ 16 % 64)).getD {}
    let inside := fun (o l : Nat) => decide (o ≤ b.1) && decide (b.1 + b.2 ≤ o + l)
    decide (btype d ≠ 5 ∧ btype d ≠ 6) || n.segs.any fun g =>
      if btype d = 5 then inside g.2.inOfs g.2.inLen else inside g.2.outOfs g.2.outLen

/-- No FD object or buffer on a time-triggered controller, and every buffer of one stands in its matrix (R357, R369). -/
def canOk (i : Image) : Bool :=
  i.can.ctls.all fun c => !c.2.tt || ((c.2.objs.all fun o => !o.2.fd) && c.2.bufs.all fun b =>
    !b.2.fd && c.2.cells.any fun x => decide (x.kind = 1 ∨ x.kind = 2) && x.index.contains b.1)

/-- The display regions lie in rows 15–119 and do not overlap (R490). -/
def dpyOk (i : Image) : Bool :=
  i.dpy.regions.all fun r => decide (1 ≤ r.1) && decide (r.1 ≤ 7) && decide (15 ≤ r.2.1) && decide (r.2.1 ≤ r.2.2) && decide (r.2.2 ≤ 119)
    && i.dpy.regions.all fun q => decide (q.1 = r.1) || decide (q.2.2 < r.2.1) || decide (r.2.2 < q.2.1)

/-- The checks of an image that stand in the rules. -/
def imageRules (i : Image) : Bool :=
  peOk i && dpyOk i && doSafeOk i && canOk i && chnEpsOk i && (i.chn.all fun c => schedOk c.2) && safetyClassesOk i && safetyDirOk i && pairKindsOk i && writersOk i && streamsOk i && decide (i.length ≤ 62914560)

end Sys2Proof.Machine
end

