-- ==== Sys2Proof/Machine/Forces.lean ====
section
/-! DEFINITION. Forcing (R217–R222, R226): requests, their mirroring to the partner, their effect, release and expiry. -/

namespace Sys2Proof.Machine

open Sys2Proof

/-- The longest expiry of a force in frames: 8 h (R221). -/
def maxForce : Nat := 69120000

/-- The entry number of the force on an endpoint. -/
def forceIdx (s : State) (ep : Nat) : Option Nat :=
  (s.frc.table.find? fun e => match e.2 with
    | some f => decide (f.ep = ep)
    | none => false).map (·.1)

/-- The lowest-numbered free entry of the table (R217). -/
def freeForce (s : State) : Option Nat := (upto 4096).find? fun i => (tget none s.frc.table i).isNone

/-- The forces of the table with their numbers. -/
def forcesOf (s : State) : List (Nat × Force) := s.frc.table.filterMap fun e => e.2.map fun f => (e.1, f)

/-- The committed value of an endpoint after the commit of the frame is taken again, and collected again (R218, R219). -/
def recommit (s : State) (ep : Nat) : State :=
  if s.grid.phase ≠ 3 ∨ isSource s ep then s
  else
    let t := s.grid.freezeAt + 390000
    let c := s.sig.committed
    if isBinary ep then
      let v := forcedOutBin s ep
      let q := forcedOutSq s ep
      collectGot { s with sig := { s.sig with committed := { c with bin := tset 0x7#4 c.bin ep v, sq := tset qualNever c.sq ep q } } }
        ep { tet := v, qual := q, stamp := t }
    else
      let a := forcedOutAna s ep
      collectGot { s with sig := { s.sig with committed := { c with ana := tset {} c.ana ep a } } }
        ep { val := a.val, qual := a.qual, stamp := t }

/-- A change of the table is recorded with the session, the endpoint, the old and the new value (R220). Bit: 0 set or changed,
1 released, 3 expired. -/
def forceRecord (s : State) (bit session ep : Nat) (old new : Word) : State :=
  raise (wr s Reg.FRC_LAST_LO (w32 s.grid.frame)) { blk := 0x15, ev := bit, info := [session, ep, old.toNat, new.toNat] }

/-- The force of an entry ends. -/
def dropForce (s : State) (i bit session : Nat) : State :=
  match tget none s.frc.table i with
  | none => s
  | some f =>
    let s1 := { s with frc := { s.frc with table := tset none s.frc.table i none } }
    forceRecord (recommit s1 f.ep) bit session f.ep f.val 0

/-- A force is set or changed; a change keeps its entry (R217). -/
def putForce (s : State) (r : ForceReq) : State :=
  let old := ((forceOf s r.ep).map (·.val)).getD 0
  let exp := if r.exp = 0 ∧ dSafety (dirEntry s r.ep) = true then maxForce else r.exp
  match (forceIdx s r.ep).orElse (fun _ => freeForce s) with
  | none => s
  | some i =>
    let f : Force := { ep := r.ep, val := r.val, session := r.session, till := if exp = 0 then none else some (s.grid.frame + exp) }
    let s1 := { s with frc := { s.frc with table := tset none s.frc.table i (some f) } }
    forceRecord (recommit s1 r.ep) 0 r.session r.ep old r.val

/-- What an accepted request does at the freeze (atFreeze) or at the commit: the endpoints of that point (R218, R219). -/
def applyForce (s : State) (atFreeze : Bool) (r : ForceReq) : State :=
  let here := fun (u : State) (ep : Nat) => decide (isSource u ep = atFreeze)
  match r.kind with
  | 0 => if here s r.ep then putForce s r else s
  | 1 => if here s r.ep then (match forceIdx s r.ep with
      | some i => dropForce s i 1 r.session
      | none => s) else s
  | _ => (forcesOf s).foldl (fun u e => if here u e.2.ep then dropForce u e.1 1 r.session else u) s

/-- FORCE_EFFECT in frame k + 2: after its freeze for sources, at its commit for the others (R219). -/
def execForceEffect (t : Nat) (s0 : State) : Out :=
  let s := atTime s0 t
  let n := s.grid.frame
  let due := s.frc.reqs.filter fun r => r.accepted && decide (r.frame + 2 ≤ n)
  if s.grid.phase = 0 then done (due.foldl (fun u r => applyForce u true r) s)
  else if 2 ≤ s.grid.phase then
    let s1 := due.foldl (fun u r => applyForce u false r) s
    done { s1 with frc := { s1.frc with reqs := s1.frc.reqs.filter fun r => !(r.accepted && decide (r.frame + 2 ≤ n)) } }
  else done s

/-- FORCE_EXPIRY: the forces whose last frame has come are released (R221). -/
def execForceExpiry (t : Nat) (s0 : State) : Out :=
  let s := atTime s0 t
  done ((forcesOf s).foldl (fun u e => match e.2.till with
    | some f => if f ≤ u.grid.frame then dropForce u e.1 3 0 else u
    | none => u) s)

/-! ### Requests (R219, R222, R539) -/

/-- A force request is refused (R222). -/
def refuseForce (s : State) (code session : Nat) : State :=
  refuse (setBit (wrField s Reg.FRC_STAT 27 24 code) Reg.FRC_EVT_STAT 2) Reg.FRC_CMD (some code) session

/-- An endpoint loses its force at a change: it is deleted, changes BTYPE or PART, or is no longer forceable (R223). -/
def epUnforced (new : Image) (old : Image) (ep : Nat) : Bool :=
  let a := (look old.dir ep).getD 0
  let b := (look new.dir ep).getD 0
  decide (btype b = 0) || decide (btype a ≠ btype b) || decide (dpart a ≠ dpart b) || !dForceable b

/-- The cause for which a request is refused by its content; 0 none (R222). -/
def forceRefusal (s : State) (r : ForceReq) : Nat :=
  let e := dirEntry s r.ep
  match r.kind with
  | 0 =>
    if !dForceable e ∨ btype e = 0 then 1
    else if (forceIdx s r.ep).isNone ∧ (freeForce s).isNone then 2
    else if dSafety e ∧ !s.saf.smmOn then 3
    else if maxForce < r.exp then 4
    else if decide (s.olc.stage = 3) && !s.olc.relforce && s.olc.shadow.any (fun i => epUnforced i s.cfg r.ep) then 9 else 0
  | 1 => if (forceIdx s r.ep).isNone then 8 else 0
  | _ => 0

/-- The partner is asked: STANDBY or LEARNING, with the link up (R539). -/
def asksPartner (s : State) : Bool :=
  decide (s.pair.role = .active) && s.pair.linkUp && (decide (s.pair.partner.role = 3) || decide (s.pair.partner.role = 4))

/-- A request is made by a session: judged, then asked of the partner or accepted. -/
def requestForce (s : State) (c : Cmd) (r : ForceReq) : State :=
  let role := s.pair.role
  if !hasRole s c.session 2 ∨ ¬ (role = .active ∨ role = .solo ∨ role = .detached) then refuseForce s 6 c.session
  else
    let code := forceRefusal s r
    if code ≠ 0 then refuseForce s code c.session
    else
      let ask := asksPartner s
      let r1 := { r with asked := ask, accepted := !ask }
      let s1 := { s with frc := { s.frc with reqs := s.frc.reqs ++ [r1] } }
      if ask then tokel s1 0x30 [2, r.kind, r.ep, r.val.toNat, r.exp, r.session, r.frame] else accepted s1 Reg.FRC_CMD c

/-- A write of FRC_CMD. -/
def forceCmd (s : State) (bit kind : Nat) (c : Cmd) : State :=
  written s Reg.FRC_CMD c fun t =>
    if field c.value 31 16 ≠ 0x5A3C then
      setBit (wrField (keyWrong t Reg.FRC_CMD c.value) Reg.FRC_STAT 27 24 7) Reg.FRC_EVT_STAT 2
    else if !flag c.value bit then t
    else requestForce t c { kind := kind, ep := field (rd t Reg.FRC_REQ_EP) 18 0, val := rd t Reg.FRC_REQ_VAL
                            exp := field (rd t Reg.FRC_REQ_EXP) 26 0, session := c.session, frame := t.grid.frame }

/-- FRC_CMD.SET (R219). -/
def execForceSet (c : Cmd) (s : State) : Out := done (forceCmd s 0 0 c)
/-- FRC_CMD.RELEASE (R219). -/
def execForceRelease (c : Cmd) (s : State) : Out := done (forceCmd s 1 1 c)
/-- FRC_CMD.RELALL (R219). -/
def execForceReleaseAll (c : Cmd) (s : State) : Out := done (forceCmd s 2 2 c)

/-- The partner's answer to the oldest request it was asked (R539): no, or not in time, refuses it with code 5 on both. -/
def forceAnswered (s : State) (ep : Nat) (ok : Bool) : State :=
  match s.frc.reqs.find? fun r => r.asked && !r.accepted && decide (r.ep = ep) with
  | none => s
  | some r =>
    let rest := s.frc.reqs.filter fun q => q ≠ r
    if ok ∧ s.grid.frame ≤ r.frame + 1 then { s with frc := { s.frc with reqs := rest ++ [{ r with accepted := true }] } }
    else tokel (refuseForce { s with frc := { s.frc with reqs := rest } } 5 r.session) 0x30 [3, r.ep, 0]

/-- Requests that the partner has not confirmed by the end of frame k + 1 are refused (R539). -/
def forceTick (s : State) : State :=
  (s.frc.reqs.filter fun r => r.asked && !r.accepted && decide (r.frame + 2 ≤ s.grid.frame)).foldl
    (fun u r => forceAnswered u r.ep false) s

/-- A mirrored request arrives at the partner, which confirms it (R539). -/
def forceMirrored (s : State) (r : ForceReq) : State :=
  if s.pair.role = .standby ∨ s.pair.role = .learning then
    tokel { s with frc := { s.frc with reqs := s.frc.reqs ++ [{ r with asked := false, accepted := true }] } } 0x30 [3, r.ep, 1]
  else s

/-- The active withdraws a mirrored request. -/
def forceWithdrawn (s : State) (ep : Nat) : State :=
  { s with frc := { s.frc with reqs := s.frc.reqs.filter fun r => decide (r.ep ≠ ep) || r.asked } }

end Sys2Proof.Machine
end

