-- ==== Sys2Proof/Machine/Change.lean ====
section
/-! DEFINITION. On-line change (R201–R216, R223, R225). -/

namespace Sys2Proof.Machine

open Sys2Proof

/-- Change the OLC state. -/
def setOlc (s : State) (f : OlcState → OlcState) : State := { s with olc := f s.olc }

/-- A request is refused (OLC_STAT.REFUSE). -/
def refuseOlc (s : State) (code session : Nat) : State :=
  refuse (setBit (wrField s Reg.OLC_STAT 23 20 code) Reg.OLC_EVT_STAT 5) Reg.OLC_CMD (some code) session

/-- An engineer on a module that leads (R202). -/
def olcMay (s : State) (session : Nat) : Bool := hasRole s session 2 && s.pair.role.leads

/-- A program a partition owns: engine, number, settings and words. -/
structure OwnProg where
  eng : Nat
  num : Nat
  cfg : ProgCfg
  words : List Word
deriving DecidableEq

/-- What a partition owns in an image: classes, programs with their words, slot entries by core, and endpoints (R205). -/
structure PartOwn where
  classes : List (Nat × ClassCfg)
  progs : List OwnProg
  slots : List (Nat × SlotEnt)
  dir : List (Nat × DWord)
deriving DecidableEq

/-- What partition p owns. -/
def partOwns (i : Image) (p : Nat) : PartOwn :=
  let words := fun (e : LeCfg) (q : ProgCfg) => (upto q.len).map fun k => (look e.pmem (q.entry + k)).getD 0
  { classes := i.classes.filter (fun c => decide (c.2.part = p))
    progs := i.le.flatMap fun e => (e.2.progs.filter fun q => decide (q.2.part = p)).map fun q => ⟨e.1, q.1, q.2, words e.2 q.2⟩
    slots := i.fbx.slots.flatMap fun c => (c.2.filter fun x => decide (((look i.classes x.cls).getD {}).part = p)).map fun x => (c.1, x)
    dir := i.dir.filter (fun d => decide (dpart d.2 = p)) }

/-- The partitions that a change replaces (R205). -/
def replacedParts (old new : Image) : List Nat := (upto 128).filter fun p => decide (partOwns old p ≠ partOwns new p)

/-- The change alters a safety partition (R202). -/
def touchesSafety (old new : Image) : Bool :=
  (replacedParts old new).any fun p => ((look old.parts p).getD {}).safety || ((look new.parts p).getD {}).safety

/-- The mapping table is well formed (R208). -/
def mapWf (m : List MapEnt) : Bool :=
  m.all fun e => decide (e.iid ≠ 0) && decide (1 ≤ e.kind) && decide (e.kind ≤ 4) && decide (1 ≤ e.len)
    && decide (e.oldType ≠ 0 ∨ e.newType ≠ 0) && decide ((m.filter fun f => decide (f.iid = e.iid)).length = 1)

/-- Bytes of application-core state whose location changes (R210). -/
def mapBytes (m : List MapEnt) : Nat :=
  m.foldl (fun n e => if e.kind = 2 ∧ e.oldType = e.newType ∧ (e.oldLoc ≠ e.newLoc ∨ e.oldEng ≠ e.newEng) then n + 8 * e.len else n) 0

/-- OLC_LOAD: a download into the shadow bank (R201, R207). -/
def execOlcLoad (session : Nat) (img : Image) (map : List MapEnt) (kib : Nat) (s0 : State) : Out :=
  let s := touch s0 session
  let st := s.olc.stage
  let trial := decide (s.upd.slotA.state = 2) || decide (s.upd.slotB.state = 2)
  if !olcMay s session then done (refuseOlc s 10 session)
  else if st = 1 ∨ st = 3 ∨ st = 4 ∨ st = 5 ∨ trial = true ∨ (st = 2 ∧ (s.olc.shadow.map (·.id)) ≠ some img.id) then
    done (refuseOlc s 1 session)
  else done (setOlc s fun o => { o with
    stage := 1, shadow := some img, map := map, kib := kib, verified := false, partnerOk := false, asking := none })

/-- The code with which verification fails; 0 none (R203, R210). ok: every check that CONFIGURE applies and no rule of this
model computes passes, the signatures among them. -/
def verifyCode (s : State) (i : Image) (ok : Bool) : Nat :=
  if i.baseId ≠ s.cfg.id then 2
  else if i.highrate ≠ s.cfg.highrate then 4
  else if !ok || !imageRules i || !mapWf s.olc.map then 3
  else if 2097152 < mapBytes s.olc.map then 9 else 0

/-- PREPARED is reached (R203). -/
def olcPrepared (s : State) : State := raise (setOlc s fun o => { o with stage := 2, partnerOk := true }) { blk := 0x16, ev := 0 }

/-- OLC_VERIFY: verification ends (R203). crc: the CRC-32C over image and mapping table. -/
def execOlcVerify (ok : Bool) (crc : Word) (s : State) : Out :=
  match s.olc.shadow with
  | none => done s
  | some i =>
    if s.olc.stage ≠ 1 then done s
    else
      let code := verifyCode s i ok
      if code ≠ 0 then done (refuseOlc (setOlc s fun o => { o with stage := 0, shadow := none, map := [] }) code 0)
      else
        let s1 := setOlc s fun o => { o with verified := true, crc := crc }
        match s.pair.role with
        | .active => done (tokel s1 0x30 [4, crc.toNat])
        | .solo => done (olcPrepared s1)
        | _ => done (tokel (olcPrepared s1) 0x30 [4, crc.toNat])

/-- The partner reports its CRC (R203). -/
def olcPartnerCrc (s : State) (crc : Word) : State :=
  if s.olc.stage = 1 ∧ s.olc.verified = true ∧ s.olc.crc = crc then olcPrepared s else s

/-- A write of OLC_CMD by an engineer on a leading module. -/
def olcCmd (s : State) (bit : Nat) (c : Cmd) (f : State → State) : State :=
  written s Reg.OLC_CMD c fun t =>
    if field c.value 31 16 ≠ 0x5A3C then setBit (wrField (keyWrong t Reg.OLC_CMD c.value) Reg.OLC_STAT 23 20 11) Reg.OLC_EVT_STAT 5
    else if !flag c.value bit then t
    else if !olcMay t c.session then refuseOlc t 10 c.session
    else f t

/-- The frame named by OLC_ARM_LO and OLC_ARM_HI. -/
def armFrame (s : State) : Nat := (rd s Reg.OLC_ARM_LO).toNat + 2 ^ 32 * (rd s Reg.OLC_ARM_HI).toNat

/-- The cause for which ARM is refused; 0 none (R202, R204, R207, R223). -/
def armRefusal (s : State) (i : Image) (relforce : Bool) : Nat :=
  let n := armFrame s
  let k := s.grid.frame
  if n < k + 240 ∨ k + 8640000 < n then 7
  else if touchesSafety s.cfg i && !s.saf.smmOn then 6
  else if !relforce && (forcesOf s).any (fun f => epUnforced i s.cfg f.2.ep) then 5
  else if s.pair.role = .active ∧ (s.pair.partner.role ≠ 3 ∨ s.pair.linkUp = false) then 8 else 0

/-- The change is ARMED for frame n. -/
def olcArmed (s : State) (n : Nat) (relforce : Bool) : State :=
  setOlc s fun o => { o with stage := 3, arm := n, relforce := relforce, asking := none }

/-- OLC_CMD.ARM (R204). On an ACTIVE module the partner is asked to arm the same frame. -/
def execOlcArm (c : Cmd) (s : State) : Out :=
  done (olcCmd s 2 c fun t =>
    match t.olc.stage, t.olc.shadow with
    | 2, some i =>
      let rel := flag c.value 6
      let code := armRefusal t i rel
      if code ≠ 0 then refuseOlc t code c.session
      else
        let t1 := accepted t Reg.OLC_CMD c
        if t.pair.role = .active then
          tokel (setOlc t1 fun o => { o with asking := some (armFrame t), relforce := rel }) 0x30 [5, armFrame t, bit1 rel 0]
        else olcArmed t1 (armFrame t) rel
    | 0, _ => refuse t Reg.OLC_CMD none c.session
    | _, _ => refuseOlc t 1 c.session)

/-- OLC_CMD.DISARM (R206). -/
def execOlcDisarm (c : Cmd) (s : State) : Out :=
  done (olcCmd s 3 c fun t =>
    if t.olc.stage = 3 then
      tokel (raise (setOlc (accepted t Reg.OLC_CMD c) fun o => { o with stage := 2 }) { blk := 0x16, ev := 1, sev := some 1 }) 0x30 [6]
    else setOlc t fun o => { o with asking := none })

/-- OLC_CMD.ABORT discards the prepared image (R207). -/
def execOlcAbort (c : Cmd) (s : State) : Out :=
  done (olcCmd s 1 c fun t =>
    if t.olc.stage = 2 then
      tokel (setOlc (accepted t Reg.OLC_CMD c) fun o => { o with stage := 0, shadow := none, map := [], partnerOk := false }) 0x30 [7]
    else refuse t Reg.OLC_CMD none c.session)

/-- REVERT is accepted in frame k: it takes effect 24 frames later (R213). -/
def olcRevertAt (s : State) (k : Nat) : State := setOlc s fun o => { o with stage := 5, revertAt := k + 24 }

/-- OLC_CMD.REVERT (R213). -/
def execOlcRevert (c : Cmd) (s : State) : Out :=
  done (olcCmd s 4 c fun t =>
    if t.olc.stage = 4 then tokel (olcRevertAt (accepted t Reg.OLC_CMD c) t.grid.frame) 0x30 [8, t.grid.frame]
    else refuseOlc t 12 c.session)

/-- The window ends and the previous configuration is discarded (R214). -/
def windowEnds (s : State) : State :=
  raise (setOlc s fun o => { o with stage := 0, shadow := none, map := [], partnerOk := false }) { blk := 0x16, ev := 4 }

/-- OLC_CMD.ACCEPT (R214). -/
def execOlcAccept (c : Cmd) (s : State) : Out :=
  done (olcCmd s 5 c fun t =>
    if t.olc.stage = 4 then tokel (windowEnds (accepted t Reg.OLC_CMD c)) 0x30 [9] else refuseOlc t 12 c.session)

/-- OLC_WINDOW_EXPIRY (R214). -/
def execOlcWindowExpiry (t : Nat) (s0 : State) : Out :=
  let s := atTime s0 t
  if s.olc.stage = 4 ∧ s.olc.windowEnd ≤ s.grid.frame then done (windowEnds s) else done s

/-! ### The switch of configurations (R205, R208–R213, R223) -/

/-- The word address of a byte offset in a partition's instance or retained area. -/
def locWord (i : Image) (part loc : Nat) : Nat :=
  ((i.fbx.areas.find? fun a => decide (a.part = part) && decide (2 ≤ a.kind) && decide (loc / 8 < a.hi - a.lo)).map (·.lo)).getD 0
    + loc / 8

/-- An entry copies its state: types equal and non-zero (R209). -/
def MapEnt.keeps (e : MapEnt) : Bool := decide (e.oldType = e.newType) && decide (e.newType ≠ 0)

/-- The inverse of an entry (R213). -/
def MapEnt.inverse (e : MapEnt) : MapEnt :=
  { e with oldEng := e.newEng, newEng := e.oldEng, oldType := e.newType, newType := e.oldType, oldLoc := e.newLoc, newLoc := e.oldLoc }

/-- The history memory of an engine under the new image: the mapped cells (R209, R211). -/
def mappedCells (s : State) (m : List MapEnt) (e : Nat) : Tbl Word :=
  m.foldl (fun t x => if x.kind = 1 ∧ x.newEng = e ∧ x.keeps = true then
    tset 0 t x.newLoc (tget 0 (leOf s x.oldEng).hist x.oldLoc) else t) []

/-- The partition memory under the new image: initial values and mapped blocks (R209). -/
def mappedWords (s : State) (m : List MapEnt) (old new : Image) : Tbl DWord :=
  m.foldl (fun t x => if x.kind = 2 ∧ x.keeps = true then
    (upto x.len).foldl (fun u k => tset 0 u (locWord new x.part x.newLoc + k) (tget 0 s.fbx.mem (locWord old x.part x.oldLoc + k))) t
    else t) (tsetAll 0 [] new.fbx.initWords)

/-- An endpoint's binding changes or is new (R212). -/
def epChanged (old new : Image) (ep : Nat) : Bool :=
  let a := (look old.dir ep).getD 0
  let b := (look new.dir ep).getD 0
  decide (btype a ≠ btype b) || decide (daddr a ≠ daddr b) || decide (dpart a ≠ dpart b)

/-- A bank without the endpoints whose binding changed: they read as never collected (R212). -/
def Bank.without (b : Bank) (p : Nat → Bool) : Bank :=
  { bin := b.bin.filter fun e => !p e.1, sq := b.sq.filter fun e => !p e.1, ana := b.ana.filter fun e => !p e.1
    hiz := b.hiz.filter fun e => !p e }

/-- The forces meet the change (R223). -/
def reconcileForces (s : State) (old new : Image) : State :=
  (forcesOf s).foldl (fun u e =>
    if epUnforced new old e.2.ep then dropForce u e.1 1 0
    else if !dSafety ((look old.dir e.2.ep).getD 0) && dSafety ((look new.dir e.2.ep).getD 0) then
      { u with frc := { u.frc with table := tset none u.frc.table e.1 (some { e.2 with till := some (u.grid.frame + maxForce) }) } }
    else u) s

/-! ### Persisting the new configuration (R215) -/

/-- Every retained item of the running application. -/
def retAll (s : State) : Tbl DWord :=
  let words := (s.cfg.fbx.areas.filter fun a => decide (a.kind = 3)).flatMap fun a =>
    (upto (a.hi - a.lo)).map fun k => (retKeyWord (a.lo + k), tget 0 s.fbx.mem (a.lo + k))
  let cells := s.cfg.le.flatMap fun e => e.2.windows.flatMap fun w =>
    (upto w.2.retained).map fun k => (retKeyCell e.1 (w.2.base + k), (tget 0 (leOf s e.1).hist (w.2.base + k)).zeroExtend 64)
  let eps := (s.cfg.dir.filter fun d => dRetain d.2).map fun d =>
    let a := tget {} s.sig.committed.ana d.1
    (retKeyEp d.1, if isBinary d.1 then retEpWord (tget 0x7#4 s.sig.committed.bin d.1) 0 (tget qualNever s.sig.committed.sq d.1) true
      else retEpWord 0 a.val a.qual false)
  tsetAll 0 [] (words ++ cells ++ eps)

/-- A retained copy rewritten whole in the running layout. -/
def fullCopy (s : State) : RetCopy :=
  { gen := s.grid.frame, image := s.cfg.id, hashes := imageHashes s.cfg, marker := 1, content := retAll s }

/-- The running configuration as a slot-memory copy with the next generation. -/
def nextSlotCopy (s : State) : SlotCopy :=
  let c := if s.upd.copyA.gen < s.upd.copyB.gen then s.upd.copyB else s.upd.copyA
  { c with state := 1, gen := max s.upd.copyA.gen s.upd.copyB.gen + 1, imageId := s.cfg.id, image := s.cfg, s1Image := s.cfg.id }

/-- A step of R215 completes. -/
def persistStep (s : State) : State :=
  let s1 := match s.olc.slotw with
    | 1 => showCopies { s with fbx := { s.fbx with copyA := fullCopy s, changed := [] } }
    | 2 => if s.pair.role.leads then { s with upd := { s.upd with copyA := nextSlotCopy s } } else s
    | 3 => showCopies { s with fbx := { s.fbx with copyB := fullCopy s } }
    | 4 => if s.pair.role.leads then { s with upd := { s.upd with copyB := s.upd.copyA } } else s
    | _ => s
  let k := s.olc.slotw
  if 1 ≤ k ∧ k ≤ 4 then
    let s2 := setOlc s1 fun o => { o with slotw := k + 1 }
    let s3 := if s.pair.role.leads && (decide (k = 2) || decide (k = 4)) then tokel s2 0x30 [10, k] else s2
    if k = 4 then raise s3 { blk := 0x16, ev := 6 } else s3
  else s1

/-- PERSIST_STEP_END (R215). The standby's steps 2 and 4 complete when the active reports them. -/
def execPersistStepEnd (t : Nat) (s0 : State) : Out :=
  let s := atTime s0 t
  if (s.olc.slotw = 2 ∨ s.olc.slotw = 4) ∧ s.pair.role.leads = false then done s else done (persistStep s)

end Sys2Proof.Machine
end

