-- ==== Sys2Proof/Machine/SafetyMonitor.lean ====
section
/-! DEFINITION. The safety monitor, safety inputs, drive monitors, safe telegrams and maintenance mode (R278–R303). -/

namespace Sys2Proof.Machine

open Sys2Proof

/-- Change the state of the safety functions. -/
def setSaf (s : State) (f : SafState → SafState) : State := { s with saf := f s.saf }

/-! ### The monitor (R282–R284) -/

/-- A failed check of SAF (R282, R284): 1 channels, 2 sequencer, 3 clock, 4 voltage, 5 KILL path, 6 SC response, 7 drive
monitor comparison; detail is the clock domain, rail or instance. -/
def execModuleSafeState (cause detail t : Nat) (s0 : State) : Out :=
  let s := atTime s0 t
  if stage s = 0 ∨ cause = 0 ∨ 7 < cause then done s
  else
    let s1 := if cause = 3 then setBit s Reg.SAF_CLK_STAT (detail % 16)
      else if cause = 4 then setBit s Reg.SAF_VOLT_STAT (detail % 8) else s
    done (moduleSafe s1 (some cause) detail)

/-- SAF_WD_RESP (R283): the challenge in bits 31:16 and its complement in bits 15:0. -/
def execSafWdResp (c : Cmd) (s : State) : Out :=
  done (written s Reg.SAF_WD_RESP c fun t =>
    let chal := field (rd t Reg.SAF_WD_CHAL) 15 0
    if field c.value 31 16 = chal ∧ field c.value 15 0 = 0xFFFF - chal then setSaf t fun x => { x with respOk := true }
    else setSaf t fun x => { x with respSeen := true })

/-- At a freeze the frame that ends is judged, and a fresh challenge is placed (R283). -/
def safChallenge (s : State) : State :=
  let good := s.saf.respOk && !s.saf.respSeen
  let d := drawWord s
  let s1 := wr d.2 Reg.SAF_WD_CHAL (w32 (d.1.toNat % 65536))
  setSaf s1 fun x => { x with respMiss := if good then 0 else x.respMiss + 1, respOk := false, respSeen := false }

/-- SAF_WD_EXPIRY: three frames in a row without a correct response (R283). -/
def execSafWdExpiry (t : Nat) (s0 : State) : Out :=
  let s := atTime s0 t
  if 3 ≤ s.saf.respMiss ∧ 1 ≤ stage s then done (moduleSafe s (some 6)) else done s

/-- KILL_PATH_TEST in the guard phase: the gates are tested alternately (R282). -/
def execKillPathTest (ok : Bool) (t : Nat) (s0 : State) : Out :=
  let s := atTime s0 t
  if s.grid.phase ≠ 3 then done s
  else
    let w := rd s Reg.SAF_KPATH
    let n := field w 15 0
    let gate := if n = 0 then 0 else 1 - field w 30 30
    let s1 := wr s Reg.SAF_KPATH (w32 (bit1 ok 31 + gate * 2 ^ 30 + min 65535 (n + 1)))
    if ok then done s1 else done (moduleSafe s1 (some 5))

/-! ### Safety inputs (R286–R289) -/

/-- ON, or OFF, without d. -/
def cleanOn (v : Tetrad) : Bool := decide (tstate v = 2) && !tdoubt v
def cleanOff (v : Tetrad) : Bool := decide (tstate v = 1) && !tdoubt v

/-- The proof of an entry takes value v; gone: its source is lost (R287). -/
def proofStep (x : SinState) (v : Tetrad) (gone : Bool) : SinState :=
  match x.proof with
  | 0 =>
    if cleanOff v then (if 1 ≤ x.offRun then { x with proof := 1, offRun := 0 } else { x with offRun := 1 })
    else { x with offRun := 0 }
  | 1 => if cleanOn v then { x with proof := 2 } else if cleanOff v then x else { x with proof := 0, offRun := 0 }
  | _ => if gone || decide (tstate v = 3) then { x with proof := 0, offRun := 0 } else x

/-- What a start-up test passes on. -/
def proofOut (x : SinState) (v : Tetrad) : Tetrad := if x.proof = 2 then v else 0x5#4

/-- The discrepancy test of a and b (R288); a FAULTY entry clears when both are OFF without d. -/
def discStep (x : SinState) (a b : Tetrad) : SinState × Tetrad :=
  let on := cleanOn a && cleanOn b
  let off := cleanOff a && cleanOff b
  if x.faulty then
    if off then ({ x with faulty := false, dcount := 0, agree := true }, 0x1#4) else ({ x with agree := false }, 0x7#4)
  else if on then ({ x with dcount := 0, agree := true }, 0x2#4)
  else if off then ({ x with dcount := 0, agree := true }, 0x1#4)
  else ({ x with dcount := if x.agree ∨ x.dcount = 0 then 1 else min 8191 (x.dcount + 1), agree := false }, 0x5#4)

/-- Write a tetrad over the frozen value of an endpoint. -/
def overFrozen (s : State) (ep : Nat) (v : Tetrad) : State :=
  let b := s.sig.working
  { s with sig := { s.sig with working := { b with bin := tset 0x7#4 b.bin ep v } } }

/-- An entry is evaluated on the frozen values before forces, and its result replaces them (R286). -/
def evalSin (s : State) (i : Nat) (c : SinCfg) : State :=
  let x := tget {} s.saf.sin i
  let a := bankBin s s.sig.working c.epA
  let b := bankBin s s.sig.working c.epB
  let gone := tget false s.sig.lost c.epA || (decide (c.mode ≠ 1) && tget false s.sig.lost c.epB)
  let d := if c.mode = 1 then (x, a) else discStep x a b
  let y := if c.mode = 2 then d.1 else proofStep d.1 d.2 gone
  let v := if c.mode = 2 then d.2 else proofOut y d.2
  let s1 := setSaf s fun z => { z with sin := tset {} z.sin i y }
  let s2 := overFrozen s1 c.epA v
  let s3 := if c.mode = 1 then s2 else overFrozen s2 c.epB v
  let s4 := if y.proof = 2 ∧ x.proof ≠ 2 then raise s3 { blk := 8, ev := 2, info := [i] } else s3
  if x.faulty && !y.faulty then recordBare s4 1 { blk := 8, ev := 0, info := [i, 0] } else s4

/-- Every entry of the safety input table at a freeze. -/
def safInputs (s : State) : State := s.cfg.saf.sins.foldl (fun t e => evalSin t e.1 e.2) s

/-- DISCREPANCY_TIMEOUT: a disagreement that has lasted DTIME latches FAULTY (R288). -/
def execDiscrepancyTimeout (i t : Nat) (s0 : State) : Out :=
  let s := atTime s0 t
  let x := tget {} s.saf.sin i
  match look s.cfg.saf.sins i with
  | none => done s
  | some c =>
    if c.mode ≠ 1 ∧ !x.faulty ∧ !x.agree ∧ c.dtime < x.dcount then
      let y := { x with faulty := true }
      let z := if c.mode = 3 then proofStep y 0x7#4 false else y
      let s1 := setSaf s fun w => { w with sin := tset {} w.sin i z }
      let v := if c.mode = 3 then proofOut z 0x7#4 else 0x7#4
      done (raise (overFrozen (overFrozen s1 c.epA v) c.epB v) { blk := 8, ev := 3, info := [i] })
    else done s

/-- The status tetrad of an entry (R289). -/
def sinStatus (s : State) (i : Nat) : Tetrad :=
  let x := tget {} s.saf.sin i
  match look s.cfg.saf.sins i with
  | none => 0x5#4
  | some c =>
    if x.faulty then 0x7#4
    else if c.mode = 2 then (if x.agree then 0x2#4 else 0x5#4)
    else if x.proof = 2 then 0x2#4 else 0x5#4

/-! ### Safe telegrams received (R293, R295–R297) -/

/-- Cell i of a PDU. -/
def pduCell (bs : List Byte) (i : Nat) : Nat := ((bs.getD (20 + i / 2) 0).toNat / 2 ^ (4 * (i % 2))) % 16

/-- The position that cells 8g … 8g + 7 form. -/
def pduPos (bs : List Byte) (g : Nat) : Int :=
  (BitVec.ofNat 32 ((upto 8).foldl (fun n i => n + pduCell bs (8 * g + i) * 16 ^ i) 0)).toInt

/-- The length of a PDU with n cells (R293). -/
def pduLen (n : Nat) : Nat := (20 + (n + 1) / 2 + 3) / 4 * 4 + 4

/-- The CRC of a PDU verifies. -/
def pduCrcOk (bs : List Byte) : Bool :=
  decide (ofLeBytes (bs.drop (bs.length - 4)) = (crc32c (bs.take (bs.length - 4))).toNat)

/-- The module's base is locked: a PTP base is selected (TIM_STAT.SEL, R381). -/
def baseLocked (s : State) : Bool := decide (field (rd s Reg.TIM_STAT) 31 30 ≠ 0)

/-- A telegram is discarded and counted (R295). -/
def stcDiscard (s : State) (k : Nat) : State :=
  setSaf s fun x => { x with stc := tmod ({} : StcState) x.stc k fun c => { c with discards := satAdd 0xFFFF c.discards 1, bad := true } }

/-- The cells that are tetrads are collected under the connection's endpoints (R293). -/
def collectCells (s : State) (c : RxCfg) (bs : List Byte) (t : Nat) : State :=
  (upto c.ntet).foldl (fun u i =>
    if i < 8 ∧ c.posgrp % 2 = 1 ∨ 8 ≤ i ∧ i < 16 ∧ c.posgrp / 2 % 2 = 1 then u
    else match c.cells[i]? with
    | some ep => collectOwn u ep (BitVec.ofNat 4 (pduCell bs i)) t
    | none => u) s

/-- A telegram arrives for receive connection k over LAN lan at time t (R295, R296). -/
def safTelegram (s : State) (k lan : Nat) (bs : List Byte) (t : Nat) : State :=
  match look s.cfg.saf.rx k with
  | none => s
  | some c =>
    let id := ofLeBytes (bs.take 4)
    let seq := ofLeBytes ((bs.drop 4).take 4)
    let ts := ofLeBytes ((bs.drop 8).take 8)
    let x := tget {} s.saf.stc k
    let put := fun (u : State) (y : StcState) => setSaf u fun z => { z with stc := tset {} z.stc k y }
    if lan = 2 ∧ id = 0 then s
    else if bs.length ≠ pduLen c.ntet ∨ pduCrcOk bs = false ∨ id ≠ c.connid ∨ (bs.getD 16 0).toNat ≠ c.ntet then stcDiscard s k
    else
      let d := match x.base with
        | some b => (seq + 2 ^ 32 - b) % 2 ^ 32
        | none => 1
      let aged := (bs.getD 17 0).getLsbD 0 && baseLocked s && decide (c.maxage * 1250000 < 3 * (t - ts))
      if d = 0 then
        match x.copy with
        | some q =>
          if q.bytes = bs ∧ aged then stcDiscard s k
          else if q.bytes = bs then
            put s { x with got := true, lastFrame := s.grid.frame, copy := some { q with second := q.second || decide (q.lan ≠ lan) } }
          else put s { x with differ := true }
        | none => if aged then stcDiscard s k else put s { x with got := true, lastFrame := s.grid.frame }
      else if c.seqwin < d ∨ aged = true then stcDiscard s k
      else
        let s1 := collectCells s c bs t
        put s1 { x with
          base := some seq, seq := seq, got := true, fresh := true, lastFrame := s.grid.frame
          pos0 := if c.posgrp % 2 = 1 then pduPos bs 0 else x.pos0
          pos1 := if c.posgrp / 2 % 2 = 1 then pduPos bs 1 else x.pos1
          copy := some { bytes := bs, lan := lan, frame := s.grid.frame, second := false } }

/-- A connection enters its safe state (R297). Cause: 1 watchdog, 2 a difference, 3 restart. -/
def stcSafe (s : State) (k cause : Nat) : State :=
  let s1 := setSaf s fun x => { x with stc := tmod ({} : StcState) x.stc k fun c => { c with
    safe := true, cause := cause, good := 0, acked := false, base := none, differ := false, got := false, bad := false, copy := none } }
  raise s1 { blk := 8, ev := 4, info := [k, cause] }

/-- A connection at a freeze: a difference brings the safe state; in it telegrams are counted until it may leave (R297). -/
def stcFreeze (s : State) (k : Nat) (c : RxCfg) : State :=
  let x := tget {} s.saf.stc k
  let put := fun (u : State) (y : StcState) => setSaf u fun z => { z with stc := tset {} z.stc k y }
  if x.differ && !x.safe then stcSafe s k 2
  else
    let good := if !x.safe then 0 else if x.bad || x.differ then 0 else if x.got then min 3 (x.good + 1) else x.good
    let leaves := x.safe && decide (good = 3) && (!c.ack || x.acked)
    let y := { x with good := if leaves then 0 else good, got := false, bad := false, differ := false
                      acked := if leaves then false else x.acked && decide (good = 3), safe := x.safe && !leaves }
    if leaves then raise (put s y) { blk := 8, ev := 5, info := [k] } else put s y

/-- Every endpoint of a connection in its safe state reads OFF:d (R297). -/
def stcOverlay (s : State) : State :=
  s.cfg.saf.rx.foldl (fun t e =>
    if (tget {} t.saf.stc e.1).safe then e.2.cells.foldl (fun u ep => overFrozen u ep 0x5#4) t else t) s

/-- STC_WATCHDOG_EXPIRY: no telegram accepted for WD frames (R297). A difference found at the same freeze is its cause (R301). -/
def execStcWatchdogExpiry (k t : Nat) (s0 : State) : Out :=
  let s := atTime s0 t
  let x := tget {} s.saf.stc k
  match look s.cfg.saf.rx k with
  | none => done s
  | some c =>
    if !x.safe ∧ x.lastFrame + c.wd ≤ s.grid.frame then done (stcOverlay (stcSafe s k (if x.differ then 2 else 1))) else done s

/-- SINGLE_COPY_LOSS: the second copy has not come within 2 frames (R296). -/
def execSingleCopyLoss (k t : Nat) (s0 : State) : Out :=
  let s := atTime s0 t
  let x := tget {} s.saf.stc k
  match look s.cfg.saf.rx k, x.copy with
  | some c, some q =>
    if c.prp ∧ !q.second ∧ q.frame + 2 ≤ s.grid.frame then
      let y := { x with losses := satAdd 0xFFFF x.losses 1, copy := some { q with second := true } }
      done (setSaf s fun z => { z with stc := tset {} z.stc k y })
    else done s
  | _, _ => done s

/-- SAF_STC_CMD.ACK (R297). -/
def execStcAck (c : Cmd) (s : State) : Out :=
  done (keyedBit s Reg.SAF_STC_CMD 0 c fun t =>
    let k := field (rd t Reg.SAF_STC_SEL) 9 0
    let x := tget {} t.saf.stc k
    if (hasRole t c.session 1 || hasRole t c.session 2) && (look t.cfg.saf.rx k).isSome && x.safe && decide (x.good = 3) then
      accepted (setSaf t fun z => { z with stc := tset {} z.stc k { x with acked := true } }) Reg.SAF_STC_CMD c
    else refuse t Reg.SAF_STC_CMD none c.session)

/-- SAF_CMD.CLR_CNT (R303). -/
def execSafClrCnt (c : Cmd) (s : State) : Out :=
  done (keyedBit s Reg.SAF_CMD 0 c fun t =>
    cleared (setSaf t fun x => { x with stc := tmapAll {} (fun _ y => { y with losses := 0, discards := 0 }) x.stc }) Reg.SAF_CMD c.session)

/-! ### Drive monitors (R290–R292) -/

/-- A tetrad for a judged condition. -/
def judged (b : Bool) : Tetrad := if b then 0x2#4 else 0x1#4

/-- The evaluation of a drive monitor with position p (R291). -/
def evalDrive (x : DrvState) (c : DrvCfg) (p : Int) (fresh : Bool) (sel : Tetrad) : DrvState :=
  let prev := x.hist.headD p
  let back := (p :: x.hist).getD c.swin p
  let changed := decide (x.dirsel ≠ sel.toNat)
  let r0 := if changed then p else x.ref
  let pos := tstate sel = 2
  let neg := tstate sel = 1
  let r := if pos then max r0 p else if neg then min r0 p else r0
  let inside := fun (v : Int) => decide (c.pmin ≤ v) && decide (v ≤ c.pmax)
  let posOk := inside p && inside (p + (c.look : Int) * (p - prev))
  let dirOk := if pos then decide (r - p ≤ c.dtol) else if neg then decide (p - r ≤ c.dtol) else decide ((p - r).natAbs ≤ c.dtol.natAbs)
  let spdOk := decide ((p - back).natAbs ≤ (c.vmax * (c.swin : Int)).natAbs)
  let run := if fresh then x.freshRun + 1 else 0
  let a := judged posOk
  let b := judged dirOk
  let d := if c.swin < run then judged spdOk else 0x5#4
  { hist := (p :: x.hist).take 17, ref := r, dirsel := sel.toNat, fresh := fresh, freshRun := run
    outs := if fresh then [a, b, d, tand (tand a b) d] else [0x5#4, 0x5#4, 0x5#4, 0x5#4] }

/-- The module-status endpoints of SAF with a kind in ADDR bits 13:12. -/
def safEps (s : State) (kind : Nat) : List (Nat × DWord) :=
  s.cfg.dir.filter fun e => decide (btype e.2 = 0xD) && decide (field e.2 39 32 = 8) && decide (field e.2 13 12 = kind)

/-- Every drive monitor in the align phase, on the values frozen; its outputs are collected (R290). -/
def driveMonitors (s : State) : State :=
  let s1 := s.cfg.saf.drvs.foldl (fun t e =>
    let k := tget {} t.saf.stc e.2.conn
    let p := if e.2.group = 0 then k.pos0 else k.pos1
    let fresh := k.fresh && !k.safe
    setSaf t fun z => { z with drv := tset {} z.drv e.1 (evalDrive (tget {} z.drv e.1) e.2 p fresh (frozenBin t e.2.dirsel)) }) s
  (safEps s1 2).foldl (fun t e =>
    let x := tget {} t.saf.drv (field e.2 11 2)
    collectOwn t e.1 (x.outs.getD (field e.2 1 0) 0x5#4) t.grid.freezeAt) s1

/-! ### Safe telegrams sent (R294) -/

/-- The cells of a PDU packed two to a byte. -/
def packCells : List Nat → List Byte
  | [] => []
  | [a] => [BitVec.ofNat 8 a]
  | a :: b :: t => BitVec.ofNat 8 (a + 16 * b) :: packCells t

/-- The PDU of a publication with its SEQ (R293). -/
def buildPdu (s : State) (c : PubCfg) (seq : Nat) : List Byte :=
  let cells := (upto c.ntet).map fun i => (tget 0x7#4 s.sig.committed.bin (c.cells.getD i 0)).toNat
  let body := leBytes 4 c.connid ++ leBytes 4 seq ++ leBytes 8 s.grid.freezeAt
    ++ leBytes 1 c.ntet ++ leBytes 1 (bit1 (baseLocked s) 0 + bit1 s.pair.sideB 1) ++ leBytes 1 c.posgrp ++ leBytes 1 0
    ++ packCells cells
  let padded := body ++ List.replicate (pduLen c.ntet - 4 - body.length) 0
  padded ++ leBytes 4 (crc32c padded).toNat

/-- The gate of a publication is closed: module safe state, partition safe state, or its own (R44, R284, R285). -/
def pubGated (s : State) (k : Nat) (c : PubCfg) : Bool :=
  s.saf.safe || s.saf.psafe.contains c.part || (tget {} s.saf.pub k).gateClosed || gatesClosed s

/-- A publication at the commit: a new SEQ when its class committed, a repeat every REPEAT frames (R294). The telegram leaves
as a member of its GOOSE publication, or in the chain payload. -/
def publishSafe (s : State) (k : Nat) (c : PubCfg) : State :=
  let x := tget {} s.saf.pub k
  let n := s.grid.frame
  let fresh := decide ((classOf s c.cls).st = .done)
  if !fresh && !(x.n0.isSome && decide (x.sentFrame + c.repeatN ≤ n)) then s
  else
    let n0 := x.n0.getD n
    let y := if fresh then { x with n0 := some n0, seq := (n - n0 + 1) % 2 ^ 32, sentFrame := n, gateClosed := false } else { x with sentFrame := n }
    let z := if fresh then { y with pdu := buildPdu s c y.seq } else y
    setSaf s fun w => { w with pub := tset {} w.pub k z }

/-- Every publication at the commit. -/
def publishSafes (s : State) : State := s.cfg.saf.pubs.foldl (fun t e => publishSafe t e.1 e.2) s

/-! ### Safety maintenance mode (R298, R299, R539) -/

/-- Change the maintenance mode. -/
def setSmm (s : State) (f : Smm → Smm) : State := setSaf s fun x => { x with smm := f x.smm }

/-- A command of maintenance mode is refused (SAF_SMM_STAT.REFUSE). -/
def refuseSmm (s : State) (code session : Nat) : State :=
  refuse (wrField s Reg.SAF_SMM_STAT 29 26 code) Reg.SAF_SMM_CMD (some code) session

/-- A write of SAF_SMM_CMD. -/
def smmCmd (s : State) (bit : Nat) (c : Cmd) (f : State → State) : State :=
  written s Reg.SAF_SMM_CMD c fun t =>
    if field c.value 31 16 ≠ 0x5A3C then wrField (keyWrong t Reg.SAF_SMM_CMD c.value) Reg.SAF_SMM_STAT 29 26 6
    else if flag c.value bit then f t else t

/-- The roles in which the mode may be entered. -/
def smmRole (s : State) : Bool := s.pair.role.leads || decide (s.pair.role = .detached)

/-- SAF_SMM_CMD.REQUEST (R298). -/
def execSmmRequest (c : Cmd) (s : State) : Out :=
  done (smmCmd s 0 c fun t =>
    let dur := field c.value 13 8
    if !smmRole t then refuseSmm t 1 c.session
    else if !hasRole t c.session 2 then refuseSmm t 2 c.session
    else if t.saf.smm.stage ≠ 0 then refuseSmm t 7 c.session
    else if dur = 0 ∨ 32 < dur then refuseSmm t 5 c.session
    else
      let d := drawWord t
      accepted (setSmm d.2 fun _ => { stage := 1, session := c.session, dur := dur, code := d.1.toNat % 1000000, codeAt := t.grid.mono })
        Reg.SAF_SMM_CMD c)

/-- SAF_SMM_CMD.ENTER (R298, R539). -/
def execSmmEnter (c : Cmd) (s : State) : Out :=
  done (smmCmd s 1 c fun t =>
    let x := t.saf.smm
    let k := t.grid.frame
    if !smmRole t then refuseSmm t 1 c.session
    else if !hasRole t c.session 2 then refuseSmm t 2 c.session
    else if x.stage ≠ 1 ∨ x.session ≠ c.session ∨ x.given ≠ some x.code ∨ 60000000000 < t.grid.mono - x.codeAt then
      refuseSmm t 3 c.session
    else
      let t1 := accepted t Reg.SAF_SMM_CMD c
      if t.pair.role = .active then
        let ask := asksPartner t
        let t2 := setSmm t1 fun y => { y with stage := 2, askedAt := k, confirmed := !ask, startAt := some (k + 2) }
        if ask then tokel t2 0x30 [11, x.session, x.dur, k] else t2
      else setSmm t1 fun y => { y with stage := 2, askedAt := k, confirmed := true, startAt := some (k + 1) })

/-- The mode ends: safety forces, debug sessions on safety engines and an armed change that needs it end with it (R299). -/
def endSmm (s : State) : State :=
  let s1 := raise (setSaf s fun x => { x with smmOn := false, smm := {} }) { blk := 8, ev := 6, info := [s.saf.smm.session, 0] }
  let s2 := dropSafetyForces s1
  let s3 := (upto 8).foldl (fun t e => if hostsSafety t e && flag (rd t (Reg.LE_DBG_CTRL e)) 31 then closeDebug t e else t) s2
  match s3.olc.shadow with
  | some i => if s3.olc.stage = 3 ∧ touchesSafety s3.cfg i = true then autoDisarm s3 4 else s3
  | none => s3

/-- The mode is to end: on an ACTIVE module at the freeze of k + 2 on both modules (R298, R539), otherwise at the next freeze,
where a released source force gives way (DEDUCED, R218). -/
def leaveSmm (s : State) : State :=
  match s.saf.smm.stage with
  | 0 => s
  | 3 =>
    if s.pair.role = .active then
      tokel (setSmm s fun x => { x with endAt := some (s.grid.frame + 2) }) 0x30 [12, s.grid.frame]
    else setSmm s fun x => { x with endAt := some (s.grid.frame + 1) }
  | _ => setSmm s fun _ => {}

/-- SAF_SMM_CMD.EXIT (R298). -/
def execSmmExit (c : Cmd) (s : State) : Out := done (smmCmd s 2 c fun t => leaveSmm (accepted t Reg.SAF_SMM_CMD c))

/-- SMM_CODE_EXPIRY after 60 s. -/
def execSmmCodeExpiry (t : Nat) (s0 : State) : Out :=
  let s := atTime s0 t
  if s.saf.smm.stage = 1 ∧ 60000000000 ≤ s.grid.mono - s.saf.smm.codeAt then done (setSmm s fun _ => {}) else done s

/-- SMM_START: the mode comes into force at its freeze. -/
def execSmmStart (t : Nat) (s0 : State) : Out :=
  let s := atTime s0 t
  let x := s.saf.smm
  if x.stage = 2 ∧ x.confirmed ∧ s.grid.phase = 0 ∧ (x.startAt.any fun f => decide (f ≤ s.grid.frame)) then
    let s1 := setSaf s fun y => { y with smmOn := true, smm := { x with stage := 3, till := s.grid.frame + x.dur * 2160000 } }
    done (raise s1 { blk := 8, ev := 6, info := [x.session, 1] })
  else done s

/-- SMM_EXPIRY at the end of the duration. -/
def execSmmExpiry (t : Nat) (s0 : State) : Out :=
  let s := atTime s0 t
  if s.saf.smm.stage = 3 ∧ s.saf.smm.till ≤ s.grid.frame then done (endSmm s) else done s

/-- At each freeze: an entry the partner has not confirmed in time is refused with code 4, and an end due takes effect. -/
def smmTick (s : State) : State :=
  let x := s.saf.smm
  if x.stage = 2 ∧ !x.confirmed ∧ x.askedAt + 2 ≤ s.grid.frame then
    tokel (refuseSmm (setSmm s fun _ => {}) 4 x.session) 0x30 [13]
  else if x.endAt.any (fun f => decide (f ≤ s.grid.frame)) then endSmm s else s

/-- The partner answers an entry (R539). -/
def smmAnswered (s : State) (ok : Bool) : State :=
  let x := s.saf.smm
  if x.stage = 2 ∧ !x.confirmed then
    if ok ∧ s.grid.frame ≤ x.askedAt + 1 then setSmm s fun y => { y with confirmed := true }
    else tokel (refuseSmm (setSmm s fun _ => {}) 4 x.session) 0x30 [13]
  else s

/-- A mirrored entry arrives at the partner, which confirms it. -/
def smmMirrored (s : State) (session dur frame : Nat) : State :=
  if s.pair.role = .standby ∨ s.pair.role = .learning then
    tokel (setSmm s fun _ => { stage := 2, session := session, dur := dur, askedAt := frame, confirmed := true, startAt := some (frame + 2) })
      0x30 [14, 1]
  else s

/-- The session that holds the mode, or was shown the code, closes (R298). -/
def smmSessionClosed (s : State) (id : Nat) : State := if s.saf.smm.session = id then leaveSmm s else s

end Sys2Proof.Machine
end

