-- ==== Sys2Proof/Machine/Align.lean ====
section
/-! DEFINITION. The Tokel link, input alignment, hallmarks and learning (R250–R265, R539). -/

namespace Sys2Proof.Machine

open Sys2Proof

/-! ### Digests (R255) -/

/-- The source endpoints of a partition, in the order of the directory. -/
def sourceEps (s : State) (p : Nat) : List Nat :=
  (s.cfg.dir.filter fun e => decide (dpart e.2 = p) && isSource s e.1).map (·.1)

/-- The record of a source endpoint (R255). -/
def srcRec (s : State) (ep : Nat) : List Byte :=
  if isBinary ep then
    leBytes 3 ep ++ leBytes 1 (frozenBin s ep).toNat
      ++ leBytes 2 (if dSq (dirEntry s ep) then (frozenSq s ep).toNat else 0) ++ leBytes 2 0
  else
    let a := frozenAna s ep
    leBytes 4 a.val.toNat ++ leBytes 2 a.qual.toNat ++ leBytes 2 (ageOf s a)

/-- A list cut into pieces of n; the first argument bounds their number. -/
def chunks {α : Type} : Nat → Nat → List α → List (List α)
  | 0, _, _ => []
  | k + 1, n, l => if l.isEmpty then [] else l.take n :: chunks k n (l.drop n)

/-- The telegram list of a partition: its items' words in the drain bank of its core. -/
def tgList (s : State) (p : Nat) : List DWord := (acOf s (partCfg s p).core).drain.wordsOf p

/-- The digests of a partition (R255). -/
def digestOf (s : State) (p : Nat) : PartDigest :=
  let recs := (sourceEps s p).map (srcRec s)
  let tg := dwordBytes (tgList s p)
  { part := p
    d := crc64 (recs.flatten ++ tg)
    blocks := (chunks (recs.length + 1) 512 recs).map fun b => crc64 b.flatten
    t := crc64 tg }

/-- The partitions of the image. -/
def partNums (s : State) : List Nat := (upto 128).filter fun p => decide (p = 0) || (look s.cfg.parts p).isSome

/-! ### Alignment (R256–R258) -/

/-- Change the alignment state. -/
def setAlign (s : State) (f : Align → Align) : State := setPair s fun p => { p with align := f p.align }

/-- What differs between the active's digests and one's own. -/
def needOf (mine theirs : PartDigest) : BlockNeed :=
  { part := mine.part
    blocks := (upto (max mine.blocks.length theirs.blocks.length)).filter fun i => decide (mine.blocks[i]? ≠ theirs.blocks[i]?)
    tg := decide (mine.t ≠ theirs.t) }

/-- The size of a need in bytes. -/
def needBytes (s : State) (n : BlockNeed) : Nat := 4096 * n.blocks.length + (if n.tg then 8 * (tgList s n.part).length else 0)

/-- The needs covered within the bytes left, in ascending partition order, and the lagging partitions (R257). -/
def coverNeeds (s : State) : Nat → List BlockNeed → List BlockNeed × List Nat
  | _, [] => ([], [])
  | left, n :: ns =>
    let size := needBytes s n
    if size ≤ left then
      let r := coverNeeds s (left - size) ns
      (n :: r.1, r.2)
    else ([], (n :: ns).map (·.part))

/-- DIGEST reaches the standby by 5,000 ns: it compares and sends BLKREQ (R256, R257). -/
def execLinkDigest (parts : List PartDigest) (t : Nat) (s0 : State) : Out :=
  let s := atTime s0 t
  if aligns s = false ∨ s.grid.phase ≠ 0 ∨ s.grid.freezeAt + 5000 < t then done s
  else
    let mine := (partNums s).map (digestOf s)
    let needs := (mine.filterMap fun m => (parts.find? fun q => decide (q.part = m.part)).map fun q => (m, q)).filterMap fun mq =>
      if mq.1.d = mq.2.d ∧ mq.1.t = mq.2.t then none else some (needOf mq.1 mq.2)
    let r := coverNeeds s 65536 (needs.filter fun n => !n.blocks.isEmpty || n.tg)
    let s1 := setAlign s fun a => { a with digestIn := true, need := r.1, lag := r.2 }
    if r.1.isEmpty then done s1 else done (tokel s1 0x11 (r.1.flatMap fun n => n.part :: bit1 n.tg 0 :: n.blocks))

/-- The bytes of a block of a partition's source image. -/
def blockBytes (s : State) (p i : Nat) : List Byte := ((((sourceEps s p).map (srcRec s)).drop (512 * i)).take 512).flatten

/-- BLKREQ reaches the active: it sends REPAIR, and the lagging partitions get a DELTA after the commit (R256, R257). -/
def execLinkBlkreq (needs : List BlockNeed) (lag : List Nat) (t : Nat) (s0 : State) : Out :=
  let s := atTime s0 t
  if s.pair.role ≠ .active then done s
  else
    let data := needs.flatMap fun n => n.part :: ((n.blocks.flatMap (blockBytes s n.part)).map (·.toNat))
      ++ (if n.tg then (tgList s n.part).map (·.toNat) else [])
    done (tokel (setAlign s fun a => { a with lag := lag, need := needs }) 0x12 data)

/-- A record is written into the working bank (R256). -/
def repairRec (s : State) (r : SrcRec) : State :=
  let b := s.sig.working
  let cell : AnaCell := { val := r.val, qual := r.qual, born := some (s.grid.freezes - r.age) }
  let b1 := if isBinary r.ep then { b with bin := tset 0x7#4 b.bin r.ep r.tet, sq := tset qualNever b.sq r.ep r.sq }
    else { b with ana := tset {} b.ana r.ep cell }
  { s with sig := { s.sig with working := b1 } }

/-- The active's items replace those of a partition in the drain bank (R256). -/
def repairTelegrams (s : State) (p : Nat) (its : List TgItem) : State :=
  let k := (partCfg s p).core
  let x := acOf s k
  setAc s k { x with drain := { x.drain with items := (x.drain.items.filter fun i => decide (i.part ≠ p)) ++ its } }

/-- REPAIR reaches the standby, complete by 38,000 ns (R256). -/
def execLinkRepair (parts : List RepairPart) (t : Nat) (s0 : State) : Out :=
  let s := atTime s0 t
  if aligns s = false ∨ s.grid.phase ≠ 0 ∨ s.grid.freezeAt + 38000 < t then done s
  else
    done (parts.foldl (fun u r =>
      if u.pair.align.need.any (fun n => decide (n.part = r.part)) then
        let u1 := r.recs.foldl repairRec u
        let u2 := match r.tg with
          | some its => repairTelegrams u1 r.part its
          | none => u1
        setAlign u2 fun a => { a with repaired := a.repaired ++ [r.part] }
      else u) s)

/-- The map registers of a list of partitions. -/
def partMap (s : State) (reg : Nat → Nat) (ps : List Nat) : State :=
  (upto 4).foldl (fun u k => wr u (reg k) (w32 ((ps.filter fun p => decide (p / 32 = k)).foldl (fun w p => w + 2 ^ (p % 32)) 0))) s

/-- At 40,000 ns the alignment of the frame is judged: unaligned partitions, maps, counts, runs of lag (R257, R258). -/
def alignClose (s : State) : State :=
  let a := s.pair.align
  if !(aligns s) then wrField s Reg.PAIR_ALIGN_STAT 31 30 0
  else
    let unal := if !a.digestIn then partNums s
      else ((a.need.filter fun n => !a.repaired.contains n.part).map (·.part)) ++ (a.wasLag.filter fun p => !a.deltaDone.contains p)
    let kib := (a.need.filter fun n => a.repaired.contains n.part).foldl (fun k n => k + 4 * n.blocks.length) 0
    let bad := (a.lag ++ unal).eraseDups
    let outcome := if !bad.isEmpty then 3 else if !a.repaired.isEmpty then 2 else 1
    let runs := tsetAll 0 [] (a.lag.map fun p => (p, tget 0 a.lagRuns p + 1))
    let s1 := setAlign s fun x => { x with lagRuns := runs }
    let s2 := setPair s1 fun p => { p with hmSpoilt := p.hmSpoilt || !bad.isEmpty }
    let s3 := wr s2 Reg.PAIR_ALIGN_STAT (w32 (outcome * 2 ^ 30 + min 64 kib * 2 ^ 16 + a.repaired.length * 256 + bad.length))
    let s4 := partMap (partMap s3 Reg.PAIR_REPMAPn a.repaired) Reg.PAIR_LAGMAPn a.lag
    let s5 := if a.repaired.isEmpty then s4 else setBit (addField s4 Reg.PAIR_ALIGN_CNT 15 0 1) Reg.PAIR_AEVT_STAT 0
    let s6 := if a.lag.isEmpty then s5 else raiseA (addField s5 Reg.PAIR_ALIGN_CNT 31 16 1) 1 a.lag
    let s7 := (upto 4).foldl (fun u k => setAc u k { acOf u k with closed := true }) s6
    if a.lag.any (fun p => decide (8 < tget 0 runs p)) then reLearn s7 7 else s7

/-- The alignment state at a freeze: the lagging partitions of the frame before await their DELTA. -/
def alignFreeze (s : State) : State :=
  setAlign s fun a => { lagRuns := a.lagRuns, wasLag := a.lag }

/-! ### Hallmarks (R259–R262) -/

/-- An internal or sink endpoint (R259). -/
def isOwned (s : State) (ep : Nat) : Bool := !isSource s ep && decide (btype (dirEntry s ep) ≠ 0) && decide (btype (dirEntry s ep) ≠ 0xE)

/-- The output bank with the stores of the classes that committed in this frame (R25, R259). -/
def applyStores (s : State) (b : Bank) (vs : List StoreVal) : Bank :=
  vs.foldl (fun c v =>
    if isBinary v.ep then { c with bin := tset 0x7#4 c.bin v.ep v.tet, sq := tset qualNever c.sq v.ep v.qual }
    else
      let bad := nonFinite v.val
      let cell : AnaCell := { val := if bad then (tget {} c.ana v.ep).val else v.val
                              qual := if bad then 0x0041#16 else v.qual, born := some s.grid.freezes }
      { c with ana := tset {} c.ana v.ep cell }) b

/-- O of the frame (R259): binary image of 131,072 bytes, analogue image and side quality table of 524,288 bytes each,
as the pieces that the internal and sink endpoints give; everything else enters as zero. -/
def hallO (s : State) (b : Bank) : DWord :=
  let eps := endpointsWith s fun ep _ => isOwned s ep
  crc64Pieces 1179648 (eps.flatMap fun ep =>
    if isBinary ep then
      let tet := (tget 0x7#4 b.bin ep).toNat
      let img := (ep / 2, [BitVec.ofNat 8 (if ep % 2 = 0 then tet else 16 * tet)])
      if dSq (dirEntry s ep) then [img, (655360 + 2 * ep, leBytes 2 (tget qualNever b.sq ep).toNat)] else [img]
    else
      let a := tget {} b.ana ep
      [(131072 + 8 * (ep - 0x40000), leBytes 4 a.val.toNat ++ leBytes 2 a.qual.toNat)])

/-- C of the frame: all 524,288 history cells, in engine order and then cell order (R259); a cell not listed holds zero. -/
def hallC (s : State) : DWord :=
  crc64Pieces 2097152 ((upto 8).flatMap fun e => (leOf s e).hist.map fun h => (262144 * e + 4 * h.1, leBytes 4 h.2.toNat))

/-- The byte offset of a word in its partition's area. -/
def areaOffset (s : State) (p a : Nat) : Nat :=
  8 * (a - ((s.cfg.fbx.areas.find? fun r => decide (r.part = p) && decide (r.lo ≤ a) && decide (a < r.hi)).map (·.lo)).getD 0)

/-- W of the frame: the words released by the journals of the classes that completed. -/
def hallW (s : State) : DWord :=
  let recs := (upto 4).flatMap fun k => (acOf s k).released.flatMap fun r =>
    leBytes 1 r.1 ++ leBytes 3 0 ++ leBytes 4 (areaOffset s r.1 r.2.1) ++ leBytes 8 r.2.2.toNat
  if recs.isEmpty then 0 else crc64 recs

/-- The hallmark of the frame as sealed (R259). -/
def hallmarkOf (s : State) : Hallmark :=
  let o := hallO s (applyStores s s.sig.output s.sig.pend)
  let c := hallC s
  let w := hallW s
  { frame := s.grid.frame, o := o, c := c, w := w
    h := crc64 (leBytes 8 s.grid.frame ++ leBytes 8 o.toNat ++ leBytes 8 c.toNat ++ leBytes 8 w.toNat) }

/-- At the freeze, one module is ACTIVE and the other STANDBY, or LEARNING with its classes running (R260). -/
def hmAttempt (s : State) : Bool :=
  let p := s.pair
  (decide (p.role = .active) && (decide (p.partner.role = 3) || (decide (p.partner.role = 4) && p.learn.running)))
    || (aligns s && decide (p.partner.role = 2))

/-- HALLMARK of the partner arrives (R260). -/
def execLinkHallmark (hm : Hallmark) (t : Nat) (s0 : State) : Out :=
  let s := atTime s0 t
  done (setPair s fun p => { p with hmPartner := some hm })

/-- The halves of a 64-bit value. -/
def halves (v : DWord) : List Nat := [v.toNat % 2 ^ 32, v.toNat / 2 ^ 32]

/-- Hallmarks that differ (R261, R262). -/
def hmMismatch (s : State) (a b : Hallmark) : State :=
  let n := s.grid.frame
  let win := n :: s.pair.hmMisses.filter fun f => decide (n - f ≤ 207360000)
  let s1 := setPair (addField s Reg.PAIR_HM_CNT 31 16 1) fun p => { p with hmMisses := win, lastHm := (false :: p.lastHm).take 2 }
  let s2 := raiseA (wrField s1 Reg.PAIR_HM_STAT 28 27 0) 2 (halves a.o ++ halves a.c ++ halves a.w ++ halves b.o ++ halves b.c ++ halves b.w) (some 2)
  let s3 := { s2 with upd := { s2.upd with matchRun := 0 } }
  let s4 := if win.length = 3 ∨ (3 < win.length ∧ flag (rd s3 Reg.PAIR_HM_STAT) 29 = false) then
      raiseA (wrField s3 Reg.PAIR_HM_STAT 29 29 1) 3 [] (some 2) else s3
  if aligns s4 then reLearn s4 7 else s4

/-- Hallmarks that match. -/
def hmMatch (s : State) : State :=
  let s1 := setPair s fun p => { p with
    lastHm := (true :: p.lastHm).take 2, hmCompared := true
    learn := if p.learn.phase = 5 then { p.learn with matched := p.learn.matched + 1 } else p.learn }
  let s2 := { s1 with upd := { s1.upd with matchRun := s1.upd.matchRun + 1 } }
  addField s2 Reg.PAIR_HM_STAT 28 27 1

/-- In the align phase the hallmarks of the frame before are compared (R260). -/
def hallmarkCompare (s : State) : State :=
  let p := s.pair
  let k := s.grid.frame - 1
  let near := p.hmMisses.filter fun f => decide (s.grid.frame - f ≤ 207360000)
  let s0 := wrField (setPair s fun q => { q with hmMisses := near }) Reg.PAIR_HM_STAT 26 24 (min 7 near.length)
  let s1 := if near.length < 3 then wrField s0 Reg.PAIR_HM_STAT 29 29 0 else s0
  if !p.hmRoles then wrField s1 Reg.PAIR_HM_STAT 31 30 0
  else
    let s2 := wrField s1 Reg.PAIR_HM_STAT 15 0 k
    match p.hm, p.hmPartner with
    | some a, some b =>
      if p.hmSpoilt || decide (a.frame ≠ k) || decide (b.frame ≠ k) then
        addField (wrField s2 Reg.PAIR_HM_STAT 31 30 3) Reg.PAIR_HM_CNT 15 0 1
      else
        let s3 := setPair s2 fun q => { q with hmOwnLatched := a.h, hmPartnerLatched := b.h }
        if a.h = b.h then hmMatch (wrField s3 Reg.PAIR_HM_STAT 31 30 1)
        else
          let s4 := hmMismatch (wrField s3 Reg.PAIR_HM_STAT 31 30 2) a b
          wrField s4 Reg.PAIR_HM_STAT 26 24 (min 7 s4.pair.hmMisses.length)
    | _, _ => addField (wrField s2 Reg.PAIR_HM_STAT 31 30 3) Reg.PAIR_HM_CNT 15 0 1

/-! ### The link (R252–R254) -/

/-- FMARK of the partner on one lane (R252, R254). A module in JOIN takes the partner's frame number. -/
def execLinkFmark (m : Fmark) (t : Nat) (s0 : State) : Out :=
  if 4 ≤ m.lane then done s0
  else
    let s := atTime s0 t
    let adopt := decide (stage s = 4) && decide (s.pair.role = .offline) && (decide (m.report.role = 1) || decide (m.report.role = 2))
      && decide (s.grid.frame ≠ m.frame)
    let s1 := if adopt then relabel s m.frame else s
    let lanes := if s1.pair.lanesIn.contains m.lane then s1.pair.lanesIn else m.lane :: s1.pair.lanesIn
    let s2 := setPair s1 fun p => { p with
      lanesIn := lanes
      partner := { p.partner with base := m.base, olc := m.olc, health := m.health, fmarkFrame := some m.frame } }
    let s3 := wr (wr s2 Reg.PAIR_LINK_DLY (w32 (m.delay % 65536))) Reg.PAIR_GRID_OFS (i32 m.ofs)
    let s4 := { s3 with grid := { s3.grid with gridOfs := m.ofs } }
    let s5 := if lanes.length = 4 ∧ s4.pair.linkUp = false then raiseA (setPair s4 fun p => { p with linkUp := true }) 5 [] else s4
    done (partnerReported s5 m.report)

/-- At a freeze: the frames up are counted, the lanes start afresh, a grid offset above 2 µs is counted (R252, R254). -/
def linkFreeze (s : State) : State :=
  let p := s.pair
  let up := p.linkUp && decide (p.lanesIn.length = 4)
  let far := (decide (p.role = .learning) || decide (p.role = .standby)) && decide (2000 < s.grid.gridOfs.natAbs)
  let n := if up then min 65535 (p.upFrames + 1) else 0
  let lanes := p.lanesIn.foldl (fun w l => w + 2 ^ l) 0
  let s1 := wr s Reg.PAIR_LINK_STAT (w32 (bit1 p.linkUp 31 + lanes * 2 ^ 24 + n))
  setPair s1 fun q => { q with upFrames := n, lanesIn := [], gridBad := if far then q.gridBad + 1 else 0 }

/-- GRID_DEVIATION: 24 frames in a row (R254). -/
def execGridDeviation (t : Nat) (s0 : State) : Out :=
  let s := atTime s0 t
  if 24 ≤ s.pair.gridBad ∧ s.pair.next = none then done (reLearn (raiseA s 7 []) 7) else done s

/-! ### Learning (R264) -/

/-- Change the learning state. -/
def setLearn (s : State) (f : Learning → Learning) : State := setPair s fun p => { p with learn := f p.learn }

/-- Bytes of learning received are shown in KiB. -/
def learnBytes (s : State) (n : Nat) : State :=
  let k := s.pair.learn.kib + n
  wr (setLearn s fun l => { l with kib := k }) Reg.PAIR_LEARN_KIB (w32 (min (2 ^ 22 - 1) (k / 1024)))

/-- SNAP (R264): the last one completes the snapshot in both retained copies. -/
def execLinkSnap (m : Snap) (t : Nat) (s0 : State) : Out :=
  let s := atTime s0 t
  if s.pair.role ≠ .learning ∨ s.pair.learn.phase ≠ 1 then done s
  else
    let copy : RetCopy := { gen := m.gen, image := s.cfg.id, hashes := imageHashes s.cfg, marker := if m.last then 1 else 2
                            content := tsetAll 0 s.fbx.copyA.content m.content }
    let s1 := showCopies { s with fbx := { s.fbx with copyA := copy, copyB := copy }, frc := { s.frc with table := m.forces } }
    let s2 := setSaf s1 fun x => { x with smmOn := m.smmOn, smm := m.smm }
    done (learnBytes (setLearn s2 fun l => { l with snapDone := l.snapDone || m.last }) m.bytes)

/-- A committed endpoint of the active is taken over: stored, committed, and frozen in the image that follows. -/
def takeRec (s : State) (r : SrcRec) : State :=
  let cell : AnaCell := { val := r.val, qual := r.qual, born := some s.grid.freezes }
  let put := fun (b : Bank) => if isBinary r.ep then
      { b with bin := tset 0x7#4 b.bin r.ep r.tet, sq := tset qualNever b.sq r.ep r.sq }
    else { b with ana := tset {} b.ana r.ep cell }
  { s with sig := { s.sig with working := put s.sig.working, output := put s.sig.output, committed := put s.sig.committed } }

/-- Transferred state is applied. -/
def applyXfer (s : State) (m : Xfer) : State :=
  let s1 := m.cells.foldl (fun u c => setLe u c.1 { leOf u c.1 with hist := tset 0 (leOf u c.1).hist c.2.1 c.2.2 }) s
  let s2 := { s1 with fbx := { s1.fbx with mem := tsetAll 0 s1.fbx.mem m.words } }
  let s3 := m.recs.foldl takeRec s2
  let s4 := m.parts.foldl (fun u p => setPart u p.1 p.2) s3
  let s5 := setSaf s4 fun x => { x with
    sin := tsetAll {} x.sin m.sins
    pub := m.pubs.foldl (fun t p => tmod ({} : PubState) t p.1 fun y => { y with n0 := some p.2 }) x.pub }
  match m.shadow with
  | some (i, map) => setOlc s5 fun o => { o with stage := 4, shadow := some i, map := map }
  | none => s5

/-- BULK (R264); in CONFIGURE it carries forwarded slot memory (R517). -/
def execLinkBulk (m : Xfer) (t : Nat) (s0 : State) : Out :=
  let s := atTime s0 t
  if s.pair.role = .learning ∧ s.pair.learn.phase = 2 then
    done (learnBytes (setLearn (applyXfer s m) fun l => { l with content := l.content || m.last }) m.bytes)
  else if stage s = 3 ∧ s.upd.devices = false then
    done { s with upd := m.copies.foldl (fun u c => if c.1 then { u with copyB := c.2 } else { u with copyA := c.2 }) s.upd }
  else done s

/-- DELTA: dirtied state of learning, or the state of a lagging partition, applied before 40,000 ns of the next frame (R257). -/
def execLinkDelta (m : Xfer) (t : Nat) (s0 : State) : Out :=
  let s := atTime s0 t
  match m.lagPart with
  | some p =>
    if aligns s = true ∧ s.grid.phase = 0 ∧ m.frame + 1 = s.grid.frame ∧ s.pair.align.wasLag.contains p = true then
      done (setAlign (applyXfer s m) fun a => { a with deltaDone := p :: a.deltaDone })
    else if aligns s = true ∧ s.grid.phase = 3 ∧ m.frame = s.grid.frame ∧ s.pair.align.lag.contains p = true then
      done (setAlign (applyXfer s m) fun a => { a with deltaDone := p :: a.deltaDone })
    else done s
  | none =>
    if s.pair.role = .learning ∧ s.pair.learn.phase = 3 then
      done (learnBytes (setLearn (applyXfer s m) fun l => { l with content := l.content || m.last }) m.bytes)
    else done s

/-- DFINAL after the commit of frame f, complete before 40,000 ns of f + 1 (R264). -/
def execLinkDfinal (m : Xfer) (t : Nat) (s0 : State) : Out :=
  let s := atTime s0 t
  if s.pair.role = .learning ∧ s.pair.learn.phase = 4 ∧ (s.grid.frame = m.frame ∨ (s.grid.frame = m.frame + 1 ∧ s.grid.phase = 0)) then
    done (learnBytes (setLearn (applyXfer s m) fun l => { l with content := true, running := true, finalFrame := m.frame }) m.bytes)
  else done s

/-- LEARN_PHASE_END (R264). An ACTIVE module follows the phases of its partner. -/
def execLearnPhaseEnd (t : Nat) (s0 : State) : Out :=
  let s := atTime s0 t
  let l := s.pair.learn
  let next := setLearn s fun x => { x with phase := x.phase + 1, content := false }
  if s.pair.role = .active ∧ s.pair.partner.role = 4 then
    if l.phase < 6 then done (setLearn next fun x => { x with running := decide (4 ≤ l.phase) }) else done (setLearn s fun x => { x with phase := 1, start := s.grid.frame, running := false })
  else if s.pair.role ≠ .learning then done s
  else match l.phase with
  | 1 => if l.snapDone then done next else done s
  | 2 => if l.content then done next else done s
  | 3 => if l.content then done next else done s
  | 4 => if l.content then done next else done s
  | 5 => if 2 ≤ l.matched then done (requestRole (raiseA next 6 []) .standby 3) else done s
  | _ => done s

/-! ### CTRL (R539) -/

/-- The incoming module's answer to a named handover frame (R240). -/
def switchNamed (s : State) (h kind : Nat) : State :=
  if s.pair.role = .standby ∧ s.pair.claspFail = false ∧ s.pair.sw = none ∧ s.grid.frame < h then
    tokel (setPair s fun p => { p with sw := some { h := h, kind := kind, outgoing := false, confirmed := true, start := h - 3 } }) 0x30 [15, h, 1]
  else tokel s 0x30 [15, h, 0]

/-- The partner's answer to the handover frame: confirmed by the end of frame k + 1, or the switchover is refused (R240). -/
def switchAnswered (s : State) (h : Nat) (ok : Bool) : State :=
  match s.pair.sw with
  | some w =>
    if w.outgoing ∧ w.h = h then
      if ok ∧ s.grid.frame ≤ w.start + 1 then setPair s fun p => { p with sw := some { w with confirmed := true } }
      else abortSwitch s 1
    else s
  | none => s

/-- The keys, labels and usage of a list of anchors. -/
def bareAnchors (l : List (Nat × Anchor)) : List (Nat × Anchor) := l.map fun a => (a.1, { a.2 with learned := false })
/-- The anchors of the module's store. -/
def ownAnchors (s : State) : List (Nat × Anchor) := s.upd.trust.filterMap fun e => e.2.map fun a => (e.1, a)

/-- The anchors of the partner are learned, or differ from a store that is not empty: stop 6 (R448). -/
def learnTrust (s0 : State) (anchors : List (Nat × Anchor)) : State :=
  let s := { s0 with upd := { s0.upd with partnerTrust := some (bareAnchors anchors) } }
  if s.upd.trust ≠ [] ∧ stage s = 3 ∧ bareAnchors (ownAnchors s) ≠ bareAnchors anchors then stopStart s 6
  else if s.upd.trust.isEmpty ∧ stage s = 3 ∧ (s.pair.partner.role = 1 ∨ s.pair.partner.role = 2) then
    raise { s with upd := { s.upd with trust := tsetAll none [] (anchors.map fun a => (a.1, some { a.2 with learned := true })) } }
      { blk := 0x13, ev := 6 }
  else s

/-- A CTRL message (R539). -/
def execLinkCtrl (m : Ctrl) (t : Nat) (s0 : State) : Out :=
  let s := atTime s0 t
  done (match m with
    | .report r => partnerReported s r
    | .switchName h kind => switchNamed s h kind
    | .switchAnswer h ok => switchAnswered s h ok
    | .force r => forceMirrored s r
    | .forceAnswer ep ok => if s.pair.role = .active then forceAnswered s ep ok else forceWithdrawn s ep
    | .smmEnter session dur frame => smmMirrored s session dur frame
    | .smmAnswer ok => if s.pair.role = .active then smmAnswered s ok else setSmm s fun x => if x.stage = 2 then {} else x
    | .smmEnd frame => setSmm s fun x => if x.stage = 3 then { x with endAt := some (frame + 2) } else x
    | .olcPrepared crc => olcPartnerCrc s crc
    | .olcArm n rel => if s.olc.stage = 2 ∧ s.pair.role = .standby then tokel (olcArmed s n rel) 0x30 [16, n] else s
    | .olcArmed n => if s.olc.stage = 2 ∧ s.olc.asking = some n then olcArmed s n s.olc.relforce else s
    | .olcDisarm => if s.olc.stage = 3 then raise (setOlc s fun o => { o with stage := 2 }) { blk := 0x16, ev := 1, sev := some 1 } else s
    | .olcAbort => if s.olc.stage = 2 then setOlc s fun o => { o with stage := 0, shadow := none, map := [], partnerOk := false } else s
    | .olcRevert frame => if s.olc.stage = 4 then olcRevertAt s frame else s
    | .olcAccept => if s.olc.stage = 4 then windowEnds s else s
    | .slotw step => if s.olc.slotw = step ∧ (step = 2 ∨ step = 4) ∧ s.pair.role.leads = false then persistStep s else s
    | .askSlots => if 3 ≤ stage s ∧ s.upd.devices = true then tokel s 0x41 [0] else s
    | .packageVerified => { s with upd := { s.upd with staging := { s.upd.staging with partnerOk := true } } }
    | .restartAt frame => { s with upd := { s.upd with across := some frame } }
    | .identity certsOk attestOk => recordBare s 4 { blk := 7, ev := 0, info := [bit1 certsOk 0, bit1 attestOk 0] }
    | .trust anchors => learnTrust s anchors)

/-- The PAIR status tetrads (R253): kind 0 redundancy, kind 1 the link over the frame before. -/
def pairStatus (s : State) (kind : Nat) (wasUp : Bool) (own : Word) : Tetrad :=
  let p := s.pair
  if kind = 0 then
    if p.claspFail then 0x7#4
    else if (p.role = .active ∧ p.partner.role = 3) ∨ (p.role = .standby ∧ p.partner.role = 2) then
      if p.hmCompared && !flag (rd s Reg.PAIR_HM_STAT) 29 && decide (p.lastHm.head? = some true) then 0x2#4 else 0x6#4
    else 0x5#4
  else if kind = 1 then (if wasUp then 0x2#4 else 0x5#4)
  else if kind < 64 then (if flag own (kind - 32) then 0x2#4 else 0x1#4)
  else match p.partner.fmarkFrame with
    | some f => if f + 1 = s.grid.frame then (if flag p.partner.health (kind - 64) then 0x2#4 else 0x1#4) else 0x5#4
    | none => 0x5#4

end Sys2Proof.Machine
end

