-- ==== Sys2Proof/Machine/Chain.lean ====
section
/-! DEFINITION. The chain field bus: requests, responses, misses, admission, addresses and epochs (R306–R327). -/

namespace Sys2Proof.Machine

open Sys2Proof

/-! ### The schedule (R315, R316) -/

/-- The occupancy of a transaction in ns. -/
def occupancy (out inp : Nat) : Nat := (36 + out + inp) * 100 + 2400

/-- The interval of an entry in its frame. -/
def entSpan (s : State) (p : Nat) (e : ChnEnt) : Nat × Nat :=
  let g := nodeSeg s p e.node e.seg
  (e.start, e.start + occupancy g.outLen g.inLen)

/-- The entry is due in frame n. -/
def entDue (e : ChnEnt) (n : Nat) : Bool := decide (n % periodFrames e.period = e.phase)

/-- The due intervals of a port in frame n. -/
def dueSpans (s : State) (p n : Nat) : List (Nat × Nat) :=
  ((chnCfg s p).sched.filter fun e => entDue e.2 n).map fun e => entSpan s p e.2

/-- The length of frame n. -/
def frameLen (n : Nat) : Nat := frameStart (n + 1) - frameStart n

/-- A transaction that starts at offset o and occupies d ns lies inside free time of the present frame. -/
def inFree (s : State) (p o d : Nat) : Bool :=
  let spans := dueSpans s p s.grid.frame
  let lo := (spans.filter fun x => decide (x.1 ≤ o)).foldl (fun m x => max m x.2) 4000
  let hi := (spans.filter fun x => decide (o < x.1)).foldl (fun m x => min m x.1) (frameLen s.grid.frame)
  decide (lo ≤ o) && decide (o + d ≤ hi) && decide (lo + 14000 ≤ hi)

/-- The longest free interval of a port in frame n, and the time its due entries occupy. -/
def freeGap (spans : List (Nat × Nat)) (len : Nat) : Nat :=
  let starts := 4000 :: spans.map (·.2)
  let gap := fun (a : Nat) =>
    if spans.any fun x => decide (x.1 ≤ a) && decide (a < x.2) then 0
    else (spans.filter fun x => decide (a ≤ x.1)).foldl (fun m x => min m x.1) len - a
  starts.foldl (fun m a => max m (gap a)) 0

/-! ### Requests -/

/-- The bytes of a request after its start delimiter, up to the CRC (R307). -/
def reqBytes (s : State) (addr epoch cmd : Nat) (payload : List Byte) : List Byte :=
  leBytes 1 (addr % 64) ++ leBytes 1 epoch ++ leBytes 1 cmd ++ leBytes 2 (payload.length % 2048) ++ leBytes 3 s.grid.frame ++ payload

/-- The instant of the last bit of a request that starts at t. -/
def reqEnd (t len : Nat) : Nat := t + (18 + len) * 100

/-- Send a request and wait for its response. -/
def sendReq (s : State) (p addr cmd : Nat) (payload : List Byte) (t : Nat) (ent : Nat := 0) : State :=
  let q := chnPort s p
  let e := q.epoch.getD 0
  let r : ChnReq := { addr := addr, epoch := e, cmd := cmd, fnum := s.grid.frame % 2 ^ 24, sentAt := reqEnd t payload.length, ent := ent }
  let s1 := setPort s p { q with req := some r }
  send s1 1 p ((reqBytes s addr e cmd payload).map (·.toNat))

/-- A request of free time is sent by a master whose request fits; expect is its response's payload. -/
def sendFree (s : State) (p addr cmd : Nat) (payload : List Byte) (expect t : Nat) : State :=
  if chnMaster s && portOn s p && inFree s p (t - s.grid.freezeAt) (occupancy payload.length expect) then
    sendReq s p addr cmd payload t
  else s

/-! ### DATA (R317, R318) -/

/-- The chain endpoints of a node in an area, with their index. -/
def chnEps (s : State) (bt p n area : Nat) : List (Nat × Nat) :=
  (epsAt s bt fun a => decide (chnPortOf a = p) && decide (chnNodeOf a = n) && decide (chnArea a = area)).map fun ep =>
    (ep, chnIndex (daddr (dirEntry s ep)))

/-- The first byte of an endpoint in the node image, and how many it takes (R311, R318). -/
def chnByte (area index : Nat) : Nat × Nat :=
  match area with
  | 0 => (index / 2, 1)
  | 1 => (0x400 + 8 * index, 8)
  | _ => (0xC40 + 56 * (index / 64), 56)

/-- A tetrad as a chain output sends it (R42, R317). -/
def chnOutTet (v : Tetrad) : Tetrad := if tstate v = 0 ∨ tstate v = 3 then mkTet 1 true (tover v) else v

/-- Slot j of a node as it is sent: the PDU of a publication that sends with the commit of the frame before, zero-padded; else
no telegram (R294). -/
def slotBytes (s : State) (p n j : Nat) : List Byte :=
  let mine := fun (c : PubCfg) => c.chain && c.cells.any fun ep =>
    let a := daddr (dirEntry s ep)
    decide (chnPortOf a = p) && decide (chnNodeOf a = n) && decide (chnArea a = 2) && decide (chnIndex a / 64 = j)
  let pdu := match s.cfg.saf.pubs.find? fun e => mine e.2 with
    | some e =>
      let x := tget {} s.saf.pub e.1
      if x.n0.isSome && decide (x.sentFrame + 1 = s.grid.frame) && !pubGated s e.1 e.2 then x.pdu else []
    | none => []
  (pdu ++ List.replicate 56 0).take 56

/-- Byte b of a node's output space, from the distribute bank. -/
def outByte (s : State) (tets anas : List (Nat × Nat)) (p n b : Nat) : Byte :=
  if b < 0x400 then
    let half := fun (i : Nat) => match tets.find? fun e => decide (e.2 = i) with
      | some e => (chnOutTet (distBin s e.1)).toNat
      | none => 0
    BitVec.ofNat 8 (half (2 * b) + 16 * half (2 * b + 1))
  else if b < 0xC00 then
    match anas.find? fun e => decide (e.2 = (b - 0x400) / 8) with
    | some e =>
      let a := distAna s e.1
      (leBytes 4 a.val.toNat ++ leBytes 2 a.qual.toNat ++ [0, 0]).getD ((b - 0x400) % 8) 0
    | none => 0
  else if 0xC40 ≤ b ∧ b < 0xFC0 then (slotBytes s p n ((b - 0xC40) / 56)).getD ((b - 0xC40) % 56) 0
  else 0

/-- The payload of a DATA request. -/
def outPayload (s : State) (p n : Nat) (g : ChnSeg) : List Byte :=
  let tets := chnEps s 6 p n 0
  let anas := chnEps s 6 p n 1
  (upto g.outLen).map fun i => outByte s tets anas p n (g.outOfs + i)

/-- DATA: entry i of a port starts its transaction (R315, R317, R321, R327). -/
def execChainData (p i t : Nat) (s0 : State) : Out :=
  let s := atTime s0 t
  match look (chnCfg s p).sched i with
  | none => done s
  | some e =>
    let q := chnPort s p
    let blocked := decide ((chnNode s p e.node).st = 5) || (decide (q.dup.st = 1) && decide (q.dup.addr = e.node))
    if !chnMaster s ∨ q.epoch = none ∨ blocked ∨ !entDue e s.grid.frame ∨ !s.grid.running then done s
    else if s.chn.omitFrame = some s.grid.frame ∧ e.start < 52000 then done (setBit s Reg.CHN_EVT_STAT 7)
    else
      let g := nodeSeg s p e.node e.seg
      done (sendReq s p e.node (0x10 + e.seg) (outPayload s p e.node g) t i)

/-! ### Node states -/

/-- The input endpoints of a segment, with area and index. -/
def segInputs (s : State) (p n : Nat) (g : ChnSeg) : List (Nat × Nat × Nat) :=
  (nodeInputs s p n).filterMap fun ep =>
    let a := daddr (dirEntry s ep)
    let b := chnByte (chnArea a) (chnIndex a)
    if g.inOfs ≤ b.1 ∧ b.1 + b.2 ≤ g.inOfs + g.inLen then some (ep, chnArea a, chnIndex a) else none

/-- A node becomes OK. -/
def nodeOk (s : State) (p n : Nat) : State :=
  let x := chnNode s p n
  if x.st = 3 then s else raise (setNode s p n { x with st := 3, consec := 0, needAdmit := false }) { blk := 0xC, ev := 2, info := [p, n] }

/-- A node becomes MISMATCH (R321). -/
def nodeMismatch (s : State) (p n : Nat) : State :=
  raise (setNode s p n { chnNode s p n with st := 6 }) { blk := 0xC, ev := 5, info := [p, n, (chnNode s p n).step] }

/-- A miss of a segment (R320, R321): its inputs hold with d, or invalid, from the next freeze. -/
def chainMissed (s : State) (p n seg : Nat) : State :=
  let x := chnNode s p n
  let y := { x with
    miss := satAdd 0xFFFF x.miss 1, consec := satAdd 0xFF x.consec 1
    missed := if x.missed.contains seg then x.missed else seg :: x.missed }
  let q := chnPort (setNode s p n y) p
  let s1 := setBit (setPort (setNode s p n y) p { q with miss := satAdd 0xFFFFFFFF q.miss 1 }) Reg.CHN_EVT_STAT 0
  let s2 := (segInputs s1 p n (nodeSeg s1 p n seg)).foldl (fun u e =>
    if isBinary e.1 then collectGot u e.1 { tet := lastBin u e.1 ||| 0x4#4, qual := Config.sideQual (lastBin u e.1 ||| 0x4#4).toNat, stamp := u.grid.now }
    else collectGot u e.1 { val := lastAna u e.1, qual := ((bankAna u u.sig.working e.1).qual &&& 0xFFFC#16) ||| 0x0001#16, stamp := u.grid.now }) s1
  let s3 := record s2 { blk := 0xC, ev := 0, info := [p, n, seg] }
  if y.st = 3 ∧ (nodeCfg s p n).lostn ≤ y.consec then nodeLost s3 p n else s3

/-! ### Duplicate addresses (R323) -/

/-- The procedure ends. -/
def dupEnds (s : State) (p : Nat) (dup : Bool) : State :=
  let q := chnPort s p
  let s1 := setPort s p { q with dup := { q.dup with st := if dup then 2 else 3 }, req := none }
  if dup then
    raise (setNode s1 p q.dup.addr { chnNode s1 p q.dup.addr with st := 5 }) { blk := 0xC, ev := 4, info := [p, q.dup.addr, q.dup.bit] }
  else recordBare s1 1 { blk := 0xC, ev := 0, info := [p, q.dup.addr, q.dup.bit] }

/-- The present probe is answered or not; the next one follows. -/
def probeResult (s : State) (p : Nat) (answered : Bool) : State :=
  let q := chnPort s p
  let d := q.dup
  let s1 := setPort s p { q with req := none }
  let q1 := chnPort s1 p
  if d.v = 1 then setPort s1 p { q1 with dup := { d with v := 0, one := answered, tries := 0 } }
  else if d.one && answered then dupEnds s1 p true
  else if d.bit = 63 then dupEnds s1 p false
  else setPort s1 p { q1 with dup := { d with bit := d.bit + 1, v := 1, one := false, tries := 0 } }

/-- A probe draws a CRC failure: it is repeated up to 3 times, then counts as answered by both values. -/
def probeCrc (s : State) (p : Nat) : State :=
  let q := chnPort s p
  if q.dup.tries < 3 then setPort s p { q with req := none, dup := { q.dup with tries := q.dup.tries + 1 } } else dupEnds s p true

/-- PROBE: the next request of the procedure. -/
def execChainProbe (p t : Nat) (s0 : State) : Out :=
  let s := atTime s0 t
  let d := (chnPort s p).dup
  if d.st = 1 ∧ (chnPort s p).req = none then done (sendFree s p d.addr 0x24 [BitVec.ofNat 8 d.bit, BitVec.ofNat 8 d.v] 0 t)
  else done s

/-- The procedure starts when an address has 3 consecutive failed CRCs in frames in which another node answered. -/
def dupSuspect (s : State) (p n : Nat) : State :=
  let q := chnPort s p
  if 3 ≤ (chnNode s p n).crcRun ∧ q.dup.st ≠ 1 ∧ (chnNode s p n).st ≠ 5 then
    setChn (setPort s p { q with dup := { st := 1, addr := n } }) fun c => { c with dupPort := p }
  else s

/-- A response at an address failed its CRC. -/
def crcFailed (s : State) (p n : Nat) : State :=
  let q := chnPort s p
  let x := chnNode s p n
  let other := q.okAddrs.any fun a => decide (a ≠ n)
  let y := { x with
    crc := satAdd 0xFFFF x.crc 1
    crcRun := if other then x.crcRun + 1 else x.crcRun
    crcOpen := if other then x.crcOpen else x.crcOpen + 1 }
  dupSuspect (setNode s p n y) p n

/-- A node answered validly: failures of other nodes earlier in the frame count, and its own run ends. -/
def answeredValid (s : State) (p n : Nat) : State :=
  let q := chnPort s p
  let s1 := setPort s p { q with
    okAddrs := if q.okAddrs.contains n then q.okAddrs else n :: q.okAddrs
    nodes := tmapAll {} (fun k x => if k = n then { x with crcRun := 0, crcOpen := 0 } else { x with crcRun := x.crcRun + x.crcOpen, crcOpen := 0 }) q.nodes }
  (upto 63).foldl (fun u k => if (chnNode u p k).crcRun < 3 then u else dupSuspect u p k) s1

/-! ### Responses (R310, R320, R321) -/

/-- Collect the inputs of an accepted DATA response (R317); safe slots go to their receive connections. -/
def collectData (s : State) (p n : Nat) (g : ChnSeg) (bs : List Byte) (t : Nat) : State :=
  let s1 := (segInputs s p n g).foldl (fun u e =>
    let (ep, area, i) := e
    let b := (chnByte area i).1 - g.inOfs
    match area with
    | 0 => collectOwn u ep (BitVec.ofNat 4 (leAt bs b 1 / 16 ^ (i % 2))) t
    | 1 => collectAna u ep (BitVec.ofNat 32 (leAt bs b 4)) (BitVec.ofNat 16 (leAt bs (b + 4) 2)) t
    | _ => u) s
  s1.cfg.saf.rx.foldl (fun u e =>
    match e.2.cells.head? with
    | none => u
    | some ep =>
      let d := dirEntry u ep
      let a := daddr d
      let b := chnByte 2 (chnIndex a)
      if btype d = 5 ∧ chnPortOf a = p ∧ chnNodeOf a = n ∧ chnArea a = 2 ∧ g.inOfs ≤ b.1 ∧ b.1 + b.2 ≤ g.inOfs + g.inLen then
        safTelegram u e.1 2 (((bs.drop (b.1 - g.inOfs)).take 56).take (pduLen e.2.ntet)) t
      else u) s1

/-- An accepted DATA response. -/
def dataResponse (s : State) (p n seg : Nat) (r : ChnResp) (t : Nat) : State :=
  let x := chnNode s p n
  let notcfg := bitOf r.sts 4
  let s1 := setNode s p n { x with fault := bitOf r.sts 2, safe := bitOf r.sts 3, notcfg := notcfg }
  if notcfg || bitOf r.sts 1 then
    let y := chnNode s1 p n
    let s2 := setNode s1 p n { y with rej := satAdd 0xFFFF y.rej 1 }
    let s3 := chainMissed s2 p n seg
    if notcfg && decide ((chnNode s3 p n).st = 3 ∨ (chnNode s3 p n).st = 4) then setNode s3 p n { chnNode s3 p n with st := 1, step := 0 } else s3
  else
    let y := chnNode s1 p n
    let s2 := setNode s1 p n { y with
      consec := 0, missed := y.missed.filter (· ≠ seg), held := some s1.grid.frame
      inSafe := y.inSafe && decide ((nodeSeg s1 p n seg).outLen = 0) }
    let s3 := collectData (answeredValid s2 p n) p n (nodeSeg s2 p n seg) r.data t
    let z := chnNode s3 p n
    if (z.st = 4 ∧ !z.needAdmit) ∨ (!chnMaster s3 ∧ (z.st = 1 ∨ z.st = 2)) then nodeOk s3 p n else s3

/-- The bytes that an IDENT declares. -/
def declares (bs : List Byte) (out : Bool) (b : Nat) : Bool :=
  let o := if out then 0 else 2
  let c := if out then 0 else 1
  decide (b < (leAt bs (16 + o) 2 + 1) / 2) || (decide (0x400 ≤ b) && decide (b < 0x400 + 8 * leAt bs (20 + o) 2))
    || (decide (0xC40 ≤ b) && decide (b < 0xC40 + 56 * leAt bs (24 + c) 1))

/-- Step 1 of an admission holds (R321). -/
def identOk (s : State) (p n : Nat) (bs : List Byte) : Bool :=
  let c := nodeCfg s p n
  decide (leAt bs 0 4 = c.vendor) && decide (leAt bs 4 4 = c.product) && (!c.serlock || decide (leAt bs 8 8 = c.serial))
    && c.segs.all fun g => (upto g.2.outLen).all (fun i => declares bs true (g.2.outOfs + i))
      && (upto g.2.inLen).all (fun i => declares bs false (g.2.inOfs + i))

/-- A node's IDENT is answered. -/
def identAnswered (s : State) (p n : Nat) (bs : List Byte) : State :=
  let q := chnPort s p
  let s1 := if q.epoch = none ∧ bitOf (leAt bs 27 1) 0 = true then newEpoch s p (leAt bs 26 1 + 1) else s
  if !isNode s p n then s1
  else
    let x := chnNode s1 p n
    let y := { x with serial := leAt bs 8 8, elast := leAt bs 26 1, tnin := leAt bs 28 2, tnout := leAt bs 30 2 }
    if (x.st = 1 ∨ x.st = 2 ∨ (x.st = 4 ∧ x.needAdmit)) ∧ x.step = 0 then
      if identOk s p n bs then setNode s1 p n { y with st := 2, step := 1, sum := 0, delays := 0 }
      else nodeMismatch (setNode s1 p n y) p n
    else setNode s1 p n y

/-- A stranger answers (R322). -/
def strangerAnswered (s : State) (p : Nat) (bs : List Byte) : State :=
  let q := chnPort s p
  let x : Stranger := { serial := leAt bs 8 8, product := leAt bs 4 4 }
  if q.strangers.any fun y => decide (y.serial = x.serial) then
    setPort s p { q with strangers := q.strangers.map fun y => if y.serial = x.serial then x else y }
  else if q.strangers.length < 16 then
    raise (setPort s p { q with strangers := q.strangers ++ [x] }) { blk := 0xC, ev := 3, info := [p, x.serial % 2 ^ 32, x.serial / 2 ^ 32] }
  else s

/-- One delay measurement (R314): 16 of them give DLY. -/
def delayAnswered (s : State) (p n : Nat) (t1 t2 : Nat) : State :=
  let x := chnNode s p n
  if x.step ≠ 1 then s
  else
    let sum := x.sum + ((t2 : Int) - t1 - 1500)
    let k := x.delays + 1
    let y := { x with sum := sum, delays := k }
    if k < 16 then setNode s p n y
    else if 500 * 32 < sum then nodeMismatch (setNode s p n y) p n
    else setNode s p n { y with dly := if sum < 0 then 0 else ((sum + 16) / 32).toNat, step := 2 }

/-- The CONFIG payload of a node (R311). -/
def configPayload (c : ChnNodeCfg) (dly act : Nat) : List Byte :=
  leBytes 2 c.hold ++ leBytes 2 dly ++ leBytes 4 act
    ++ (upto 8).flatMap fun i =>
      let g : ChnSeg := (look c.segs i).getD {}
      leBytes 2 g.outOfs ++ leBytes 2 g.outLen ++ leBytes 2 g.inOfs ++ leBytes 2 g.inLen

/-- The armed change gives the node another segment map (R328). -/
def armedCfg (s : State) (p n : Nat) : Option ChnNodeCfg :=
  if s.olc.stage = 3 then
    match s.olc.shadow with
    | some i => let c := (look ((look i.chn p).getD {}).nodes n).getD {}
                if c.segs = (nodeCfg s p n).segs then none else some c
    | none => none
  else none

/-- The CONFIG that the master sends a node now: the map of an armed change with its commit frame, or the present one. -/
def configNow (s : State) (p n : Nat) : List Byte :=
  match armedCfg s p n with
  | some c => configPayload c (chnNode s p n).dly (s.olc.arm % 2 ^ 32)
  | none => configPayload (nodeCfg s p n) (chnNode s p n).dly 0

/-- A CONFIG is answered: its CRC echoes, or the node is MISMATCH. -/
def configAnswered (s : State) (p n : Nat) (r : ChnResp) : State :=
  let ok := decide (r.data.length = 4) && !bitOf r.sts 1 && decide (ofLeBytes r.data = (crc32c (configNow s p n)).toNat)
  if (armedCfg s p n).isSome ∧ (chnNode s p n).st = 3 then
    if ok then setNode s p n { chnNode s p n with staged := true } else nodeMismatch s p n
  else if (chnNode s p n).step ≠ 2 then s
  else if ok then nodeOk (setNode s p n { chnNode s p n with step := 0, held := some s.grid.frame }) p n
  else nodeMismatch s p n

/-- R310 accepts a response to a request. -/
def accepts (s : State) (p : Nat) (q : ChnReq) (r : ChnResp) : Bool :=
  let len := r.data.length
  let err := bitOf r.sts 4 || bitOf r.sts 1
  let lenOk :=
    if 0x10 ≤ q.cmd ∧ q.cmd ≤ 0x17 then (if err then decide (len = 0) else decide (len = (nodeSeg s p q.addr (q.cmd - 0x10)).inLen))
    else match q.cmd with
      | 0x20 => decide (len = 32)
      | 0x22 => (if bitOf r.sts 1 then decide (len = 0) else decide (len = 4))
      | _ => decide (len = 0)
  decide (r.sdAt ≤ q.sentAt + 2000) && decide (r.kind = 1) && (decide (r.addr = q.addr) || decide (q.addr = 63)) && decide (r.epoch = q.epoch)
    && decide (r.cmd = q.cmd) && decide (r.fnum = q.fnum) && lenOk

/-- What an accepted response brings. -/
def takeResponse (s : State) (p : Nat) (q : ChnReq) (r : ChnResp) (t : Nat) : State :=
  let s1 := setPort s p { chnPort s p with req := none }
  if 0x10 ≤ q.cmd ∧ q.cmd ≤ 0x17 then dataResponse s1 p q.addr (q.cmd - 0x10) r t
  else match q.cmd with
    | 0x20 => if q.addr = 63 then strangerAnswered s1 p r.data else identAnswered s1 p q.addr r.data
    | 0x21 => delayAnswered s1 p q.addr q.sentAt r.sdAt
    | 0x22 => configAnswered s1 p q.addr r
    | 0x24 => probeResult s1 p true
    | _ => s1

/-- A listener judges a response whose request it missed (R327). -/
def listens (s : State) (p : Nat) (r : ChnResp) : Option ChnReq :=
  match (chnCfg s p).sched.find? fun e =>
      decide (e.2.node = r.addr) && decide (0x10 + e.2.seg = r.cmd) && entDue e.2 s.grid.frame with
  | some e => some { addr := r.addr, epoch := r.epoch, cmd := r.cmd, fnum := s.grid.frame % 2 ^ 24, sentAt := r.sdAt, ent := e.1 }
  | none => none

/-- CHAIN_RESPONSE (R310, R327). -/
def execChainResponse (p : Nat) (r : ChnResp) (t : Nat) (s0 : State) : Out :=
  let s := atTime s0 t
  let q := chnPort s p
  let req := match q.req with
    | some x => some x
    | none => if chnMaster s then none else listens s p r
  if !portOn s p then done s
  else match req with
  | none => done s
  | some x =>
    if !r.crcOk then
      let s1 := setPort s p { q with crc := satAdd 0xFFFF q.crc 1 }
      if x.addr = 63 then done (setPort s1 p { chnPort s1 p with collisions := satAdd 0xFFFF q.collisions 1, req := none })
      else if x.cmd = 0x24 then done (probeCrc s1 p)
      else done (crcFailed s1 p x.addr)
    else if accepts s p x r then done (takeResponse s p x r t)
    else done (setPort s p { q with malformed := satAdd 0xFFFF q.malformed 1 })

/-- CHAIN_MISS: the deadline of the open request passes without an accepted response (R320, R323). -/
def execChainMiss (p t : Nat) (s0 : State) : Out :=
  let s := atTime s0 t
  let q := chnPort s p
  match q.req with
  | none => done s
  | some x =>
    if t < x.sentAt + 2000 then done s
    else
      let s1 := setPort s p { q with req := none }
      if 0x10 ≤ x.cmd ∧ x.cmd ≤ 0x17 then done (chainMissed s1 p x.addr (x.cmd - 0x10))
      else if x.cmd = 0x24 then done (probeResult s1 p false)
      else done s1

/-! ### Free-time commands -/

/-- IDENT in free time: for an admission, or to find an epoch (R321, R325). -/
def execChainIdent (p n t : Nat) (s0 : State) : Out :=
  let s := atTime s0 t
  let x := chnNode s p n
  if isNode s p n ∧ ((x.step = 0 ∧ (x.st = 1 ∨ x.st = 2 ∨ (x.st = 4 ∧ x.needAdmit = true))) ∨ (chnPort s p).epoch = none) then
    done (sendFree s p n 0x20 [] 32 t)
  else done s

/-- DELAY (R314). -/
def execChainDelay (p n t : Nat) (s0 : State) : Out :=
  let s := atTime s0 t
  let x := chnNode s p n
  if isNode s p n ∧ x.st = 2 ∧ x.step = 1 then done (sendFree s p n 0x21 [] 0 t) else done s

/-- CONFIG (R311, R321, R328): only once an epoch is chosen. -/
def execChainConfig (p n t : Nat) (s0 : State) : Out :=
  let s := atTime s0 t
  let x := chnNode s p n
  if isNode s p n ∧ (chnPort s p).epoch ≠ none ∧ ((x.st = 2 ∧ x.step = 2) ∨ (x.st = 3 ∧ (armedCfg s p n).isSome)) then
    done (sendFree s p n 0x22 (configNow s p n) 4 t)
  else done s

/-- CHN_CMD.ASSIGN (R322). -/
def execChainAssign (c : Cmd) (t : Nat) (s0 : State) : Out :=
  let s := atTime s0 t
  done (keyedBit s Reg.CHN_CMD 0 c fun u =>
    let p := field (rd u Reg.CHN_PORT_SEL) 1 0
    let a := field (rd u Reg.CHN_ASSIGN) 5 0
    let q := chnPort u p
    match q.strangers[field (rd u Reg.CHN_STR_SEL) 3 0]? with
    | none => refuse u Reg.CHN_CMD none c.session
    | some x =>
      if !hasRole u c.session 2 ∨ !u.pair.role.leads ∨ isNode u p a ∨ a = 0 ∨ a = 63 ∨ q.epoch = none then refuse u Reg.CHN_CMD none c.session
      else sendFree (accepted u Reg.CHN_CMD c) p 63 0x23 (leBytes 8 x.serial ++ leBytes 1 a) 0 t)

/-- STRANGER_POLL every 2,400 frames (R322). -/
def execStrangerPoll (p t : Nat) (s0 : State) : Out :=
  let s := atTime s0 t
  if !chnMaster s ∨ !portOn s p then done s
  else
    let q := chnPort s p
    let s1 := setPort s p { q with strangers := (q.strangers.map fun x => { x with polls := x.polls + 1 }).filter fun x => decide (x.polls ≤ 3) }
    done (sendFree s1 p 63 0x20 [] 32 t)

/-- EPOCH_TIMEOUT: no EVALID within 24 frames (R325). -/
def execEpochTimeout (p t : Nat) (s0 : State) : Out :=
  let s := atTime s0 t
  let q := chnPort s p
  if chnMaster s ∧ portOn s p ∧ q.epoch = none ∧ q.since + 24 ≤ s.grid.frame then done (newEpoch s p (q.mram + 1)) else done s

/-- CHN_CMD.UNBLOCK (R321, R323). -/
def execChainUnblock (c : Cmd) (s : State) : Out :=
  done (keyedBit s Reg.CHN_CMD 1 c fun u =>
    let p := field (rd u Reg.CHN_PORT_SEL) 1 0
    let n := field (rd u Reg.CHN_NODE_SEL) 5 0
    let x := chnNode u p n
    let u1 := accepted u Reg.CHN_CMD c
    if x.st = 5 ∨ x.st = 6 then setNode u1 p n { x with st := 1, step := 0, crcRun := 0, crcOpen := 0 } else u1)

/-- CHN_CMD.CLR_CNT (R330). -/
def execChnClrCnt (c : Cmd) (s : State) : Out :=
  done (keyedBit s Reg.CHN_CMD 2 c fun u =>
    let u1 := setChn u fun x => { x with ports := tmapAll {} (fun _ q => { q with
      miss := 0, crc := 0, malformed := 0, collisions := 0
      nodes := tmapAll {} (fun _ y => { y with miss := 0, crc := 0, rej := 0 }) q.nodes }) x.ports }
    cleared u1 Reg.CHN_CMD c.session)

/-- NODE_HOLD_EXPIRY: a node's hold time passes without an addressed request (R326). -/
def execNodeHoldExpiry (p n t : Nat) (s0 : State) : Out :=
  let s := atTime s0 t
  let x := chnNode s p n
  match x.held with
  | some f => if f + (nodeCfg s p n).hold ≤ s.grid.frame then done (setNode s p n { x with inSafe := true }) else done s
  | none => done s

/-- CHAIN_REQUEST_HEARD: a listener hears a valid request of the transmitting master (R320, R325). -/
def execChainRequestHeard (p addr epoch cmd fnum len t : Nat) (s0 : State) : Out :=
  let s := atTime s0 t
  if chnMaster s ∨ !portOn s p then done s
  else
    let q := chnPort s p
    let governed := decide (cmd = 1) || (decide (0x10 ≤ cmd) && decide (cmd ≤ 0x17)) || decide (cmd = 0x22) || decide (cmd = 0x23)
    let q1 := if governed then { q with heard := some (epoch % 256), syncOk := q.syncOk || decide (cmd = 1) } else q
    let req : ChnReq := { addr := addr, epoch := epoch % 256, cmd := cmd, fnum := fnum, sentAt := reqEnd t len }
    done (setPort s p (if 0x10 ≤ cmd ∧ cmd ≤ 0x17 ∧ isNode s p addr then { q1 with req := some req } else q1))

/-! ### Freeze, lead and configuration -/

/-- SYNC and the counters of the frame, at the freeze (R313). -/
def chainFreeze (s : State) : State :=
  s.cfg.chn.foldl (fun u e =>
    let p := e.1
    let q := chnPort u p
    let spans := dueSpans u p (u.grid.frame - 1)
    let u1 := setPort u p { q with
      okAddrs := [], req := none
      nodes := tmapAll {} (fun _ x => { x with crcOpen := 0 }) q.nodes
      load := spans.foldl (fun n x => n + (x.2 - x.1)) 0
      free := freeGap spans (frameLen (u.grid.frame - 1))
      syncOk := chnMaster u && q.epoch.isSome }
    if chnMaster u && q.epoch.isSome then
      send u1 1 p ((reqBytes u 0 (q.epoch.getD 0) 1
        (leBytes 8 u.grid.frame ++ leBytes 1 (bit1 u.grid.neverSync 0 + bit1 u.grid.slewing 1) ++ leBytes 3 0)).map (·.toNat))
    else u1) s

/-- The status tetrad of a node (R319). -/
def chainStatus (s : State) (p n : Nat) : Tetrad :=
  let x := chnNode s p n
  match x.st with
  | 3 => if x.safe || x.fault then 0x6#4 else 0x2#4
  | 5 => 0x7#4
  | 6 => 0x7#4
  | _ => 0x5#4

/-- CHN_NODE_SERLO answers the serial and latches its high half (R330). -/
def execChnNodeSerlo (s : State) : Out :=
  let g := (chnNode s (field (rd s Reg.CHN_PORT_SEL) 1 0) (field (rd s Reg.CHN_NODE_SEL) 5 0)).serial
  done (answer (wr (wr s Reg.CHN_NODE_SERLO (w32 g)) Reg.CHN_NODE_SERHI (w32 (g / 2 ^ 32))) (.value (g % 2 ^ 32)))

/-- CHN_STR_SERLO answers the stranger's serial and latches its high half (R330). -/
def execChnStrSerlo (s : State) : Out :=
  let q := chnPort s (field (rd s Reg.CHN_PORT_SEL) 1 0)
  let g := (q.strangers[field (rd s Reg.CHN_STR_SEL) 3 0]?).elim 0 (·.serial)
  done (answer (wr (wr s Reg.CHN_STR_SERLO (w32 g)) Reg.CHN_STR_SERHI (w32 (g / 2 ^ 32))) (.value (g % 2 ^ 32)))

end Sys2Proof.Machine
end

