-- ==== Sys2Proof/Machine/Display.lean ====
section
/-! DEFINITION. The front display: the overdrive table, regions and requests, the journal, the pages and the LEDs (R484–R500). -/

namespace Sys2Proof.Machine

open Sys2Proof

/-- Change the display. -/
def setDpy (s : State) (f : DpyState → DpyState) : State := { s with dpy := f s.dpy }
/-- A row's journal. -/
def dpyRow (s : State) (r : Nat) : DpyRow := tget {} s.dpy.rows r
def setRow (s : State) (r : Nat) (x : DpyRow) : State := setDpy s fun d => { d with rows := tset {} d.rows r x }
/-- The level of pixel x in a row of levels. -/
def levelAt (l : List Nat) (x : Nat) : Nat := l.getD x 0 % 16
/-- A row of 320 levels. -/
def row320 (l : List Nat) : List Nat := (upto 320).map (levelAt l)

/-! ### The overdrive table (R487, R488) -/

/-- The index of an entry. -/
def odIndex (prev next band : Nat) : Nat := prev * 128 + next * 8 + band
/-- The voltage of a phase code, in units of 15 V; 3 is no code. -/
def codeVal (c : Nat) : Int := if c = 1 then 1 else if c = 2 then -1 else 0
/-- The phase codes of an entry; one not listed has no phases. -/
def odEntry (t : List (Nat × List Nat)) (prev next band : Nat) : List Nat := (t.lookup (odIndex prev next band)).getD []

/-- An entry passes the checks of R488. -/
def entryOk (same : Bool) (c : List Nat) : Bool :=
  if same then c.isEmpty
  else decide (1 ≤ c.length) && decide (c.length ≤ 32) && c.all (fun x => decide (x < 3)) && decide ((c.map codeVal).foldl (· + ·) 0 = 0)

/-- A table is accepted (R488). -/
def tableOk (t : List (Nat × List Nat)) : Bool :=
  (upto 17).all fun p => (upto 16).all fun n => (upto 8).all fun b => entryOk (decide (p = n)) (odEntry t p n b)

/-- The default table of the booted firmware. -/
def fwTable (s : State) : List (Nat × List Nat) := (if s.upd.bootB then s.upd.slotB else s.upd.slotA).dpy
/-- The table in force. -/
def dpyTable (s : State) : List (Nat × List Nat) := if s.dpy.src then s.cfg.dpy.table.getD [] else fwTable s

/-- The bytes of a table (R487). -/
def tableBytes (t : List (Nat × List Nat)) : List Byte :=
  (upto 2176).flatMap fun i =>
    let c := (t.lookup i).getD []
    leBytes 1 c.length ++ List.replicate 7 0 ++ (upto 8).map fun k =>
      BitVec.ofNat 8 ((upto 4).foldl (fun w j => w + c.getD (4 * k + j) 0 % 4 * 4 ^ j) 0)

/-- Which table is in force is decided anew (R488). -/
def dpyTables (s : State) : State :=
  let pick := s.cfg.dpy.table
  let src := pick.any tableOk
  let s1 := setDpy s fun d => { d with src := src, nodrive := false }
  let s2 := if pick.isSome && !src then raise s1 { blk := 0x10, ev := 3, sev := some 1 } else s1
  if src || tableOk (fwTable s) then s2
  else raise (setDpy s2 fun d => { d with nodrive := true }) { blk := 0x10, ev := 3, sev := some 2 }

/-- The temperature band (R489). -/
def dpyBand (s : State) : Nat :=
  let t := s.dpy.temp
  if t < 0 then 0 else min 7 (t.toNat / 100 + 1)
/-- No waveform starts (R489). -/
def dpyCold (s : State) : Bool := decide (s.dpy.temp < -200)

/-! ### Waveforms and debts (R485, R486, R492, R494) -/

/-- The phase voltages of pixel x in the present state of a row. -/
def pixelWave (t : List (Nat × List Nat)) (r : DpyRow) (x : Nat) : List Int :=
  match r.st with
  | 1 => (odEntry t (levelAt r.prev x) (levelAt r.target x) r.band).map codeVal
  | 2 =>
    let d := r.debts.getD x 0
    List.replicate d.natAbs (if d < 0 then 1 else -1)
  | 3 => (odEntry t 16 (levelAt r.target x) r.band).map codeVal
  | _ => []

/-- The phases that the present state of a row runs. -/
def rowPhases (t : List (Nat × List Nat)) (r : DpyRow) : Nat := ((upto 320).map fun x => (pixelWave t r x).length).foldl max 0

/-- A row enters a state: its journal entry is written (R492). -/
def enterRow (t : List (Nat × List Nat)) (r : DpyRow) (st band : Nat) : DpyRow :=
  let r1 := { r with st := st, valid := true, done := 0, band := band }
  { r1 with n := rowPhases t r1 }

/-- The debt of each pixel: that at entry and the phases done (R494). -/
def rowDebts (t : List (Nat × List Nat)) (r : DpyRow) : List Int :=
  (upto 320).map fun x => (((pixelWave t r x).take r.done).foldl (· + ·) 0) + r.debts.getD x 0

/-- A row has reached its target. -/
def settleRow (r : DpyRow) : DpyRow := { r with st := 0, done := 0, n := 0, prev := r.target, debts := [] }

/-- A row starts towards a target: its previous levels are known, or a full clear (R491, R494). -/
def startRow (s : State) (r : Nat) (full : Bool) (target : List Nat) : State :=
  let x := dpyRow s r
  let y := { x with target := row320 target, debts := [] }
  setRow s r (enterRow (dpyTable s) y (if full || !x.valid then 3 else 1) (dpyBand s))

/-- A phase frame ends for a row. -/
def endPhase (s : State) (r : Nat) : State :=
  let x := dpyRow s r
  if x.st = 0 ∨ s.dpy.wait.contains r then s
  else
    let y := { x with done := x.done + 1 }
    if y.done < y.n then setRow s r y
    else if y.st = 2 then setRow s r (enterRow (dpyTable s) { y with debts := [] } 3 (dpyBand s))
    else setRow s r (settleRow y)

/-- The rows. -/
def allRows : List Nat := upto 120
/-- A row's waveform runs. -/
def rowRuns (s : State) (r : Nat) : Bool := decide ((dpyRow s r).st ≠ 0) && !s.dpy.wait.contains r
/-- No row of a list has anything under way. -/
def rowsIdle (s : State) (rs : List Nat) : Bool := rs.all fun r => decide ((dpyRow s r).st = 0) && !s.dpy.wait.contains r

/-- The sign of a common's VCOM in the present phase frame, in units of 7.5 V (R486). -/
def vcom (s : State) (common : Nat) : Int := if (common % 2 = 0) != s.dpy.flip then 1 else -1
/-- The voltage across a pixel in the present phase frame, in units of 15 V (R485). -/
def pixelVolt (s : State) (r x : Nat) : Int :=
  if rowRuns s r then (pixelWave (dpyTable s) (dpyRow s r) x).getD (dpyRow s r).done 0 else 0
/-- The source's voltage for a pixel, in units of 7.5 V. -/
def sourceVolt (s : State) (r x : Nat) : Int := 2 * pixelVolt s r x + vcom s (r / 30)

/-! ### Regions and requests (R490, R491) -/

/-- The rows of a region; region 0 is the status band. -/
def regionRows (s : State) (g : Nat) : List Nat :=
  if g = 0 then upto 15
  else match look s.dpy.regions g with
    | some (a, b) => (upto (b + 1 - a)).map (· + a)
    | none => []

/-- A region's update. -/
def dpyReg (s : State) (g : Nat) : DpyRegion := tget {} s.dpy.reqs g
def setReg (s : State) (g : Nat) (x : DpyRegion) : State := setDpy s fun d => { d with reqs := tset {} d.reqs g x }

/-- The driver takes a request (R491). -/
def takeRequest (s : State) (g : Nat) (rows : List (Nat × List Nat)) : State :=
  let x := dpyReg s g
  match x.cur with
  | none => setReg s g { x with cur := some rows, started := false }
  | some _ =>
    let s1 := if x.pend.isSome then setDpy s fun d => { d with replaced := satAdd 0xFFFF d.replaced 1 } else s
    setReg s1 g { x with pend := some rows }

/-- Row r of a frame buffer (R484). -/
def bufferRow (buf : List Byte) (r : Nat) : List Nat :=
  (upto 320).map fun x => (buf.getD (160 * r + x / 2) 0).toNat / 16 ^ (x % 2) % 16

/-- DPY_REQ: a write of the request register; buf is the frame buffer at DPY_REQ_ADDR. -/
def execDpyReq (c : Cmd) (buf : List Byte) (s : State) : Out :=
  done (written s Reg.DPY_REQ c fun t =>
    let g := c.value.toNat % 8
    if (g = 0 ∧ masterCode c.master ≠ 0) ∨ regionRows t g = [] then
      answer (raise t { blk := 0x10, ev := 4, info := [g, c.master] }) (.refused 0)
    else takeRequest t g ((regionRows t g).map fun r => (r, bufferRow buf r)))

/-- A region's update starts if its rows are idle: its changed rows run (R491). -/
def startRegion (s : State) (g : Nat) : State :=
  let x := dpyReg s g
  match x.cur with
  | none => s
  | some rows =>
    if x.started || !rowsIdle s (regionRows s g) then s
    else
      let s1 := rows.foldl (fun u r =>
        let y := dpyRow u r.1
        if y.valid && decide (row320 y.prev = row320 r.2) then u else startRow u r.1 false r.2) s
      setReg s1 g { x with started := true }

/-- A region whose rows have all completed (R491). -/
def endRegion (s : State) (g : Nat) : State :=
  let x := dpyReg s g
  if x.cur.isSome && x.started && rowsIdle s (regionRows s g) then
    raise (setDpy (setReg s g { cur := x.pend }) fun d => { d with updates := satAdd 0xFFFF d.updates 1 })
      { blk := 0x10, ev := 0, info := [g] }
  else s

/-! ### Content (R495, R496) -/

/-- A safety input still waits for its proof (R287). -/
def proofPending (s : State) : Bool := s.cfg.saf.sins.any fun e => decide ((tget ({} : SinState) s.saf.sin e.1).proof ≠ 2)

/-- What region 0 shows: the role or the stage, then the bands in their order (R495). -/
def statusBand (s : State) : List Nat :=
  let stop := field (rd s Reg.UPD_STAT) 28 26
  let m := s.saf.smm
  (if stage s = 5 then [1, s.pair.role.code] else [0, stage s])
    ++ (if stop ≠ 0 then [101, stop] else if s.upd.recovery then [101, 8] else [])
    ++ (if m.stage = 3 then [102, 1] else if m.stage = 1 then [102, 2, m.code] else [])
    ++ (if proofPending s then [103] else [])
    ++ (if s.frc.table.isEmpty then [] else [104])
    ++ (if flag (rd s Reg.PAIR_HM_STAT) 29 then [105] else [])
    ++ (if s.slot.faultFlash ∧ (s.slot.unlatchAt.any fun a => decide (s.grid.mono - a < 60000000000)) then
          [106, field (rd s Reg.PAIR_STAT) 19 16] else [])

/-- What the final page shows (R496). -/
def finalFacts (s : State) : List Nat :=
  [s.pair.role.code, stage s, s.grid.now, tqNow s, s.upd.otp.serial, s.cfg.id]

/-- A final page is asked for. -/
def wantFinal (s : State) : State := if s.dpy.final = 0 then setDpy s fun d => { d with final := 1 } else s

/-- The status band is updated when what it shows changes. -/
def refreshBand (s : State) : State :=
  let f := statusBand s
  if f = s.dpy.shown ∨ s.dpy.final ≠ 0 then s
  else takeRequest (setDpy s fun d => { d with shown := f }) 0 ((upto 15).map fun r => (r, row320 (Config.bandRow f r)))

/-- The final page starts once no waveform runs, over the whole panel, with full-clear waveforms. -/
def startFinal (s : State) : State :=
  if s.dpy.final = 1 ∧ rowsIdle s allRows then
    let f := finalFacts s
    setDpy (allRows.foldl (fun u r => startRow u r true (Config.finalRow f r)) s) fun d => { d with final := 2 }
  else s

/-- The final page has completed. -/
def endFinal (s : State) : State :=
  if s.dpy.final = 2 ∧ rowsIdle s allRows then raise (setDpy s fun d => { d with final := 0 }) { blk := 0x10, ev := 1 } else s

/-! ### Recovery (R494) -/

/-- The start of the driver from GUARD onward: each row by its journal. -/
def dpyStart (s : State) : State :=
  let cut := allRows.filter fun r => (dpyRow s r).valid && decide ((dpyRow s r).st ≠ 0)
  let unk := allRows.filter fun r => !(dpyRow s r).valid
  setDpy s fun d => { ({} : DpyState) with
    rows := d.rows, temp := d.temp, recov := cut, wait := cut, nrec := cut.length, nunk := unk.length
    startCode := if unk ≠ [] then 2 else if cut ≠ [] then 1 else 0 }

/-- A row starts its recovery: it cancels its debt, then clears to its target. -/
def recoverRow (s : State) (r : Nat) : State :=
  let x := dpyRow s r
  let t := dpyTable s
  let y := { x with debts := rowDebts t x }
  setRow s r (if y.debts.all (fun v => decide (v = 0)) then enterRow t { y with debts := [] } 3 (dpyBand s) else enterRow t y 2 (dpyBand s))

/-- Rows that wait start their recovery. -/
def startRecovery (s : State) : State := setDpy (s.dpy.wait.foldl recoverRow s) fun d => { d with wait := [] }

/-- Recovery completes with its last row. -/
def endRecovery (s : State) : State :=
  let left := s.dpy.recov.filter fun r => decide ((dpyRow s r).st ≠ 0)
  if s.dpy.recov ≠ [] ∧ left = [] then raise (setDpy s fun d => { d with recov := [] }) { blk := 0x10, ev := 2 }
  else setDpy s fun d => { d with recov := left }

/-! ### The phase frame -/

/-- The region of a row. -/
def regionOf (rs : List (Nat × (Nat × Nat))) (r : Nat) : Nat :=
  ((rs.find? fun g => decide (g.2.1 ≤ r) && decide (r ≤ g.2.2)).map (·.1)).getD 0

/-- New regions apply from an idle phase frame; rows that change region owe a full clear (R498). -/
def adoptRegions (s : State) : State :=
  let new := s.cfg.dpy.regions
  if new = s.dpy.regions ∨ !rowsIdle s allRows then s
  else
    let moved := allRows.filter fun r => decide (regionOf s.dpy.regions r ≠ regionOf new r)
    setDpy s fun d => { d with
      regions := new
      clear := (d.clear ++ moved).eraseDups
      reqs := d.reqs.filter fun e => decide (e.1 = 0) || decide (look new e.1 = look d.regions e.1) }

/-- Rows that owe a full clear start it to their present levels; a row whose levels are unknown has none. -/
def startClears (s : State) : State :=
  s.dpy.clear.foldl (fun u r =>
    if !rowsIdle u [r] then u
    else
      let u1 := setDpy u fun d => { d with clear := d.clear.filter (· != r) }
      if (dpyRow u r).valid then startRow u1 r true (dpyRow u r).prev else u1) s

/-- What starts at a phase frame. -/
def dpyStarts (s : State) : State :=
  if s.dpy.nodrive || dpyCold s then s
  else
    let s1 := startFinal (startClears (startRecovery s))
    if s1.dpy.final = 2 then s1 else (upto 8).foldl startRegion s1

/-- PHASE_FRAME: a phase frame ends and the next one starts (R485–R494). temp: the panel's sensor. -/
def execPhaseFrame (temp : Int) (t : Nat) (s0 : State) : Out :=
  let s := setDpy (atTime s0 t) fun d => { d with temp := temp }
  if stage s = 0 ∨ s.dpy.stopped then done s
  else
    let ran := allRows.any (rowRuns s)
    let s1 := if s.dpy.nodrive then s else allRows.foldl endPhase s
    let s2 := endFinal ((upto 8).foldl endRegion (endRecovery s1))
    if s2.dpy.stopping then done (setDpy s2 fun d => { d with stopped := true })
    else
      let s3 := dpyStarts (refreshBand (adoptRegions s2))
      done (setDpy s3 fun d => { d with flip := ran && !d.flip })

/-- DPY_CMD.REDRAW (R500). -/
def execDpyRedraw (c : Cmd) (s : State) : Out :=
  done (keyedBit s Reg.DPY_CMD 1 c fun t => setDpy (accepted t Reg.DPY_CMD c) fun d => { d with clear := allRows })

/-- DPY_CMD.CLR_CNT (R500). -/
def execDpyClrCnt (c : Cmd) (s : State) : Out :=
  done (keyedBit s Reg.DPY_CMD 0 c fun t =>
    cleared (setDpy t fun d => { d with replaced := 0, updates := 0 }) Reg.DPY_CMD c.session)

/-! ### LEDs (R497) -/

/-- A partition is in fault reaction. -/
def anyReaction (s : State) : Bool := s.sched.parts.any fun p => p.2.react
/-- An engine has failed. -/
def anyFailed (s : State) : Bool := (s.le.any fun e => e.2.failed) || s.pe.engines.any fun e => decide (e.2.st = 3)

/-- DPY_LED. -/
def ledWord (s : State) : Nat :=
  let st := stage s
  let run := if s.upd.recovery then 3 else if st = 0 then 0 else if st = 5 then 1 else 2
  let role := match s.pair.role with
    | .active => 1 | .solo => 1 | .standby => 2 | .learning => 3 | .detached => 3 | .offline => 0
  let strap := s.upd.started && decide (st = 0) && (s.slot.side == s.slot.sideN) && s.slot.power
  let steady := s.saf.safe || decide (field (rd s Reg.UPD_STAT) 28 26 ≠ 0) || anyFailed s || strap
  let flash := anyReaction s || s.pair.claspFail || s.slot.faultFlash
  let fault := if steady then 1 else if flash then 2 else 0
  run * 256 + role * 64 + fault * 16 + bit1 (!s.frc.table.isEmpty) 3 + bit1 s.slot.remLit 2

end Sys2Proof.Machine
end

