-- ==== Sys2Proof/Machine/GooseOps.lean ====
section
/-! DEFINITION. GOOSE publications: their members, new states, repeats, prompt messages and takeovers (R407–R409). -/

namespace Sys2Proof.Machine

open Sys2Proof


/-- A publication and its settings. -/
def gsePub (s : State) (p : Nat) : GsePub := tget {} s.stn.pubs p
def setPub (s : State) (p : Nat) (x : GsePub) : State := setStn s fun n => { n with pubs := tset {} n.pubs p x }
def gsePubCfg (s : State) (p : Nat) : GsePubCfg := (look s.cfg.stn.pubs p).getD {}

/-- The endpoints of member m of publication p (R407). -/
def pubEps (s : State) (p m : Nat) : List Nat := epsAt s 0xA fun a => decide (a / 2 ^ 24 = p) && decide (a / 2 ^ 16 % 256 = m)

/-- The safe telegram publication whose cells member m of publication p carries. -/
def safePubOf (s : State) (p m : Nat) : Option (Nat × PubCfg) :=
  s.cfg.saf.pubs.find? fun e => !e.2.chain && e.2.cells.any fun ep => (pubEps s p m).contains ep

/-- The tetrad of a binary member's endpoint: committed, raised by a prompt assertion; without a frame path it is OFF outside
prompt assertions (R58, R266). -/
def pubTet (s : State) (trip : Bool) (ep : Nat) : Tetrad :=
  let v := tget 0x7#4 s.sig.committed.bin ep
  if trip ∧ promptOn s ep ∧ (forceOf s ep).isNone ∧ dPrompt (dirEntry s ep) then 0x2#4
  else if trip ∧ !framePath s then 0x1#4 else v

/-- The quality published for a binary endpoint (R407, R266). -/
def pubBinQual (s : State) (trip : Bool) (ep : Nat) : Nat :=
  let v := tget 0x7#4 s.sig.committed.bin ep
  if trip ∧ !framePath s then 3
  else if dSq (dirEntry s ep) then field (tget qualNever s.sig.committed.sq ep) 12 0
  else
    (if tstate v = 0 ∨ tstate v = 3 then 1 else if tdoubt v then 3 else 0) + bit1 (tover v) 10

/-- The value of a member (R407); a quality member qualifies the one before. -/
def pubMember (s : State) (p : Nat) (trip : Bool) (kinds : List Nat) (m : Nat) : GVal :=
  let ep := (pubEps s p m).head?
  let tet := ep.elim 0x7#4 (pubTet s trip)
  let ana := ep.elim {} fun e => tget ({} : AnaCell) s.sig.committed.ana e
  match kinds.getD m 0 with
  | 0 => .bool (decide (tstate tet = 2))
  | 1 => .dbpos (tstate tet)
  | 2 =>
    match (pubEps s p (m - 1)).head? with
    | some e => if isBinary e then .qual (pubBinQual s trip e) else .qual (field (tget ({} : AnaCell) s.sig.committed.ana e).qual 12 0)
    | none => .qual 1
  | 3 => .f32 ana.val
  | 4 => .i32 (fracOf ana.val).round
  | 5 => .time s.grid.freezeAt (field (rd s Reg.TIM_TQ) 7 0)
  | _ => .octets (((safePubOf s p m).map fun k => (tget ({} : PubState) s.saf.pub k.1).pdu).getD [])

/-- Every member. -/
def pubVals (s : State) (p : Nat) : List GVal :=
  let c := gsePubCfg s p
  (upto c.members.length).map (pubMember s p c.trip c.members)

/-- Two datasets are equal but for their timestamps. -/
def sameVals (a b : List GVal) : Bool :=
  let strip := fun (l : List GVal) => l.map fun v => match v with
    | .time _ _ => GVal.time 0 0
    | x => x
  decide (strip a = strip b)

/-- A value as numbers. -/
def GVal.nums : GVal → List Nat
  | .bool b => [bit1 b 0]
  | .dbpos n => [n]
  | .qual q => [q]
  | .f32 w => [w.toNat]
  | .i32 v => [(Sys2Proof.Machine.i32 v).toNat]
  | .time t tq => [t, tq]
  | .octets bs => bs.map (·.toNat)

/-- A member whose gate is closed keeps its publication silent (R44, R284, R285). -/
def pubSilent (s : State) (p : Nat) : Bool :=
  (upto (gsePubCfg s p).members.length).any fun m => match safePubOf s p m with
    | some k => pubGated s k.1 k.2
    | none => false

/-- The module publishes a publication: control class with the grant, trip class in every role that drives it (R266, R267, R409). -/
def publishes (s : State) (p : Nat) : Bool :=
  !pubSilent s p && if (gsePubCfg s p).trip then promptPath s && decide (4 ≤ stage s) else s.pair.role.leads && s.pair.granted

/-- Repeats of a publication that still wait in a queue are replaced (R416). -/
def dropQueued (s : State) (p : Nat) : State :=
  s.tim.lq.foldl (fun u e => setLaunchQ u e.1 { e.2 with
    ents := e.2.ents.filter fun x => !(decide (x.kind = 0x88B8) && decide (x.what.head? = some p)) }) s

/-- The interval after the i-th send of a state, in frames (R408). -/
def pubInterval (c : GsePubCfg) (i : Nat) : Nat := min (c.mint * 2 ^ i) c.maxt

/-- timeAllowedToLive in ms for an interval in frames. -/
def pubTal (n : Nat) : Nat := (n * 1250 + 999) / 1000

/-- The present message of a publication enters the launch queues of both ports of its pair. -/
def queuePub (s : State) (p : Nat) (prompt : Bool) : State :=
  let c := gsePubCfg s p
  let x := gsePub s p
  let e : LaunchEnt := {
    prompt := prompt, time := s.grid.now, prio := c.prio, ctrl := !c.trip, kind := 0x88B8
    what := [p, c.appid, c.confRev, x.st, x.sq, pubTal (x.nextAt - s.grid.frame)] ++ x.vals.flatMap GVal.nums }
  let base := if c.pb then 2 else 0
  enqueue (enqueue s base e) (base + 1) e

/-- A new state is sent (R408, R409). -/
def newState (s : State) (p : Nat) (vals : List GVal) (prompt : Bool) : State :=
  let x := gsePub s p
  let y : GsePub := { x with
    st := if x.st = 0xFFFFFFFF then 1 else x.st + 1, sq := 0, sent := true, vals := vals, reps := 0
    nextAt := s.grid.frame + pubInterval (gsePubCfg s p) 0 }
  queuePub (setPub (dropQueued s p) p y) p prompt

/-- A repeat. -/
def repeatState (s : State) (p : Nat) : State :=
  let x := gsePub s p
  let y : GsePub := { x with
    sq := x.sq + 1, reps := x.reps + 1, nextAt := s.grid.frame + pubInterval (gsePubCfg s p) (x.reps + 1) }
  queuePub (setPub s p y) p false

/-- A safe telegram of the publication is due in this frame (R294). -/
def telegramDue (s : State) (p : Nat) : Bool :=
  (upto (gsePubCfg s p).members.length).any fun m => match safePubOf s p m with
    | some k => (tget ({} : PubState) s.saf.pub k.1).n0.isSome && decide ((tget ({} : PubState) s.saf.pub k.1).sentFrame = s.grid.frame)
    | none => false

/-- One publication at the commit. -/
def commitPub (s : State) (p : Nat) : State :=
  if !publishes s p then s
  else
    let x := gsePub s p
    let vals := pubVals s p
    let overN := s.stn.takeover && !(gsePubCfg s p).trip
    if overN || !x.sent || !sameVals vals x.vals then newState s p vals false
    else if telegramDue s p then repeatState s p else s

/-- Every publication at the commit; at a takeover commit every control-class one is sent as a new state (R409). -/
def commitPubs (s : State) : State :=
  let s1 := s.cfg.stn.pubs.foldl (fun u e => commitPub u e.1) s
  if s.stn.takeover then
    raise (setStn s1 fun n => { n with takeover := false }) { blk := 0xA, ev := 0 }
  else s1

/-- A prompt assertion on a member sends at once, ahead of every queued entry (R189, R408). -/
def promptPub (s : State) (ep : Nat) : State :=
  let e := dirEntry s ep
  let p := daddr e / 2 ^ 24
  if btype e = 0xA ∧ publishes s p then newState s p (pubVals s p) true else s

end Sys2Proof.Machine
end

