-- ==== Sys2Proof/Machine/Phasor.lean ====
section
/-! DEFINITION. The phasor engines: the pass of a tick, prompt routes, posts, captures, supervision and on-line change
(R161–R200). -/

namespace Sys2Proof.Machine

open Sys2Proof

/-- Change the phasor engines. -/
def setPe (s : State) (f : PeState → PeState) : State := { s with pe := f s.pe }
/-- A phasor engine. -/
def peEng (s : State) (e : Nat) : PeEngine := tget {} s.pe.engines e
def setEng (s : State) (e : Nat) (x : PeEngine) : State := setPe s fun p => { p with engines := tset {} p.engines e x }
/-- An element. -/
def elemOf (s : State) (e k : Nat) : ElemState := tget {} (peEng s e).elems k
def setElem (s : State) (e k : Nat) (x : ElemState) : State :=
  setEng s e { peEng s e with elems := tset {} (peEng s e).elems k x }
/-- The content of an engine. -/
def peCfg (s : State) (e : Nat) : PeCfg := (look s.cfg.pe e).getD {}
/-- The slots of an engine in ascending order (R164). -/
def peSlots (s : State) (e : Nat) : List Nat := ((peCfg s e).descs.map (·.1)).foldl (fun l k => insertNat k l) []

/-! ### Prompt assertions (R58, R59, R188–R190) -/

/-- The key of an engine's route among the assertions; 768 + route holds those of the guard set after CONFIGURE. -/
def routeKey (e r : Nat) : Nat := e * 128 + r

/-- An assertion ends: a local output follows the frame path again from the next common instant (R58). -/
def endPrompt (s : State) (key : Nat) : State :=
  match tget none s.sched.prompts key with
  | none => s
  | some h =>
    let s1 := { s with sched := { s.sched with prompts := tset none s.sched.prompts key none } }
    let d := dirEntry s1 h.ep
    if btype d = 3 ∧ !promptOn s1 h.ep then setDo s1 (daddr d % 16) { doOf s1 (daddr d % 16) with tail := true } else s1

/-- A route fires, unless a force or the override flag holds it back (R58, R59). -/
def fireRoute (s : State) (e r ep : Nat) (v : Tetrad) : State :=
  let d := dirEntry s ep
  if (forceOf s ep).isSome || (tover v && !dTestok d) then raise s { blk := 1, ev := 5, info := [ep, e, r] }
  else
    let now := s.grid.now
    let hold : PromptHold := { ep := ep, pe := e, till := now + (s.cfg.minpulse * 1250000 + 2) / 3, tripOn := true }
    let s1 := { s with sched := { s.sched with prompts := tset none s.sched.prompts (routeKey e r) (some hold) } }
    let s2 := raise (bump s1 Reg.FRM_PROMPT_CNT) { blk := 1, ev := 4, info := [ep, e, r], stamp := some now }
    promptPub (raise s2 { blk := 5, ev := 3, info := [e, r, ep], stamp := some now } e) ep

/-- The trip of an element has a new state: its routes fire, and assertions past their minimum pulse end (R58). -/
def tripChanged (s : State) (e k : Nat) (was : Bool) (v : Tetrad) : State :=
  let on := decide (tstate v = 2)
  (peCfg s e).routes.foldl (fun u r =>
    if r.2.1 ≠ k then u
    else if on ∧ !was then fireRoute u e r.1 r.2.2 v
    else
      match tget none u.sched.prompts (routeKey e r.1) with
      | none => u
      | some h =>
        let u1 := { u with sched := { u.sched with prompts := tset none u.sched.prompts (routeKey e r.1) (some { h with tripOn := on }) } }
        if !on ∧ h.till ≤ u.grid.now then endPrompt u1 (routeKey e r.1) else u1) s

/-- PROMPT_MINPULSE_END: the minimum pulse of an assertion ends (R58). -/
def execPromptMinpulseEnd (key t : Nat) (s0 : State) : Out :=
  let s := atTime s0 t
  match tget none s.sched.prompts key with
  | some h => if !h.tripOn ∧ h.till ≤ t then done (endPrompt s key) else done s
  | none => done s

/-! ### Posts (R166, R174) -/

/-- The endpoints bound to an engine's outputs. -/
def peEps (s : State) (e : Nat) : List (Nat × DWord) :=
  s.cfg.dir.filter fun x => decide (btype x.2 = 0xB) && decide (daddr x.2 / 2 ^ 16 = e)

/-- The frame-latched tetrad of a binary output; a skipped element reposts with d (R166, R167). -/
def postedTet (x : ElemState) (i : Nat) : Tetrad :=
  let v := if x.latchOn.getD i false then x.latch.getD i 0x5#4 else x.bins.getD i 0x5#4
  if x.skipped then v ||| 0x4#4 else v

/-- One output is posted. -/
def postOne (s : State) (e t : Nat) (x : Nat × DWord) : State :=
  let a := daddr x.2
  let y := elemOf s e (a / 64 % 1024)
  let i := a % 64
  if isBinary x.1 then collectTet s x.1 (postedTet y i) y.qual t
  else
    let q := y.aqual.getD i 0x0081#16
    collectAna s x.1 (y.anas.getD i 0) (if y.skipped ∧ qvalid q = 0 then q ||| 0x0003#16 else q) t

/-- The engine posts the outputs of every element. -/
def pePost (s : State) (e t : Nat) : State := (peEps s e).foldl (fun u x => postOne u e t x) s

/-! ### One element in the pass (R164–R167, R183, R184) -/

/-- The sample number that stream k releases to the engines at tick j (R153). -/
def svPosted (s : State) (k j : Nat) : Option Nat :=
  let c := svCfg s k
  match svStream s k with
  | none => none
  | some x =>
    if c.format = 5 then (if c.deadline + 8 ≤ j then some (j - c.deadline - 8) else none)
    else if c.deadline + 1 ≤ j ∧ x.first ≤ j - c.deadline - 1 then some (j - c.deadline - 1) else none

/-- What a pass finds at an element: nothing new, skipped with its input, or a new evaluation. -/
inductive Found where
  | same | skip
  | eval (x : ElemState)
deriving DecidableEq, Repr

/-- A PHASOR's result for n in its history. -/
def phasorAt (x : ElemState) (n : Nat) : Option PhRes := x.hist.find? fun r => decide (r.n = n)

/-- The samples of a DIFF are usable on the count of synchronism: with more than one stream, none carries UNSYNC unless its
stream allows it (R182). -/
def syncUsable (s : State) (e : Nat) (d : List Byte) (rs : List PhRes) : Bool :=
  let ks := (terminals d).map fun t => dIn0 (descOf s e t)
  decide (ks.eraseDups.length ≤ 1) || (ks.zip rs).all fun p => (svCfg s p.1).unsyncOk || !flag p.2.q 13

/-- The rows of a CAPTURE: the slot n of its streams and its tetrads (R193). -/
def capRow (s : State) (e n : Nat) (d : List Byte) : CapRow :=
  let ks := ((upto 8).map fun i => dFld d (24 + 2 * i) 2).filter fun k => decide (k ≠ 0xFFFF)
  let ts := ((upto 8).map fun i => dFld d (40 + 2 * i) 2).filter fun k => decide (k ≠ 0xFFFF)
  { slots := ks.map fun k => peSlot s k n
    tets := ts.map fun r => postedTet (elemOf s e (r / 64)) (r % 64) }

/-- The evaluation of an element on PHASOR results. -/
def evalOn (s : State) (d : List Byte) (x : ElemState) (r : PhRes) (f0 fr : Nat) : ElemState :=
  match dType d with
  | 2 => evalFreq d x r f0 (ticksPerSec s)
  | 3 => if r.ok then evalSeq d x r else x.notReady 3 r.q
  | 4 => if r.ok then evalPwr d x r else x.notReady 4 r.q
  | 5 => if r.ok then evalImp d x r fr else x.notReady 5 r.q
  | _ => if r.ok then evalVlt d x r else x.notReady 8 r.q

/-- What the pass of tick j finds at a slot. prev: the elements before the pass. -/
def peFind (s : State) (e k j : Nat) (prev : Tbl ElemState) : Found :=
  let d := descOf s e k
  let x := elemOf s e k
  let i := elemOf s e (dIn0 d)
  let fresh := fun (n : Nat) (y : ElemState) => Found.eval { y with lastN := some n }
  match dType d with
  | 1 => match svPosted s (dIn0 d) j with
    | some n => .eval (evalPhasor s d x (if dFld d 29 1 = 1 then some (tget {} prev (dIn1 d)) else none) n)
    | none => .same
  | 9 => match svPosted s (dIn0 d) j with
    | some n => .eval (evalSamp s d x n)
    | none => .same
  | 6 =>
    let ts := (terminals d).map (elemOf s e)
    let ns := ts.filterMap (·.lastN)
    let n := ns.foldl min (ns.headD 0)
    if ns.length < ts.length ∨ x.lastN = some n then .same
    else
      let rs := ts.filterMap fun t => phasorAt t n
      if rs.length < ts.length then .skip
      else if rs.all (·.ok) ∧ syncUsable s e d rs then fresh n (evalDiff d x rs)
      else fresh n (x.notReady 6 (worstQual (rs.map (·.q))))
  | ty =>
    match i.lastN with
    | none => .same
    | some n =>
      if x.lastN = some n then .same
      else if dType (descOf s e (dIn0 d)) = 1 ∧ i.skipped then .skip
      else if ty = 7 then fresh n (if i.ready then evalOc d x i (ticksPerSec s) else x.notReady 7 i.qual)
      else if ty = 10 then fresh n { (evalTimer d x i) with ready := true }
      else if ty = 11 then fresh n x
      else match phasorAt i n with
        | none => .skip
        | some r => fresh n (evalOn s d x r (fnom (descOf s e (dIn0 d))) (s.freeN * 8192 + e * 1024 + k))

/-- The frame latch of the binary outputs (R166). -/
def latched (x y : ElemState) : ElemState :=
  let on := y.bins.map fun b => decide (tstate b = 2)
  { y with
    latchOn := on.zipIdx.map fun p => p.1 || x.latchOn.getD p.2 false
    latch := y.bins.zipIdx.map fun p => if tstate p.1 = 2 ∨ x.latchOn.getD p.2 false = false then p.1 else x.latch.getD p.2 p.1 }

/-! ### Captures (R193, R194) -/

/-- The bytes a CAPTURE takes. -/
def capBytes (d : List Byte) : Nat :=
  let count := fun (o : Nat) => (((upto 8).map fun i => dFld d (o + 2 * i) 2).filter fun k => decide (k ≠ 0xFFFF)).length
  (dFld d 18 2 + dFld d 20 4) * (40 * count 24 + 2 * count 40)

/-- The bytes and the number of the recordings under way. -/
def recording (s : State) : Nat × Nat :=
  s.pe.engines.foldl (fun n e => e.2.elems.foldl (fun m x =>
    if x.2.cap.st = 2 then (m.1 + capBytes (descOf s e.1 x.1), m.2 + 1) else m) n) (0, 0)

/-- Delete the oldest captures that no session reads until size bytes fit; n bounds the deletions (R194). -/
def makeRoom (s : State) (size : Nat) : Nat → State
  | 0 => s
  | n + 1 =>
    let r := recording s
    let used := (s.pe.caps.map (·.size)).foldl (· + ·) r.1
    if used + size ≤ 2 ^ 28 ∧ s.pe.caps.length + r.2 < 256 then s
    else match s.pe.caps.find? fun c => decide (c.reading = 0) with
      | none => s
      | some c => makeRoom (setPe s fun p => { p with caps := p.caps.filter fun x => decide (x.seq ≠ c.seq) }) size n

/-- A capture of size bytes fits. -/
def capFits (s : State) (size : Nat) : Bool :=
  let r := recording s
  decide ((s.pe.caps.map (·.size)).foldl (· + ·) r.1 + size ≤ 2 ^ 28) && decide (s.pe.caps.length + r.2 < 256)

/-- A capture completes. -/
def capDone (s : State) (e k : Nat) (d : List Byte) : State :=
  let x := elemOf s e k
  let count := fun (o : Nat) => (((upto 8).map fun i => dFld d (o + 2 * i) 2).filter fun n => decide (n ≠ 0xFFFF)).length
  let q := (s.pe.capSeq + 1) % 2 ^ 32
  let c : Capture := {
    seq := q, streams := count 24, tets := count 40, size := capBytes d, rows := x.cap.rows.reverse, at0 := x.cap.at0, tq := x.cap.tq }
  let cap : CapState := { x.cap with st := 1, left := 0, pre := [], rows := [] }
  let s1 := setElem s e k { x with cap := cap }
  raise (setPe s1 fun p => { p with capSeq := q, caps := p.caps ++ [c] }) { blk := 5, ev := 4, info := [e, k, q] } e

/-- One evaluation of a CAPTURE for sample n. -/
def evalCapture (s : State) (e k n : Nat) (y : ElemState) : State :=
  let d := descOf s e k
  let i := elemOf s e (dIn0 d)
  let trig := i.ready && decide (tstate (i.bins.getD (dFld d 16 1) 0x5#4) = 2)
  let edge := trig && !y.cap.trig
  let row := capRow s e n d
  let post := dFld d 20 4
  let put := fun (u : State) (c : CapState) =>
    let z := ({ y with cap := { c with trig := trig } } : ElemState).put { bins := [decide (c.st = 2)], q := i.qual }
    setElem u e k (latched (elemOf s e k) z)
  let finish := fun (u : State) => if (elemOf u e k).cap.left = 0 then capDone u e k d else u
  if y.cap.st = 2 then
    let rows := row :: y.cap.rows
    let left := if edge ∧ dFld d 17 1 = 1 then min post (60000 - rows.length) else y.cap.left - 1
    finish (put s { y.cap with rows := rows, left := left })
  else if edge then
    let s1 := makeRoom s (capBytes d) (s.pe.caps.length + 1)
    if capFits s1 (capBytes d) then
      finish (put s1 { y.cap with st := 2, left := post - 1, pre := [], rows := row :: y.cap.pre, at0 := s.grid.now, tq := tqNow s })
    else
      put (raise s1 { blk := 5, ev := 5, info := [e, k] } e) { y.cap with st := 3, pre := (row :: y.cap.pre).take (dFld d 18 2) }
  else put s { y.cap with st := max 1 y.cap.st, pre := (row :: y.cap.pre).take (dFld d 18 2) }

/-! ### The pass (R164, R167) -/

/-- A change of readiness: both set their bit, and a change to not-ready is recorded (R184). -/
def readyEvent (s : State) (e k : Nat) (was now : Bool) (cause : Nat) : State :=
  if was = now then s
  else if now then raise s { blk := 5, ev := 2, info := [e, k] } e
  else raise s { blk := 5, ev := 1, info := [e, k, cause] } e

/-- The pass reaches an element. -/
def peElem (s : State) (e k j : Nat) (prev : Tbl ElemState) : State :=
  let x := elemOf s e k
  match peFind s e k j prev with
  | .same => setElem s e k { x with skipped := false }
  | .skip => setElem (setEng s e { peEng s e with skips := satAdd 0xFFFF (peEng s e).skips 1 }) e k { x with skipped := true }
  | .eval y =>
    let ty := dType (descOf s e k)
    if ty = 11 then evalCapture s e k (y.lastN.getD 0) y
    else
      let s1 := readyEvent (setElem s e k (latched x y)) e k x.ready y.ready 0
      if hasTrip ty then tripChanged s1 e k (decide (tstate (x.bins.getD 1 0x5#4) = 2)) (y.bins.getD 1 0x5#4) else s1

/-- A failed engine ends its assertions, evaluates nothing and posts not-ready outputs; a switchover is requested (R190, R197). -/
def peFail (s : State) (e cause t : Nat) : State :=
  let x := peEng s e
  if x.st = 3 ∨ x.st = 0 then s
  else
    let s1 := (peSlots s e).foldl (fun u k =>
      let y := elemOf u e k
      readyEvent (setElem u e k { (y.notReady (dType (descOf u e k)) y.qual) with latchOn := [], latch := [] }) e k y.ready false 1) s
    let s2 := setEng s1 e { peEng s1 e with st := 3, cause := cause, pass := none }
    let keys := (s2.sched.prompts.filter fun h => h.2.any fun v => decide (v.pe = e) && decide (h.1 < 768)).map (·.1)
    let s3 := startFlush (raise (keys.foldl endPrompt s2) { blk := 5, ev := 7, info := [e, cause] } e) 3
    let s4 := pePost { s3 with upd := { s3.upd with clean := false } } e t
    match s4.pair.role with
    | .active => requestSwitchover s4 1
    | .solo => requestSwitchover s4 1
    | .offline => s4
    | _ => leaveForRestart s4

/-- The load of a tick and its peak over 2,400 frames. -/
def peLoad (s : State) (e cycles : Nat) : State :=
  let x := peEng s e
  let n := s.grid.frame
  let keep := x.peaks.filter fun p => decide (n - p.1 ≤ 2399) && decide (cycles < p.2)
  setEng s e { x with load := min cycles 0x3FFFF, peaks := keep ++ [(n, min cycles 0x3FFFF)] }

/-- The known-answer test of one type after a pass that ended (R196). -/
def peKat (s : State) (e : Nat) (ok : Bool) (t : Nat) : State :=
  let x := peEng s e
  let ty := x.katType % 11 + 1
  let s1 := setEng s e { x with katType := ty, katOk := ok, katDone := if ty = 11 then satAdd 0xFFFF x.katDone 1 else x.katDone }
  if ok then s1 else peFail s1 e 2 t

/-- A ring word of a stream's newest slot was uncorrectable: the slot counts as missing (R162). -/
def ringBad (s : State) (e j k : Nat) : State :=
  match svStream s k, svPosted s k j with
  | some x, some n =>
    let i := n % ringDepth s
    let mark := fun (r : Tbl (Option SvSlot)) => match slotOf s r n with
      | some z => tset none r i (some { z with st := 2 })
      | none => r
    let y : SvStream := if (svCfg s k).format = 5 then { x with out := mark x.out } else { x with ring := mark x.ring }
    let s1 := setEng (setStream s k y) e { peEng s e with eccRing := satAdd 0xFFFF (peEng s e).eccRing 1 }
    recordBare s1 1 { blk := 5, ev := 0, info := [e, k, n] }
  | _, _ => s

/-- Corrected words are counted (R162). -/
def peEcc (s : State) (e : Nat) (v : PassEnv) : State :=
  if v.fixedRing + v.fixedLocal = 0 then s
  else
    let x := peEng s e
    raise (setEng s e { x with eccRing := satAdd 0xFFFF x.eccRing v.fixedRing, eccLocal := satAdd 0xFFFF x.eccLocal v.fixedLocal })
      { blk := 5, ev := 6, info := [e] } e

/-- One engine in tick j (R164–R167, R196). -/
def peTick (s : State) (e j : Nat) (v : PassEnv) (t : Nat) : State :=
  let x := peEng s e
  if x.st = 3 then pePost s e t
  else if x.st = 0 then s
  else
    let prev := x.elems
    let s1 := peEcc (v.badRing.foldl (fun u k => ringBad u e j k) (setEng s e { x with tick := j, pass := none })) e v
    let todo := match v.stopAt with
      | some k => (peSlots s1 e).filter fun i => decide (i < k)
      | none => peSlots s1 e
    let s2 := peLoad (todo.foldl (fun u k => peElem u e k j prev) s1) e v.cycles
    if v.badLocal then peFail s2 e 3 t
    else match v.stopAt with
      | some k => setEng s2 e { peEng s2 e with pass := some k }
      | none => peKat (pePost s2 e (tickStart s j + v.cycles)) e v.katOk t

/-- SAMPLE_TICK (R16, R151, R164): the ingress releases, then every engine makes its pass. env: what each engine meets. -/
def execSampleTick (env : List (Nat × PassEnv)) (t : Nat) (s0 : State) : Out :=
  let s := atTime s0 t
  let j := tickAt s t
  if j = s.grid.tick ∧ j ≠ 0 then done s
  else
    let s1 := (sviTick { s with grid := { s.grid with tick := j }, freeN := s.freeN + 1 } j t).1
    done ((upto 6).foldl (fun u e => peTick u e j ((env.lookup e).getD {}) t) s1)

/-- An element is skipped in the tick (R167): a PHASOR's window stays in the ring. -/
def peSkip (s : State) (e k j : Nat) : State :=
  let d := descOf s e k
  let x := elemOf s e k
  let y : ElemState := if dType d = 1 then
      match svPosted s (dIn0 d) j with
      | some n => { x with
          lastN := some n
          fill := if usableOn (peSlot s (dIn0 d) n) (maskList (dFld d 16 1) 8) then min 0xFFFF (x.fill + 1) else 0 }
      | none => x
    else x
  setElem s e k { y with skipped := true }

/-- PE_PASS_OVERRUN (R167): the pass is stopped; the third overrun within 2,400 frames fails the engine. -/
def execPePassOverrun (e t : Nat) (s0 : State) : Out :=
  let s := atTime s0 t
  let x := peEng s e
  match x.pass with
  | none => done s
  | some k =>
    let rest := (peSlots s e).filter fun i => decide (k ≤ i)
    let s1 := rest.foldl (fun u i => peSkip u e i x.tick) s
    let y := peEng s1 e
    let ovrs := s.grid.frame :: y.ovrs.filter fun f => decide (s.grid.frame - f ≤ 2399)
    let s2 := setEng s1 e { y with
      pass := none, ovrs := ovrs, ovrCnt := satAdd 0xFFFF y.ovrCnt 1, skips := satAdd 0xFFFF y.skips rest.length }
    let s3 := raise s2 { blk := 5, ev := 0, info := [e, k, rest.length] } e
    if 3 ≤ ovrs.length then done (peFail s3 e 1 t) else done (pePost s3 e t)

/-- PE_POST_DEADLINE (R197): a pass that stands at the end of its tick fails the engine. -/
def execPePostDeadline (e t : Nat) (s0 : State) : Out :=
  let s := atTime s0 t
  if (peEng s e).pass.isSome then done (peFail s e 0 t) else done s

/-- PE_CTRL.CLR_CNT (R200). -/
def execPeClrCnt (e : Nat) (c : Cmd) (s : State) : Out :=
  done (keyedBit s (Reg.PE_CTRL e) 0 c fun t =>
    let x := peEng t e
    cleared (setEng t e { x with peaks := [], ovrCnt := 0, skips := 0, eccRing := 0, eccLocal := 0 }) (Reg.PE_CTRL e) c.session)

/-! ### The guard set, CONFIGURE and on-line change (R187, R191, R192) -/

/-- PE0 runs the guard set. -/
def peGuard (s : State) : State := setPe s fun p => { p with engines := tset {} p.engines 0 { st := 1 } }

/-- The endpoint of a digital output in the directory now in force, for an assertion that outlives the guard set. -/
def guardEp (s : State) (ep : Nat) : Nat := ((doEp s (ep % 16))).getD ep

/-- The engines run their configured slots; an assertion of the guard set ends with its minimum pulse (R192). -/
def peStart (s : State) : State :=
  let held := (s.sched.prompts.filter fun h => decide (h.1 < 128)).filterMap fun h => h.2.map fun v =>
    (h.1 + 768, { v with tripOn := false, ep := guardEp s v.ep })
  let s1 := { s with sched := { s.sched with prompts := held.foldl (fun l h => tset none l h.1 (some h.2)) [] } }
  setPe s1 fun p => { p with engines := (upto 6).foldl (fun l e =>
    if (peCfg s1 e).descs.isEmpty then tset {} l e {} else tset {} l e { st := 2 }) [] }

/-- The fields whose change restarts an element's window (R187). -/
def windowKey (d : List Byte) : List Nat :=
  [dIn0 d, dIn1 d] ++ (match dType d with
    | 1 => [dFld d 16 1, dFld d 17 1, dFld d 28 1, dFld d 29 1]
    | 6 => (upto 12).map fun i => dFld d (16 + 2 * i) 2
    | 9 => [dFld d 16 1]
    | _ => [])

/-- The element state that a slot takes at an on-line change. -/
def carried (s : State) (e : Nat) (old : PeCfg) (d : List Byte) : ElemState :=
  match old.descs.find? fun o => decide (dIid o.2 = dIid d) && decide (dType o.2 = dType d) with
  | none => {}
  | some o =>
    let x := elemOf s e o.1
    if windowKey o.2 = windowKey d then x
    else { (x.notReady (dType d) x.qual) with fill := 0, more := 0, hist := [], thetas := [], freqs := [], lastN := none, latchOn := [], latch := [] }

/-- The descriptor stores switch with the image (R187). -/
def peImage (s : State) (old : Image) : State :=
  (upto 6).foldl (fun u e =>
    let oc := (look old.pe e).getD {}
    let nc := peCfg u e
    let x := peEng u e
    if oc = nc ∨ x.st = 3 then u
    else
      let elems := nc.descs.foldl (fun l d => tset {} l d.1 (carried u e oc d.2)) []
      let u1 := setEng u e { x with elems := elems, st := if nc.descs.isEmpty then 0 else 2, pass := none }
      let u2 := nc.descs.foldl (fun v d =>
        let was := ((oc.descs.find? fun o => decide (dIid o.2 = dIid d.2)).map fun o => (elemOf u e o.1).ready).getD false
        readyEvent v e d.1 was (elemOf v e d.1).ready 2) u1
      (upto 128).foldl (fun v r =>
        match tget none v.sched.prompts (routeKey e r) with
        | none => v
        | some h =>
          let stands := match look nc.routes r with
            | some q => decide (q.2 = h.ep) && decide (tstate ((elemOf v e q.1).bins.getD 1 0x5#4) = 2)
            | none => false
          if stands then v
          else
            let v1 := { v with sched := { v.sched with prompts := tset none v.sched.prompts (routeKey e r) (some { h with tripOn := false }) } }
            if h.till ≤ v.grid.now then endPrompt v1 (routeKey e r) else v1) u2) s

/-- The frame latches are cleared at a freeze (R166). -/
def peFreeze (s : State) : State :=
  setPe s fun p => { p with engines := tmapAll {} (fun _ x => { x with
    elems := tmapAll {} (fun _ y => { y with latchOn := [], latch := [] }) x.elems }) p.engines }

end Sys2Proof.Machine
end

