-- ==== Sys2Proof/Machine/Station.lean ====
section
/-! DEFINITION. The commands of the station and process bus (R398–R419). -/

namespace Sys2Proof.Machine

open Sys2Proof

/-! ### Ports and filters (R398–R403). Pair 0 is the station pair, pair 1 the process pair; port 4 is the service port. -/

/-- A pair and a port. -/
def ethPair (s : State) (p : Nat) : EthPair := tget {} s.stn.pairs p
def setPair_ (s : State) (p : Nat) (x : EthPair) : State := setStn s fun n => { n with pairs := tset {} n.pairs p x }
def ethPort (s : State) (p : Nat) : EthPort := tget {} s.stn.ports p
def setPort_ (s : State) (p : Nat) (x : EthPort) : State := setStn s fun n => { n with ports := tset {} n.ports p x }

/-- A pair's settings. -/
def pairHsr (s : State) (p : Nat) : Bool := if p = 1 then s.cfg.stn.hsrPb else s.cfg.stn.hsrSb
def pairVids (s : State) (p : Nat) : List Nat :=
  if p = 1 then s.cfg.stn.pvidPb :: s.cfg.stn.vidsPb else s.cfg.stn.pvidSb :: s.cfg.stn.vidsSb
def ownMac (s : State) (p : Nat) : Nat := if p = 1 then s.stn.macPb else s.stn.macSb

/-- A port works at the present stage: the process pair from GUARD, the others from LOAD (R421). -/
def ethOn (s : State) (port : Nat) : Bool := if port = 2 ∨ port = 3 then decide (1 ≤ stage s) else decide (2 ≤ stage s)

/-- Count a drop of R403: 0 stranger, 1 ethertype or IP, 2 VLAN, 3 rate. -/
def countDrop (s : State) (p k : Nat) : State :=
  let x := ethPair s p
  setPair_ s p { x with drops := x.drops.zipIdx.map fun d => if d.2 = k then satAdd 0xFF d.1 1 else d.1 }

/-- The counters of the last second. -/
def pairSecond (s : State) (p t : Nat) : State :=
  let x := ethPair s p
  let sec := t / 1000000000
  if x.sec = sec then s
  else setPair_ s p { x with sec := sec, shown := if sec = x.sec + 1 then x.drops else [0, 0, 0, 0], drops := [0, 0, 0, 0], ip := 0 }

/-- The counters of a port for the last second. -/
def portSecond (s : State) (p t : Nat) : State :=
  let x := ethPort s p
  let sec := t / 1000000000
  if x.sec = sec then s
  else setPort_ s p { x with
    sec := sec, rxShown := if sec = x.sec + 1 then x.rx else 0, txShown := if sec = x.sec + 1 then x.tx else 0, rx := 0, tx := 0 }

/-- Entries older than 400 ms are forgotten; one whose other copy never came arrived on one LAN only (R401). -/
def forgetDups (s : State) (p t : Nat) : State :=
  let x := ethPair s p
  let old := x.dups.filter fun d => decide (d.at0 + 400000000 ≤ t)
  let lone := (old.filter fun d => !d.both).length
  let s1 := setPair_ s p { x with
    dups := x.dups.filter fun d => !decide (d.at0 + 400000000 ≤ t), single := satAdd 0xFFFF x.single lone }
  if lone = 0 then s1 else raise s1 { blk := 9, ev := 1, info := [p, lone] }

/-- A subscription of GOOSE or SV takes the frame. -/
def subscribed (s : State) (p : Nat) (f : EthFrame) : Bool :=
  if f.etype = 0x88B8 then
    (s.cfg.stn.subs.any fun e => decide (e.2.mac = f.dst) && decide (e.2.appid = f.appid) && decide (bit1 e.2.pb 0 = p))
      || s.cfg.stn.pubs.any fun e => decide (e.2.appid = f.appid) && decide (bit1 e.2.pb 0 = p)
  else s.cfg.sv.any fun e => decide (e.2.mac = f.dst) && decide (e.2.appid = f.appid)

/-- The IP filter (R403): MMS from the allow-list, sessions on the station pair, and ICMP echo. -/
def ipPasses (s : State) (p : Nat) (f : EthFrame) : Bool :=
  decide (f.proto = 1)
    || (decide (p = 0) && decide (f.proto = 6)
        && (decide (f.tport = 7443) || (decide (f.tport = 102) && s.cfg.stn.allow.contains f.srcIp)))

/-- The ethertypes a pair accepts. -/
def etypePasses (p e : Nat) : Bool :=
  [0x88B8, 0x88F7, 0x0800, 0x0806, 0x88FB, 0x892F].contains e || (decide (p = 1) && decide (e = 0x88BA))

/-- The destination filter: own address, the floating address's while it is held, broadcast ARP, subscribed and PTP multicasts. -/
def dstPasses (s : State) (p : Nat) (f : EthFrame) : Bool :=
  decide (f.dst = ownMac s p) || (decide (f.etype = 0x0806) && decide (f.dst = 0xFFFFFFFFFFFF))
    || decide (f.etype = 0x88F7) || decide (f.etype = 0x88FB) || decide (f.etype = 0x88B8) || decide (f.etype = 0x88BA)

/-- A frame that passes the filters of R403, after duplicate removal; a refused one is counted by its cause. -/
def filterFrame (s : State) (p : Nat) (f : EthFrame) : State :=
  if !etypePasses p f.etype then countDrop s p 1
  else if f.vid.any fun v => !(pairVids s p).contains v then countDrop s p 2
  else if !dstPasses s p f then s
  else if f.etype = 0x0800 then
    let x := ethPair s p
    if 20000 ≤ x.ip then countDrop s p 3
    else
      let s1 := setPair_ s p { x with ip := x.ip + 1 }
      if ipPasses s1 p f then s1 else countDrop s1 p 1
  else if (f.etype = 0x88B8 ∨ f.etype = 0x88BA) ∧ !subscribed s p f then
    let s1 := countDrop s p 0
    raise (setPair_ s1 p { ethPair s1 p with stranger := f.appid % 65536 * 65536 + f.src % 65536 }) { blk := 9, ev := 2, info := [p, f.appid, f.src] }
  else if f.etype = 0x88FB then
    let x := ethPair s p
    if x.nodes.contains f.src ∨ 1024 ≤ x.nodes.length then s else setPair_ s p { x with nodes := x.nodes ++ [f.src] }
  else s

/-- A DANH forwards a ring frame that is not addressed to it alone (R402). -/
def forwardHsr (s : State) (p : Nat) (f : EthFrame) : State :=
  if pairHsr s p ∧ f.dst ≠ ownMac s p ∧ f.src ≠ ownMac s p then
    ethSend s (if f.port % 2 = 0 then f.port + 1 else f.port - 1) f.etype [f.dst, f.src, f.seq.getD 0]
  else s

/-- ETH_FRAME_RX: a frame at a port. What passes comes to its block as a command of its own. -/
def execEthFrameRx (f : EthFrame) (t : Nat) (s0 : State) : Out :=
  let s := atTime s0 t
  if !ethOn s f.port ∨ 5 ≤ f.port then done s
  else
    let s1 := portSecond s f.port t
    let x := ethPort s1 f.port
    if !f.fcsOk then done (setPort_ s1 f.port { x with fcs := satAdd 0xFFFF x.fcs 1 })
    else if f.oversize then done (setPort_ s1 f.port { x with overN := satAdd 0xFFFF x.overN 1 })
    else
      let s2 := setPort_ s1 f.port { x with rx := x.rx + 1 }
      if f.port = 4 then done s2
      else
        let p := f.port / 2
        let s3 := forgetDups (pairSecond s2 p t) p t
        let y := ethPair s3 p
        match f.seq with
        | none => done (filterFrame s3 p f)
        | some q =>
          if y.dups.any fun d => decide (d.src = f.src) && decide (d.seq = q) then
            done (setPair_ s3 p { y with
              discard := satAdd 0xFFFF y.discard 1
              dups := y.dups.map fun d => if d.src = f.src ∧ d.seq = q ∧ d.port ≠ f.port then { d with both := true } else d })
          else
            let d : DupEnt := { src := f.src, seq := q, port := f.port, at0 := t }
            let keep := if 4096 ≤ y.dups.length then y.dups.drop 1 else y.dups
            done (filterFrame (forwardHsr (setPair_ s3 p { y with dups := keep ++ [d] }) p f) p f)

/-- SUPERVISION_FRAME: sent from each port of a pair every 2 s (R400). -/
def execSupervisionFrame (p t : Nat) (s0 : State) : Out :=
  let s := atTime s0 t
  if 2 ≤ p ∨ !ethOn s (2 * p) then done s
  else done ([2 * p, 2 * p + 1].foldl (fun u k => ethSend u k 0x88FB [ownMac u p]) s)

/-- ETH_LINK_CHANGE: a port gains or loses link; speed as in ETH_PORT_STAT. -/
def execEthLinkChange (port : Nat) (up : Bool) (speed t : Nat) (s0 : State) : Out :=
  let s := atTime s0 t
  let x := ethPort s port
  if 5 ≤ port ∨ x.link = up then done s
  else
    let s1 := setPort_ s port { x with link := up, speed := if up then speed else 0, downs := if up then x.downs else satAdd 0xFFFF x.downs 1 }
    done (raise (wrField s1 Reg.ETH_STAT port port (bit1 up 0)) { blk := 9, ev := 0, info := [port, bit1 up 0] })

/-- The module owns an IPv4 address on a port (R398, R405). -/
def ownsIp (s : State) (port ip : Nat) : Bool :=
  if port = 4 then decide (ip = s.cfg.stn.svcIp)
  else decide (port < 2) && (decide (ip = s.cfg.stn.ip) || (decide (ip = s.cfg.stn.fip) && s.stn.fip))

/-- ARP_REQUEST for an address. -/
def execArpRequest (port ip t : Nat) (s0 : State) : Out :=
  let s := atTime s0 t
  if ethOn s port ∧ ownsIp s port ip then done (ethSend s port 0x0806 [ip, ownMac s 0]) else done s

/-- ICMP_ECHO: an echo request is answered with its data. -/
def execIcmpEcho (port ip : Nat) (data : List Byte) (t : Nat) (s0 : State) : Out :=
  let s := atTime s0 t
  if ethOn s port ∧ ownsIp s port ip then done (ethSend s port 0x0800 (ip :: data.map (·.toNat))) else done s

/-! ### GOOSE subscriptions (R407, R410, R411) -/

/-- A subscription and its settings. -/
def gseSub (s : State) (k : Nat) : Option GseSub := tget none s.stn.subs k
def setSub (s : State) (k : Nat) (x : GseSub) : State := setStn s fun n => { n with subs := tset none n.subs k (some x) }
def gseSubCfg (s : State) (k : Nat) : GseSubCfg := (look s.cfg.stn.subs k).getD {}

/-- The endpoints of subscription k, and of its member m. -/
def subEps (s : State) (k : Nat) : List Nat := epsAt s 9 fun a => decide (a / 2 ^ 24 = k)
def subMember (s : State) (k m : Nat) : List Nat := epsAt s 9 fun a => decide (a / 2 ^ 24 = k) && decide (a / 2 ^ 16 % 256 = m)

/-- The quality that qualifies member m, with TEST for a test message. -/
def memberQual (vals : List GVal) (m : Nat) (test : Bool) : Qual :=
  let q := match vals[m + 1]? with
    | some (.qual v) => v % 8192
    | _ => 0
  BitVec.ofNat 16 (Nat.lor q (bit1 test 11))

/-- A safe telegram member goes to the connections whose cells it carries (R295). -/
def subTelegram (s : State) (k m : Nat) (lan : Bool) (bs : List Byte) (t : Nat) : State :=
  let eps := subMember s k m
  s.cfg.saf.rx.foldl (fun u e => if e.2.cells.any fun ep => eps.contains ep then safTelegram u e.1 (bit1 lan 0) bs t else u) s

/-- One member is collected. -/
def collectMember (s : State) (k : Nat) (msg : GooseMsg) (m : Nat) (v : GVal) (t : Nat) : State :=
  let q := memberQual msg.vals m msg.test
  match v with
  | .bool b => (subMember s k m).foldl (fun u ep => collectState u ep (if b then 2 else 1) q t) s
  | .dbpos n => (subMember s k m).foldl (fun u ep => collectState u ep n q t) s
  | .f32 w => (subMember s k m).foldl (fun u ep => collectAna u ep w q t) s
  | .i32 x => (subMember s k m).foldl (fun u ep => collectAna u ep (intWord32 x) q t) s
  | .octets bs => subTelegram s k m msg.lan bs t
  | _ => s

/-- Every member is collected. -/
def collectMembers (s : State) (k : Nat) (msg : GooseMsg) (t : Nat) : State :=
  msg.vals.zipIdx.foldl (fun u p => collectMember u k msg p.2 p.1 t) s

/-- The cause for which a message is discarded (GSE_SUB_STAT.ERR); 0 none. -/
def gooseCause (c : GseSubCfg) (x : GseSub) (m : GooseMsg) : Nat :=
  let d := (m.st + 2 ^ 32 - x.st) % 2 ^ 32
  if m.confRev ≠ c.confRev then 1
  else if m.vals.map GVal.kind ≠ c.members then 2
  else if m.sim ≠ c.sim then 3
  else if m.ndsCom then 5
  else if x.first then 0
  else if d = 0 then (if x.sq < m.sq then 0 else 4)
  else if d < 2 ^ 31 then 0 else 4

/-- The map of the subscriptions that are OK. -/
def gseMaps (s : State) : State :=
  let ok := fun (k : Nat) => (gseSub s k).any fun x => decide (x.state = 2)
  let s1 := (upto 16).foldl (fun u n => wr u (Reg.GSE_OKMAPn n) (w32 ((upto 32).foldl (fun w b => w + bit1 (ok (32 * n + b)) b) 0))) s
  wrField s1 Reg.GSE_STAT 25 16 ((s.stn.subs.filter fun e => ok e.1).length)

/-- An accepted message: a new state is collected, a repeat refreshes the supervision. After LOST a repeat delivers its
members again (R43). -/
def gooseAccept (s : State) (k : Nat) (x : GseSub) (m : GooseMsg) (t : Nat) : State :=
  let c := gseSubCfg s k
  let fresh := x.first || decide (m.st ≠ x.st)
  let y : GseSub := { x with
    state := 2, st := m.st, sq := m.sq, first := false, test := m.test, lan := m.lan, errSince := none
    tal := m.tal * 1000000, lastAt := t, news := if fresh then satAdd 0xFFFF x.news 1 else x.news }
  let s1 := setSub s k y
  let s2 := if x.state = 3 ∨ x.state = 4 then raise s1 { blk := 0xA, ev := 2, info := [k] } else s1
  let s3 := if fresh ∨ x.state = 3 then collectMembers s2 k m t else s2
  gseMaps (match c.route with
    | some p => putTelegram s3 (tgItem p 1 k t (m.st % 2 ^ 32) m.raw)
    | none => s3)

/-- Without the grant the module listens to its partner's control-class publications (R409). -/
def hearPartner (s : State) (m : GooseMsg) : State :=
  match s.cfg.stn.pubs.find? fun e => decide (e.2.appid = m.appid) && decide (e.2.gocb = m.gocb) && !e.2.trip with
  | some e => if s.pair.granted then s else setPub s e.1 { gsePub s e.1 with st := m.st, sq := m.sq, heard := true, sent := false }
  | none => s

/-- GOOSE_RX with its arrival timestamp. -/
def execGooseRx (m : GooseMsg) (t : Nat) (s0 : State) : Out :=
  let s := hearPartner (atTime s0 t) m
  match s.cfg.stn.subs.find? fun e => decide (e.2.mac = m.mac) && decide (e.2.appid = m.appid) && decide (e.2.gocb = m.gocb)
      && decide (e.2.pb = m.pb) with
  | none => done s
  | some e =>
    match gseSub s e.1 with
    | none => done s
    | some x =>
      let cause := gooseCause e.2 x m
      let copy := e.2.safe && decide (cause = 4) && decide (m.st = x.st) && decide (m.sq = x.sq) && decide (m.lan ≠ x.lan)
      if copy then
        done (m.vals.zipIdx.foldl (fun u p => match p.1 with
          | .octets bs => subTelegram u e.1 p.2 m.lan bs t
          | _ => u) s)
      else if cause ≠ 0 then
        done (setSub s e.1 { x with
          err := cause, errSince := some (x.errSince.getD s.grid.frame), discards := satAdd 0xFFFF x.discards 1 })
      else done (gooseAccept s e.1 x m t)

/-- GOOSE_TAL_EXPIRY: no accepted message within timeAllowedToLive of the last one. -/
def execGooseTalExpiry (k t : Nat) (s0 : State) : Out :=
  let s := atTime s0 t
  match gseSub s k with
  | some x =>
    if x.state = 2 ∧ x.lastAt + x.tal ≤ t then
      done (gseMaps (loseSource (raise (setSub s k { x with state := 3, lostCnt := satAdd 0xFFFFFFFF x.lostCnt 1 })
        { blk := 0xA, ev := 1, info := [k] }) (subEps s k) t))
    else done s
  | none => done s

/-- GOOSE_ERROR_TIMEOUT: a discard cause has persisted for 2 × MAXT. -/
def execGooseErrorTimeout (k t : Nat) (s0 : State) : Out :=
  let s := atTime s0 t
  match gseSub s k with
  | some x =>
    if x.state ≠ 4 ∧ (x.errSince.any fun f => decide (f + 2 * (gseSubCfg s k).maxt ≤ s.grid.frame)) then
      done (gseMaps (raise (setSub s k { x with state := 4 }) { blk := 0xA, ev := 3, info := [k, x.err] }))
    else done s
  | none => done s

/-- The status tetrad of a subscription (R411). -/
def gseStatus (s : State) (k : Nat) : Tetrad :=
  match gseSub s k with
  | none => 0x7#4
  | some x =>
    match x.state with
    | 2 => mkTet 2 false x.test
    | 4 => 0x7#4
    | _ => 0x5#4

/-- GOOSE_REPEAT: the interval to the next repeat has passed (R408). -/
def execGooseRepeat (p t : Nat) (s0 : State) : Out :=
  let s := atTime s0 t
  let x := gsePub s p
  if publishes s p ∧ x.sent ∧ x.nextAt ≤ s.grid.frame then done (repeatState s p) else done s

/-- GSE_CMD.CLR_CNT (R419). -/
def execGseClrCnt (c : Cmd) (s : State) : Out :=
  done (keyedBit s Reg.GSE_CMD 0 c fun t =>
    cleared (setStn t fun n => { n with
      subs := n.subs.map fun e => (e.1, e.2.map fun x => { x with discards := 0, news := 0, lostCnt := 0 }) }) Reg.GSE_CMD c.session)

/-- The subscriptions of the image in force; those that stand continue where keep holds (R416). -/
def gseSubscribe (s : State) (keep : Nat → Bool) : State :=
  let old := s.stn.subs
  gseMaps (setStn s fun n => { n with
    subs := s.cfg.stn.subs.foldl (fun l e => tset none l e.1 (some (match tget none old e.1 with
      | some x => if keep e.1 then x else {}
      | none => {}))) [] })

/-- An on-line change: an altered subscription waits, an altered dataset is a new state at the first commit (R416). -/
def stationImage (s : State) (old : Image) : State :=
  let s1 := gseSubscribe s fun k => decide (look old.stn.subs k = look s.cfg.stn.subs k)
  s1.cfg.stn.pubs.foldl (fun u e =>
    if look old.stn.pubs e.1 = some e.2 then u else setPub u e.1 { gsePub u e.1 with sent := false }) s1

/-! ### MMS (R412–R414) -/

/-- The module serves MMS. -/
def serves (s : State) : Bool := s.stn.fip && s.pair.granted && s.pair.role.leads

/-- An association is open. -/
def associated (s : State) (a : Nat) : Bool := serves s && s.stn.assocs.contains a

/-- A service request of an association: refused where it is not open. -/
def mmsCall (s : State) (a : Nat) (f : State → State) : State := if associated s a then f s else answer s .error

/-- ASSOCIATE from a client address: at most 16 associations, from the allow-list. -/
def execMmsAssociate (a ip t : Nat) (s0 : State) : Out :=
  let s := atTime s0 t
  if serves s ∧ s.cfg.stn.allow.contains ip ∧ s.stn.assocs.length < 16 ∧ !s.stn.assocs.contains a then
    done (answer (setStn s fun n => { n with assocs := n.assocs ++ [a] }) (.value a))
  else done (answer s (.refused 0))

/-- What the end of an association releases. -/
def endAssoc (s : State) (a : Nat) : State :=
  let s1 := setStn s fun n => { n with
    assocs := n.assocs.filter fun x => decide (x ≠ a)
    rcbs := tmapAll {} (fun _ x => if x.ena = some a then { x with ena := none } else x) n.rcbs
    objs := tmapAll {} (fun _ x => if (x.sel.map (·.1)) = some a then { x with sel := none } else x) n.objs }
  { s1 with pe := { s1.pe with caps := s1.pe.caps.map fun c => if c.reading = a + 1 then { c with reading := 0 } else c } }

/-- CONCLUDE. -/
def execMmsConclude (a t : Nat) (s0 : State) : Out := done (mmsCall (atTime s0 t) a fun s => answer (endAssoc s a) (.value 0))

/-- MMS_ABORT. -/
def execMmsAbort (a t : Nat) (s0 : State) : Out :=
  let s := atTime s0 t
  done (if associated s a then endAssoc s a else s)

/-- GET_DIRECTORY: the children of a name of the data model. -/
def execGetDirectory (a name t : Nat) (s0 : State) : Out :=
  done (mmsCall (atTime s0 t) a fun s => match look s.cfg.stn.dirs name with
    | some l => answer s (.values l)
    | none => answer s .error)

/-- The value of an endpoint in the working image, as numbers. -/
def epNums (s : State) (ep : Nat) : List Nat :=
  if isBinary ep then [(frozenBin s ep).toNat] else [(frozenAna s ep).val.toNat, (frozenAna s ep).qual.toNat]

/-- GET_DATA_VALUES: the value that a name stands for. -/
def execGetDataValues (a name t : Nat) (s0 : State) : Out :=
  done (mmsCall (atTime s0 t) a fun s => match look s.cfg.stn.vals name with
    | some ep => answer s (.values (epNums s ep))
    | none => answer s .error)

/-- SET_DATA_VALUES: an attribute of a control block. Attribute 0 is RptEna, attribute 1 the EntryID from which a buffered
block resumes; any other name is refused. -/
def execSetDataValues (a block attr val t : Nat) (s0 : State) : Out :=
  done (mmsCall (atTime s0 t) a fun s => match look s.cfg.stn.rcbs block with
    | none => answer s .error
    | some c =>
      let x := tget {} s.stn.rcbs block
      let put := fun (y : Rcb) => answer (setStn s fun n => { n with rcbs := tset {} n.rcbs block y }) (.value 0)
      if x.ena.any fun o => decide (o ≠ a) then answer s .error
      else if attr = 0 then put { x with ena := if val = 1 then some a else none, last := if c.buffered then x.last else none }
      else if attr = 1 then put { x with buf := x.buf.filter fun e => decide (val < e.1) }
      else put { x with attrs := tset 0 x.attrs attr val })

/-- Bytes that the report buffers hold. -/
def reportBytes (s : State) : Nat := s.stn.rcbs.foldl (fun n e => n + e.2.buf.foldl (fun k b => k + 8 * (b.2.length + 1)) 0) 0

/-- One report control block at a freeze: a change of its data is a report, sent to its client or kept in its buffer. -/
def reportOne (s : State) (b : Nat) (c : RcbCfg) : State :=
  let x := tget {} s.stn.rcbs b
  let now := c.eps.flatMap (epNums s)
  if x.last = some now ∨ (x.ena = none ∧ !c.buffered) then s
  else
    let id := x.entry + 1
    let room := decide (reportBytes s + 8 * (now.length + 1) ≤ 4194304)
    let kept := if c.buffered then (if room then x.buf else x.buf.drop 1) ++ [(id, now)] else []
    let out := if x.ena.isSome ∧ serves s then (if c.buffered then kept else [(id, now)]) else []
    let y : Rcb := { x with last := some now, entry := id, buf := if out.isEmpty then kept else [] }
    out.foldl (fun u e => ethSend u 0 102 (b :: e.1 :: e.2)) (setStn s fun n => { n with rcbs := tset {} n.rcbs b y })

/-- Reports from the freeze's working image; the active mirrors its buffers to a STANDBY (R414). -/
def reportsFreeze (s : State) : State :=
  if !s.pair.role.leads then s
  else
    let s1 := s.cfg.stn.rcbs.foldl (fun u e => reportOne u e.1 e.2) s
    if s.pair.role = .active then tokel s1 0x30 [16, s.grid.frame] else s1

/-- An object and its settings. -/
def mmsObj (s : State) (o : Nat) : MmsObj := tget {} s.stn.objs o
def setObj_ (s : State) (o : Nat) (x : MmsObj) : State := setStn s fun n => { n with objs := tset {} n.objs o x }

/-- An object is in execution (R413). -/
def executing (s : State) (x : MmsObj) : Bool := x.exec.any fun e => !(e.off.any fun f => decide (f ≤ s.grid.frame))

/-- SELECT: an object with select before operate that is neither selected by another client nor in execution. -/
def execMmsSelect (o a t : Nat) (s0 : State) : Out :=
  done (mmsCall (atTime s0 t) a fun s => match look s.cfg.stn.objs o with
    | none => answer s .error
    | some c =>
      let x := mmsObj s o
      let taken := x.sel.any fun (z : Nat × Nat) => decide (z.1 ≠ a) && decide (t < z.2)
      if c.model ≠ 2 ∨ taken ∨ executing s x then answer s (.refused 3)
      else answer (setObj_ s o { x with sel := some (a, t + c.selTo * 1000000000) }) (.value 0))

/-- SELECT_TIMEOUT: a selection lapses. -/
def execSelectTimeout (o t : Nat) (s0 : State) : Out :=
  let s := atTime s0 t
  let x := mmsObj s o
  if x.sel.any fun z => decide (z.2 ≤ t) then done (setObj_ s o { x with sel := none }) else done s

/-- The endpoint of a command: bit 12 of ADDR is 1 for ctlVal FALSE. -/
def mmsEps (s : State) (o : Nat) (ctl : Bool) : List Nat := epsAt s 0xC fun a => decide (a % 8192 = o + bit1 (!ctl) 12)

/-- OPERATE: accepted, it is collected, and its endpoint reads ON from the following freeze. Refusals carry the AddCause
(PRESUMED numbers of IEC 61850-7-2: 12 command-already-in-execution, 18 object-not-selected). -/
def execMmsOperate (o a : Nat) (ctl test : Bool) (raw : List Byte) (t : Nat) (s0 : State) : Out :=
  done (mmsCall (atTime s0 t) a fun s => match look s.cfg.stn.objs o with
    | none => answer s .error
    | some c =>
      let x := mmsObj s o
      let no := fun (k : Nat) => answer (setStn s fun n => { n with opsBad := satAdd 0xFFFF n.opsBad 1 }) (.refused k)
      if executing s x then no 12
      else if c.model = 2 ∧ !(x.sel.any fun z => decide (z.1 = a) && decide (t < z.2)) then no 18
      else
        let on := if t < nextFreeze s then s.grid.frame + 1 else s.grid.frame + 2
        let s1 := setObj_ s o { sel := none, exec := some { ctl := ctl, test := test, on := on, assoc := a } }
        let s2 := (mmsEps s o ctl).foldl (fun u ep => collectOwn u ep (mkTet 2 false test) t) s1
        let s3 := match c.route with
          | some p => putTelegram s2 (tgItem p 2 a t 0 raw)
          | none => s2
        answer (setStn s3 fun n => { n with opsOk := satAdd 0xFFFF n.opsOk 1 }) (.value 0))

/-- A command ends: its endpoint reads OFF from the next freeze, and enhanced security reports the termination
(1 positive, 0 negative with AddCause time-limit-over). -/
def endCommand (s : State) (o : Nat) (e : MmsExec) (ok : Bool) : State :=
  let s1 := setObj_ s o { mmsObj s o with exec := some { e with off := some (s.grid.frame + 1) } }
  let s2 := (mmsEps s o e.ctl).foldl (fun u ep => collectOwn u ep 0x1#4 s.grid.freezeAt) s1
  if ((look s.cfg.stn.objs o).getD {}).model = 0 ∨ !associated s e.assoc then s2 else ethSend s2 0 103 [e.assoc, o, bit1 ok 0]

/-- At a freeze: commands whose status shows the commanded state end; ended ones are over (R413). -/
def operateFreeze (s : State) : State :=
  s.stn.objs.foldl (fun u p => match p.2.exec with
    | none => u
    | some e =>
      if e.off.any fun f => decide (f ≤ u.grid.frame) then setObj_ u p.1 { mmsObj u p.1 with exec := none }
      else if e.off.isNone ∧ e.on ≤ u.grid.frame ∧ tstate (frozenBin u ((look u.cfg.stn.objs p.1).getD {}).status) = (if e.ctl then 2 else 1) then
        endCommand u p.1 e true
      else u) s

/-- OPERATE_TIMEOUT: counted from the freeze at which the endpoint first reads ON. -/
def execOperateTimeout (o t : Nat) (s0 : State) : Out :=
  let s := atTime s0 t
  match (mmsObj s o).exec with
  | some e =>
    if e.off.isNone ∧ e.on + ((look s.cfg.stn.objs o).getD {}).opTo ≤ s.grid.frame then done (endCommand s o e false) else done s
  | none => done s

/-! ### The capture files (R195) -/

/-- A capture by its sequence number. -/
def captureOf (s : State) (n : Nat) : Option Capture := s.pe.caps.find? fun c => decide (c.seq = n)

/-- The float32 data file of IEEE C37.111: for each sample its number, its time in µs, the analogue channels, and the digital
channels packed in words of 16. -/
def captureDat (s : State) (c : Capture) : List Byte :=
  let rate := if s.cfg.highrate then 14400 else 4800
  c.rows.zipIdx.flatMap fun r =>
    let val : Option SvSlot → Nat → Word := fun z ch => match z with
      | some v => ((v.chans[ch]?).getD (0, 0)).1
      | none => 0
    let ana := r.1.slots.flatMap fun z => (upto 8).flatMap fun ch => leBytes 4 (val z ch).toNat
    let good := r.1.slots.map fun z => z.any fun v => decide (v.st < 2) && v.chans.all fun q => decide (qvalid q.2 = 0)
    let dig := good ++ r.1.tets.flatMap fun v => [decide (tstate v = 2), tdoubt v]
    let words := (upto ((dig.length + 15) / 16)).flatMap fun w =>
      leBytes 2 ((upto 16).foldl (fun k b => k + bit1 (dig.getD (16 * w + b) false) b) 0)
    leBytes 4 (r.2 + 1) ++ leBytes 4 (r.2 * 1000000 / rate) ++ ana ++ words

/-- GET_FILE of CAP_n.cfg or CAP_n.dat; last: the client has read the file to its end. The text of the .cfg file beyond what
R195 names is free. -/
def execGetFile (a n : Nat) (dat last : Bool) (t : Nat) (s0 : State) : Out :=
  done (mmsCall (atTime s0 t) a fun s => match captureOf s n with
    | none => answer s .error
    | some c =>
      let s1 : State := { s with pe := { s.pe with caps := s.pe.caps.map fun x => if x.seq = n then { x with reading := if last then 0 else a + 1 } else x } }
      let bytes := if dat then captureDat s c else Config.cfgFile [n, c.streams, c.tets, c.at0, c.tq, c.rows.length, leapCode s]
      answer s1 (.values (bytes.map (·.toNat))))

/-- FILE_DIRECTORY of CAPTURE: the sequence numbers held. -/
def execFileDirectory (a t : Nat) (s0 : State) : Out :=
  done (mmsCall (atTime s0 t) a fun s => answer s (.values (s.pe.caps.map (·.seq))))

/-- DELETE_FILE: the engineer role is required. -/
def execDeleteFile (a n session t : Nat) (s0 : State) : Out :=
  done (mmsCall (atTime s0 t) a fun s =>
    if !hasRole s session 2 ∨ captureOf s n = none then answer s .error
    else answer { s with pe := { s.pe with caps := s.pe.caps.filter fun c => decide (c.seq ≠ n) } } (.value 0))

/-! ### Sessions (R415) -/

/-- Sessions are taken from the end of LOAD on (R421). -/
def sessionsOn (s : State) : Bool := decide (3 ≤ stage s) && !s.upd.recovery

/-- An event of a session: 0 opened, 1 closed, 2 refused. -/
def sessEvent (s : State) (kind id role serial : Nat) : State := raise s { blk := 9, ev := 4, info := [kind, id, role, serial] }

/-- The slot of a free session. -/
def freeSlot (s : State) : Option Nat := (upto 8).find? fun k => (tget none s.sess k).isNone

/-- SESSION_OPEN: the client's certificate chains to an anchor with SESSION usage, and a slot is free. -/
def execSessionOpen (r : SessReq) (t : Nat) (s0 : State) : Out :=
  let s := atTime s0 t
  let chain := (tget none s.upd.trust r.anchor).any fun a => a.usage / 2 % 2 == 1
  let ok := sessionsOn s && decide (r.role ≤ 4) && chain && Config.sigValid (0x3000 + r.anchor) r.cert r.sig
  match freeSlot s with
  | none => done (answer (sessEvent s 2 0 r.role r.serial) (.refused 0))
  | some k =>
    if !ok then done (answer (sessEvent s 2 0 r.role r.serial) (.refused 0))
    else
      let id := (s.stn.sessNum + 1) % 2 ^ 26
      let x : Session := { id := id, role := r.role, svc := r.svc, idleAt := s.grid.mono, serial := r.serial }
      let s1 : State := setStn { s with sess := tset none s.sess k (some x) } fun n => { n with sessNum := id }
      done (answer (sessEvent s1 0 id r.role r.serial) (.value id))

/-- A session closes. -/
def closeSession (s : State) (id : Nat) : State :=
  match s.sess.find? fun e => e.2.any fun x => decide (x.id = id) with
  | some (k, some (x : Session)) => smmSessionClosed (sessEvent { s with sess := tset none s.sess k none } 1 id x.role x.serial) id
  | _ => s

/-- SESSION_CLOSE. -/
def execSessionClose (id t : Nat) (s0 : State) : Out := done (closeSession (atTime s0 t) id)

/-- SESSION_IDLE_TIMEOUT: no traffic for ETH_SESS_IDLE. -/
def execSessionIdleTimeout (id t : Nat) (s0 : State) : Out :=
  let s := atTime s0 t
  if s.sess.any fun e => e.2.any fun x => decide (x.id = id) && decide (x.idleAt + s.cfg.stn.idle * 1000000000 ≤ s.grid.mono) then
    done (closeSession s id)
  else done s

/-- ETH_CMD.CLR_CNT (R418). -/
def execEthClrCnt (c : Cmd) (s : State) : Out :=
  done (keyedBit s Reg.ETH_CMD 0 c fun t =>
    cleared (setStn t fun n => { n with
      ports := tmapAll {} (fun _ x => { x with downs := 0, rx := 0, tx := 0, rxShown := 0, txShown := 0, fcs := 0, overN := 0 }) n.ports
      pairs := tmapAll {} (fun _ x => { x with discard := 0, single := 0, drops := [0, 0, 0, 0], shown := [0, 0, 0, 0] }) n.pairs
      opsOk := 0, opsBad := 0 }) Reg.ETH_CMD c.session)

end Sys2Proof.Machine
end

