-- ==== Sys2Proof/Machine/FrameOps.lean ====
section
/-! DEFINITION. What a freeze and a commit do to the images and the partitions: rotation and carry-forward, module-status
endpoints, allotments, safe values and fault reactions, the committed image (R22–R25, R32, R35, R44, R54, R55, R540, R541). -/

namespace Sys2Proof.Machine

open Sys2Proof

/-! ### Rotation (R24, R46, R541) -/

/-- A collected value enters a bank, at freeze number f. -/
def putGot (f : Nat) (b : Bank) (ep : Nat) (g : Got) : Bank :=
  if isBinary ep then { b with bin := tset 0x7#4 b.bin ep g.tet, sq := tset qualNever b.sq ep g.qual }
  else { b with ana := tset {} b.ana ep { val := g.val, qual := g.qual, born := some f } }

/-- The frozen image: the last value collected of each signal, and for every other signal the one before (R24). -/
def freezeImage (f : Nat) (c : Collect) (w : Bank) : Bank :=
  c.got.foldl (fun b e => match e.2 with
    | some g => putGot f b e.1 g
    | none => b) w

/-- Each physical bank moves on by one role (R541). -/
def BankRoles.rotate (r : BankRoles) : BankRoles := { coll := r.dist, work := r.coll, out := r.work, dist := r.out }

/-- The images at a freeze. -/
def rotateBanks (s : State) : State :=
  let g := s.sig
  let s1 := { s with sig := { g with
    coll := g.next, next := {}, working := freezeImage s.grid.freezes g.coll g.working, distribute := g.committed
    roles := g.roles.rotate } }
  wr s1 Reg.SIG_MULTI_CNT (w32 g.coll.multi.length)

/-! ### Module status (R540) -/

/-- The health summary of the module (R253). -/
def ownHealth (s : State) : Word :=
  let tq := rd s Reg.TIM_TQ
  let le := (upto 8).foldl (fun n e => n + bit1 (leOf s e).failed (8 + e)) 0
  let pe := (upto 6).foldl (fun n e => n + bit1 (decide ((peEng s e).st = 3)) (2 + e)) 0
  w32 (s.pair.role.code * 2 ^ 29 + bit1 s.pair.claspFail 28 + bit1 (flag (rd s Reg.PAIR_HM_STAT) 29) 27
    + bit1 (anyReaction s) 26 + bit1 (!s.saf.psafe.isEmpty) 25 + bit1 (flag tq 6) 24 + bit1 (flag tq 5) 23
    + bit1 s.grid.neverSync 22 + bit1 (!s.slot.feed1 || !s.slot.feed2) 21 + bit1 (flag (rd s Reg.MON_STAT) 31) 20
    + bit1 (flag (rd s Reg.MON_STAT) 26) 19 + bit1 (!s.frc.table.isEmpty) 18 + bit1 s.saf.smmOn 17 + le + pe)

/-- Safety maintenance mode is in force at this freeze, or comes into force at it (R298). -/
def smmNow (s : State) : Bool :=
  s.saf.smmOn || (decide (s.saf.smm.stage = 2) && s.saf.smm.confirmed && s.saf.smm.startAt.any fun f => decide (f ≤ s.grid.frame))

/-- The status tetrad that an ADDR names; none where another rule collects it, or where it is an analogue status.
wasUp: the Tokel link was up over the frame before. -/
def statusTet (s : State) (wasUp : Bool) (a : Nat) : Option Tetrad :=
  match bitsOf a 39 32 with
  | 0x06 => some (svStatus s (a % 256))
  | 0x07 => some (pairStatus s (a % 128) wasUp (ownHealth s))
  | 0x08 =>
    match bitsOf a 13 12 with
    | 0 => some (sinStatus s (bitsOf a 11 2))
    | 3 => some (if smmNow s then 0x2#4 else 0x1#4)
    | _ => none
  | 0x0A => some (gseStatus s (a % 512))
  | 0x0C => some (chainStatus s (bitsOf a 9 8) (a % 64))
  | 0x0D => some (canStatus s (bitsOf a 8 8) (a % 256))
  | 0x0E => some (lioStatusTet s a)
  | 0x0F => some (lioStatusTet s a)
  | _ => none

/-- Write a status into the frozen image, at age 0. -/
def freezeStatus (s : State) (wasUp : Bool) (ep : Nat) : State :=
  let a := daddr (dirEntry s ep)
  let b := s.sig.working
  if isBinary ep then
    match statusTet s wasUp a with
    | some v => { s with sig := { s.sig with working := putGot s.grid.freezes b ep { tet := v, qual := Config.sideQual v.toNat } } }
    | none => s
  else if bitsOf a 39 32 = 0x0F then
    let v := axStatusAna s (bitsOf a 5 4) (a % 8)
    { s with sig := { s.sig with working := putGot s.grid.freezes b ep { val := v.1, qual := v.2 } } }
  else s

/-- Every module-status endpoint is collected at the freeze. -/
def collectStatus (s : State) (wasUp : Bool) : State :=
  (endpointsWith s fun _ d => decide (btype d = 0xD)).foldl (fun u ep => freezeStatus u wasUp ep) s

/-! ### Allotments (R32) -/

/-- The allotment of a partition in the present frame. -/
def allotment (s : State) (p : Nat) : Nat :=
  let w := (s.cfg.classes.filter fun c => decide (c.2.part = p) && classDue c.2 s.grid.frame).foldl (fun n c => n + c.2.wcet) 0
  (w * (100 + (partCfg s p).margin) + 99) / 100

/-- Every partition's budget counter is loaded. -/
def loadBudgets (s : State) : State :=
  (s.sched.parts.map (·.1) ++ partNums s).eraseDups.foldl (fun u p =>
    setPart u p { partOf u p with allot := allotment u p, budget := allotment u p }) s

/-! ### Safe values and reactions (R35, R44) -/

/-- The output bank holds a value for an endpoint. -/
def setOutput (s : State) (f : Bank → Bank) : State := { s with sig := { s.sig with output := f s.sig.output } }

/-- A tetrad with a side quality word in the output bank. -/
def outTet (s : State) (ep : Nat) (v : Tetrad) (q : Qual) : State :=
  setOutput s fun b => { b with bin := tset 0x7#4 b.bin ep v, sq := tset qualNever b.sq ep q }

/-- An analogue value in the output bank. -/
def outAna (s : State) (ep : Nat) (v : Word) (q : Qual) : State :=
  setOutput s fun b => { b with ana := tset {} b.ana ep { val := v, qual := q, born := some s.grid.freezes } }

/-- The publications whose cells hold an endpoint close their gates (R44). -/
def closeCells (s : State) (ep : Nat) : State :=
  (s.cfg.saf.pubs.filter fun c => c.2.cells.contains ep).foldl (fun u c =>
    setSaf u fun x => { x with pub := tmod {} x.pub c.1 fun y => { y with gateClosed := true } }) s

/-- An endpoint takes the safe value of its binding (R44). -/
def takeSafe (s : State) (ep : Nat) : State :=
  let d := dirEntry s ep
  let a := daddr d
  match btype d with
  | 1 => if isBinary ep then outTet s ep 0x5#4 (Config.sideQual 5) else outAna s ep 0 qualNever
  | 3 =>
    let v : Tetrad := if doSafe s (a % 16) (doOf s (a % 16)) then 0x2#4 else 0x1#4
    outTet s ep v (Config.sideQual v.toNat)
  | 4 =>
    match (axCfg s (a % 8)).safek with
    | 0 => s
    | 1 => outAna s ep (axCfg s (a % 8)).safe (Config.sideQual 20)
    | _ => setOutput s fun b => { b with hiz := insertNat ep (b.hiz.filter (· ≠ ep)) }
  | 6 => closeCells (if isBinary ep then outTet s ep 0x5#4 (Config.sideQual 5) else outAna s ep 0 0x0001#16) ep
  | 8 =>
    match canFormat a with
    | 0 => outTet s ep 0x1#4 (Config.sideQual 1)
    | 1 => outTet s ep 0x1#4 (Config.sideQual 1)
    | 2 => outTet s ep 0x5#4 (Config.sideQual 5)
    | _ => { s with can := { s.can with fill := insertNat ep (s.can.fill.filter (· ≠ ep)) } }
  | 0xA => closeCells (if isBinary ep then outTet s ep 0x5#4 0x0001#16 else outAna s ep 0 0x0001#16) ep
  | _ => s

/-- A store by an endpoint's own writer ends its safe value. -/
def endSafe (s : State) (ep : Nat) : State :=
  { (setOutput s fun b => { b with hiz := b.hiz.filter (· ≠ ep) }) with can := { s.can with fill := s.can.fill.filter (· ≠ ep) } }

/-- The endpoint is a sink (R52). -/
def isSink (s : State) (ep : Nat) : Bool :=
  let b := btype (dirEntry s ep)
  [3, 6, 8, 0xA].contains b || aoMode s ep

/-- The sinks and internal endpoints of a partition, which the reaction SAFE gives their safe values (R35, R44). -/
def ownedOf (s : State) (p : Nat) : List Nat :=
  endpointsWith s fun ep d => decide (dpart d = p) && (isSink s ep || decide (btype d = 1))

/-- A partition enters its fault reaction at the commit (R35). -/
def enterReaction (s : State) (p : Nat) : State :=
  let x := partOf s p
  let r := reaction (partCfg s p)
  if x.react then setPart s p { x with reactDue := false }
  else
    let s1 := setPart s p { x with react := true, reactDue := false, safe := decide (r = 2) }
    let s2 := raise s1 { blk := 1, ev := 1, sev := if r = 0 then some 2 else none, part := p, info := [p, r] }
    if r = 2 then (ownedOf s2 p).foldl takeSafe s2 else s2

/-- The partitions whose reaction is due. -/
def reactionsDue (s : State) : List Nat := (s.sched.parts.filter fun e => e.2.reactDue).map (·.1)

/-- The partition leaves its reaction at this freeze (R36). -/
def leaveReaction (s : State) (p : Nat) : State :=
  pendSins (setPart s p { partOf s p with react := false, safe := false, reactDue := false, overruns := [], resumeAt := none }) [p]

/-- The resume commands due at this freeze. -/
def resumesDue (s : State) : List Nat :=
  (s.sched.parts.filter fun e => e.2.resumeAt.any fun f => decide (f ≤ s.grid.frame)).map (·.1)

/-! ### The committed image (R25, R218) -/

/-- The image released at the commit: the output bank, with every force of an internal or sink endpoint over it. -/
def releasedImage (s : State) : Bank :=
  (s.frc.table.foldl (fun b e => match e.2 with
    | some f =>
      if isSource s f.ep then b
      else if isBinary f.ep then { b with bin := tset 0x7#4 b.bin f.ep (forcedTet f), sq := tset qualNever b.sq f.ep (forcedSq f) }
      else { b with ana := tset {} b.ana f.ep (forcedAna s f), hiz := b.hiz.filter (· ≠ f.ep) }
    | none => b) s.sig.output)

/-- A committed value is collected at the commit instant, as if it had arrived then (R25). -/
def collectCommitted (s : State) (t ep : Nat) : State :=
  let c := s.sig.committed
  if isBinary ep then collectGot s ep { tet := tget 0x7#4 c.bin ep, qual := tget qualNever c.sq ep, stamp := t }
  else collectGot s ep { val := (tget {} c.ana ep).val, qual := (tget {} c.ana ep).qual, stamp := t }

/-- A retained endpoint's committed value is a change of the frame (R128). -/
def retainCommitted (s : State) (ep : Nat) : State :=
  let c := s.sig.committed
  if dRetain (dirEntry s ep) then
    retChange s (retKeyEp ep)
      (if isBinary ep then retEpWord (tget 0x7#4 c.bin ep) 0 (tget qualNever c.sq ep) true
       else retEpWord 0 (tget {} c.ana ep).val (tget {} c.ana ep).qual false)
  else s

end Sys2Proof.Machine
end

