-- ==== Sys2Proof/Machine/ChangeOver.lean ====
section
/-! DEFINITION. The switch of configurations at a freeze: the on-line change and its reversal (R205, R209–R213, R223). -/

namespace Sys2Proof.Machine

open Sys2Proof

/-- The mode of a logic engine after a change: an image with a new MODE sets it, with its event (R106). -/
def imageMode (s : State) (old new : Image) (e : Nat) : State :=
  let a := ((look old.le e).getD {}).split
  let b := ((look new.le e).getD {}).split
  if a = b ∨ (leOf s e).split = b then s
  else raise (setLe s e { leOf s e with split := b }) { blk := 3, ev := 5, info := [e, bit1 b 0] } e

/-- A sink whose writer is new takes the safe value of its binding until the writer's first commit (R212). -/
def newWriters (s : State) (old : Image) : State :=
  (endpointsWith s fun ep _ => isSink s ep && (epChanged old s.cfg ep || decide (look old.writers ep ≠ look s.cfg.writers ep))).foldl takeSafe s

/-- The units other than the engines and the images take the new configuration. -/
def unitsImage (s : State) (old : Image) : State :=
  let s1 := canImage (chainImage (lioImage s old) old) old
  let s2 := peImage (stationImage (sviImage s1 old) old) old
  dpyTables (if old.tim.irig = s.cfg.tim.irig then s2 else wrField s2 Reg.TIM_IRIG_STAT 31 30 (bit1 s.cfg.tim.irig 0))

/-- The configuration switches to an image with a mapping table (R205, R209–R213). -/
def switchImage (s : State) (new : Image) (m : List MapEnt) : State :=
  let old := s.cfg
  let rep := replacedParts old new
  let gone := epChanged old new
  let s1 := { s with
    cfg := new
    sched := { s.sched with parts := s.sched.parts.map fun p => if rep.contains p.1 then (p.1, { p.2 with react := false, safe := false, reactDue := false, resumeAt := none, overruns := [] }) else p }
    fbx := { s.fbx with mem := mappedWords s m old new }
    sig := { s.sig with
      working := s.sig.working.without gone, output := s.sig.output.without gone, committed := s.sig.committed.without gone
      coll := { s.sig.coll with got := s.sig.coll.got.filter fun e => !gone e.1 } } }
  let s2 := (upto 8).foldl (fun u e =>
    let x := leOf u e
    let cfg := (look new.le e).getD {}
    imageMode (setLe u e { x with
      hist := mappedCells s m e, pmem := tsetAll 0 [] cfg.pmem, progFaults := [], progSlots := [] }) old new e) s1
  let s3 := reconcileForces (newWriters (pendSins s2 rep) old) old new
  let kept := (m.filter (·.keeps)).length
  let changed := (m.filter fun e => decide (e.oldType ≠ 0) && decide (e.newType ≠ 0) && decide (e.oldType ≠ e.newType)).length
  let fresh := (m.filter fun e => decide (e.oldType = 0)).length
  let s4 := wr (wr (wr s3 Reg.OLC_MAP_KEEP (w32 kept)) Reg.OLC_MAP_NEW (w32 (min changed 0xFFFF * 65536 + min fresh 0xFFFF)))
    Reg.OLC_COPY (w32 (mapBytes m / 1024))
  let s5 := (upto 4).foldl (fun u k => wr u (Reg.OLC_PARTMAPn k)
    (w32 ((rep.filter fun p => decide (p / 32 = k)).foldl (fun w p => w + 2 ^ (p % 32)) 0))) s4
  let s6 := unitsImage (wr s5 Reg.OLC_LAST_LO (w32 s.grid.frame)) old
  let s7 := if old.dir = new.dir then s6 else raise s6 { blk := 2, ev := 5, info := [new.id] }
  loadBudgets (collectStatus s7 s.pair.linkUp)

/-- OLC_COMMIT at the freeze of the armed frame (R205). A standby commits only when the active's FMARK of the frame before
showed ARMED (R273), and a change that needs maintenance mode only in it (R202). -/
def execOlcCommit (t : Nat) (s0 : State) : Out :=
  let s := atTime s0 t
  let n := s.grid.frame
  match s.olc.shadow with
  | none => done s
  | some i =>
    if s.olc.stage ≠ 3 ∨ n ≠ s.olc.arm ∨ s.grid.phase ≠ 0 then done s
    else if touchesSafety s.cfg i && !s.saf.smmOn then done (autoDisarm s 4)
    else if s.pair.role = .standby ∧ ¬ (s.pair.partner.olc = 3 ∧ s.pair.partner.fmarkFrame = some (n - 1)) then done (autoDisarm s 5)
    else
      let s1 := switchImage s i s.olc.map
      let s2 := setOlc s1 fun o => { o with
        stage := 4, shadow := some s.cfg, windowEnd := n + field (rd s Reg.OLC_REVWIN) 11 0 * 2400, slotw := 1 }
      done (raise s2 { blk := 0x16, ev := 2 })

/-- REVERT_EFFECT: the previous configuration takes effect (R213). -/
def execRevertEffect (t : Nat) (s0 : State) : Out :=
  let s := atTime s0 t
  match s.olc.shadow with
  | none => done s
  | some i =>
    if s.olc.stage ≠ 5 ∨ s.grid.frame < s.olc.revertAt ∨ s.grid.phase ≠ 0 then done s
    else
      let s1 := switchImage s i (s.olc.map.map MapEnt.inverse)
      done (raise (setOlc s1 fun o => { o with stage := 0, shadow := none, map := [], slotw := 1 }) { blk := 0x16, ev := 3 })

end Sys2Proof.Machine
end

