-- ==== Sys2Proof/Machine/Recorder.lean ====
section
/-! DEFINITION. The recorder's MRAM: flushes, headers, recovery at a start, reading, clearing and export (R473–R480). -/

namespace Sys2Proof.Machine

open Sys2Proof

/-- The slot of a record with offset o since the clear (R473). -/
def recSlot (o : Nat) : Nat := if o < 65536 then o else 65536 + (o - 65536) % 983040

/-- The offset of a SEQ from the clear record, modulo 2^32. -/
def recOffset (c seq : Word) : Nat := (seq - c).toNat

/-- A record is written to its slot. -/
def writeRec (r : Recorder) (x : Rec) : Recorder :=
  { r with slots := tset none r.slots (recSlot (recOffset r.c x.seq)) (some x), newest := some x.seq }

/-- The generation of the newer valid header copy (R474). -/
def headerGen (r : Recorder) : Nat :=
  max (if r.hdrA.valid then r.hdrA.gen else 0) (if r.hdrB.valid then r.hdrB.gen else 0)

/-- The older header copy is written with the next generation (R474). -/
def writeHeader (r : Recorder) : Recorder :=
  let h : RecHeader := { gen := headerGen r + 1, c := r.c, newest := r.newest.getD r.c, lost := r.lost, valid := true }
  if !r.hdrA.valid || (r.hdrB.valid && decide (r.hdrA.gen ≤ r.hdrB.gen)) then { r with hdrA := h } else { r with hdrB := h }

/-- Some record written at offset 65,535 fills the locket. -/
def fillsLocket (r : Recorder) : Bool := r.buf.any fun x => decide (recOffset r.c x.seq = 65535)

/-- The clear itself, once the flush has ended (R479): the clear record, its SEQ as c, and the header. -/
def doClear (s : State) (session serial : Nat) : State :=
  let r := s.rcd
  let seq := r.seqNext
  let s1 := { s with rcd := { r with total := 0, lost := 0, clearWaits := none, clrLast := session } }
  let s2 := record s1 { blk := 0x11, ev := 0x81, sev := some 2, p := [some session, some r.total, some r.lost, some serial] }
  setBit { s2 with rcd := writeHeader { s2.rcd with c := seq } } Reg.REC_EVT_STAT 1

/-- A flush has written its records and the header (R474, R476); a clear that waited follows at once (R481). The flush of a
removal lights REMOVE, and the final page follows (R508). -/
def execFlushDone (s : State) : Out :=
  if !s.rcd.flushing then done s
  else
    let r := s.rcd
    let n := r.buf.length
    let r1 := writeHeader (r.buf.foldl writeRec r)
    let s1 := { s with rcd := { r1 with buf := [], flushing := false, flushes := satAdd 0xFFFFFFFF r.flushes 1 } }
    let s2 := wr s1 Reg.REC_LAST_FLUSH (w32 (r.cause * 2 ^ 29 + min n 16384))
    let s3 := if fillsLocket r then raise s2 { blk := 0x11, ev := 4 } else s2
    let s4 := if r.cause = 4 then raise s3 { blk := 0x11, ev := 2, info := [n] } else s3
    let s5 := if s4.slot.remFlush ∧ !s4.slot.remLit then wantFinal { s4 with slot := { s4.slot with remLit := true } } else s4
    match r.clearWaits with
    | some (session, serial) => done (doClear s5 session serial)
    | none => done s5

/-- 96 frames after the last flush started a flush starts (R476). -/
def execFlushPeriod (s : State) : Out :=
  if 96 ≤ s.grid.frame - s.rcd.lastFlushFrame then done (startFlush s 1) else done s

/-- A record of severity 2 or 3 starts a flush (R476). -/
def execAlarmFlush (s : State) : Out :=
  if s.rcd.buf.any (fun x => decide (2 ≤ x.sev)) then done (startFlush s 2) else done s

/-- REC_CMD.FLUSH (R476). -/
def execRecFlush (c : Cmd) (s : State) : Out :=
  done (keyedBit s Reg.REC_CMD 0 c fun t => startFlush (accepted t Reg.REC_CMD c) 5)

/-- The record with a SEQ, in the buffer or in MRAM (R478). -/
def findRec (r : Recorder) (seq : Word) : Option Rec :=
  match r.buf.find? (fun x => decide (x.seq = seq)) with
  | some x => some x
  | none =>
    match tget none r.slots (recSlot (recOffset r.c seq)) with
    | some x => if x.seq = seq then some x else none
    | none => none

/-- The 32 bytes of a record (R468, R469). -/
def recBytes (x : Rec) : List Byte :=
  leBytes 8 x.time ++ leBytes 4 x.seq.toNat ++ leBytes 2 x.code ++ leBytes 1 x.part
    ++ leBytes 1 (x.tq * 16 + bit1 x.pf 3 + bit1 x.coarse 2 + x.sev) ++ wordBytes x.p

/-- Word i of a record. -/
def recWord (x : Rec) (i : Nat) : Word := w32 (ofLeBytes (((recBytes x).drop (4 * i)).take 4))

/-- A read of REC_RD_W0 latches the selected record; a SEQ that is not held reads 0 with RDMISS (R478). -/
def execRecRdW0 (s : State) : Out :=
  let hit := findRec s.rcd (rd s Reg.REC_RD_SEQ)
  let word := fun i => match hit with
    | some x => recWord x i
    | none => 0
  let s1 := { s with rcd := { s.rcd with rdMiss := hit.isNone } }
  let s2 := (upto 7).foldl (fun t i => wr t (Reg.REC_RD_Wn i) (word (i + 1))) (wr s1 Reg.REC_RD_W0 (word 0))
  done (answer s2 (.value (word 0).toNat))

/-- A read of REC_CLR_NONCE gives a fresh value bound to the session (R479). -/
def execRecClrNonce (session : Nat) (s0 : State) : Out :=
  let s := touch s0 session
  let d := drawWord s
  let s1 := { d.2 with rcd := { d.2.rcd with nonce := if hasSession s session then some (d.1, session, s.grid.mono) else none } }
  done (answer (wr s1 Reg.REC_CLR_NONCE d.1) (.value d.1.toNat))

/-- The die serial (R449). -/
def dieSerial (s : State) : Nat := s.upd.otp.serial

/-- The serial of a session's client certificate. -/
def certSerial (s : State) (session : Nat) : Nat :=
  ((s.sess.filterMap (·.2)).find? fun x => decide (x.id = session)).elim 0 (·.serial)

/-- A clear request is what R479 asks: its marker, the die serial, the session's nonce in its 60 s, and the signature. -/
def clearRequestOk (s : State) (session : Nat) (req : List Byte) : Bool :=
  hasRole s session 3 && decide (req.length = 80)
    && decide (req.take 4 = textBytes "YCLR")
    && decide (ofLeBytes ((req.drop 4).take 8) = dieSerial s)
    && (match s.rcd.nonce with
        | some (v, owner, at_) => decide (owner = session) && decide (ofLeBytes ((req.drop 12).take 4) = v.toNat)
            && decide (s.grid.mono - at_ ≤ 60000000000)
        | none => false)
    && Config.sigValid (certSerial s session) (req.take 16) (req.drop 16)

/-- A signed clear request (R479): a failing one is refused with code 0x1140; an accepted one flushes first. The nonce
serves one attempt. -/
def execRecorderClear (session : Nat) (req : List Byte) (s0 : State) : Out :=
  let s := touch s0 session
  let s1 := { s with rcd := { s.rcd with nonce := none } }
  if clearRequestOk s session req then
    let s2 := startFlush s1 6
    done { s2 with rcd := { s2.rcd with clearWaits := some (session, certSerial s session % 2 ^ 32) } }
  else done (answer (record s1 { blk := 0x11, ev := 0x40, p := [none, some session, some (offsetOf Reg.REC_CLR_NONCE)] }) (.refused 0))

/-- The records held in a SEQ range, in order (R480); n counts the SEQs still to look at. -/
def recRange (r : Recorder) : Nat → Word → List Rec
  | 0, _ => []
  | n + 1, q => (findRec r q).toList ++ recRange r n (q + 1)

/-- The export file (R480): header, records in SEQ order, code list. -/
def exportFile (s : State) (a b : Word) : List Byte :=
  let recs := (recRange s.rcd ((b - a).toNat + 1) a).flatMap recBytes
  let head := textBytes "YREX" ++ leBytes 8 (dieSerial s) ++ leBytes 4 s.rcd.c.toNat ++ leBytes 4 a.toNat ++ leBytes 4 b.toNat
    ++ leBytes 4 s.rcd.lost ++ leBytes 4 (rd s Reg.DEV_FW_VER).toNat ++ List.replicate 32 0
  head ++ Config.sign 1 (head ++ recs) ++ recs ++ Config.codeList (rd s Reg.DEV_FW_VER).toNat

/-- A session exports a signed SEQ range (R480). -/
def execRecorderExport (session : Nat) (a b : Word) (s0 : State) : Out :=
  let s := touch s0 session
  if hasSession s session then done (answer s (.values ((exportFile s a b).map (·.toNat)))) else done (answer s (.refused 0))

/-! ### At every start (R474) -/

/-- Records found past the header by reading forward slot by slot. -/
def readForward (r : Recorder) : Nat → Word → Nat
  | 0, _ => 0
  | n + 1, q =>
    match tget none r.slots (recSlot (recOffset r.c q)) with
    | some x => if x.seq = q then readForward r n (q + 1) + 1 else 0
    | none => 0

/-- The lowest SEQ found in the locket. -/
def lowestLocket (r : Recorder) : Word :=
  (r.slots.filter fun e => decide (e.1 < 65536)).foldl (fun m e => match e.2 with
    | some x => if x.seq.toNat < m.toNat then x.seq else m
    | none => m) (match (r.slots.filterMap fun e => if e.1 < 65536 then e.2 else none).head? with
      | some x => x.seq
      | none => 0)

/-- The recorder at a start: the newer valid header, records found forward, or recovery from the locket (R474). -/
def recoverRecorder (s : State) : State :=
  let r := s.rcd
  let h := if r.hdrA.valid && (!r.hdrB.valid || decide (r.hdrB.gen ≤ r.hdrA.gen)) then some r.hdrA
    else if r.hdrB.valid then some r.hdrB else none
  match h with
  | some h =>
    let r1 := { r with c := h.c, lost := h.lost, hdrFail := false, pf := false }
    let n := readForward r1 r1.slots.length (h.newest + 1)
    let last := h.newest + BitVec.ofNat 32 n
    let s1 := { s with rcd := { r1 with newest := some last, seqNext := last + 1 } }
    if n = 0 then s1 else raise s1 { blk := 0x11, ev := 3, info := [n] }
  | none =>
    let c := lowestLocket r
    let r1 := { r with c := c, hdrFail := true, pf := false }
    let n := readForward r1 r1.slots.length c
    let s1 := { s with rcd := { r1 with
      seqNext := c + BitVec.ofNat 32 n
      newest := if n = 0 then none else some (c + BitVec.ofNat 32 n - 1) } }
    recordBare s1 1 { blk := 0x11, ev := 0, sev := some 2, info := [n] }

/-- The records-lost record at the end of a frame with discards (R475). -/
def recordsLost (s : State) : State :=
  match s.rcd.frameLost with
  | [] => s
  | x :: xs =>
    let lo := xs.foldl min x
    let hi := xs.foldl max x
    let n := xs.length + 1
    record { s with rcd := { s.rcd with frameLost := [] } }
      { blk := 0x11, ev := 0x80, sev := some 2, p := [some n, some s.rcd.lost, some lo, some hi] }

/-- The power-fail record and the flush of the whole buffer (R477). -/
def powerFailFlush (s : State) : State :=
  let s1 := record { s with rcd := { s.rcd with pf := true } } { blk := 0x11, ev := 0x82, sev := some 2 }
  { s1 with rcd := { s1.rcd with flushing := true, cause := 4, lastFlushFrame := s1.grid.frame } }

end Sys2Proof.Machine
end

