-- ==== Sys2Proof/Machine/Update.lean ====
section
/-! DEFINITION. Firmware packages, installation, confirmation, recovery, slot memory, the trust store and attestation
(R424–R451, R275, R276). -/

namespace Sys2Proof.Machine

open Sys2Proof

/-- Change the update state. -/
def setUpd (s : State) (f : UpdState → UpdState) : State := { s with upd := f s.upd }

/-- A command is refused (UPD_STAT.REFUSE). -/
def refuseUpd (s : State) (code session : Nat) : State :=
  refuse (wrField s Reg.UPD_STAT 25 22 code) Reg.UPD_CMD (some code) session

/-- A write of UPD_CMD; a wrong KEY is refused with code 8. -/
def updCmd (s : State) (bit : Nat) (c : Cmd) (f : State → State) : State :=
  written s Reg.UPD_CMD c fun t =>
    if field c.value 31 16 ≠ 0x5A3C then wrField (keyWrong t Reg.UPD_CMD c.value) Reg.UPD_STAT 25 22 8
    else if flag c.value bit then f t else t

/-! ### Packages (R433–R436) -/

/-- What the manifest says of a package (R434). -/
def manifestSlot (bs : List Byte) : FwSlot :=
  let n := leAt bs 20 4
  { state := 1, version := leAt bs 16 4, pcl := leAt bs 12 2, feat := leAt bs 14 2, arb := leAt bs 10 1, keyslot := leAt bs 9 1
    revoke := leAt bs 11 1 % 16, manifestSha := Config.sha512 (bs.take (2104 + 80 * n + 64 + 3309)), intact := true }

/-- The kind and the content of image i, and its hash in the manifest. -/
def imageAt (bs : List Byte) (i : Nat) : Nat × List Byte × List Byte :=
  let o := 2104 + 80 * i
  (leAt bs o 2, (bs.drop (leAt bs (o + 4) 4)).take (leAt bs (o + 8) 4), (bs.drop (o + 16)).take 64)

/-- The signatures of the manifest verify under its key slot (R435, check 4). Keys are named 0x1000 + slot and 0x2000 + slot. -/
def manifestSigned (bs : List Byte) : Bool :=
  let n := leAt bs 20 4
  let len := 2104 + 80 * n
  let k := leAt bs 9 1
  Config.sigValid (0x1000 + k) (bs.take len) ((bs.drop len).take 64)
    && Config.sigValid (0x2000 + k) (bs.take len) ((bs.drop (len + 64)).take 3309)

/-- The first check of R435 that a package fails; 0 none. -/
def packageErr (s : State) (crcOk : Bool) (bs : List Byte) : Nat :=
  let o := s.upd.otp
  let n := leAt bs 20 4
  let k := leAt bs 9 1
  let imgs := (upto n).map (imageAt bs)
  let rev := leAt bs 11 1 % 16
  if !crcOk then 1
  else if bs.take 4 ≠ textBytes "YFWM" ∨ leAt bs 4 4 ≠ 0x00070001 ∨ bitOf (leAt bs 8 1) 1 = false then 2
  else if 4 ≤ k ∨ bitOf o.revoked k = true ∨ Config.sha512 ((bs.drop 24).take 32) ≠ tget [] o.edHash k
      ∨ Config.sha512 ((bs.drop 56).take 1952) ≠ tget [] o.mlHash k then 3
  else if manifestSigned bs = false then 4
  else if leAt bs 10 1 < o.arb then 5
  else if imgs.any (fun i => decide (Config.sha512 i.2.1 ≠ i.2.2)) = true
      ∨ [1, 2, 3, 4, 5].all (fun q => decide ((imgs.filter fun i => decide (i.1 = q)).length = 1)) = false then 6
  else if bitOf rev k = true ∨ Nat.lor o.revoked rev % 16 = 15 then 7 else 0

/-- A block of a package: its CRC verifies, and its content (R433). -/
def blockOk (b : List Byte) : Bool :=
  decide (b.length = 65536) && decide (ofLeBytes (b.drop 65532) = (crc32c (b.take 65532)).toNat)

/-- Change the staging area. -/
def setStaging (s : State) (f : Staging → Staging) : State := setUpd s fun u => { u with staging := f u.staging }

/-- A complete package in staging is verified (R435, R436). -/
def verifyStaged (s : State) : State :=
  let g := s.upd.staging
  let err := packageErr s g.crcOk g.content
  if err ≠ 0 then setStaging s fun x => { x with state := 3, err := err }
  else
    let m := manifestSlot g.content
    raise (wrField (setStaging s fun x => { x with state := 2, err := 0, slot := m }) Reg.UPD_FW_PCL 15 0 m.pcl) { blk := 0x13, ev := 2 }

/-- A block enters staging; the first erases it, and verification follows the last (R436). -/
def stageBlock (s : State) (b : List Byte) (first last : Bool) : State :=
  let s1 := if first then setStaging s fun _ => { state := 1 } else s
  let g := s1.upd.staging
  if g.state ≠ 1 ∨ 8192 ≤ g.blocks then s1
  else
    let s2 := setStaging s1 fun x => { x with
      blocks := x.blocks + 1, crcOk := x.crcOk && blockOk b, content := x.content ++ b.take 65532 }
    if last then verifyStaged s2 else s2

/-- FW_BLOCK: Gheras downloads into staging over an engineer's session. An ACTIVE module forwards a verified package. -/
def execFwBlock (session : Nat) (b : List Byte) (first last : Bool) (s0 : State) : Out :=
  let s := touch s0 session
  if !hasRole s session 2 then done (refuseUpd s 2 session)
  else
    let s1 := stageBlock s b first last
    if last ∧ s1.upd.staging.state = 2 ∧ s1.pair.role = .active then done (tokel s1 0x50 [s1.upd.staging.blocks]) else done s1

/-- FWPKG: a forwarded block (R275, R436); a verified package is reported to the active. -/
def execLinkFwpkg (b : List Byte) (first last : Bool) (t : Nat) (s0 : State) : Out :=
  let s := atTime s0 t
  let s1 := stageBlock s b first last
  if last ∧ s1.upd.staging.state = 2 then done (tokel s1 0x30 [17]) else done s1

/-- UPD_CMD.DISCARD erases staging (R436). -/
def execUpdDiscard (c : Cmd) (s : State) : Out :=
  done (updCmd s 3 c fun t => setStaging (accepted t Reg.UPD_CMD c) fun _ => {})

/-! ### Installation (R437, R438, R275, R276) -/

/-- An on-line change is in LOADING to WINDOW (R451). -/
def olcBusy (s : State) : Bool := decide (s.olc.stage ≠ 0)

/-- The cause for which ACTIVATE is refused; 0 none (R437, R451). -/
def activateRefusal (s : State) (session : Nat) (across interrupt : Bool) : Nat :=
  let g := s.upd.staging
  let differs := decide (g.slot.pcl ≠ ownPcl s)
  if !hasRole s session 2 then 2
  else if olcBusy s then 3
  else if g.state ≠ 2 then 4
  else if differs && !across then 5
  else if s.pair.role = .active ∧ across = false then 1
  else if (decide (s.pair.role = .solo) || across) && !interrupt then 6
  else if s.pair.role = .active ∧ g.partnerOk = false then 4 else 0

/-- UPD_CMD.ACTIVATE (R437). -/
def execUpdActivate (c : Cmd) (s : State) : Out :=
  done (updCmd s 1 c fun t =>
    let across := flag c.value 5
    let code := activateRefusal t c.session across (flag c.value 4)
    if code ≠ 0 then refuseUpd t code c.session
    else
      let t1 := setStaging (accepted t Reg.UPD_CMD c) fun x => { x with marked := true }
      if t.pair.role = .active then
        tokel (setUpd t1 fun u => { u with across := some (t.grid.frame + 240) }) 0x30 [18, t.grid.frame + 240]
      else leaveForRestart t1 2)

/-- Both modules restart at the boundary of the named frame (R437). -/
def acrossTick (s : State) : State :=
  match s.upd.across with
  | some f =>
    if f ≤ s.grid.frame then leaveForRestart (setUpd (setStaging s fun x => { x with marked := true }) fun u => { u with across := none }) 2
    else s
  | none => s

/-- UPD_CMD.ROLL (R275, R276, R437). -/
def execUpdRoll (c : Cmd) (s : State) : Out :=
  done (updCmd s 2 c fun t =>
    let g := t.upd.staging
    let result := fun (u : State) (r : Nat) => setUpd u fun x => { x with rollResult := r }
    if !hasRole t c.session 2 then refuseUpd t 2 c.session
    else if t.pair.role ≠ .active then refuseUpd t 1 c.session
    else if olcBusy t then refuseUpd t 3 c.session
    else if g.state ≠ 2 then refuseUpd t 4 c.session
    else if g.slot.pcl ≠ ownPcl t then result (refuseUpd t 5 c.session) 4
    else if t.pair.partner.role ≠ 3 then result (refuseUpd t 1 c.session) 5
    else setUpd (setStaging (accepted t Reg.UPD_CMD c) fun x => { x with marked := true }) fun x => { x with roll := 1, rollResult := 0 })

/-- UPDATE_STEP: a step of R275 completes, or a module has fallen back (R276). -/
def execUpdateStep (fell : Bool) (t : Nat) (s0 : State) : Out :=
  let s := atTime s0 t
  let k := s.upd.roll
  if k = 0 ∨ 6 < k then done s
  else if fell then
    done (raiseA (setUpd s fun u => { u with roll := 7, rollResult := if k < 6 then 2 else 3 }) 8 [k, 1])
  else
    let s1 := raiseA (setUpd s fun u => { u with roll := k + 1, rollResult := if k = 6 then 1 else u.rollResult }) 8 [k, 0]
    match k with
    | 1 => done (tokel s1 0x30 [19])
    | 4 => done (askSwitch s1 5 0 true)
    | _ => done s1

/-! ### Boot slots (R432, R438–R442, R444, R445) -/

/-- The slot that is not COMMITTED (true B); slot A where neither is (R438, R442). -/
def freeSlotB (s : State) : Bool := decide (s.upd.slotA.state = 3)

/-- Write a firmware slot. -/
def putSlot (s : State) (b : Bool) (x : FwSlot) : State := setUpd s fun u => if b then { u with slotB := x } else { u with slotA := x }

/-- The slots as UPD_FW_SLOT and UPD_FW_VERA, VERB show them. -/
def showSlots (s : State) : State :=
  let u := s.upd
  wr (wr (wr s Reg.UPD_FW_SLOT (w32 (u.slotA.state * 2 ^ 28 + u.slotB.state * 2 ^ 24 + bit1 u.bootB 23)))
    Reg.UPD_FW_VERA (w32 u.slotA.version)) Reg.UPD_FW_VERB (w32 u.slotB.version)

/-- During LOAD staging is copied into the free slot and verified again; a failed copy leaves it EMPTY (R438). -/
def installStaged (s : State) (copyOk : Bool) : State :=
  if !s.upd.staging.marked then s
  else
    let b := freeSlotB s
    let s1 := setStaging s fun x => { x with marked := false }
    if copyOk && decide (packageErr s s.upd.staging.crcOk s.upd.staging.content = 0) then
      putSlot s1 b { s.upd.staging.slot with state := 1 }
    else recordBare (putSlot s1 b {}) 1 { blk := 0x13, ev := 0, info := [bit1 b 0] }

/-- A slot is usable (R439). -/
def slotUsable (s : State) (x : FwSlot) : Bool :=
  decide (x.state ≠ 0) && x.intact && decide (s.upd.otp.arb ≤ x.arb) && !bitOf s.upd.otp.revoked x.keyslot

/-- The slot to boot by R439: TRIAL, COMMITTED, PREVIOUS; none means ROM recovery. -/
def bootChoice (s : State) : Option Bool :=
  let u := s.upd
  let pick := fun (st : Nat) =>
    if u.slotA.state = st ∧ slotUsable s u.slotA = true then some false
    else if u.slotB.state = st ∧ slotUsable s u.slotB = true then some true else none
  ((pick 1).orElse fun _ => pick 3).orElse fun _ => pick 4

/-- The chosen slot is booted: a TRIAL slot becomes TRIAL_BOOTED first (R439); the confirm window runs from t0 (R440). -/
def bootSlot (s : State) (b : Bool) : State :=
  let x := if b then s.upd.slotB else s.upd.slotA
  let s1 := putSlot s b (if x.state = 1 then { x with state := 2 } else x)
  let s2 := setUpd s1 fun u => { u with
    bootB := b
    confirmEnd := if x.state = 1 then some (u.t0 + field (rd s Reg.UPD_CONFIRM) 31 15 * 1000000000) else none }
  let s3 := if x.state = 4 then recordBare s2 2 { blk := 0x13, ev := 0, info := [bit1 b 0] } else s2
  showSlots (wrField (wr s3 Reg.DEV_FW_VER (w32 x.version)) Reg.UPD_FW_PCL 31 16 x.pcl)

/-- The booted slot. -/
def booted (s : State) : FwSlot := if s.upd.bootB then s.upd.slotB else s.upd.slotA

/-- A failure since RUN: an engine failed or the module safe state (R440). -/
def failedSinceRun (s : State) : Bool := s.saf.safe || !s.upd.clean || s.le.any fun e => e.2.failed

/-- The booted slot is on trial, the module is in RUN without a failure since, has matched hallmarks (or run as SOLO) for
2,400 frames, and the confirm window is open (R440). -/
def confirmable (s : State) : Bool :=
  decide ((booted s).state = 2) && decide (stage s = 5) && !failedSinceRun s
    && (decide (2400 ≤ s.upd.matchRun) || (decide (s.pair.role = .solo) && decide (2400 ≤ s.upd.runFrames)))
    && (match s.upd.confirmEnd with
      | some e => decide (s.grid.mono ≤ e)
      | none => false)

/-- FW_CONFIRM (R440, R444, R445). -/
def execFwConfirm (t : Nat) (s0 : State) : Out :=
  let s := atTime s0 t
  let x := booted s
  let u := s.upd
  if confirmable s = true then
    let other := if u.bootB then u.slotA else u.slotB
    let s1 := putSlot (putSlot s u.bootB { x with state := 3 }) (!u.bootB) (if other.state = 3 then { other with state := 4 } else other)
    let s2 := setUpd s1 fun v => { v with
      confirmEnd := none, otp := { v.otp with arb := max v.otp.arb x.arb, revoked := Nat.lor v.otp.revoked x.revoke } }
    done (raise (showSlots s2) { blk := 0x13, ev := 3, info := [bit1 u.bootB 0] })
  else done s

/-- CONFIRM_WINDOW_EXPIRY: the slot becomes FAILED and the module restarts (R441). -/
def execConfirmWindowExpiry (t : Nat) (s0 : State) : Out :=
  let s := atTime s0 t
  match s.upd.confirmEnd with
  | some e =>
    if (booted s).state = 2 ∧ e ≤ s.grid.mono then
      let s1 := setUpd (putSlot s s.upd.bootB { booted s with state := 5 }) fun u => { u with confirmEnd := none }
      done (leaveForRestart (raise (showSlots s1) { blk := 0x13, ev := 4, sev := some 2, info := [bit1 s.upd.bootB 0] }) 3)
    else done s
  | none => done s

/-! ### ROM recovery (R442) -/

/-- TFTP_WRITE_REQUEST: one write request for yx7.pkg in octet mode. -/
def execTftpWriteRequest (name mode : List Byte) (s : State) : Out :=
  if s.upd.recovery ∧ !s.upd.tftpOpen ∧ name = textBytes "yx7.pkg" ∧ mode = textBytes "octet" then
    done (setStaging (setUpd s fun u => { u with tftpOpen := true, tftpNext := 1 }) fun _ => { state := 1 })
  else done s

/-- The whole package has arrived: blocks of 65,536 bytes are checked and verified by R435. -/
def recoverPackage (s : State) : State :=
  let bs := chunks (s.upd.staging.content.length + 1) 65536 s.upd.staging.content
  let g : Staging := { state := 1, blocks := bs.length, crcOk := bs.all blockOk, content := bs.flatMap (·.take 65532) }
  let s1 := verifyStaged (setStaging s fun _ => g)
  let s2 := wrField s1 Reg.UPD_REC_STAT 30 28 s1.upd.staging.err
  if s2.upd.staging.state = 2 then
    let b := freeSlotB s2
    let s3 := putSlot s2 b { s2.upd.staging.slot with state := 1 }
    setPair (setUpd (showSlots s3) fun u => { u with tftpOpen := false }) fun p => { p with restartDue := some 6 }
  else setUpd s2 fun u => { u with tftpOpen := false }

/-- TFTP_DATA: block numbers roll over from 65,535 to 0; a block shorter than 512 bytes is the last (RFC 1350). -/
def execTftpData (block : Nat) (b : List Byte) (s : State) : Out :=
  if !s.upd.tftpOpen ∨ block ≠ s.upd.tftpNext then done s
  else
    let s1 := setStaging s fun x => { x with content := x.content ++ b, blocks := x.blocks + 1 }
    let s2 := setUpd (addField s1 Reg.UPD_REC_STAT 19 0 1) fun u => { u with tftpNext := (block + 1) % 65536 }
    if b.length < 512 then done (recoverPackage s2) else done s2

/-! ### Slot memory (R424–R427) -/

/-- A copy is valid (R425). -/
def SlotCopy.valid (c : SlotCopy) : Bool :=
  decide (c.state = 1) && c.hcrcOk && decide (c.image.length ≤ 62914560) && c.hashOk && c.sigOk

/-- The state code of a copy in UPD_SLOTMEM. -/
def SlotCopy.code (c : SlotCopy) : Nat :=
  if c.state = 0 then 0 else if c.state = 2 then 2 else if c.state = 3 ∨ c.hcrcOk = false then 3
  else if c.hashOk = false then 4 else if c.sigOk = false then 5 else 1

/-- UPD_SLOTMEM shows the copies. -/
def showCopiesMem (s : State) : State :=
  let u := s.upd
  let ambig := u.copyA.valid && u.copyB.valid && decide (u.copyA.gen = u.copyB.gen) && decide (u.copyA.sha ≠ u.copyB.sha)
  wr s Reg.UPD_SLOTMEM (w32 (u.copyA.code * 2 ^ 29 + u.copyB.code * 2 ^ 26 + u.used * 2 ^ 24 + bit1 ambig 23 + bit1 u.writing.isSome 22))

/-- A copy begins to be written: its header shows in progress (R424). -/
def beginCopy (s : State) (b : Bool) (c : SlotCopy) (why : Nat) : State :=
  showCopiesMem (setUpd s fun u =>
    let v := { u with writing := some (b, c, why) }
    if b then { v with copyB := { c with state := 2 } } else { v with copyA := { c with state := 2 } })

/-- SLOTMEM_REPAIR: an ACTIVE or SOLO module in RUN rewrites a copy that is invalid or older (R426). -/
def execSlotmemRepair (t : Nat) (s0 : State) : Out :=
  let s := atTime s0 t
  let u := s.upd
  let from_ := if u.used = 2 then u.copyB else u.copyA
  let other := if u.used = 2 then u.copyA else u.copyB
  if s.pair.role.leads ∧ stage s = 5 ∧ u.writing = none ∧ (s.olc.slotw = 0 ∨ s.olc.slotw = 5) ∧ u.used ≠ 0
      ∧ (other.valid = false ∨ other.gen < from_.gen) then
    done (beginCopy s (decide (u.used = 1)) from_ 0)
  else done s

/-- UPD_CMD.CHOOSE resolves stop 2 (R427). -/
def execUpdChoose (c : Cmd) (s : State) : Out :=
  done (updCmd s 6 c fun t =>
    if field (rd t Reg.UPD_STAT) 28 26 ≠ 2 then refuseUpd t 7 c.session
    else if !hasRole t c.session 2 then refuseUpd t 2 c.session
    else
      let b := flag c.value 7
      let from_ := if b then t.upd.copyB else t.upd.copyA
      beginCopy (accepted t Reg.UPD_CMD c) (!b) { from_ with gen := from_.gen + 1 } 1)

/-- SLOTMEM_WRITE_DONE: the copy is read back and complete (R426, R427). After CHOOSE the start goes on at CONFIGURE. -/
def execSlotmemWriteDone (t : Nat) (s0 : State) : Out :=
  let s := atTime s0 t
  match s.upd.writing with
  | none => done s
  | some (b, c, why) =>
    let s1 := setUpd s fun u =>
      let v := { u with writing := none }
      if b then { v with copyB := { c with state := 1 } } else { v with copyA := { c with state := 1 } }
    if why = 0 then done (raise (showCopiesMem s1) { blk := 0x13, ev := 5, info := [bit1 b 0] })
    else done (wrField (enterStage (showCopiesMem s1) 3) Reg.UPD_STAT 28 26 0)

/-- UPD_CFG_GEN_LO answers the generation of the copy in use and latches its high half (R453). -/
def execUpdCfgGenLo (s : State) : Out :=
  let g := if s.upd.used = 1 then s.upd.copyA.gen else if s.upd.used = 2 then s.upd.copyB.gen else 0
  done (answer (wr (wr s Reg.UPD_CFG_GEN_LO (w32 g)) Reg.UPD_CFG_GEN_HI (w32 (g / 2 ^ 32))) (.value (g % 2 ^ 32)))

/-- UPD_DIE_LO answers the die serial and latches its high half (R453). -/
def execUpdDieLo (s : State) : Out :=
  let g := s.upd.otp.serial
  done (answer (wr (wr s Reg.UPD_DIE_LO (w32 g)) Reg.UPD_DIE_HI (w32 (g / 2 ^ 32))) (.value (g % 2 ^ 32)))

/-! ### Trust and attestation (R446–R450) -/

/-- A token is applied only when all of R447 holds. -/
def tokenOk (s : State) (b : List Byte) : Bool :=
  let o := s.upd.otp
  let k := leAt b 16 1
  decide (b.take 4 = textBytes "YTOK") && decide (leAt b 4 8 = o.serial) && decide (s.upd.tokenNum < leAt b 12 4)
    && decide (k < 4) && !bitOf o.revoked k
    && decide (Config.sha512 ((b.drop 20).take 32) = tget [] o.edHash k)
    && decide (Config.sha512 ((b.drop 52).take 1952) = tget [] o.mlHash k)
    && Config.sigValid (0x1000 + k) (b.take 4020) ((b.drop 4020).take 64)
    && Config.sigValid (0x2000 + k) (b.take 4020) ((b.drop 4084).take 3309)

/-- The change a token makes to the store (R447). -/
def tokenApply (t : Tbl (Option Anchor)) (b : List Byte) : Tbl (Option Anchor) :=
  let i := leAt b 18 1 % 8
  match leAt b 17 1 with
  | 1 => tset none t i (some { ed := (b.drop 2004).take 32, ml := (b.drop 2036).take 1952, label := (b.drop 3988).take 32, usage := leAt b 19 1 % 4 })
  | 2 => tset none t i none
  | 3 => []
  | _ => t

/-- A store that holds an anchor for images resolves stop 4, and one that is empty or agrees with the partner's stop 6 (R423). -/
def trustResolves (s : State) : State :=
  let stop := field (rd s Reg.UPD_STAT) 28 26
  let signs := (ownAnchors s).any fun a => bitOf a.2.usage 0
  let agrees := (ownAnchors s).isEmpty || s.upd.partnerTrust.any fun l => decide (bareAnchors (ownAnchors s) = l)
  if (stop = 4 ∧ signs = true) ∨ (stop = 6 ∧ agrees = true) then wrField s Reg.UPD_STAT 28 26 0 else s

/-- TOKEN (R447): over a security-admin session, or over the service port while the store is empty. -/
def execTrustToken (session : Nat) (b : List Byte) (s0 : State) : Out :=
  let s := touch s0 session
  if (hasRole s session 4 || (decide (session = 0) && s.upd.trust.isEmpty)) && tokenOk s b then
    let s1 := setUpd s fun u => { u with trust := tokenApply u.trust b, tokenNum := leAt b 12 4 }
    done (raise (trustResolves (wr s1 Reg.UPD_TOKEN_NUM (w32 (leAt b 12 4)))) { blk := 0x13, ev := 6, info := [session, leAt b 12 4, leAt b 17 1, leAt b 18 1] })
  else done (refuse s Reg.UPD_TOKEN_NUM none session)

/-- The content of the trust store as bytes, in the order of R446. -/
def trustBytes (s : State) : List Byte :=
  (upto 8).flatMap fun i => match tget none s.upd.trust i with
    | some a => a.ed ++ a.ml ++ a.label ++ leBytes 1 a.usage
    | none => []

/-- The bytes 0 to 551 of an attestation report (R450). -/
def attestBody (s : State) (nonce : List Byte) : List Byte :=
  let u := s.upd
  let zero := List.replicate 64 (0 : Byte)
  let man := fun (x : FwSlot) => if x.state = 0 then zero else x.manifestSha
  let cfg := if u.used = 1 then u.copyA.sha else if u.used = 2 then u.copyB.sha else zero
  let s1 := if u.s1Used = 1 then u.copyA.s1Sha else if u.s1Used = 2 then u.copyB.s1Sha else zero
  let fit := fun (n : Nat) (b : List Byte) => (b ++ List.replicate n 0).take n
  fit 32 nonce ++ leBytes 8 u.otp.serial ++ leBytes 8 s.grid.frame ++ leBytes 1 (rd s Reg.TIM_TQ).toNat
    ++ leBytes 1 (bit1 u.bootB 0) ++ leBytes 1 (u.slotA.state + 16 * u.slotB.state) ++ leBytes 1 u.otp.arb ++ leBytes 1 u.otp.revoked
    ++ leBytes 3 0 ++ fit 64 u.otp.romSha ++ fit 64 (man u.slotA) ++ fit 64 (man u.slotB) ++ fit 64 cfg ++ fit 64 s1
    ++ fit 64 (Config.sha512 (trustBytes s)) ++ fit 64 (if u.staging.state = 2 then u.staging.slot.manifestSha else zero)
    ++ leBytes 4 s.cfg.id ++ List.replicate 44 0

/-- ATTESTATION over a session of any role (R450). -/
def execAttestation (session : Nat) (nonce : List Byte) (s0 : State) : Out :=
  let s := touch s0 session
  if hasSession s session then
    let body := attestBody s nonce
    done (answer s (.values ((body ++ Config.sign 1 body ++ Config.sign 2 body).map (·.toNat))))
  else done (answer s (.refused 0))

end Sys2Proof.Machine
end

