-- ==== Sys2Proof/Machine/Frame.lean ====
section
/-! DEFINITION. The frame (R15–R37, R55, R541): freeze, compute, seal, commit, and the resume command. -/

namespace Sys2Proof.Machine

open Sys2Proof

/-! ### The freeze (R20, R22) -/

/-- The frame whose freeze comes due at instant t: the first one from GUARD on (R234), then the frame of t, once the present
one has committed or has computed nothing. -/
def freezeDue (s : State) (t : Nat) : Option Nat :=
  if stage s = 0 then none
  else if !s.grid.running then some (frameAt t)
  else if (s.grid.phase = 3 ∨ s.grid.phase = 0) ∧ s.grid.frame < frameAt t then some (frameAt t)
  else none

/-- Frame n begins: the frame before ends with its records-lost record (R475), and what it sent and refused is past. -/
def beginFrame (s : State) (n : Nat) : State :=
  let s1 := recordsLost s
  { s1 with
    sent := []
    acc := { s1.acc with recorded := [] }
    grid := { s1.grid with running := true, phase := 0, frame := n, freezes := s1.grid.freezes + 1, freezeAt := frameStart n }
    sched := { s1.sched with classes := tmapAll {} (fun _ c => { c with st := .idle }) s1.sched.classes }
    fbx := { s1.fbx with cores := tmapAll {} (fun _ x => { x with released := [] }) s1.fbx.cores } }

/-- The common instant (R22): outputs latch what the distribute role held until now, the banks rotate, and inputs present
their values, which belong to the next image (R23). -/
def commonInstant (s : State) : State :=
  let s1 := rotateBanks (latchAxs (latchDos s))
  presentAis (presentDis (distributed s1))

/-- A mode change due takes effect (R106). -/
def switchModes (s : State) : State :=
  (upto 8).foldl (fun u e => match (leOf u e).modePend with
    | some (m, f) =>
      if f ≤ u.grid.frame then
        raise (wrField (setLe u e { leOf u e with split := m, modePend := none }) (Reg.LE_CMP_STAT e) 24 24 0)
          { blk := 3, ev := 5, info := [e, bit1 m 0] } e
      else u
    | none => u) s

/-- The service time of the cores over the second that ends. -/
def countService (s : State) : State :=
  if s.grid.frame % 2400 = 0 then
    let t := s.grid.freezeAt
    { s with fbx := { s.fbx with cores := (upto 4).foldl (fun c k =>
        let x := tget {} c k
        let y := if x.service then { x with svcNs := x.svcNs + (t - x.svcFrom), svcFrom := t } else x
        tset {} c k { y with svcUs := min 0xFFFFF (y.svcNs / 1000), svcNs := 0 }) s.fbx.cores } }
  else s

/-- The windows of R102 move on: WIN clears when its event is 2,400 frames old. -/
def slideWindows (s : State) : State :=
  (upto 8).foldl (fun u e =>
    if (leOf u e).events.any (fun f => decide (u.grid.frame - f ≤ 2399)) then u else wrField u (Reg.LE_CMP_STAT e) 31 31 0) s

/-- Requests of the pair, of forcing and of maintenance mode that this frame decides, and a restart of both modules. -/
def frameRequests (s : State) : State := acrossTick (smmTick (forceTick (switchTick s)))

/-- The safety functions on the frozen values (R283, R286–R292, R297). -/
def freezeSafety (s : State) : State :=
  let s1 := s.cfg.saf.rx.foldl (fun u e => stcFreeze u e.1 e.2) (safChallenge s)
  let s2 := driveMonitors (safInputs (stcOverlay s1))
  setSaf s2 fun x => { x with stc := tmapAll {} (fun _ y => { y with fresh := false }) x.stc }

/-- The field buses, the station and the phasor engines at a freeze. -/
def freezeBuses (s : State) : State :=
  peFreeze (gratuitousArp (operateFreeze (reportsFreeze (canFreeze (chainFreeze (lioFaults s))))))

/-- The hand-over of R268 and R270 is over three frames after the handover frame. -/
def endHandOver (s : State) : State :=
  match s.pair.ho with
  | some h => if h.h + 3 ≤ s.grid.frame then setPair s fun p => { p with ho := none } else s
  | none => s

/-- HB0 and HB1 toggle (R234). SC has to have seen the commit of the frame before, or be OFFLINE. -/
def heartbeats (s : State) : State :=
  setPair s fun p =>
    let hb0 := !p.hbStopped && !s.saf.safe
    let hb1 := hb0 && (p.committed || decide (p.role = .offline))
    { p with committed := false, lines := { p.lines with hb0 := p.lines.hb0 != hb0, hb1 := p.lines.hb1 != hb1 } }

/-- FMARK on every lane (R252). -/
def sendFmark (s : State) : State :=
  (upto 4).foldl (fun u lane => tokel u 0x01
    [lane, u.grid.frame, u.pair.role.code, bit1 u.pair.sideB 0, u.cfg.id, ownPcl u, selBase u, u.olc.stage, (ownHealth s).toNat]) s

/-- The ACTIVE module of a pair that aligns sends its digests (R255, R256). -/
def sendDigest (s : State) : State :=
  if s.pair.role = .active ∧ hmAttempt s = true then
    tokel s 0x10 ((partNums s).flatMap fun p =>
      let d := digestOf s p
      p :: d.d.toNat :: d.t.toNat :: d.blocks.map (·.toNat))
  else s

/-- The Tokel link at a freeze: the hallmarks of the frame before are compared, the next comparison is prepared, and FMARK and
DIGEST go out (R252, R255, R260). -/
def freezeLink (s : State) : State :=
  let s1 := hallmarkCompare s
  let s2 := setPair s1 fun p => { p with hmRoles := hmAttempt s1, hmSpoilt := false, hmPartner := none }
  sendDigest (sendFmark (linkFreeze (alignFreeze s2)))

/-- What a watch unit watches: the frozen value of its endpoint and, for an analogue one, its quality word (R62). -/
def watched (s : State) (ep : Nat) : Nat × Nat :=
  if isBinary ep then ((frozenBin s ep).toNat, 0) else ((frozenAna s ep).val.toNat, (frozenAna s ep).qual.toNat)

/-- The watch units that are enabled, with their endpoints. -/
def watchUnits (s : State) : List (Nat × Nat) :=
  (upto 4).filterMap fun k =>
    let w := rd s (Reg.SIG_WATCHn k)
    if flag w 31 then some (k, field w 18 0) else none

/-- The changes that the watch units see between the image frozen before and the one frozen now. -/
def watchChanges (before s : State) : State :=
  (watchUnits s).foldl (fun u w =>
    let a := watched before w.2
    let b := watched s w.2
    if a = b then u
    else raise (setBit u Reg.SIG_WATCH_STAT w.1) { blk := 2, ev := 4, info := [w.1, w.2, a.1, a.2, b.1, b.2] }) s

/-- A restart asked for by a command, an update or a removal shows the final page (R496). -/
def finalDue (s : State) : State :=
  if s.pair.restartDue.any (fun c => decide (c = 1) || decide (c = 2) || decide (c = 3)) then wantFinal s else s

/-- The freeze of frame n. -/
def freezeFrame (s : State) (n : Nat) : State :=
  let wasUp := s.pair.linkUp && decide (s.pair.lanesIn.length = 4)
  let s1 := commonInstant (endHandOver (applyRole (beginFrame s n)))
  let s2 := (upto 4).foldl swapFifo (countService s1)
  let s3 := timFreeze (frameRequests (slideWindows (switchModes s2)))
  let s4 := freezeSafety (s3 |> resumesDue |>.foldl leaveReaction s3)
  let s5 := freezeBuses (collectStatus s4 wasUp)
  let s6 := freezeLink (heartbeats s5)
  let s7 := finalDue (removalTick (loadBudgets s6))
  let s8 := if stage s7 = 5 then { s7 with upd := { s7.upd with runFrames := s7.upd.runFrames + 1 } } else s7
  watchChanges s s8

/-- FREEZE (R20). -/
def execFrameFreeze (t : Nat) (s0 : State) : Out :=
  let s := atTime s0 t
  match freezeDue s t with
  | some n => done (freezeFrame s n)
  | none => done s0

/-! ### Compute (R67) -/

/-- A logic engine takes the classes due in the frame and starts the first on each stream. -/
def startEngine (s : State) (e t : Nat) : State :=
  let x := leOf s e
  let q0 := if x.failed then [] else leQueue s e 0
  let q1 := if x.failed || !x.split then [] else leQueue s e 1
  let s1 := setLe s e { x with s0 := { x.s0 with queue := q0, frameSlots := 0 }, s1 := { x.s1 with queue := q1, frameSlots := 0 } }
  startNext (startNext s1 e 0 t) e 1 t

/-- An application core takes the slot table entries used in the frame (R116). -/
def startCore (s : State) (k : Nat) : State := setAc s k { acOf s k with used := usedSlots s k }

/-- The classes due in the frame, of partitions that run. -/
def dueClasses (s : State) : List Nat := (upto 12).flatMap fun e => dueOn s e

/-- COMPUTE: alignment closes, and the engines start the classes due, unless the role runs none (R227, R256–R258). -/
def execFrameCompute (t : Nat) (s0 : State) : Out :=
  let s := atTime s0 t
  if s.grid.running = false ∨ s.grid.phase ≠ 0 ∨ t < s.grid.freezeAt + 40000 then done s0
  else
    let s1 := alignClose { s with grid := { s.grid with phase := 1 } }
    if !runsClasses s1 then done s1
    else
      let t0 := s1.grid.freezeAt + 40000
      let s2 := (dueClasses s1).foldl (fun u k => setClass u k { classOf u k with st := .due }) s1
      done ((upto 4).foldl startCore ((upto 8).foldl (fun u e => startEngine u e t0) s2))

/-! ### Seal (R33, R111, R259) -/

/-- The stop instant of the window. -/
def windowEnd (s : State) : Nat := s.grid.freezeAt + 360000

/-- The streams of an engine hold no class. -/
def idleStreams (s : State) (e : Nat) : State :=
  let x := leOf s e
  let idle := fun (st : LeStream) => ({ st with cls := none, progs := [], queue := [], hbuf := [], stores := [] } : LeStream)
  setLe s e { x with s0 := idle x.s0, s1 := idle x.s1 }

/-- The classes of a logic engine not finished: running ones, then those not started. -/
def unfinishedLe (x : LeEngine) : List Nat × List Nat := (x.s0.cls.toList ++ x.s1.cls.toList, x.s0.queue ++ x.s1.queue)

/-- The class stops at the end of the window: one overrun (R33). -/
def windowStop (gone : List Nat) (started : Bool) (s : State) (k : Nat) : State :=
  let t := windowEnd s
  let s1 := if started then chargeClass s k t .stopped else s
  overrun s1 k (if gone.contains (classCfg s k).part then 1 else 0)

/-- The class is stopped with a halted engine: a debug stop, no overrun (R111). -/
def debugStop (e : Nat) (s : State) (k : Nat) : State :=
  recordBare (setClass s k { classOf s k with st := .stopped }) 4 { blk := 3, ev := 0, part := (classCfg s k).part, info := [e, k] }

/-- A logic engine at the end of the window. -/
def sealEngine (gone : List Nat) (s : State) (e : Nat) : State :=
  let x := leOf s e
  let (run, wait) := unfinishedLe x
  let s1 := wr (idleStreams s e) (Reg.LE_LOAD e) (w32 (min 320000 (x.s0.frameSlots + x.s1.frameSlots)))
  if x.halt then
    let s2 := (run ++ wait).foldl (debugStop e) s1
    wrField (setLe s2 e { leOf s2 e with halt := false, haltReq := false, passBp := false }) (Reg.LE_DBG_CTRL e) 30 30 0
  else wait.foldl (windowStop gone false) (run.foldl (windowStop gone true) s1)

/-- An application core at the end of the window. -/
def sealCore (gone : List Nat) (s : State) (k : Nat) : State :=
  let x := acOf s k
  let wait := x.used.filterMap fun j => ((slotTable s k)[j]?).map (·.cls)
  let s1 := match x.cls with
    | some c => stopAc (windowStop gone true s c) k (windowEnd s)
    | none => s
  wait.foldl (windowStop gone false) (setAc s1 k { acOf s1 k with used := [], stalled := false })

/-- The length of the union of intervals that are sorted by their starts. -/
def unionLen : Nat → List (Nat × Nat) → Nat
  | _, [] => 0
  | top, (a, b) :: r => (b - max a top) + unionLen (max b top) r

/-- Insert an interval by its start. -/
def insertSpan (a : Nat × Nat) : List (Nat × Nat) → List (Nat × Nat)
  | [] => [a]
  | b :: r => if a.1 ≤ b.1 then a :: b :: r else b :: insertSpan a r

/-- The engine budget counters after the window (R31): the part of a µs left over rounds as no rule says. -/
def countEngine (s : State) (e : Nat) : State :=
  let u := tget {} s.sched.engines e
  let n := s.grid.frame
  let ns := unionLen 0 (u.busy.foldl (fun l a => insertSpan a l) [])
  let us := ns / 1000 + (if ns % 1000 = 0 then 0 else bit1 (Config.roundUp s.freeN) 0)
  let h := (n, us) :: u.hist.filter fun f => decide (n - f.1 ≤ 2399)
  { s with freeN := s.freeN + 1
           sched := { s.sched with engines := tset {} s.sched.engines e { busy := [], last := us, hist := h } } }

/-- SEAL: classes still running or not started stop, the output bank takes the stores of the classes that finished, and the
hallmark is computed. -/
def execFrameSeal (t : Nat) (s0 : State) : Out :=
  let s := atTime s0 t
  if s.grid.running = false ∨ s.grid.phase ≠ 1 ∨ t < windowEnd s then done s0
  else
    let gone := (upto 128).filter fun p => budgetGone s p (windowEnd s)
    let s1 := (upto 4).foldl (sealCore gone) ((upto 8).foldl (sealEngine gone) s)
    let s2 := (upto 12).foldl countEngine s1
    let s3 := setPair s2 fun p => { p with hm := some (hallmarkOf s2) }
    let s4 := (s3.sig.pend.map (·.ep)).foldl endSafe (setOutput s3 fun b => applyStores s3 b s3.sig.pend)
    done { s4 with grid := { s4.grid with phase := 2 } }

/-! ### Commit (R25, R35) -/

/-- The instant of the commit. -/
def commitAt (s : State) : Nat := s.grid.freezeAt + 390000

/-- The module commits: one that has lost its grant without KILL, and an outgoing one in its handover frame, does not
(R239, R240). -/
def mayCommit (s : State) : Bool :=
  !(s.pair.role.leads && !s.pair.granted && !s.pair.lines.killed && !s.pair.claspFail)
    && !(s.pair.ho.any fun h => h.outgoing && decide (h.h = s.grid.frame))

/-- The sealed image is released: committed values, forces over them, collected and retained. -/
def releaseImage (s : State) (touched : List Nat) : State :=
  let s1 := { s with sig := { s.sig with committed := releasedImage s, pend := [] } }
  let forced := (s.frc.table.filterMap (·.2)).map (·.ep) |>.filter fun ep => !isSource s ep
  let eps := (touched ++ forced).eraseDups
  touched.foldl retainCommitted (eps.foldl (fun u ep => collectCommitted u (commitAt s) ep) s1)

/-- What the pair sends after a commit: the hallmark, the state of lagging partitions, and learning's transfers
(R257, R260, R264). -/
def commitLink (s : State) : State :=
  let s1 := match s.pair.hm with
    | some h => tokel s 0x20 [h.frame, h.h.toNat, h.o.toNat, h.c.toNat, h.w.toNat]
    | none => s
  if s1.pair.role = .active then
    let s2 := s1.pair.align.lag.foldl (fun u p => tokel u 0x42 [p, u.grid.frame]) s1
    if s2.pair.partner.role = 4 then
      match s2.pair.learn.phase with
      | 1 => tokel s2 0x40 [s2.grid.frame]
      | 2 => tokel s2 0x41 [s2.grid.frame]
      | 3 => tokel s2 0x42 [s2.grid.frame]
      | 4 => tokel s2 0x43 [s2.grid.frame]
      | _ => s2
    else s2
  else s1

/-- What the units take from the committed image: retained data, publications, CAN, YIELD. -/
def commitUnits (s : State) : State :=
  let s1 := startWriteThrough s
  let s2 := if s1.slot.failing.isSome then { s1 with fbx := { s1.fbx with retStopped := true } } else s1
  canCommit (commitPubs (publishSafes (raiseYield s2)))

/-- COMMIT. -/
def execFrameCommit (t : Nat) (s0 : State) : Out :=
  let s := atTime s0 t
  if s.grid.running = false ∨ s.grid.phase ≠ 2 ∨ t < commitAt s then done s0
  else
    let due := reactionsDue s
    let s1 := due.foldl enterReaction { s with grid := { s.grid with phase := 3 } }
    let safe := (due.filter fun p => (partOf s1 p).safe && !(partOf s p).react).flatMap (ownedOf s1)
    let s2 := if mayCommit s1 then
        setPair (commitLink (commitUnits (releaseImage s1 (((s1.sig.pend.map (·.ep)) ++ safe).eraseDups)))) fun p => { p with committed := true }
      else { s1 with sig := { s1.sig with pend := [] } }
    done s2

/-! ### Resume (R36) -/

/-- FRM_PART_CMD.RESUME: the engineer role, and for a safety partition maintenance mode. -/
def execPartResume (c : Cmd) (s : State) : Out :=
  done (keyedBit s Reg.FRM_PART_CMD 0 c fun t =>
    let p := field (rd t Reg.FRM_PART_SEL) 6 0
    if !hasRole t c.session 2 ∨ ((partCfg t p).safety ∧ !t.saf.smmOn) then refuse t Reg.FRM_PART_CMD none c.session
    else
      let t1 := accepted t Reg.FRM_PART_CMD c
      if (partOf t1 p).react then setPart t1 p { partOf t1 p with resumeAt := some (t1.grid.frame + 1) } else t1)

end Sys2Proof.Machine
end

