-- ==== Sys2Proof/Machine/Health.lean ====
section
/-! DEFINITION. The monitors: temperatures, voltages, process monitors, life counters (R523–R536). -/

namespace Sys2Proof.Machine

open Sys2Proof

/-- Change the monitors. -/
def setHlt (s : State) (f : HltState → HltState) : State := { s with hlt := f s.hlt }

/-- A sensor. -/
def tempOf (s : State) (n : Nat) : TempState := tget {} s.hlt.temps n
def setTemp (s : State) (n : Nat) (x : TempState) : State := setHlt s fun h => { h with temps := tset {} h.temps n x }

/-! ### Temperature (R523–R527) -/

/-- The warning and the clear level of a sensor, in tenths of a degree (R523). -/
def tempLimits (n : Nat) : Int × Int :=
  if n < 4 then (1150, 1100) else if n < 6 then (950, 900) else if n < 8 then (1100, 1050) else if n = 8 then (850, 800)
  else if n = 9 then (1100, 1050) else if n = 10 then (1000, 950) else (750, 720)

/-- The list in ascending order. -/
def insertSorted (v : Int) : List Int → List Int
  | [] => [v]
  | x :: xs => if v ≤ x then v :: x :: xs else x :: insertSorted v xs

/-- Twice the median of four die readings. -/
def dieMedian2 (vs : List Int) : Int :=
  let a := (vs.take 4).foldr insertSorted []
  a.getD 1 0 + a.getD 2 0

/-- One more sample in a row, at most 3. -/
def sampleRun (b : Bool) (n : Nat) : Nat := if b then min 3 (n + 1) else 0

/-- A sensor takes a sample: thresholds are entered and left at the third sample in a row (R523, R524). -/
def TempState.sample (x : TempState) (n : Nat) (v m2 : Int) : TempState :=
  let (w, c) := tempLimits n
  let hi := sampleRun (decide (w ≤ v)) x.hi
  let lo := sampleRun (decide (v < c)) x.lo
  let top := sampleRun (decide (n < 4) && decide (1250 ≤ v)) x.top
  let agrees := decide ((2 * v - m2).natAbs ≤ 200)
  let far := sampleRun (decide (n < 4) && !agrees) x.far
  let near := sampleRun agrees x.near
  let excl := if n < 4 then (if far = 3 then true else if near = 3 then false else x.excl) else false
  { x with
    val := v, hi := hi, lo := lo, top := top, far := far, near := near, excl := excl
    valid := !excl && (decide (4 ≤ n) || agrees)
    warn := if hi = 3 then true else if lo = 3 then false else x.warn
    crit := if top = 3 then true else if lo = 3 then false else x.crit
    peak := some (match x.peak with
      | some p => max p v
      | none => v) }

/-- The valid die sensors. -/
def validDies (s : State) : List Nat := (upto 4).filter fun n => (tempOf s n).valid

/-- The die temperature; with fewer than two valid sensors the die counts as at its warning threshold (R524). -/
def dieTemp (s : State) : Int :=
  let ds := validDies s
  if ds.length < 2 then 1150 else ds.foldl (fun m n => max m (tempOf s n).val) (-32768)

/-- The words of a sensor. -/
def showTemp (s : State) (n : Nat) : State :=
  let x := tempOf s n
  let v16 := (i32 x.val).toNat % 65536
  let s1 := wr s (Reg.MON_TEMPn n) (w32 (bit1 (!x.excl) 31 + bit1 x.warn 30 + bit1 x.crit 29 + v16))
  wr s1 (Reg.MON_TPEAKn n) (match x.peak with
    | some p => w32 ((i32 p).toNat % 65536)
    | none => 0)

/-- A sensor is sampled; a warning and an exclusion are recorded with severity 2 (R524, R525). -/
def sampleTemp (s : State) (n : Nat) (v m2 : Int) : State :=
  let x := tempOf s n
  let y := x.sample n v m2
  let seq := s.rcd.seqNext.toNat
  let s1 := setTemp s n { y with recd := if y.warn then (if x.warn then x.recd else some (seq, s.grid.frame)) else none }
  let s2 := if y.warn ∧ !x.warn then raise s1 { blk := 0x14, ev := 0, sev := some 2, info := [n, (i32 v).toNat] }
    else if x.warn ∧ !y.warn then
      match x.recd with
      | some (q, f) => conditionEnded s1 0x14 0 q (s.grid.frame - f)
      | none => s1
    else s1
  showTemp (if y.excl ∧ !x.excl then raise s2 { blk := 0x14, ev := 2, sev := some 2, info := [n] } else s2) n

/-- The die band of R531. -/
def dieBand (t : Int) : Nat := if t < 850 then 0 else if t < 1000 then 1 else if t < 1150 then 2 else 3

/-- The drop to GUARD at 125 °C (R526): the role decides how the module reaches OFFLINE, and it restarts at GUARD. -/
def dropToGuard (s : State) : State :=
  let s1 := raise (setBit (setHlt s fun h => { h with waiting := true, cool := none }) Reg.MON_STAT 30)
    { blk := 0x14, ev := 1, sev := some 3, info := [(i32 (dieTemp s)).toNat] }
  let s2 := markLifeDrop s1
  if s.pair.role = .active ∧ s.pair.partner.role = 3 then
    let s3 := requestSwitchover s2 2
    if switchRefusal s2 2 = 0 then s3 else leaveForRestart s3
  else leaveForRestart s2

/-- TEMP_SAMPLE: the 12 sensors, every 1 ms. Life time accrues in the hours and the bands (R531). -/
def execTempSample (vs : List Int) (t : Nat) (s0 : State) : Out :=
  let s := atTime s0 t
  let m2 := dieMedian2 vs
  let s1 := (upto 12).foldl (fun u n => sampleTemp u n (vs.getD n 0) m2) s
  let die := dieTemp s1
  let few := decide ((validDies s1).length < 2)
  let warn := few || (upto 4).any fun n => (tempOf s1 n).warn && !(tempOf s1 n).excl
  let mask := (validDies s1).foldl (fun m n => m + 2 ^ n) 0
  let s2 := wrField (wrField s1 Reg.MON_STAT 31 31 (bit1 warn 0)) Reg.MON_STAT 28 28 (bit1 ((upto 4).any fun n => (tempOf s1 n).excl) 0)
  let s3 := wr s2 Reg.MON_DIE (w32 ((i32 die).toNat % 65536 * 65536 + mask))
  let dt := if s.slot.power then s3.grid.mono - s.hlt.lastTick else 0
  let s4 := setHlt s3 fun h => { h with
    lastTick := s3.grid.mono, poh := h.poh + dt, bands := tmod 0 h.bands (dieBand die) (· + dt)
    cool := if h.waiting ∧ die < 1100 then some (h.cool.getD s3.grid.mono) else none
    hot := h.hot && (upto 4).any fun n => decide (1000 ≤ (tempOf s3 n).val) }
  let critical := !few && (validDies s4).any fun n => (tempOf s4 n).crit
  done (if critical ∧ !s4.hlt.waiting ∧ s4.slot.power ∧ 1 ≤ stage s4 then dropToGuard s4 else s4)

/-! ### Voltage (R528) -/

/-- A rail outside its window: below, above. -/
def railOut (n mv : Nat) : Bool × Bool :=
  let pct := fun (p nom : Nat) => (decide (mv * 100 < nom * (100 - p)), decide (nom * (100 + p) < mv * 100))
  if n < 8 then pct 4 (Config.railNominal n)
  else if n < 16 ∨ n = 22 then pct 5 (Config.railNominal n)
  else if n = 16 ∨ n = 17 ∨ n = 21 then (decide (mv < 19200), decide (30000 < mv))
  else if n = 18 then (decide (mv < Config.busThreshold 0), false)
  else if n = 19 ∨ n = 20 then (decide (mv < 18000), decide (30000 < mv))
  else pct 5 3300

/-- One rail is sampled. -/
def sampleVolt (s : State) (n mv : Nat) : State :=
  let x := tget {} s.hlt.volts n
  let (lo, hi) := railOut n mv
  let out := lo || hi
  let was := x.low || x.high
  let ext := match x.ext with
    | some (a, b) => (min a mv, max b mv)
    | none => (mv, mv)
  let seq := s.rcd.seqNext.toNat
  let y : VoltState := { low := lo, high := hi, ext := some ext, recd := if out then (if was then x.recd else some (seq, s.grid.frame)) else none }
  let s1 := setHlt s fun h => { h with volts := tset {} h.volts n y }
  let s2 := wr (wr s1 (Reg.MON_VOLTn n) (w32 (bit1 lo 31 + bit1 hi 30 + mv % 65536))) (Reg.MON_VEXTn n) (w32 (ext.2 % 65536 * 65536 + ext.1 % 65536))
  if out ∧ !was then raise s2 { blk := 0x14, ev := 3, sev := some 2, info := [n, mv] }
  else if was ∧ !out then
    match x.recd with
    | some (q, f) => conditionEnded s2 0x14 3 q (s.grid.frame - f)
    | none => s2
  else s2

/-- VOLTAGE_SAMPLE: the 24 monitors, every 100 µs. -/
def execVoltageSample (mvs : List Nat) (t : Nat) (s0 : State) : Out :=
  let s := atTime s0 t
  let s1 := (upto 24).foldl (fun u n => sampleVolt u n (mvs.getD n 0)) s
  let any := s1.hlt.volts.any fun e => e.2.low || e.2.high
  let s2 : State := { s1 with lio := { s1.lio with supply := mvs.getD 21 0 } }
  done (wrField s2 Reg.MON_STAT 27 27 (bit1 any 0))

/-! ### Process monitors (R529, R530) -/

/-- A quotient whose rounding no rule states. -/
def openDiv (s : State) (a : Int) (b : Nat) : Int :=
  let q := Int.fdiv a (Int.ofNat b)
  if Int.fmod a (Int.ofNat b) = 0 then q else if Config.roundUp s.freeN then q + 1 else q

/-- A drawn rounding is used up. -/
def drawn (s : State) : State := { s with freeN := s.freeN + 1 }

/-- A 16-bit two's complement field. -/
def s16 (v : Int) : Nat := (BitVec.ofInt 16 v).toNat

/-- An oscillator. -/
def procOf (s : State) (n : Nat) : ProcState := tget {} s.hlt.procs n
def setProc (s : State) (n : Nat) (x : ProcState) : State :=
  wr (setHlt s fun h => { h with procs := tset {} h.procs n x }) (Reg.MON_PROCn n)
    (w32 (bit1 x.warn 31 + bit1 x.alarm 30 + bit1 x.rate 29 + s16 x.slow))

/-- PROCESS_MONITOR: the normalised counts of the 16 oscillators in kHz, once per second. A baseline of 0 gives no slowdown:
the value is free. -/
def execProcessMonitor (norm : List Nat) (t : Nat) (s0 : State) : Out :=
  let s := atTime s0 t
  done ((upto 16).foldl (fun u n =>
    let base := (rd u (Reg.MON_PBASEn n)).toNat
    let slow : Int := if base = 0 then (BitVec.ofNat 16 (Config.freeWord u.freeN).toNat).toInt
      else openDiv u ((Int.ofNat base - Int.ofNat (norm.getD n 0)) * 10000) base
    let x := procOf u n
    setProc (drawn u) n { x with slow := slow, sum := x.sum + slow, cnt := x.cnt + 1 }) s)

/-- The daily value of an oscillator, d days before the newest. -/
def trendVal (s : State) (n d : Nat) : Option Int :=
  match s.hlt.newest with
  | some k => if d ≤ k ∧ d < 12288 then tget none s.hlt.log ((k - d) * 16 + n) else none
  | none => none

/-- The oldest of the last 365 daily values of an oscillator. -/
def trendOldest (s : State) (n : Nat) : Option Int :=
  (((upto 12288).filterMap (trendVal s n)).take 365).getLast?

/-- The day of one oscillator is logged and judged. -/
def trendOne (s : State) (day n : Nat) : State :=
  let x := procOf s n
  if x.cnt = 0 then s
  else
    let mean := openDiv s x.sum x.cnt
    let s1 := setHlt (drawn s) fun h => { h with log := tset none h.log (day * 16 + n) (some mean) }
    let rate := (trendOldest s1 n).any fun o => decide (100 ≤ mean - o)
    let y : ProcState := { slow := x.slow, warn := decide (400 ≤ mean), alarm := decide (600 ≤ mean), rate := rate }
    let s2 := setProc s1 n y
    let s3 := if y.warn ∧ !x.warn then raise s2 { blk := 0x14, ev := 4, sev := some 1, info := [n, (i32 mean).toNat] } else s2
    if (y.alarm ∧ !x.alarm) ∨ (y.rate ∧ !x.rate) then
      raise s3 { blk := 0x14, ev := 5, sev := some 2, info := [n, (i32 mean).toNat, bit1 y.alarm 1 + bit1 y.rate 0] }
    else s3

/-- TREND_DAY: at a TAI day boundary the daily means are written to the log and judged. The log holds 12,288 days. -/
def execTrendDay (t : Nat) (s0 : State) : Out :=
  let s := atTime s0 t
  let day := t / 1000000000 / 86400 - 1
  let s1 := setHlt s fun h => { h with newest := some day, log := h.log.filter fun e => decide (day < e.1 / 16 + 12288) }
  let s2 := (upto 16).foldl (fun u n => trendOne u day n) s1
  let any := (upto 16).any fun n => (procOf s2 n).alarm || (procOf s2 n).rate
  done (wrField s2 Reg.MON_STAT 26 26 (bit1 any 0))

/-! ### Clears (R535, R536) -/

/-- DEV_CMD.CLR_CNT: no effect on the life counters; recorded. -/
def execDevClrCnt (c : Cmd) (s : State) : Out :=
  done (keyedBit s Reg.DEV_CMD 0 c fun t => cleared t Reg.DEV_CMD c.session)

/-- MON_CMD.CLR_PEAK. -/
def execMonClrPeak (c : Cmd) (s : State) : Out :=
  done (keyedBit s Reg.MON_CMD 0 c fun t =>
    let t1 := setHlt t fun h => { h with
      temps := tmapAll {} (fun _ x => { x with peak := none }) h.temps
      volts := tmapAll {} (fun _ x => { x with ext := none }) h.volts }
    let t2 := zeroRegs (zeroRegs t1 ((upto 12).map Reg.MON_TPEAKn)) ((upto 24).map Reg.MON_VEXTn)
    cleared t2 Reg.MON_CMD c.session)

end Sys2Proof.Machine
end

