-- ==== Sys2Proof/Machine/Logic.lean ====
section
/-! DEFINITION. The commands of the logic engines: one instruction each (R72–R86), the illegal word (R88), the self-tests
(R101–R103), mode requests (R106, R107) and the debugger (R108–R111). -/

namespace Sys2Proof.Machine

open Sys2Proof

/-- LD (R76). -/
def execLeLd (st : LeStep) (s : State) : Out := done (issue s st (some 0x01))
/-- LDN (R76). -/
def execLeLdn (st : LeStep) (s : State) : Out := done (issue s st (some 0x02))
/-- LDL (R77, R104). -/
def execLeLdl (st : LeStep) (s : State) : Out := done (issue s st (some 0x03))
/-- AND (R73). -/
def execLeAnd (st : LeStep) (s : State) : Out := done (issue s st (some 0x10))
/-- ANDN (R74). -/
def execLeAndn (st : LeStep) (s : State) : Out := done (issue s st (some 0x11))
/-- OR (R73). -/
def execLeOr (st : LeStep) (s : State) : Out := done (issue s st (some 0x12))
/-- ORN (R74). -/
def execLeOrn (st : LeStep) (s : State) : Out := done (issue s st (some 0x13))
/-- XOR (R73). -/
def execLeXor (st : LeStep) (s : State) : Out := done (issue s st (some 0x14))
/-- XORN (R74). -/
def execLeXorn (st : LeStep) (s : State) : Out := done (issue s st (some 0x15))
/-- BOP (R75). -/
def execLeBop (st : LeStep) (s : State) : Out := done (issue s st (some 0x18))
/-- BCL (R75). -/
def execLeBcl (st : LeStep) (s : State) : Out := done (issue s st (some 0x19))
/-- ST (R78). -/
def execLeSt (st : LeStep) (s : State) : Out := done (issue s st (some 0x20))
/-- STN (R78). -/
def execLeStn (st : LeStep) (s : State) : Out := done (issue s st (some 0x21))
/-- SET (R78). -/
def execLeSet (st : LeStep) (s : State) : Out := done (issue s st (some 0x22))
/-- RST (R78). -/
def execLeRst (st : LeStep) (s : State) : Out := done (issue s st (some 0x23))
/-- REDG (R84). -/
def execLeRedg (st : LeStep) (s : State) : Out := done (issue s st (some 0x30))
/-- FEDG (R84). -/
def execLeFedg (st : LeStep) (s : State) : Out := done (issue s st (some 0x31))
/-- TON (R85). -/
def execLeTon (st : LeStep) (s : State) : Out := done (issue s st (some 0x38))
/-- TOF (R85). -/
def execLeTof (st : LeStep) (s : State) : Out := done (issue s st (some 0x39))
/-- TP (R85). -/
def execLeTp (st : LeStep) (s : State) : Out := done (issue s st (some 0x3A))
/-- CTU (R86). -/
def execLeCtu (st : LeStep) (s : State) : Out := done (issue s st (some 0x40))
/-- CTD (R86). -/
def execLeCtd (st : LeStep) (s : State) : Out := done (issue s st (some 0x41))
/-- CTL (R86). -/
def execLeCtl (st : LeStep) (s : State) : Out := done (issue s st (some 0x42))
/-- TSTD (R79). -/
def execLeTstd (st : LeStep) (s : State) : Out := done (issue s st (some 0x48))
/-- STRO (R79). -/
def execLeStro (st : LeStep) (s : State) : Out := done (issue s st (some 0x49))
/-- FRCD (R79). -/
def execLeFrcd (st : LeStep) (s : State) : Out := done (issue s st (some 0x4A))
/-- SKIP (R80). -/
def execLeSkip (st : LeStep) (s : State) : Out := done (issue s st (some 0x50))
/-- END (R75). -/
def execLeEnd (st : LeStep) (s : State) : Out := done (issue s st (some 0x7F))
/-- An illegal opcode or a malformed word (R88). -/
def execLeIllegal (st : LeStep) (s : State) : Out := done (issue s st none)

/-! ### Self-tests -/

/-- What the scrub met during a self-test (R65). -/
def scrub (s : State) (e : Nat) (r : TestReport) : State :=
  let s1 := if r.fixedProg = 0 then s else eccCorrected (addField s (Reg.LE_ECC_CNT e) 31 16 (r.fixedProg - 1)) e true
  let s2 := if r.fixedHist = 0 then s1 else eccCorrected (addField s1 (Reg.LE_ECC_CNT e) 15 0 (r.fixedHist - 1)) e false
  if r.bad then windowEvent (badWord s2 e) e else s2

/-- A self-test that fails, or a comparator that does not report its injection, fails the engine (R102). -/
def judgeTest (s : State) (e : Nat) (r : TestReport) : State :=
  let s1 := wrField s (Reg.LE_CMP_STAT e) 30 30 (bit1 r.inj 0)
  if r.pass && r.inj then s1 else engineFailed (raise s1 { blk := 3, ev := 6, info := [e] } e) e

/-- The background self-test runs one of 16 segments in the guard phase (R101). -/
def execBackgroundSelfTest (e : Nat) (r : TestReport) (s : State) : Out :=
  let x := leOf s e
  if s.grid.phase = 3 ∧ e < 8 ∧ !x.failed ∧ !x.fullTest then
    done (scrub (judgeTest (setLe s e { x with segment := (x.segment + 1) % 16 }) e r) e r)
  else done s

/-- The full self-test runs in the guard phase after a mismatch or an uncorrectable word (R100–R102). -/
def execFullSelfTest (e : Nat) (r : TestReport) (s : State) : Out :=
  let x := leOf s e
  if s.grid.phase = 3 ∧ e < 8 ∧ x.fullTest then
    let s1 := setLe s e { x with fullTest := false }
    let s2 := wrField s1 (Reg.LE_CMP_STAT e) 29 28 (if r.pass then 1 else 2)
    let s3 := if r.pass ∧ r.inj ∧ !x.failed ∧ x.events.length = 1 ∧ field (rd s (Reg.LE_CMP_STAT e)) 27 25 ≠ 6 then
        addField s2 (Reg.LE_MISM_CNT e) 15 0 1 else s2
    done (judgeTest s3 e r)
  else done s

/-! ### Mode, counters and the debugger -/

/-- The cause for which a mode request is refused (R107); 0 none. -/
def modeRefusal (s : State) (e : Nat) (toSplit : Bool) : Nat :=
  let x := leOf s e
  if hostsSafety s e then 1
  else if !toSplit && (leCfg s e).progs.any (fun p => decide (p.2.stream = 1)) then 2
  else if s.olc.stage = 1 ∨ s.olc.stage = 3 ∨ s.olc.stage = 4 ∨ s.olc.stage = 5 then 3
  else if x.failed then 4
  else if flag (rd s (Reg.LE_DBG_CTRL e)) 31 then 5
  else if x.split = toSplit then 6 else 0

/-- LE_MODE_REQ (R106, R107). -/
def execModeRequest (e : Nat) (c : Cmd) (s : State) : Out :=
  if 8 ≤ e then done s else
  let reg := Reg.LE_MODE_REQ e
  done (written s reg c fun t =>
    let no := fun (u : State) (code : Nat) => wrField u (Reg.LE_CMP_STAT e) 23 20 code
    if field c.value 31 16 ≠ 0x5A3C then no (keyWrong t reg c.value) 7
    else if !hasRole t c.session 2 then refuse t reg none c.session
    else
      let m := flag c.value 0
      let code := modeRefusal t e m
      if code ≠ 0 then no (refuse t reg (some code) c.session) code
      else
        let at_ := if t.grid.phase = 3 then t.grid.frame + 2 else t.grid.frame + 1
        let t1 := setLe t e { leOf t e with modePend := some (m, at_) }
        accepted (wrField t1 (Reg.LE_CMP_STAT e) 24 24 1) reg c)

/-- LE_CTRL.CLR_CNT clears the fault, ECC and peak counters, and no comparison counter (R93, R115). -/
def execLeClrCnt (e : Nat) (c : Cmd) (s : State) : Out :=
  if 8 ≤ e then done s else
  done (keyedBit s (Reg.LE_CTRL e) 0 c fun t =>
    let t1 := zeroRegs t [Reg.LE_FAULT_CNT e, Reg.LE_ECC_CNT e, Reg.LE_PEAKS e]
    cleared (setLe t1 e { leOf t1 e with progFaults := [] }) (Reg.LE_CTRL e) c.session)

/-- The conditions of a debug session (R108). -/
def debugAllowed (s : State) (e session : Nat) : Bool :=
  (decide (s.pair.role = .solo) || decide (s.pair.role = .detached)) && hasRole s session 2
    && (!hostsSafety s e || s.saf.smmOn)

/-- A write of LE_DBG_CTRL that opens or closes a debug session and sets the observed stream and the write target. -/
def execDebugOpen (e : Nat) (c : Cmd) (s : State) : Out :=
  if 8 ≤ e then done s else
  let reg := Reg.LE_DBG_CTRL e
  done (written s reg c fun t =>
    let old := rd t reg
    let new := putField (putField old 24 24 (field c.value 24 24)) 23 22 (field c.value 23 22)
    let isOpen := flag old 31
    if flag c.value 31 && !isOpen then
      if debugAllowed t e c.session then
        let t1 := settingWritten (wr t reg (putFlag new 31 true)) reg old (putFlag new 31 true) c.session
        recordBare t1 3 { blk := 3, ev := 0, info := [e, 1, c.session] }
      else refuse t reg none c.session
    else if !flag c.value 31 && isOpen then
      closeDebug (settingWritten (wr t reg new) reg old (putFlag new 31 false) c.session) e
    else settingWritten (wr t reg new) reg old new c.session)

/-- LE_DBG_CTRL.HALT halts the observed stream before its next instruction (R109). -/
def execDebugHalt (e : Nat) (c : Cmd) (s : State) : Out :=
  if 8 ≤ e then done s else
  done (written s (Reg.LE_DBG_CTRL e) c fun t =>
    if flag (rd t (Reg.LE_DBG_CTRL e)) 31 && !(leOf t e).halt then setLe t e { leOf t e with haltReq := true } else t)

/-- The time an engine was halted is not charged to its classes (R111). -/
def resumeClock (s : State) (e t : Nat) : State :=
  let x := leOf s e
  let gap := t - x.haltAt
  let shift := fun (u : State) (st : LeStream) => match st.cls with
    | some k => setClass u k { classOf u k with since := (classOf u k).since + gap }
    | none => u
  shift (shift s x.s0) x.s1

/-- LE_DBG_CTRL.STEP issues one instruction in both passes and halts again (R109). -/
def execDebugStep (st : LeStep) (s : State) : Out :=
  let e := st.eng
  if (leOf s e).halt && canIssue s st then
    let s1 := setLe (atTime s st.time) e { leOf s e with passBp := false }
    let i := issueStream s1 st
    let pc := ((leOf s1 e).stream i).pc
    let illegal := (leDecode (tget 0 (leOf s1 e).pmem pc) (tget 0 (leOf s1 e).pmem (pc + 1))).isNone
    done (haltEngine (issueWord s1 st i none illegal) e 3)
  else done s

/-- LE_DBG_CTRL.RESUME continues to the next breakpoint or END (R109). -/
def execDebugResume (e : Nat) (c : Cmd) (t : Nat) (s : State) : Out :=
  if 8 ≤ e then done s else
  done (written s (Reg.LE_DBG_CTRL e) c fun u =>
    if (leOf u e).halt then
      let u1 := resumeClock (atTime u t) e t
      wrField (setLe u1 e { leOf u1 e with halt := false, passBp := true }) (Reg.LE_DBG_CTRL e) 30 30 0
    else u)

/-- LE_DBG_WR writes the accumulator or the selected cell of a halted engine, with its complement in the shadow (R110). -/
def execDebugWrite (e : Nat) (c : Cmd) (s : State) : Out :=
  if 8 ≤ e then done s else
  done (written s (Reg.LE_DBG_WR e) c fun t =>
    let x := leOf t e
    let ctrl := rd t (Reg.LE_DBG_CTRL e)
    let i := if x.split then field ctrl 24 24 else 0
    let st := x.stream i
    if !x.halt then t
    else match field ctrl 23 22 with
      | 0 =>
        let v : Tetrad := BitVec.ofNat 4 (field c.value 3 0)
        setLe t e (x.setStream i { st with acc := v, accS := ~~~ v })
      | 1 =>
        let part := match st.cls with
          | some k => (classCfg t k).part
          | none => 0
        if (partCfg t part).safety && !t.saf.smmOn then t
        else setLe t e (x.setStream i { st with
          hbuf := tset none st.hbuf (field (rd t (Reg.LE_CELL_SEL e)) 15 0) (some c.value) })
      | _ => t)

end Sys2Proof.Machine
end

