-- ==== Sys2Proof/Machine/RegRead1.lean ====
section
/-! DEFINITION. What the registers that follow the state read (R10, R11): blocks FRM, SIG, LE and FBX (R61, R62, R93, R115,
R141). A view answers none for an offset whose register is stored. -/

namespace Sys2Proof.Machine

open Sys2Proof

/-- The words of a table of pairs, for a check code whose layout no rule states. -/
def flatPairs {n : Nat} (l : List (Nat × BitVec n)) : List Nat := l.flatMap fun e => [e.1, e.2.toNat]

/-- n counted down to 0 from a frame on. -/
def framesLeft (s : State) (till : Nat) : Nat := till - s.grid.frame

/-! ### FRM (R61) -/

/-- The selected class and partition. -/
def selClass (s : State) : Nat := field (rd s Reg.FRM_CLS_SEL) 9 0
def selPart (s : State) : Nat := field (rd s Reg.FRM_PART_SEL) 6 0

/-- FRM_STAT. -/
def frmStat (s : State) : Word :=
  w32 (s.grid.phase % 4 * 2 ^ 24 + selBase s * 2 ^ 18 + bit1 s.grid.slewing 17 + bit1 s.grid.neverSync 16 + bit1 s.grid.running 0)

/-- FRM_CLS_CFG. -/
def frmClsCfg (s : State) : Word :=
  match look s.cfg.classes (selClass s) with
  | none => 0
  | some c => w32 (2 ^ 31 + c.part % 128 * 2 ^ 24 + c.engine % 16 * 2 ^ 20 + c.period % 16 * 2 ^ 16 + c.phase % 4096)

/-- FRM_PART_CFG: a partition without settings shows the reset values. -/
def frmPartCfg (s : State) : Word :=
  match look s.cfg.parts (selPart s) with
  | none => w32 (2 * 2 ^ 28 + 10)
  | some c => w32 (2 ^ 31 + bit1 c.safety 30 + c.react % 4 * 2 ^ 28 + c.margin % 256)

/-- FRM_PART_STAT. -/
def frmPartStat (s : State) : Word :=
  let p := selPart s
  let x := partOf s p
  let dueNow := s.cfg.classes.any fun c => decide (c.2.part = p) && classDue c.2 s.grid.frame
  let st := if x.react then 1 else if (look s.cfg.parts p).isNone || !dueNow then 2 else 0
  let win := (x.overruns.filter fun f => decide (s.grid.frame - f ≤ 2399)).length
  w32 (st * 2 ^ 30 + min 255 win * 2 ^ 16 + x.total % 2 ^ 16)

/-- FRM_ENG_BUDGETn: the peak over the last 2,400 frames and the last frame, in µs. -/
def frmEngBudget (s : State) (e : Nat) : Word :=
  let u := tget {} s.sched.engines e
  let peak := u.hist.foldl (fun m f => if s.grid.frame - f.1 ≤ 2400 then max m f.2 else m) 0
  w32 (min 511 peak * 2 ^ 16 + min 511 u.last)

/-- FRM. -/
def viewFrm (s : State) (o : Nat) : Option Word :=
  match o with
  | 0x04 => some (w32 (bit1 s.cfg.highrate 0))
  | 0x08 => some (frmStat s)
  | 0x20 => some (i32 (s.tim.ofs3 / 3))
  | 0x24 => some (i32 s.grid.slewPpb)
  | 0x3C => some (frmClsCfg s)
  | 0x40 => some (w32 ((classCfg s (selClass s)).wcet % 2 ^ 19))
  | 0x44 => let c := classOf s (selClass s); some (w32 (c.overruns % 256 * 2 ^ 24 + c.lastNs % 2 ^ 19))
  | 0x4C => some (frmPartCfg s)
  | 0x50 => some (w32 ((partOf s (selPart s)).allot % 2 ^ 22))
  | 0x54 => some (w32 (((partOf s (selPart s)).budget - runningNs s (selPart s) s.grid.now) % 2 ^ 22))
  | 0x58 => some (frmPartStat s)
  | 0x90 => some (w32 (s.cfg.minpulse % 4096))
  | _ => if 0x60 ≤ o ∧ o < 0x90 then some (frmEngBudget s ((o - 0x60) / 4)) else none

/-! ### SIG (R62) -/

/-- The selected endpoint. -/
def selEp (s : State) : Nat := field (rd s Reg.SIG_DIR_SEL) 18 0

/-- The endpoints of a kind with BTYPE other than 0x0. -/
def boundCount (s : State) (bin : Bool) : Nat := (endpointsWith s fun ep d => decide (isBinary ep = bin) && decide (btype d ≠ 0)).length

/-- The frozen value of an endpoint as SIG_VAL lays it out (R62). -/
def frozenWord (s : State) (ep : Nat) : Word :=
  if isBinary ep then (frozenBin s ep).zeroExtend 32 else (frozenAna s ep).val

/-- Its quality and age as SIG_VAL_AUX lays them out. -/
def frozenAux (s : State) (ep : Nat) : Word :=
  if isBinary ep then (if dSq (dirEntry s ep) then w32 (frozenSq s ep).toNat else 0)
  else w32 (ageOf s (frozenAna s ep) * 2 ^ 16 + (frozenAna s ep).qual.toNat)

/-- SIG. -/
def viewSig (s : State) (o : Nat) : Option Word :=
  match o with
  | 0x04 => some (w32 (bit1 s.grid.running 1 + bit1 (decide (4 ≤ stage s)) 0))
  | 0x08 => some (w32 (boundCount s true))
  | 0x0C => some (w32 (boundCount s false))
  | 0x24 => some (if isBinary (selEp s) then (bankBin s s.sig.distribute (selEp s)).zeroExtend 32
      else (bankAna s s.sig.distribute (selEp s)).val)
  | 0x44 => let r := s.sig.roles; some (w32 (r.dist % 4 * 64 + r.out % 4 * 16 + r.work % 4 * 4 + r.coll % 4))
  | 0x48 => some (if s.cfg.dir.isEmpty then 0 else Config.openCrc 1 (flatPairs s.cfg.dir))
  | _ => none

/-! ### LE (R93, R115) -/

/-- LE_STAT: the first stream that runs, else stream 0. -/
def leStat (s : State) (e : Nat) : Word :=
  let x := leOf s e
  let st := if x.s0.cls.isNone && x.s1.cls.isSome then x.s1 else x.s0
  let code := if x.failed then 3 else if x.fullTest then 2 else if st.cls.isSome then 1 else 0
  w32 (code * 2 ^ 30 + st.stack.length % 32 * 2 ^ 20 + st.cls.getD 0 % 1024 * 2 ^ 10 + bit1 x.split 9 + st.progs.headD 0 % 512)

/-- LE_ACC: the observed stream while the engine is halted. -/
def leAccView (s : State) (e : Nat) : Word :=
  let x := leOf s e
  let st := x.stream (if x.split then field (rd s (Reg.LE_DBG_CTRL e)) 24 24 else 0)
  let top := st.stack.headD {}
  if x.halt then
    w32 (2 ^ 31 + st.stack.length % 32 * 2 ^ 24 + top.op % 8 * 2 ^ 12 + (if st.stack.isEmpty then 0 else top.acc.toNat) * 2 ^ 8 + st.acc.toNat)
  else 0

/-- LE engine e. -/
def viewLe (s : State) (e o : Nat) : Option Word :=
  let c := leCfg s e
  let p := field (rd s (Reg.LE_PROG_SEL e)) 8 0
  let pc := progCfg s e p
  let win := (look c.windows pc.part).getD {}
  let valid := (look c.progs p).isSome
  match o with
  | 0x04 => some (w32 (bit1 c.split 31 + bit1 (hostsSafety s e) 30 + c.progs.length % 1024 * 2 ^ 16 + c.windows.length % 256))
  | 0x08 => some (leStat s e)
  | 0x1C => some (leAccView s e)
  | 0x24 => some (w32 (bit1 valid 31 + pc.entry % 2 ^ 17))
  | 0x28 => some (w32 (pc.len % 2 ^ 17))
  | 0x2C => some (w32 (pc.cls % 1024 * 2 ^ 16 + pc.part % 128 * 2 ^ 8 + (if c.split then pc.stream % 2 else 0)))
  | 0x30 => some (w32 (tget 0 (leOf s e).progFaults p % 256 * 2 ^ 24 + tget 0 (leOf s e).progSlots p % 2 ^ 18))
  | 0x34 => some (if valid then w32 (win.retained % 2 ^ 16 * 2 ^ 16 + win.base % 2 ^ 16) else 0)
  | 0x38 => some (if valid then w32 (win.count % 2 ^ 17) else 0)
  | 0x40 => some (tget 0 (leOf s e).hist (field (rd s (Reg.LE_CELL_SEL e)) 15 0))
  | 0x48 => some (tget 0 (leOf s e).pmem (field (rd s (Reg.LE_PMEM_SEL e)) 16 0))
  | 0x4C => some (if c.pmem.isEmpty then 0 else Config.openCrc 2 (flatPairs c.pmem))
  | _ => none

/-! ### FBX (R141) -/

/-- FBX_SLOT_ENT. -/
def fbxSlotEnt (s : State) : Word :=
  let w := rd s Reg.FBX_SLOT_SEL
  match (slotTable s (field w 9 8))[field w 7 0]? with
  | none => 0
  | some e => w32 (2 ^ 31 + e.cls % 1024 * 2 ^ 19 + e.start % 2 ^ 19)

/-- FBX_CORE_STATn. -/
def fbxCoreStat (s : State) (k : Nat) : Word :=
  let x := acOf s k
  let code := if x.cls.isNone then 0 else if x.stalled then 2 else 1
  w32 (code * 2 ^ 30 + x.cls.getD 0 % 1024 * 2 ^ 16 + min 65535 x.late)

/-- FBX. -/
def viewFbx (s : State) (o : Nat) : Option Word :=
  let c := s.cfg.fbx
  let p := field (rd s Reg.FBX_PART_SEL) 6 0
  match o with
  | 0x04 => some (w32 (bit1 c.pwrupCold 31 + c.eng % 4 * 64 + c.dpy % 4 * 16 + c.hart % 4 * 4 + c.mms % 4))
  | 0x08 => some (putField (rd s Reg.FBX_STAT) 0 0 (bit1 (runsClasses s && decide (4 ≤ stage s)) 0))
  | 0x24 => some (w32 (c.retBytes % 2 ^ 25))
  | 0x3C => some (fbxSlotEnt s)
  | 0x44 => some (w32 ((partCfg s p).memKiB % 2 ^ 24))
  | 0x48 => some (partCfg s p).lhash
  | 0x4C => some (w32 (tget 0 s.fbx.restore p % 4 * 2 ^ 30 + min 65535 (tget 0 s.fbx.rollbacks p)))
  | _ =>
    if 0x50 ≤ o ∧ o < 0x60 then some (fbxCoreStat s ((o - 0x50) / 4))
    else if 0x60 ≤ o ∧ o < 0x70 then some (w32 ((acOf s ((o - 0x60) / 4)).svcUs % 2 ^ 20))
    else if 0x70 ≤ o ∧ o < 0x80 then
      let x := acOf s ((o - 0x70) / 4)
      some (w32 (bit1 x.closed 31 + bit1 x.fillBank 30 + x.fill.size % 2 ^ 17))
    else none

end Sys2Proof.Machine
end

