-- ==== Sys2Proof/Machine/RegRead2.lean ====
section
/-! DEFINITION. What the registers that follow the state read (R10, R11): blocks SVI, PE, OLC, FRC, PAIR and SAF (R160, R200,
R225, R226, R250, R277, R303). -/

namespace Sys2Proof.Machine

open Sys2Proof

/-! ### SVI (R160) -/

/-- SVI_STR_CFG: an unsubscribed stream shows the reset values. -/
def sviStrCfg (s : State) (k : Nat) : Word :=
  let c := svCfg s k
  let fixed := c.deadline % 16 * 2 ^ 20 + c.lostms % 1024 * 2 ^ 10
  if (look s.cfg.sv k).isNone then w32 fixed
  else w32 (2 ^ 31 + c.format % 8 * 2 ^ 28 + bit1 c.unsyncOk 25 + bit1 c.sim 24 + fixed)

/-- SVI_STR_STAT. -/
def sviStrStat (s : State) (k : Nat) : Word :=
  match svStream s k with
  | none => 0
  | some x =>
    w32 (x.state % 8 * 2 ^ 29 + bit1 (decide (x.anch ≠ 0)) 28 + bit1 x.unsync 27 + bit1 (decide ((svCfg s k).format = 5)) 26
      + x.err % 8 * 2 ^ 23 + min 65535 x.runlen)

/-- SVI. -/
def viewSvi (s : State) (o : Nat) : Option Word :=
  let k := field (rd s Reg.SVI_STR_SEL) 7 0
  let c := (look s.cfg.sv k)
  let x := (svStream s k).getD {}
  let low := fun (f : SvCfg → Nat) => some (w32 ((c.map f).getD 0))
  match o with
  | 0x04 => some (w32 (bit1 s.cfg.highrate 31 + (s.cfg.sv.filter fun e => decide (e.2.format = 5)).length % 512 * 2 ^ 16 + ringDepth s))
  | 0x4C => some (sviStrCfg s k)
  | 0x50 => low fun v => v.appid % 2 ^ 16
  | 0x54 => low fun v => v.confRev
  | 0x58 => low fun v => v.mac % 2 ^ 32
  | 0x5C => low fun v => v.mac / 2 ^ 32 % 2 ^ 16
  | 0x60 => some ((c.map fun v => crc32c v.svid).getD 0)
  | 0x64 => some (sviStrStat s k)
  | 0x68 => some (w32 (x.lastSynch % 256 * 2 ^ 24 + x.lastCnt % 2 ^ 16))
  | 0x6C => some (w32 (min 65535 x.lagPeak * 2 ^ 16 + min 65535 x.lag))
  | 0x70 => some (w32 (min 0xFFFFFFFF x.miss))
  | 0x74 => some (w32 (min 0xFFFFFFFF x.interp))
  | 0x78 => some (w32 (min 0xFFFFFFFF x.gaps))
  | 0x7C => some (w32 (min 65535 x.early * 2 ^ 16 + min 65535 x.late))
  | 0x80 => some (w32 (min 0xFFFFFFFF x.dup))
  | 0x84 => some (w32 (min 0xFFFFFFFF x.anchors))
  | 0x94 => some (Config.openCrc 3 [])
  | _ => none

/-! ### PE (R200) -/

/-- The selected element slot of an engine. -/
def selElem (s : State) (e : Nat) : Nat := field (rd s (Reg.PE_ELEM_SEL e)) 9 0

/-- The selected output of an engine and its quality (R200): an output that the type has not reads 0. -/
def peSelOut (s : State) (e : Nat) : Word × Qual :=
  let k := selElem s e
  let x := elemOf s e k
  let w := rd s (Reg.PE_OUT_SEL e)
  let i := field w 5 0
  let ty := dType (descOf s e k)
  if flag w 6 then (if i < anaCount ty then (x.anas.getD i 0, x.aqual.getD i 0x0081#16) else (0, 0))
  else if i < binCount ty then ((x.bins.getD i 0x5#4).zeroExtend 32, x.qual) else (0, 0)

/-- PE_ELEM_STAT. -/
def peElemStat (s : State) (e : Nat) : Word :=
  let k := selElem s e
  let x := elemOf s e k
  let cap := if dType (descOf s e k) = 11 then x.cap.st % 4 else 0
  w32 (bit1 x.ready 31 + bit1 x.skipped 30 + cap * 2 ^ 28 + min 65535 x.fill)

/-- PE_ROUTE. -/
def peRouteView (s : State) (e : Nat) : Word :=
  let r := field (rd s (Reg.PE_ROUTE_SEL e)) 6 0
  match look (peCfg s e).routes r with
  | none => 0
  | some (k, ep) => w32 (2 ^ 31 + bit1 (tget none s.sched.prompts (routeKey e r)).isSome 30 + k % 1024 * 2 ^ 18 + ep % 2 ^ 18)

/-- PE engine e. -/
def viewPe (s : State) (e o : Nat) : Option Word :=
  let x := peEng s e
  let d := descOf s e (selElem s e)
  match o with
  | 0x04 => some (w32 ((peCfg s e).descs.length % 2048 * 2 ^ 16 + (peCfg s e).routes.length % 256))
  | 0x08 => some (w32 (x.st % 4 * 2 ^ 30 + x.cause % 4 * 2 ^ 28))
  | 0x18 => some (w32 x.load)
  | 0x1C => some (w32 (x.peaks.foldl (fun m p => if s.grid.frame - p.1 ≤ 2399 then max m p.2 else m) 0))
  | 0x20 => some (w32 (peBudget s.cfg.highrate))
  | 0x24 => some (w32 (min 65535 x.skips * 2 ^ 16 + min 65535 x.ovrCnt))
  | 0x28 => some (w32 (((peSlots s e).filter fun k => !(elemOf s e k).ready).length))
  | 0x30 => some (w32 (dIid d))
  | 0x34 => some (w32 (dType d * 2 ^ 24 + dFlags d * 2 ^ 16 + dPartOf d * 2 ^ 8))
  | 0x38 => some (peElemStat s e)
  | 0x40 => some (w32 (leAt d (4 * field (rd s (Reg.PE_WORD_SEL e)) 3 0) 4))
  | 0x54 => some (peRouteView s e)
  | 0x58 => some (w32 (bit1 x.katOk 31 + x.katType % 16 * 2 ^ 24 + min 65535 x.katDone))
  | 0x5C => some (w32 (min 65535 x.eccRing * 2 ^ 16 + min 65535 x.eccLocal))
  | _ => none

/-! ### OLC and FRC (R225, R226) -/

/-- OLC. -/
def viewOlc (s : State) (o : Nat) : Option Word :=
  let x := s.olc
  match o with
  | 0x04 => some (w32 (x.stage % 8 * 2 ^ 29 + bit1 x.partnerOk 28 + bit1 x.relforce 27 + x.slotw % 8 * 2 ^ 24
      + field (rd s Reg.OLC_STAT) 23 20 * 2 ^ 20))
  | 0x1C => some (w32 s.cfg.id)
  | 0x20 => some (w32 ((x.shadow.map (·.id)).getD 0))
  | 0x28 => some (w32 (if x.stage = 4 then framesLeft s x.windowEnd % 2 ^ 24 else 0))
  | 0x2C => some (w32 (x.kib % 2 ^ 26))
  | _ => none

/-- The value of an endpoint without its force (FRC_RAW): frozen for a source, committed otherwise (R218). -/
def unforced (s : State) (ep : Nat) : Word :=
  if isBinary ep then (if isSource s ep then bankBin s s.sig.working ep else tget 0x7#4 s.sig.output.bin ep).zeroExtend 32
  else (if isSource s ep then bankAna s s.sig.working ep else tget {} s.sig.output.ana ep).val

/-- FRC. -/
def viewFrc (s : State) (o : Nat) : Option Word :=
  let n := (forcesOf s).length
  let f := tget none s.frc.table (field (rd s Reg.FRC_SEL) 11 0)
  match o with
  | 0x04 => some (w32 (bit1 (decide (0 < n)) 31 + bit1 (decide (4096 ≤ n)) 30 + field (rd s Reg.FRC_STAT) 27 24 * 2 ^ 24 + n % 2 ^ 13))
  | 0x18 => some ((f.map fun x => w32 (2 ^ 31 + bit1 (dSafety (dirEntry s x.ep)) 30 + bit1 (!isSource s x.ep) 29
      + bit1 (look s.cfg.writers x.ep).isNone 28 + x.ep % 2 ^ 19)).getD 0)
  | 0x1C => some ((f.map (·.val)).getD 0)
  | 0x20 => some ((f.map fun x => unforced s x.ep).getD 0)
  | 0x24 => some (w32 (((f.bind (·.till)).map (framesLeft s)).getD 0 % 2 ^ 27))
  | 0x28 => some (w32 ((f.map (·.session)).getD 0))
  | 0x3C => some (w32 ((forcesOf s).filter fun e => dSafety (dirEntry s e.2.ep)).length)
  | _ => none

/-! ### PAIR (R250, R277) -/

/-- PAIR_LINES. -/
def pairLinesView (l : PairLines) : Word :=
  w32 (bit1 l.alive 9 + bit1 l.pgrant 8 + bit1 l.killN 7 + bit1 l.kill 6 + bit1 l.grantN 5 + bit1 l.grant 4 + bit1 l.yield 3
    + bit1 l.ready 2 + bit1 l.hb1 1 + bit1 l.hb0 0)

/-- PAIR_STAT. -/
def pairStat (s : State) : Word :=
  let p := s.pair
  w32 (p.role.code * 2 ^ 29 + p.partner.role % 8 * 2 ^ 26 + bit1 p.sideB 25 + bit1 p.present 24 + bit1 p.claspFail 23
    + bit1 p.granted 22 + bit1 p.lines.pgrant 21 + bit1 p.killq 20 + field (rd s Reg.PAIR_STAT) 19 16 * 2 ^ 16 + p.learnFail % 16 * 2 ^ 12)

/-- PAIR_OUT_STAT. -/
def pairOutStat (s : State) : Word :=
  match s.pair.ho with
  | none => w32 (bit1 s.pair.grantLatch 29)
  | some h =>
    let running := decide (1 ≤ h.fade) && decide (h.fade < 100)
    w32 (bit1 running 31 + bit1 h.released 30 + bit1 s.pair.grantLatch 29 + h.fade % 128)

/-- PAIR. -/
def viewPair (s : State) (o : Nat) : Option Word :=
  let l := s.pair.learn
  match o with
  | 0x04 => some (w32 (s.cfg.joinwait % 2 ^ 13))
  | 0x08 => some (pairStat s)
  | 0x18 => some (pairLinesView s.pair.lines)
  | 0xB8 => some (w32 (l.phase % 8 * 2 ^ 29 + (if l.phase = 0 then 0 else min 65535 (s.grid.frame - l.start))))
  | 0xC0 => some (pairOutStat s)
  | 0xC4 => some (w32 (s.upd.roll % 8 * 2 ^ 29 + s.upd.rollResult % 8 * 2 ^ 26))
  | _ => none

/-! ### SAF (R303) -/

/-- Entries of the safety input table whose proof is open (R287). -/
def openProofs (s : State) : Nat :=
  (s.cfg.saf.sins.filter fun e => decide (e.2.mode ≠ 2) && decide ((tget {} s.saf.sin e.1).proof ≠ 2)).length

/-- SAF_STAT. -/
def safStat (s : State) : Word :=
  let unsafeRx := (s.cfg.saf.rx.filter fun e => (tget {} s.saf.stc e.1).safe).length
  w32 (bit1 s.saf.safe 31 + bit1 (!s.saf.psafe.isEmpty) 30 + bit1 s.saf.smmOn 29 + bit1 (decide (0 < openProofs s)) 28 + unsafeRx % 2 ^ 16)

/-- SAF_SIN_STAT. -/
def safSinStat (s : State) (i : Nat) : Word :=
  let x := tget {} s.saf.sin i
  let st := match look s.cfg.saf.sins i with
    | none => 0
    | some c =>
      if x.faulty then 5
      else if c.mode ≠ 1 ∧ !x.agree ∧ 0 < x.dcount then 4
      else if c.mode = 2 then (if x.agree then 6 else 4)
      else x.proof + 1
  w32 (st * 2 ^ 29 + x.dcount % 2 ^ 13)

/-- SAF_STC_CFG, SAF_STC_ID, SAF_STC_STAT, SAF_STC_SEQ and SAF_STC_CNT of the selected connection: 0–511 receive connections,
512–639 publications. -/
def safStcView (s : State) (o : Nat) : Word :=
  let k := field (rd s Reg.SAF_STC_SEL) 9 0
  if 512 ≤ k then
    match look s.cfg.saf.pubs (k - 512), o with
    | some c, 0x68 => w32 ((c.ntet - 1) % 64 * 2 ^ 8 + c.posgrp % 4 * 64)
    | some c, 0x6C => w32 c.connid
    | some c, 0x70 => w32 (bit1 (pubGated s (k - 512) c) 31)
    | some _, 0x74 => w32 (tget {} s.saf.pub (k - 512)).seq
    | _, _ => 0
  else
    let x := tget {} s.saf.stc k
    match look s.cfg.saf.rx k, o with
    | some c, 0x68 => w32 (c.wd % 256 * 2 ^ 24 + (c.ntet - 1) % 64 * 2 ^ 8 + c.posgrp % 4 * 64 + bit1 c.ack 5)
    | some c, 0x6C => w32 c.connid
    | some c, 0x70 =>
      w32 (bit1 x.safe 31 + x.cause % 8 * 2 ^ 28 + x.good % 4 * 2 ^ 26
        + bit1 (x.safe && decide (x.good = 3) && c.ack && !x.acked) 25 + min 4095 (s.grid.frame - x.lastFrame))
    | none, 0x70 => w32 (2 ^ 31)
    | some _, 0x74 => w32 x.seq
    | some _, 0x78 => w32 (min 65535 x.losses * 2 ^ 16 + min 65535 x.discards)
    | _, _ => 0

/-- SAF_DRV_STAT. -/
def safDrvStat (s : State) (i : Nat) : Word :=
  let x := tget {} s.saf.drv i
  match look s.cfg.saf.drvs i with
  | none => 0
  | some c =>
    let p := x.hist.getD 0 0
    let sel := x.dirsel % 4
    let dir := if sel = 2 then 1 else if sel = 1 then 2 else 0
    let outs := (upto 4).foldl (fun n k => n + bit1 (decide (tstate (x.outs.getD k 0x5#4) = 2)) (12 + k)) 0
    w32 (bit1 x.fresh 31 + dir * 2 ^ 29 + outs + min 4095 ((p - x.hist.getD c.swin p).natAbs / c.swin))

/-- SAF_SMM_STAT. -/
def safSmmStat (s : State) : Word :=
  let m := s.saf.smm
  let code := if m.stage = 1 then 1 else if m.stage = 3 then 2 else 0
  w32 (code * 2 ^ 30 + field (rd s Reg.SAF_SMM_STAT) 29 26 * 2 ^ 26 + (if m.stage = 0 then 0 else m.session % 2 ^ 26))

/-- SAF. -/
def viewSaf (s : State) (o : Nat) : Option Word :=
  let c := s.cfg.saf
  let i := field (rd s Reg.SAF_SIN_SEL) 8 0
  let j := field (rd s Reg.SAF_DRV_SEL) 5 0
  match o with
  | 0x04 => some (w32 (c.sins.length % 1024 * 2 ^ 16 + c.pubs.length % 256 * 2 ^ 8 + c.drvs.length % 128))
  | 0x08 => some (safStat s)
  | 0x44 => some (safSmmStat s)
  | 0x50 => some (w32 (if s.saf.smm.stage = 3 then framesLeft s s.saf.smm.till % 2 ^ 27 else 0))
  | 0x58 => some (((look c.sins i).map fun e => w32 (e.mode % 4 * 2 ^ 30 + e.dtime % 2 ^ 13 * 2 ^ 16)).getD 0)
  | 0x5C => some (safSinStat s i)
  | 0x60 => some (w32 (openProofs s))
  | 0x84 => some (safDrvStat s j)
  | 0x88 => some (i32 ((tget {} s.saf.drv j).hist.getD 0 0))
  | 0x8C => some (i32 (tget {} s.saf.drv j).ref)
  | _ => if 0x68 ≤ o ∧ o < 0x7C then some (safStcView s o) else none

end Sys2Proof.Machine
end

