-- ==== Sys2Proof/Machine/RegRead3.lean ====
section
/-! DEFINITION. What the registers that follow the state read (R10, R11): blocks CHN, LIO, AIO and CAN (R330, R354, R355, R376). -/

namespace Sys2Proof.Machine

open Sys2Proof

/-! ### CHN (R330) -/

/-- The selected port and node. -/
def selPort (s : State) : Nat := field (rd s Reg.CHN_PORT_SEL) 1 0
def selNode (s : State) : Nat := field (rd s Reg.CHN_NODE_SEL) 5 0

/-- The module listens on a port: the port is in use, CONFIGURE is over, and it does not transmit (R318). -/
def chnListens (s : State) (p : Nat) : Bool := portOn s p && !chnMaster s && decide (4 ≤ stage s)
def chnMasters (s : State) (p : Nat) : Bool := portOn s p && chnMaster s

/-- The configured nodes of a port that are OK. -/
def okNodes (s : State) (p : Nat) : List Nat := ((chnCfg s p).nodes.map (·.1)).filter fun n => decide ((chnNode s p n).st = 3)

/-- CHN_STAT. -/
def chnStat (s : State) : Word :=
  let bits := fun (f : Nat → Bool) (o : Nat) => (upto 4).foldl (fun w p => w + bit1 (f p) (o + p)) 0
  w32 (bits (chnMasters s) 28 + bits (chnListens s) 24 + (upto 4).foldl (fun n p => n + (okNodes s p).length) 0 % 256)

/-- CHN_EPOCH: the epoch in use as master, or the last heard as listener. -/
def chnEpochView (s : State) (p : Nat) : Word :=
  let q := chnPort s p
  match if chnMaster s then q.epoch else q.heard with
  | some e => w32 (2 ^ 8 + e % 256)
  | none => 0

/-- CHN_PSTAT. -/
def chnPstat (s : State) (p : Nat) : Word :=
  let mode := if chnMasters s p then 1 else if chnListens s p then 2 else 0
  w32 (mode * 2 ^ 30 + bit1 (chnPort s p).syncOk 29 + (chnCfg s p).nodes.length % 256 * 2 ^ 8 + (okNodes s p).length % 256)

/-- CHN_SCH_ENT. -/
def chnSchEnt (s : State) (p : Nat) : Word :=
  match look (chnCfg s p).sched (field (rd s Reg.CHN_SCH_SEL) 8 0) with
  | none => 0
  | some e => w32 (2 ^ 31 + e.node % 64 * 2 ^ 25 + e.seg % 8 * 2 ^ 22 + e.period % 16 * 2 ^ 18 + e.phase % 4096)

/-- CHN_NODE_STAT. -/
def chnNodeStat (s : State) (p n : Nat) : Word :=
  let x := chnNode s p n
  if !isNode s p n then 0
  else w32 (x.st % 8 * 2 ^ 29 + bit1 x.fault 28 + bit1 x.safe 27 + bit1 x.notcfg 26 + x.elast % 256 * 2 ^ 8)

/-- CHN_DUP_STAT: the procedure of the port last probed. -/
def chnDupStat (s : State) : Word :=
  let d := (chnPort s s.chn.dupPort).dup
  w32 (d.st % 4 * 2 ^ 30 + d.addr % 64 * 2 ^ 24 + s.chn.dupPort % 4 * 2 ^ 22 + d.bit % 64 * 2 ^ 16)

/-- CHN. -/
def viewChn (s : State) (o : Nat) : Option Word :=
  let p := selPort s
  let n := selNode s
  let q := chnPort s p
  let x := chnNode s p n
  let c := nodeCfg s p n
  let g := nodeSeg s p n (field (rd s Reg.CHN_SEG_SEL) 2 0)
  match o with
  | 0x04 => some (w32 ((upto 4).foldl (fun w i => w + bit1 (portOn s i) i) 0))
  | 0x08 => some (chnStat s)
  | 0x1C => some (chnEpochView s p)
  | 0x20 => some (chnPstat s p)
  | 0x24 => some (w32 (q.load % 2 ^ 19))
  | 0x28 => some (w32 (q.free % 2 ^ 19))
  | 0x2C => some (w32 (min 0xFFFFFFFF q.miss))
  | 0x30 => some (w32 (min 65535 q.crc * 2 ^ 16 + min 65535 q.malformed))
  | 0x38 => some (chnSchEnt s p)
  | 0x3C => some (w32 (((look (chnCfg s p).sched (field (rd s Reg.CHN_SCH_SEL) 8 0)).map (·.start)).getD 0 % 2 ^ 19))
  | 0x44 => some (chnNodeStat s p n)
  | 0x48 => some (w32 (c.lostn % 16 * 2 ^ 28 + bit1 c.serlock 12 + c.hold % 4096))
  | 0x54 => some (w32 (x.dly % 2 ^ 16))
  | 0x58 => some (w32 (min 65535 x.miss * 2 ^ 16 + min 255 x.consec))
  | 0x5C => some (w32 (min 65535 x.crc * 2 ^ 16 + min 65535 x.rej))
  | 0x60 => some (w32 (x.tnout % 2 ^ 16 * 2 ^ 16 + x.tnin % 2 ^ 16))
  | 0x68 => some (w32 (g.outOfs % 4096 * 2 ^ 16 + g.outLen % 2048))
  | 0x6C => some (w32 (g.inOfs % 4096 * 2 ^ 16 + g.inLen % 2048))
  | 0x70 => some (w32 ((okNodes s p).foldl (fun w i => w + bit1 (decide (i < 32)) i) 0))
  | 0x74 => some (w32 ((okNodes s p).foldl (fun w i => w + bit1 (decide (32 ≤ i)) (i - 32)) 0))
  | 0x78 => some (w32 (min 65535 q.collisions * 2 ^ 16 + q.strangers.length % 32))
  | 0x88 => some (w32 (((q.strangers[field (rd s Reg.CHN_STR_SEL) 3 0]?).map (·.product)).getD 0))
  | 0x90 => some (chnDupStat s)
  | _ => none

/-! ### LIO and AIO (R354, R355) -/

/-- LIO_CFG: the safety and the prompt outputs. -/
def lioCfgView (s : State) : Word :=
  w32 ((boundDos s).foldl (fun w e => w + bit1 (dSafety (dirEntry s e.2)) (16 + e.1) + bit1 (dPrompt (dirEntry s e.2)) e.1) 0)

/-- LIO. -/
def viewLio (s : State) (o : Nat) : Option Word :=
  let n := field (rd s Reg.LIO_DI_SEL) 4 0
  let ch := field (rd s Reg.LIO_DO_SEL) 3 0
  let d := (doEp s ch).elim (0 : DWord) (dirEntry s)
  match o with
  | 0x04 => some (lioCfgView s)
  | 0x1C => some (((look s.cfg.lio.di n).map fun c => w32 (bit1 c.wbrk 31 + c.deb % 2 ^ 16)).getD 0)
  | 0x24 => some (w32 (((look s.cfg.lio.dos ch).getD 0) % 4 * 2 ^ 30 + bit1 (dPrompt d) 29 + bit1 (dSafety d) 28))
  | 0x28 => some (w32 (s.cfg.lio.wd % 2 ^ 13))
  | 0x2C => some (w32 (bit1 s.lio.wdHold 31 + bit1 (wdArmed s) 30 + wdAge s))
  | _ => none

/-- A channel of AIO. -/
def viewAx (s : State) (ch o : Nat) : Option Word :=
  let c := axCfg s ch
  let x := axOf s ch
  match o with
  | 0x00 => some (w32 (c.mode % 8 * 2 ^ 29 + bit1 c.hart 28 + bit1 c.hartflt 27 + c.safek % 4 * 2 ^ 25 + c.compt % 2 ^ 13))
  | 0x04 => some (w32 (axCond s ch * 2 ^ 29 + bit1 (s.lio.wdHold && axOutput s ch) 28 + bit1 (hartSuspended s ch) 27
      + bit1 (s.lio.burden && decide (c.mode ≠ 0)) 26 + bit1 (decide (24 ≤ x.samples.length)) 25 + axDur s ch))
  | 0x08 => some x.cmd
  | 0x0C => some x.meas
  | 0x10 => some x.head
  | 0x14 => some c.safe
  | 0x18 => some (w32 (bit1 x.busy.isSome 31 + bit1 (c.hart && !hartSends s) 30 + x.last % 8 * 2 ^ 27 + x.queue.length % 16 * 2 ^ 20
      + x.lastCmd % 256))
  | 0x1C => some (w32 (min 65535 x.hartBad * 2 ^ 16 + min 65535 x.hartOk))
  | 0x20 => some (w32 (min 65535 x.compCnt * 2 ^ 16 + min 65535 x.openCnt))
  | _ => none

/-- AIO: channel n at 0x40 + 0x40 n. -/
def viewAio (s : State) (o : Nat) : Option Word :=
  match o with
  | 0x04 => some (w32 ((upto 8).foldl (fun w ch => w + bit1 (axCfg s ch).hart ch) 0))
  | 0x08 => some (w32 ((upto 8).foldl (fun w ch =>
      w + bit1 (s.lio.wdHold && axOutput s ch) (8 + ch) + bit1 (decide (axCond s ch ≠ 0)) ch) 0))
  | 0x18 => some (w32 (s.lio.supply % 2 ^ 16))
  | _ => if 0x40 ≤ o ∧ o < 0x240 then viewAx s ((o - 0x40) / 0x40) (o % 0x40) else none

/-! ### CAN (R376) -/

/-- CAN_C_STAT. -/
def canCStat (s : State) (c : Nat) : Word :=
  let x := canCtl s c
  let mode := if !canOn s c then 0 else if canNormal s then 1 else 2
  let err := if x.busOff then 2 else if canPassive x then 1 else 0
  w32 (mode * 2 ^ 30 + err * 2 ^ 28 + bit1 ((canCfg s c).tt && ttSync s c) 27 + bit1 (x.cur.any fun p => decide (p = (canCfg s c).prio)) 26
    + x.cur.getD 0 % 8 * 2 ^ 23)

/-- CAN_RXO_STAT. -/
def canRxoStat (s : State) (c n : Nat) : Word :=
  let x := rxObj s c n
  w32 (bit1 ((canCtl s c).lock.any fun l => decide (l.1 = n)) 31 + bit1 x.shadow.isSome 30 + bit1 x.timedOut 29 + x.lockTo % 2 ^ 16)

/-- CAN_TXB_CFG. -/
def canTxbCfg (s : State) (c n : Nat) : Word :=
  match look (canCfg s c).bufs n with
  | none => 0
  | some b =>
    w32 (2 ^ 31 + bit1 b.ide 30 + bit1 b.fd 29 + bit1 b.brs 28 + bit1 b.cancel 27 + b.trig % 4 * 2 ^ 25 + b.period % 16 * 2 ^ 21
      + b.len % 128 * 2 ^ 14 + b.phase % 4096)

/-- CAN_TT_CELL. -/
def canTtCell (s : State) (c : Nat) : Word :=
  let w := rd s (Reg.CAN_TT_CELL_SEL c)
  match (canCfg s c).cells.find? fun e => decide (e.cycle = field w 10 5) && decide (e.mark = field w 4 0) with
  | none => 0
  | some e => w32 (e.kind % 8 * 2 ^ 29 + e.index.headD 0 % 512 * 2 ^ 16 + e.us % 2 ^ 16)

/-- A controller of CAN. -/
def viewCtl (s : State) (c o : Nat) : Option Word :=
  let g := canCfg s c
  let x := canCtl s c
  let n := selObj s c
  let b := field (rd s (Reg.CAN_TXB_SEL c)) 5 0
  let y := txBuf s c b
  match o with
  | 0x00 => some (if canOn s c then w32 (2 ^ 31 + bit1 g.tt 30 + bit1 g.autorec 29 + g.prio % 8) else 0)
  | 0x04 => some (w32 g.bt)
  | 0x08 => some (w32 g.dbt)
  | 0x0C => some (canCStat s c)
  | 0x10 => some (w32 (x.tec % 512 * 2 ^ 16 + x.rec_ % 256))
  | 0x14 => some (w32 (min 65535 x.rxShown * 2 ^ 16 + min 65535 x.txShown))
  | 0x18 => some (w32 (min 65535 x.busOffs * 2 ^ 16 + min 65535 x.errs))
  | 0x1C => some (w32 (min 65535 x.unk * 2 ^ 16 + min 65535 x.fmt))
  | 0x20 => some x.unkLast
  | 0x28 => some (((look g.objs n).map fun r => w32 (2 ^ 31 + bit1 r.ide 30 + bit1 r.fd 29 + bit1 r.route.isSome 28
      + r.route.getD 0 % 128 * 2 ^ 12 + r.timeout % 4096)).getD 0)
  | 0x2C => some (w32 ((rxoCfg s c n).id % 2 ^ 29))
  | 0x30 => some (canRxoStat s c n)
  | 0x88 => some (canTxbCfg s c b)
  | 0x8C => some (w32 ((txbCfg s c b).id % 2 ^ 29))
  | 0x90 => some (w32 (((look g.bufs b).map (·.life)).getD 0 % 4096))
  | 0x94 => some (w32 (bit1 y.pend.isSome 31 + bit1 y.arb 30 + bit1 y.held.isSome 29
      + (if y.pend.isSome then min 4095 (s.grid.frame - y.since) else 0)))
  | 0x9C => some (w32 (min 65535 y.cancels * 2 ^ 16 + min 65535 y.sent))
  | 0xA0 => some (if g.tt then w32 (g.refid % 2 ^ 11 * 2 ^ 21 + g.cyclefr % 32 * 2 ^ 16 + g.cycles % 128) else 0)
  | 0xA4 => some (w32 (x.cycle % 64 * 2 ^ 26 + x.global % 2 ^ 16))
  | 0xAC => some (canTtCell s c)
  | 0xB0 => some (w32 (min 65535 x.rxMiss * 2 ^ 16 + min 65535 x.refMiss))
  | _ => none

/-- CAN: controller c at 0x100 + 0x100 c. -/
def viewCan (s : State) (o : Nat) : Option Word :=
  let sc := look s.cfg.can.scale (field (rd s Reg.CAN_SCALE_SEL) 7 0)
  match o with
  | 0x1C => some ((sc.map (·.1)).getD 0)
  | 0x20 => some ((sc.map (·.2)).getD 0)
  | _ => if 0x100 ≤ o ∧ o < 0x300 then viewCtl s ((o - 0x100) / 0x100) (o % 0x100) else none

end Sys2Proof.Machine
end

