-- ==== Sys2Proof/Machine/TimeBase.lean ====
section
/-! DEFINITION. The commands of the time bases (R377–R397). -/

namespace Sys2Proof.Machine

open Sys2Proof

/-- SLEW_DONE: the offset is removed (R18). -/
def execSlewDone (s : State) : Out :=
  if s.grid.slewing ∧ s.tim.ofs3 = 0 then
    done (raise { s with grid := { s.grid with slewing := false, slewPpb := 0 } } { blk := 1, ev := 3 })
  else done s

/-! ### The instances (R378, R379) -/

/-- An instance enters or leaves LOCKED. -/
def ptpState (s : State) (i st : Nat) : State :=
  let x := ptpInst s i
  let y : PtpInst := { x with st := st, losses := if x.st = 2 ∧ st ≠ 2 then satAdd 0xFFFF x.losses 1 else x.losses }
  let s1 := setInst s i y
  if (x.st = 2) ↔ (st = 2) then s1 else raise s1 { blk := 0xB, ev := 0, info := [i, bit1 (decide (st = 2)) 0] }

/-- What follows when an instance has changed. -/
def ptpAfter (s : State) (i : Nat) : State :=
  let s1 := timSelect (timRefresh s)
  timRefresh (if selBase s1 = i + 1 ∧ !s1.grid.neverSync then followOfs s1 (baseOfs3 s1 (i + 1)) else s1)

/-- PTP_SYNC: offset from the grandmaster, offset of the base from sequencer time, and the LAN of the Sync. A Sync is accepted
from the parent that the BMCA has chosen. -/
def execPtpSync (i : Nat) (ofs rel : Int) (lan : Bool) (t : Nat) (s0 : State) : Out :=
  let s := atTime s0 t
  let x := ptpInst s i
  if 2 ≤ i ∨ (ptpCfg s i).en = false ∨ x.parent = none then done s
  else
    let near := decide (ofs.natAbs ≤ 1000)
    let y : PtpInst := { x with
      ofs := ofs
      abs3 := 3 * rel + s.tim.adj3
      lan := lan
      lockRun := if near then min 8 (x.lockRun + 1) else 0
      offRun := if near then 0 else min 3 (x.offRun + 1) }
    let s1 := setInst s i y
    let st := if x.st = 2 then (if y.offRun = 3 then 3 else 2) else if y.lockRun = 8 then 2 else 1
    done (ptpAfter (ptpState s1 i st) i)

/-- BMCA: dataset a is better than b, by priority1, clockClass, accuracy, variance, priority2 and identity. PRESUMED: the order
of IEEE 1588, which R379 names. -/
def PtpAnn.better (a b : PtpAnn) : Bool :=
  let k := fun (x : PtpAnn) => [x.prio1, x.clockClass, x.accuracy, x.variance, x.prio2, x.gm]
  ((k a).zip (k b)).foldr (fun p r => if p.1 = p.2 then r else decide (p.1 < p.2)) false

/-- PTP_ANNOUNCE: the dataset feeds the BMCA and, from the parent, the UTC offset. -/
def execPtpAnnounce (i : Nat) (a : PtpAnn) (t : Nat) (s0 : State) : Out :=
  let s := atTime s0 t
  let x := ptpInst s i
  if 2 ≤ i ∨ (ptpCfg s i).en = false ∨ a.domain ≠ (ptpCfg s i).domain then done s
  else if x.parent.all fun p => decide (p.gm = a.gm) || a.better p then
    let s1 := setInst s i { x with parent := some a, lastAnn := t }
    done (ptpAfter (if x.st = 3 then ptpState s1 i 1 else s1) i)
  else done s

/-- ANNOUNCE_TIMEOUT: three intervals of 1 s without an Announce of the parent. -/
def execAnnounceTimeout (i t : Nat) (s0 : State) : Out :=
  let s := atTime s0 t
  let x := ptpInst s i
  if x.parent = none ∨ t < x.lastAnn + 3000000000 then done s
  else
    let s1 := setInst s i { x with parent := none, lockRun := 0, offRun := 0, annOut := satAdd 0xFFFF x.annOut 1 }
    done (ptpAfter (if x.st = 0 then s1 else ptpState s1 i 3) i)

/-- PDELAY_REQ on an Ethernet port: the module answers on every port of an instance. -/
def execPdelayReq (port t : Nat) (s0 : State) : Out :=
  let s := atTime s0 t
  if (upto 2).any fun i => (ptpCfg s i).en && decide (port / 2 = if (ptpCfg s i).pb then 1 else 0) then
    done (ethSend s port 0x88F7 [t])
  else done s

/-- PDELAY_RESP: the peer delay of a port is updated. -/
def execPdelayResp (i : Nat) (lan : Bool) (dly t : Nat) (s0 : State) : Out :=
  let s := atTime s0 t
  let x := ptpInst s i
  if 2 ≤ i ∨ (ptpCfg s i).en = false then done s
  else done (setInst s i (if lan then { x with dlyB := dly } else { x with dlyA := dly }))

/-! ### Second marks (R380, R382, R383, R390) -/

/-- The third reference's offset from TB-A and the window in which it agrees; none: it agrees with neither base. -/
def thirdRef (s : State) (m : MarkMeas) : Nat × Int × Option Nat :=
  if irigValid s then (1, m.irA - Int.ofNat s.cfg.tim.irigDelay, some 3000)
  else (2, m.hoA, if holdU s ≤ 4000 then some (max 1000 (holdU s)) else none)

/-- The outcome of a comparison: THIRD, the outvoted bits and the base selected. -/
def decideThird (s : State) (m : MarkMeas) : Nat × Nat × Nat :=
  let (kind, ofsA, win) := thirdRef s m
  let sel := selBase s
  let agrees := fun (b : Nat) => win.any fun w => decide ((if b = 1 then ofsA else ofsA - m.ba).natAbs ≤ w)
  if sel ≠ 0 ∧ agrees sel then (kind, 2 ^ (2 - sel), sel)
  else if sel ≠ 0 ∧ agrees (3 - sel) then (kind, 2 ^ (sel - 1), 3 - sel)
  else (3, field (rd s Reg.TIM_STAT) 27 26, sel)

/-- The disagreement is decided; an outcome that differs from the last one is recorded with both differences. -/
def voteMark (s : State) (m : MarkMeas) : State :=
  let (third, out, sel) := decideThird s m
  let s1 := setTim (wrField (wrField s Reg.TIM_STAT 23 22 third) Reg.TIM_STAT 27 26 out) fun t => { t with doubt383 := decide (third = 3) }
  let s2 := if rd s1 Reg.TIM_STAT = rd s Reg.TIM_STAT then s1
    else
      let a := (thirdRef s m).2.1
      recordBare s1 2 { blk := 0xB, ev := 0, info := [third, out, (i32 a).toNat, (i32 (a - m.ba)).toNat] }
  if sel ≠ selBase s2 ∧ healthyBase s2 sel then selectBase s2 sel else s2

/-- A disagreement begins or ends. -/
def setDisagree (s : State) (on : Bool) : State :=
  if on = disagreeing s then s
  else
    let s1 := raise (wrField s Reg.TIM_STAT 28 28 (bit1 on 0)) { blk := 0xB, ev := 3, info := [bit1 on 0] }
    if on then s1 else setTim (wrField s1 Reg.TIM_STAT 27 26 0) fun t => { t with doubt383 := false }

/-- The disagreement logic of a second mark. -/
def disagreeMark (s : State) (m : MarkMeas) : State :=
  let far := decide (10000 < m.ba.natAbs)
  let both := healthyBase s 1 && healthyBase s 2
  let s1 := setTim s fun t => { t with
    overN := if far && both then min 2 (t.overN + 1) else 0
    under := if far then 0 else min 2 (t.under + 1) }
  let s2 := if s1.tim.overN = 2 then setDisagree s1 true else if s1.tim.under = 2 then setDisagree s1 false else s1
  if disagreeing s2 then voteMark s2 m else s2

/-- SECOND_MARK: the bases are measured, a disagreement is decided, and PPS rises. -/
def execSecondMark (m : MarkMeas) (t : Nat) (s0 : State) : Out :=
  let s := atTime s0 t
  let sat := max (-2147483648) (min 2147483647 m.ba)
  let s1 := wr s Reg.TIM_DIFF_AB (i32 sat)
  let s2 := setTim s1 fun x => { x with
    pps := !s.grid.neverSync || s.cfg.tim.early
    freq := if healthyBase s (selBase s) then m.freq else x.freq }
  let s3 := wr s2 Reg.TIM_HO_FREQ (i32 s2.tim.freq)
  let s4 := if ownSelection s3 then disagreeMark s3 m
    else setTim (wrField (wrField s3 Reg.TIM_STAT 28 28 0) Reg.TIM_STAT 27 26 0) fun x => { x with overN := 0, under := 0, doubt383 := false }
  done (timRefresh (timSelect s4))

/-- PREF_REVERT: the preferred base has been healthy and not outvoted for REVERT seconds (R381, R395). -/
def execPrefRevert (t : Nat) (s0 : State) : Out :=
  let s := atTime s0 t
  let pref := if s.cfg.tim.pref then 2 else 1
  let due := (ptpInst s (pref - 1)).okSince.any fun k => decide (k + s.cfg.tim.revert * 1000000000 ≤ t)
  if ownSelection s ∧ selBase s = 3 - pref ∧ s.cfg.tim.revert ≠ 0 ∧ selectable s pref ∧ due then
    done (timRefresh (selectBase s pref))
  else done s

/-- The estimate is written to MRAM: every 60 s and at a power-fail warning (R380). -/
def saveHoldover (s : State) : State :=
  setTim s fun x => { x with mram := { freq := x.freq, temp := rd s Reg.MON_DIE, sec := x.lastOkSec } }

/-- HOLDOVER_SAVE. -/
def execHoldoverSave (t : Nat) (s0 : State) : Out := done (saveHoldover (atTime s0 t))

/-- LEAP_APPLY: a kept leap flag is applied at the end of its UTC day (R387). -/
def execLeapApply (t : Nat) (s0 : State) : Out :=
  let s := atTime s0 t
  let d := (t / 1000000000 - s.tim.utc) % 86400
  if (utcSource s).isSome then done s
  else if s.tim.leap61 ∧ d = 1 then done (timRefresh (setTim s fun x => { x with utc := x.utc + 1, leap61 := false }))
  else if s.tim.leap59 ∧ d = 86399 then done (timRefresh (setTim s fun x => { x with utc := x.utc - 1, leap59 := false }))
  else done s

/-! ### IRIG-B and PPS (R389, R390) -/

/-- IRIG-B takes a state: entering or leaving VALID is an event. -/
def irigState (s : State) (st : Nat) : State :=
  let was := irigValid s
  let s1 := wrField s Reg.TIM_IRIG_STAT 31 30 st
  if was = decide (st = 2) then s1 else raise s1 { blk := 0xB, ev := 5, info := [bit1 (decide (st = 2)) 0] }

/-- IRIG_FRAME: three consecutive consistent frames of 1 µs or better make the input VALID. -/
def execIrigFrame (f : IrigFrame) (t : Nat) (s0 : State) : Out :=
  let s := atTime s0 t
  if s.cfg.tim.irig = false then done s
  else
    let good := decide (f.tq ≤ 1000) && decide (f.localOfs = 0)
    let consistent := decide (s.tim.irigRun = 0) || decide (f.sec = s.tim.irigSec + 1)
    let run := if !good then 0 else if consistent then min 3 (s.tim.irigRun + 1) else 1
    let ofs := f.ofs - Int.ofNat s.cfg.tim.irigDelay
    let s1 := setTim (addField s Reg.TIM_IRIG_STAT 15 0 1) fun x => { x with
      irigSec := f.sec, irigRun := run, irigOfs := ofs, irigUtc := f.utc, irig61 := f.leap61, irig59 := f.leap59 }
    let s2 := wr s1 Reg.TIM_IRIG_OFS (i32 ofs)
    let s3 := if run = 3 then irigState s2 2 else if irigValid s2 then irigState s2 3 else s2
    done (timRefresh s3)

/-- IRIG_FRAME_MISSING: the input leaves VALID. -/
def execIrigFrameMissing (t : Nat) (s0 : State) : Out :=
  let s := atTime s0 t
  let s1 := setTim s fun x => { x with irigRun := 0 }
  done (timRefresh (if irigValid s1 then irigState s1 3 else s1))

/-- PPS_FALL, WIDTH after a second mark (R390). -/
def execPpsFall (t : Nat) (s0 : State) : Out :=
  let s := atTime s0 t
  if s.cfg.tim.ppsWidth * 1000000 ≤ t % 1000000000 then done (setTim s fun x => { x with pps := false }) else done s

/-! ### Capture units (R391, R392) -/

/-- A unit listens to an event: its source, index and, for digital inputs, whether the change is a debounced one. A change of
a digital input comes as source 1 (rising) or 2 (falling). -/
def CapUnit.listens (u : CapUnit) (src idx : Nat) (deb : Bool) : Bool :=
  let k := field u.cfg 31 28
  let di := decide (src = 1) || decide (src = 2)
  decide (src ≠ 0) && decide (src ≤ 8) && (decide (k = src) || (decide (k = 3) && di))
    && (decide (src = 4) || decide (src = 5) || decide (field u.cfg 8 0 = idx))
    && (!di || decide (flag u.cfg 27 = deb))

/-- The timestamp stored: a digital input's is the filter output less 10 µs, truncated to whole µs (R391). -/
def capStamp (src stamp : Nat) : Nat :=
  if src = 1 ∨ src = 2 then (stamp - 10000) / 1000 * 1000 else stamp

/-- A unit stores a timestamp. -/
def capStore (s : State) (k stamp : Nat) : State :=
  let u := tget {} s.tim.caps k
  let put := fun (t : State) (v : CapUnit) => setTim t fun x => { x with caps := tset {} x.caps k v }
  if 16 ≤ u.fifo.length then put s { u with ovf := satAdd 0xFFFF u.ovf 1 }
  else
    let s1 := put s { u with fifo := u.fifo ++ [stamp] }
    if flag u.cfg 26 then recordBare s1 3 { blk := 0xB, ev := 0, info := [k], stamp := some stamp } else s1

/-- CAPTURE_EVENT: every unit that listens stores the timestamp. -/
def execCaptureEvent (src idx : Nat) (deb : Bool) (stamp : Nat) (s0 : State) : Out :=
  let s := atTime s0 stamp
  done ((upto 64).foldl (fun u k => if (tget {} u.tim.caps k).listens src idx deb then capStore u k (capStamp src stamp) else u) s)

/-- The unit selected. -/
def capSel (s : State) : Nat := field (rd s Reg.TIM_CAP_SEL) 5 0

/-- A read of TIM_CAP_SLO pops the oldest entry; of an empty FIFO NS reads 0xFFFF_FFFF and the seconds are free. -/
def execTimCapSlo (s : State) : Out :=
  let k := capSel s
  let u := tget {} s.tim.caps k
  match u.fifo with
  | [] =>
    let d := drawDWord s
    let s1 := wr (wr d.2 Reg.TIM_CAP_SHI (w32 (field d.1 47 32))) Reg.TIM_CAP_NS 0xFFFFFFFF#32
    done (answer s1 (.value (field d.1 31 0)))
  | x :: xs =>
    let sec := x / 1000000000
    let s1 := setTim s fun t => { t with caps := tset {} t.caps k { u with fifo := xs } }
    let s2 := wr (wr s1 Reg.TIM_CAP_SHI (w32 (sec / 2 ^ 32 % 65536))) Reg.TIM_CAP_NS (w32 (x % 1000000000))
    done (answer s2 (.value (sec % 2 ^ 32)))

/-- A write of TIM_CAP_CFG sets and empties the unit. -/
def execTimCapCfg (c : Cmd) (s : State) : Out :=
  done (written s Reg.TIM_CAP_CFG c fun t =>
    let k := capSel t
    let u := tget {} t.tim.caps k
    let new := c.value &&& 0xFC0001FF#32
    let t1 := setTim t fun x => { x with caps := tset {} x.caps k { cfg := new, fifo := [], ovf := u.ovf } }
    settingWritten t1 Reg.TIM_CAP_CFG u.cfg new c.session)

/-- TIM_CMD.CLR_CNT (R397). -/
def execTimClrCnt (c : Cmd) (s : State) : Out :=
  done (keyedBit s Reg.TIM_CMD 0 c fun t =>
    let t1 := setTim t fun x => { x with
      inst := tmapAll {} (fun _ y => { y with losses := 0, annOut := 0 }) x.inst
      caps := tmapAll {} (fun _ u => { u with ovf := 0 }) x.caps }
    cleared (wr (wrField t1 Reg.TIM_IRIG_STAT 15 0 0) Reg.TIM_LQ_CNT 0) Reg.TIM_CMD c.session)

/-! ### Launch (R393, R394) -/

/-- LAUNCH: the head of a port's queue reaches its launch time. -/
def execLaunchFrame (port t : Nat) (s0 : State) : Out :=
  let s := atTime s0 t
  let q := launchQ s port
  match q.ents with
  | [] => done s
  | x :: xs =>
    if t < x.time ∧ !x.prompt then done s
    else
      let s1 := setLaunchQ s port { ents := xs, headAt := t }
      if x.ctrl ∧ !s.pair.granted then done (addField s1 Reg.TIM_LQ_CNT 15 8 1)
      else
        let s2 := if x.time < q.headAt ∧ !x.prompt then addField s1 Reg.TIM_LQ_CNT 31 16 1 else s1
        done (if gatesClosed s then s2 else if port < 4 then ethSend s2 port x.kind x.what else send s2 1 x.kind (port :: x.what))

end Sys2Proof.Machine
end

