-- ==== Sys2Proof/Machine/RegRead4.lean ====
section
/-! DEFINITION. What the registers that follow the state read (R10, R11): blocks TIM, ETH and GSE (R397, R418, R419). -/

namespace Sys2Proof.Machine

open Sys2Proof

/-! ### TIM (R397) -/

/-- The selected PTP instance. -/
def selPtp (s : State) : Nat := field (rd s Reg.TIM_PTP_SEL) 0 0

/-- TIM_PTP_CFG. -/
def timPtpCfg (s : State) (i : Nat) : Word :=
  let c := ptpCfg s i
  w32 (bit1 c.en 31 + bit1 c.c37 30 + bit1 c.pb 29 + c.maxinacc % 2 ^ 17 * 2 ^ 8 + c.domain % 256)

/-- TIM_PTP_STAT. -/
def timPtpStat (s : State) (i : Nat) : Word :=
  let x := ptpInst s i
  w32 (x.st % 4 * 2 ^ 30 + bit1 (healthyBase s (i + 1)) 29 + bit1 x.lan 28 + min 8 x.lockRun)

/-- TIM. -/
def viewTim (s : State) (o : Nat) : Option Word :=
  let c := s.cfg.tim
  let i := selPtp s
  let x := ptpInst s i
  let u := tget {} s.tim.caps (capSel s)
  match o with
  | 0x04 => some (w32 (bit1 c.pref 31 + c.doubtus % 1024 * 2 ^ 12 + c.revert % 4096))
  | 0x34 => some (w32 (c.utc % 256))
  | 0x4C => some (timPtpCfg s i)
  | 0x50 => some (timPtpStat s i)
  | 0x54 => some (i32 x.ofs)
  | 0x58 => some (w32 (if x.lan then x.dlyB else x.dlyA))
  | 0x64 => some (w32 ((x.parent.map (·.clockClass)).getD 0 % 256 * 2 ^ 24 + (if x.parent.isSome then declared s i else 0) % 2 ^ 24))
  | 0x68 => some (w32 (min 65535 x.losses * 2 ^ 16 + min 65535 x.annOut))
  | 0x6C => some (w32 (bit1 c.irig 31 + c.irigDelay % 2 ^ 14))
  | 0x78 => some (w32 (bit1 c.early 31 + c.ppsWidth % 512))
  | 0x80 => some u.cfg
  | 0x84 => some (w32 (min 65535 u.ovf * 2 ^ 16 + u.fifo.length % 32))
  | _ => none

/-! ### ETH (R418) -/

/-- The selected port, pair and session slot. -/
def selEthPort (s : State) : Nat := field (rd s Reg.ETH_PORT_SEL) 2 0
def selEthPair (s : State) : Nat := field (rd s Reg.ETH_PP_SEL) 0 0

/-- ETH_PORT_STAT: Clause 74 FEC is active on a process port with link where it is set. -/
def ethPortStat (s : State) (p : Nat) : Word :=
  let x := ethPort s p
  let fec := x.link && s.cfg.stn.fec && (decide (p = 2) || decide (p = 3))
  w32 (bit1 x.link 31 + (if x.link then x.speed % 4 else 0) * 2 ^ 29 + bit1 fec 28 + min 65535 x.downs)

/-- ETH_SESS. -/
def ethSessView (s : State) : Word :=
  match tget none s.sess (field (rd s Reg.ETH_SESS_SEL) 2 0) with
  | none => 0
  | some x => w32 (2 ^ 31 + bit1 x.svc 30 + x.role % 16 * 2 ^ 26 + x.id % 2 ^ 26)

/-- ETH_VLAN. -/
def ethVlan (s : State) (p : Nat) : Word :=
  match (if p = 1 then s.cfg.stn.vidsPb else s.cfg.stn.vidsSb)[field (rd s Reg.ETH_VLAN_SEL) 3 0]? with
  | none => 0
  | some v => w32 (2 ^ 31 + v % 4096)

/-- ETH. -/
def viewEth (s : State) (o : Nat) : Option Word :=
  let c := s.cfg.stn
  let p := selEthPort s
  let k := selEthPair s
  let x := ethPort s p
  let y := ethPair s k
  let cnt := fun (i : Nat) => min 255 (y.shown.getD i 0)
  match o with
  | 0x18 => some (ethPortStat s p)
  | 0x1C => some (w32 x.rxShown)
  | 0x20 => some (w32 x.txShown)
  | 0x24 => some (w32 (min 65535 x.fcs * 2 ^ 16 + min 65535 x.overN))
  | 0x2C => some (w32 (bit1 (pairHsr s k) 31 + bit1 (c.fec && decide (k = 1)) 30 + (if k = 1 then c.pvidPb else c.pvidSb) % 4096))
  | 0x30 => some (w32 (min 65535 y.discard * 2 ^ 16 + min 65535 y.single))
  | 0x34 => some (w32 (min 2047 y.nodes.length))
  | 0x38 => some (w32 (cnt 3 * 2 ^ 24 + cnt 2 * 2 ^ 16 + cnt 1 * 2 ^ 8 + cnt 0))
  | 0x3C => some (w32 y.stranger)
  | 0x40 => some (w32 (ownMac s k % 2 ^ 32))
  | 0x44 => some (w32 (ownMac s k / 2 ^ 32 % 2 ^ 16))
  | 0x48 => some (w32 c.ip)
  | 0x4C => some (w32 c.fip)
  | 0x50 => some (w32 c.svcIp)
  | 0x58 => some (ethVlan s k)
  | 0x60 => some (ethSessView s)
  | 0x64 => some (w32 (c.idle % 2 ^ 17))
  | 0x68 => some (w32 (bit1 (serves s) 31 + s.stn.assocs.length % 32))
  | 0x6C => some (w32 (min 65535 s.stn.opsBad * 2 ^ 16 + min 65535 s.stn.opsOk))
  | _ => none

/-! ### GSE (R419) -/

/-- GSE_PUB_CFG. -/
def gsePubView (s : State) (p : Nat) : Word :=
  match look s.cfg.stn.pubs p with
  | none => 0
  | some c => w32 (2 ^ 31 + bit1 c.trip 30 + bit1 c.pb 29 + c.prio % 8 * 2 ^ 26 + c.members.length % 256 * 2 ^ 16 + c.appid % 2 ^ 16)

/-- GSE_SUB_CFG and GSE_SUB_STAT. -/
def gseSubView (s : State) (k : Nat) : Word :=
  match look s.cfg.stn.subs k with
  | none => 0
  | some c => w32 (2 ^ 31 + bit1 c.sim 30 + bit1 c.pb 29 + bit1 c.safe 28 + c.members.length % 256 * 2 ^ 16 + c.appid % 2 ^ 16)
def gseSubStat (s : State) (k : Nat) : Word :=
  match gseSub s k with
  | none => 0
  | some x => w32 (x.state % 8 * 2 ^ 29 + bit1 x.test 28 + x.err % 8 * 2 ^ 25 + bit1 x.lan 24)

/-- GSE. -/
def viewGse (s : State) (o : Nat) : Option Word :=
  let c := s.cfg.stn
  let p := field (rd s Reg.GSE_PUB_SEL) 6 0
  let k := field (rd s Reg.GSE_SUB_SEL) 8 0
  let g := gsePubCfg s p
  let x := (gseSub s k).getD {}
  let valid := (look c.pubs p).isSome
  match o with
  | 0x04 => some (w32 (c.subs.length % 1024 * 2 ^ 16 + c.pubs.length % 256))
  | 0x08 => some (w32 (field (rd s Reg.GSE_STAT) 25 16 * 2 ^ 16 + bit1 (c.pubs.any fun e => !e.2.trip && publishes s e.1) 0))
  | 0x1C => some (gsePubView s p)
  | 0x20 => some (w32 (gsePub s p).st)
  | 0x24 => some (w32 (gsePub s p).sq)
  | 0x28 => some (if valid then w32 (g.maxt % 4096 * 2 ^ 16 + g.mint % 4096) else 0)
  | 0x2C => some (if valid then w32 g.confRev else 0)
  | 0x34 => some (gseSubView s k)
  | 0x38 => some (gseSubStat s k)
  | 0x3C => some (w32 x.st)
  | 0x40 => some (w32 x.sq)
  | 0x44 => some (w32 (min 65535 ((x.tal - (s.grid.now - x.lastAt)) / 1000000)))
  | 0x48 => some (w32 (min 65535 x.discards * 2 ^ 16 + min 65535 x.news))
  | 0x4C => some (w32 (min 0xFFFFFFFF x.lostCnt))
  | _ => none

end Sys2Proof.Machine
end

