-- ==== Sys2Proof/Machine/Slot.lean ====
section
/-! DEFINITION. The slot: the lever, withdrawal, the feeds, the power-fail sequence, partner presence and the straps (R501–R522). -/

namespace Sys2Proof.Machine

open Sys2Proof

/-- Change the slot. -/
def setSlot (s : State) (f : SlotState → SlotState) : State := { s with slot := f s.slot }

/-- LEVER_UNLATCH (R242, R508): the ACTIVE module starts a planned switchover, every other role goes to OFFLINE. During a
hold-up it is ignored (R522). -/
def execLeverUnlatch (t : Nat) (s0 : State) : Out :=
  let s := atTime s0 t
  let s1 := setSlot s fun x => { x with latched := false }
  if !s.slot.power ∨ s.slot.failing.isSome ∨ !s.slot.latched then done s1
  else match s.pair.role with
    | .active =>
      let code := switchRefusal s1 4
      if code ≠ 0 then done (setSlot (refuseSwitch s1 code 0) fun x => { x with faultFlash := true, unlatchAt := some s1.grid.mono })
      else done (setSlot (startSwitch s1 4 false) fun x => { x with removal := true })
    | .offline => done (removalTick (setPair (setSlot s1 fun x => { x with removal := true }) fun p => { p with lines := { p.lines with ready := false } }))
    | _ => done (requestRole (markLifeDrop (setSlot s1 fun x => { x with removal := true })) .offline 16)

/-- LEVER_LATCH (R242): a further attempt is possible. -/
def execLeverLatch (t : Nat) (s0 : State) : Out :=
  done (setSlot (atTime s0 t) fun x => { x with latched := true, faultFlash := false, unlatchAt := none })

/-- FEED_CHANGE (R510): feed 1 or 2 leaves or enters its range. -/
def execFeedChange (n : Nat) (ok : Bool) (t : Nat) (s0 : State) : Out :=
  let s := atTime s0 t
  let s1 := setSlot s fun x => if n = 1 then { x with feed1 := ok } else { x with feed2 := ok }
  if (if n = 1 then s.slot.feed1 else s.slot.feed2) = ok then done s1
  else done (raise s1 { blk := 0, ev := 1, sev := some 2, info := [n, bit1 ok 0] })

/-- The power-fail warning (R511): the holdover estimate, the recorder, the display, and the retained data, whose write-through
ends with that of the present frame if its commit is still to come (R129, R380, R477, R493). -/
def powerFail (s : State) : State :=
  if s.slot.failing.isSome then s
  else
    let s1 := setSlot s fun x => { x with failing := some s.grid.mono }
    let s2 := powerFailFlush (saveHoldover s1)
    { s2 with
      dpy := { s2.dpy with stopping := true }
      fbx := { s2.fbx with retStopped := s2.fbx.retStopped || decide (s2.grid.phase = 3) || !s2.grid.running } }

/-- POWER_FAIL_WARNING. -/
def execPowerFailWarning (t : Nat) (s0 : State) : Out :=
  let s := atTime s0 t
  if s.slot.power then done (powerFail s) else done s

/-- UNCONTROLLED_REMOVAL (R509): the power-fail warning, then every output and the heartbeats at once. -/
def execUncontrolledRemoval (t : Nat) (s0 : State) : Out :=
  let s := atTime s0 t
  if !s.slot.power then done s
  else
    let s1 := recordBare (powerFail s) 1 { blk := 0, ev := 0, sev := some 3, info := [s.pair.role.code] }
    done (setPair (setLife (setSlot s1 fun x => { x with seated := false }) false) fun p => { p with gatesOff := true, hbStopped := true })

/-- PARTNER_PRESENCE (R515): the partner counts as seated or absent; an ACTIVE module alone is SOLO (R229). -/
def execPartnerPresence (present : Bool) (t : Nat) (s0 : State) : Out :=
  let s := atTime s0 t
  let s1 := setPair s fun p => { p with present := present, partner := if present then p.partner else {} }
  if s.pair.present = present then done s1
  else match s1.pair.role with
    | .active => if present then done s1 else done (requestRole s1 .solo 14)
    | .offline => done (decideJoin s1)
    | _ => done s1

/-- STRAPS_CHANGED (R513): after HOLD the module keeps its side and records the change. -/
def execStrapsChanged (side sideN : Bool) (cid t : Nat) (s0 : State) : Out :=
  let s := atTime s0 t
  let s1 := setSlot s fun x => { x with nowSide := side, nowSideN := sideN, nowCid := cid }
  if stage s = 0 ∨ (side = s.slot.nowSide ∧ sideN = s.slot.nowSideN ∧ cid = s.slot.nowCid) then done s1
  else done (raise s1 { blk := 0, ev := 2, sev := some 2, info := [bit1 side 0, bit1 sideN 0, cid] })

end Sys2Proof.Machine
end

