-- ==== Sys2Proof/Machine/Start.lean ====
section
/-! DEFINITION. The staged start: what a start keeps, HOLD, GUARD, LOAD, CONFIGURE, restarts and the loss of power
(R284, R420–R431, R435–R442, R448, R507, R511, R513, R526, R527). -/

namespace Sys2Proof.Machine

open Sys2Proof

/-! ### What outlives a start -/

/-- The recorder's MRAM. -/
def keepRecorder (r : Recorder) : Recorder :=
  { slots := r.slots, hdrA := r.hdrA, hdrB := r.hdrB, c := r.c, seqNext := r.seqNext, newest := r.newest }

/-- Slot memory, NAND, OTP and the trust store; an unfinished download is lost (R451). -/
def keepUpdate (u : UpdState) : UpdState :=
  { ({} : UpdState) with
    started := u.started, copyA := u.copyA, copyB := u.copyB, devices := u.devices, slotA := u.slotA, slotB := u.slotB, bootB := u.bootB
    staging := if u.staging.state = 1 then {} else u.staging
    otp := u.otp, trust := u.trust, tokenNum := u.tokenNum, kind := u.kind, powerUp := u.powerUp, roll := u.roll, rollResult := u.rollResult }

/-- The lines at the pins: what the clasp drives stays, what the module drives is low; a KILL that is already held counts from
now (R236). -/
def keepPair (p : PairState) (now : Nat) : PairState :=
  let l := p.lines
  { ({} : PairState) with
    lines := { grant := l.grant, grantN := l.grantN, kill := l.kill, killN := l.killN, pgrant := l.pgrant, alive := l.alive }
    killAt := if l.killed then some now else none, pgrantAt := now
    present := p.present, restartDue := p.restartDue }

/-- The life counters, the trend log and what is fused. -/
def keepHealth (h : HltState) : HltState :=
  { ({} : HltState) with
    temps := h.temps, log := h.log, newest := h.newest, poh := h.poh, bands := h.bands, inserts := h.inserts, starts := h.starts
    lastTick := h.lastTick, waiting := h.waiting, trip := h.trip, hot := h.hot, order := h.order, serial := h.serial, mfg := h.mfg }

/-- The module with everything volatile lost: what lies in MRAM, NAND, OTP and slot memory, and the pins. TB-L counts from
power-up, so only a loss of power sets it to zero (R123). -/
def carryOver (s : State) : State :=
  { State.reset with
    pending := s.pending, freeN := s.freeN
    grid := { now := s.grid.now, mono := if s.upd.powerUp then 0 else s.grid.mono }
    rcd := keepRecorder s.rcd
    fbx := { copyA := s.fbx.copyA, copyB := s.fbx.copyB }
    frc := { table := s.frc.table }
    upd := keepUpdate s.upd
    pair := keepPair s.pair s.grid.now
    tim := { mram := s.tim.mram }
    hlt := keepHealth s.hlt
    chn := { ports := tmapAll {} (fun _ x => { mram := x.mram }) s.chn.ports }
    stn := { sessNum := s.stn.sessNum, macSb := s.stn.macSb, macPb := s.stn.macPb }
    dpy := { rows := s.dpy.rows, temp := s.dpy.temp }
    slot := { s.slot with power := false, failing := none, removal := false, remFlush := false, remLit := false, faultFlash := false, unlatchAt := none } }

/-- The flush at the start of a restart writes the buffer before the restart (R476). -/
def flushOut (s : State) : State := { s with rcd := { (writeHeader (s.rcd.buf.foldl writeRec s.rcd)) with buf := [] } }

/-! ### GUARD (R422, R428, R513) -/

/-- The ROM safety kernel takes over: heartbeats, the life contact, the recorder and the display (R421). -/
def enterGuard (s : State) : State :=
  let s1 := recoverRecorder (enterStage s 1)
  let s2 := setPair s1 fun p => { p with sideB := s1.slot.side, hbStopped := p.killq }
  let s3 := recordBare s2 2 { blk := 0, ev := 0, info := [bit1 s.slot.side 0, s.slot.cid] }
  dpyStart (dpyTables (if s3.hlt.waiting then s3 else setLife s3 true))

/-- The straps are read; equal SIDE straps keep the module in HOLD (R513). -/
def readStraps (s : State) : State :=
  let s1 := setSlot s fun x => { x with side := x.nowSide, sideN := x.nowSideN, cid := x.nowCid }
  if s1.slot.side = s1.slot.sideN then s1 else enterGuard s1

/-! ### HOLD (R420, R507) -/

/-- Why a start may begin now: the code of UPD_START, 7 where R453 codes none. -/
def startCause (s : State) : Option Nat :=
  let p := s.pair
  let released := !s.saf.safe || (s.saf.safeHeld && !p.lines.killed)
  if !s.slot.latched ∨ s.hlt.hot then none
  else if s.upd.powerUp then some 0
  else if p.role ≠ .offline ∨ p.next.isSome ∨ p.killq ∨ !released then none
  else if s.slot.removal then some 7
  else p.restartDue

/-- A start begins at t0 in HOLD (R420). A module that dropped at 125 °C restarts at GUARD (R526). -/
def beginStart (s : State) (cause : Nat) : State :=
  let s1 := carryOver (if s.upd.powerUp then s else flushOut s)
  let code := if cause = 7 then (Config.freeWord s.freeN).toNat % 16 else cause
  let s2 : State := { s1 with
    freeN := s.freeN + 1
    pair := { s1.pair with restartDue := none }
    slot := { s1.slot with power := true, seated := true }
    hlt := { s1.hlt with
      starts := s1.hlt.starts + 1, inserts := if s.slot.seated then s1.hlt.inserts else s1.hlt.inserts + 1
      lastTick := s1.grid.mono, trip := false }
    upd := { s1.upd with started := true, t0 := s1.grid.mono, powerUp := false } }
  let s3 := wrField (wrField s2 Reg.UPD_START 31 28 code) Reg.MON_STAT 30 29 (bit1 s.hlt.waiting 1 + bit1 s.hlt.trip 0)
  if s.hlt.waiting then readStraps s3 else s3

/-- START: t0. -/
def execModuleStart (t : Nat) (s0 : State) : Out :=
  let s := atTime s0 t
  match startCause s with
  | some c => done (beginStart s c)
  | none => done s

/-- SAFE_STATE_RESTART (R284): a module in the module safe state that did not hold the grant. -/
def execSafeStateRestart (t : Nat) (s0 : State) : Out :=
  let s := atTime s0 t
  if s.saf.safe ∧ !s.saf.safeHeld ∧ s.saf.safeAt + 100000000 ≤ s.grid.mono ∧ !s.pair.killq ∧ s.slot.latched ∧ s.pair.role = .offline then
    done (beginStart s 4)
  else done s

/-- HOLD_END: the straps are read and GUARD begins (R513). -/
def execHoldEnd (t : Nat) (s0 : State) : Out :=
  let s := atTime s0 t
  if s.slot.power ∧ stage s = 0 then done (readStraps s) else done s

/-- STRAP_RETRY: after 100 ms with SIDE equal to SIDE_N. -/
def execStrapRetry (t : Nat) (s0 : State) : Out :=
  let s := atTime s0 t
  if s.slot.power ∧ stage s = 0 ∧ s.slot.side = s.slot.sideN then done (readStraps s) else done s

/-- A copy's stage-1 table is usable (R428). -/
def s1Usable (s : State) (c : SlotCopy) : Bool :=
  s.upd.devices && decide (c.state = 1) && c.hcrcOk && decide (c.s1Image = c.imageId) && c.s1Sig

/-- The copy whose stage-1 table is used: 1 A, 2 B, 0 none (R428). -/
def s1Choice (s : State) : Nat :=
  let a := s.upd.copyA
  let b := s.upd.copyB
  match s1Usable s a, s1Usable s b with
  | true, true =>
    if a.gen = b.gen then (if a.s1Sha = b.s1Sha then 1 else 0) else if a.gen < b.gen then 2 else 1
  | true, false => 1
  | false, true => 2
  | false, false => 0

/-- The settings that GUARD works with: the stage-1 table's streams, its SAMP elements on PE0, and its routes, whose digital
outputs stand as prompt outputs (R191). -/
def guardImage (x : Stage1) : Image :=
  let outs := (x.routes.map fun r => r.2.2 % 16).eraseDups
  { highrate := x.highrate, sv := x.streams, pe := [(0, { descs := x.descs, routes := x.routes })]
    dir := outs.map fun n => (n, BitVec.ofNat 64 (3 * 2 ^ 60 + 2 ^ 45 + n))
    stn := { hsrPb := x.hsr, pvidPb := x.pvid } }

/-- A stage-1 table is put into force. -/
def useStage1 (s : State) (k : Nat) : State :=
  let x := (if k = 2 then s.upd.copyB else s.upd.copyA).s1
  let s1 := setUpd { s with cfg := guardImage x } fun u => { u with s1Used := k }
  peGuard (sviSubscribe (wr s1 Reg.UPD_S1_STAT (w32 (2 ^ 31 + bit1 (decide (k = 2)) 30 + x.descs.length * 256 + x.streams.length))) fun _ => false)

/-- ROM recovery is entered (R442). -/
def enterRecovery (s : State) : State :=
  setPair (setUpd (enterStage s 6) fun u => { u with recovery := true }) fun p => { p with hbStopped := true }

/-- GUARD_READY: the guard function is ready and LOAD begins, or recovery with the button held (R422, R442). A module that
waits after a drop stays in GUARD. -/
def execGuardReady (t : Nat) (s0 : State) : Out :=
  let s := atTime s0 t
  if stage s ≠ 1 ∨ s.upd.s1Used ≠ 0 then done s
  else
    let k := s1Choice s
    let s1 := if k = 0 then recordBare s 3 { blk := 0x13, ev := 0 } else useStage1 s k
    if s1.slot.recButton then done (enterRecovery (wrField s1 Reg.UPD_REC_STAT 31 31 1))
    else if s1.hlt.waiting then done s1
    else done (enterStage s1 2)

/-- CRIT_COOLDOWN_END (R526): the die has been below 110 °C for 60 s, and the module continues from LOAD. -/
def execCritCooldownEnd (t : Nat) (s0 : State) : Out :=
  let s := atTime s0 t
  let due := s.hlt.cool.any fun c => decide (c + 60000000000 ≤ s.grid.mono)
  if s.hlt.waiting ∧ due ∧ stage s = 1 then
    done (setLife (enterStage (wrField (setHlt s fun h => { h with waiting := false, cool := none }) Reg.MON_STAT 30 30 0) 2) true)
  else done s

/-! ### LOAD (R423, R438, R439) -/

/-- Slots that R439 would take but that are not usable are skipped and recorded. -/
def skippedSlots (s : State) : State :=
  [false, true].foldl (fun u b =>
    let x := if b then u.upd.slotB else u.upd.slotA
    if (x.state = 1 ∨ x.state = 3 ∨ x.state = 4) ∧ !slotUsable u x then recordBare u 4 { blk := 0x13, ev := 0, info := [bit1 b 0] } else u) s

/-- LOAD_COMPLETE: a staged package is installed, the boot slot is chosen, and the engines have passed their load self-test.
failed: engines that have not; copyOk: the copy of staging verified. -/
def execLoadComplete (failed : List Nat) (copyOk : Bool) (t : Nat) (s0 : State) : Out :=
  let s := atTime s0 t
  if stage s ≠ 2 ∨ field (rd s Reg.UPD_STAT) 28 26 ≠ 0 then done s
  else
    let s1 := skippedSlots (installStaged s copyOk)
    match bootChoice s1 with
    | none => done (enterRecovery (wrField s1 Reg.UPD_REC_STAT 31 31 1))
    | some b =>
      let s2 := dpyTables (bootSlot s1 b)
      let s3 := { s2 with acc := { s2.acc with locked := true } }
      if failed ≠ [] then done (stopStart s3 5) else done (enterStage s3 3)

/-! ### CONFIGURE (R423, R425, R448) -/

/-- A copy is valid: R425, with the anchor of its signatures in the store (R430). -/
def copyUsable (s : State) (c : SlotCopy) : Bool :=
  c.valid && (tget none s.upd.trust c.anchor).any fun a => bitOf a.usage 0

/-- The copy to use: 1 A, 2 B, 0 none, 3 ambiguous (R425). -/
def copyChoice (s : State) (a b : SlotCopy) : Nat :=
  match copyUsable s a, copyUsable s b with
  | true, true => if a.gen = b.gen then (if a.sha = b.sha then 1 else 3) else if a.gen < b.gen then 2 else 1
  | true, false => 1
  | false, true => 2
  | false, false => 0

/-- Forces after a start: a cold one clears them, a safety force ends with any (R220, R221). -/
def startForces (s : State) (warm : Bool) : State :=
  if warm then dropSafetyForces s else { s with frc := { s.frc with table := [] } }

/-- The image is applied: the settings, the engines, the inputs and the restored application (R131, R132, R421). -/
def applyImage (s : State) (k : Nat) (c : SlotCopy) : State :=
  let warm := match s.upd.kind with
    | some cold => !cold
    | none => !c.image.fbx.pwrupCold
  let s1 := setUpd { s with cfg := c.image } fun u => { u with used := k, kind := none }
  let s2 := wr (wrField (showCopiesMem s1) Reg.UPD_CONFIRM 31 15 c.image.confirm) Reg.UPD_CFG_ID (w32 c.imageId)
  let s3 := setUpd s2 fun u => { u with confirmEnd := u.confirmEnd.map fun _ => u.t0 + c.image.confirm * 1000000000 }
  let s4 := startForces (restoreRun s3 warm) warm
  let s5 := dpyTables (timStart (gseSubscribe (sviSubscribe (peStart s4) fun _ => false) fun _ => false))
  (upto 32).foldl diStart s5

/-- CONFIGURE_COMPLETE: a copy is chosen and applied and JOIN begins, or the start stops. fwd: the copies that the partner has
forwarded to a module with both devices unconnected (R517). -/
def execConfigureComplete (fwd : Option (SlotCopy × SlotCopy)) (t : Nat) (s0 : State) : Out :=
  let s := atTime s0 t
  if stage s ≠ 3 ∨ field (rd s Reg.UPD_STAT) 28 26 ≠ 0 then done s
  else
    let none2 : SlotCopy × SlotCopy := ({}, {})
    let ab := if s.upd.devices then (s.upd.copyA, s.upd.copyB) else fwd.getD none2
    let signs := (ownAnchors s).any fun a => bitOf a.2.usage 0
    if !signs then done (stopStart s 4)
    else
      let k := copyChoice s ab.1 ab.2
      let s1 := if k = 1 ∨ k = 2 then
          (if ab.1.gen ≠ ab.2.gen ∨ !copyUsable s ab.1 ∨ !copyUsable s ab.2 then
            recordBare s 5 { blk := 0x13, ev := 0, info := [k, ab.1.code, ab.2.code] } else s)
        else s
      let c := if k = 2 then ab.2 else ab.1
      if k = 0 ∨ (k ≠ 3 ∧ imageRules c.image = false) then done (stopStart (showCopiesMem s1) 1)
      else if k = 3 then done (stopStart (showCopiesMem s1) 2)
      else if (booted s1).feat < c.image.fwmin then done (stopStart (showCopiesMem s1) 3)
      else done (enterJoin (applyImage s1 k c))

/-! ### Restarts and the loss of power -/

/-- FBX_CMD.WARM and FBX_CMD.COLD (R132, R141): the engineer role; both bits together have no effect and are recorded. -/
def restartCmd (s : State) (cold : Bool) (c : Cmd) : State :=
  keyed s Reg.FBX_CMD c fun t =>
    if !flag c.value (if cold then 0 else 1) then t
    else if flag c.value 0 && flag c.value 1 then refuse t Reg.FBX_CMD none c.session
    else if !hasRole t c.session 2 then refuse t Reg.FBX_CMD none c.session
    else
      let t1 := setUpd (accepted t Reg.FBX_CMD c) fun u => { u with kind := some cold }
      leaveForRestart (startFlush (wantFinal t1) 3) 1

/-- WARM_RESTART. -/
def execWarmRestart (c : Cmd) (s : State) : Out := done (restartCmd s false c)
/-- COLD_RESTART. -/
def execColdRestart (c : Cmd) (s : State) : Out := done (restartCmd s true c)

/-- Power is lost: the module is in HOLD, and the next start is a power-up (R511). -/
def losePower (s : State) : State :=
  let s1 := carryOver { s with upd := { s.upd with powerUp := true, kind := none } }
  { s1 with
    pair := { s1.pair with restartDue := none }
    hlt := { s1.hlt with waiting := false }
    slot := { s1.slot with seated := s.slot.seated && !s.slot.remLit } }

/-- HOLD_UP_END: the outputs are de-energised, the heartbeats stop and the module enters HOLD (R511). -/
def execHoldUpEnd (t : Nat) (s0 : State) : Out :=
  let s := atTime s0 t
  if s.slot.failing.isSome then done (losePower s) else done s

/-- THERMAL_TRIP (R527): the die supplies go off in hardware, without hold-up. -/
def execThermalTrip (t : Nat) (s0 : State) : Out :=
  let s := atTime s0 t
  if s.slot.power then done (setHlt (losePower s) fun h => { h with trip := true, hot := true }) else done s

end Sys2Proof.Machine
end

