-- ==== Sys2Proof/Machine/RegRead5.lean ====
section
/-! DEFINITION. What the registers that follow the state read (R10, R11): blocks UPD, ACC, REC, DPY, DEV and MON (R453, R467,
R483, R500, R535, R536), and the register file as it reads. -/

namespace Sys2Proof.Machine

open Sys2Proof

/-! ### UPD (R453) -/

/-- A 24-bit prefix of a SHA-512; no rule states which bytes its bits 23:0 are. -/
def hashBits (h : List Byte) : Nat := (Config.openCrc 4 (h.map (·.toNat))).toNat % 2 ^ 24

/-- UPD_CONFIRM: the seconds left while a slot is TRIAL_BOOTED. -/
def updConfirmView (s : State) : Word :=
  let left := match s.upd.confirmEnd with
    | some e => if (booted s).state = 2 then min 32767 ((e - s.grid.mono) / 1000000000) else 0
    | none => 0
  putField (rd s Reg.UPD_CONFIRM) 14 0 left

/-- UPD_TRUST_ENT. -/
def updTrustEnt (s : State) : Word :=
  match tget none s.upd.trust (field (rd s Reg.UPD_TRUST_SEL) 2 0) with
  | none => 0
  | some a => w32 (2 ^ 31 + bit1 a.learned 30 + a.usage % 4 * 2 ^ 24 + hashBits (Config.sha512 a.ed))

/-- UPD. -/
def viewUpd (s : State) (o : Nat) : Option Word :=
  let g := s.upd.staging
  match o with
  | 0x50 => some (w32 (g.state % 4 * 2 ^ 30 + g.err % 8 * 2 ^ 27 + bit1 g.marked 26 + g.blocks % 2 ^ 14))
  | 0x54 => some (updConfirmView s)
  | 0x58 => some (w32 (s.upd.otp.arb % 256))
  | 0x5C => some (w32 (s.upd.otp.prog % 16 * 16 + s.upd.otp.revoked % 16))
  | 0x60 => some (w32 ((upto 8).foldl (fun w i => w + bit1 (tget none s.upd.trust i).isSome (24 + i)) 0 + hashBits (Config.sha512 (trustBytes s))))
  | 0x68 => some (updTrustEnt s)
  | _ => none

/-! ### ACC (R467) -/

/-- A register of a region descriptor: 0 base low, 1 base high, 2 attributes, 3 match. -/
def Region.word (r : Region) (i : Nat) : Word :=
  match i with
  | 0 => w32 (r.base % 2 ^ 32)
  | 1 => w32 (r.base / 2 ^ 32 % 256)
  | 2 => r.attr
  | _ => r.mid

/-- The partition that an engine, numbered as in FRM_ENG_BUDGETn, carries. -/
def engPart (s : State) (e : Nat) : Nat :=
  let x := leOf s (e - 4)
  match if e < 4 then (acOf s e).cls else x.s0.cls.orElse fun _ => x.s1.cls with
  | some k => (classCfg s k).part
  | none => 0

/-- The region descriptors in force as numbers. -/
def regionNums (t : Tbl Region) : List Nat := t.flatMap fun e => [e.1, e.2.base, e.2.attr.toNat, e.2.mid.toNat]

/-- ACC. -/
def viewAcc (s : State) (o : Nat) : Option Word :=
  let a := s.acc
  match o with
  | 0x04 => some (w32 (bit1 a.locked 31 + bit1 a.applied 30))
  | 0x18 => some (w32 (bit1 a.drain 31 + bit1 (!a.held.isEmpty) 30 + a.scope % 4 * 2 ^ 28 + min 65535 a.count))
  | 0x88 => some (if a.ini.isEmpty && a.tgt.isEmpty then 0 else Config.openCrc 5 (regionNums a.ini ++ regionNums a.tgt))
  | _ =>
    if 0x24 ≤ o ∧ o < 0x34 then some ((tget {} a.iniSh (iniKey s)).word ((o - 0x24) / 4))
    else if 0x38 ≤ o ∧ o < 0x48 then some ((tget {} a.tgtSh (tgtKey s)).word ((o - 0x38) / 4))
    else if 0x48 ≤ o ∧ o < 0x78 then some (w32 (engPart s ((o - 0x48) / 4) % 128))
    else none

/-! ### REC (R483) -/

/-- The records written to MRAM since the clear. -/
def recWritten (r : Recorder) : Nat :=
  match r.newest with
  | some n => if recOffset r.c n < recOffset r.c r.seqNext then recOffset r.c n + 1 else 0
  | none => 0

/-- REC. -/
def viewRec (s : State) (o : Nat) : Option Word :=
  let r := s.rcd
  let n := recWritten r
  match o with
  | 0x04 => some (w32 (bit1 r.flushing 31 + bit1 (decide (65536 ≤ n)) 30 + bit1 (decide (65536 + 983040 < n)) 29 + bit1 r.rdMiss 28
      + bit1 r.hdrFail 27))
  | 0x14 => some r.seqNext
  | 0x18 => some r.c
  | 0x1C => some (w32 (min 65536 n))
  | 0x20 => some (w32 (min 983040 (n - 65536)))
  | 0x24 => some (if n ≤ 65536 then 0 else r.c + w32 (max 65536 (n - 983040)))
  | 0x28 => some (w32 r.total)
  | 0x2C => some (w32 r.lost)
  | 0x30 => some (w32 (r.peak % 2 ^ 15 * 2 ^ 16 + r.buf.length % 2 ^ 15))
  | 0x34 => some (w32 r.flushes)
  | 0x40 => some (w32 (r.clrLast % 2 ^ 26))
  | 0x44 => some (w32 (headerGen r))
  | _ => none

/-! ### DPY (R500) -/

/-- DPY_REG_STAT of a region. -/
def dpyRegStat (s : State) (g : Nat) : Word :=
  let rows := (regionRows s g).filter (rowRuns s)
  let top := rows.foldl (fun m r => max m (dpyRow s r).done) 0
  w32 (bit1 (!rows.isEmpty) 31 + bit1 (dpyReg s g).pend.isSome 30 + min 63 top)

/-- DPY_REG_CFG of a region. -/
def dpyRegCfg (s : State) (g : Nat) : Word :=
  if g = 0 then w32 (2 ^ 31 + 14 * 2 ^ 8)
  else match look s.dpy.regions g with
    | some (a, b) => w32 (2 ^ 31 + b % 128 * 2 ^ 8 + a % 128)
    | none => 0

/-- DPY. -/
def viewDpy (s : State) (o : Nat) : Option Word :=
  let d := s.dpy
  let g := field (rd s Reg.DPY_REG_SEL) 2 0
  match o with
  | 0x04 => some (w32 ((upto 8).foldl (fun w i => w + bit1 (decide (i ≠ 0) && (look d.regions i).isSome) i) (bit1 (!s.cfg.dir.isEmpty) 0)))
  | 0x08 => some (w32 (bit1 d.nodrive 31 + bit1 d.src 30 + bit1 (dpyCold s) 29 + bit1 (decide (d.final = 2)) 28
      + bit1 (!d.recov.isEmpty) 27 + (allRows.filter (rowRuns s)).length))
  | 0x18 => some (w32 (dpyBand s * 2 ^ 16 + s16 d.temp))
  | 0x1C => some (if d.nodrive || (dpyTable s).isEmpty then 0 else crc32c (tableBytes (dpyTable s)))
  | 0x2C => some (dpyRegCfg s g)
  | 0x30 => some (dpyRegStat s g)
  | 0x34 => some (w32 (min 65535 d.replaced * 2 ^ 16 + min 65535 d.updates))
  | 0x38 => some (w32 (ledWord s))
  | 0x3C => some (w32 (d.startCode % 4 * 2 ^ 30 + d.nrec % 128 * 2 ^ 16 + d.nunk % 128))
  | _ => none

/-! ### DEV and MON (R535, R536) -/

/-- ALERT_N is low: module safe state, a stop of R423, or above the temperature warning threshold (R519). -/
def alertLow (s : State) : Bool := s.saf.safe || decide (field (rd s Reg.UPD_STAT) 28 26 ≠ 0) || flag (rd s Reg.MON_STAT) 31

/-- Whole hours of a time in ns. -/
def hours (ns : Nat) : Nat := ns / 3600000000000

/-- DEV. -/
def viewDev (s : State) (o : Nat) : Option Word :=
  let h := s.hlt
  let v := s.slot
  match o with
  | 0x08 => some (w32 (stage s * 2 ^ 29 + s.pair.role.code * 2 ^ 26 + bit1 (alertLow s) 25))
  | 0x18 => some (if stage s = 0 then 0 else w32 (h.order % 2 ^ 16))
  | 0x24 => some (if stage s = 0 then 0 else w32 (bit1 v.side 7 + bit1 v.sideN 6 + v.cid % 64))
  | 0x28 => some (w32 (bit1 v.feed2 1 + bit1 v.feed1 0))
  | 0x34 => some (w32 (hours h.poh))
  | 0x38 => some (w32 h.inserts)
  | 0x3C => some (w32 h.starts)
  | 0x40 => some (w32 h.mfg)
  | 0x4C => some (w32 (0x2A + bit1 v.side 0))
  | _ => if 0x50 ≤ o ∧ o < 0x60 then some (w32 (hours (tget 0 h.bands ((o - 0x50) / 4)))) else none

/-- MON: MON_TREND_VAL follows its select. -/
def viewMon (s : State) (o : Nat) : Option Word :=
  if o = 0x1C then
    let w := rd s Reg.MON_TREND_SEL
    some (match trendVal s (field w 3 0) (field w 29 16) with
      | some v => w32 (s16 v)
      | none => 0x8000#32)
  else none

/-! ### The register file as it reads -/

/-- The view of the register at offset o of a block. The engine blocks hold one register set for each engine (R93, R200). -/
def viewOf (s : State) (blk o : Nat) : Option Word :=
  match blk with
  | 0x00 => viewDev s o
  | 0x01 => viewFrm s o
  | 0x02 => viewSig s o
  | 0x03 => viewLe s (o / 0x80) (o % 0x80)
  | 0x04 => viewFbx s o
  | 0x05 => viewPe s (o / 0x80) (o % 0x80)
  | 0x06 => viewSvi s o
  | 0x07 => viewPair s o
  | 0x08 => viewSaf s o
  | 0x09 => viewEth s o
  | 0x0A => viewGse s o
  | 0x0B => viewTim s o
  | 0x0C => viewChn s o
  | 0x0D => viewCan s o
  | 0x0E => viewLio s o
  | 0x0F => viewAio s o
  | 0x10 => viewDpy s o
  | 0x11 => viewRec s o
  | 0x12 => viewAcc s o
  | 0x13 => viewUpd s o
  | 0x14 => viewMon s o
  | 0x15 => viewFrc s o
  | 0x16 => viewOlc s o
  | _ => none

/-- What a register reads: 0 at an unassigned offset and at a write-only register (R8, R9), else its view, or the word it
holds. The value of a read-locking register is the one it answered last; reading it is a command of its own. -/
def readReg (s : State) (a : Nat) : Word :=
  match regRow a with
  | none => 0
  | some r => if r.access = .wo then 0 else (viewOf s (blockOf a) (offsetOf a)).getD (rd s a)

end Sys2Proof.Machine
end

