-- ==== Sys2Proof/Machine/Registers.lean ====
section
/-! DEFINITION. Register writes that have no command of their own (R7–R12), the read-locking registers (R9) and the chassis
management bus (R532). -/

namespace Sys2Proof.Machine

open Sys2Proof

/-! ### Writes (R7–R12) -/

/-- The address names a register that a command of its own writes: a write of one as a plain register has no effect. -/
def ownCommand (a : Nat) : Bool :=
  decide (a = Reg.TIM_CAP_CFG) || (upto 2).any (fun (k : Nat) => decide (a = Reg.CAN_RXO_SEL k)) || (upto 8).any fun (e : Nat) => decide (a = Reg.LE_DBG_CTRL e)

/-- The value selects no endpoint, so the select keeps its value (R62). -/
def selectIgnored (a : Nat) (v : Word) : Bool := decide (a = Reg.SIG_DIR_SEL) && decide (0x4FFFF < field v 18 0)

/-- The Level X bits of a register take the value written, which is recorded (R12, R470). -/
def writeSettings (s : State) (a : Nat) (m : Word) (c : Cmd) : State :=
  if m = 0 then s
  else
    let old := rd s a
    let new := (old &&& ~~~ m) ||| (c.value &&& m)
    settingWritten (wr s a new) a old new c.session

/-- The write-1-to-clear bits written as 1 become 0. -/
def writeClears (s : State) (a : Nat) (m : Word) (c : Cmd) : State :=
  if m = 0 then s else wr s a (rd s a &&& ~~~ (c.value &&& m))

/-- SAF_SMM_CODE (R298, R303): the session to which the presence code was shown gives it back. -/
def giveCode (s : State) (c : Cmd) : State :=
  if s.saf.smm.stage = 1 ∧ s.saf.smm.session = c.session then setSmm s fun x => { x with given := some (field c.value 19 0) } else s

/-- A write of one register that the access checks passed. Reserved and read-only bits keep their value (R8, R9). -/
def writeRow (s : State) (a : Nat) (r : RegRow) (c : Cmd) : State :=
  if a = Reg.SAF_SMM_CODE then giveCode s c
  else if r.access = .rwb ∨ ownCommand a ∨ selectIgnored a c.value then s
  else writeClears (writeSettings s a r.rw c) a r.w1c c

/-- A register write of len bytes: a narrower or unaligned one and one to an absent block answer an error (R7, R8), an
unassigned offset takes nothing. -/
def execRegisterWrite (reg len : Nat) (c : Cmd) (s : State) : Out :=
  if len ≠ 4 ∨ reg % 4 ≠ 0 ∨ inControlSpace reg = false then done (answer s .error)
  else done (written s reg c fun t =>
    if 0x17 ≤ blockOf reg then answer t .error
    else match regRow reg with
      | none => t
      | some r => writeRow t reg r c)

/-! ### Read-locking registers (R9)

A read answers bits 31:0 and latches the rest in the registers that hold it. -/

/-- Answer the low half of g and latch its high half. -/
def readPair (s : State) (lo hi g : Nat) : State := answer (wr (wr s lo (w32 g)) hi (w32 (g / 2 ^ 32))) (.value (g % 2 ^ 32))

/-- Answer the word v of a register and latch its companion. -/
def readWith (s : State) (a aux : Nat) (v w : Word) : State := answer (wr (wr s a v) aux w) (.value v.toNat)

/-- FRM_SEC_LO (R61): the second of the current frame; latches FRM_SEC_HI and FRM_FIDX. -/
def execFrmSecLo (s : State) : Out :=
  let idx := tickAt s s.grid.now % ticksPerSec s % 2 ^ 14 * 2 ^ 16 + s.grid.frame % 2400
  let n := s.grid.frame / 2400 % 2 ^ 48
  done (readPair (wr s Reg.FRM_FIDX (w32 idx)) Reg.FRM_SEC_LO Reg.FRM_SEC_HI n)

/-- FRM_FNUM_LO (R61): the absolute frame number. -/
def execFrmFnumLo (s : State) : Out := done (readPair s Reg.FRM_FNUM_LO Reg.FRM_FNUM_HI s.grid.frame)

/-- SIG_DIR_LO (R62): the directory entry of the selected endpoint. -/
def execSigDirLo (s : State) : Out := done (readPair s Reg.SIG_DIR_LO Reg.SIG_DIR_HI (dirEntry s (selEp s)).toNat)

/-- SIG_VAL (R62): the frozen value of the selected endpoint; latches SIG_VAL_AUX. -/
def execSigVal (s : State) : Out :=
  done (readWith s Reg.SIG_VAL Reg.SIG_VAL_AUX (frozenWord s (selEp s)) (frozenAux s (selEp s)))

/-- The selected channel of the selected stream in its last released slot (R160). -/
def selChannel (s : State) : Word × Qual :=
  match (svStream s (field (rd s Reg.SVI_STR_SEL) 7 0)).bind (·.shown) with
  | some z => z.chans.getD (field (rd s Reg.SVI_CH_SEL) 2 0) (0, 0)
  | none => (0, 0)

/-- SVI_CH_VAL (R160): latches SVI_CH_QUAL. -/
def execSviChVal (s : State) : Out :=
  done (readWith s Reg.SVI_CH_VAL Reg.SVI_CH_QUAL (selChannel s).1 ((selChannel s).2.zeroExtend 32))

/-- PE_OUT_VAL of engine e (R200): latches PE_OUT_AUX. There are six engines. -/
def execPeOutVal (e : Nat) (s : State) : Out :=
  if 6 ≤ e then done s
  else done (readWith s (Reg.PE_OUT_VAL e) (Reg.PE_OUT_AUX e) (peSelOut s e).1 ((peSelOut s e).2.zeroExtend 32))

/-- PAIR_ROLE_SINCE_LO (R249): the frame of the last role change. -/
def execPairRoleSinceLo (s : State) : Out := done (readPair s Reg.PAIR_ROLE_SINCE_LO Reg.PAIR_ROLE_SINCE_HI s.pair.since)

/-- PAIR_HM_LO (R277): the hallmarks of the last compared frame. -/
def execPairHmLo (s : State) : Out :=
  let p := s.pair.hmPartnerLatched.toNat
  done (readPair (wr (wr s Reg.PAIR_HM_PLO (w32 p)) Reg.PAIR_HM_PHI (w32 (p / 2 ^ 32))) Reg.PAIR_HM_LO Reg.PAIR_HM_HI s.pair.hmOwnLatched.toNat)

/-- TIM_NOW_SLO (R397): sequencer time. -/
def execTimNowSlo (s : State) : Out :=
  done (readPair (wr s Reg.TIM_NOW_NS (w32 (s.grid.now % 1000000000))) Reg.TIM_NOW_SLO Reg.TIM_NOW_SHI (s.grid.now / 1000000000 % 2 ^ 48))

/-- TIM_MONO_LO (R397): TB-L. -/
def execTimMonoLo (s : State) : Out := done (readPair s Reg.TIM_MONO_LO Reg.TIM_MONO_HI s.grid.mono)

/-- TIM_PTP_GM_LO (R397): the grandmaster of the selected instance. -/
def execTimPtpGmLo (s : State) : Out :=
  done (readPair s Reg.TIM_PTP_GM_LO Reg.TIM_PTP_GM_HI (((ptpInst s (selPtp s)).parent.map (·.gm)).getD 0))

/-- The module serial, 0 until the end of HOLD (R535). -/
def moduleSerial (s : State) : Nat := if stage s = 0 then 0 else s.hlt.serial

/-- Whole seconds since t0 (R420, R535). -/
def uptime (s : State) : Nat := if s.upd.started then (s.grid.mono - s.upd.t0) / 1000000000 else 0

/-- Read DEV_SER_LO. -/
def readSerial (s : State) : State := readPair s Reg.DEV_SER_LO Reg.DEV_SER_HI (moduleSerial s)

/-- Read DEV_UPTIME_LO. -/
def readUptime (s : State) : State := readPair s Reg.DEV_UPTIME_LO Reg.DEV_UPTIME_HI (uptime s)

/-- DEV_SER_LO (R535). -/
def execDevSerLo (s : State) : Out := done (readSerial s)

/-- DEV_UPTIME_LO (R535). -/
def execDevUptimeLo (s : State) : Out := done (readUptime s)

/-! ### The chassis management bus (R532) -/

/-- The register that a pointer byte names. -/
def i2cReg (ptr : Nat) : Option Nat :=
  if ptr ≤ 0x17 then some (0x40000000 + 4 * ptr)
  else if 0x20 ≤ ptr ∧ ptr ≤ 0x2B then some (Reg.MON_TEMPn (ptr - 0x20))
  else if ptr = 0x30 then some Reg.MON_STAT
  else if ptr = 0x31 then some Reg.MON_DIE
  else none

/-- A pointer write and a read of 4 bytes (R532): a read of a read-locking register locks as any other read of it. -/
def execI2cRead (ptr : Nat) (s : State) : Out :=
  if ptr = 0x07 then done (readSerial s)
  else if ptr = 0x11 then done (readUptime s)
  else match i2cReg ptr with
    | some a => done (answer s (.value (readReg s a).toNat))
    | none => done (answer s (.value 0xFFFFFFFF))

end Sys2Proof.Machine
end

