-- ==== Sys2Proof/Machine/Dispatch.lean ====
section
/-! DEFINITION. The effect of every command, one arm for each row of the table. -/

namespace Sys2Proof.Machine

def exec (i : Instr) (s : State) : Host.Outcome State Fault Refusal :=
  match i with
  | .registerWrite reg len c => Sys2Proof.Machine.execRegisterWrite reg len c s
  | .frameFreeze t => Sys2Proof.Machine.execFrameFreeze t s
  | .frameCompute t => Sys2Proof.Machine.execFrameCompute t s
  | .acSlotStart core t => Sys2Proof.Machine.execAcSlotStart core t s
  | .classEnd eng stream t => Sys2Proof.Machine.execClassEnd eng stream t s
  | .budgetExhausted part t => Sys2Proof.Machine.execBudgetExhausted part t s
  | .frameSeal t => Sys2Proof.Machine.execFrameSeal t s
  | .frameCommit t => Sys2Proof.Machine.execFrameCommit t s
  | .backgroundSelfTest e r => Sys2Proof.Machine.execBackgroundSelfTest e r s
  | .fullSelfTest e r => Sys2Proof.Machine.execFullSelfTest e r s
  | .slewDone => Sys2Proof.Machine.execSlewDone s
  | .partResume c => Sys2Proof.Machine.execPartResume c s
  | .promptMinpulseEnd key t => Sys2Proof.Machine.execPromptMinpulseEnd key t s
  | .leLd st => Sys2Proof.Machine.execLeLd st s
  | .leLdn st => Sys2Proof.Machine.execLeLdn st s
  | .leLdl st => Sys2Proof.Machine.execLeLdl st s
  | .leAnd st => Sys2Proof.Machine.execLeAnd st s
  | .leAndn st => Sys2Proof.Machine.execLeAndn st s
  | .leOr st => Sys2Proof.Machine.execLeOr st s
  | .leOrn st => Sys2Proof.Machine.execLeOrn st s
  | .leXor st => Sys2Proof.Machine.execLeXor st s
  | .leXorn st => Sys2Proof.Machine.execLeXorn st s
  | .leBop st => Sys2Proof.Machine.execLeBop st s
  | .leBcl st => Sys2Proof.Machine.execLeBcl st s
  | .leSt st => Sys2Proof.Machine.execLeSt st s
  | .leStn st => Sys2Proof.Machine.execLeStn st s
  | .leSet st => Sys2Proof.Machine.execLeSet st s
  | .leRst st => Sys2Proof.Machine.execLeRst st s
  | .leRedg st => Sys2Proof.Machine.execLeRedg st s
  | .leFedg st => Sys2Proof.Machine.execLeFedg st s
  | .leTon st => Sys2Proof.Machine.execLeTon st s
  | .leTof st => Sys2Proof.Machine.execLeTof st s
  | .leTp st => Sys2Proof.Machine.execLeTp st s
  | .leCtu st => Sys2Proof.Machine.execLeCtu st s
  | .leCtd st => Sys2Proof.Machine.execLeCtd st s
  | .leCtl st => Sys2Proof.Machine.execLeCtl st s
  | .leTstd st => Sys2Proof.Machine.execLeTstd st s
  | .leStro st => Sys2Proof.Machine.execLeStro st s
  | .leFrcd st => Sys2Proof.Machine.execLeFrcd st s
  | .leSkip st => Sys2Proof.Machine.execLeSkip st s
  | .leEnd st => Sys2Proof.Machine.execLeEnd st s
  | .leIllegal st => Sys2Proof.Machine.execLeIllegal st s
  | .modeRequest e c => Sys2Proof.Machine.execModeRequest e c s
  | .leClrCnt e c => Sys2Proof.Machine.execLeClrCnt e c s
  | .debugOpen e c => Sys2Proof.Machine.execDebugOpen e c s
  | .debugHalt e c => Sys2Proof.Machine.execDebugHalt e c s
  | .debugStep st => Sys2Proof.Machine.execDebugStep st s
  | .debugResume e c t => Sys2Proof.Machine.execDebugResume e c t s
  | .debugWrite e c => Sys2Proof.Machine.execDebugWrite e c s
  | .frameNow core => Sys2Proof.Machine.execFrameNow core s
  | .taiFreeze core => Sys2Proof.Machine.execTaiFreeze core s
  | .monoNow core => Sys2Proof.Machine.execMonoNow core s
  | .sqRead core ep => Sys2Proof.Machine.execSqRead core ep s
  | .tgRead core t => Sys2Proof.Machine.execTgRead core t s
  | .tgReadStallEnd core t => Sys2Proof.Machine.execTgReadStallEnd core t s
  | .tgDrop core => Sys2Proof.Machine.execTgDrop core s
  | .recEvent core sev ps => Sys2Proof.Machine.execRecEvent core sev ps s
  | .hartReq core ch cmd data t => Sys2Proof.Machine.execHartReq core ch cmd data t s
  | .acStore core op raises addr t => Sys2Proof.Machine.execAcStore core op raises addr t s
  | .rollbackEnd core => Sys2Proof.Machine.execRollbackEnd core s
  | .servicePreempt core t => Sys2Proof.Machine.execServicePreempt core t s
  | .fbxClrCnt c => Sys2Proof.Machine.execFbxClrCnt c s
  | .warmRestart c => Sys2Proof.Machine.execWarmRestart c s
  | .coldRestart c => Sys2Proof.Machine.execColdRestart c s
  | .svMessage m t => Sys2Proof.Machine.execSvMessage m t s
  | .sampleTick env t => Sys2Proof.Machine.execSampleTick env t s
  | .streamLossTimeout k t => Sys2Proof.Machine.execStreamLossTimeout k t s
  | .streamErrorTimeout k t => Sys2Proof.Machine.execStreamErrorTimeout k t s
  | .sviClrCnt c => Sys2Proof.Machine.execSviClrCnt c s
  | .pePassOverrun e t => Sys2Proof.Machine.execPePassOverrun e t s
  | .pePostDeadline e t => Sys2Proof.Machine.execPePostDeadline e t s
  | .peClrCnt e c => Sys2Proof.Machine.execPeClrCnt e c s
  | .olcLoad session img map kib => Sys2Proof.Machine.execOlcLoad session img map kib s
  | .olcVerify ok crc => Sys2Proof.Machine.execOlcVerify ok crc s
  | .olcArm c => Sys2Proof.Machine.execOlcArm c s
  | .olcDisarm c => Sys2Proof.Machine.execOlcDisarm c s
  | .olcAbort c => Sys2Proof.Machine.execOlcAbort c s
  | .olcRevert c => Sys2Proof.Machine.execOlcRevert c s
  | .olcAccept c => Sys2Proof.Machine.execOlcAccept c s
  | .olcCommit t => Sys2Proof.Machine.execOlcCommit t s
  | .revertEffect t => Sys2Proof.Machine.execRevertEffect t s
  | .olcWindowExpiry t => Sys2Proof.Machine.execOlcWindowExpiry t s
  | .persistStepEnd t => Sys2Proof.Machine.execPersistStepEnd t s
  | .forceSet c => Sys2Proof.Machine.execForceSet c s
  | .forceRelease c => Sys2Proof.Machine.execForceRelease c s
  | .forceReleaseAll c => Sys2Proof.Machine.execForceReleaseAll c s
  | .forceEffect t => Sys2Proof.Machine.execForceEffect t s
  | .forceExpiry t => Sys2Proof.Machine.execForceExpiry t s
  | .grantLineChange l t => Sys2Proof.Machine.execGrantLineChange l t s
  | .killLineChange l t => Sys2Proof.Machine.execKillLineChange l t s
  | .killQualified t => Sys2Proof.Machine.execKillQualified t s
  | .claspFail cause t => Sys2Proof.Machine.execClaspFail cause t s
  | .claspFailClear t => Sys2Proof.Machine.execClaspFailClear t s
  | .takeover gap t => Sys2Proof.Machine.execTakeover gap t s
  | .warmTakeover gap t => Sys2Proof.Machine.execWarmTakeover gap t s
  | .pairSwitch c => Sys2Proof.Machine.execPairSwitch c s
  | .switchoverEval t => Sys2Proof.Machine.execSwitchoverEval t s
  | .pairRejoin c => Sys2Proof.Machine.execPairRejoin c s
  | .pairClrCnt c => Sys2Proof.Machine.execPairClrCnt c s
  | .joinDecision t => Sys2Proof.Machine.execJoinDecision t s
  | .joinWaitExpiry t => Sys2Proof.Machine.execJoinWaitExpiry t s
  | .learnTimeout t => Sys2Proof.Machine.execLearnTimeout t s
  | .joinRetry t => Sys2Proof.Machine.execJoinRetry t s
  | .reLearn t => Sys2Proof.Machine.execReLearn t s
  | .detachWaitEnd t => Sys2Proof.Machine.execDetachWaitEnd t s
  | .linkUpCount t => Sys2Proof.Machine.execLinkUpCount t s
  | .tokelLinkLost lane t => Sys2Proof.Machine.execTokelLinkLost lane t s
  | .partnerPresence present t => Sys2Proof.Machine.execPartnerPresence present t s
  | .linkFmark m t => Sys2Proof.Machine.execLinkFmark m t s
  | .linkDigest parts t => Sys2Proof.Machine.execLinkDigest parts t s
  | .linkBlkreq needs lag t => Sys2Proof.Machine.execLinkBlkreq needs lag t s
  | .linkRepair parts t => Sys2Proof.Machine.execLinkRepair parts t s
  | .linkHallmark hm t => Sys2Proof.Machine.execLinkHallmark hm t s
  | .linkCtrl m t => Sys2Proof.Machine.execLinkCtrl m t s
  | .linkSnap m t => Sys2Proof.Machine.execLinkSnap m t s
  | .linkBulk m t => Sys2Proof.Machine.execLinkBulk m t s
  | .linkDelta m t => Sys2Proof.Machine.execLinkDelta m t s
  | .linkDfinal m t => Sys2Proof.Machine.execLinkDfinal m t s
  | .linkFwpkg b first last t => Sys2Proof.Machine.execLinkFwpkg b first last t s
  | .learnPhaseEnd t => Sys2Proof.Machine.execLearnPhaseEnd t s
  | .gridDeviation t => Sys2Proof.Machine.execGridDeviation t s
  | .doRelease t => Sys2Proof.Machine.execDoRelease t s
  | .crossFadeStep t => Sys2Proof.Machine.execCrossFadeStep t s
  | .aoTakeoverDrive t => Sys2Proof.Machine.execAoTakeoverDrive t s
  | .burdenSwitch t => Sys2Proof.Machine.execBurdenSwitch t s
  | .updRoll c => Sys2Proof.Machine.execUpdRoll c s
  | .updateStep fell t => Sys2Proof.Machine.execUpdateStep fell t s
  | .moduleSafeState cause detail t => Sys2Proof.Machine.execModuleSafeState cause detail t s
  | .safWdResp c => Sys2Proof.Machine.execSafWdResp c s
  | .safWdExpiry t => Sys2Proof.Machine.execSafWdExpiry t s
  | .killPathTest ok t => Sys2Proof.Machine.execKillPathTest ok t s
  | .discrepancyTimeout idx t => Sys2Proof.Machine.execDiscrepancyTimeout idx t s
  | .singleCopyLoss k t => Sys2Proof.Machine.execSingleCopyLoss k t s
  | .stcWatchdogExpiry k t => Sys2Proof.Machine.execStcWatchdogExpiry k t s
  | .stcAck c => Sys2Proof.Machine.execStcAck c s
  | .safClrCnt c => Sys2Proof.Machine.execSafClrCnt c s
  | .smmRequest c => Sys2Proof.Machine.execSmmRequest c s
  | .smmEnter c => Sys2Proof.Machine.execSmmEnter c s
  | .smmExit c => Sys2Proof.Machine.execSmmExit c s
  | .smmCodeExpiry t => Sys2Proof.Machine.execSmmCodeExpiry t s
  | .smmStart t => Sys2Proof.Machine.execSmmStart t s
  | .smmExpiry t => Sys2Proof.Machine.execSmmExpiry t s
  | .chainData p idx t => Sys2Proof.Machine.execChainData p idx t s
  | .chainResponse p r t => Sys2Proof.Machine.execChainResponse p r t s
  | .chainMiss p t => Sys2Proof.Machine.execChainMiss p t s
  | .chainIdent p n t => Sys2Proof.Machine.execChainIdent p n t s
  | .chainDelay p n t => Sys2Proof.Machine.execChainDelay p n t s
  | .chainConfig p n t => Sys2Proof.Machine.execChainConfig p n t s
  | .chainAssign c t => Sys2Proof.Machine.execChainAssign c t s
  | .chainProbe p t => Sys2Proof.Machine.execChainProbe p t s
  | .strangerPoll p t => Sys2Proof.Machine.execStrangerPoll p t s
  | .epochTimeout p t => Sys2Proof.Machine.execEpochTimeout p t s
  | .chainUnblock c => Sys2Proof.Machine.execChainUnblock c s
  | .chnClrCnt c => Sys2Proof.Machine.execChnClrCnt c s
  | .nodeHoldExpiry p n t => Sys2Proof.Machine.execNodeHoldExpiry p n t s
  | .diChange n cur mv t => Sys2Proof.Machine.execDiChange n cur mv t s
  | .debounceExpiry n t => Sys2Proof.Machine.execDebounceExpiry n t s
  | .doReadback ch sense t => Sys2Proof.Machine.execDoReadback ch sense t s
  | .doOverload ch t => Sys2Proof.Machine.execDoOverload ch t s
  | .groupOvercurrent g t => Sys2Proof.Machine.execGroupOvercurrent g t s
  | .doRetry group n persists t => Sys2Proof.Machine.execDoRetry group n persists t s
  | .groupSupplyLow g low t => Sys2Proof.Machine.execGroupSupplyLow g low t s
  | .outputWatchdogExpiry t => Sys2Proof.Machine.execOutputWatchdogExpiry t s
  | .adcSample ch meas head conv t => Sys2Proof.Machine.execAdcSample ch meas head conv t s
  | .conditionRecord ch t => Sys2Proof.Machine.execConditionRecord ch t s
  | .hartResponse ch cmd bs ok t => Sys2Proof.Machine.execHartResponse ch cmd bs ok t s
  | .hartTimeout ch t => Sys2Proof.Machine.execHartTimeout ch t s
  | .lioClrCnt c => Sys2Proof.Machine.execLioClrCnt c s
  | .aioClrCnt c => Sys2Proof.Machine.execAioClrCnt c s
  | .canFrameReceived c f => Sys2Proof.Machine.execCanFrameReceived c f s
  | .canRxTimeout c n t => Sys2Proof.Machine.execCanRxTimeout c n t s
  | .canRxoW0 c t => Sys2Proof.Machine.execCanRxoW0 c t s
  | .canRxoW19 c t => Sys2Proof.Machine.execCanRxoW19 c t s
  | .canRxoSel c k => Sys2Proof.Machine.execCanRxoSel c k s
  | .canLockTimeout c t => Sys2Proof.Machine.execCanLockTimeout c t s
  | .canTxDone c n t => Sys2Proof.Machine.execCanTxDone c n t s
  | .canTxError c n lost t => Sys2Proof.Machine.execCanTxError c n lost t s
  | .canTxLifetime c n t => Sys2Proof.Machine.execCanTxLifetime c n t s
  | .canCancel c k => Sys2Proof.Machine.execCanCancel c k s
  | .busOffRecovery c t => Sys2Proof.Machine.execBusOffRecovery c t s
  | .canRecover k => Sys2Proof.Machine.execCanRecover k s
  | .canClrCnt k => Sys2Proof.Machine.execCanClrCnt k s
  | .ttTimeMark c mark t => Sys2Proof.Machine.execTtTimeMark c mark t s
  | .ptpSync idx ofs rel lan t => Sys2Proof.Machine.execPtpSync idx ofs rel lan t s
  | .ptpAnnounce idx a t => Sys2Proof.Machine.execPtpAnnounce idx a t s
  | .announceTimeout idx t => Sys2Proof.Machine.execAnnounceTimeout idx t s
  | .pdelayReq port t => Sys2Proof.Machine.execPdelayReq port t s
  | .secondMark m t => Sys2Proof.Machine.execSecondMark m t s
  | .prefRevert t => Sys2Proof.Machine.execPrefRevert t s
  | .holdoverSave t => Sys2Proof.Machine.execHoldoverSave t s
  | .leapApply t => Sys2Proof.Machine.execLeapApply t s
  | .irigFrame f t => Sys2Proof.Machine.execIrigFrame f t s
  | .ppsFall t => Sys2Proof.Machine.execPpsFall t s
  | .captureEvent src idx deb stamp => Sys2Proof.Machine.execCaptureEvent src idx deb stamp s
  | .timCapSlo => Sys2Proof.Machine.execTimCapSlo s
  | .timCapCfg c => Sys2Proof.Machine.execTimCapCfg c s
  | .timClrCnt c => Sys2Proof.Machine.execTimClrCnt c s
  | .launchFrame port t => Sys2Proof.Machine.execLaunchFrame port t s
  | .ethFrameRx f t => Sys2Proof.Machine.execEthFrameRx f t s
  | .supervisionFrame p t => Sys2Proof.Machine.execSupervisionFrame p t s
  | .gooseRx m t => Sys2Proof.Machine.execGooseRx m t s
  | .gooseTalExpiry k t => Sys2Proof.Machine.execGooseTalExpiry k t s
  | .gooseErrorTimeout k t => Sys2Proof.Machine.execGooseErrorTimeout k t s
  | .gooseRepeat p t => Sys2Proof.Machine.execGooseRepeat p t s
  | .arpRequest port ip t => Sys2Proof.Machine.execArpRequest port ip t s
  | .icmpEcho port ip data t => Sys2Proof.Machine.execIcmpEcho port ip data t s
  | .mmsAssociate a ip t => Sys2Proof.Machine.execMmsAssociate a ip t s
  | .mmsConclude a t => Sys2Proof.Machine.execMmsConclude a t s
  | .mmsAbort a t => Sys2Proof.Machine.execMmsAbort a t s
  | .getDirectory a name t => Sys2Proof.Machine.execGetDirectory a name t s
  | .getDataValues a name t => Sys2Proof.Machine.execGetDataValues a name t s
  | .setDataValues a block attr val t => Sys2Proof.Machine.execSetDataValues a block attr val t s
  | .mmsSelect o a t => Sys2Proof.Machine.execMmsSelect o a t s
  | .selectTimeout o t => Sys2Proof.Machine.execSelectTimeout o t s
  | .mmsOperate o a ctl test raw t => Sys2Proof.Machine.execMmsOperate o a ctl test raw t s
  | .operateTimeout o t => Sys2Proof.Machine.execOperateTimeout o t s
  | .getFile a n dat last t => Sys2Proof.Machine.execGetFile a n dat last t s
  | .fileDirectory a t => Sys2Proof.Machine.execFileDirectory a t s
  | .deleteFile a n session t => Sys2Proof.Machine.execDeleteFile a n session t s
  | .ethClrCnt c => Sys2Proof.Machine.execEthClrCnt c s
  | .gseClrCnt c => Sys2Proof.Machine.execGseClrCnt c s
  | .sessionOpen r t => Sys2Proof.Machine.execSessionOpen r t s
  | .sessionClose id t => Sys2Proof.Machine.execSessionClose id t s
  | .sessionIdleTimeout id t => Sys2Proof.Machine.execSessionIdleTimeout id t s
  | .moduleStart t => Sys2Proof.Machine.execModuleStart t s
  | .holdEnd t => Sys2Proof.Machine.execHoldEnd t s
  | .strapRetry t => Sys2Proof.Machine.execStrapRetry t s
  | .guardReady t => Sys2Proof.Machine.execGuardReady t s
  | .loadComplete failed copyOk t => Sys2Proof.Machine.execLoadComplete failed copyOk t s
  | .configureComplete fwd t => Sys2Proof.Machine.execConfigureComplete fwd t s
  | .slotmemRepair t => Sys2Proof.Machine.execSlotmemRepair t s
  | .updChoose c => Sys2Proof.Machine.execUpdChoose c s
  | .fwBlock session b first last => Sys2Proof.Machine.execFwBlock session b first last s
  | .updActivate c => Sys2Proof.Machine.execUpdActivate c s
  | .updDiscard c => Sys2Proof.Machine.execUpdDiscard c s
  | .fwConfirm t => Sys2Proof.Machine.execFwConfirm t s
  | .confirmWindowExpiry t => Sys2Proof.Machine.execConfirmWindowExpiry t s
  | .tftpWriteRequest name mode => Sys2Proof.Machine.execTftpWriteRequest name mode s
  | .tftpData block b => Sys2Proof.Machine.execTftpData block b s
  | .trustToken session b => Sys2Proof.Machine.execTrustToken session b s
  | .attestation session nonce => Sys2Proof.Machine.execAttestation session nonce s
  | .accRegionWrite reg c => Sys2Proof.Machine.execAccRegionWrite reg c s
  | .accBarrier c inflight => Sys2Proof.Machine.execAccBarrier c inflight s
  | .barrierDrainEnd inflight => Sys2Proof.Machine.execBarrierDrainEnd inflight s
  | .accClrCnt c => Sys2Proof.Machine.execAccClrCnt c s
  | .flushPeriod => Sys2Proof.Machine.execFlushPeriod s
  | .alarmFlush => Sys2Proof.Machine.execAlarmFlush s
  | .recFlush c => Sys2Proof.Machine.execRecFlush c s
  | .flushDone => Sys2Proof.Machine.execFlushDone s
  | .recorderClear session req => Sys2Proof.Machine.execRecorderClear session req s
  | .recClrNonce session => Sys2Proof.Machine.execRecClrNonce session s
  | .recorderExport session a b => Sys2Proof.Machine.execRecorderExport session a b s
  | .recRdW0 => Sys2Proof.Machine.execRecRdW0 s
  | .dpyReq c buf => Sys2Proof.Machine.execDpyReq c buf s
  | .phaseFrame temp t => Sys2Proof.Machine.execPhaseFrame temp t s
  | .dpyRedraw c => Sys2Proof.Machine.execDpyRedraw c s
  | .dpyClrCnt c => Sys2Proof.Machine.execDpyClrCnt c s
  | .leverUnlatch t => Sys2Proof.Machine.execLeverUnlatch t s
  | .uncontrolledRemoval t => Sys2Proof.Machine.execUncontrolledRemoval t s
  | .feedChange n ok t => Sys2Proof.Machine.execFeedChange n ok t s
  | .powerFailWarning t => Sys2Proof.Machine.execPowerFailWarning t s
  | .holdUpEnd t => Sys2Proof.Machine.execHoldUpEnd t s
  | .tempSample vs t => Sys2Proof.Machine.execTempSample vs t s
  | .critCooldownEnd t => Sys2Proof.Machine.execCritCooldownEnd t s
  | .thermalTrip t => Sys2Proof.Machine.execThermalTrip t s
  | .voltageSample mvs t => Sys2Proof.Machine.execVoltageSample mvs t s
  | .processMonitor norm t => Sys2Proof.Machine.execProcessMonitor norm t s
  | .trendDay t => Sys2Proof.Machine.execTrendDay t s
  | .i2cRead ptr => Sys2Proof.Machine.execI2cRead ptr s
  | .devClrCnt c => Sys2Proof.Machine.execDevClrCnt c s
  | .monClrPeak c => Sys2Proof.Machine.execMonClrPeak c s
  | .frmSecLo => Sys2Proof.Machine.execFrmSecLo s
  | .frmFnumLo => Sys2Proof.Machine.execFrmFnumLo s
  | .sigDirLo => Sys2Proof.Machine.execSigDirLo s
  | .sigVal => Sys2Proof.Machine.execSigVal s
  | .fbxRetGenLo => Sys2Proof.Machine.execFbxRetGenLo s
  | .sviChVal => Sys2Proof.Machine.execSviChVal s
  | .peOutVal e => Sys2Proof.Machine.execPeOutVal e s
  | .pairRoleSinceLo => Sys2Proof.Machine.execPairRoleSinceLo s
  | .pairHmLo => Sys2Proof.Machine.execPairHmLo s
  | .chnNodeSerlo => Sys2Proof.Machine.execChnNodeSerlo s
  | .chnStrSerlo => Sys2Proof.Machine.execChnStrSerlo s
  | .timNowSlo => Sys2Proof.Machine.execTimNowSlo s
  | .timMonoLo => Sys2Proof.Machine.execTimMonoLo s
  | .timPtpGmLo => Sys2Proof.Machine.execTimPtpGmLo s
  | .updCfgGenLo => Sys2Proof.Machine.execUpdCfgGenLo s
  | .updDieLo => Sys2Proof.Machine.execUpdDieLo s
  | .accViolAddrLo => Sys2Proof.Machine.execAccViolAddrLo s
  | .devSerLo => Sys2Proof.Machine.execDevSerLo s
  | .devUptimeLo => Sys2Proof.Machine.execDevUptimeLo s
  | .safeStateRestart t => Sys2Proof.Machine.execSafeStateRestart t s
  | .retainedWriteDone copyB => Sys2Proof.Machine.execRetainedWriteDone copyB s
  | .slotmemWriteDone t => Sys2Proof.Machine.execSlotmemWriteDone t s
  | .strapsChanged side sideN cid t => Sys2Proof.Machine.execStrapsChanged side sideN cid t s
  | .ethLinkChange port up speed t => Sys2Proof.Machine.execEthLinkChange port up speed t s
  | .irigFrameMissing t => Sys2Proof.Machine.execIrigFrameMissing t s
  | .pdelayResp idx lan dly t => Sys2Proof.Machine.execPdelayResp idx lan dly t s
  | .chainRequestHeard p addr epoch cmd fnum len t => Sys2Proof.Machine.execChainRequestHeard p addr epoch cmd fnum len t s
  | .canBusError c dominant t => Sys2Proof.Machine.execCanBusError c dominant t s
  | .canArbitrationStart c n t => Sys2Proof.Machine.execCanArbitrationStart c n t s
  | .leverLatch t => Sys2Proof.Machine.execLeverLatch t s

end Sys2Proof.Machine
end

