-- ==== Sys2Proof/WellFormed.lean ====
section
/-! DEFINITION. Which commands the hardware can receive: every number names a thing the module has. -/

namespace Sys2Proof

/-- The operands of a command lie in the ranges that the spec gives them. -/
def Instr.wf : Instr → Bool
  | .registerWrite reg len _ => decide (reg < 2 ^ 32) && decide (len = 1 ∨ len = 2 ∨ len = 4)
  | .acSlotStart core _ => decide (core < 4)
  | .classEnd eng stream _ => decide (eng < 12) && decide (stream < 2)
  | .budgetExhausted part _ => decide (part < 128)
  | .backgroundSelfTest e _ => decide (e < 8)
  | .fullSelfTest e _ => decide (e < 8)
  | .leLd st => decide (st.eng < 8) && decide (st.stream < 2)
  | .leLdn st => decide (st.eng < 8) && decide (st.stream < 2)
  | .leLdl st => decide (st.eng < 8) && decide (st.stream < 2)
  | .leAnd st => decide (st.eng < 8) && decide (st.stream < 2)
  | .leAndn st => decide (st.eng < 8) && decide (st.stream < 2)
  | .leOr st => decide (st.eng < 8) && decide (st.stream < 2)
  | .leOrn st => decide (st.eng < 8) && decide (st.stream < 2)
  | .leXor st => decide (st.eng < 8) && decide (st.stream < 2)
  | .leXorn st => decide (st.eng < 8) && decide (st.stream < 2)
  | .leBop st => decide (st.eng < 8) && decide (st.stream < 2)
  | .leBcl st => decide (st.eng < 8) && decide (st.stream < 2)
  | .leSt st => decide (st.eng < 8) && decide (st.stream < 2)
  | .leStn st => decide (st.eng < 8) && decide (st.stream < 2)
  | .leSet st => decide (st.eng < 8) && decide (st.stream < 2)
  | .leRst st => decide (st.eng < 8) && decide (st.stream < 2)
  | .leRedg st => decide (st.eng < 8) && decide (st.stream < 2)
  | .leFedg st => decide (st.eng < 8) && decide (st.stream < 2)
  | .leTon st => decide (st.eng < 8) && decide (st.stream < 2)
  | .leTof st => decide (st.eng < 8) && decide (st.stream < 2)
  | .leTp st => decide (st.eng < 8) && decide (st.stream < 2)
  | .leCtu st => decide (st.eng < 8) && decide (st.stream < 2)
  | .leCtd st => decide (st.eng < 8) && decide (st.stream < 2)
  | .leCtl st => decide (st.eng < 8) && decide (st.stream < 2)
  | .leTstd st => decide (st.eng < 8) && decide (st.stream < 2)
  | .leStro st => decide (st.eng < 8) && decide (st.stream < 2)
  | .leFrcd st => decide (st.eng < 8) && decide (st.stream < 2)
  | .leSkip st => decide (st.eng < 8) && decide (st.stream < 2)
  | .leEnd st => decide (st.eng < 8) && decide (st.stream < 2)
  | .leIllegal st => decide (st.eng < 8) && decide (st.stream < 2)
  | .modeRequest e _ => decide (e < 8)
  | .leClrCnt e _ => decide (e < 8)
  | .debugOpen e _ => decide (e < 8)
  | .debugHalt e _ => decide (e < 8)
  | .debugStep st => decide (st.eng < 8) && decide (st.stream < 2)
  | .debugResume e _ _ => decide (e < 8)
  | .debugWrite e _ => decide (e < 8)
  | .frameNow core => decide (core < 4)
  | .taiFreeze core => decide (core < 4)
  | .monoNow core => decide (core < 4)
  | .sqRead core ep => decide (core < 4) && decide (ep < 0x50000)
  | .tgRead core _ => decide (core < 4)
  | .tgReadStallEnd core _ => decide (core < 4)
  | .tgDrop core => decide (core < 4)
  | .recEvent core sev _ => decide (core < 4) && decide (sev < 5)
  | .hartReq core ch cmd _ _ => decide (core < 4) && decide (ch < 8) && decide (cmd < 256)
  | .acStore core _ _ _ _ => decide (core < 4)
  | .rollbackEnd core => decide (core < 4)
  | .servicePreempt core _ => decide (core < 4)
  | .streamLossTimeout k _ => decide (k < 256)
  | .streamErrorTimeout k _ => decide (k < 256)
  | .pePassOverrun e _ => decide (e < 6)
  | .pePostDeadline e _ => decide (e < 6)
  | .peClrCnt e _ => decide (e < 6)
  | .tokelLinkLost lane _ => decide (lane < 4)
  | .discrepancyTimeout i _ => decide (i < 512)
  | .stcWatchdogExpiry k _ => decide (k < 1024)
  | .chainData p _ _ => decide (p < 4)
  | .chainResponse p _ _ => decide (p < 4)
  | .chainMiss p _ => decide (p < 4)
  | .chainIdent p n _ => decide (p < 4) && decide (n < 64)
  | .chainDelay p n _ => decide (p < 4) && decide (n < 64)
  | .chainConfig p n _ => decide (p < 4) && decide (n < 64)
  | .chainProbe p _ => decide (p < 4)
  | .strangerPoll p _ => decide (p < 4)
  | .epochTimeout p _ => decide (p < 4)
  | .nodeHoldExpiry p n _ => decide (p < 4) && decide (n < 64)
  | .diChange n _ _ _ => decide (n < 32)
  | .debounceExpiry n _ => decide (n < 32)
  | .doReadback ch _ _ => decide (ch < 16)
  | .doOverload ch _ => decide (ch < 16)
  | .groupOvercurrent g _ => decide (g < 2)
  | .doRetry group n _ _ => decide (n < if group then 2 else 16)
  | .groupSupplyLow g _ _ => decide (g < 2)
  | .adcSample ch _ _ _ _ => decide (ch < 8)
  | .conditionRecord ch _ => decide (ch < 8)
  | .hartResponse ch cmd _ _ _ => decide (ch < 8) && decide (cmd < 256)
  | .hartTimeout ch _ => decide (ch < 8)
  | .canFrameReceived c _ => decide (c < 2)
  | .canRxTimeout c _ _ => decide (c < 2)
  | .canRxoW0 c _ => decide (c < 2)
  | .canRxoW19 c _ => decide (c < 2)
  | .canRxoSel c _ => decide (c < 2)
  | .canLockTimeout c _ => decide (c < 2)
  | .canTxDone c _ _ => decide (c < 2)
  | .canTxError c _ _ _ => decide (c < 2)
  | .canTxLifetime c _ _ => decide (c < 2)
  | .canCancel c _ => decide (c < 2)
  | .busOffRecovery c _ => decide (c < 2)
  | .ttTimeMark c _ _ => decide (c < 2)
  | .ptpSync i _ _ _ _ => decide (i < 2)
  | .ptpAnnounce i _ _ => decide (i < 2)
  | .announceTimeout i _ => decide (i < 2)
  | .pdelayReq port _ => decide (port < 4)
  | .launchFrame port _ => decide (port < 8)
  | .supervisionFrame p _ => decide (p < 2)
  | .gooseTalExpiry k _ => decide (k < 512)
  | .gooseErrorTimeout k _ => decide (k < 512)
  | .gooseRepeat p _ => decide (p < 128)
  | .arpRequest port _ _ => decide (port < 5)
  | .icmpEcho port _ _ _ => decide (port < 5)
  | .accRegionWrite reg _ => decide (reg < 2 ^ 32)
  | .feedChange n _ _ => decide (n = 1 ∨ n = 2)
  | .tempSample vs _ => decide (vs.length = 12)
  | .voltageSample mvs _ => decide (mvs.length = 24)
  | .processMonitor norm _ => decide (norm.length = 16)
  | .i2cRead ptr => decide (ptr < 256)
  | .peOutVal e => decide (e < 6)
  | .ethLinkChange port _ _ _ => decide (port < 5)
  | .pdelayResp i _ _ _ => decide (i < 2)
  | .chainRequestHeard p addr epoch cmd _ _ _ => decide (p < 4) && decide (addr < 64) && decide (epoch < 256) && decide (cmd < 256)
  | .canBusError c _ _ => decide (c < 2)
  | .canArbitrationStart c _ _ => decide (c < 2)
  | .frameFreeze _ | .frameCompute _ | .frameSeal _ | .frameCommit _ | .slewDone | .partResume _
  | .promptMinpulseEnd _ _ | .fbxClrCnt _ | .warmRestart _ | .coldRestart _ | .svMessage _ _ | .sampleTick _ _
  | .sviClrCnt _ | .olcLoad _ _ _ _ | .olcVerify _ _ | .olcArm _ | .olcDisarm _ | .olcAbort _ | .olcRevert _
  | .olcAccept _ | .olcCommit _ | .revertEffect _ | .olcWindowExpiry _ | .persistStepEnd _ | .forceSet _
  | .forceRelease _ | .forceReleaseAll _ | .forceEffect _ | .forceExpiry _ | .grantLineChange _ _
  | .killLineChange _ _ | .killQualified _ | .claspFail _ _ | .claspFailClear _ | .takeover _ _ | .warmTakeover _ _
  | .pairSwitch _ | .switchoverEval _ | .pairRejoin _ | .pairClrCnt _ | .joinDecision _ | .joinWaitExpiry _
  | .learnTimeout _ | .joinRetry _ | .reLearn _ | .detachWaitEnd _ | .linkUpCount _ | .partnerPresence _ _
  | .linkFmark _ _ | .linkDigest _ _ | .linkBlkreq _ _ _ | .linkRepair _ _ | .linkHallmark _ _ | .linkCtrl _ _
  | .linkSnap _ _ | .linkBulk _ _ | .linkDelta _ _ | .linkDfinal _ _ | .linkFwpkg _ _ _ _ | .learnPhaseEnd _
  | .gridDeviation _ | .doRelease _ | .crossFadeStep _ | .aoTakeoverDrive _ | .burdenSwitch _ | .updRoll _
  | .updateStep _ _ | .moduleSafeState _ _ _ | .safWdResp _ | .safWdExpiry _ | .killPathTest _ _
  | .singleCopyLoss _ _ | .stcAck _ | .safClrCnt _ | .smmRequest _ | .smmEnter _ | .smmExit _ | .smmCodeExpiry _
  | .smmStart _ | .smmExpiry _ | .chainAssign _ _ | .chainUnblock _ | .chnClrCnt _ | .outputWatchdogExpiry _
  | .lioClrCnt _ | .aioClrCnt _ | .canRecover _ | .canClrCnt _ | .secondMark _ _ | .prefRevert _ | .holdoverSave _
  | .leapApply _ | .irigFrame _ _ | .ppsFall _ | .captureEvent _ _ _ _ | .timCapSlo | .timCapCfg _ | .timClrCnt _
  | .ethFrameRx _ _ | .gooseRx _ _ | .mmsAssociate _ _ _ | .mmsConclude _ _ | .mmsAbort _ _ | .getDirectory _ _ _
  | .getDataValues _ _ _ | .setDataValues _ _ _ _ _ | .mmsSelect _ _ _ | .selectTimeout _ _ | .mmsOperate _ _ _ _ _ _
  | .operateTimeout _ _ | .getFile _ _ _ _ _ | .fileDirectory _ _ | .deleteFile _ _ _ _ | .ethClrCnt _ | .gseClrCnt _
  | .sessionOpen _ _ | .sessionClose _ _ | .sessionIdleTimeout _ _ | .moduleStart _ | .holdEnd _ | .strapRetry _
  | .guardReady _ | .loadComplete _ _ _ | .configureComplete _ _ | .slotmemRepair _ | .updChoose _ | .fwBlock _ _ _ _
  | .updActivate _ | .updDiscard _ | .fwConfirm _ | .confirmWindowExpiry _ | .tftpWriteRequest _ _ | .tftpData _ _
  | .trustToken _ _ | .attestation _ _ | .accBarrier _ _ | .barrierDrainEnd _ | .accClrCnt _ | .flushPeriod
  | .alarmFlush | .recFlush _ | .flushDone | .recorderClear _ _ | .recClrNonce _ | .recorderExport _ _ _ | .recRdW0
  | .dpyReq _ _ | .phaseFrame _ _ | .dpyRedraw _ | .dpyClrCnt _ | .leverUnlatch _ | .uncontrolledRemoval _
  | .powerFailWarning _ | .holdUpEnd _ | .critCooldownEnd _ | .thermalTrip _ | .trendDay _ | .devClrCnt _
  | .monClrPeak _ | .frmSecLo | .frmFnumLo | .sigDirLo | .sigVal | .fbxRetGenLo | .sviChVal | .pairRoleSinceLo
  | .pairHmLo | .chnNodeSerlo | .chnStrSerlo | .timNowSlo | .timMonoLo | .timPtpGmLo | .updCfgGenLo | .updDieLo
  | .accViolAddrLo | .devSerLo | .devUptimeLo | .safeStateRestart _ | .retainedWriteDone _ | .slotmemWriteDone _
  | .strapsChanged _ _ _ _ | .irigFrameMissing _ | .leverLatch _ => true

end Sys2Proof
end

