-- ==== Sys2Proof/Safety.lean ====
section
/-! DEFINITION. The terms in which statements are made: the parts of the state, what it means that a part is unchanged, and
the invariant of the module. -/

namespace Sys2Proof.Machine

open Sys2Proof

/-- Whether the frame sequencer runs, its phase, and the freezes since START (R18–R20). -/
def Grid.place (g : Grid) : Bool × Nat × Nat := (g.running, g.phase, g.freezes)

/-- The parts of the state. regs b is the registers of block b, of the 23 blocks (R6). Four are no parts of their own: monoRuns
says that TB-L has not run back (R123), phase names the phase of the frame, roles the bank roles, role the role of the module. -/
inductive Part where
  | pending | resp | sent | freeN | cfg | grid | sig | sched | le | fbx | acc | rcd | pair | saf | olc | frc | upd | lio | chn
  | can | tim | hlt | slot | svi | pe | stn | dpy | sess | monoRuns | phase | roles | role
  | regs (b : Nat)
deriving DecidableEq, Repr

/-- The part is the same in both states. -/
def Part.same : Part → State → State → Prop
  | .pending, s, t => t.pending = s.pending
  | .resp, s, t => t.resp = s.resp
  | .sent, s, t => t.sent = s.sent
  | .freeN, s, t => t.freeN = s.freeN
  | .cfg, s, t => t.cfg = s.cfg
  | .grid, s, t => t.grid = s.grid
  | .sig, s, t => t.sig = s.sig
  | .sched, s, t => t.sched = s.sched
  | .le, s, t => t.le = s.le
  | .fbx, s, t => t.fbx = s.fbx
  | .acc, s, t => t.acc = s.acc
  | .rcd, s, t => t.rcd = s.rcd
  | .pair, s, t => t.pair = s.pair
  | .saf, s, t => t.saf = s.saf
  | .olc, s, t => t.olc = s.olc
  | .frc, s, t => t.frc = s.frc
  | .upd, s, t => t.upd = s.upd
  | .lio, s, t => t.lio = s.lio
  | .chn, s, t => t.chn = s.chn
  | .can, s, t => t.can = s.can
  | .tim, s, t => t.tim = s.tim
  | .hlt, s, t => t.hlt = s.hlt
  | .slot, s, t => t.slot = s.slot
  | .svi, s, t => t.svi = s.svi
  | .pe, s, t => t.pe = s.pe
  | .stn, s, t => t.stn = s.stn
  | .dpy, s, t => t.dpy = s.dpy
  | .sess, s, t => t.sess = s.sess
  | .monoRuns, s, t => s.grid.mono ≤ t.grid.mono
  | .phase, s, t => t.grid.place = s.grid.place
  | .roles, s, t => t.sig.roles = s.sig.roles
  | .role, s, t => t.pair.role = s.pair.role
  | .regs b, s, t => b ≤ 22 → ∀ a, blockOf a = b → rd t a = rd s a

/-- The four banks hold the four roles, each one (R55, R541). -/
def BankRoles.ok (r : BankRoles) : Bool :=
  [0, 1, 2, 3].all fun k => [r.coll, r.work, r.out, r.dist].contains k

/-- The info records (severity 0 and 1) of a buffer (R475). -/
def infoCount (b : List Rec) : Nat := (b.filter fun r => decide (r.sev ≤ 1)).length

/-- What holds at reset and after every command: the register file is in its canonical form, each bank has a role of its own
(R541), the frame is in one of its four phases (R18), and info records take at most 12,288
entries of the record buffer, so that alarms keep their reserve (R475). -/
structure Inv (s : State) : Prop where
  regs : Tbl.wf regReset s.regs = true
  roles : s.sig.roles.ok = true
  phase : s.grid.phase ≤ 3
  buf : infoCount s.rcd.buf ≤ 12288

/-! ### What each command may change -/

/-- The registers of block DEV. -/
abbrev Part.rDEV : Part := .regs 0
/-- The registers of block FRM. -/
abbrev Part.rFRM : Part := .regs 1
/-- The registers of block SIG. -/
abbrev Part.rSIG : Part := .regs 2
/-- The registers of block LE. -/
abbrev Part.rLE : Part := .regs 3
/-- The registers of block FBX. -/
abbrev Part.rFBX : Part := .regs 4
/-- The registers of block PE. -/
abbrev Part.rPE : Part := .regs 5
/-- The registers of block SVI. -/
abbrev Part.rSVI : Part := .regs 6
/-- The registers of block PAIR. -/
abbrev Part.rPAIR : Part := .regs 7
/-- The registers of block SAF. -/
abbrev Part.rSAF : Part := .regs 8
/-- The registers of block ETH. -/
abbrev Part.rETH : Part := .regs 9
/-- The registers of block GSE. -/
abbrev Part.rGSE : Part := .regs 10
/-- The registers of block TIM. -/
abbrev Part.rTIM : Part := .regs 11
/-- The registers of block CHN. -/
abbrev Part.rCHN : Part := .regs 12
/-- The registers of block CAN. -/
abbrev Part.rCAN : Part := .regs 13
/-- The registers of block LIO. -/
abbrev Part.rLIO : Part := .regs 14
/-- The registers of block AIO. -/
abbrev Part.rAIO : Part := .regs 15
/-- The registers of block DPY. -/
abbrev Part.rDPY : Part := .regs 16
/-- The registers of block REC. -/
abbrev Part.rREC : Part := .regs 17
/-- The registers of block ACC. -/
abbrev Part.rACC : Part := .regs 18
/-- The registers of block UPD. -/
abbrev Part.rUPD : Part := .regs 19
/-- The registers of block MON. -/
abbrev Part.rMON : Part := .regs 20
/-- The registers of block FRC. -/
abbrev Part.rFRC : Part := .regs 21
/-- The registers of block OLC. -/
abbrev Part.rOLC : Part := .regs 22

/-- What a record may change (R468–R475). -/
def recordParts : List Part := [.freeN, .rcd, .rREC]

/-- What the write of a register by a session or a core may change before its effect: the session's idle time (R415), and what a
refused access leaves (R460). -/
def accessParts : List Part := [.resp, .acc, .sess, .rACC] ++ recordParts

/-- The parts that a command may change. It leaves every other part of the state as it is, and none names pending: no command
changes the queue. -/
def touched : Instr → List Part
  | .registerWrite reg _ _ => accessParts ++ [.saf, .regs (blockOf reg)]
  | .frameFreeze .. =>
    recordParts ++ [.resp, .sent, .phase, .grid, .sig, .sched, .le, .fbx, .acc, .pair, .saf, .olc, .frc, .upd, .lio, .chn,
    .can, .tim, .slot, .svi, .pe, .stn, .dpy, .roles, .role, .rFRM, .rSIG, .rLE, .rFBX, .rPAIR, .rSAF, .rETH, .rTIM, .rCHN,
    .rCAN, .rLIO, .rUPD, .rFRC, .rOLC]
  | .frameCompute .. => recordParts ++ [.phase, .grid, .sched, .le, .fbx, .pair, .rPAIR]
  | .acSlotStart .. => recordParts ++ [.grid, .sched, .fbx, .rFBX]
  | .classEnd .. => [.grid, .sig, .sched, .le, .fbx]
  | .budgetExhausted .. => recordParts ++ [.grid, .sched, .le, .fbx, .rFRM, .rFBX]
  | .frameSeal .. => recordParts ++ [.phase, .grid, .sig, .sched, .le, .fbx, .pair, .can, .rFRM, .rLE, .rFBX]
  | .frameCommit .. =>
    recordParts ++ [.sent, .phase, .grid, .sig, .sched, .fbx, .pair, .saf, .can, .tim, .stn, .rFRM, .rFBX, .rGSE, .rTIM]
  | .backgroundSelfTest .. | .fullSelfTest .. =>
    recordParts ++ [.resp, .sent, .sched, .le, .pair, .saf, .lio, .rLE, .rPAIR, .rSAF]
  | .slewDone .. => recordParts ++ [.grid, .rFRM]
  | .partResume .. => accessParts ++ [.sched]
  | .promptMinpulseEnd .. => [.grid, .sched, .lio]
  | .leLd .. | .leLdn .. | .leLdl .. | .leAnd .. | .leAndn .. | .leOr .. | .leOrn .. | .leXor .. | .leXorn .. | .leBop ..
  | .leBcl .. | .leSt .. | .leStn .. | .leSet .. | .leRst .. | .leRedg .. | .leFedg .. | .leTon .. | .leTof .. | .leTp ..
  | .leCtu .. | .leCtd .. | .leCtl .. | .leTstd .. | .leStro .. | .leFrcd .. | .leSkip .. | .leEnd .. | .leIllegal ..
  | .debugStep .. => recordParts ++ [.resp, .sent, .grid, .sched, .le, .pair, .saf, .lio, .rSIG, .rLE, .rPAIR, .rSAF]
  | .modeRequest .. | .leClrCnt .. | .debugOpen .. => accessParts ++ [.le, .rLE]
  | .debugHalt .. | .debugWrite .. => accessParts ++ [.le]
  | .debugResume .. => accessParts ++ [.grid, .sched, .le, .rLE]
  | .frameNow .. | .taiFreeze .. | .monoNow .. => [.resp]
  | .sqRead .. => [.resp, .freeN]
  | .tgRead .. | .tgReadStallEnd .. => [.resp, .grid, .fbx]
  | .tgDrop .. | .rollbackEnd .. => [.fbx]
  | .recEvent .. => recordParts ++ [.fbx]
  | .hartReq .. => recordParts ++ [.resp, .sent, .grid, .fbx, .lio, .rFBX]
  | .acStore .. => recordParts ++ [.resp, .grid, .sched, .fbx, .acc, .rSIG, .rFBX, .rACC]
  | .servicePreempt .. => [.grid, .fbx]
  | .fbxClrCnt .. => accessParts ++ [.rFBX]
  | .warmRestart .. | .coldRestart .. => accessParts ++ [.pair, .upd, .lio, .dpy]
  | .svMessage .. | .streamLossTimeout .. | .streamErrorTimeout .. => recordParts ++ [.grid, .sig, .svi, .rSIG, .rSVI]
  | .sampleTick .. =>
    recordParts ++ [.resp, .sent, .grid, .sig, .sched, .pair, .upd, .lio, .tim, .svi, .pe, .stn, .rFRM, .rSIG, .rPE, .rSVI,
    .rPAIR, .rTIM]
  | .sviClrCnt .. => accessParts ++ [.svi, .rSVI]
  | .pePassOverrun .. | .pePostDeadline .. =>
    recordParts ++ [.resp, .sent, .grid, .sig, .sched, .pair, .upd, .lio, .pe, .rSIG, .rPE, .rPAIR]
  | .peClrCnt .. => accessParts ++ [.pe]
  | .olcLoad .. => recordParts ++ [.resp, .olc, .sess, .rOLC]
  | .olcVerify .. => recordParts ++ [.resp, .sent, .olc, .rOLC]
  | .olcArm .. | .olcDisarm .. | .olcAbort .. | .olcRevert .. | .olcAccept .. => accessParts ++ [.sent, .olc, .rOLC]
  | .olcCommit .. | .revertEffect .. =>
    recordParts ++ [.cfg, .grid, .sig, .sched, .le, .fbx, .saf, .olc, .frc, .lio, .chn, .can, .svi, .pe, .stn, .dpy, .rSIG,
    .rLE, .rPE, .rSVI, .rGSE, .rTIM, .rCHN, .rDPY, .rFRC, .rOLC]
  | .olcWindowExpiry .. => recordParts ++ [.grid, .olc, .rOLC]
  | .persistStepEnd .. => recordParts ++ [.sent, .grid, .fbx, .olc, .upd, .rFBX, .rOLC]
  | .forceSet .. | .forceRelease .. | .forceReleaseAll .. => accessParts ++ [.sent, .frc, .rFRC]
  | .forceEffect .. | .forceExpiry .. => recordParts ++ [.grid, .sig, .frc, .rFRC]
  | .grantLineChange .. | .killLineChange .. => recordParts ++ [.grid, .pair, .lio, .tim, .rPAIR, .rTIM]
  | .killQualified .. | .claspFail .. | .claspFailClear .. | .learnPhaseEnd .. | .gridDeviation .. =>
    recordParts ++ [.grid, .pair, .rPAIR]
  | .takeover .. =>
    recordParts ++ [.grid, .sig, .le, .pair, .olc, .upd, .lio, .chn, .can, .stn, .role, .rLE, .rPAIR, .rETH, .rCHN, .rLIO,
    .rUPD, .rOLC]
  | .warmTakeover .. =>
    recordParts ++ [.grid, .sig, .sched, .le, .fbx, .pair, .olc, .upd, .lio, .chn, .can, .stn, .role, .rDEV, .rFRM, .rSIG,
    .rLE, .rFBX, .rPE, .rSVI, .rPAIR, .rSAF, .rETH, .rGSE, .rTIM, .rCHN, .rCAN, .rLIO, .rAIO, .rDPY, .rACC, .rUPD, .rMON,
    .rFRC, .rOLC]
  | .pairSwitch .. => accessParts ++ [.sent, .pair, .rPAIR]
  | .switchoverEval .. =>
    recordParts ++ [.resp, .grid, .le, .fbx, .pair, .olc, .upd, .lio, .chn, .can, .slot, .stn, .role, .rLE, .rFBX, .rPAIR,
    .rETH, .rCHN, .rLIO, .rUPD, .rOLC]
  | .pairRejoin .. => accessParts ++ [.pair, .rPAIR, .rUPD]
  | .pairClrCnt .. => accessParts ++ [.rPAIR]
  | .joinDecision .. | .joinRetry .. => recordParts ++ [.grid, .pair, .rUPD]
  | .joinWaitExpiry .. | .partnerPresence .. => recordParts ++ [.grid, .pair]
  | .learnTimeout .. => recordParts ++ [.grid, .pair, .rPAIR, .rUPD]
  | .reLearn .. => recordParts ++ [.grid, .sig, .sched, .le, .fbx, .pair, .rUPD]
  | .detachWaitEnd .. | .linkUpCount .. | .linkHallmark .. => [.grid, .pair]
  | .tokelLinkLost .. => recordParts ++ [.grid, .pair, .olc, .rPAIR, .rOLC]
  | .linkFmark .. =>
    recordParts ++ [.grid, .sig, .sched, .le, .fbx, .pair, .saf, .olc, .frc, .upd, .lio, .chn, .can, .tim, .svi, .pe, .rPAIR,
    .rOLC]
  | .linkDigest .. | .linkBlkreq .. => [.sent, .grid, .pair]
  | .linkRepair .. => [.grid, .sig, .fbx, .pair]
  | .linkCtrl .. =>
    recordParts ++ [.resp, .sent, .grid, .fbx, .pair, .saf, .olc, .frc, .upd, .slot, .rFBX, .rPAIR, .rSAF, .rUPD, .rFRC,
    .rOLC]
  | .linkSnap .. => [.grid, .fbx, .pair, .saf, .frc, .rFBX, .rPAIR]
  | .linkBulk .. => [.grid, .sig, .sched, .le, .fbx, .pair, .saf, .olc, .upd, .rPAIR]
  | .linkDelta .. | .linkDfinal .. => [.grid, .sig, .sched, .le, .fbx, .pair, .saf, .olc, .rPAIR]
  | .linkFwpkg .. => recordParts ++ [.sent, .grid, .upd, .rUPD]
  | .doRelease .. => [.grid, .pair, .lio]
  | .crossFadeStep .. => recordParts ++ [.grid, .pair, .lio, .slot, .rAIO]
  | .aoTakeoverDrive .. | .burdenSwitch .. | .diChange .. => [.grid, .lio]
  | .updRoll .. | .updChoose .. | .updDiscard .. => accessParts ++ [.upd, .rUPD]
  | .updateStep .. => recordParts ++ [.resp, .sent, .grid, .pair, .upd, .rPAIR]
  | .moduleSafeState .. | .safWdExpiry .. | .killPathTest .. => recordParts ++ [.grid, .pair, .saf, .lio, .rSAF, .rLIO]
  | .safWdResp .. | .stcAck .. | .safClrCnt .. => accessParts ++ [.saf]
  | .discrepancyTimeout .. | .stcWatchdogExpiry .. => recordParts ++ [.grid, .sig, .saf, .rSAF]
  | .singleCopyLoss .. | .smmCodeExpiry .. => [.grid, .saf]
  | .smmRequest .. => accessParts ++ [.saf, .rSAF]
  | .smmEnter .. | .smmExit .. => accessParts ++ [.sent, .saf, .rSAF]
  | .smmStart .. => recordParts ++ [.grid, .saf, .rSAF]
  | .smmExpiry .. => recordParts ++ [.grid, .le, .saf, .olc, .frc, .rLE, .rSAF, .rFRC, .rOLC]
  | .chainData .. => [.sent, .grid, .chn, .rCHN]
  | .chainResponse .. => recordParts ++ [.grid, .sig, .saf, .chn, .rSIG, .rCHN]
  | .chainMiss .. => recordParts ++ [.grid, .sig, .chn, .rSIG, .rCHN]
  | .chainIdent .. | .chainDelay .. | .chainConfig .. | .chainProbe .. | .strangerPoll .. => [.sent, .grid, .chn]
  | .chainAssign .. => accessParts ++ [.sent, .grid, .chn]
  | .epochTimeout .. => recordParts ++ [.grid, .chn, .rCHN]
  | .chainUnblock .. | .chnClrCnt .. => accessParts ++ [.chn]
  | .nodeHoldExpiry .. | .chainRequestHeard .. => [.grid, .chn]
  | .debounceExpiry .. | .doReadback .. | .doOverload .. | .groupOvercurrent .. | .doRetry .. | .groupSupplyLow .. =>
    recordParts ++ [.grid, .lio, .rLIO]
  | .outputWatchdogExpiry .. => recordParts ++ [.grid, .lio, .rLIO, .rAIO]
  | .adcSample .. | .conditionRecord .. => recordParts ++ [.grid, .lio, .rAIO]
  | .hartResponse .. => recordParts ++ [.sent, .grid, .fbx, .lio, .rFBX]
  | .hartTimeout .. => recordParts ++ [.sent, .grid, .fbx, .lio, .rFBX, .rAIO]
  | .lioClrCnt .. => accessParts ++ [.rLIO]
  | .aioClrCnt .. => accessParts ++ [.lio]
  | .canFrameReceived .. => recordParts ++ [.grid, .sig, .fbx, .can, .rSIG, .rFBX, .rCAN]
  | .canRxTimeout .. | .canTxError .. | .canBusError .. => recordParts ++ [.grid, .sig, .can, .rSIG, .rCAN]
  | .canRxoW0 .. => [.resp, .grid, .can, .rCAN]
  | .canRxoW19 .. => recordParts ++ [.resp, .grid, .can, .rCAN]
  | .canRxoSel .. | .canCancel .. => accessParts ++ [.can, .rCAN]
  | .canLockTimeout .. | .ttTimeMark .. => recordParts ++ [.grid, .can, .rCAN]
  | .canTxDone .. => [.sent, .grid, .can]
  | .canTxLifetime .. | .canArbitrationStart .. => [.grid, .can]
  | .busOffRecovery .. => [.grid, .can, .rCAN]
  | .canRecover .. | .canClrCnt .. => accessParts ++ [.can]
  | .ptpSync .. | .ptpAnnounce .. | .announceTimeout .. | .secondMark .. | .prefRevert .. =>
    recordParts ++ [.grid, .sig, .sched, .le, .fbx, .pair, .saf, .olc, .frc, .upd, .lio, .chn, .can, .tim, .svi, .pe, .rFRM,
    .rTIM]
  | .pdelayReq .. | .supervisionFrame .. | .arpRequest .. | .icmpEcho .. => [.sent, .grid, .stn]
  | .holdoverSave .. | .ppsFall .. | .pdelayResp .. => [.grid, .tim]
  | .leapApply .. | .irigFrame .. | .irigFrameMissing .. => recordParts ++ [.grid, .tim, .rTIM]
  | .captureEvent .. => recordParts ++ [.grid, .tim]
  | .timCapSlo .. => [.resp, .freeN, .tim, .rTIM]
  | .timCapCfg .. => accessParts ++ [.tim]
  | .timClrCnt .. => accessParts ++ [.tim, .rTIM]
  | .launchFrame .. => [.sent, .grid, .tim, .stn, .rTIM]
  | .ethFrameRx .. => recordParts ++ [.sent, .grid, .stn, .rETH]
  | .gooseRx .. => recordParts ++ [.grid, .sig, .fbx, .saf, .stn, .rSIG, .rFBX, .rGSE]
  | .gooseTalExpiry .. => recordParts ++ [.grid, .sig, .stn, .rSIG, .rGSE]
  | .gooseErrorTimeout .. => recordParts ++ [.grid, .stn, .rGSE]
  | .gooseRepeat .. => recordParts ++ [.grid, .tim, .stn, .rTIM]
  | .mmsAssociate .. | .setDataValues .. | .mmsSelect .. => [.resp, .grid, .stn]
  | .mmsConclude .. => [.resp, .grid, .pe, .stn]
  | .mmsAbort .. => [.grid, .pe, .stn]
  | .getDirectory .. | .getDataValues .. | .fileDirectory .. => [.resp, .grid]
  | .selectTimeout .. => [.grid, .stn]
  | .mmsOperate .. => recordParts ++ [.resp, .grid, .sig, .fbx, .stn, .rSIG, .rFBX]
  | .operateTimeout .. => recordParts ++ [.sent, .grid, .sig, .stn, .rSIG]
  | .getFile .. | .deleteFile .. => [.resp, .grid, .pe]
  | .ethClrCnt .. | .gseClrCnt .. => accessParts ++ [.stn]
  | .sessionOpen .. => recordParts ++ [.resp, .grid, .stn, .sess, .rETH]
  | .sessionClose .. | .sessionIdleTimeout .. => recordParts ++ [.sent, .grid, .saf, .sess, .rETH]
  | .moduleStart .. | .holdUpEnd .. | .thermalTrip .. | .safeStateRestart .. =>
    accessParts ++ [.sent, .phase, .cfg, .grid, .sig, .sched, .le, .fbx, .pair, .saf, .olc, .frc, .upd, .lio, .chn, .can,
    .tim, .hlt, .slot, .svi, .pe, .stn, .dpy, .monoRuns, .roles, .role, .rDEV, .rFRM, .rSIG, .rLE, .rFBX, .rPE, .rSVI, .rPAIR,
    .rSAF, .rETH, .rGSE, .rTIM, .rCHN, .rCAN, .rLIO, .rAIO, .rDPY, .rUPD, .rMON, .rFRC, .rOLC]
  | .holdEnd .. | .strapRetry .. => recordParts ++ [.grid, .pair, .lio, .slot, .dpy, .rLIO, .rDPY, .rUPD]
  | .guardReady .. => recordParts ++ [.cfg, .grid, .pair, .upd, .svi, .pe, .rSVI, .rUPD]
  | .loadComplete .. => recordParts ++ [.grid, .acc, .pair, .upd, .dpy, .rDEV, .rDPY, .rUPD]
  | .configureComplete .. =>
    recordParts ++ [.cfg, .grid, .sig, .sched, .le, .fbx, .pair, .frc, .upd, .lio, .tim, .svi, .pe, .stn, .dpy, .rFBX, .rSVI,
    .rGSE, .rTIM, .rDPY, .rUPD, .rFRC]
  | .slotmemRepair .. => [.grid, .upd, .rUPD]
  | .fwBlock .. => recordParts ++ [.resp, .sent, .upd, .sess, .rUPD]
  | .updActivate .. => accessParts ++ [.sent, .pair, .upd, .lio, .rUPD]
  | .fwConfirm .. | .slotmemWriteDone .. => recordParts ++ [.grid, .upd, .rUPD]
  | .confirmWindowExpiry .. => recordParts ++ [.grid, .pair, .upd, .lio, .rUPD]
  | .tftpWriteRequest .. => [.upd]
  | .tftpData .. => recordParts ++ [.pair, .upd, .rUPD]
  | .trustToken .. => recordParts ++ [.resp, .upd, .sess, .rUPD]
  | .attestation .. | .recorderExport .. => [.resp, .sess]
  | .accRegionWrite .. => accessParts ++ [.pair, .saf, .lio, .rSAF, .rLIO]
  | .accBarrier .. | .accClrCnt .. | .recFlush .. | .devClrCnt .. => accessParts
  | .barrierDrainEnd .. => recordParts ++ [.acc, .rACC]
  | .flushPeriod .. | .alarmFlush .. => [.rcd]
  | .flushDone .. => recordParts ++ [.slot, .dpy]
  | .recorderClear .. | .recClrNonce .. => recordParts ++ [.resp, .sess]
  | .recRdW0 .. => [.resp, .rcd, .rREC]
  | .dpyReq .. => accessParts ++ [.dpy, .rDPY]
  | .phaseFrame .. => recordParts ++ [.grid, .dpy, .rDPY]
  | .dpyRedraw .. | .dpyClrCnt .. => accessParts ++ [.dpy]
  | .leverUnlatch .. => recordParts ++ [.resp, .sent, .grid, .pair, .lio, .slot, .rPAIR]
  | .uncontrolledRemoval .. => recordParts ++ [.grid, .fbx, .pair, .lio, .tim, .slot, .dpy, .rLIO]
  | .feedChange .. | .strapsChanged .. => recordParts ++ [.grid, .slot, .rDEV]
  | .powerFailWarning .. => recordParts ++ [.grid, .fbx, .tim, .slot, .dpy]
  | .tempSample .. => recordParts ++ [.resp, .sent, .grid, .pair, .lio, .hlt, .rPAIR, .rMON]
  | .critCooldownEnd .. => recordParts ++ [.grid, .lio, .hlt, .rLIO, .rUPD, .rMON]
  | .voltageSample .. => recordParts ++ [.grid, .lio, .hlt, .rMON]
  | .processMonitor .. => [.freeN, .grid, .hlt, .rMON]
  | .trendDay .. => recordParts ++ [.grid, .hlt, .rMON]
  | .i2cRead .. | .devSerLo .. | .devUptimeLo .. => [.resp, .rDEV]
  | .monClrPeak .. => accessParts ++ [.hlt, .rMON]
  | .frmSecLo .. | .frmFnumLo .. => [.resp, .rFRM]
  | .sigDirLo .. | .sigVal .. => [.resp, .rSIG]
  | .fbxRetGenLo .. => [.resp, .rFBX]
  | .sviChVal .. => [.resp, .rSVI]
  | .peOutVal .. => [.resp, .rPE]
  | .pairRoleSinceLo .. | .pairHmLo .. => [.resp, .rPAIR]
  | .chnNodeSerlo .. | .chnStrSerlo .. => [.resp, .rCHN]
  | .timNowSlo .. | .timMonoLo .. | .timPtpGmLo .. => [.resp, .rTIM]
  | .updCfgGenLo .. | .updDieLo .. => [.resp, .rUPD]
  | .accViolAddrLo .. => [.resp, .rACC]
  | .retainedWriteDone .. => [.fbx, .rFBX]
  | .ethLinkChange .. => recordParts ++ [.grid, .stn, .rETH]
  | .leverLatch .. => [.grid, .slot]

/-! ### Terms of the statements -/

/-- Only the registers of a list have changed. -/
def onlyRegs (l : List Nat) (s t : State) : Prop := ∀ a, a ∉ l → rd t a = rd s a

/-- Only the parts of a list have changed. -/
def onlyParts (l : List Part) (s t : State) : Prop := ∀ p, p ∉ l → p.same s t

/-- The command completes in a next state of which P holds. -/
def completes (i : Instr) (s : State) (P : State → Prop) : Prop := ∃ u, exec i s = .next u ∧ P u

/-- The write of register reg passes the access decision (R456–R460). -/
def passes (s : State) (reg : Nat) (c : Cmd) : Prop := firstRefused s 4 reg 4 c.master .write = none

/-- The write of command register reg passes the access decision, holds the KEY and sets the bit (R538). -/
def takes (s : State) (reg bit : Nat) (c : Cmd) : Prop :=
  passes s reg c ∧ field c.value 31 16 = 0x5A3C ∧ flag c.value bit = true

/-! ### Logic engines -/

/-- The stream of an issue. -/
def strm (s : State) (st : LeStep) : LeStream := (leOf s st.eng).stream (issueStream s st)

/-- The value of an operand: an immediate tetrad or the frozen signal (R71, R76). -/
def opd (s : State) : LeOpd → Tetrad
  | .imm v => v
  | .sig ep => frozenBin s ep

/-- A branch stack with its accumulators complemented (R95). -/
def notStack (l : List StackEnt) : List StackEnt := l.map fun e => { e with acc := ~~~ e.acc }

/-- The last word of program p of the engine. -/
def lastWord (s : State) (e p : Nat) : Nat := (progCfg s e p).entry + (progCfg s e p).len - 1

/-- The stream of an issue stands in program p in the compute phase, on an engine that is not failed, and no word it reads has a
memory error. -/
structure LeFetch (s : State) (st : LeStep) (p : Nat) : Prop where
  eng : st.eng < 8
  phase : s.grid.phase = 1
  alive : (leOf s st.eng).failed = false
  prog : (strm s st).progs.head? = some p
  noEcc : st.eccProg = 0 ∧ st.eccHist = 0

/-- Nothing halts the stream before its next instruction: the engine is not halted and no halting word stands there. -/
def noHalt (s : State) (st : LeStep) : Prop := (leOf s st.eng).halt = false ∧ haltCause s st.eng (issueStream s st) = 0

/-- The word at the address of the stream is instruction n, with opcode opc, of program p; in checked mode the shadow accumulator
and stack are the complements (R95); and the words that follow belong to the program. -/
structure LeDecoded (s : State) (st : LeStep) (p : Nat) (n : LeInsn) (opc : Nat) : Prop extends LeFetch s st p where
  decoded : leDecode (tget 0 (leOf s st.eng).pmem (strm s st).pc) (tget 0 (leOf s st.eng).pmem ((strm s st).pc + 1)) = some n
  opcode : leOpcode (tget 0 (leOf s st.eng).pmem (strm s st).pc) = opc
  shadow : (leOf s st.eng).split = false →
    (strm s st).accS = ~~~ (strm s st).acc ∧ (strm s st).stackS = notStack (strm s st).stack
  fits : n ≠ .fin → (strm s st).pc + insnWords n ≤ lastWord s st.eng p

/-- The stream may issue the instruction, without an upset. -/
structure LeReady (s : State) (st : LeStep) (p : Nat) (n : LeInsn) (opc : Nat) : Prop extends LeDecoded s st p n opc where
  runs : noHalt s st
  noUpset : st.upset = {}

/-- The stream has issued words and slots (R67, R72). -/
def LeStream.advance (x : LeStream) (words cost : Nat) : LeStream :=
  { x with pc := x.pc + words, slots := x.slots + cost, frameSlots := x.frameSlots + cost }

/-- An issue has left the stream as x, its shadow complementary in checked mode, every other stream and engine alone, and no
register changed but the engine's address and peaks. -/
structure LeEffect (s : State) (st : LeStep) (u : State) (x : LeStream) : Prop where
  acc : (strm u st).acc = x.acc
  stack : (strm u st).stack = x.stack
  pc : (strm u st).pc = x.pc
  stores : (strm u st).stores = x.stores
  hbuf : (strm u st).hbuf = x.hbuf
  cost : (strm u st).slots = x.slots ∧ (strm u st).frameSlots = x.frameSlots
  work : (strm u st).cls = x.cls ∧ (strm u st).progs = x.progs ∧ (strm u st).queue = x.queue
  shadow : (leOf s st.eng).split = false → (strm u st).accS = ~~~ x.acc ∧ (strm u st).stackS = notStack x.stack
  memory : (leOf u st.eng).pmem = (leOf s st.eng).pmem ∧ (leOf u st.eng).hist = (leOf s st.eng).hist
  others : ∀ e, e ≠ st.eng → leOf u e = leOf s e
  regs : onlyRegs [Reg.LE_PC st.eng, Reg.LE_PEAKS st.eng, Reg.LE_CMP_STAT st.eng] s u
  parts : onlyParts [.grid, .le, .freeN, .rLE] s u

/-- The instruction i completes with the effect f on its stream. -/
def LeDoes (s : State) (st : LeStep) (i : Instr) (f : LeStream → LeStream) : Prop :=
  completes i s fun u => LeEffect s st u (f (strm s st))

/-- The program may store to the binary endpoint (R53, R78). -/
def mayStore (s : State) (e p ep : Nat) : Prop := binStoreOk s ep (progCfg s e p).part = true

/-- The history cell lies in the window of the program's partition, and the write-back buffer has room (R81, R88). -/
def cellRoom (s : State) (st : LeStep) (p c : Nat) : Prop :=
  let win := (look (leCfg s st.eng).windows (progCfg s st.eng p).part).getD {}
  win.base ≤ c ∧ c < win.base + win.count ∧ (strm s st).hbuf.length < 8192

/-- The word of a history cell as the class sees it: its own write of this run, or the memory (R81). -/
def cellWord (s : State) (st : LeStep) (c : Nat) : Word :=
  match tget none (strm s st).hbuf c with
  | some w => w
  | none => tget 0 (leOf s st.eng).hist c

/-- The period in frames of the program's class (R85). -/
def progPeriod (s : State) (e p : Nat) : Nat := periodFrames (classCfg s (progCfg s e p).cls).period

/-- A cell instruction's effect: the accumulator takes the state with the flags of R83, and the cell its word if it changes. -/
def LeStream.cellDone (x : LeStream) (c : Nat) (r : Nat × Option Word) : LeStream :=
  { x.advance 2 2 with
    acc := statefulOut x.acc r.1
    hbuf := match r.2 with
      | some w => tset none x.hbuf c (some w)
      | none => x.hbuf }

/-- A program fault stops the class (R88): cause, program and address are reported, the counters move on, the class is stopped and
its partition's reaction is due at the commit. -/
def LeFaults (s : State) (st : LeStep) (i : Instr) (p cause : Nat) : Prop :=
  ∀ k, (strm s st).cls = some k → k ∉ (strm s st).queue → completes i s fun u =>
    rd u (Reg.LE_FAULT_LAST st.eng) = w32 (cause * 2 ^ 28 + p * 2 ^ 19 + (strm s st).pc) ∧
    rd u (Reg.LE_FAULT_CNT st.eng) = w32 (satAdd 0xFFFFFFFF (rd s (Reg.LE_FAULT_CNT st.eng)).toNat 1) ∧
    tget 0 (leOf u st.eng).progFaults p = satAdd 255 (tget 0 (leOf s st.eng).progFaults p) 1 ∧
    (classOf u k).st = .stopped ∧ (partOf u (classCfg s k).part).reactDue = true ∧
    flag (rd u (Reg.LE_EVT_STAT st.eng)) 0 = true ∧ (leOf u st.eng).hist = (leOf s st.eng).hist

/-! ### Registers -/

/-- A read of the low register of a pair answers the low half of g and latches both halves (R9). -/
def locks (i : Instr) (s : State) (lo hi g : Nat) : Prop := completes i s fun u =>
  u.resp = .value (g % 2 ^ 32) ∧ rd u lo = w32 g ∧ rd u hi = w32 (g / 2 ^ 32) ∧ onlyRegs [lo, hi] s u

/-- A read of a register answers the word v and latches the word w in its companion (R9). -/
def locksWord (i : Instr) (s : State) (a aux : Nat) (v w : Word) : Prop := completes i s fun u =>
  u.resp = .value v.toNat ∧ rd u a = v ∧ rd u aux = w ∧ onlyRegs [a, aux] s u

/-- A record with this code and with these first parameters was added to the record buffer (R468). -/
def recorded (s u : State) (code : Nat) (p : List Nat) : Prop :=
  ∃ x : Rec, u.rcd.buf = s.rcd.buf ++ [x] ∧ x.code = code ∧ ∀ i v : Nat, p[i]? = some v → x.p[i]? = some (w32 v)

/-- The command clears by a write of reg (R470): the effect P holds, the clear is recorded, and no register changes but those listed. -/
def clearsBy (i : Instr) (s : State) (reg : Nat) (c : Cmd) (also : List Nat) (P : State → Prop) : Prop :=
  completes i s fun u => P u ∧ onlyRegs (Reg.REC_EVT_STAT :: also) s u ∧
    (s.rcd.buf.length < 12288 → recorded s u (blockOf reg * 256 + 0x42) [offsetOf reg, c.session])

end Sys2Proof.Machine
end

