-- ==== Sys2Proof/Certificates/Slice0/Obligations.lean ====
section
/-! DEFINITION. The statements for the provers. -/

open Sys2Proof Sys2Proof.Machine

/-- STEP: the command at the front of the queue runs on the state with the queue's rest. On an empty queue the block idles (the model's choice, entry 2 of the assumption log). -/
def Obligations.StepRunsFront : Prop :=
  (∀ (c : Instr) (s : State),
  step { s with pending := c :: s.pending } = exec c s) ∧
  (∀ s : State, s.pending = [] → step s = .next s)

/-- The machine after reset: nothing waits, no frame runs, the role is OFFLINE, no session is open, no force is held, no change is
staged, the gates are not open, and every register holds its reset value. The invariant holds at reset. Model's choices in it: log entries 6, 7, 8 and 10. -/
def Obligations.ResetState : Prop :=
  (State.reset.pending = [] ∧ State.reset.grid.running = false ∧ State.reset.pair.role = .offline ∧ State.reset.sess = [] ∧
  State.reset.frc.table = [] ∧ State.reset.olc.stage = 0 ∧ State.reset.rcd.buf = [] ∧ ∀ a, rd State.reset a = regReset a) ∧
  (Inv State.reset)

/-- Every command completes in every state, and leaves every part of the state that its row does not name: registers by block, queues,
roles, phase. -/
def Obligations.FrameOfEveryCommand : Prop := ∀ (c : Instr) (s : State), completes c s (onlyParts (touched c) s)

/-- Every step keeps the invariant: canonical register file, one role for each bank, a legal phase, the alarm reserve (R475). -/
def Obligations.InvariantKept : Prop := ∀ s t : State, Inv s → step s = .next t → Inv t

/-- The register file is a table in canonical form: a write is read back and changes nothing else, keeps the form, and two files
in that form that read alike are equal. -/
def Obligations.RegisterFile : Prop := ∀ (s t : State) (a b : Nat) (v : Word),
  (Tbl.wf regReset s.regs = true → Tbl.wf regReset (wr s a v).regs = true) ∧
  rd (wr s a v) b = (if b = a then v else rd s b) ∧
  (Tbl.wf regReset s.regs = true → Tbl.wf regReset t.regs = true → (∀ x, rd s x = rd t x) → s.regs = t.regs)

/-! ### The grid, tetrads and quality -/

/-- The frame grid (R15): frame k of second n starts at floor(k × 1,250,000 / 3) ns after it, one frame of every three lasts 416,666 ns and the others
416,667 ns, and the 2,400 frames of a second last exactly 1,000,000,000 ns. -/
def Obligations.FrameGrid : Prop := ∀ n k : Nat, k < 2400 →
  frameStart (n * 2400 + k) = n * 1000000000 + k * 1250000 / 3 ∧
  frameStart (n * 2400 + k + 1) - frameStart (n * 2400 + k) = (if k % 3 = 0 then 416666 else 416667) ∧
  frameStart (n * 2400 + 2400) = frameStart (n * 2400) + 1000000000

/-- The operators' flags (R74): NOT changes only the state; a negated operator negates its operand first; each flag of a result follows the rule of its
operation and result state, whatever the grouping; an OFF result of a chain of ANDs carries a flag exactly when every OFF operand does. -/
def Obligations.OperatorFlags : Prop := ∀ (a b c : Tetrad) (f : Tetrad → Bool), f = tdoubt ∨ f = tover →
  f (tnot a) = f a ∧ tetOp 1 a b = tetOp 0 a (tnot b) ∧ tetOp 3 a b = tetOp 2 a (tnot b) ∧ tetOp 5 a b = tetOp 4 a (tnot b) ∧
  (tstate (tetOp 0 a b) = 1 → (f (tetOp 0 a b) = true ↔ (tstate a = 1 → f a = true) ∧ (tstate b = 1 → f b = true))) ∧
  (tstate (tetOp 0 a b) ≠ 1 → (f (tetOp 0 a b) = true ↔ f a = true ∨ f b = true)) ∧
  (tstate (tetOp 2 a b) = 2 → (f (tetOp 2 a b) = true ↔ (tstate a = 2 → f a = true) ∧ (tstate b = 2 → f b = true))) ∧
  (tstate (tetOp 2 a b) ≠ 2 → (f (tetOp 2 a b) = true ↔ f a = true ∨ f b = true)) ∧
  (f (tetOp 4 a b) = true ↔ f a = true ∨ f b = true) ∧
  (∀ op, op = 0 ∨ op = 2 ∨ op = 4 → f (tetOp op (tetOp op a b) c) = f (tetOp op a (tetOp op b c))) ∧
  (∀ l : List Tetrad, tstate (l.foldl (tetOp 0) a) = 1 →
    (f (l.foldl (tetOp 0) a) = true ↔ ∀ x, x = a ∨ x ∈ l → tstate x = 1 → f x = true))

/-- A quality word on a tetrad (R49): d follows VALID and INTERP, o follows SUBST, TEST and OPBLK; RESAMP and UNSYNC set neither flag. -/
def Obligations.QualityOnTetrad : Prop := ∀ (st : Nat) (q r : Qual),
  tstate (tetOfQual st q) = st % 4 ∧
  (tdoubt (tetOfQual st q) = true ↔ q.extractLsb' 0 2 ≠ 0 ∨ q.getLsbD 15 = true) ∧
  (tover (tetOfQual st q) = true ↔ q.getLsbD 10 = true ∨ q.getLsbD 11 = true ∨ q.getLsbD 12 = true) ∧
  (q &&& 0x9FFF#16 = r &&& 0x9FFF#16 → tetOfQual st q = tetOfQual st r)

/-! ### Logic engines -/

/-- Checked mode: the shadow pass on complements, re-complemented, agrees with the primary pass on every instruction and operand
(R95–R98), so that without an upset the comparison reports nothing. -/
def Obligations.ShadowAgrees : Prop := ∀ (n : LeInsn) (e : PassIn) (acc : Tetrad) (stack : List StackEnt),
  passDiff (lePass false n e acc stack) ((lePass true n e.inverted (~~~ acc) (notStack stack)).upset {}).recomplement = none

/-- The loads and the operators (R73, R74, R76): the accumulator takes the operand, or the operator's result. An agreed live load
takes the live value of the endpoint at the instant of the load (R77). -/
def Obligations.LeLoadsAndOperators : Prop := ∀ (s : State) (st : LeStep) (p ep : Nat) (o : LeOpd),
  (LeReady s st p (.ld false o) 0x01 → LeDoes s st (.leLd st) fun x => { x.advance 1 1 with acc := opd s o }) ∧
  (LeReady s st p (.ld true o) 0x02 → LeDoes s st (.leLdn st) fun x => { x.advance 1 1 with acc := tnot (opd s o) }) ∧
  (LeReady s st p (.ldl ep) 0x03 → st.live = none →
    LeDoes s st (.leLdl st) fun x => { x.advance 1 2 with acc := liveBin (atTime s st.time) ep st.time }) ∧
  (LeReady s st p (.alu 0 o) 0x10 → LeDoes s st (.leAnd st) fun x => { x.advance 1 1 with acc := tand x.acc (opd s o) }) ∧
  (LeReady s st p (.alu 1 o) 0x11 → LeDoes s st (.leAndn st) fun x => { x.advance 1 1 with acc := tand x.acc (tnot (opd s o)) }) ∧
  (LeReady s st p (.alu 2 o) 0x12 → LeDoes s st (.leOr st) fun x => { x.advance 1 1 with acc := tor x.acc (opd s o) }) ∧
  (LeReady s st p (.alu 3 o) 0x13 → LeDoes s st (.leOrn st) fun x => { x.advance 1 1 with acc := tor x.acc (tnot (opd s o)) }) ∧
  (LeReady s st p (.alu 4 o) 0x14 → LeDoes s st (.leXor st) fun x => { x.advance 1 1 with acc := txor x.acc (opd s o) }) ∧
  (LeReady s st p (.alu 5 o) 0x15 → LeDoes s st (.leXorn st) fun x => { x.advance 1 1 with acc := txor x.acc (tnot (opd s o)) })

/-- BOP and BCL (R75): the accumulator and the operator code are saved and the operand loaded; closing applies the saved operator
to the saved tetrad and the accumulator. ST, STN, SET and RST (R78): what the class stores, for an accumulator in each state. Model's choices in it: log entry 35. -/
def Obligations.LeBranchesAndStores : Prop := ∀ (s : State) (st : LeStep) (p op ep : Nat) (o : LeOpd) (e : StackEnt)
    (es : List StackEnt),
  let put := fun (x : LeStream) (v : Tetrad) => { x.advance 1 1 with stores := x.stores ++ [{ ep := ep, tet := v }] }
  let latch := fun (on : Nat) (x : LeStream) =>
    if tstate x.acc = 2 then put x (mkTet on (tdoubt x.acc) (tover x.acc))
    else if tstate x.acc = 1 then x.advance 1 1
    else put x (mkTet (tstate (frozenBin s ep)) true (tover x.acc))
  (LeReady s st p (.bop op o) 0x18 → (strm s st).stack.length < 16 →
    LeDoes s st (.leBop st) fun x => { x.advance 1 1 with acc := opd s o, stack := { acc := x.acc, op := op } :: x.stack }) ∧
  (LeReady s st p .bcl 0x19 → (strm s st).stack = e :: es →
    LeDoes s st (.leBcl st) fun x => { x.advance 1 1 with acc := tetOp e.op e.acc x.acc, stack := es }) ∧
  (LeReady s st p (.st false ep) 0x20 → mayStore s st.eng p ep → LeDoes s st (.leSt st) fun x => put x x.acc) ∧
  (LeReady s st p (.st true ep) 0x21 → mayStore s st.eng p ep → LeDoes s st (.leStn st) fun x => put x (tnot x.acc)) ∧
  (LeReady s st p (.setrst true ep) 0x22 → mayStore s st.eng p ep → LeDoes s st (.leSet st) (latch 2)) ∧
  (LeReady s st p (.setrst false ep) 0x23 → mayStore s st.eng p ep → LeDoes s st (.leRst st) (latch 1))

/-- The edge, timer and counter instructions (R81–R86): the result and the new cell are those of the cell functions. Model's choices in it: log entry 31. -/
def Obligations.LeCells : Prop := ∀ (s : State) (st : LeStep) (p c k : Nat) (efe : Bool), cellRoom s st p c →
  let w := cellWord s st c
  let inp := tstate (strm s st).acc
  let t := progPeriod s st.eng p
  let both := fun (r : Nat × Word) => (r.1, some r.2)
  (LeReady s st p (.edge true efe c) 0x30 → LeDoes s st (.leRedg st) fun x => x.cellDone c (edgeStep true efe inp w)) ∧
  (LeReady s st p (.edge false efe c) 0x31 → LeDoes s st (.leFedg st) fun x => x.cellDone c (edgeStep false efe inp w)) ∧
  (LeReady s st p (.timer 0 k efe c) 0x38 → LeDoes s st (.leTon st) fun x => x.cellDone c (both (tonStep (timerPreset k) t inp w))) ∧
  (LeReady s st p (.timer 1 k efe c) 0x39 → LeDoes s st (.leTof st) fun x => x.cellDone c (both (tofStep (timerPreset k) t inp w))) ∧
  (LeReady s st p (.timer 2 k efe c) 0x3A →
    LeDoes s st (.leTp st) fun x => x.cellDone c (both (tpStep (timerPreset k) t inp efe w))) ∧
  (LeReady s st p (.ctu k efe c) 0x40 → LeDoes s st (.leCtu st) fun x => x.cellDone c (both (ctuStep k inp efe w))) ∧
  (LeReady s st p (.ctd efe c) 0x41 → LeDoes s st (.leCtd st) fun x => x.cellDone c (both (ctdStep inp efe w))) ∧
  (LeReady s st p (.ctl k c) 0x42 → LeDoes s st (.leCtl st) fun x => x.cellDone c (both (ctlStep k inp w)))

/-- TSTD, STRO and FRCD (R79); SKIP, which passes over count words on a true condition (R80); and END, which keeps the slots of the
program and enters the next one with BAD:d in the accumulator and an empty stack (R67, R75). Model's choices in it: log entry 31. -/
def Obligations.LeQualitySkipEnd : Prop := ∀ (s : State) (st : LeStep) (p sel k : Nat),
  (LeReady s st p (.tstd sel) 0x48 → LeDoes s st (.leTstd st) fun x => { x.advance 1 1 with acc := tstd sel x.acc }) ∧
  (LeReady s st p .stro 0x49 →
    LeDoes s st (.leStro st) fun x => { x.advance 1 1 with acc := mkTet (tstate x.acc) (tdoubt x.acc) false }) ∧
  (LeReady s st p .frcd 0x4A →
    LeDoes s st (.leFrcd st) fun x => { x.advance 1 1 with acc := mkTet (tstate x.acc) true (tover x.acc) }) ∧
  (LeReady s st p (.skip sel k) 0x50 → skipCond sel (strm s st).acc = true → (strm s st).pc + 1 + k ≤ lastWord s st.eng p →
    LeDoes s st (.leSkip st) fun x => { x.advance 1 1 with pc := x.pc + 1 + k }) ∧
  (LeReady s st p (.skip sel k) 0x50 → skipCond sel (strm s st).acc = false →
    LeDoes s st (.leSkip st) fun x => x.advance 1 1) ∧
  (LeReady s st p .fin 0x7F → (strm s st).stack = [] → completes (.leEnd st) s fun u =>
    tget 0 (leOf u st.eng).progSlots p = (strm s st).slots + 1 ∧ (strm u st).progs = (strm s st).progs.tail ∧
    (strm u st).stores = (strm s st).stores ∧ (strm u st).hbuf = (strm s st).hbuf ∧
    (∀ q, (strm s st).progs[1]? = some q → (strm u st).pc = (progCfg s st.eng q).entry ∧ (strm u st).acc = 0x7#4 ∧
      (strm u st).accS = 0x8#4 ∧ (strm u st).stack = [] ∧ (strm u st).slots = 0) ∧
    (∀ e, e ≠ st.eng → leOf u e = leOf s e) ∧ onlyParts [.grid, .le, .rLE] s u)

/-- The program faults of R88 with their causes: an illegal word 1, a full stack 2, an empty stack at BCL 3, an open branch at END 4,
a store the directory does not allow 5, a SKIP beyond the program 6, a cell outside the window 7, a full write-back buffer 8. A mismatch in checked mode (R98–R100): an upset of the accumulator of a load is reported as kind 1 with the frame, counted, the
class is stopped, no class waits on the engine, and the full self-test is due. Model's choices in it: log entry 31. -/
def Obligations.LeStops : Prop :=
  (∀ (s : State) (st : LeStep) (p op ep sel k c : Nat) (neg efe : Bool) (o : LeOpd),
  let win := (look (leCfg s st.eng).windows (progCfg s st.eng p).part).getD {}
  let inWin := win.base ≤ c ∧ c < win.base + win.count
  let room := tget none (strm s st).hbuf c ≠ none ∨ (strm s st).hbuf.length < 8192
  (LeFetch s st p → noHalt s st →
    leDecode (tget 0 (leOf s st.eng).pmem (strm s st).pc) (tget 0 (leOf s st.eng).pmem ((strm s st).pc + 1)) = none →
    LeFaults s st (.leIllegal st) p 1) ∧
  (LeReady s st p (.bop op o) 0x18 → (strm s st).stack.length = 16 → LeFaults s st (.leBop st) p 2) ∧
  (LeReady s st p .bcl 0x19 → (strm s st).stack = [] → LeFaults s st (.leBcl st) p 3) ∧
  (LeReady s st p .fin 0x7F → (strm s st).stack ≠ [] → LeFaults s st (.leEnd st) p 4) ∧
  (LeReady s st p (.st neg ep) (if neg then 0x21 else 0x20) → ¬ mayStore s st.eng p ep →
    LeFaults s st (if neg then .leStn st else .leSt st) p 5) ∧
  (LeReady s st p (.skip sel k) 0x50 → skipCond sel (strm s st).acc = true → lastWord s st.eng p < (strm s st).pc + 1 + k →
    LeFaults s st (.leSkip st) p 6) ∧
  (LeReady s st p (.ctu k efe c) 0x40 → ¬ inWin → LeFaults s st (.leCtu st) p 7) ∧
  (LeReady s st p (.ctu k efe c) 0x40 → inWin → ¬ room → LeFaults s st (.leCtu st) p 8)) ∧
  (∀ (s : State) (st : LeStep) (p k : Nat) (o : LeOpd) (m : Tetrad),
  LeDecoded s st p (.ld false o) 0x01 → noHalt s st → (leOf s st.eng).split = false → m ≠ 0 → st.upset = { acc := m } →
  (strm s st).cls = some k → k ∉ (leOf s st.eng).s0.queue → k ∉ (leOf s st.eng).s1.queue →
  (∀ f ∈ (leOf s st.eng).events, 2399 < s.grid.frame - f) → completes (.leLd st) s fun u =>
    field (rd u (Reg.LE_CMP_STAT st.eng)) 27 25 = 1 ∧ field (rd u (Reg.LE_CMP_STAT st.eng)) 15 0 = s.grid.frame % 2 ^ 16 ∧
    field (rd u (Reg.LE_MISM_CNT st.eng)) 31 16 = satAdd 0xFFFF (field (rd s (Reg.LE_MISM_CNT st.eng)) 31 16) 1 ∧
    (leOf u st.eng).fullTest = true ∧ s.grid.frame ∈ (leOf u st.eng).events ∧ (leOf u st.eng).failed = false ∧
    (leOf u st.eng).s0.cls = none ∧ (leOf u st.eng).s0.queue = [] ∧ (classOf u k).st = .stopped)

/-- The self-tests that pass (R101, R102): the background test moves to the next of 16 segments; the full test ends the wait for it
and counts a mismatch whose word read good as transient. LE_MODE_REQ (R106, R107): a request that nothing refuses is pending for the next freeze that follows a whole frame; a refused one
leaves the engine and shows its code. LE_CTRL.CLR_CNT (R93, R115) clears the fault, ECC and peak counters. Model's choices in it: log entries 18 and 33. -/
def Obligations.LeSelfTestsAndModes : Prop :=
  (∀ (s : State) (e : Nat), e < 8 → s.grid.phase = 3 →
  ((leOf s e).failed = false → (leOf s e).fullTest = false → completes (.backgroundSelfTest e {}) s fun u =>
    leOf u e = { leOf s e with segment := ((leOf s e).segment + 1) % 16 } ∧ (∀ f, f ≠ e → leOf u f = leOf s f) ∧
    field (rd u (Reg.LE_CMP_STAT e)) 30 30 = 1 ∧ onlyRegs [Reg.LE_CMP_STAT e] s u ∧ onlyParts [.le, .rLE] s u) ∧
  ((leOf s e).fullTest = true → completes (.fullSelfTest e {}) s fun u =>
    leOf u e = { leOf s e with fullTest := false } ∧ (∀ f, f ≠ e → leOf u f = leOf s f) ∧
    field (rd u (Reg.LE_CMP_STAT e)) 29 28 = 1 ∧ onlyRegs [Reg.LE_CMP_STAT e, Reg.LE_MISM_CNT e] s u ∧
    ((leOf s e).failed = false → (leOf s e).events.length = 1 → field (rd s (Reg.LE_CMP_STAT e)) 27 25 ≠ 6 →
      field (rd u (Reg.LE_MISM_CNT e)) 15 0 = satAdd 0xFFFF (field (rd s (Reg.LE_MISM_CNT e)) 15 0) 1))) ∧
  (∀ (s : State) (e : Nat) (c : Cmd), e < 8 →
  (passes s (Reg.LE_MODE_REQ e) c → field c.value 31 16 = 0x5A3C → hasRole s c.session 2 = true →
    modeRefusal s e (flag c.value 0) = 0 → completes (.modeRequest e c) s fun u =>
      leOf u e = { leOf s e with modePend := some (flag c.value 0, if s.grid.phase = 3 then s.grid.frame + 2 else s.grid.frame + 1) } ∧
      (∀ f, f ≠ e → leOf u f = leOf s f) ∧ field (rd u (Reg.LE_CMP_STAT e)) 24 24 = 1 ∧
      onlyRegs [Reg.LE_CMP_STAT e, Reg.REC_EVT_STAT] s u) ∧
  (passes s (Reg.LE_MODE_REQ e) c → field c.value 31 16 = 0x5A3C → hasRole s c.session 2 = true →
    modeRefusal s e (flag c.value 0) ≠ 0 → completes (.modeRequest e c) s fun u =>
      u.le = s.le ∧ field (rd u (Reg.LE_CMP_STAT e)) 23 20 = modeRefusal s e (flag c.value 0) ∧
      onlyRegs [Reg.LE_CMP_STAT e, Reg.REC_EVT_STAT] s u) ∧
  (takes s (Reg.LE_CTRL e) 0 c → completes (.leClrCnt e c) s fun u =>
    rd u (Reg.LE_FAULT_CNT e) = 0 ∧ rd u (Reg.LE_ECC_CNT e) = 0 ∧ rd u (Reg.LE_PEAKS e) = 0 ∧
    leOf u e = { leOf s e with progFaults := [] } ∧ (∀ f, f ≠ e → leOf u f = leOf s f) ∧
    onlyRegs [Reg.LE_FAULT_CNT e, Reg.LE_ECC_CNT e, Reg.LE_PEAKS e, Reg.REC_EVT_STAT] s u))

/-- The debugger (R108–R111): a session opens and closes; HALT asks for the halt of the observed stream; STEP runs one instruction and
halts with cause 3; RESUME does not charge the time halted; LE_DBG_WR writes the accumulator with its complement in the shadow,
or the selected cell. Model's choices in it: log entry 34. -/
def Obligations.LeDebugger : Prop := ∀ (s : State) (st : LeStep) (e p k t : Nat) (o : LeOpd) (c : Cmd), e < 8 →
  let ctrl := Reg.LE_DBG_CTRL e
  let i := if (leOf s e).split then field (rd s ctrl) 24 24 else 0
  (passes s ctrl c → flag c.value 31 = true → flag (rd s ctrl) 31 = false → debugAllowed s e c.session = true →
    completes (.debugOpen e c) s fun u => flag (rd u ctrl) 31 = true ∧ field (rd u ctrl) 24 24 = field c.value 24 24 ∧
      field (rd u ctrl) 23 22 = field c.value 23 22 ∧ u.le = s.le ∧ onlyRegs [ctrl, Reg.REC_EVT_STAT] s u) ∧
  (passes s ctrl c → flag c.value 31 = false → flag (rd s ctrl) 31 = true → completes (.debugOpen e c) s fun u =>
    flag (rd u ctrl) 31 = false ∧ leOf u e = { leOf s e with halt := false, haltReq := false, passBp := false } ∧
      (∀ f, f ≠ e → leOf u f = leOf s f) ∧ onlyRegs [ctrl, Reg.REC_EVT_STAT] s u) ∧
  (passes s ctrl c → flag (rd s ctrl) 31 = true → (leOf s e).halt = false → completes (.debugHalt e c) s fun u =>
    leOf u e = { leOf s e with haltReq := true } ∧ (∀ f, f ≠ e → leOf u f = leOf s f) ∧ onlyRegs [] s u) ∧
  (LeDecoded s st p (.ld false o) 0x01 → (leOf s st.eng).halt = true → st.upset = {} → completes (.debugStep st) s fun u =>
    (strm u st).acc = opd s o ∧ (strm u st).pc = (strm s st).pc + 1 ∧ (leOf u st.eng).halt = true ∧
      field (rd u (Reg.LE_DBG_CTRL st.eng)) 26 25 = 3 ∧ field (rd u (Reg.LE_DBG_CTRL st.eng)) 30 30 = 1 ∧
      ∀ f, f ≠ st.eng → leOf u f = leOf s f) ∧
  (passes s ctrl c → (leOf s e).halt = true → (leOf s e).s0.cls = some k → (leOf s e).s1.cls = none →
    completes (.debugResume e c t) s fun u => leOf u e = { leOf s e with halt := false, passBp := true } ∧
      (classOf u k).since = (classOf s k).since + (t - (leOf s e).haltAt) ∧ field (rd u ctrl) 30 30 = 0 ∧ onlyRegs [ctrl] s u) ∧
  (passes s (Reg.LE_DBG_WR e) c → (leOf s e).halt = true → field (rd s ctrl) 23 22 = 0 → completes (.debugWrite e c) s fun u =>
    ((leOf u e).stream i).acc = BitVec.ofNat 4 (field c.value 3 0) ∧
      ((leOf u e).stream i).accS = ~~~ BitVec.ofNat 4 (field c.value 3 0) ∧ (∀ f, f ≠ e → leOf u f = leOf s f) ∧ onlyRegs [] s u) ∧
  (passes s (Reg.LE_DBG_WR e) c → (leOf s e).halt = true → field (rd s ctrl) 23 22 = 1 →
    ((leOf s e).stream i).cls = some k → ((partCfg s (classCfg s k).part).safety = false ∨ s.saf.smmOn = true) →
    completes (.debugWrite e c) s fun u =>
      tget none ((leOf u e).stream i).hbuf (field (rd s (Reg.LE_CELL_SEL e)) 15 0) = some c.value ∧
      ((leOf u e).stream i).acc = ((leOf s e).stream i).acc ∧ (∀ f, f ≠ e → leOf u f = leOf s f) ∧ onlyRegs [] s u)

/-! ### Registers -/

/-- A write of a register (R7–R12, R62, R303, R460, R470): a narrower or unaligned one and one to an absent block answer an error, an
unassigned offset takes nothing; otherwise the read-write bits take the value, the write-1-to-clear bits written as 1 become 0,
every other bit keeps its value, and a setting is recorded with the old and the new word; a refused write changes only what
R460 reports. The presence code goes to SMM only from the session that asked. Model's choices in it: log entries 15, 16 and 17. -/
def Obligations.RegisterWrites : Prop := ∀ (s : State) (reg len : Nat) (c : Cmd) (r : RegRow) (e : Bool) (a : Nat),
  (len ≠ 4 ∨ reg % 4 ≠ 0 ∨ inControlSpace reg = false →
    completes (.registerWrite reg len c) s fun u => u = { s with resp := .error }) ∧
  (reg % 4 = 0 → inControlSpace reg = true →
    (passes s reg c → 0x17 ≤ blockOf reg → completes (.registerWrite reg 4 c) s fun u =>
      u.resp = .error ∧ onlyRegs [] s u ∧ onlyParts [.resp, .sess] s u) ∧
    (passes s reg c → blockOf reg < 0x17 → regRow reg = none → completes (.registerWrite reg 4 c) s fun u =>
      onlyRegs [] s u ∧ onlyParts [.sess] s u) ∧
    (passes s reg c → regRow reg = some r → (r.access = .rwb ∨ ownCommand reg = true ∨ selectIgnored reg c.value = true) →
      completes (.registerWrite reg 4 c) s fun u => onlyRegs [] s u ∧ onlyParts [.sess] s u) ∧
    (passes s reg c → regRow reg = some r → r.access ≠ .rwb → ownCommand reg = false → selectIgnored reg c.value = false →
      reg ≠ Reg.SAF_SMM_CODE → completes (.registerWrite reg 4 c) s fun u =>
        let new := (rd s reg &&& ~~~ r.rw) ||| (c.value &&& r.rw)
        rd u reg = new &&& ~~~ (c.value &&& r.w1c) ∧ onlyRegs [reg, Reg.REC_EVT_STAT] s u ∧
        (r.rw = 0 → u.rcd = s.rcd ∧ onlyRegs [reg] s u) ∧
        (r.rw ≠ 0 → s.rcd.buf.length < 12288 →
          recorded s u (blockOf reg * 256 + 0x43) [offsetOf reg, (rd s reg).toNat, new.toNat, c.session])) ∧
    (firstRefused s 4 reg 4 c.master .write = some (e, a) → completes (.registerWrite reg 4 c) s fun u =>
      u.resp = .error ∧ u.acc.violAddr = a ∧
      rd u Reg.ACC_VIOL_CNT = w32 (satAdd 0xFFFFFFFF (rd s Reg.ACC_VIOL_CNT).toNat 1) ∧
      rd u Reg.ACC_VIOL_LAST = w32 (bit1 e 31 + 1 * 2 ^ 29 + 4 * 2 ^ 26 + c.master % 4096) ∧ flag (rd u Reg.ACC_EVT_STAT) 0 = true ∧
      onlyRegs [Reg.ACC_VIOL_CNT, Reg.ACC_VIOL_LAST, Reg.ACC_EVT_STAT, Reg.REC_EVT_STAT] s u ∧
      onlyParts [.resp, .acc, .sess, .freeN, .rcd, .rACC, .rREC] s u)) ∧
  (passes s Reg.SAF_SMM_CODE c → completes (.registerWrite Reg.SAF_SMM_CODE 4 c) s fun u =>
    u.saf.smm.given = (if s.saf.smm.stage = 1 ∧ s.saf.smm.session = c.session then some (field c.value 19 0) else s.saf.smm.given) ∧
    onlyRegs [] s u ∧ onlyParts [.saf, .sess] s u)

/-- The read-locking registers (R9): a read answers the value of the rule that describes the register, latches its companions and
changes no other register; the capture FIFO gives up its oldest entry (R397), a CAN window locks its object and the read of its last
word gives it back (R376), and the recorder's window holds the record whose SEQ is selected (R478). Model's choices in it: log entries 11 and 36. -/
def Obligations.ReadLockingRegisters : Prop := ∀ s : State,
  (let port := field (rd s Reg.CHN_PORT_SEL) 1 0
   let copy := fun (x : RetCopy) => if x.valid then x.gen else 0
   locks .frmFnumLo s Reg.FRM_FNUM_LO Reg.FRM_FNUM_HI s.grid.frame ∧
   locks .sigDirLo s Reg.SIG_DIR_LO Reg.SIG_DIR_HI (dirEntry s (selEp s)).toNat ∧
   locks .fbxRetGenLo s Reg.FBX_RET_GEN_LO Reg.FBX_RET_GEN_HI (max (copy s.fbx.copyA) (copy s.fbx.copyB)) ∧
   locks .pairRoleSinceLo s Reg.PAIR_ROLE_SINCE_LO Reg.PAIR_ROLE_SINCE_HI s.pair.since ∧
   locks .chnNodeSerlo s Reg.CHN_NODE_SERLO Reg.CHN_NODE_SERHI (chnNode s port (field (rd s Reg.CHN_NODE_SEL) 5 0)).serial ∧
   locks .chnStrSerlo s Reg.CHN_STR_SERLO Reg.CHN_STR_SERHI
     (((chnPort s port).strangers[field (rd s Reg.CHN_STR_SEL) 3 0]?).elim 0 (·.serial)) ∧
   locks .timMonoLo s Reg.TIM_MONO_LO Reg.TIM_MONO_HI s.grid.mono ∧
   locks .timPtpGmLo s Reg.TIM_PTP_GM_LO Reg.TIM_PTP_GM_HI (((ptpInst s (field (rd s Reg.TIM_PTP_SEL) 0 0)).parent.map (·.gm)).getD 0) ∧
   locks .updCfgGenLo s Reg.UPD_CFG_GEN_LO Reg.UPD_CFG_GEN_HI
     (if s.upd.used = 1 then s.upd.copyA.gen else if s.upd.used = 2 then s.upd.copyB.gen else 0) ∧
   locks .updDieLo s Reg.UPD_DIE_LO Reg.UPD_DIE_HI s.upd.otp.serial ∧
   locks .devSerLo s Reg.DEV_SER_LO Reg.DEV_SER_HI (moduleSerial s) ∧
   locks .devUptimeLo s Reg.DEV_UPTIME_LO Reg.DEV_UPTIME_HI (uptime s)) ∧
  (locksWord .sigVal s Reg.SIG_VAL Reg.SIG_VAL_AUX (frozenWord s (selEp s)) (frozenAux s (selEp s)) ∧
   locksWord .sviChVal s Reg.SVI_CH_VAL Reg.SVI_CH_QUAL (selChannel s).1 ((selChannel s).2.zeroExtend 32) ∧
   ∀ e, e < 6 → locksWord (.peOutVal e) s (Reg.PE_OUT_VAL e) (Reg.PE_OUT_AUX e) (peSelOut s e).1 ((peSelOut s e).2.zeroExtend 32)) ∧
  (let sec := s.grid.frame / 2400 % 2 ^ 48
   completes .frmSecLo s fun u => u.resp = .value (sec % 2 ^ 32) ∧ rd u Reg.FRM_SEC_LO = w32 sec ∧ rd u Reg.FRM_SEC_HI = w32 (sec / 2 ^ 32) ∧
     field (rd u Reg.FRM_FIDX) 15 0 = s.grid.frame % 2400 ∧ onlyRegs [Reg.FRM_SEC_LO, Reg.FRM_SEC_HI, Reg.FRM_FIDX] s u) ∧
  (let own := s.pair.hmOwnLatched.toNat
   let his := s.pair.hmPartnerLatched.toNat
   completes .pairHmLo s fun u => u.resp = .value (own % 2 ^ 32) ∧ rd u Reg.PAIR_HM_LO = w32 own ∧ rd u Reg.PAIR_HM_HI = w32 (own / 2 ^ 32) ∧
     rd u Reg.PAIR_HM_PLO = w32 his ∧ rd u Reg.PAIR_HM_PHI = w32 (his / 2 ^ 32) ∧
     onlyRegs [Reg.PAIR_HM_LO, Reg.PAIR_HM_HI, Reg.PAIR_HM_PLO, Reg.PAIR_HM_PHI] s u) ∧
  (let sec := s.grid.now / 1000000000 % 2 ^ 48
   completes .timNowSlo s fun u => u.resp = .value (sec % 2 ^ 32) ∧ rd u Reg.TIM_NOW_SLO = w32 sec ∧ rd u Reg.TIM_NOW_SHI = w32 (sec / 2 ^ 32) ∧
     rd u Reg.TIM_NOW_NS = w32 (s.grid.now % 1000000000) ∧ onlyRegs [Reg.TIM_NOW_SLO, Reg.TIM_NOW_SHI, Reg.TIM_NOW_NS] s u) ∧
  (completes .accViolAddrLo s fun u => u.resp = .value (s.acc.violAddr % 2 ^ 32) ∧ rd u Reg.ACC_VIOL_ADDR_LO = w32 s.acc.violAddr ∧
     rd u Reg.ACC_VIOL_ADDR_HI = w32 (s.acc.violAddr / 2 ^ 32 % 256) ∧ onlyRegs [Reg.ACC_VIOL_ADDR_LO, Reg.ACC_VIOL_ADDR_HI] s u) ∧
  (let k := field (rd s Reg.TIM_CAP_SEL) 5 0
   let q := tget {} s.tim.caps k
   completes .timCapSlo s fun u =>
     (∀ x xs, q.fifo = x :: xs → u.resp = .value (x / 1000000000 % 2 ^ 32) ∧ rd u Reg.TIM_CAP_SHI = w32 (x / 1000000000 / 2 ^ 32 % 65536) ∧
       rd u Reg.TIM_CAP_NS = w32 (x % 1000000000) ∧ tget {} u.tim.caps k = { q with fifo := xs } ∧
       ∀ j, j ≠ k → tget {} u.tim.caps j = tget {} s.tim.caps j) ∧
     (q.fifo = [] → rd u Reg.TIM_CAP_NS = 0xFFFFFFFF#32 ∧ (∃ v, v < 2 ^ 32 ∧ u.resp = .value v) ∧ u.tim = s.tim) ∧
     onlyRegs [Reg.TIM_CAP_SHI, Reg.TIM_CAP_NS] s u) ∧
  (∀ c t, c < 2 → s.grid.now ≤ t →
    (let n := selObj s c
     completes (.canRxoW0 c t) s fun u => (canCtl u c).lock = some (n, t) ∧ (∀ d, d ≠ c → canCtl u d = canCtl s d) ∧
       (∀ m, rxObj u c m = rxObj s c m) ∧ u.resp = .value (rd u (Reg.CAN_RXO_W0 c)).toNat ∧
       (∀ i w, (windowWords (rxObj s c n))[i]? = some w → rd u (Reg.CAN_RXO_W0 c + 4 * i) = w) ∧
       onlyRegs ((upto 20).map fun i => Reg.CAN_RXO_W0 c + 4 * i) s u) ∧
    (completes (.canRxoW19 c t) s fun u => u.resp = .value (rd s (Reg.CAN_RXO_W0 c + 76)).toNat ∧ (canCtl u c).lock = none ∧
       (∀ d, d ≠ c → canCtl u d = canCtl s d) ∧ onlyRegs [] s u ∧
       (∀ n at0, (canCtl s c).lock = some (n, at0) → let x := rxObj s c n
         (rxObj u c n = match x.shadow with
           | some f => { x with cur := some f, isNew := true, lost := x.shadowLost, shadow := none, shadowLost := false }
           | none => { x with isNew := false, lost := false }) ∧
         ∀ m, m ≠ n → rxObj u c m = rxObj s c m))) ∧
  (completes .recRdW0 s fun u => let hit := findRec s.rcd (rd s Reg.REC_RD_SEQ)
     let word := fun i => match hit with | some x => recWord x i | none => 0
     u.resp = .value (word 0).toNat ∧ rd u Reg.REC_RD_W0 = word 0 ∧ (∀ i, i < 7 → rd u (Reg.REC_RD_Wn i) = word (i + 1)) ∧
     u.rcd = { s.rcd with rdMiss := hit.isNone } ∧ onlyRegs (Reg.REC_RD_W0 :: (upto 7).map Reg.REC_RD_Wn) s u) ∧
  (∀ ptr, (ptr = 0x07 → locks (.i2cRead ptr) s Reg.DEV_SER_LO Reg.DEV_SER_HI (moduleSerial s)) ∧
    (ptr = 0x11 → locks (.i2cRead ptr) s Reg.DEV_UPTIME_LO Reg.DEV_UPTIME_HI (uptime s)) ∧
    (ptr ≤ 0x17 → ptr ≠ 0x07 → ptr ≠ 0x11 → completes (.i2cRead ptr) s fun u =>
      u = { s with resp := .value (readReg s (0x40000000 + 4 * ptr)).toNat }) ∧
    (0x20 ≤ ptr → ptr ≤ 0x2B → completes (.i2cRead ptr) s fun u =>
      u = { s with resp := .value (readReg s (Reg.MON_TEMPn (ptr - 0x20))).toNat }) ∧
    (ptr = 0x30 → completes (.i2cRead ptr) s fun u => u = { s with resp := .value (readReg s Reg.MON_STAT).toNat }) ∧
    (ptr = 0x31 → completes (.i2cRead ptr) s fun u => u = { s with resp := .value (readReg s Reg.MON_DIE).toNat }) ∧
    (0x17 < ptr → ¬ (0x20 ≤ ptr ∧ ptr ≤ 0x2B) → ptr ≠ 0x30 → ptr ≠ 0x31 → completes (.i2cRead ptr) s fun u => u = { s with resp := .value 0xFFFFFFFF }))

/-- The counter clears: a keyed write of the block's command register with its bit sets the counters of the block to zero, is
recorded (R470) and changes no other register; the lifetime counters of R535 have no clear. -/
def Obligations.CounterClears : Prop := ∀ (s : State) (c : Cmd),
  (takes s Reg.FBX_CMD 2 c → clearsBy (.fbxClrCnt c) s Reg.FBX_CMD c
    (Reg.FBX_FAULT_CNT :: ((upto 4).map Reg.FBX_FIFO_LOSTn ++ (upto 4).map Reg.FBX_JRNL_STATn)) fun u =>
      rd u Reg.FBX_FAULT_CNT = 0 ∧ ∀ i, i < 4 → rd u (Reg.FBX_FIFO_LOSTn i) = 0 ∧ rd u (Reg.FBX_JRNL_STATn i) = 0) ∧
  (takes s Reg.SAF_CMD 0 c → Tbl.rising s.saf.stc = true → clearsBy (.safClrCnt c) s Reg.SAF_CMD c [] fun u => ∀ k,
    tget {} u.saf.stc k = { (tget {} s.saf.stc k) with losses := 0, discards := 0 }) ∧
  (takes s Reg.CHN_CMD 2 c → Tbl.rising s.chn.ports = true → clearsBy (.chnClrCnt c) s Reg.CHN_CMD c [] fun u => ∀ p,
    (chnPort u p).miss = 0 ∧ (chnPort u p).crc = 0 ∧ (chnPort u p).malformed = 0 ∧ (chnPort u p).collisions = 0 ∧
    (Tbl.rising (chnPort s p).nodes = true → ∀ n, chnNode u p n = { (chnNode s p n) with miss := 0, crc := 0, rej := 0 })) ∧
  (takes s Reg.LIO_CMD 0 c → clearsBy (.lioClrCnt c) s Reg.LIO_CMD c [Reg.LIO_DO_OVL_CNT, Reg.LIO_DI_BRK_CNT, Reg.LIO_WD_CNT]
    fun u => rd u Reg.LIO_DO_OVL_CNT = 0 ∧ rd u Reg.LIO_DI_BRK_CNT = 0 ∧ rd u Reg.LIO_WD_CNT = 0) ∧
  (takes s Reg.AIO_CMD 0 c → clearsBy (.aioClrCnt c) s Reg.AIO_CMD c [] fun u => ∀ ch, ch < 8 →
    axOf u ch = { (axOf s ch) with openCnt := 0, compCnt := 0, hartOk := 0, hartBad := 0 }) ∧
  (takes s Reg.CAN_CMD 2 c → clearsBy (.canClrCnt c) s Reg.CAN_CMD c [] fun u => ∀ k, k < 2 →
    (canCtl u k).busOffs = 0 ∧ (canCtl u k).errs = 0 ∧ (canCtl u k).unk = 0 ∧ (canCtl u k).fmt = 0 ∧
    (canCtl u k).rxMiss = 0 ∧ (canCtl u k).refMiss = 0 ∧
    (Tbl.rising (canCtl s k).objs = true → ∀ n, rxObj u k n = { (rxObj s k n) with lockTo := 0 }) ∧
    (Tbl.rising (canCtl s k).bufs = true → ∀ n, txBuf u k n = { (txBuf s k n) with sent := 0, cancels := 0 })) ∧
  (takes s Reg.TIM_CMD 0 c → clearsBy (.timClrCnt c) s Reg.TIM_CMD c [Reg.TIM_IRIG_STAT, Reg.TIM_LQ_CNT] fun u =>
    rd u Reg.TIM_LQ_CNT = 0 ∧ field (rd u Reg.TIM_IRIG_STAT) 15 0 = 0 ∧
    field (rd u Reg.TIM_IRIG_STAT) 31 16 = field (rd s Reg.TIM_IRIG_STAT) 31 16 ∧
    (Tbl.rising s.tim.inst = true → ∀ i, ptpInst u i = { (ptpInst s i) with losses := 0, annOut := 0 }) ∧
    (Tbl.rising s.tim.caps = true → ∀ k, tget {} u.tim.caps k = { (tget {} s.tim.caps k) with ovf := 0 })) ∧
  (takes s Reg.ETH_CMD 0 c → Tbl.rising s.stn.ports = true → Tbl.rising s.stn.pairs = true →
    clearsBy (.ethClrCnt c) s Reg.ETH_CMD c [] fun u => u.stn.opsOk = 0 ∧ u.stn.opsBad = 0 ∧
      (∀ p, ethPort u p = { (ethPort s p) with downs := 0, rx := 0, tx := 0, rxShown := 0, txShown := 0, fcs := 0, overN := 0 }) ∧
      ∀ p, (tget {} u.stn.pairs p).discard = 0 ∧ (tget {} u.stn.pairs p).single = 0) ∧
  (takes s Reg.GSE_CMD 0 c → clearsBy (.gseClrCnt c) s Reg.GSE_CMD c [] fun u => ∀ k,
    gseSub u k = (gseSub s k).map fun x => { x with discards := 0, news := 0, lostCnt := 0 }) ∧
  (takes s Reg.ACC_CMD 0 c → clearsBy (.accClrCnt c) s Reg.ACC_CMD c [Reg.ACC_VIOL_CNT] fun u => rd u Reg.ACC_VIOL_CNT = 0) ∧
  (takes s Reg.DPY_CMD 0 c → clearsBy (.dpyClrCnt c) s Reg.DPY_CMD c [] fun u =>
    u.dpy = { s.dpy with replaced := 0, updates := 0 }) ∧
  (takes s Reg.DEV_CMD 0 c → clearsBy (.devClrCnt c) s Reg.DEV_CMD c [] fun u => u.hlt = s.hlt) ∧
  (takes s Reg.MON_CMD 0 c → clearsBy (.monClrPeak c) s Reg.MON_CMD c ((upto 12).map Reg.MON_TPEAKn ++ (upto 24).map Reg.MON_VEXTn)
    fun u => (∀ i, i < 12 → rd u (Reg.MON_TPEAKn i) = 0) ∧ (∀ i, i < 24 → rd u (Reg.MON_VEXTn i) = 0) ∧
      (Tbl.rising s.hlt.temps = true → ∀ n, tempOf u n = { (tempOf s n) with peak := none }) ∧
      (Tbl.rising s.hlt.volts = true → ∀ n, tget {} u.hlt.volts n = { (tget {} s.hlt.volts n) with ext := none }))

/-! ### Frames -/

/-- FREEZE (R19, R20, R32, R46, R229, R541): a freeze that is due begins its frame: the banks move on by one role, the
budgets of all partitions are loaded with their allotments, a pending role takes effect; a module that has been
synchronised takes the frame's number and start. COMPUTE, SEAL and COMMIT (R20, R25, R33, R35, R67, R116, R259): the engines take the classes due; at the end of the window the stores of the
classes that finished enter the output bank in order and a class still running on a core stops as an overrun; at the commit the
output bank is released, unless the module may not commit, and the partitions whose reaction is due enter it. Model's choices in it: log entries 20, 22 and 25. -/
def Obligations.FramePhases : Prop :=
  (∀ (s : State) (t n : Nat), freezeDue s t = some n → completes (.frameFreeze t) s fun u =>
  u.grid.phase = 0 ∧ u.grid.running = true ∧ u.grid.freezes = s.grid.freezes + 1 ∧ u.sig.roles = s.sig.roles.rotate ∧
  (∀ p ∈ partNums u, (partOf u p).budget = allotment u p ∧ (partOf u p).allot = allotment u p) ∧
  u.pair.role = (match s.pair.next with
    | some (r, _) => r
    | none => s.pair.role) ∧ u.cfg = s.cfg ∧
  (s.grid.neverSync = false → u.grid.frame = n ∧ u.grid.freezeAt = frameStart n)) ∧
  (∀ (s : State) (t : Nat), s.grid.running = true →
  (s.grid.phase = 0 → s.grid.freezeAt + 40000 ≤ t →
    let s1 := alignClose { atTime s t with grid := { (atTime s t).grid with phase := 1 } }
    (runsClasses s1 = false → completes (.frameCompute t) s fun u => u = s1) ∧
    (runsClasses s1 = true → completes (.frameCompute t) s fun u => u.grid.phase = 1 ∧ u.sig = s.sig ∧
      (∀ k, k < 4 → (acOf u k).used = usedSlots s1 k) ∧
      (∀ k ∈ dueClasses s1, (classOf u k).st = .due ∨ (classOf u k).st = .running) ∧
      (∀ k, k ∉ dueClasses s1 → classOf u k = classOf s k) ∧ u.sched.parts = s.sched.parts)) ∧
  (s.grid.phase = 1 → s.grid.freezeAt + 360000 ≤ t →
    (∀ e, e < 8 → unfinishedLe (leOf s e) = ([], []) ∧ (leOf s e).halt = false) →
    ((∀ k, k < 4 → (acOf s k).cls = none ∧ (acOf s k).used = []) → completes (.frameSeal t) s fun u =>
      u.grid.phase = 2 ∧ u.pair.hm.isSome = true ∧ u.pair.role = s.pair.role ∧
      u.sig.output = { applyStores s s.sig.output s.sig.pend with
        hiz := s.sig.output.hiz.filter fun ep => !(s.sig.pend.map (·.ep)).contains ep } ∧
      u.sig.pend = s.sig.pend ∧ u.sig.committed = s.sig.committed ∧ u.sched.classes = s.sched.classes ∧
      onlyRegs ((upto 8).map Reg.LE_LOAD) s u) ∧
    ∀ k c, k < 4 → (acOf s k).cls = some c → (acOf s k).used = [] →
      (∀ j, j < 4 → j ≠ k → (acOf s j).cls = none ∧ (acOf s j).used = []) → completes (.frameSeal t) s fun u =>
        u.grid.phase = 2 ∧ (classOf u c).st = .stopped ∧ (acOf u k).cls = none ∧ u.sig.pend = s.sig.pend ∧
        rd u Reg.FRM_OVR_TOTAL = w32 (satAdd 0xFFFFFFFF (rd s Reg.FRM_OVR_TOTAL).toNat 1)) ∧
  (s.grid.phase = 2 → s.grid.freezeAt + 390000 ≤ t →
    (mayCommit s = true → reactionsDue s = [] → s.frc.table = [] → completes (.frameCommit t) s fun u =>
      u.grid.phase = 3 ∧ u.sig.committed = s.sig.output ∧ u.sig.pend = [] ∧ u.sig.output = s.sig.output ∧
      u.sig.distribute = s.sig.distribute ∧ u.pair.committed = true ∧ u.sched = s.sched) ∧
    (mayCommit s = false → completes (.frameCommit t) s fun u =>
      u.grid.phase = 3 ∧ u.sig.committed = s.sig.committed ∧ u.sig.pend = [] ∧ u.pair = s.pair ∧ u.sent = s.sent) ∧
    (∀ p, p ∈ reactionsDue s → completes (.frameCommit t) s fun u =>
      u.grid.phase = 3 ∧ (partOf u p).react = true ∧ (partOf u p).reactDue = false)))

/-- The frozen image (R24, R46, R55): at the rotation the last value collected of a signal becomes its frozen one, any other signal keeps
the one before, and the committed image goes to the distribute role. Model's choices in it: log entry 22. -/
def Obligations.ImageRotation : Prop := ∀ (s : State) (ep : Nat), Tbl.rising s.sig.coll.got = true →
  let u := rotateBanks s
  u.sig.distribute = s.sig.committed ∧ u.sig.coll = s.sig.next ∧ u.sig.next = {} ∧ u.sig.output = s.sig.output ∧
  (isBinary ep = true → tget 0x7#4 u.sig.working.bin ep = (match tget none s.sig.coll.got ep with
    | some g => g.tet
    | none => tget 0x7#4 s.sig.working.bin ep)) ∧
  (isBinary ep = false → tget {} u.sig.working.ana ep = (match tget none s.sig.coll.got ep with
    | some g => { val := g.val, qual := g.qual, born := some s.grid.freezes }
    | none => tget {} s.sig.working.ana ep)) ∧
  rd u Reg.SIG_MULTI_CNT = w32 s.sig.coll.multi.length ∧ onlyParts [.sig, .roles, .rSIG] s u

/-- Commands around the frame: RESUME ends a reaction at the next freeze for the engineer (R36); the end of a slew (R18); WARM and COLD
restarts lead to OFFLINE and keep their kind (R132, R141); a write-through to one copy completes and the other follows (R129). Model's choices in it: log entry 19. -/
def Obligations.FrameCommands : Prop := ∀ (s : State) (c : Cmd) (j : RetJob) (b : Bool) (rest : List Bool),
  (let p := field (rd s Reg.FRM_PART_SEL) 6 0
   takes s Reg.FRM_PART_CMD 0 c →
    (hasRole s c.session 2 = true → ((partCfg s p).safety = true → s.saf.smmOn = true) → completes (.partResume c) s fun u =>
      partOf u p = (if (partOf s p).react then { partOf s p with resumeAt := some (s.grid.frame + 1) } else partOf s p) ∧
      (∀ q, q ≠ p → partOf u q = partOf s q) ∧ onlyRegs [Reg.REC_EVT_STAT] s u) ∧
    ((hasRole s c.session 2 = false ∨ (partCfg s p).safety = true ∧ s.saf.smmOn = false) → completes (.partResume c) s fun u =>
      (∃ v, u.resp = .refused v) ∧ u.sched = s.sched ∧ onlyRegs [Reg.REC_EVT_STAT] s u)) ∧
  (s.grid.slewing = true → s.tim.ofs3 = 0 → completes .slewDone s fun u =>
    u.grid = { s.grid with slewing := false, slewPpb := 0 } ∧ flag (rd u Reg.FRM_EVT_STAT) 3 = true ∧
    onlyRegs [Reg.FRM_EVT_STAT, Reg.REC_EVT_STAT] s u) ∧
  (let leaves := fun (u : State) (cold : Bool) => u.upd.kind = some cold ∧ u.pair.hbStopped = true ∧
     u.pair.restartDue = some (s.pair.restartDue.getD 1) ∧ (∃ n, u.pair.next = some (.offline, n)) ∧ u.pair.role = s.pair.role ∧
     u.rcd.flushing = true ∧ u.sig = s.sig
   hasRole s c.session 2 = true →
    (takes s Reg.FBX_CMD 1 c → flag c.value 0 = false → completes (.warmRestart c) s fun u => leaves u false) ∧
    (takes s Reg.FBX_CMD 0 c → flag c.value 1 = false → completes (.coldRestart c) s fun u => leaves u true)) ∧
  (takes s Reg.FBX_CMD 0 c → flag c.value 1 = true →
    (completes (.warmRestart c) s fun u => (∃ v, u.resp = .refused v) ∧ u.upd = s.upd ∧ u.pair = s.pair) ∧
    completes (.coldRestart c) s fun u => (∃ v, u.resp = .refused v) ∧ u.upd = s.upd ∧ u.pair = s.pair) ∧
  (s.fbx.job = some j → j.copies = b :: rest → b ∉ rest → completes (.retainedWriteDone b) s fun u =>
    let copy := fun (f : Fbx) => if b then f.copyB else f.copyA
    copy u.fbx = (copy s.fbx).absorb j.gen s.cfg.id (imageHashes s.cfg) j.words ∧ (copy u.fbx).valid = true ∧
    (rest = [] → u.fbx.job = none ∧ (if b then u.fbx.copyA = s.fbx.copyA else u.fbx.copyB = s.fbx.copyB)) ∧
    (∀ d ds, rest = d :: ds → u.fbx.job = some { j with copies := rest } ∧
      (if d then u.fbx.copyB else u.fbx.copyA).marker = 2) ∧ onlyRegs [Reg.FBX_RET_COPY] s u)

/-! ### Application cores -/

/-- The slot table and the ends of classes (R33, R34, R116, R117, R120): a used slot starts its class no earlier than its offset and the
class before it, a late start is counted; at its end the class's stores join the frame's and the core is free again; service
work leaves the core before a slot. A logic engine's class that reached the end of its last program completes (R34, R68): its stores join the frame's and its history
writes go to history memory; no other cell changes. A budget that reaches zero (R33) stops the running class of the partition as an overrun of cause 1 and leaves no budget; the journal
unit then puts back the words the class changed (R125). Model's choices in it: log entries 27 and 31. -/
def Obligations.ClassesAndBudgets : Prop :=
  (∀ (s : State) (core k t j : Nat) (js : List Nat) (ent : SlotEnt), core < 4 → s.grid.phase = 1 →
  let due := s.grid.freezeAt + 40000 + ent.start
  ((acOf s core).cls = none → (acOf s core).used = j :: js → (slotTable s core)[j]? = some ent → due ≤ t →
    (acOf s core).prevEnd ≤ t → completes (.acSlotStart core t) s fun u =>
      (acOf u core).cls = some ent.cls ∧ (acOf u core).used = js ∧ (acOf u core).service = false ∧
      (acOf u core).late = (if due < t then satAdd 0xFFFF (acOf s core).late 1 else (acOf s core).late) ∧
      (classOf u ent.cls).st = .running ∧ (classOf u ent.cls).since = t ∧ (∀ c, c ≠ core → acOf u c = acOf s c) ∧
      (due < t → flag (rd u Reg.FBX_EVT_STAT) 1 = true) ∧ onlyRegs [Reg.FBX_EVT_STAT, Reg.REC_EVT_STAT] s u) ∧
  ((acOf s core).cls = some k → (acOf s core).stalled = false → completes (.classEnd core 0 t) s fun u =>
    (acOf u core).cls = none ∧ (acOf u core).prevEnd = t ∧ u.sig.pend = s.sig.pend ++ (acOf s core).stores ∧
    (classOf u k).st = .done ∧ u.fbx.mem = s.fbx.mem ∧ (∀ c, c ≠ core → acOf u c = acOf s c) ∧
    onlyParts [.grid, .sig, .sched, .fbx] s u) ∧
  ((acOf s core).cls = none → completes (.servicePreempt core t) s fun u =>
    (acOf u core).service = false ∧ (∀ c, c ≠ core → acOf u c = acOf s c) ∧ onlyParts [.grid, .fbx] s u)) ∧
  (∀ (s : State) (e k t : Nat), e < 8 → s.grid.phase = 1 →
  let x := (leOf s e).s0
  (leOf s e).split = false → x.cls = some k → x.progs = [] → k ∉ x.queue → Tbl.wf (fun _ => none) x.hbuf = true →
  completes (.classEnd (4 + e) 0 t) s fun u =>
    u.sig.pend = s.sig.pend ++ x.stores ∧ (classOf u k).st = .done ∧
    (∀ c, tget 0 (leOf u e).hist c = (tget none x.hbuf c).getD (tget 0 (leOf s e).hist c)) ∧
    (∀ f, f ≠ e → leOf u f = leOf s f) ∧ onlyParts [.grid, .sig, .sched, .le, .fbx] s u) ∧
  (∀ (s : State) (part k t core : Nat) (c : ClassCfg) (r : RollJob) (rs : List RollJob),
  (s.grid.phase = 1 → budgetGone s part t = true → (s.cfg.classes.filter fun d => decide (d.2.part = part)) = [(k, c)] →
    classCfg s k = c → c.engine < 4 → (classOf s k).st = .running → (acOf s c.engine).cls = some k →
    completes (.budgetExhausted part t) s fun u =>
      (partOf u part).budget = 0 ∧ (classOf u k).st = .stopped ∧ (acOf u c.engine).cls = none ∧
      (acOf u c.engine).stores = [] ∧ (acOf u c.engine).rolls = (acOf s c.engine).rolls ++ [{ part := part, words := (acOf s c.engine).journal }] ∧
      rd u Reg.FRM_OVR_TOTAL = w32 (satAdd 0xFFFFFFFF (rd s Reg.FRM_OVR_TOTAL).toNat 1) ∧
      rd u Reg.FRM_LAST_OVR = w32 (2 ^ 31 + part * 2 ^ 20 + c.engine * 2 ^ 16 + k) ∧ u.sig = s.sig) ∧
  ((acOf s core).rolls = r :: rs → completes (.rollbackEnd core) s fun u =>
    u.fbx.mem = tsetAll 0 s.fbx.mem r.words ∧ acOf u core = { acOf s core with rolls := rs } ∧
    (∀ d, d ≠ core → acOf u d = acOf s d) ∧ onlyParts [.fbx] s u))

/-- AC_STORE (R53, R121–R126): a store to an endpoint that the class may write is held with the class; a word written to an undo area is
journaled once with its old value; a store that the directory does not allow is rejected and stops the class with cause 4, and
a fault of the core with its own cause. Model's choices in it: log entry 16. -/
def Obligations.AcStores : Prop := ∀ (s : State) (core k ep a addr t cause : Nat) (v : Tetrad) (w : Word) (d : DWord) (q : Qual),
  core < 4 → s.grid.phase = 1 → (acOf s core).cls = some k → (acOf s core).stalled = false →
  let part := (classCfg s k).part
  let x := acOf s core
  let faults := fun (op : AcOp) (raises : Option Nat) (n : Nat) => completes (.acStore core op raises addr t) s fun u =>
    (acOf u core).cls = none ∧ (acOf u core).stores = [] ∧ (classOf u k).st = .stopped ∧ (partOf u part).reactDue = true ∧
    rd u Reg.FBX_FAULT_LAST = w32 (n * 2 ^ 28 + core * 2 ^ 26 + part * 2 ^ 16 + k) ∧ rd u Reg.FBX_FAULT_ADDR = w32 addr ∧
    rd u Reg.FBX_FAULT_CNT = w32 (satAdd 0xFFFFFFFF (rd s Reg.FBX_FAULT_CNT).toNat 1) ∧ u.fbx.mem = s.fbx.mem ∧ u.sig = s.sig
  (storeOk s ep part = true → isBinary ep = true → completes (.acStore core (.bin ep v q) none addr t) s fun u =>
    acOf u core = { x with stores := x.stores ++ [{ ep := ep, tet := v, qual := q }] } ∧
    (∀ c, c ≠ core → acOf u c = acOf s c) ∧ onlyParts [.grid, .fbx] s u) ∧
  (storeOk s ep part = true → isBinary ep = false → completes (.acStore core (.ana ep w q) none addr t) s fun u =>
    acOf u core = { x with stores := x.stores ++ [{ ep := ep, val := w, qual := q }] } ∧
    (∀ c, c ≠ core → acOf u c = acOf s c) ∧ onlyParts [.grid, .fbx] s u) ∧
  (firstRefused s 0 (8 * a) 8 ((1 + core) * 128 + part) .write = none → rollingBack s part = false →
    areaKind s part a = some 2 → x.journal.length < 8192 → completes (.acStore core (.mem (8 * a) d) none addr t) s fun u =>
      tget 0 u.fbx.mem a = d ∧ (∀ b, b ≠ a → tget 0 u.fbx.mem b = tget 0 s.fbx.mem b) ∧
      (acOf u core).journal = (if (x.journal.lookup a).isNone then x.journal ++ [(a, tget 0 s.fbx.mem a)] else x.journal) ∧
      (acOf u core).stores = x.stores ∧ onlyRegs [Reg.FBX_JRNL_STATn core] s u ∧ onlyParts [.grid, .fbx, .rFBX] s u) ∧
  (storeOk s ep part = false → faults (.bin ep v q) none 4) ∧
  ((cause = 1 ∨ cause = 2 ∨ cause = 7) → faults (.bin ep v q) (some cause) cause)

/-- The library calls of R123: frame number, timestamp of the freeze with time quality, TB-L, side quality (a word that the spec does not
state where the entry has none), and REC_EVENT, a record with the class's words, at most 16 in one run. The telegram FIFO (R135–R137): TG_READ answers the next word of the class's partition, the end marker once the bank is closed or
at 360,000 ns, and stalls before; a stalled one returns when a word arrives; TG_DROP moves the cursor past the telegram read last. Model's choices in it: log entries 36, 37 and 38. -/
def Obligations.AcLibraryAndTelegrams : Prop :=
  (∀ (s : State) (core k ep sev : Nat) (ps : List Word), core < 4 → s.grid.phase = 1 →
  (acOf s core).cls = some k → (acOf s core).stalled = false →
  completes (.frameNow core) s (fun u => u = { s with resp := .value s.grid.frame }) ∧
  completes (.taiFreeze core) s (fun u =>
    u = { s with resp := .values [s.grid.freezeAt / 1000000000, s.grid.freezeAt % 1000000000, (rd s Reg.TIM_TQ).toNat] }) ∧
  completes (.monoNow core) s (fun u => u = { s with resp := .value s.grid.mono }) ∧
  (dSq (dirEntry s ep) = true → completes (.sqRead core ep) s fun u => u = { s with resp := .value (frozenSq s ep).toNat }) ∧
  (dSq (dirEntry s ep) = false → completes (.sqRead core ep) s fun u =>
    (∃ v, v < 2 ^ 16 ∧ u.resp = .value v) ∧ onlyParts [.resp, .freeN] s u) ∧
  ((acOf s core).recs < 16 → sev ≤ 1 → s.rcd.buf.length < 12288 → completes (.recEvent core sev ps) s fun u =>
    (∃ r, u.rcd.buf = s.rcd.buf ++ [r] ∧ r.sev = sev ∧ r.seq = s.rcd.seqNext ∧ r.part = (classCfg s k).part ∧
      r.p = (List.range 4).map fun i => (ps[i]?).getD 0) ∧
    acOf u core = { acOf s core with recs := (acOf s core).recs + 1 } ∧ onlyParts [.freeN, .rcd, .fbx] s u) ∧
  (16 ≤ (acOf s core).recs → completes (.recEvent core sev ps) s fun u => onlyParts [.fbx] s u)) ∧
  (∀ (s : State) (core k t : Nat) (w : DWord), core < 4 → s.grid.phase = 1 →
  (acOf s core).cls = some k →
  let x := acOf s core
  let part := (classCfg s k).part
  let cur := tget ({} : TgCursor) x.cursors part
  let others := fun (u : State) => (∀ c, c ≠ core → acOf u c = acOf s c) ∧ onlyParts [.resp, .grid, .fbx] s u
  let reads := fun (i : Instr) => completes i s fun u => u.resp = .value w.toNat ∧ (acOf u core).stalled = false ∧
    tget ({} : TgCursor) (acOf u core).cursors part = cur.step w ∧ (acOf u core).drain = x.drain ∧ others u
  (x.stalled = false → nextTgWord x part = some w → reads (.tgRead core t)) ∧
  (x.stalled = false → nextTgWord x part = none → (x.closed = true ∨ s.grid.freezeAt + 360000 ≤ t) →
    completes (.tgRead core t) s fun u => u.resp = .value (tgHeader 1 0xF part 0 0).toNat ∧ acOf u core = x ∧ others u) ∧
  (x.stalled = false → nextTgWord x part = none → x.closed = false → t < s.grid.freezeAt + 360000 →
    completes (.tgRead core t) s fun u => u.resp = .stall ∧ acOf u core = { x with stalled := true } ∧ others u) ∧
  (x.stalled = true → nextTgWord x part = some w → reads (.tgReadStallEnd core t)) ∧
  (x.stalled = false → completes (.tgDrop core) s fun u =>
    tget ({} : TgCursor) (acOf u core).cursors part = { taken := cur.taken + cur.left, left := 0 } ∧
    (acOf u core).drain = x.drain ∧ others u))

/-! ### Sampled values and phasor engines -/

/-- SV_MESSAGE (R145–R150): one that no subscription matches is dropped; one with a cause of R145 is counted and sets the cause; a sample of a
synchronised stream that is neither early nor late is placed in the ring at its number, with its channels and its lag. SAMPLE_TICK (R151–R153): with one subscribed stream and idle engines, the sample whose turn it is becomes the shown one and ends a gap; a
single missing sample between two received ones is interpolated. The timeouts of a stream (R155): a gap or a wait that has lasted the loss time makes it LOST, a cause that has persisted makes it ERROR.
SVI_CMD.CLR_CNT (R160) clears the counters of the block and of every stream. Model's choices in it: log entries 41 and 43. -/
def Obligations.SvStreams : Prop :=
  (∀ (s : State) (m : SvMsg) (k t : Nat) (x : SvStream) (a : SvAsdu), s.svi.run = true →
  (svMatch s m = none → completes (.svMessage m t) s fun u =>
    rd u Reg.SVI_DROP_CNT = w32 (satAdd 0xFFFFFFFF (rd s Reg.SVI_DROP_CNT).toNat 1) ∧ onlyParts [.grid, .rSVI] s u) ∧
  (svMatch s m = some k → svStream s k = some x → svCause (svCfg s k) m ≠ 0 → completes (.svMessage m t) s fun u =>
    svStream u k = some { x with err := svCause (svCfg s k) m, errSince := some (x.errSince.getD t) } ∧
    (∀ j, j ≠ k → svStream u j = svStream s j) ∧
    rd u Reg.SVI_FMT_CNT = w32 (satAdd 0xFFFFFFFF (rd s Reg.SVI_FMT_CNT).toNat 1) ∧ onlyRegs [Reg.SVI_FMT_CNT] s u) ∧
  (let c := svCfg s k
   let arr := svArrival s c t
   let n := svNearest (svRate c.format) arr a.smpCnt
   svMatch s m = some k → svStream s k = some x → svCause c m = 0 → m.asdus = [a] → x.anch = 0 → svSynced a.smpSynch = true →
   s.grid.neverSync = false → n ≤ arr + 1 → t < tickStart s (svDeadline c n) →
   (∀ z, tget none x.ring (n % ringDepth s) = some z → z.n = n → z.st ≠ 0) → completes (.svMessage m t) s fun u =>
    ∃ y z, svStream u k = some y ∧ tget none y.ring (n % ringDepth s) = some z ∧ z.n = n ∧ z.st = 0 ∧ z.at0 = t ∧
      z.synch = a.smpSynch ∧ z.chans = a.chans.zipIdx.map (fun p => svChan c true p.2 p.1) ∧
      (∀ i, i ≠ n % ringDepth s → tget none y.ring i = tget none x.ring i) ∧
      y.lag = min 0xFFFF ((t - svInstant s c n) / 1000) ∧ y.state = x.state ∧ (∀ j, j ≠ k → svStream u j = svStream s j) ∧
      u.svi.rxSec = s.svi.rxSec + 1 ∧ onlyParts [.grid, .svi] s u)) ∧
  (∀ (s : State) (k t : Nat) (x : SvStream) (z a b : SvSlot),
  let j := tickAt s t
  let n := j - (svCfg s k).deadline - 1
  s.svi.run = true → s.svi.streams = [(k, some x)] → (svCfg s k).format ≠ 5 → (svCfg s k).deadline + 1 ≤ j → x.first ≤ n →
  j ≠ s.grid.tick → (∀ e, e < 6 → (peEng s e).st = 0) →
  (slotOf s x.ring n = some z → z.st = 0 → completes (.sampleTick [] t) s fun u => u.grid.tick = j ∧
    ∃ y, svStream u k = some y ∧ y.state = 2 ∧ y.shown = some z ∧ y.inGap = false ∧ y.runlen = satAdd 0xFFFF x.runlen 1 ∧
      y.unsync = !svSynced z.synch ∧ y.ring = x.ring) ∧
  (slotOf s x.ring n = none → slotOf s x.ring (n - 1) = some a → slotOf s x.ring (n + 1) = some b → a.st = 0 → b.st = 0 → n ≠ 0 →
    completes (.sampleTick [] t) s fun u => u.grid.tick = j ∧ flag (rd u Reg.SVI_EVT_STAT) 0 = true ∧
    ∃ y, svStream u k = some y ∧ y.state = x.state ∧ y.shown = some (interpSlot n a b) ∧ y.interp = satAdd 0xFFFFFFFF x.interp 1 ∧
      tget none y.ring (n % ringDepth s) = some (interpSlot n a b))) ∧
  (∀ (s : State) (k t e : Nat) (x : SvStream) (c : Cmd),
  (svStream s k = some x → (x.state = 1 ∨ x.state = 3) → x.since + (svCfg s k).lostms * 1000000 ≤ t →
    completes (.streamLossTimeout k t) s fun u => svStream u k = some { x with state := 4, since := t } ∧
      flag (rd u Reg.SVI_EVT_STAT) 3 = true ∧ (∀ j, j ≠ k → svStream u j = svStream s j)) ∧
  (svStream s k = some x → x.state ≠ 5 → x.errSince = some e → e + (svCfg s k).lostms * 1000000 ≤ t →
    completes (.streamErrorTimeout k t) s fun u => svStream u k = some { x with state := 5, since := t } ∧
      flag (rd u Reg.SVI_EVT_STAT) 4 = true ∧ (∀ j, j ≠ k → svStream u j = svStream s j)) ∧
  (takes s Reg.SVI_CMD 0 c → completes (.sviClrCnt c) s fun u =>
    rd u Reg.SVI_RX_CNT = 0 ∧ rd u Reg.SVI_DROP_CNT = 0 ∧ rd u Reg.SVI_FMT_CNT = 0 ∧ u.svi.rxSec = 0 ∧
    (∀ j, svStream u j = (svStream s j).map fun y => { y with
      miss := 0, interp := 0, gaps := 0, late := 0, early := 0, dup := 0, anchors := 0, lagPeak := 0 }) ∧
    onlyRegs [Reg.SVI_RX_CNT, Reg.SVI_DROP_CNT, Reg.SVI_FMT_CNT, Reg.REC_EVT_STAT] s u))

/-- The supervision of a phasor engine (R167, R197): an overrun stops the pass, skips the elements from where it stands and is counted, the third
within 2,400 frames fails the engine with cause 1; a pass that stands at the end of its tick fails it with cause 0. PE_CTRL.CLR_CNT
(R200) clears the engine's counters. Prompt routes (R58, R59): a route that nothing holds back drives its endpoint for the minimum pulse and is counted; a forced endpoint
stays; an assertion whose trip is off ends with its minimum pulse. Model's choices in it: log entries 28, 29, 46 and 47. -/
def Obligations.PhasorEngines : Prop :=
  (∀ (s : State) (e k t : Nat) (c : Cmd), e < 6 →
  let x := peEng s e
  let recent := x.ovrs.filter fun f => decide (s.grid.frame - f ≤ 2399)
  let rest := (peSlots s e).filter fun i => decide (k ≤ i)
  (x.pass = some k → recent.length < 2 → completes (.pePassOverrun e t) s fun u =>
    (peEng u e).pass = none ∧ (peEng u e).ovrs = s.grid.frame :: recent ∧ (peEng u e).ovrCnt = satAdd 0xFFFF x.ovrCnt 1 ∧
    (peEng u e).skips = satAdd 0xFFFF x.skips rest.length ∧ (peEng u e).st = x.st ∧ (∀ i ∈ rest, (elemOf u e i).skipped = true) ∧
    flag (rd u (Reg.PE_EVT_STAT e)) 0 = true ∧ ∀ f, f ≠ e → peEng u f = peEng s f) ∧
  (x.pass = some k → 2 ≤ recent.length → x.st = 2 → completes (.pePassOverrun e t) s fun u =>
    (peEng u e).st = 3 ∧ (peEng u e).cause = 1 ∧ (peEng u e).pass = none ∧ flag (rd u (Reg.PE_EVT_STAT e)) 7 = true ∧
    ∀ f, f ≠ e → peEng u f = peEng s f) ∧
  (x.pass = some k → x.st = 2 → completes (.pePostDeadline e t) s fun u =>
    (peEng u e).st = 3 ∧ (peEng u e).cause = 0 ∧ (peEng u e).pass = none ∧ flag (rd u (Reg.PE_EVT_STAT e)) 7 = true ∧
    ∀ f, f ≠ e → peEng u f = peEng s f) ∧
  (takes s (Reg.PE_CTRL e) 0 c → completes (.peClrCnt e c) s fun u =>
    peEng u e = { x with peaks := [], ovrCnt := 0, skips := 0, eccRing := 0, eccLocal := 0 } ∧
    (∀ f, f ≠ e → peEng u f = peEng s f) ∧ onlyRegs [Reg.REC_EVT_STAT] s u)) ∧
  (∀ (s : State) (e r ep key t : Nat) (v : Tetrad) (h : PromptHold),
  (forceOf s ep = none → tover v = false → let u := fireRoute s e r ep v
    tget none u.sched.prompts (routeKey e r) = some { ep := ep, pe := e, till := s.grid.now + (s.cfg.minpulse * 1250000 + 2) / 3, tripOn := true } ∧
    rd u Reg.FRM_PROMPT_CNT = w32 (satAdd 0xFFFFFFFF (rd s Reg.FRM_PROMPT_CNT).toNat 1) ∧
    flag (rd u Reg.FRM_EVT_STAT) 4 = true ∧ u.sig = s.sig) ∧
  (forceOf s ep ≠ none → let u := fireRoute s e r ep v
    u.sched = s.sched ∧ flag (rd u Reg.FRM_EVT_STAT) 5 = true ∧ u.sig = s.sig) ∧
  (tget none s.sched.prompts key = some h → h.tripOn = false → h.till ≤ t → completes (.promptMinpulseEnd key t) s fun u =>
    tget none u.sched.prompts key = none ∧ (∀ j, j ≠ key → tget none u.sched.prompts j = tget none s.sched.prompts j) ∧
    onlyParts [.grid, .sched, .lio] s u ∧ (btype (dirEntry s h.ep) ≠ 3 → onlyParts [.grid, .sched] s u)))

/-! ### Forces and on-line change -/

/-- Force requests (R217, R219): on a module that leads alone, a request that no rule refuses waits as accepted with the endpoint, value and
expiry of the request registers; one without the engineer role is refused with code 6. The effect of accepted requests (R217–R219): at the freeze of frame k + 2 a force on a source takes the lowest free entry, at the commit one
on an internal or sink endpoint, whose committed tetrad is then the forced one; a release empties its entry. A force whose
last frame has come is released (R221). Model's choices in it: log entry 54. -/
def Obligations.Forces : Prop :=
  (∀ (s : State) (c : Cmd),
  let r := fun (k : Nat) => ({ kind := k, ep := field (rd s Reg.FRC_REQ_EP) 18 0, val := rd s Reg.FRC_REQ_VAL, exp := field (rd s Reg.FRC_REQ_EXP) 26 0, session := c.session, frame := s.grid.frame } : ForceReq)
  let waits := fun (i : Instr) (k : Nat) => takes s Reg.FRC_CMD k c → hasRole s c.session 2 = true → s.pair.role = .solo →
    forceRefusal s (r k) = 0 → completes i s fun u =>
      u.frc.reqs = s.frc.reqs ++ [{ r k with accepted := true }] ∧ u.frc.table = s.frc.table ∧ onlyRegs [Reg.REC_EVT_STAT] s u
  let denied := fun (i : Instr) (k : Nat) => takes s Reg.FRC_CMD k c → hasRole s c.session 2 = false → completes i s fun u =>
    u.frc = s.frc ∧ field (rd u Reg.FRC_STAT) 27 24 = 6 ∧ flag (rd u Reg.FRC_EVT_STAT) 2 = true ∧ u.resp = .refused 6
  waits (.forceSet c) 0 ∧ waits (.forceRelease c) 1 ∧ waits (.forceReleaseAll c) 2 ∧
  denied (.forceSet c) 0 ∧ denied (.forceRelease c) 1 ∧ denied (.forceReleaseAll c) 2) ∧
  (∀ (s : State) (r : ForceReq) (i t n : Nat) (f : Force),
  let g : Force := { ep := r.ep, val := r.val, session := r.session, till := if r.exp = 0 then none else some (s.grid.frame + r.exp) }
  (s.frc.reqs = [r] → r.accepted = true → r.frame + 2 ≤ s.grid.frame → r.kind = 0 → dSafety (dirEntry s r.ep) = false →
    forceIdx s r.ep = none → freeForce s = some i → s.grid.phase = 0 → isSource s r.ep = true → completes (.forceEffect t) s fun u =>
      tget none u.frc.table i = some g ∧ (∀ j, j ≠ i → tget none u.frc.table j = tget none s.frc.table j) ∧
      flag (rd u Reg.FRC_EVT_STAT) 0 = true ∧ rd u Reg.FRC_LAST_LO = w32 s.grid.frame ∧ u.sig = s.sig) ∧
  (s.frc.reqs = [r] → r.accepted = true → r.frame + 2 ≤ s.grid.frame → r.kind = 0 → dSafety (dirEntry s r.ep) = false →
    forceIdx s r.ep = none → freeForce s = some i → s.grid.phase = 3 → isSource s r.ep = false → isBinary r.ep = true →
    completes (.forceEffect t) s fun u =>
      tget none u.frc.table i = some g ∧ (∀ j, j ≠ i → tget none u.frc.table j = tget none s.frc.table j) ∧
      tget 0x7#4 u.sig.committed.bin r.ep = forcedTet g ∧ u.frc.reqs = [] ∧ flag (rd u Reg.FRC_EVT_STAT) 0 = true) ∧
  (s.frc.reqs = [r] → r.accepted = true → r.frame + 2 ≤ s.grid.frame → r.kind = 1 → forceIdx s r.ep = some i →
    tget none s.frc.table i = some f → s.grid.phase = 0 → isSource s r.ep = true → completes (.forceEffect t) s fun u =>
      tget none u.frc.table i = none ∧ (∀ j, j ≠ i → tget none u.frc.table j = tget none s.frc.table j) ∧
      flag (rd u Reg.FRC_EVT_STAT) 1 = true) ∧
  (s.frc.table = [(i, some f)] → f.till = some n → n ≤ s.grid.frame → completes (.forceExpiry t) s fun u =>
    u.frc.table = [] ∧ flag (rd u Reg.FRC_EVT_STAT) 3 = true ∧ u.frc.reqs = s.frc.reqs))

/-- Preparing a change (R201–R203, R207): OLC_LOAD takes the image and its mapping table into the shadow bank; verification reaches PREPARED, or
discards the image with the code of its failure; ABORT discards a prepared one; a session without the engineer role is refused. Arming, the window and its end (R204–R207, R213, R214): ARM names the frame of OLC_ARM on a SOLO module; DISARM goes back to PREPARED; in the
window REVERT takes effect 24 frames later, and ACCEPT, or the end of the window, discards the previous configuration. Model's choices in it: log entries 18 and 51. -/
def Obligations.OlcPrepares : Prop :=
  (∀ (s : State) (session kib : Nat) (img : Image) (map : List MapEnt) (ok : Bool) (crc : Word) (c : Cmd),
  (olcMay s session = true → (s.olc.stage = 0 ∨ s.olc.stage = 2 ∧ s.olc.shadow.map (·.id) = some img.id) → s.upd.slotA.state ≠ 2 →
    s.upd.slotB.state ≠ 2 → completes (.olcLoad session img map kib) s fun u =>
      u.olc.stage = 1 ∧ u.olc.shadow = some img ∧ u.olc.map = map ∧ u.olc.verified = false ∧ onlyParts [.olc, .sess] s u) ∧
  (olcMay s session = false → completes (.olcLoad session img map kib) s fun u =>
    u.olc = s.olc ∧ field (rd u Reg.OLC_STAT) 23 20 = 10 ∧ flag (rd u Reg.OLC_EVT_STAT) 5 = true) ∧
  (s.olc.shadow = some img → s.olc.stage = 1 → verifyCode s img ok = 0 → s.pair.role = .solo → completes (.olcVerify ok crc) s fun u =>
    u.olc.stage = 2 ∧ u.olc.verified = true ∧ u.olc.crc = crc ∧ u.olc.shadow = some img ∧ flag (rd u Reg.OLC_EVT_STAT) 0 = true) ∧
  (s.olc.shadow = some img → s.olc.stage = 1 → verifyCode s img ok ≠ 0 → completes (.olcVerify ok crc) s fun u =>
    u.olc.stage = 0 ∧ u.olc.shadow = none ∧ field (rd u Reg.OLC_STAT) 23 20 = verifyCode s img ok) ∧
  (takes s Reg.OLC_CMD 1 c → olcMay s c.session = true → s.olc.stage = 2 → completes (.olcAbort c) s fun u =>
    u.olc.stage = 0 ∧ u.olc.shadow = none ∧ u.olc.map = [] ∧ u.cfg = s.cfg)) ∧
  (∀ (s : State) (img : Image) (t : Nat) (c : Cmd),
  (takes s Reg.OLC_CMD 2 c → olcMay s c.session = true → s.olc.stage = 2 → s.olc.shadow = some img → s.pair.role = .solo →
    armRefusal s img (flag c.value 6) = 0 → completes (.olcArm c) s fun u =>
      u.olc.stage = 3 ∧ u.olc.arm = armFrame s ∧ u.olc.relforce = flag c.value 6 ∧ u.olc.shadow = some img) ∧
  (takes s Reg.OLC_CMD 2 c → olcMay s c.session = true → s.olc.stage = 2 → s.olc.shadow = some img →
    armRefusal s img (flag c.value 6) ≠ 0 → completes (.olcArm c) s fun u =>
      u.olc = s.olc ∧ field (rd u Reg.OLC_STAT) 23 20 = armRefusal s img (flag c.value 6)) ∧
  (takes s Reg.OLC_CMD 3 c → olcMay s c.session = true → s.olc.stage = 3 → completes (.olcDisarm c) s fun u =>
    u.olc = { s.olc with stage := 2 } ∧ flag (rd u Reg.OLC_EVT_STAT) 1 = true) ∧
  (takes s Reg.OLC_CMD 4 c → olcMay s c.session = true → s.olc.stage = 4 → completes (.olcRevert c) s fun u =>
    u.olc = { s.olc with stage := 5, revertAt := s.grid.frame + 24 }) ∧
  (takes s Reg.OLC_CMD 4 c → olcMay s c.session = true → s.olc.stage ≠ 4 → completes (.olcRevert c) s fun u =>
    u.olc = s.olc ∧ field (rd u Reg.OLC_STAT) 23 20 = 12) ∧
  (takes s Reg.OLC_CMD 5 c → olcMay s c.session = true → s.olc.stage = 4 → completes (.olcAccept c) s fun u =>
    u.olc.stage = 0 ∧ u.olc.shadow = none ∧ u.cfg = s.cfg ∧ flag (rd u Reg.OLC_EVT_STAT) 4 = true) ∧
  (s.olc.stage = 4 → s.olc.windowEnd ≤ s.grid.frame → completes (.olcWindowExpiry t) s fun u =>
    u.olc.stage = 0 ∧ u.olc.shadow = none ∧ u.cfg = s.cfg ∧ flag (rd u Reg.OLC_EVT_STAT) 4 = true))

/-- The switch of configurations (R205, R209, R213): at the freeze of the armed frame the new image is in force with the cells and words that its
mapping table keeps, and the old one is kept for the window; REVERT puts it back with the inverse mapping. The steps that persist a new configuration (R215), on a module that leads: the retained copies are rewritten whole, and the slot-memory copies
take the running configuration. Model's choices in it: log entries 26, 52 and 53. -/
def Obligations.OlcSwitches : Prop :=
  (∀ (s : State) (img : Image) (t : Nat), s.olc.shadow = some img → s.grid.phase = 0 →
  (s.olc.stage = 3 → s.olc.arm = s.grid.frame → touchesSafety s.cfg img = false → s.pair.role ≠ .standby →
    completes (.olcCommit t) s fun u => u.cfg = img ∧ u.olc.stage = 4 ∧ u.olc.shadow = some s.cfg ∧ u.olc.slotw = 1 ∧
      u.olc.windowEnd = s.grid.frame + field (rd s Reg.OLC_REVWIN) 11 0 * 2400 ∧ flag (rd u Reg.OLC_EVT_STAT) 2 = true ∧
      (∀ e, e < 8 → (leOf u e).hist = mappedCells s s.olc.map e) ∧ u.fbx.mem = mappedWords s s.olc.map s.cfg img) ∧
  (s.olc.stage = 5 → s.olc.revertAt ≤ s.grid.frame → completes (.revertEffect t) s fun u =>
    u.cfg = img ∧ u.olc.stage = 0 ∧ u.olc.shadow = none ∧ flag (rd u Reg.OLC_EVT_STAT) 3 = true ∧
      (∀ e, e < 8 → (leOf u e).hist = mappedCells s (s.olc.map.map MapEnt.inverse) e))) ∧
  (∀ (s : State) (t : Nat), s.pair.role.leads = true →
  (s.olc.slotw = 1 → completes (.persistStepEnd t) s fun u =>
    u.fbx.copyA = fullCopy s ∧ u.fbx.copyB = s.fbx.copyB ∧ u.olc.slotw = 2 ∧ u.upd = s.upd) ∧
  (s.olc.slotw = 2 → completes (.persistStepEnd t) s fun u =>
    u.upd.copyA = nextSlotCopy s ∧ u.upd.copyB = s.upd.copyB ∧ u.olc.slotw = 3 ∧ u.fbx = s.fbx) ∧
  (s.olc.slotw = 3 → completes (.persistStepEnd t) s fun u =>
    u.fbx.copyB = fullCopy s ∧ u.fbx.copyA = s.fbx.copyA ∧ u.olc.slotw = 4 ∧ u.upd = s.upd) ∧
  (s.olc.slotw = 4 → completes (.persistStepEnd t) s fun u =>
    u.upd.copyB = s.upd.copyA ∧ u.upd.copyA = s.upd.copyA ∧ u.olc.slotw = 5 ∧ flag (rd u Reg.OLC_EVT_STAT) 6 = true))

/-! ### The pair -/

/-- The clasp lines (R236, R243–R245): a standby whose GRANT rises with PGRANT long low holds the grant unplanned; GRANT with PGRANT fails the clasp with
cause 4; KILL starts its wait; a kill state held one frame without the grant closes the gates, stops the heartbeats and leads to
OFFLINE; complementary lines that agree fail the clasp; the failure clears 2,400 frames later with the grant as the role has it. PAIR_CMD.REJOIN and CLR_CNT (R232, R249, R277). Model's choices in it: log entries 18 and 56. -/
def Obligations.ClaspAndPairCommands : Prop :=
  (∀ (s : State) (l : ClaspLines) (t k : Nat),
  let p := s.pair
  (p.claspFail = false → p.role = .standby → p.lines.granted = false → p.lines.killed = false → p.lines.pgrant = false →
    p.lines.ready = true → p.pgrantAt + 420000 ≤ t → p.sw = none → l = { grant := true, grantN := false } →
    completes (.grantLineChange l t) s fun u =>
      u.pair.granted = true ∧ u.pair.unplanned = true ∧ u.pair.grantAt = t ∧ u.pair.grantLatch = true ∧ u.pair.role = .standby ∧ u.sig = s.sig) ∧
  (p.claspFail = false → p.lines.killed = false → p.lines.granted = false →
    l = { grant := true, grantN := false, pgrant := true } → completes (.grantLineChange l t) s fun u =>
      u.pair.claspFail = true ∧ u.pair.claspFrame = s.grid.frame ∧ field (rd u Reg.PAIR_CLASP_STAT) 31 28 = 4 ∧
      u.pair.granted = s.pair.granted ∧ flag (rd u Reg.PAIR_EVT_STAT) 6 = true) ∧
  (p.claspFail = false → p.lines.killed = false → p.lines.granted = false → l = { kill := true, killN := false } →
    completes (.killLineChange l t) s fun u => u.pair.killAt = some t ∧ u.pair.killq = p.killq ∧ u.pair.role = p.role) ∧
  (p.claspFail = false → p.killAt = some k → p.killq = false → p.lines.killed = true → p.lines.granted = false → p.next = none →
    1250000 ≤ 3 * (t - max k p.grantLostAt) → completes (.killQualified t) s fun u =>
      u.pair.killq = true ∧ u.pair.gatesOff = true ∧ u.pair.hbStopped = true ∧ u.pair.next = some (.offline, 14) ∧
      field (rd u Reg.PAIR_KILL_CNT) 31 16 = satAdd 0xFFFF (field (rd s Reg.PAIR_KILL_CNT) 31 16) 1 ∧ flag (rd u Reg.PAIR_EVT_STAT) 4 = true) ∧
  (p.claspFail = false → p.lines.grant = p.lines.grantN → completes (.claspFail 2 t) s fun u =>
    u.pair.claspFail = true ∧ u.pair.claspFrame = s.grid.frame ∧ field (rd u Reg.PAIR_CLASP_STAT) 31 28 = 2 ∧
    flag (rd u Reg.PAIR_EVT_STAT) 6 = true) ∧
  (p.claspFail = true → p.claspFrame + 2400 ≤ s.grid.frame → p.lines.granted = p.role.leads → completes (.claspFailClear t) s fun u =>
    u.pair = { p with claspFail := false, granted := p.lines.granted } ∧ flag (rd u Reg.PAIR_EVT_STAT) 7 = true)) ∧
  (∀ (s : State) (c : Cmd),
  (takes s Reg.PAIR_CMD 1 c → s.pair.role = .standby → s.pair.next = none → completes (.pairRejoin c) s fun u =>
    u.pair = { s.pair with learnFail := 0, next := some (.offline, 7), rejoinAt := some (s.grid.frame + 2) } ∧
    field (rd u Reg.PAIR_HM_STAT) 29 29 = 0) ∧
  (takes s Reg.PAIR_CMD 1 c → s.pair.role = .solo → completes (.pairRejoin c) s fun u => u.pair = { s.pair with learnFail := 0 }) ∧
  (takes s Reg.PAIR_CMD 2 c → completes (.pairClrCnt c) s fun u =>
    rd u Reg.PAIR_SW_CNT = 0 ∧ rd u Reg.PAIR_GAP_MAX = 0 ∧ rd u Reg.PAIR_KILL_CNT = 0 ∧ rd u Reg.PAIR_LINK_CNT = 0 ∧
    rd u Reg.PAIR_ALIGN_CNT = 0 ∧ rd u Reg.PAIR_HM_CNT = 0 ∧ field (rd u Reg.PAIR_CLASP_STAT) 15 0 = 0 ∧
    field (rd u Reg.PAIR_CLASP_STAT) 31 28 = field (rd s Reg.PAIR_CLASP_STAT) 31 28 ∧
    onlyRegs [Reg.PAIR_SW_CNT, Reg.PAIR_GAP_MAX, Reg.PAIR_KILL_CNT, Reg.PAIR_LINK_CNT, Reg.PAIR_ALIGN_CNT, Reg.PAIR_HM_CNT,
      Reg.PAIR_CLASP_STAT, Reg.REC_EVT_STAT] s u))

/-- Takeovers (R229, R237): a standby that holds the grant unplanned becomes ACTIVE at the boundary, its sealed image goes to the distribute role
and the takeover is counted with its gap; a LEARNING or DETACHED module with the grant warm-restarts and becomes ACTIVE. Planned switchovers (R240, R241, R249): PAIR_CMD.SWITCH names the frame three frames later, or is refused with its code; 100 µs after the freeze of
that frame a move of the grant that was seen changes the roles, the outgoing module to STANDBY and the incoming one to ACTIVE; a
move not seen ends the switchover with code 3. Model's choices in it: log entries 18, 55 and 57. -/
def Obligations.TakeoversAndSwitchovers : Prop :=
  (∀ (s : State) (gap t : Nat), s.pair.granted = true → s.pair.claspFail = false →
  (s.pair.role = .standby → s.pair.unplanned = true → s.pair.grantAt + 50000 ≤ s.grid.freezeAt → completes (.takeover gap t) s fun u =>
    u.pair.role = .active ∧ u.pair.since = s.grid.frame ∧ u.pair.unplanned = false ∧ u.sig.distribute = s.sig.committed ∧
    u.sig.committed = s.sig.committed ∧ field (rd u Reg.PAIR_SW_CNT) 31 16 = satAdd 0xFFFF (field (rd s Reg.PAIR_SW_CNT) 31 16) 1 ∧
    rd u Reg.PAIR_LAST_SW = w32 (2 ^ 29 + min gap (2 ^ 18 - 1)) ∧ flag (rd u Reg.PAIR_EVT_STAT) 1 = true) ∧
  ((s.pair.role = .learning ∨ s.pair.role = .detached) → completes (.warmTakeover gap t) s fun u =>
    u.pair.role = .active ∧ u.pair.next = none ∧ rd u Reg.PAIR_LAST_SW = w32 (6 * 2 ^ 29 + min gap (2 ^ 18 - 1)) ∧
    flag (rd u Reg.PAIR_EVT_STAT) 1 = true)) ∧
  (∀ (s : State) (c : Cmd) (w : Switchover) (t : Nat),
  (takes s Reg.PAIR_CMD 0 c → hasRole s c.session 2 = true → switchRefusal s 3 = 0 → completes (.pairSwitch c) s fun u =>
    u.pair = { s.pair with sw := some { h := s.grid.frame + 3, kind := 3, start := s.grid.frame } } ∧
    u.sent = s.sent ++ [{ bus := 0, kind := 0x30, data := [1, s.grid.frame + 3, 3] }]) ∧
  (takes s Reg.PAIR_CMD 0 c → hasRole s c.session 2 = true → switchRefusal s 3 ≠ 0 → completes (.pairSwitch c) s fun u =>
    u.pair = s.pair ∧ field (rd u Reg.PAIR_STAT) 19 16 = switchRefusal s 3 ∧ flag (rd u Reg.PAIR_EVT_STAT) 3 = true) ∧
  (s.pair.sw = some w → s.grid.frame = w.h → s.grid.freezeAt + 100000 ≤ t → w.confirmed = true → s.pair.claspFail = false →
    w.outgoing = true → w.kind = 3 → s.pair.role = .active → s.pair.lines.granted = false → s.pair.lines.pgrant = true →
    completes (.switchoverEval t) s fun u => u.pair.role = .standby ∧ u.pair.since = w.h ∧ u.pair.sw = none ∧
      u.pair.ho = some { h := w.h, outgoing := true } ∧ u.pair.lines.yield = false) ∧
  (s.pair.sw = some w → s.grid.frame = w.h → s.grid.freezeAt + 100000 ≤ t → w.confirmed = true → s.pair.claspFail = false →
    w.outgoing = false → s.pair.role = .standby → s.pair.lines.granted = true → s.pair.lines.pgrant = false →
    completes (.switchoverEval t) s fun u => u.pair.role = .active ∧ u.pair.since = w.h ∧ u.pair.sw = none ∧
      u.pair.ho = some { h := w.h, outgoing := false }) ∧
  (s.pair.sw = some w → s.grid.frame = w.h → s.grid.freezeAt + 100000 ≤ t → w.kind = 3 → w.outgoing = true →
    s.pair.lines.granted = true → completes (.switchoverEval t) s fun u =>
      u.pair = { s.pair with sw := none, lines := { s.pair.lines with yield := false } } ∧ field (rd u Reg.PAIR_STAT) 19 16 = 3))

/-- Joining and learning attempts (R229–R232, R263): JOIN raises READY and starts the wait; a module in JOIN learns from a partner that leads with the
same image, and leads with the grant once its wait is over; an attempt that lasts more than 14,400 frames fails; the retry and the
re-learn enter JOIN again. Losing and regaining the partner (R229, R231, R252, R254): a lost lane brings the link down; a standby is DETACHED 8 frames later, and learns again once
the link has been up 240 frames; 24 frames of grid deviation make it learn again; an ACTIVE module whose partner is absent is SOLO. Model's choices in it: log entry 55. -/
def Obligations.JoinAndLoss : Prop :=
  (∀ (s : State) (t f : Nat),
  let p := s.pair
  (stage s = 4 → p.role = .offline → p.learnFail < 3 → p.retryAt = none → p.rejoinAt = none → s.slot.removal = false →
    p.joinSince = none → joinMismatch s = false → completes (.joinDecision t) s fun u =>
      u.pair.joinSince = some s.grid.frame ∧ u.pair.lines.ready = true ∧ u.pair.role = .offline) ∧
  (stage s = 4 → p.role = .offline → p.learnFail < 3 → p.retryAt = none → p.rejoinAt = none → s.slot.removal = false →
    p.joinSince = some f → joinMismatch s = false → p.partner.reported = true → p.partner.role = 2 → p.next = none →
    completes (.joinDecision t) s fun u => u.pair = { p with next := some (.learning, 2) }) ∧
  (stage s = 4 → p.role = .offline → s.slot.removal = false → p.joinSince = some f → s.cfg.joinwait ≤ s.grid.frame - f →
    p.partner.reported = false → p.granted = true → p.next = none → completes (.joinWaitExpiry t) s fun u =>
      u.pair = { p with next := some (.solo, 1) }) ∧
  (p.role = .learning → p.learn.start + 14400 < s.grid.frame → p.next = none → completes (.learnTimeout t) s fun u =>
    u.pair.next = some (.offline, 5) ∧ u.pair.learnFail = min 3 (p.learnFail + 1) ∧ u.pair.learn.phase = 7 ∧
    u.pair.retryAt = (if p.learnFail < 2 then some (s.grid.frame + 2400) else none) ∧ flag (rd u Reg.PAIR_EVT_STAT) 9 = true) ∧
  (p.retryAt = some f → f ≤ s.grid.frame → p.role = .offline → completes (.joinRetry t) s fun u =>
    u.pair.joinSince = some s.grid.frame ∧ u.pair.retryAt = none ∧ stage u = 4) ∧
  (p.rejoinAt = some f → f ≤ s.grid.frame → p.role = .offline → completes (.reLearn t) s fun u =>
    u.pair.joinSince = some s.grid.frame ∧ u.pair.rejoinAt = none ∧ stage u = 4 ∧ u.sig.committed = {} ∧ u.sig.roles = s.sig.roles)) ∧
  (∀ (s : State) (lane t f : Nat),
  let p := s.pair
  (lane < 4 → p.linkUp = true → p.role = .standby → completes (.tokelLinkLost lane t) s fun u =>
    u.pair.linkUp = false ∧ u.pair.upFrames = 0 ∧ u.pair.lostAt = some s.grid.frame ∧ lane ∉ u.pair.lanesIn ∧
    field (rd u Reg.PAIR_LINK_CNT) 15 0 = satAdd 0xFFFF (field (rd s Reg.PAIR_LINK_CNT) 15 0) 1 ∧ flag (rd u Reg.PAIR_AEVT_STAT) 4 = true) ∧
  (p.lostAt = some f → p.role = .standby → f + 8 ≤ s.grid.frame → p.granted = false → p.linkUp = false → p.next = none →
    completes (.detachWaitEnd t) s fun u => u.pair = { p with lostAt := none, next := some (.detached, 10) }) ∧
  (p.role = .detached → 240 ≤ p.upFrames → p.next = none → completes (.linkUpCount t) s fun u =>
    u.pair = { p with next := some (.learning, 11) }) ∧
  (24 ≤ p.gridBad → p.next = none → completes (.gridDeviation t) s fun u =>
    u.pair = { p with next := some (.offline, 7), rejoinAt := some (s.grid.frame + 2) } ∧ flag (rd u Reg.PAIR_AEVT_STAT) 7 = true) ∧
  (p.present = true → p.role = .active → p.next = none → completes (.partnerPresence false t) s fun u =>
    u.pair = { p with present := false, partner := {}, next := some (.solo, 14) }))

/-- The Tokel link in the align phase (R252, R255–R260): FMARK gives the partner's report and the measured offset; equal digests leave nothing to ask;
the active repairs what it is asked; the standby takes the repair into its working bank; the partner's hallmark waits for the comparison. CTRL messages (R539): the partner's answer confirms a switchover, its confirmation arms a change, and it gives the frame of a common restart. Model's choices in it: log entry 58. -/
def Obligations.LinkAlignment : Prop :=
  (∀ (s : State) (m : Fmark) (t ep : Nat) (needs : List BlockNeed) (lag : List Nat) (r : SrcRec) (part : Nat)
    (hm : Hallmark),
  (m.lane < 4 → completes (.linkFmark m t) s fun u =>
    u.pair.partner.role = m.report.role ∧ u.pair.partner.image = m.report.image ∧ u.pair.partner.base = m.base ∧
    u.pair.partner.olc = m.olc ∧ u.pair.partner.health = m.health ∧ u.pair.partner.fmarkFrame = some m.frame ∧
    m.lane ∈ u.pair.lanesIn ∧ u.grid.gridOfs = m.ofs ∧ rd u Reg.PAIR_LINK_DLY = w32 (m.delay % 65536)) ∧
  (aligns s = true → s.grid.phase = 0 → t ≤ s.grid.freezeAt + 5000 → completes (.linkDigest ((partNums s).map (digestOf s)) t) s fun u =>
    u.pair.align = { s.pair.align with digestIn := true, need := [], lag := [] } ∧ u.sent = s.sent) ∧
  (s.pair.role = .active → completes (.linkBlkreq needs lag t) s fun u =>
    u.pair.align.lag = lag ∧ u.pair.align.need = needs ∧
    ∃ d, u.sent = s.sent ++ [{ bus := 0, kind := 0x12, data := d }]) ∧
  (aligns s = true → s.grid.phase = 0 → t ≤ s.grid.freezeAt + 38000 → s.pair.align.need.any (fun n => decide (n.part = part)) = true →
    isBinary r.ep = true → completes (.linkRepair [{ part := part, recs := [r] }] t) s fun u =>
      tget 0x7#4 u.sig.working.bin r.ep = r.tet ∧ tget qualNever u.sig.working.sq r.ep = r.sq ∧
      (ep ≠ r.ep → tget 0x7#4 u.sig.working.bin ep = tget 0x7#4 s.sig.working.bin ep) ∧
      u.pair.align.repaired = s.pair.align.repaired ++ [part]) ∧
  completes (.linkHallmark hm t) s (fun u => u.pair = { s.pair with hmPartner := some hm } ∧ onlyParts [.grid, .pair] s u)) ∧
  (∀ (s : State) (w : Switchover) (n t : Nat),
  (s.pair.sw = some w → w.outgoing = true → s.grid.frame ≤ w.start + 1 → completes (.linkCtrl (.switchAnswer w.h true) t) s fun u =>
    u.pair = { s.pair with sw := some { w with confirmed := true } } ∧ onlyParts [.grid, .pair] s u) ∧
  (s.olc.stage = 2 → s.olc.asking = some n → completes (.linkCtrl (.olcArmed n) t) s fun u =>
    u.olc = { s.olc with stage := 3, arm := n, asking := none } ∧ onlyParts [.grid, .olc] s u) ∧
  completes (.linkCtrl (.restartAt n) t) s (fun u => u.upd = { s.upd with across := some n } ∧ onlyParts [.grid, .upd] s u))

/-- Learning over the link (R257, R264): SNAP gives the retained copies, the forces and maintenance mode; BULK and DELTA give state; DFINAL lets the classes
run; a phase whose content is complete gives way to the next, and two matching hallmarks end learning as STANDBY. Model's choices in it: log entry 58. -/
def Obligations.LinkLearning : Prop := ∀ (s : State) (sn : Snap) (x : Xfer) (t e c : Nat) (w : Word),
  s.pair.role = .learning →
  let l := s.pair.learn
  let gives := fun (i : Instr) => x.cells = [(e, c, w)] → x.recs = [] → x.parts = [] → x.shadow = none → completes i s fun u =>
    tget 0 (leOf u e).hist c = w ∧ (∀ f, f ≠ e → leOf u f = leOf s f) ∧ u.fbx.mem = tsetAll 0 s.fbx.mem x.words ∧ u.sig = s.sig ∧
    u.pair.learn.kib = l.kib + x.bytes
  (l.phase = 1 → completes (.linkSnap sn t) s fun u =>
    u.fbx.copyA.content = tsetAll 0 s.fbx.copyA.content sn.content ∧ u.fbx.copyB = u.fbx.copyA ∧ u.fbx.copyA.gen = sn.gen ∧
    u.frc.table = sn.forces ∧ u.saf.smmOn = sn.smmOn ∧ u.pair.learn.snapDone = (l.snapDone || sn.last) ∧
    u.pair.learn.kib = l.kib + sn.bytes) ∧
  (l.phase = 2 → gives (.linkBulk x t)) ∧
  (l.phase = 3 → x.lagPart = none → gives (.linkDelta x t)) ∧
  (l.phase = 4 → s.grid.frame = x.frame → gives (.linkDfinal x t)) ∧
  (l.phase = 4 → s.grid.frame = x.frame → completes (.linkDfinal x t) s fun u =>
    u.pair.learn.running = true ∧ u.pair.learn.finalFrame = x.frame ∧ u.pair.learn.content = true) ∧
  (l.phase = 2 → l.content = true → completes (.learnPhaseEnd t) s fun u =>
    u.pair.learn = { l with phase := 3, content := false } ∧ onlyParts [.grid, .pair] s u) ∧
  (l.phase = 5 → 2 ≤ l.matched → s.pair.next = none → completes (.learnPhaseEnd t) s fun u =>
    u.pair.learn.phase = 6 ∧ u.pair.next = some (.standby, 3) ∧ flag (rd u Reg.PAIR_AEVT_STAT) 6 = true)

/-! ### Local field I/O -/

/-- Digital terminals (R333–R338, R268): a new class waits its debounce time and then holds; a second readback that disagrees, an overload and
an overcurrent are counted once and recorded; an output in fault stays off for 240 frames and then works again unless the fault
persists; a watchdog that expires brings the safe states; the outgoing module releases its outputs 100 µs after h + 2. Model's choices in it: log entries 69, 70 and 71. -/
def Obligations.DigitalTerminals : Prop := ∀ (s : State) (n ep cur mv t v : Nat) (sense : Bool) (h : HandOver),
  let stat := [Reg.LIO_STAT, Reg.LIO_EVT_STAT, Reg.REC_EVT_STAT]
  let counts := fun (u : State) => rd u Reg.LIO_DO_OVL_CNT = w32 (satAdd 0xFFFFFFFF (rd s Reg.LIO_DO_OVL_CNT).toNat 1)
  (let x := diOf s n
   let c := diClass (diCfg s n).wbrk x.cls cur mv
   (n < 32 → c ≠ x.cls → completes (.diChange n cur mv t) s fun u =>
     diOf u n = { x with cls := c, since := if c = x.deb then none else some t } ∧ (∀ m, m ≠ n → diOf u m = diOf s m) ∧ onlyRegs [] s u) ∧
   (x.since = some v → v + (diCfg s n).deb * 1000 ≤ t → completes (.debounceExpiry n t) s fun u =>
     diOf u n = { x with deb := x.cls, since := none } ∧ (∀ m, m ≠ n → diOf u m = diOf s m) ∧
     (x.cls = 2 → rd u Reg.LIO_DI_BRK_CNT = w32 (satAdd 0xFFFFFFFF (rd s Reg.LIO_DI_BRK_CNT).toNat 1)) ∧
     (x.cls ≠ 2 → onlyRegs stat s u))) ∧
  (let x := doOf s n
   let keeps := fun (u : State) => (∀ m, m ≠ n → doOf u m = doOf s m) ∧ (∀ m, grpOf u m = grpOf s m) ∧ onlyRegs (Reg.LIO_DO_OVL_CNT :: stat) s u
   (doEp s n = some ep → (drivesDo s ep || doPrompt s n ep) = true →
     (sense = doWanted s n ep → completes (.doReadback n sense t) s fun u => doOf u n = { x with miss := 0, rbRec := none } ∧ keeps u) ∧
     (sense ≠ doWanted s n ep → x.miss = 0 → completes (.doReadback n sense t) s fun u => doOf u n = { x with miss := 1 } ∧ keeps u) ∧
     (sense ≠ doWanted s n ep → 1 ≤ x.miss → x.rbRec = none → completes (.doReadback n sense t) s fun u =>
       (doOf u n).miss = 2 ∧ (doOf u n).rbRec.isSome = true ∧ (doOf u n).latched = x.latched ∧ counts u ∧ keeps u)) ∧
   (n < 16 → x.off = false → completes (.doOverload n t) s fun u => (doOf u n).off = true ∧ (doOf u n).retryAt = s.grid.frame + 240 ∧
     (doOf u n).ovlRec.isSome = true ∧ (doOf u n).latched = x.latched ∧ doOut u n = false ∧ counts u ∧ keeps u) ∧
   (x.off = true → x.retryAt ≤ s.grid.frame →
     (completes (.doRetry false n true t) s fun u => doOf u n = { x with retryAt := s.grid.frame + 240 } ∧ keeps u) ∧
     (completes (.doRetry false n false t) s fun u => doOf u n = { x with off := false, ovlRec := none } ∧ keeps u))) ∧
  (let x := grpOf s n
   let keeps := fun (u : State) => (∀ m, m ≠ n → grpOf u m = grpOf s m) ∧ (∀ m, doOf u m = doOf s m) ∧ onlyRegs (Reg.LIO_DO_OVL_CNT :: stat) s u
   (n < 2 → x.off = false → completes (.groupOvercurrent n t) s fun u => (grpOf u n).off = true ∧
     (grpOf u n).retryAt = s.grid.frame + 240 ∧ (grpOf u n).ocRec.isSome = true ∧ (∀ ch, ch / 8 = n → doOut u ch = false) ∧ counts u ∧ keeps u) ∧
   (x.off = true → x.retryAt ≤ s.grid.frame →
     (completes (.doRetry true n true t) s fun u => grpOf u n = { x with retryAt := s.grid.frame + 240 } ∧ keeps u) ∧
     (completes (.doRetry true n false t) s fun u => grpOf u n = { x with off := false, ocRec := none } ∧ keeps u)) ∧
   (n < 2 → x.low = false → completes (.groupSupplyLow n true t) s fun u =>
     (grpOf u n).low = true ∧ (grpOf u n).lowRec.isSome = true ∧ (grpOf u n).off = x.off ∧ keeps u) ∧
   (n < 2 → x.low = true → completes (.groupSupplyLow n false t) s fun u => grpOf u n = { x with low := false, lowRec := none } ∧ keeps u)) ∧
  (wdArmed s = true → s.lio.wdHold = false → lasts ((atTime s t).grid.mono - s.lio.wdAt) s.cfg.lio.wd = true →
    completes (.outputWatchdogExpiry t) s fun u => u.lio = { s.lio with wdExpired := true, wdHold := true } ∧
      rd u Reg.LIO_WD_CNT = w32 (satAdd 0xFFFFFFFF (rd s Reg.LIO_WD_CNT).toNat 1) ∧ flag (rd u Reg.LIO_EVT_STAT) 2 = true ∧
      onlyRegs [Reg.LIO_WD_CNT, Reg.LIO_EVT_STAT, Reg.AIO_EVT_STAT, Reg.REC_EVT_STAT] s u) ∧
  (s.pair.ho = some h → h.outgoing = true → frameStart (h.h + 2) + 100000 ≤ t → completes (.doRelease t) s fun u =>
    u.pair = { s.pair with ho := some { h with released := true } } ∧
    (∀ e ∈ boundDos s, dPrompt (dirEntry s e.2) = false → doOf u e.1 = { doOf s e.1 with latched := false }) ∧
    (∀ ch, (∀ e ∈ boundDos s, e.1 = ch → dPrompt (dirEntry s e.2) = true) → doOf u ch = doOf s ch) ∧ onlyRegs [] s u)

/-- Analogue terminals and HART (R270, R271, R343–R350): a sample is kept and judged for open loop and compliance over three samples, a
condition that has lasted is recorded, outputs fade by 1 % a step and latch the sealed image clamped to 0–24 mA after an unplanned
takeover, burdens change hands; HART requests queue up to eight and end with their status. Model's choices in it: log entries 72 and 73. -/
def Obligations.AnalogueTerminals : Prop := ∀ (s : State) (ch t k core cmd : Nat) (meas head : Word) (conv ok : Bool) (h : HandOver)
    (r : HartReq) (bs : List Byte),
  let x := axOf s ch
  let others := fun (u : State) => ∀ m, m ≠ ch → axOf u m = axOf s m
  (ch < 8 → (axCfg s ch).mode ≠ 0 → completes (.adcSample ch meas head conv t) s fun u =>
    (axOf u ch).meas = meas ∧ (axOf u ch).head = head ∧ (axOf u ch).conv = conv ∧ (axOf u ch).samples = (meas :: x.samples).take 24 ∧
    (axOf u ch).cmd = x.cmd ∧ (axOf u ch).hiz = x.hiz ∧
    (axDriven s ch = true →
      (axOf u ch).openN = runOf x.openN ((Frac.ofInt 1).le (fracOf (axCommand s ch)) && (fracOf meas).lt (frac 1 5)) ∧
      (axOf u ch).compN = runOf x.compN ((fracOf head).lt (frac 3 2)) ∧
      (axOf u ch).isOpen = (if x.isOpen then decide ((axOf u ch).openL < 3) else decide ((axOf u ch).openN = 3)) ∧
      (axOf u ch).isComp = (if x.isComp then decide ((axOf u ch).compL < 3) else decide ((axOf u ch).compN = 3)) ∧
      (axOf u ch).openCnt = (if (axOf u ch).isOpen && !x.isOpen then satAdd 0xFFFF x.openCnt 1 else x.openCnt)) ∧
    (axDriven s ch = false → (axOf u ch).isOpen = false ∧ (axOf u ch).isComp = false) ∧
    flag (rd u Reg.AIO_CONV) ch = conv ∧ others u ∧ onlyRegs [Reg.AIO_CONV, Reg.REC_EVT_STAT] s u) ∧
  ((x.isOpen = true ∨ x.isComp = true) → x.recSeq = none → (axCfg s ch).compt ≤ s.grid.frame - x.since →
    completes (.conditionRecord ch t) s fun u => (axOf u ch).recSeq.isSome = true ∧
      flag (rd u Reg.AIO_EVT_STAT) (if x.isOpen then 1 else 0) = true ∧ others u ∧ onlyRegs [Reg.AIO_EVT_STAT, Reg.REC_EVT_STAT] s u) ∧
  (s.pair.ho = some h → k = h.fade + 1 → k ≤ 100 → frameStart (h.h + 2) + 4000 * k ≤ t → completes (.crossFadeStep t) s fun u =>
    u.pair = { s.pair with ho := some { h with fade := k } } ∧
    (∀ n, n < 8 → axOutput s n = true → (axOf u n).pct = (if h.outgoing then 100 - k else k) ∧
      (axOf u n).hiz = ((axOf s n).hiz || (h.outgoing && decide (k = 100))) ∧ (axOf u n).cmd = (axOf s n).cmd) ∧
    (∀ n, axOutput s n = false → axOf u n = axOf s n)) ∧
  (s.lio.aoWait = true → s.pair.pgrantAt + 436667 ≤ t → completes (.aoTakeoverDrive t) s fun u => u.lio.aoWait = false ∧
    (∀ n e, n < 8 → axEp s n = some e → axOutput s n = true → axOf u n = { axOf s n with
      cmd := (axClamp (sealedAna s e)).1, oor := (axClamp (sealedAna s e)).2, hiz := false, pct := 100 }) ∧ onlyRegs [] s u) ∧
  (s.pair.ho = some h → (if h.outgoing then 120000 else 20000) + frameStart (h.h + 2) ≤ t → completes (.burdenSwitch t) s fun u =>
    u.lio = { s.lio with burden := !h.outgoing } ∧ onlyParts [.grid, .lio] s u) ∧
  (runningClass s core ≠ none → ch < 8 → (axCfg s ch).hart = true →
    (8 ≤ x.queue.length → completes (.hartReq core ch cmd bs t) s fun u =>
      u.resp = .value 4 ∧ axOf u ch = { x with last := 4 } ∧ others u ∧ u.sent = s.sent) ∧
    (x.queue.length < 8 → x.busy ≠ none → completes (.hartReq core ch cmd bs t) s fun u =>
      axOf u ch = { x with queue := x.queue ++ [{ cmd := cmd, data := bs }] } ∧ others u ∧ u.sent = s.sent) ∧
    (x.queue = [] → x.busy = none → hartSends s = true → hartSuspended s ch = false → completes (.hartReq core ch cmd bs t) s fun u =>
      axOf u ch = { x with busy := some { cmd := cmd, data := bs }, busyAt := t } ∧ others u ∧
      u.sent = s.sent ++ [{ bus := 4, kind := ch, data := cmd :: bs.map (·.toNat) }])) ∧
  (x.busy = some r → x.queue = [] →
    ((axCfg s ch).hart = true → completes (.hartResponse ch cmd bs ok t) s fun u => others u ∧ axOf u ch = { x with
      busy := none, last := if ok then 0 else 2, lastCmd := r.cmd
      hartOk := if ok then satAdd 0xFFFF x.hartOk 1 else x.hartOk
      hartBad := if ok then x.hartBad else satAdd 0xFFFF x.hartBad 1 }) ∧
    (x.busyAt + 256000000 ≤ t → completes (.hartTimeout ch t) s fun u => others u ∧ flag (rd u Reg.AIO_EVT_STAT) 3 = true ∧
      axOf u ch = { x with busy := none, last := 1, lastCmd := r.cmd, hartBad := satAdd 0xFFFF x.hartBad 1 }))

/-! ### Safety functions -/

/-- The safety monitor (R282–R284): a failed check, a third frame without a correct response or a failed gate test enters the module safe
state, which is reported with its cause and frame, stops the heartbeats, flushes the recorder and leads to OFFLINE; the response of SC is
judged by the challenge; the gates are tested alternately. Model's choices in it: log entries 14 and 61. -/
def Obligations.SafetyMonitor : Prop := ∀ (s : State) (cause detail t : Nat) (c : Cmd),
  let enters := fun (u : State) (n d : Nat) => u.saf.safe = true ∧ u.saf.safeHeld = s.pair.role.leads ∧
    rd u Reg.SAF_CAUSE = w32 (n * 2 ^ 28 + d % 256) ∧ rd u Reg.SAF_SAFE_FNUM = w32 s.grid.frame ∧
    flag (rd u Reg.SAF_EVT_STAT) 0 = true ∧ u.pair.hbStopped = true ∧ u.pair.restartDue = some 4 ∧
    (∃ k, u.pair.next = some (.offline, k)) ∧ u.pair.role = s.pair.role ∧ u.rcd.flushing = true ∧ u.sig = s.sig
  let path := field (rd s Reg.SAF_KPATH) 15 0
  (s.saf.safe = false → stage s ≠ 0 → 1 ≤ cause → cause ≤ 7 → completes (.moduleSafeState cause detail t) s fun u => enters u cause detail ∧
    (cause = 3 → flag (rd u Reg.SAF_CLK_STAT) (detail % 16) = true) ∧ (cause = 4 → flag (rd u Reg.SAF_VOLT_STAT) (detail % 8) = true)) ∧
  (passes s Reg.SAF_WD_RESP c → completes (.safWdResp c) s fun u => onlyRegs [] s u ∧
    u.saf = (if field c.value 31 16 = field (rd s Reg.SAF_WD_CHAL) 15 0 ∧ field c.value 15 0 = 0xFFFF - field (rd s Reg.SAF_WD_CHAL) 15 0
      then { s.saf with respOk := true } else { s.saf with respSeen := true })) ∧
  (s.saf.safe = false → 1 ≤ stage s → 3 ≤ s.saf.respMiss → completes (.safWdExpiry t) s fun u => enters u 6 0) ∧
  (s.grid.phase = 3 → completes (.killPathTest true t) s fun u => flag (rd u Reg.SAF_KPATH) 31 = true ∧
    field (rd u Reg.SAF_KPATH) 15 0 = min 65535 (path + 1) ∧
    (path ≠ 0 → field (rd u Reg.SAF_KPATH) 30 30 = 1 - field (rd s Reg.SAF_KPATH) 30 30) ∧
    u.saf = s.saf ∧ onlyRegs [Reg.SAF_KPATH] s u) ∧
  (s.grid.phase = 3 → s.saf.safe = false → completes (.killPathTest false t) s fun u =>
    enters u 5 0 ∧ flag (rd u Reg.SAF_KPATH) 31 = false)

/-- Safety inputs and safe telegrams (R288, R289, R293, R295–R297, R301): a disagreement longer than DTIME makes the entry FAULTY; a telegram with the next
sequence numbers is accepted and one beyond the window is discarded; a second copy that stays away is counted; a connection without
telegrams enters its safe state, where its endpoints read OFF:d, and the acknowledgement needs three good telegrams. Model's choices in it: log entries 62 and 63. -/
def Obligations.SafeInputsAndTelegrams : Prop := ∀ (s : State) (i k t lan b : Nat) (bs : List Byte) (c : SinCfg) (r : RxCfg) (q : StcCopy) (m : Cmd),
  let x := tget {} s.saf.sin i
  let y := tget {} s.saf.stc k
  let seq := ofLeBytes ((bs.drop 4).take 4)
  let d := (seq + 2 ^ 32 - b) % 2 ^ 32
  (look s.cfg.saf.sins i = some c → c.mode ≠ 1 → x.faulty = false → x.agree = false → c.dtime < x.dcount →
    completes (.discrepancyTimeout i t) s fun u => (tget {} u.saf.sin i).faulty = true ∧ sinStatus u i = 0x7#4 ∧
      (c.mode = 2 → tget 0x7#4 u.sig.working.bin c.epA = 0x7#4 ∧ tget 0x7#4 u.sig.working.bin c.epB = 0x7#4) ∧
      (∀ ep, ep ≠ c.epA → ep ≠ c.epB → tget 0x7#4 u.sig.working.bin ep = tget 0x7#4 s.sig.working.bin ep) ∧
      flag (rd u Reg.SAF_EVT_STAT) 3 = true ∧ (∀ j, j ≠ i → tget {} u.saf.sin j = tget {} s.saf.sin j)) ∧
  (look s.cfg.saf.rx k = some r → ¬ (lan = 2 ∧ ofLeBytes (bs.take 4) = 0) → bs.length = pduLen r.ntet → pduCrcOk bs = true →
    ofLeBytes (bs.take 4) = r.connid → (bs.getD 16 0).toNat = r.ntet → (bs.getD 17 0).getLsbD 0 = false → y.base = some b → d ≠ 0 →
    let u := safTelegram s k lan bs t
    (d ≤ r.seqwin → (tget {} u.saf.stc k).base = some seq ∧ (tget {} u.saf.stc k).got = true ∧ (tget {} u.saf.stc k).fresh = true ∧
      (tget {} u.saf.stc k).lastFrame = s.grid.frame ∧ (tget {} u.saf.stc k).safe = y.safe) ∧
    (r.seqwin < d → tget {} u.saf.stc k = { y with discards := satAdd 0xFFFF y.discards 1, bad := true } ∧ u.sig = s.sig) ∧
    ∀ j, j ≠ k → tget {} u.saf.stc j = tget {} s.saf.stc j) ∧
  (look s.cfg.saf.rx k = some r → y.copy = some q → r.prp = true → q.second = false → q.frame + 2 ≤ s.grid.frame →
    completes (.singleCopyLoss k t) s fun u =>
      tget {} u.saf.stc k = { y with losses := satAdd 0xFFFF y.losses 1, copy := some { q with second := true } } ∧
      (∀ j, j ≠ k → tget {} u.saf.stc j = tget {} s.saf.stc j) ∧ onlyParts [.grid, .saf] s u) ∧
  (look s.cfg.saf.rx k = some r → y.safe = false → y.lastFrame + r.wd ≤ s.grid.frame → completes (.stcWatchdogExpiry k t) s fun u =>
    (tget {} u.saf.stc k).safe = true ∧ (tget {} u.saf.stc k).cause = (if y.differ then 2 else 1) ∧ (tget {} u.saf.stc k).good = 0 ∧
    (tget {} u.saf.stc k).base = none ∧ (∀ ep ∈ r.cells, tget 0x7#4 u.sig.working.bin ep = 0x5#4) ∧
    flag (rd u Reg.SAF_EVT_STAT) 4 = true ∧ ∀ j, j ≠ k → tget {} u.saf.stc j = tget {} s.saf.stc j) ∧
  (takes s Reg.SAF_STC_CMD 0 m → k = field (rd s Reg.SAF_STC_SEL) 9 0 →
    ((hasRole s m.session 1 = true ∨ hasRole s m.session 2 = true) → look s.cfg.saf.rx k = some r → y.safe = true → y.good = 3 →
      completes (.stcAck m) s fun u => tget {} u.saf.stc k = { y with acked := true } ∧ onlyRegs [Reg.REC_EVT_STAT] s u ∧
        ∀ j, j ≠ k → tget {} u.saf.stc j = tget {} s.saf.stc j) ∧
    (y.good ≠ 3 → completes (.stcAck m) s fun u => (∃ v, u.resp = .refused v) ∧ u.saf = s.saf))

/-- Safety maintenance mode (R298, R299, R539): REQUEST shows a code to the session and ENTER needs it back within 60 s; the mode starts at its freeze,
on an ACTIVE module two frames after ENTER with the partner's consent, and ends by EXIT or with its duration; a refused command
shows its code and changes nothing. Model's choices in it: log entries 18, 64 and 65. -/
def Obligations.MaintenanceMode : Prop := ∀ (s : State) (t f : Nat) (c : Cmd),
  let x := s.saf.smm
  let k := s.grid.frame
  let refuses := fun (i : Instr) (n : Nat) => completes i s fun u => u.resp = .refused n ∧ field (rd u Reg.SAF_SMM_STAT) 29 26 = n ∧
    u.saf = s.saf ∧ onlyRegs [Reg.SAF_SMM_STAT, Reg.REC_EVT_STAT] s u
  (passes s Reg.SAF_SMM_CMD c → field c.value 31 16 ≠ 0x5A3C → completes (.smmRequest c) s fun u =>
    field (rd u Reg.SAF_SMM_STAT) 29 26 = 6 ∧ u.saf = s.saf) ∧
  (takes s Reg.SAF_SMM_CMD 0 c →
    (smmRole s = false → refuses (.smmRequest c) 1) ∧
    (smmRole s = true → hasRole s c.session 2 = false → refuses (.smmRequest c) 2) ∧
    (smmRole s = true → hasRole s c.session 2 = true →
      (x.stage ≠ 0 → refuses (.smmRequest c) 7) ∧
      (x.stage = 0 → (field c.value 13 8 = 0 ∨ 32 < field c.value 13 8) → refuses (.smmRequest c) 5) ∧
      (x.stage = 0 → 1 ≤ field c.value 13 8 → field c.value 13 8 ≤ 32 → completes (.smmRequest c) s fun u =>
        (∃ v, v < 1000000 ∧ u.saf.smm = { stage := 1, session := c.session, dur := field c.value 13 8, code := v, codeAt := s.grid.mono }) ∧
        u.saf.smmOn = s.saf.smmOn ∧ onlyRegs [Reg.REC_EVT_STAT] s u))) ∧
  (takes s Reg.SAF_SMM_CMD 1 c → smmRole s = true → hasRole s c.session 2 = true →
    let ok := x.stage = 1 ∧ x.session = c.session ∧ x.given = some x.code ∧ s.grid.mono - x.codeAt ≤ 60000000000
    (¬ ok → refuses (.smmEnter c) 3) ∧
    (ok → s.pair.role = .active → completes (.smmEnter c) s fun u =>
      u.saf.smm = { x with stage := 2, askedAt := k, confirmed := !asksPartner s, startAt := some (k + 2) } ∧
      u.sent = (if asksPartner s then s.sent ++ [{ bus := 0, kind := 0x30, data := [11, x.session, x.dur, k] }] else s.sent)) ∧
    (ok → s.pair.role ≠ .active → completes (.smmEnter c) s fun u =>
      u.saf.smm = { x with stage := 2, askedAt := k, confirmed := true, startAt := some (k + 1) } ∧ u.sent = s.sent)) ∧
  (takes s Reg.SAF_SMM_CMD 2 c →
    (x.stage = 3 → s.pair.role = .active → completes (.smmExit c) s fun u => u.saf.smm = { x with endAt := some (k + 2) } ∧
      u.saf.smmOn = s.saf.smmOn ∧ u.sent = s.sent ++ [{ bus := 0, kind := 0x30, data := [12, k] }]) ∧
    (x.stage = 3 → s.pair.role ≠ .active → completes (.smmExit c) s fun u => u.saf.smm = { x with endAt := some (k + 1) }) ∧
    ((x.stage = 1 ∨ x.stage = 2) → completes (.smmExit c) s fun u => u.saf.smm = {})) ∧
  (x.stage = 1 → 60000000000 ≤ (atTime s t).grid.mono - x.codeAt → completes (.smmCodeExpiry t) s fun u =>
    u.saf = { s.saf with smm := {} } ∧ onlyParts [.grid, .saf] s u) ∧
  (x.stage = 2 → x.confirmed = true → s.grid.phase = 0 → x.startAt = some f → f ≤ k → completes (.smmStart t) s fun u =>
    u.saf = { s.saf with smmOn := true, smm := { x with stage := 3, till := k + x.dur * 2160000 } } ∧
    flag (rd u Reg.SAF_EVT_STAT) 6 = true ∧ onlyRegs [Reg.SAF_EVT_STAT, Reg.REC_EVT_STAT] s u) ∧
  (x.stage = 3 → x.till ≤ k → completes (.smmExpiry t) s fun u => u.saf = { s.saf with smmOn := false, smm := {} } ∧
    flag (rd u Reg.SAF_EVT_STAT) 6 = true ∧ ∀ e ∈ u.frc.table, ∀ g, e.2 = some g → dSafety (dirEntry u g.ep) = false)

/-! ### The chain -/

/-- Requests of the chain master (R307, R314–R318, R321–R323, R325): a due entry sends DATA with the segment's outputs, unless it is omitted in the takeover
frame; IDENT, DELAY, CONFIG, PROBE, ASSIGN and the stranger poll go out in free time that holds their transaction; each waits for its response. Model's choices in it: log entry 67. -/
def Obligations.ChainRequests : Prop := ∀ (s : State) (p n i t : Nat) (e : ChnEnt) (c : Cmd) (g : Stranger),
  let q := chnPort s p
  let x := chnNode s p n
  let out := fun (u : State) (addr cmd ent : Nat) (payload : List Byte) =>
    u.sent = s.sent ++ [{ bus := 1, kind := p, data := (reqBytes s addr (q.epoch.getD 0) cmd payload).map (·.toNat) }] ∧
    (chnPort u p).req = some
      { addr := addr, epoch := q.epoch.getD 0, cmd := cmd, fnum := s.grid.frame % 2 ^ 24, sentAt := reqEnd t payload.length, ent := ent } ∧
    (∀ m, chnNode u p m = chnNode s p m) ∧ (∀ o, o ≠ p → chnPort u o = chnPort s o)
  let sends := fun (j : Instr) (addr cmd ent : Nat) (payload : List Byte) => completes j s fun u =>
    out u addr cmd ent payload ∧ onlyParts [.grid, .chn, .sent] s u
  let free := fun (len expect : Nat) => inFree s p (t - s.grid.freezeAt) (occupancy len expect) = true
  chnMaster s = true →
  (look (chnCfg s p).sched i = some e → q.epoch ≠ none → (chnNode s p e.node).st ≠ 5 → ¬ (q.dup.st = 1 ∧ q.dup.addr = e.node) →
    entDue e s.grid.frame = true → s.grid.running = true →
    (¬ (s.chn.omitFrame = some s.grid.frame ∧ e.start < 52000) →
      sends (.chainData p i t) e.node (0x10 + e.seg) i (outPayload s p e.node (nodeSeg s p e.node e.seg))) ∧
    (s.chn.omitFrame = some s.grid.frame → e.start < 52000 → completes (.chainData p i t) s fun u =>
      flag (rd u Reg.CHN_EVT_STAT) 7 = true ∧ u.sent = s.sent ∧ u.chn = s.chn ∧ onlyRegs [Reg.CHN_EVT_STAT] s u)) ∧
  (portOn s p = true →
    (isNode s p n = true → x.step = 0 → (x.st = 1 ∨ x.st = 2) → free 0 32 → sends (.chainIdent p n t) n 0x20 0 []) ∧
    (isNode s p n = true → x.st = 2 → x.step = 1 → free 0 0 → sends (.chainDelay p n t) n 0x21 0 []) ∧
    (isNode s p n = true → x.st = 2 → x.step = 2 → q.epoch ≠ none → free (configNow s p n).length 4 →
      sends (.chainConfig p n t) n 0x22 0 (configNow s p n)) ∧
    (q.dup.st = 1 → q.req = none → free 2 0 →
      sends (.chainProbe p t) q.dup.addr 0x24 0 [BitVec.ofNat 8 q.dup.bit, BitVec.ofNat 8 q.dup.v]) ∧
    (free 0 32 → completes (.strangerPoll p t) s fun u => out u 63 0x20 0 [] ∧ onlyParts [.grid, .chn, .sent] s u ∧
      (chnPort u p).strangers = (q.strangers.map fun y => { y with polls := y.polls + 1 }).filter fun y => decide (y.polls ≤ 3)) ∧
    (let a := field (rd s Reg.CHN_ASSIGN) 5 0
     takes s Reg.CHN_CMD 0 c → p = field (rd s Reg.CHN_PORT_SEL) 1 0 → q.strangers[field (rd s Reg.CHN_STR_SEL) 3 0]? = some g →
      (hasRole s c.session 2 = true → s.pair.role.leads = true → isNode s p a = false → a ≠ 0 → a ≠ 63 → q.epoch ≠ none → free 9 0 →
        completes (.chainAssign c t) s fun u => out u 63 0x23 0 (leBytes 8 g.serial ++ leBytes 1 a)) ∧
      (hasRole s c.session 2 = false → completes (.chainAssign c t) s fun u => (∃ v, u.resp = .refused v) ∧ u.chn = s.chn ∧ u.sent = s.sent)))

/-- Responses and what follows them (R310, R314, R317, R319–R323, R325–R327): an accepted DATA response collects its inputs and keeps the node up, IDENT, DELAY and
CONFIG lead through the admission, a response with a bad CRC or out of place is counted; a deadline that passes is a miss, and LOSTN
misses in a row lose the node; epochs, holds and heard requests. Model's choices in it: log entry 66. -/
def Obligations.ChainResponses : Prop := ∀ (s : State) (p n t ep i f : Nat) (r : ChnResp) (q : ChnReq) (c : Cmd),
  let k := chnPort s p
  let x := chnNode s p n
  let seg := q.cmd - 0x10
  let others := fun (u : State) => (∀ m, m ≠ n → chnNode u p m = chnNode s p m) ∧ ∀ o, o ≠ p → chnPort u o = chnPort s o
  (k.req = some q → q.addr = n →
    (portOn s p = true → r.crcOk = true → accepts s p q r = true →
      (0x10 ≤ q.cmd → q.cmd ≤ 0x17 → bitOf r.sts 4 = false → bitOf r.sts 1 = false → Tbl.rising k.nodes = true → completes (.chainResponse p r t) s fun u =>
        (chnPort u p).req = none ∧ (chnNode u p n).consec = 0 ∧ (chnNode u p n).held = some s.grid.frame ∧
        (chnNode u p n).fault = bitOf r.sts 2 ∧ (chnNode u p n).safe = bitOf r.sts 3 ∧
        (chnNode u p n).missed = x.missed.filter (· ≠ seg) ∧
        (x.st = 3 ∨ x.st = 4 ∧ x.needAdmit = false → (chnNode u p n).st = 3) ∧
        (s.cfg.saf.rx = [] → segInputs s p n (nodeSeg s p n seg) = [(ep, 0, i)] →
          (tget none (if t < nextFreeze s then u.sig.coll else u.sig.next).got ep).map (fun g => (g.tet, g.stamp)) =
            some (BitVec.ofNat 4 (leAt r.data (i / 2 - (nodeSeg s p n seg).inOfs) 1 / 16 ^ (i % 2)), t))) ∧
      (0x10 ≤ q.cmd → q.cmd ≤ 0x17 → bitOf r.sts 4 = true → completes (.chainResponse p r t) s fun u =>
        (chnNode u p n).rej = satAdd 0xFFFF x.rej 1 ∧ (chnNode u p n).miss = satAdd 0xFFFF x.miss 1 ∧ (x.st = 3 → (chnNode u p n).st = 1)) ∧
      (q.cmd = 0x20 → n ≠ 63 → isNode s p n = true → k.epoch ≠ none → x.st = 1 → x.step = 0 → completes (.chainResponse p r t) s fun u =>
        (chnNode u p n).serial = leAt r.data 8 8 ∧ (chnNode u p n).st = (if identOk s p n r.data then 2 else 6) ∧
        (identOk s p n r.data = true → (chnNode u p n).step = 1) ∧ others u) ∧
      (q.cmd = 0x21 → x.step = 1 → x.delays = 15 → 0 ≤ x.sum + ((r.sdAt : Int) - q.sentAt - 1500) →
        x.sum + ((r.sdAt : Int) - q.sentAt - 1500) ≤ 16000 → completes (.chainResponse p r t) s fun u =>
          (chnNode u p n).dly = ((x.sum + ((r.sdAt : Int) - q.sentAt - 1500) + 16) / 32).toNat ∧ (chnNode u p n).step = 2 ∧ others u) ∧
      (q.cmd = 0x22 → s.olc.stage ≠ 3 → x.step = 2 → x.st = 2 → r.data.length = 4 → bitOf r.sts 1 = false →
        completes (.chainResponse p r t) s fun u => (chnNode u p n).st =
          (if ofLeBytes r.data = (crc32c (configPayload (nodeCfg s p n) x.dly 0)).toNat then 3 else 6) ∧ others u)) ∧
    (portOn s p = true → r.crcOk = false → n ≠ 63 → q.cmd ≠ 0x24 → completes (.chainResponse p r t) s fun u =>
      (chnPort u p).crc = satAdd 0xFFFF k.crc 1 ∧ (chnNode u p n).crc = satAdd 0xFFFF x.crc 1 ∧ (chnNode u p n).st = x.st ∧
      u.sig = s.sig ∧ others u) ∧
    (portOn s p = true → r.crcOk = true → accepts s p q r = false → completes (.chainResponse p r t) s fun u =>
      chnPort u p = { k with malformed := satAdd 0xFFFF k.malformed 1 } ∧ u.sig = s.sig ∧ ∀ o, o ≠ p → chnPort u o = chnPort s o) ∧
    (q.sentAt + 2000 ≤ t → 0x10 ≤ q.cmd → q.cmd ≤ 0x17 → completes (.chainMiss p t) s fun u =>
      (chnPort u p).req = none ∧ (chnPort u p).miss = satAdd 0xFFFFFFFF k.miss 1 ∧ (chnNode u p n).miss = satAdd 0xFFFF x.miss 1 ∧
      (chnNode u p n).consec = satAdd 0xFF x.consec 1 ∧ flag (rd u Reg.CHN_EVT_STAT) 0 = true ∧
      (chnNode u p n).st = (if x.st = 3 ∧ (nodeCfg s p n).lostn ≤ satAdd 0xFF x.consec 1 then 4 else x.st) ∧ others u)) ∧
  (chnMaster s = true → portOn s p = true → k.epoch = none → k.since + 24 ≤ s.grid.frame → completes (.epochTimeout p t) s fun u =>
    chnPort u p = { k with epoch := some ((k.mram + 1) % 256), mram := (k.mram + 1) % 256 } ∧ flag (rd u Reg.CHN_EVT_STAT) 6 = true) ∧
  (takes s Reg.CHN_CMD 1 c → p = field (rd s Reg.CHN_PORT_SEL) 1 0 → n = field (rd s Reg.CHN_NODE_SEL) 5 0 →
    completes (.chainUnblock c) s fun u => others u ∧ onlyRegs [Reg.REC_EVT_STAT] s u ∧ chnNode u p n =
      (if x.st = 5 ∨ x.st = 6 then { x with st := 1, step := 0, crcRun := 0, crcOpen := 0 } else x)) ∧
  (x.held = some f → f + (nodeCfg s p n).hold ≤ s.grid.frame → completes (.nodeHoldExpiry p n t) s fun u =>
    chnNode u p n = { x with inSafe := true } ∧ others u ∧ onlyParts [.grid, .chn] s u) ∧
  (chnMaster s = false → portOn s p = true → completes (.chainRequestHeard p n f 1 i ep t) s fun u =>
    chnPort u p = { k with heard := some (f % 256), syncOk := true } ∧ (∀ o, o ≠ p → chnPort u o = chnPort s o) ∧ onlyParts [.grid, .chn] s u) ∧
  (chnMaster s = false → portOn s p = true → isNode s p n = true → 0x10 ≤ q.cmd → q.cmd ≤ 0x17 →
    completes (.chainRequestHeard p n f q.cmd i ep t) s fun u => (chnPort u p).heard = some (f % 256) ∧ (chnPort u p).req =
      some { addr := n, epoch := f % 256, cmd := q.cmd, fnum := i, sentAt := reqEnd t ep } ∧ ∀ m, chnNode u p m = chnNode s p m)

/-! ### CAN -/

/-- Receiving on CAN (R360–R364): a frame goes to its object, or to the shadow of a locked one, and its fields are collected with its
timestamp; a frame of another kind or with no object is counted; an object without frames for its time is a lost source; a lock ends
by a new selection or after 1,000 µs. Model's choices in it: log entry 75. -/
def Obligations.CanReception : Prop := ∀ (s : State) (c n k t v : Nat) (f : CanFrame) (o : RxoCfg) (m : Cmd),
  let x := rxObj s c n
  let obj := (canCfg s c).objs.find? fun e => decide (e.2.id = f.id) && decide (e.2.ide = f.ide)
  let next := { x with timedOut := false, at0 := s.grid.frame, seq := (x.seq + 1) % 65536 }
  let ends := fun (u : State) => (canCtl u c).lock = none ∧
    ∀ j a, (canCtl s c).lock = some (j, a) → flag (rd u Reg.CAN_EVT_STAT) 4 = true ∧ (∀ i, i ≠ j → rxObj u c i = rxObj s c i) ∧
      let y := rxObj s c j
      rxObj u c j = match y.shadow with
        | some g => { y with lockTo := satAdd 0xFFFF y.lockTo 1, cur := some g, isNew := true, lost := y.shadowLost, shadow := none, shadowLost := false }
        | none => { y with lockTo := satAdd 0xFFFF y.lockTo 1 }
  (canOn s c = true →
    (f.rtr = false → isRef s c f = false → obj = some (n, o) → o.fd = f.fd → completes (.canFrameReceived c f) s fun u =>
      (∀ i, i ≠ n → rxObj u c i = rxObj s c i) ∧
      ((∀ a, (canCtl s c).lock ≠ some (n, a)) → rxObj u c n = { next with cur := some f, isNew := true, lost := x.lost || x.isNew }) ∧
      (∀ a, (canCtl s c).lock = some (n, a) → rxObj u c n = { next with shadow := some f, shadowLost := x.shadow.isSome || x.shadowLost }) ∧
      (∀ ep, canEps s 7 c n = [ep] → canFormat (daddr (dirEntry s ep)) = 2 → canBit (daddr (dirEntry s ep)) = k → k + 4 ≤ 8 * f.data.length →
        (tget none (if f.stamp < nextFreeze s then u.sig.coll else u.sig.next).got ep).map (fun g => (g.tet, g.stamp)) =
          some (BitVec.ofNat 4 (bitsOf (ofLeBytes f.data) (k + 3) k), f.stamp))) ∧
    ((f.rtr = true ∨ isRef s c f = false ∧ obj = some (n, o) ∧ o.fd ≠ f.fd) → completes (.canFrameReceived c f) s fun u =>
      (canCtl u c).fmt = satAdd 0xFFFF (canCtl s c).fmt 1 ∧ (∀ i, rxObj u c i = rxObj s c i) ∧ u.sig = s.sig) ∧
    (f.rtr = false → isRef s c f = false → obj = none → completes (.canFrameReceived c f) s fun u =>
      (canCtl u c).unk = satAdd 0xFFFF (canCtl s c).unk 1 ∧ (canCtl u c).unkLast = w32 (bit1 f.ide 31 + f.id % 2 ^ 29) ∧
      flag (rd u Reg.CAN_EVT_STAT) 3 = true ∧ (∀ i, rxObj u c i = rxObj s c i) ∧ u.sig = s.sig)) ∧
  ((rxoCfg s c n).timeout ≠ 0 → x.timedOut = false → x.at0 + (rxoCfg s c n).timeout ≤ s.grid.frame → completes (.canRxTimeout c n t) s fun u =>
    rxObj u c n = { x with timedOut := true } ∧ (∀ ep ∈ canEps s 7 c n, tget false u.sig.lost ep = true) ∧
    flag (rd u Reg.CAN_EVT_STAT) 2 = true ∧ ∀ i, i ≠ n → rxObj u c i = rxObj s c i) ∧
  (passes s (Reg.CAN_RXO_SEL c) m → completes (.canRxoSel c m) s fun u => rd u (Reg.CAN_RXO_SEL c) = m.value &&& 0x1FF#32 ∧ ends u ∧
    onlyRegs [Reg.CAN_RXO_SEL c, Reg.CAN_EVT_STAT, Reg.REC_EVT_STAT] s u) ∧
  ((canCtl s c).lock = some (k, v) → v + 1000000 ≤ t → completes (.canLockTimeout c t) s fun u => ends u)

/-- Transmitting on CAN and the state of a controller (R358, R366–R369): a pending frame that was sent makes room for the held content, a CANCEL
buffer gives up its frame at the end of its lifetime or by command once the attempt has ended, errors count as ISO 11898-1 has them
up to bus-off and its recovery, and a time mark queues its buffers or judges a reception. Model's choices in it: log entries 74 and 75. -/
def Obligations.CanTransmission : Prop := ∀ (s : State) (c n p h t : Nat) (m : Cmd) (z : TtCell),
  let q := canCtl s c
  let x := txBuf s c n
  let b := txbCfg s c n
  let others := fun (u : State) => (∀ i, i ≠ n → txBuf u c i = txBuf s c i) ∧ (∀ d, d ≠ c → canCtl u d = canCtl s d)
  let gone := { x with pend := none, arb := false, due := false, cancels := satAdd 0xFFFF x.cancels 1 }
  (canNormal s = true → x.pend = some p →
    (q.busOff = false → completes (.canArbitrationStart c n t) s fun u => txBuf u c n = { x with arb := true } ∧ others u ∧ onlyParts [.grid, .can] s u) ∧
    (completes (.canTxDone c n t) s fun u => u.sent = s.sent ++ [{ bus := 2, kind := c, data := [b.id, bit1 b.ide 0 + bit1 b.fd 1 + bit1 b.brs 2, b.len, p] }] ∧
      (canCtl u c).tec = q.tec - 1 ∧ others u ∧ onlyParts [.grid, .can, .sent] s u ∧
      txBuf u c n = (match x.held with
        | some r => { x with held := none, pend := some r, since := s.grid.frame, arb := false, due := false, lastQ := some r, sent := satAdd 0xFFFF x.sent 1, heard := some p }
        | none => { x with pend := none, arb := false, due := false, sent := satAdd 0xFFFF x.sent 1, heard := some p })) ∧
    (x.due = false → completes (.canTxError c n true t) s fun u => (q.tec ≤ 255 → canCtl u c = { canCtl u c with tec := q.tec, errs := q.errs, busOff := q.busOff }) ∧
      txBuf u c n = { x with arb := false } ∧ others u) ∧
    (x.due = false → q.tec + 8 ≤ 255 → completes (.canTxError c n false t) s fun u => (canCtl u c).tec = q.tec + 8 ∧
      (canCtl u c).errs = satAdd 0xFFFF q.errs 1 ∧ (canCtl u c).busOff = q.busOff ∧ txBuf u c n = { x with arb := false } ∧ others u ∧
      (127 < q.tec + 8 → canPassive q = false → flag (rd u Reg.CAN_EVT_STAT) 0 = true)) ∧
    (x.due = false → c < 2 → 255 < q.tec + 8 → q.busOff = false → completes (.canTxError c n false t) s fun u => (canCtl u c).busOff = true ∧
      (canCtl u c).busOffs = satAdd 0xFFFF q.busOffs 1 ∧ (canCtl u c).recover = false ∧ flag (rd u Reg.CAN_STAT) c = true ∧
      flag (rd u Reg.CAN_EVT_STAT) 1 = true ∧ others u ∧
      ∀ ep ∈ epsAt s 7 fun a => decide (canCtrl a = c), tget false u.sig.lost ep = true) ∧
    (x.due = true → x.held = none → q.tec ≤ 255 → completes (.canTxError c n true t) s fun u => txBuf u c n = gone ∧ others u)) ∧
  (x.pend = some p → b.cancel = true →
    (x.since + b.life ≤ s.grid.frame → completes (.canTxLifetime c n t) s fun u =>
      txBuf u c n = (if x.arb then { x with due := true } else gone) ∧ others u ∧ onlyParts [.grid, .can] s u) ∧
    (takes s (Reg.CAN_TXB_CMD c) 0 m → n = field (rd s (Reg.CAN_TXB_SEL c)) 5 0 → completes (.canCancel c m) s fun u => others u ∧
      txBuf u c n = (if x.arb then x else gone) ∧ (x.arb = true → flag (rd u Reg.CAN_EVT_STAT) 5 = true))) ∧
  (canOn s c = true → q.tec ≤ 255 → ∀ dom, completes (.canBusError c dom t) s fun u =>
    (canCtl u c).rec_ = min 255 (q.rec_ + if dom then 8 else 1) ∧ (canCtl u c).errs = satAdd 0xFFFF q.errs 1 ∧ (canCtl u c).busOff = q.busOff ∧
    (canCtl u c).bufs = q.bufs ∧ ∀ d, d ≠ c → canCtl u d = canCtl s d) ∧
  (c < 2 → q.busOff = true → ((canCfg s c).autorec = true ∨ q.recover = true) → completes (.busOffRecovery c t) s fun u =>
    canCtl u c = { q with busOff := false, recover := false, tec := 0, rec_ := 0 } ∧ flag (rd u Reg.CAN_STAT) c = false ∧
    (∀ d, d ≠ c → canCtl u d = canCtl s d) ∧ onlyRegs [Reg.CAN_STAT] s u) ∧
  (c < 2 → takes s Reg.CAN_CMD c m → completes (.canRecover m) s fun u => canCtl u c = { q with recover := q.busOff } ∧ onlyRegs [Reg.REC_EVT_STAT] s u) ∧
  ((canCfg s c).tt = true →
    (canCfg s c).cells.find? (fun e => decide (e.cycle = q.cycle % max (canCfg s c).cycles 1) && decide (e.mark = h)) = some z →
    (q.check = none → z.kind = 1 → z.index = [n] → canNormal s = true → completes (.ttTimeMark c h t) s fun u => others u ∧
      txBuf u c n = { x with pend := some (txPayload s c n), since := s.grid.frame, arb := false, due := false, lastQ := some (txPayload s c n) }) ∧
    (q.check = none → z.kind = 3 → completes (.ttTimeMark c h t) s fun u =>
      (canCtl u c).check = (z.index.head?).map (fun i => (i, (rxObj s c i).seq)) ∧ (canCtl u c).bufs = q.bufs) ∧
    (q.check = some (n, (rxObj s c n).seq) → z.kind = 0 → completes (.ttTimeMark c h t) s fun u =>
      canCtl u c = { q with check := none, rxMiss := satAdd 0xFFFF q.rxMiss 1 } ∧ flag (rd u Reg.CAN_EVT_STAT) 6 = true))

/-! ### Time -/

/-- PTP instances (R378, R379): eight Syncs within 1 µs lock an instance and three beyond it lose it, with the loss counted; Announce
datasets pass through the best master selection; three intervals without one lose the parent; peer delays are answered and taken. Model's choices in it: log entry 76. -/
def Obligations.PtpInstances : Prop := ∀ (s : State) (i t port dly : Nat) (ofs rel : Int) (lan : Bool) (a : PtpAnn),
  let x := ptpInst s i
  let near := ofs.natAbs ≤ 1000
  let lock := if near then min 8 (x.lockRun + 1) else 0
  let off := if near then 0 else min 3 (x.offRun + 1)
  let st := if x.st = 2 then (if off = 3 then 3 else 2) else if lock = 8 then 2 else 1
  i < 2 → (ptpCfg s i).en = true →
  (s.grid.neverSync = false →
    (x.parent ≠ none → completes (.ptpSync i ofs rel lan t) s fun u => (ptpInst u i).ofs = ofs ∧ (ptpInst u i).abs3 = 3 * rel + s.tim.adj3 ∧
      (ptpInst u i).lan = lan ∧ (ptpInst u i).lockRun = lock ∧ (ptpInst u i).offRun = off ∧ (ptpInst u i).st = st ∧
      (ptpInst u i).losses = (if x.st = 2 ∧ st ≠ 2 then satAdd 0xFFFF x.losses 1 else x.losses) ∧
      (¬ (x.st = 2 ↔ st = 2) → flag (rd u Reg.TIM_EVT_STAT) 0 = true)) ∧
    (a.domain = (ptpCfg s i).domain → (∀ p, x.parent = some p → p.gm = a.gm ∨ a.better p = true) →
      completes (.ptpAnnounce i a t) s fun u => (ptpInst u i).parent = some a ∧ (ptpInst u i).lastAnn = t ∧
        (ptpInst u i).st = if x.st = 3 then 1 else x.st) ∧
    (x.parent ≠ none → x.lastAnn + 3000000000 ≤ t → completes (.announceTimeout i t) s fun u => (ptpInst u i).parent = none ∧
      (ptpInst u i).annOut = satAdd 0xFFFF x.annOut 1 ∧ (ptpInst u i).lockRun = 0 ∧ (ptpInst u i).st = if x.st = 0 then 0 else 3)) ∧
  ((a.domain ≠ (ptpCfg s i).domain ∨ ∃ p, x.parent = some p ∧ p.gm ≠ a.gm ∧ a.better p = false) →
    completes (.ptpAnnounce i a t) s fun u => onlyParts [.grid] s u) ∧
  (port / 2 = (if (ptpCfg s i).pb then 1 else 0) → completes (.pdelayReq port t) s fun u =>
    u.sent = s.sent ++ [{ bus := 3, kind := 0x88F7, data := [port, t] }] ∧ (ethPort u port).tx = (ethPort s port).tx + 1 ∧ u.tim = s.tim) ∧
  (completes (.pdelayResp i lan dly t) s fun u =>
    ptpInst u i = (if lan then { x with dlyB := dly } else { x with dlyA := dly }) ∧ onlyParts [.grid, .tim] s u)

/-- Second marks, holdover, UTC and IRIG-B (R380–R384, R387, R389, R390, R395): a mark shows the difference of the bases, raises PPS and finds a disagreement at the
second one above 10 µs; the preferred base comes back after its time; the holdover estimate is saved; a kept leap flag is applied at the
end of its day; three good IRIG-B frames make the input VALID and a bad or missing one ends it; PPS falls after its width. Model's choices in it: log entry 77. -/
def Obligations.TimeMarks : Prop := ∀ (s : State) (t k : Nat) (m : MarkMeas) (f : IrigFrame),
  let ofs := f.ofs - Int.ofNat s.cfg.tim.irigDelay
  let pref := if s.cfg.tim.pref then 2 else 1
  let good := f.tq ≤ 1000 ∧ f.localOfs = 0
  let irig := fun (u : State) => field (rd u Reg.TIM_IRIG_STAT) 31 30
  (s.grid.neverSync = false →
    (completes (.secondMark m t) s fun u => rd u Reg.TIM_DIFF_AB = i32 (max (-2147483648) (min 2147483647 m.ba)) ∧ u.tim.pps = true ∧
      rd u Reg.TIM_HO_FREQ = i32 u.tim.freq ∧ u.tim.freq = (if healthyBase s (selBase s) then m.freq else s.tim.freq) ∧
      (ownSelection s = true → healthyBase s 1 = true → healthyBase s 2 = true → 10000 < m.ba.natAbs → 1 ≤ s.tim.overN →
        flag (rd u Reg.TIM_STAT) 28 = true ∧ u.tim.overN = 2)) ∧
    (ownSelection s = true → selBase s = 3 - pref → s.cfg.tim.revert ≠ 0 → selectable s pref = true →
      (ptpInst s (pref - 1)).okSince = some k → k + s.cfg.tim.revert * 1000000000 ≤ t → completes (.prefRevert t) s fun u =>
        selBase u = pref ∧ flag (rd u Reg.TIM_EVT_STAT) 1 = true ∧ flag (rd u Reg.FRM_EVT_STAT) 6 = true)) ∧
  (completes (.holdoverSave t) s fun u => onlyParts [.grid, .tim] s u ∧
    u.tim = { s.tim with mram := { freq := s.tim.freq, temp := rd s Reg.MON_DIE, sec := s.tim.lastOkSec } }) ∧
  (utcSource s = none → s.tim.leap61 = true → (t / 1000000000 - s.tim.utc) % 86400 = 1 → completes (.leapApply t) s fun u =>
    u.tim.utc = s.tim.utc + 1 ∧ u.tim.leap61 = false) ∧
  (utcSource s = none → s.tim.leap61 = false → s.tim.leap59 = true → (t / 1000000000 - s.tim.utc) % 86400 = 86399 →
    completes (.leapApply t) s fun u => u.tim.utc = s.tim.utc - 1 ∧ u.tim.leap59 = false) ∧
  (s.cfg.tim.irig = true → completes (.irigFrame f t) s fun u =>
    rd u Reg.TIM_IRIG_OFS = i32 ofs ∧ u.tim.irigOfs = ofs ∧ u.tim.irigSec = f.sec ∧
    field (rd u Reg.TIM_IRIG_STAT) 15 0 = satAdd 0xFFFF (field (rd s Reg.TIM_IRIG_STAT) 15 0) 1 ∧
    (good → 2 ≤ s.tim.irigRun → f.sec = s.tim.irigSec + 1 → u.tim.irigRun = 3 ∧ irig u = 2) ∧
    (¬ good → u.tim.irigRun = 0 ∧ irig u = if irigValid s then 3 else irig s)) ∧
  (completes (.irigFrameMissing t) s fun u => u.tim.irigRun = 0 ∧ irig u = (if irigValid s then 3 else irig s) ∧
    (irigValid s = true → flag (rd u Reg.TIM_EVT_STAT) 5 = true)) ∧
  (s.cfg.tim.ppsWidth * 1000000 ≤ t % 1000000000 → completes (.ppsFall t) s fun u =>
    u.tim = { s.tim with pps := false } ∧ onlyParts [.grid, .tim] s u)

/-- Capture units and launch queues (R391–R394): every unit that listens stores the timestamp, at most 16; a new configuration empties the
unit; the head of a launch queue leaves at its time, a control-class one only with the grant. Model's choices in it: log entry 78. -/
def Obligations.CaptureAndLaunch : Prop := ∀ (s : State) (src idx stamp k port t : Nat) (deb : Bool) (c : Cmd) (x : LaunchEnt) (xs : List LaunchEnt),
  let unit := fun (v : State) (j : Nat) => tget ({} : CapUnit) v.tim.caps j
  (completes (.captureEvent src idx deb stamp) s fun u => onlyRegs [Reg.REC_EVT_STAT] s u ∧ ∀ j, j < 64 → unit u j =
    (if (unit s j).listens src idx deb = false then unit s j
     else if 16 ≤ (unit s j).fifo.length then { unit s j with ovf := satAdd 0xFFFF (unit s j).ovf 1 }
     else { unit s j with fifo := (unit s j).fifo ++ [capStamp src stamp] })) ∧
  (passes s Reg.TIM_CAP_CFG c → k = capSel s → completes (.timCapCfg c) s fun u =>
    unit u k = { cfg := c.value &&& 0xFC0001FF#32, fifo := [], ovf := (unit s k).ovf } ∧ (∀ j, j ≠ k → unit u j = unit s j) ∧
    onlyRegs [Reg.REC_EVT_STAT] s u) ∧
  ((launchQ s port).ents = x :: xs → (x.time ≤ t ∨ x.prompt = true) →
    (x.ctrl = true → s.pair.granted = false → completes (.launchFrame port t) s fun u => launchQ u port = { ents := xs, headAt := t } ∧
      u.sent = s.sent ∧ field (rd u Reg.TIM_LQ_CNT) 15 8 = satAdd 255 (field (rd s Reg.TIM_LQ_CNT) 15 8) 1 ∧
      ∀ p, p ≠ port → launchQ u p = launchQ s p) ∧
    ((x.ctrl = false ∨ s.pair.granted = true) → gatesClosed s = false → completes (.launchFrame port t) s fun u =>
      launchQ u port = { ents := xs, headAt := t } ∧ (∀ p, p ≠ port → launchQ u p = launchQ s p) ∧ onlyRegs [Reg.TIM_LQ_CNT] s u ∧
      u.sent = s.sent ++ [if port < 4 then { bus := 3, kind := x.kind, data := port :: x.what } else { bus := 1, kind := x.kind, data := port :: x.what }]))

/-! ### The station and process bus -/

/-- Ports and GOOSE (R399–R403, R405, R407–R411): a frame with a bad FCS, one too long, a duplicate and a refused one are counted; supervision frames, ARP and
ICMP echo are answered; a GOOSE message with a cause of R410 is discarded and counted, an accepted one refreshes its subscription and
delivers a new state; one whose time to live passes is LOST; a publication repeats its state. Model's choices in it: log entries 79 and 80. -/
def Obligations.EthernetAndGoose : Prop := ∀ (s : State) (f : EthFrame) (m : GooseMsg) (t k q ip : Nat) (up b : Bool) (d : DupEnt)
    (c : GseSubCfg) (x : GseSub) (data : List Byte),
  let e := ethPort s f.port
  let p := f.port / 2
  (ethOn s f.port = true → f.port < 5 →
    (f.fcsOk = false → completes (.ethFrameRx f t) s fun u => (ethPort u f.port).fcs = satAdd 0xFFFF e.fcs 1 ∧
      u.stn.pairs = s.stn.pairs ∧ onlyParts [.grid, .stn] s u) ∧
    (f.fcsOk = true → f.oversize = true → completes (.ethFrameRx f t) s fun u => (ethPort u f.port).overN = satAdd 0xFFFF e.overN 1 ∧
      u.stn.pairs = s.stn.pairs ∧ onlyParts [.grid, .stn] s u) ∧
    (f.fcsOk = true → f.oversize = false → f.port = 4 → completes (.ethFrameRx f t) s fun u =>
      (ethPort u 4).rx = (if e.sec = t / 1000000000 then e.rx + 1 else 1) ∧ u.stn.pairs = s.stn.pairs ∧ onlyParts [.grid, .stn] s u) ∧
    (f.fcsOk = true → f.oversize = false → f.port < 4 → f.seq = some q → d ∈ (ethPair s p).dups → d.src = f.src → d.seq = q → t < d.at0 + 400000000 →
      completes (.ethFrameRx f t) s fun u => (ethPair u p).discard = satAdd 0xFFFF (ethPair s p).discard 1 ∧ u.sent = s.sent ∧ u.sig = s.sig) ∧
    (f.fcsOk = true → f.oversize = false → f.port < 4 → f.seq = none → (ethPair s p).dups = [] → (ethPair s p).single ≤ 0xFFFF →
      (ethPair s p).sec = t / 1000000000 →
      (etypePasses p f.etype = false → completes (.ethFrameRx f t) s fun u =>
        ethPair u p = ethPair (countDrop s p 1) p ∧ onlyParts [.grid, .stn] s u) ∧
      (∀ v, etypePasses p f.etype = true → f.vid = some v → v ∉ pairVids s p → completes (.ethFrameRx f t) s fun u =>
        ethPair u p = ethPair (countDrop s p 2) p ∧ onlyParts [.grid, .stn] s u))) ∧
  (k < 2 → ethOn s (2 * k) = true → completes (.supervisionFrame k t) s fun u => u.sent = s.sent ++
    [{ bus := 3, kind := 0x88FB, data := [2 * k, ownMac s k] }, { bus := 3, kind := 0x88FB, data := [2 * k + 1, ownMac s k] }]) ∧
  (k < 5 → (ethPort s k).link ≠ up → completes (.ethLinkChange k up q t) s fun u => (ethPort u k).link = up ∧
    (ethPort u k).speed = (if up then q else 0) ∧ (ethPort u k).downs = (if up then (ethPort s k).downs else satAdd 0xFFFF (ethPort s k).downs 1) ∧
    flag (rd u Reg.ETH_STAT) k = up ∧ flag (rd u Reg.ETH_EVT_STAT) 0 = true ∧ onlyRegs [Reg.ETH_STAT, Reg.ETH_EVT_STAT, Reg.REC_EVT_STAT] s u) ∧
  (ethOn s k = true → ownsIp s k ip = true →
    (completes (.arpRequest k ip t) s fun u => u.sent = s.sent ++ [{ bus := 3, kind := 0x0806, data := [k, ip, ownMac s 0] }]) ∧
    completes (.icmpEcho k ip data t) s fun u => u.sent = s.sent ++ [{ bus := 3, kind := 0x0800, data := k :: ip :: data.map (·.toNat) }]) ∧
  (s.cfg.stn.subs.find? (fun g => decide (g.2.mac = m.mac) && decide (g.2.appid = m.appid) && decide (g.2.gocb = m.gocb) && decide (g.2.pb = m.pb)) =
      some (k, c) → look s.cfg.stn.subs k = some c → gseSub s k = some x →
    (gooseCause c x m ≠ 0 → c.safe = false → completes (.gooseRx m t) s fun u => u.sig = s.sig ∧
      gseSub u k = some { x with
        err := gooseCause c x m, errSince := some (x.errSince.getD s.grid.frame), discards := satAdd 0xFFFF x.discards 1 }) ∧
    (gooseCause c x m = 0 → completes (.gooseRx m t) s fun u =>
      gseSub u k = some { x with
        state := 2, st := m.st, sq := m.sq, first := false, test := m.test, lan := m.lan, errSince := none
        tal := m.tal * 1000000, lastAt := t, news := if x.first || decide (m.st ≠ x.st) then satAdd 0xFFFF x.news 1 else x.news } ∧
      (∀ ep, m.vals = [.bool b] → m.test = false → subMember s k 0 = [ep] → (x.first = true ∨ m.st ≠ x.st) →
        (tget none (if t < nextFreeze s then u.sig.coll else u.sig.next).got ep).map (fun g => (g.tet, g.stamp)) =
          some (if b then 0x2#4 else 0x1#4, t)))) ∧
  (gseSub s k = some x →
    (x.state = 2 → x.lastAt + x.tal ≤ t → completes (.gooseTalExpiry k t) s fun u =>
      gseSub u k = some { x with state := 3, lostCnt := satAdd 0xFFFFFFFF x.lostCnt 1 } ∧ flag (rd u Reg.GSE_EVT_STAT) 1 = true ∧
      ∀ ep ∈ subEps s k, tget false u.sig.lost ep = true) ∧
    (x.state ≠ 4 → x.errSince = some q → q + 2 * (gseSubCfg s k).maxt ≤ s.grid.frame → completes (.gooseErrorTimeout k t) s fun u =>
      gseSub u k = some { x with state := 4 } ∧ flag (rd u Reg.GSE_EVT_STAT) 3 = true)) ∧
  (publishes s k = true → (gsePub s k).sent = true → (gsePub s k).nextAt ≤ s.grid.frame → completes (.gooseRepeat k t) s fun u =>
    gsePub u k = { (gsePub s k) with
      sq := (gsePub s k).sq + 1, reps := (gsePub s k).reps + 1
      nextAt := s.grid.frame + pubInterval (gsePubCfg s k) ((gsePub s k).reps + 1) } ∧
    ∀ port, port / 2 = (if (gsePubCfg s k).pb then 1 else 0) → (launchQ s port).ents.length < 512 →
      (launchQ u port).ents.length = (launchQ s port).ents.length + 1)

/-- MMS and capture files (R195, R404, R412–R414): requests without an association answer an error; with one, directories and values are read, control
blocks are set, an object is selected and operated once at a time, and its command ends with its status or its time; capture files are
read, and deleted by the engineer. Model's choices in it: log entries 81, 82 and 83. -/
def Obligations.MmsServices : Prop := ∀ (s : State) (a n o b t k ep : Nat) (ctl test last : Bool) (raw : List Byte) (c : MmsObjCfg) (e : MmsExec) (g : Capture),
  let x := mmsObj s o
  let r := tget ({} : Rcb) s.stn.rcbs b
  let reads := fun (i : Instr) (v : Resp) => completes i s fun u => u.resp = v ∧ onlyParts [.grid, .resp] s u
  (serves s = true → s.cfg.stn.allow.contains n = true → s.stn.assocs.length < 16 → s.stn.assocs.contains a = false →
    completes (.mmsAssociate a n t) s fun u => u.resp = .value a ∧ u.stn = { s.stn with assocs := s.stn.assocs ++ [a] }) ∧
  ((serves s = false ∨ s.cfg.stn.allow.contains n = false ∨ 16 ≤ s.stn.assocs.length) → reads (.mmsAssociate a n t) (.refused 0)) ∧
  (associated s a = false → ∀ i ∈ [Instr.mmsConclude a t, .getDirectory a n t, .getDataValues a n t, .setDataValues a b k n t, .mmsSelect o a t,
    .mmsOperate o a ctl test raw t, .getFile a n test last t, .fileDirectory a t, .deleteFile a n k t], reads i .error) ∧
  (associated s a = true →
    (∀ i ∈ [Instr.mmsConclude a t, .mmsAbort a t], completes i s fun u => u.stn.assocs = s.stn.assocs.filter (fun y => decide (y ≠ a)) ∧
      (∀ j, (tget ({} : Rcb) u.stn.rcbs j).ena ≠ some a) ∧ (∀ j, ((mmsObj u j).sel.map (·.1)) ≠ some a) ∧ onlyRegs [] s u) ∧
    (∀ l, look s.cfg.stn.dirs n = some l → reads (.getDirectory a n t) (.values l)) ∧
    (look s.cfg.stn.vals n = some ep → reads (.getDataValues a n t) (.values (epNums s ep))) ∧
    (∀ h, look s.cfg.stn.rcbs b = some h → (∀ y, r.ena = some y → y = a) → completes (.setDataValues a b 0 1 t) s fun u =>
      u.resp = .value 0 ∧ (tget ({} : Rcb) u.stn.rcbs b).ena = some a ∧ (tget ({} : Rcb) u.stn.rcbs b).buf = r.buf ∧
      ∀ j, j ≠ b → tget ({} : Rcb) u.stn.rcbs j = tget ({} : Rcb) s.stn.rcbs j) ∧
    (∀ h y, look s.cfg.stn.rcbs b = some h → r.ena = some y → y ≠ a → reads (.setDataValues a b k n t) .error) ∧
    (look s.cfg.stn.objs o = some c →
      (c.model = 2 → x.sel = none → executing s x = false → completes (.mmsSelect o a t) s fun u =>
        u.resp = .value 0 ∧ mmsObj u o = { x with sel := some (a, t + c.selTo * 1000000000) } ∧ ∀ j, j ≠ o → mmsObj u j = mmsObj s j) ∧
      ((c.model ≠ 2 ∨ executing s x = true) → reads (.mmsSelect o a t) (.refused 3)) ∧
      (executing s x = false → (c.model = 2 → x.sel = some (a, k) ∧ t < k) → completes (.mmsOperate o a ctl test raw t) s fun u =>
        u.resp = .value 0 ∧ u.stn.opsOk = satAdd 0xFFFF s.stn.opsOk 1 ∧ mmsObj u o =
          { sel := none, exec := some { ctl := ctl, test := test, on := if t < nextFreeze s then s.grid.frame + 1 else s.grid.frame + 2, assoc := a } } ∧
        (mmsEps s o ctl = [ep] → (tget none (if t < nextFreeze s then u.sig.coll else u.sig.next).got ep).map (fun z => (z.tet, z.stamp)) =
          some (mkTet 2 false test, t))) ∧
      (executing s x = true → completes (.mmsOperate o a ctl test raw t) s fun u => u.resp = .refused 12 ∧
        u.stn = { s.stn with opsBad := satAdd 0xFFFF s.stn.opsBad 1 }) ∧
      (executing s x = false → c.model = 2 → x.sel = none → completes (.mmsOperate o a ctl test raw t) s fun u => u.resp = .refused 18 ∧
        u.stn = { s.stn with opsBad := satAdd 0xFFFF s.stn.opsBad 1 })) ∧
    (captureOf s n = some g →
      (completes (.getFile a n true last t) s fun u => u.resp = .values ((captureDat s g).map (·.toNat)) ∧ u.pe = { s.pe with
        caps := s.pe.caps.map fun y => if y.seq = n then { y with reading := if last then 0 else a + 1 } else y }) ∧
      (hasRole s k 2 = true → completes (.deleteFile a n k t) s fun u => u.resp = .value 0 ∧
        u.pe = { s.pe with caps := s.pe.caps.filter fun y => decide (y.seq ≠ n) }) ∧
      (hasRole s k 2 = false → reads (.deleteFile a n k t) .error)) ∧
    reads (.fileDirectory a t) (.values (s.pe.caps.map (·.seq)))) ∧
  (x.sel = some (a, k) → k ≤ t → completes (.selectTimeout o t) s fun u => mmsObj u o = { x with sel := none } ∧
    (∀ j, j ≠ o → mmsObj u j = mmsObj s j) ∧ onlyParts [.grid, .stn] s u) ∧
  (look s.cfg.stn.objs o = some c → x.exec = some e → e.off = none → e.on + c.opTo ≤ s.grid.frame → completes (.operateTimeout o t) s fun u =>
    mmsObj u o = { x with exec := some { e with off := some (s.grid.frame + 1) } } ∧
    u.sent = (if c.model = 0 ∨ associated s e.assoc = false then s.sent else s.sent ++ [{ bus := 3, kind := 103, data := [0, e.assoc, o, 0] }]))

/-- Sessions (R415): one opens in a free slot with the role of its certificate when the chain and the signature hold, and is refused otherwise;
it closes by request or after its idle time, and maintenance mode of the session ends with it. Model's choices in it: log entry 83. -/
def Obligations.Sessions : Prop := ∀ (s : State) (r : SessReq) (k t : Nat) (x : Session),
  let id := (s.stn.sessNum + 1) % 2 ^ 26
  let chain := (tget none s.upd.trust r.anchor).any fun a => a.usage / 2 % 2 == 1
  let refused := fun (u : State) => u.resp = .refused 0 ∧ u.sess = s.sess ∧ u.stn = s.stn ∧ flag (rd u Reg.ETH_EVT_STAT) 4 = true
  let closed := fun (u : State) => tget none u.sess k = none ∧ (∀ j, j ≠ k → tget none u.sess j = tget none s.sess j) ∧
    flag (rd u Reg.ETH_EVT_STAT) 4 = true ∧ (s.saf.smm.session = x.id → s.saf.smm.stage = 1 → u.saf.smm = {}) ∧
    (s.saf.smm.session ≠ x.id → u.saf = s.saf)
  (freeSlot s = some k → sessionsOn s = true → r.role ≤ 4 → chain = true → completes (.sessionOpen r t) s fun u =>
    (Config.sigValid (0x3000 + r.anchor) r.cert r.sig = true → u.resp = .value id ∧ u.stn = { s.stn with sessNum := id } ∧
      tget none u.sess k = some { id := id, role := r.role, svc := r.svc, idleAt := (atTime s t).grid.mono, serial := r.serial } ∧
      (∀ j, j ≠ k → tget none u.sess j = tget none s.sess j) ∧ flag (rd u Reg.ETH_EVT_STAT) 4 = true) ∧
    (Config.sigValid (0x3000 + r.anchor) r.cert r.sig = false → refused u)) ∧
  ((freeSlot s = none ∨ sessionsOn s = false ∨ 4 < r.role ∨ chain = false) → completes (.sessionOpen r t) s refused) ∧
  (s.sess.find? (fun e => e.2.any fun y => decide (y.id = x.id)) = some (k, some x) →
    completes (.sessionClose x.id t) s closed ∧
    (x.idleAt + s.cfg.stn.idle * 1000000000 ≤ (atTime s t).grid.mono → completes (.sessionIdleTimeout x.id t) s closed))

/-! ### Start, slot and monitors -/

/-- Starts and losses of power (R284, R420, R422, R507, R511, R513, R526, R527): a start that is due begins in HOLD with its cause, keeps MRAM, NAND,
OTP and slot memory and forgets the rest; HOLD ends with straps that differ; the end of the hold-up and a thermal trip leave HOLD without power. Model's choices in it: log entry 84. -/
def Obligations.Starts : Prop := ∀ (s : State) (t k : Nat),
  let kept := fun (u : State) => u.rcd.buf = [] ∧ u.frc.table = s.frc.table ∧ u.fbx.copyA = s.fbx.copyA ∧ u.fbx.copyB = s.fbx.copyB ∧
    u.upd.trust = s.upd.trust ∧ u.upd.otp = s.upd.otp ∧ u.upd.slotA = s.upd.slotA ∧ u.upd.slotB = s.upd.slotB ∧
    u.upd.copyA = s.upd.copyA ∧ u.upd.copyB = s.upd.copyB ∧ u.hlt.log = s.hlt.log ∧ u.tim.mram = s.tim.mram ∧ u.pending = s.pending
  let lost := fun (u : State) => u.cfg = State.reset.cfg ∧ u.sess = [] ∧ u.sig = State.reset.sig ∧ u.le = [] ∧ u.saf = State.reset.saf ∧
    u.pair.role = State.reset.pair.role ∧ stage u = 0
  let begun := fun (u : State) (code : Nat) => u.slot.power = true ∧ u.slot.seated = true ∧ u.hlt.starts = s.hlt.starts + 1 ∧
    u.hlt.trip = false ∧ u.upd.powerUp = false ∧ u.upd.t0 = u.grid.mono ∧ (code < 7 → field (rd u Reg.UPD_START) 31 28 = code)
  let straps := fun (i : Instr) =>
    (s.slot.nowSide ≠ s.slot.nowSideN → completes i s fun u => stage u = 1 ∧ u.slot.side = s.slot.nowSide ∧ u.slot.sideN = s.slot.nowSideN ∧
      u.slot.cid = s.slot.nowCid ∧ u.pair.sideB = s.slot.nowSide ∧ u.pair.hbStopped = s.pair.killq ∧ (s.hlt.waiting = false → u.lio.life = true)) ∧
    (s.slot.nowSide = s.slot.nowSideN → completes i s fun u => stage u = 0 ∧ onlyParts [.grid, .slot] s u ∧
      u.slot.side = s.slot.nowSide ∧ u.slot.sideN = s.slot.nowSideN)
  (startCause s = some k → s.hlt.waiting = false → completes (.moduleStart t) s fun u => begun u k ∧ kept u ∧ lost u) ∧
  (startCause s = some k → s.hlt.waiting = true → s.slot.nowSide ≠ s.slot.nowSideN → completes (.moduleStart t) s fun u =>
    begun u k ∧ stage u = 1 ∧ u.hlt.waiting = true ∧ flag (rd u Reg.MON_STAT) 30 = true) ∧
  (s.saf.safe = true → s.saf.safeHeld = false → s.saf.safeAt + 100000000 ≤ (atTime s t).grid.mono → s.pair.killq = false → s.slot.latched = true →
    s.pair.role = .offline → s.hlt.waiting = false → completes (.safeStateRestart t) s fun u => begun u 4 ∧ kept u ∧ lost u) ∧
  (s.slot.power = true → stage s = 0 → straps (.holdEnd t) ∧ (s.slot.side = s.slot.sideN → straps (.strapRetry t))) ∧
  (s.slot.failing.isSome = true → completes (.holdUpEnd t) s fun u => u.slot.power = false ∧ u.slot.failing = none ∧ u.upd.powerUp = true ∧
    u.grid.mono = 0 ∧ kept u ∧ lost u) ∧
  (s.slot.power = true → completes (.thermalTrip t) s fun u => u.slot.power = false ∧ u.upd.powerUp = true ∧ u.hlt.trip = true ∧ u.hlt.hot = true ∧
    kept u ∧ lost u)

/-- The stages of a start (R422, R423, R425, R428, R435, R438, R439, R442, R448, R526): GUARD puts the stage-1 table into force and goes on to LOAD,
waits after a drop or enters recovery; LOAD boots the chosen slot; CONFIGURE applies the chosen copy and enters JOIN, or the start stops
with its cause. Model's choices in it: log entries 48 and 85. -/
def Obligations.StartStages : Prop := ∀ (s : State) (t n : Nat) (b ok : Bool) (failed : List Nat) (fwd : Option (SlotCopy × SlotCopy)),
  let stop := field (rd s Reg.UPD_STAT) 28 26
  let i := installStaged s ok
  let x := if b then i.upd.slotB else i.upd.slotA
  let none2 : SlotCopy × SlotCopy := ({}, {})
  let ab := if s.upd.devices then (s.upd.copyA, s.upd.copyB) else fwd.getD none2
  let k := copyChoice s ab.1 ab.2
  let c := if k = 2 then ab.2 else ab.1
  let signs := (ownAnchors s).any fun a => bitOf a.2.usage 0
  let stops := fun (j : Instr) (cause : Nat) => completes j s fun u => field (rd u Reg.UPD_STAT) 28 26 = cause ∧ stage u = stage s ∧
    flag (rd u Reg.UPD_EVT_STAT) 1 = true ∧ u.cfg = s.cfg
  let recovers := fun (u : State) => stage u = 6 ∧ u.upd.recovery = true ∧ u.pair.hbStopped = true ∧ flag (rd u Reg.UPD_REC_STAT) 31 = true
  (stage s = 1 → s.upd.s1Used = 0 →
    (s.slot.recButton = true → completes (.guardReady t) s recovers) ∧
    (s.slot.recButton = false → completes (.guardReady t) s fun u => stage u = (if s.hlt.waiting then 1 else 2) ∧ u.upd.s1Used = s1Choice s ∧
      (s1Choice s = 1 → u.cfg = guardImage s.upd.copyA.s1) ∧ (s1Choice s = 2 → u.cfg = guardImage s.upd.copyB.s1) ∧
      (s1Choice s = 0 → u.cfg = s.cfg))) ∧
  (stage s = 1 → s.hlt.waiting = true → s.hlt.cool = some n → n + 60000000000 ≤ (atTime s t).grid.mono → completes (.critCooldownEnd t) s fun u =>
    stage u = 2 ∧ u.hlt.waiting = false ∧ flag (rd u Reg.MON_STAT) 30 = false ∧ u.lio.life = true) ∧
  (stage s = 2 → stop = 0 →
    (bootChoice i = none → completes (.loadComplete failed ok t) s recovers) ∧
    (bootChoice i = some b → failed = [] → completes (.loadComplete failed ok t) s fun u => stage u = 3 ∧ u.acc.locked = true ∧
      u.upd.bootB = b ∧ booted u = (if x.state = 1 then { x with state := 2 } else x) ∧ rd u Reg.DEV_FW_VER = w32 x.version ∧
      u.upd.confirmEnd = (if x.state = 1 then some (s.upd.t0 + field (rd s Reg.UPD_CONFIRM) 31 15 * 1000000000) else none)) ∧
    (bootChoice i = some b → failed ≠ [] → stops (.loadComplete failed ok t) 5)) ∧
  (stage s = 3 → stop = 0 →
    (signs = false → stops (.configureComplete fwd t) 4) ∧
    (signs = true → k = 0 → stops (.configureComplete fwd t) 1) ∧
    (signs = true → k = 3 → stops (.configureComplete fwd t) 2) ∧
    (signs = true → k = 1 ∨ k = 2 → imageRules c.image = false → stops (.configureComplete fwd t) 1) ∧
    (signs = true → k = 1 ∨ k = 2 → imageRules c.image = true → (booted s).feat < c.image.fwmin → stops (.configureComplete fwd t) 3) ∧
    (signs = true → k = 1 ∨ k = 2 → imageRules c.image = true → c.image.fwmin ≤ (booted s).feat → completes (.configureComplete fwd t) s fun u =>
      stage u = 4 ∧ u.cfg = c.image ∧ u.upd.used = k ∧ rd u Reg.UPD_CFG_ID = w32 c.imageId ∧ u.pair.joinSince.isSome = true))

/-- The slot (R242, R508–R511, R513): the lever asks a switchover of the ACTIVE module, whose refusal flashes, and takes every other to OFFLINE; a
feed's change, the power-fail warning, an uncontrolled removal and a strap's change do what their rules say. Model's choices in it: log entries 55 and 92. -/
def Obligations.SlotEvents : Prop := ∀ (s : State) (t n cid : Nat) (ok a b : Bool),
  let code := switchRefusal s 4
  (s.slot.power = true → s.slot.failing = none → s.slot.latched = true →
    (s.pair.role = .active → code = 0 → completes (.leverUnlatch t) s fun u =>
      u.pair.sw.map (fun w => (w.h, w.kind)) = some (s.grid.frame + 3, 4) ∧ u.slot = { s.slot with latched := false, removal := true }) ∧
    (s.pair.role = .active → code ≠ 0 → completes (.leverUnlatch t) s fun u => u.pair = s.pair ∧ u.slot.faultFlash = true ∧
      u.slot.removal = s.slot.removal ∧ field (rd u Reg.PAIR_STAT) 19 16 = code ∧ flag (rd u Reg.PAIR_EVT_STAT) 3 = true) ∧
    (s.pair.role = .offline → completes (.leverUnlatch t) s fun u => u.slot.removal = true ∧ u.slot.latched = false ∧ u.pair.lines.ready = false) ∧
    (s.pair.role ≠ .active → s.pair.role ≠ .offline → s.pair.next = none → completes (.leverUnlatch t) s fun u =>
      u.pair.next = some (.offline, 16) ∧ u.slot = { s.slot with latched := false, removal := true } ∧ u.lio.lifeDrop = true)) ∧
  (s.slot.power = false ∨ s.slot.failing.isSome = true ∨ s.slot.latched = false → completes (.leverUnlatch t) s fun u =>
    u.slot = { s.slot with latched := false } ∧ onlyParts [.grid, .slot] s u) ∧
  (completes (.leverLatch t) s fun u => u.slot = { s.slot with latched := true, faultFlash := false, unlatchAt := none } ∧
    onlyParts [.grid, .slot] s u) ∧
  (completes (.feedChange n ok t) s fun u => u.slot = (if n = 1 then { s.slot with feed1 := ok } else { s.slot with feed2 := ok }) ∧
    ((if n = 1 then s.slot.feed1 else s.slot.feed2) ≠ ok → flag (rd u Reg.DEV_EVT_STAT) 1 = true) ∧
    onlyRegs [Reg.DEV_EVT_STAT, Reg.REC_EVT_STAT] s u) ∧
  (s.slot.power = true → s.slot.failing = none → completes (.powerFailWarning t) s fun u =>
    u.slot = { s.slot with failing := some (atTime s t).grid.mono } ∧ u.dpy = { s.dpy with stopping := true } ∧
    u.rcd.pf = true ∧ u.rcd.flushing = true ∧ u.rcd.cause = 4 ∧
    u.tim = { s.tim with mram := { freq := s.tim.freq, temp := rd s Reg.MON_DIE, sec := s.tim.lastOkSec } }) ∧
  (s.slot.power = true → completes (.uncontrolledRemoval t) s fun u => u.slot.seated = false ∧ u.slot.failing.isSome = true ∧
    u.lio.life = false ∧ u.pair = { s.pair with gatesOff := true, hbStopped := true }) ∧
  (completes (.strapsChanged a b cid t) s fun u => u.slot = { s.slot with nowSide := a, nowSideN := b, nowCid := cid } ∧
    (stage s ≠ 0 → (a ≠ s.slot.nowSide ∨ b ≠ s.slot.nowSideN ∨ cid ≠ s.slot.nowCid) → flag (rd u Reg.DEV_EVT_STAT) 2 = true) ∧
    onlyRegs [Reg.DEV_EVT_STAT, Reg.REC_EVT_STAT] s u)

/-- The monitors (R523–R531): every temperature sensor, voltage monitor and oscillator takes its sample; the die temperature, the warnings and the life
counters follow; 125 °C drops the module to GUARD; at a day boundary each oscillator's mean is logged and judged. Model's choices in it: log entries 94 and 95. -/
def Obligations.Monitors : Prop := ∀ (s : State) (vs : List Int) (mvs norm : List Nat) (t : Nat),
  let day := t / 1000000000 / 86400 - 1
  (completes (.tempSample vs t) s fun u =>
    (∀ n, n < 12 → ∃ r, tempOf u n = { (tempOf s n).sample n (vs.getD n 0) (dieMedian2 vs) with recd := r }) ∧
    rd u Reg.MON_DIE = w32 ((i32 (dieTemp u)).toNat % 65536 * 65536 + (validDies u).foldl (fun m n => m + 2 ^ n) 0) ∧
    u.hlt.poh = s.hlt.poh + (if s.slot.power then (atTime s t).grid.mono - s.hlt.lastTick else 0) ∧
    ((validDies u).length < 2 → flag (rd u Reg.MON_STAT) 31 = true) ∧
    (2 ≤ (validDies u).length → (∃ n ∈ validDies u, (tempOf u n).crit = true) → s.hlt.waiting = false → s.slot.power = true → 1 ≤ stage s →
      u.hlt.waiting = true ∧ flag (rd u Reg.MON_STAT) 30 = true ∧ flag (rd u Reg.MON_EVT_STAT) 1 = true ∧
      (s.pair.role ≠ .active → u.pair.restartDue.isSome = true ∧ u.pair.hbStopped = true))) ∧
  (completes (.voltageSample mvs t) s fun u =>
    (∀ n, n < 24 → let v := tget ({} : VoltState) u.hlt.volts n
      (v.low, v.high) = railOut n (mvs.getD n 0) ∧
      rd u (Reg.MON_VOLTn n) = w32 (bit1 v.low 31 + bit1 v.high 30 + mvs.getD n 0 % 65536) ∧
      (v.low = true ∨ v.high = true → flag (rd u Reg.MON_STAT) 27 = true)) ∧
    u.lio = { s.lio with supply := mvs.getD 21 0 }) ∧
  (completes (.processMonitor norm t) s fun u => ∀ n, n < 16 →
    let base := (rd s (Reg.MON_PBASEn n)).toNat
    let a : Int := (Int.ofNat base - Int.ofNat (norm.getD n 0)) * 10000
    let x := procOf s n
    let y := procOf u n
    y = { x with slow := y.slow, sum := x.sum + y.slow, cnt := x.cnt + 1 } ∧
    (base ≠ 0 → y.slow = Int.fdiv a (Int.ofNat base) ∨ (Int.fmod a (Int.ofNat base) ≠ 0 ∧ y.slow = Int.fdiv a (Int.ofNat base) + 1))) ∧
  (completes (.trendDay t) s fun u => u.hlt.newest = some day ∧ ∀ n, n < 16 →
    let x := procOf s n
    let y := procOf u n
    (x.cnt = 0 → y = x) ∧
    (x.cnt ≠ 0 → ∃ m : Int, tget none u.hlt.log (day * 16 + n) = some m ∧
      (m = Int.fdiv x.sum (Int.ofNat x.cnt) ∨ m = Int.fdiv x.sum (Int.ofNat x.cnt) + 1) ∧
      y = { slow := x.slow, warn := decide (400 ≤ m), alarm := decide (600 ≤ m), rate := y.rate }) ∧
    (y.alarm = true → flag (rd u Reg.MON_STAT) 26 = true))

/-! ### Update, access rules, recorder and display -/

/-- Packages (R433–R438, R442): a block enters staging, and the last one is verified; a download needs the engineer role; recovery takes one
package by TFTP. Model's choices in it: log entries 50 and 86. -/
def Obligations.FirmwarePackages : Prop := ∀ (s : State) (session k t : Nat) (b : List Byte) (first last : Bool),
  let g := if first then { state := 1 } else s.upd.staging
  let g2 := { g with blocks := g.blocks + 1, crcOk := g.crcOk && blockOk b, content := g.content ++ b.take 65532 }
  let err := packageErr s g2.crcOk g2.content
  let staged := fun (u : State) => u.upd.staging = (if last = false then g2 else if err ≠ 0 then { g2 with state := 3, err := err }
      else { g2 with state := 2, err := 0, slot := manifestSlot g2.content }) ∧
    (last = true → err = 0 → flag (rd u Reg.UPD_EVT_STAT) 2 = true) ∧ u.upd.slotA = s.upd.slotA ∧ u.upd.slotB = s.upd.slotB
  (g.state = 1 → g.blocks < 8192 →
    (hasRole s session 2 = true → completes (.fwBlock session b first last) s staged) ∧ completes (.linkFwpkg b first last t) s staged) ∧
  (hasRole s session 2 = false → completes (.fwBlock session b first last) s fun u => u.upd = s.upd ∧ u.resp = .refused 2 ∧
    field (rd u Reg.UPD_STAT) 25 22 = 2) ∧
  (s.upd.recovery = true → s.upd.tftpOpen = false → completes (.tftpWriteRequest (textBytes "yx7.pkg") (textBytes "octet")) s fun u =>
    u.upd = { s.upd with tftpOpen := true, tftpNext := 1, staging := { state := 1 } } ∧ onlyParts [.upd] s u) ∧
  (s.upd.tftpOpen = true → s.upd.tftpNext = k → 512 ≤ b.length → completes (.tftpData k b) s fun u =>
    u.upd = { s.upd with
      tftpNext := (k + 1) % 65536
      staging := { s.upd.staging with content := s.upd.staging.content ++ b, blocks := s.upd.staging.blocks + 1 } } ∧
    onlyRegs [Reg.UPD_REC_STAT] s u) ∧
  (s.upd.tftpOpen = true → s.upd.tftpNext = k → b.length < 512 → completes (.tftpData k b) s fun u =>
    u.upd.tftpOpen = false ∧ field (rd u Reg.UPD_REC_STAT) 30 28 = u.upd.staging.err ∧
    (u.upd.staging.err = 0 → (if freeSlotB s then u.upd.slotB else u.upd.slotA) = { u.upd.staging.slot with state := 1 } ∧
      u.pair.restartDue = some 6) ∧
    (u.upd.staging.err ≠ 0 → u.upd.slotA = s.upd.slotA ∧ u.upd.slotB = s.upd.slotB ∧ u.pair = s.pair))

/-- Installation (R275, R276, R436, R437, R440, R441, R444, R445): DISCARD erases staging; ACTIVATE and ROLL mark it or are refused with their code;
a rolling update goes on step by step; a TRIAL_BOOTED slot is committed when its conditions hold, or fails at the end of its window. Model's choices in it: log entries 18 and 86. -/
def Obligations.Installation : Prop := ∀ (s : State) (t e k : Nat) (fell : Bool) (c : Cmd),
  let code := activateRefusal s c.session (flag c.value 5) (flag c.value 4)
  let other := if s.upd.bootB then s.upd.slotA else s.upd.slotB
  let refused := fun (u : State) (n : Nat) => u.upd = s.upd ∧ u.resp = .refused n ∧ field (rd u Reg.UPD_STAT) 25 22 = n
  (takes s Reg.UPD_CMD 3 c → completes (.updDiscard c) s fun u => u.upd = { s.upd with staging := {} }) ∧
  (takes s Reg.UPD_CMD 1 c → code ≠ 0 → completes (.updActivate c) s fun u => refused u code) ∧
  (takes s Reg.UPD_CMD 1 c → code = 0 → s.pair.role ≠ .active → completes (.updActivate c) s fun u =>
    u.upd = { s.upd with staging := { s.upd.staging with marked := true } } ∧ u.pair.restartDue.isSome = true ∧
    (s.pair.next = none → u.pair.next = some (.offline, 6))) ∧
  (takes s Reg.UPD_CMD 1 c → code = 0 → s.pair.role = .active → completes (.updActivate c) s fun u =>
    u.upd = { s.upd with staging := { s.upd.staging with marked := true }, across := some (s.grid.frame + 240) } ∧ u.pair = s.pair) ∧
  (takes s Reg.UPD_CMD 2 c → hasRole s c.session 2 = true → s.pair.role = .active → olcBusy s = false → s.upd.staging.state = 2 →
    s.upd.staging.slot.pcl = ownPcl s → s.pair.partner.role = 3 → completes (.updRoll c) s fun u =>
      u.upd = { s.upd with staging := { s.upd.staging with marked := true }, roll := 1, rollResult := 0 }) ∧
  (takes s Reg.UPD_CMD 2 c → hasRole s c.session 2 = false → completes (.updRoll c) s fun u => refused u 2) ∧
  (s.upd.roll = k → 1 ≤ k → k ≤ 6 → completes (.updateStep fell t) s fun u => flag (rd u Reg.PAIR_AEVT_STAT) 8 = true ∧
    u.upd = { s.upd with
      roll := if fell then 7 else k + 1
      rollResult := if fell then (if k < 6 then 2 else 3) else if k = 6 then 1 else s.upd.rollResult }) ∧
  ((booted s).state = 2 → stage s = 5 → failedSinceRun s = false → 2400 ≤ s.upd.matchRun ∨ s.pair.role = .solo ∧ 2400 ≤ s.upd.runFrames →
    s.upd.confirmEnd = some e → (atTime s t).grid.mono ≤ e → completes (.fwConfirm t) s fun u =>
      booted u = { booted s with state := 3 } ∧ u.upd.confirmEnd = none ∧ flag (rd u Reg.UPD_EVT_STAT) 3 = true ∧
      (if s.upd.bootB then u.upd.slotA else u.upd.slotB) = (if other.state = 3 then { other with state := 4 } else other) ∧
      u.upd.otp = { s.upd.otp with
        arb := max s.upd.otp.arb (booted s).arb
        revoked := Nat.lor s.upd.otp.revoked (booted s).revoke }) ∧
  (s.upd.confirmEnd = some e → (booted s).state = 2 → e ≤ (atTime s t).grid.mono → completes (.confirmWindowExpiry t) s fun u =>
    booted u = { booted s with state := 5 } ∧ u.upd.confirmEnd = none ∧ u.upd.otp = s.upd.otp ∧ flag (rd u Reg.UPD_EVT_STAT) 4 = true ∧
    u.pair.restartDue.isSome = true ∧ u.pair.hbStopped = true)

/-- Slot memory, the trust store and attestation (R423–R427, R446–R450): a copy is rewritten from the one in use, or as CHOOSE says, and is valid when
the write is done; a token changes the store only when all of R447 holds; a session reads a signed attestation report. Model's choices in it: log entries 12 and 87. -/
def Obligations.SlotMemoryAndTrust : Prop := ∀ (s : State) (t session why : Nat) (w : Bool) (b nonce : List Byte) (c : Cmd) (x : SlotCopy),
  let src := if s.upd.used = 2 then s.upd.copyB else s.upd.copyA
  let old := if s.upd.used = 2 then s.upd.copyA else s.upd.copyB
  let pick := if flag c.value 7 then s.upd.copyB else s.upd.copyA
  let copy := fun (u : State) (isB : Bool) => if isB then u.upd.copyB else u.upd.copyA
  let body := attestBody s nonce
  (s.pair.role.leads = true → stage s = 5 → s.upd.writing = none → s.olc.slotw = 0 ∨ s.olc.slotw = 5 → s.upd.used ≠ 0 →
    old.valid = false ∨ old.gen < src.gen → completes (.slotmemRepair t) s fun u =>
      u.upd.writing = some (decide (s.upd.used = 1), src, 0) ∧ copy u (decide (s.upd.used = 1)) = { src with state := 2 } ∧
      copy u (decide (s.upd.used ≠ 1)) = copy s (decide (s.upd.used ≠ 1)) ∧ onlyRegs [Reg.UPD_SLOTMEM] s u) ∧
  (s.upd.writing = some (w, x, why) → completes (.slotmemWriteDone t) s fun u => u.upd.writing = none ∧ copy u w = { x with state := 1 } ∧
    copy u (!w) = copy s (!w) ∧ (why = 0 → flag (rd u Reg.UPD_EVT_STAT) 5 = true ∧ stage u = stage s) ∧
    (why ≠ 0 → stage u = 3 ∧ field (rd u Reg.UPD_STAT) 28 26 = 0)) ∧
  (takes s Reg.UPD_CMD 6 c → field (rd s Reg.UPD_STAT) 28 26 = 2 → hasRole s c.session 2 = true → completes (.updChoose c) s fun u =>
    u.upd.writing = some (!flag c.value 7, { pick with gen := pick.gen + 1 }, 1) ∧
    copy u (!flag c.value 7) = { pick with gen := pick.gen + 1, state := 2 }) ∧
  (takes s Reg.UPD_CMD 6 c → (field (rd s Reg.UPD_STAT) 28 26 ≠ 2 ∨ hasRole s c.session 2 = false) → completes (.updChoose c) s fun u =>
    u.upd = s.upd ∧ field (rd u Reg.UPD_STAT) 25 22 = (if field (rd s Reg.UPD_STAT) 28 26 ≠ 2 then 7 else 2)) ∧
  (hasRole s session 4 = true ∨ session = 0 ∧ s.upd.trust = [] → completes (.trustToken session b) s fun u =>
    (tokenOk s b = true → u.upd = { s.upd with trust := tokenApply s.upd.trust b, tokenNum := leAt b 12 4 } ∧
      rd u Reg.UPD_TOKEN_NUM = w32 (leAt b 12 4) ∧ flag (rd u Reg.UPD_EVT_STAT) 6 = true) ∧
    (tokenOk s b = false → u.upd = s.upd ∧ u.resp = .refused 0)) ∧
  (hasRole s session 4 = false → session ≠ 0 ∨ s.upd.trust ≠ [] → completes (.trustToken session b) s fun u =>
    u.upd = s.upd ∧ u.resp = .refused 0) ∧
  (completes (.attestation session nonce) s fun u => onlyParts [.sess, .resp] s u ∧
    u.resp = if hasSession s session then .values ((body ++ Config.sign 1 body ++ Config.sign 2 body).map (·.toNat)) else .refused 0)

/-- Changing the access rules (R456, R458, R461–R463, R465): a write of a region register changes the shadow copy, but a firmware region is locked; a
barrier puts the shadow of its scope into force, or waits while an older one drains. Model's choices in it: log entries 61 and 88. -/
def Obligations.AccessRules : Prop := ∀ (s : State) (reg k : Nat) (c : Cmd) (busy : Bool) (rest : List (Nat × Nat)),
  let scope := field c.value 9 8
  let index := if scope = 1 then field c.value 2 0 else field c.value 6 0
  let inForce := fun (u : State) (scope index : Nat) => u.acc.scope = scope ∧ u.acc.count = satAdd 0xFFFF s.acc.count 1 ∧
    u.acc.drain = busy ∧ flag (rd u Reg.ACC_EVT_STAT) 1 = true ∧
    (tget {} u.acc.ini k : Region) = (if scope = 2 ∨ scope = 0 ∧ k / 16 = index then tget {} s.acc.iniSh k else tget {} s.acc.ini k) ∧
    (tget {} u.acc.tgt k : Region) = (if scope = 2 ∨ scope = 1 ∧ k / 64 = index then tget {} s.acc.tgtSh k else tget {} s.acc.tgt k)
  (passes s reg c → Reg.ACC_INI_BASE_LO ≤ reg → reg ≤ Reg.ACC_INI_MID → reg % 4 = 0 → completes (.accRegionWrite reg c) s fun u =>
    u.acc = { s.acc with
      iniSh := tmod {} s.acc.iniSh (iniKey s) (fun r => r.put ((reg - Reg.ACC_INI_BASE_LO) / 4) c.value) } ∧
    onlyParts [.acc, .sess] s u) ∧
  (passes s reg c → Reg.ACC_TGT_BASE_LO ≤ reg → reg ≤ Reg.ACC_TGT_MID → reg % 4 = 0 →
    (4 ≤ tgtKey s % 64 ∨ s.acc.locked = false → completes (.accRegionWrite reg c) s fun u => onlyParts [.acc, .sess] s u ∧
      u.acc = { s.acc with
        tgtSh := tmod {} s.acc.tgtSh (tgtKey s) (fun r => r.put ((reg - Reg.ACC_TGT_BASE_LO) / 4) c.value) }) ∧
    (tgtKey s % 64 < 4 → s.acc.locked = true → completes (.accRegionWrite reg c) s fun u => u.acc.tgtSh = s.acc.tgtSh ∧
      u.acc.tgt = s.acc.tgt ∧ u.saf.safe = true ∧ u.resp = .error ∧ flag (rd u Reg.ACC_EVT_STAT) 2 = true)) ∧
  (passes s Reg.ACC_BARRIER c → field c.value 31 16 = 0x5A3C → scope ≠ 3 →
    (s.acc.drain = true → completes (.accBarrier c busy) s fun u => u.acc = { s.acc with held := s.acc.held ++ [(scope, index)] } ∧
      onlyParts [.acc, .sess] s u) ∧
    (s.acc.drain = false → Tbl.rising s.acc.iniSh = true → Tbl.rising s.acc.tgtSh = true → completes (.accBarrier c busy) s fun u =>
      inForce u scope index ∧ u.acc.iniSh = s.acc.iniSh ∧ u.acc.tgtSh = s.acc.tgtSh)) ∧
  (s.acc.drain = true → s.acc.held = [] → completes (.barrierDrainEnd busy) s fun u => u.acc = { s.acc with drain := false } ∧
    onlyParts [.acc] s u) ∧
  (∀ j n, s.acc.drain = true → s.acc.held = (j, n) :: rest → j < 3 → Tbl.rising s.acc.iniSh = true → Tbl.rising s.acc.tgtSh = true →
    completes (.barrierDrainEnd busy) s fun u => inForce u j n ∧ u.acc.held = rest)

/-- The recorder (R473, R474, R476, R479, R480): a period, an alarm and FLUSH start a flush; its end writes every record to its slot with a new header
and empties the buffer, and a clear that waits follows; the nonce serves one signed attempt; a session exports a range. Model's choices in it: log entries 89 and 90. -/
def Obligations.RecorderFlushes : Prop := ∀ (s : State) (session q w : Nat) (req : List Byte) (a b : Word) (c : Cmd),
  let begins := fun (u : State) (cause : Nat) => u.rcd = { s.rcd with flushing := true, cause := cause, lastFlushFrame := s.grid.frame }
  (s.rcd.flushing = false →
    (96 ≤ s.grid.frame - s.rcd.lastFlushFrame → completes .flushPeriod s fun u => begins u 1 ∧ onlyParts [.rcd] s u) ∧
    (∀ x ∈ s.rcd.buf, 2 ≤ x.sev → completes .alarmFlush s fun u => begins u 2 ∧ onlyParts [.rcd] s u) ∧
    (takes s Reg.REC_CMD 0 c → completes (.recFlush c) s fun u => u.rcd.flushing = true ∧ u.rcd.cause = 5 ∧
      u.rcd.lastFlushFrame = s.grid.frame ∧ u.rcd.slots = s.rcd.slots)) ∧
  (s.rcd.flushing = true →
    (completes .flushDone s fun u => u.rcd.flushing = false ∧ u.rcd.slots = (s.rcd.buf.foldl writeRec s.rcd).slots ∧
      u.rcd.flushes = satAdd 0xFFFFFFFF s.rcd.flushes 1 ∧ rd u Reg.REC_LAST_FLUSH = w32 (s.rcd.cause * 2 ^ 29 + min s.rcd.buf.length 16384) ∧
      (s.rcd.cause ≠ 4 → fillsLocket s.rcd = false → s.rcd.clearWaits = none → u.rcd.buf = [] ∧ u.rcd.seqNext = s.rcd.seqNext)) ∧
    (s.rcd.clearWaits = some (q, w) → completes .flushDone s fun u => u.rcd.clearWaits = none ∧ u.rcd.clrLast = q ∧
      u.rcd.seqNext = u.rcd.c + 1 ∧ u.rcd.total = 1 ∧ u.rcd.lost = 0 ∧ flag (rd u Reg.REC_EVT_STAT) 1 = true)) ∧
  (completes (.recClrNonce session) s fun u => u.rcd = { s.rcd with
      nonce := if hasSession s session then some (rd u Reg.REC_CLR_NONCE, session, s.grid.mono) else none } ∧
    u.resp = .value (rd u Reg.REC_CLR_NONCE).toNat ∧ onlyRegs [Reg.REC_CLR_NONCE] s u) ∧
  (completes (.recorderClear session req) s fun u => u.rcd.nonce = none ∧ u.rcd.slots = s.rcd.slots ∧
    (clearRequestOk s session req = true → u.rcd.flushing = true ∧ u.rcd.clearWaits = some (session, certSerial s session % 2 ^ 32)) ∧
    (clearRequestOk s session req = false → u.resp = .refused 0 ∧ u.rcd.clearWaits = s.rcd.clearWaits ∧ u.rcd.flushing = s.rcd.flushing)) ∧
  (completes (.recorderExport session a b) s fun u => onlyParts [.sess, .resp] s u ∧
    u.resp = if hasSession s session then .values ((exportFile s a b).map (·.toNat)) else .refused 0)

/-- The display (R485, R488–R494, R498, R500): a request waits for its region, replaces one that waits, or is refused; at a phase frame a running row has done
one phase more and one that has done them all shows its target; a region whose rows are idle starts. Model's choices in it: log entry 91. -/
def Obligations.DisplayDriver : Prop := ∀ (s : State) (c : Cmd) (buf : List Byte) (t r g : Nat) (temp : Int) (l : List Nat) (rows : List (Nat × List Nat)),
  let n := c.value.toNat % 8
  let x := dpyReg s n
  let asked := (regionRows s n).map fun r => (r, bufferRow buf r)
  let y := dpyRow s r
  let live := stage s ≠ 0 ∧ s.dpy.stopped = false ∧ s.dpy.nodrive = false
  (passes s Reg.DPY_REQ c →
    (n ≠ 0 ∨ masterCode c.master = 0 → regionRows s n ≠ [] → completes (.dpyReq c buf) s fun u => (∀ j, j ≠ n → dpyReg u j = dpyReg s j) ∧
      dpyReg u n = (if x.cur.isNone then { x with cur := some asked, started := false } else { x with pend := some asked }) ∧
      u.dpy.replaced = (if x.cur.isSome && x.pend.isSome then satAdd 0xFFFF s.dpy.replaced 1 else s.dpy.replaced) ∧ onlyParts [.dpy, .sess] s u) ∧
    ((n = 0 ∧ masterCode c.master ≠ 0 ∨ regionRows s n = []) → completes (.dpyReq c buf) s fun u => u.dpy = s.dpy ∧ u.resp = .refused 0 ∧
      flag (rd u Reg.DPY_EVT_STAT) 4 = true)) ∧
  (takes s Reg.DPY_CMD 1 c → completes (.dpyRedraw c) s fun u => u.dpy = { s.dpy with clear := allRows }) ∧
  (stage s = 0 ∨ s.dpy.stopped = true → completes (.phaseFrame temp t) s fun u => u.dpy = { s.dpy with temp := temp } ∧
    onlyParts [.grid, .dpy] s u) ∧
  (live → s.dpy.stopping = true ∨ temp < -200 → r < 120 → s.dpy.wait.contains r = false → completes (.phaseFrame temp t) s fun u =>
    u.dpy.stopped = s.dpy.stopping ∧ (y.st = 0 → dpyRow u r = y) ∧ (y.st ≠ 0 → y.done + 1 < y.n → dpyRow u r = { y with done := y.done + 1 }) ∧
    (y.st = 1 ∨ y.st = 3 → y.n ≤ y.done + 1 → (dpyRow u r).st = 0 ∧ (dpyRow u r).prev = y.target ∧ (dpyRow u r).debts = []) ∧
    (y.st = 2 → y.n ≤ y.done + 1 → (dpyRow u r).st = 3 ∧ (dpyRow u r).target = y.target ∧ (dpyRow u r).debts = [])) ∧
  (live → s.dpy.stopping = false → -200 ≤ temp → rowsIdle s allRows = true → rowsIdle s (regionRows s g) = true → s.dpy.wait = [] →
    s.dpy.clear = [] → s.dpy.recov = [] → s.dpy.final = 0 → s.cfg.dpy.regions = s.dpy.regions → statusBand (atTime s t) = s.dpy.shown → g < 8 →
    (∀ j, j ≠ g → (dpyReg s j).cur = none) → (dpyReg s g).cur = some rows → (dpyReg s g).started = false → completes (.phaseFrame temp t) s fun u =>
      (dpyReg u g).started = true ∧ u.dpy.flip = false ∧
      (rows = [(r, l)] → y.valid = true → row320 y.prev ≠ row320 l → (dpyRow u r).st = 1 ∧ (dpyRow u r).target = row320 l ∧ (dpyRow u r).done = 0) ∧
      (rows = [(r, l)] → y.valid = false → (dpyRow u r).st = 3 ∧ (dpyRow u r).target = row320 l) ∧
      (rows = [(r, l)] → y.valid = true → row320 y.prev = row320 l → dpyRow u r = y))
end

