-- ==== Sys2Proof/Laws/Table.lean ====
section
/-! SUPPORT. Sparse tables: a read after a write, and the canonical form that every write keeps. -/

namespace Sys2Proof.Machine

variable {α : Type}

theorem Tbl.read_place_same (d : Nat → α) (k : Nat) (v : α) (t : Tbl α) : Tbl.read d (Tbl.place k v t) k = v := by
  induction t with
  | nil => simp [Tbl.place, Tbl.read]
  | cons e t ih =>
    obtain ⟨j, w⟩ := e
    simp only [Tbl.place]
    split
    · simp [Tbl.read]
    · split
      · simp [Tbl.read]
      · simp only [Tbl.read]; rw [if_neg ‹_›]; exact ih

theorem Tbl.read_place_other (d : Nat → α) (k j : Nat) (v : α) (t : Tbl α) (h : j ≠ k) :
    Tbl.read d (Tbl.place k v t) j = Tbl.read d t j := by
  induction t with
  | nil => simp [Tbl.place, Tbl.read, h]
  | cons e t ih =>
    obtain ⟨i, w⟩ := e
    simp only [Tbl.place]
    split
    · simp [Tbl.read, h]
    · split
      · next _ h2 => subst h2; simp [Tbl.read, h]
      · simp only [Tbl.read, ih]

theorem Tbl.read_drop_same (d : Nat → α) (k : Nat) (t : Tbl α) : Tbl.read d (Tbl.drop k t) k = d k := by
  induction t with
  | nil => rfl
  | cons e t ih =>
    obtain ⟨i, w⟩ := e
    by_cases h : i = k
    · subst h; simpa [Tbl.drop] using ih
    · have h' : ¬ k = i := fun e => h e.symm
      simpa [Tbl.drop, Tbl.read, h, h'] using ih

theorem Tbl.read_drop_other (d : Nat → α) (k j : Nat) (t : Tbl α) (h : j ≠ k) :
    Tbl.read d (Tbl.drop k t) j = Tbl.read d t j := by
  induction t with
  | nil => rfl
  | cons e t ih =>
    obtain ⟨i, w⟩ := e
    by_cases hi : i = k
    · subst hi; simpa [Tbl.drop, Tbl.read, h] using ih
    · by_cases hj : j = i
      · subst hj; simp [Tbl.drop, Tbl.read, hi]
      · simpa [Tbl.drop, Tbl.read, hi, hj] using ih

/-- A read after a write of the same key gives the value written. -/
@[simp] theorem Tbl.read_write_same [DecidableEq α] (d : Nat → α) (t : Tbl α) (k : Nat) (v : α) :
    Tbl.read d (Tbl.write d t k v) k = v := by
  unfold Tbl.write; split
  · next h => rw [Tbl.read_drop_same, h]
  · exact Tbl.read_place_same d k v t

/-- A write leaves every other key alone. -/
theorem Tbl.read_write_other [DecidableEq α] (d : Nat → α) (t : Tbl α) (k j : Nat) (v : α) (h : j ≠ k) :
    Tbl.read d (Tbl.write d t k v) j = Tbl.read d t j := by
  unfold Tbl.write; split
  · exact Tbl.read_drop_other d k j t h
  · exact Tbl.read_place_other d k j v t h

/-- A read after a write of any key. -/
theorem Tbl.read_write [DecidableEq α] (d : Nat → α) (t : Tbl α) (k j : Nat) (v : α) :
    Tbl.read d (Tbl.write d t k v) j = if j = k then v else Tbl.read d t j := by
  split
  · next h => subst h; exact Tbl.read_write_same d t j v
  · next h => exact Tbl.read_write_other d t k j v h

@[simp] theorem tget_tset_same [DecidableEq α] (d : α) (t : Tbl α) (k : Nat) (v : α) : tget d (tset d t k v) k = v :=
  Tbl.read_write_same _ t k v

theorem tget_tset_other [DecidableEq α] (d : α) (t : Tbl α) (k j : Nat) (v : α) (h : j ≠ k) :
    tget d (tset d t k v) j = tget d t j := Tbl.read_write_other _ t k j v h

theorem tget_tset [DecidableEq α] (d : α) (t : Tbl α) (k j : Nat) (v : α) :
    tget d (tset d t k v) j = if j = k then v else tget d t j := Tbl.read_write _ t k j v

@[simp] theorem tget_tmod_same [DecidableEq α] (d : α) (t : Tbl α) (k : Nat) (f : α → α) :
    tget d (tmod d t k f) k = f (tget d t k) := Tbl.read_write_same _ t k _

theorem tget_tmod_other [DecidableEq α] (d : α) (t : Tbl α) (k j : Nat) (f : α → α) (h : j ≠ k) :
    tget d (tmod d t k f) j = tget d t j := Tbl.read_write_other _ t k j _ h

/-! ### The canonical form -/

/-- The keys of a table, strictly rising, as a pairwise fact. -/
theorem Tbl.rising_iff (t : Tbl α) : Tbl.rising t = true ↔ t.Pairwise (fun a b => a.1 < b.1) := by
  induction t with
  | nil => simp [Tbl.rising]
  | cons e t ih =>
    obtain ⟨j, v⟩ := e
    cases t with
    | nil => simp [Tbl.rising]
    | cons f t =>
      obtain ⟨k, w⟩ := f
      simp only [Tbl.rising, Bool.and_eq_true, decide_eq_true_eq, ih, List.pairwise_cons]
      constructor
      · rintro ⟨h, h1, h2⟩
        refine ⟨fun a ha => ?_, h1, h2⟩
        rcases List.mem_cons.1 ha with rfl | ha
        · exact h
        · exact Nat.lt_trans h (h1 a ha)
      · rintro ⟨h, h1, h2⟩
        exact ⟨h _ (List.mem_cons_self ..), h1, h2⟩

theorem Tbl.mem_place (k : Nat) (v : α) (t : Tbl α) (e : Nat × α) (h : e ∈ Tbl.place k v t) : e = (k, v) ∨ e ∈ t := by
  induction t with
  | nil => simpa [Tbl.place] using h
  | cons f t ih =>
    obtain ⟨j, w⟩ := f
    simp only [Tbl.place] at h
    split at h
    · simpa using h
    · split at h
      · rcases List.mem_cons.1 h with h | h
        · exact .inl h
        · exact .inr (List.mem_cons_of_mem _ h)
      · rcases List.mem_cons.1 h with h | h
        · exact .inr (h ▸ List.mem_cons_self ..)
        · exact (ih h).imp id (List.mem_cons_of_mem _)

theorem Tbl.rising_place (k : Nat) (v : α) (t : Tbl α) (h : Tbl.rising t = true) : Tbl.rising (Tbl.place k v t) = true := by
  rw [Tbl.rising_iff] at h ⊢
  induction t with
  | nil => simp [Tbl.place]
  | cons f t ih =>
    obtain ⟨j, w⟩ := f
    simp only [Tbl.place]
    rw [List.pairwise_cons] at h
    split
    · next hk =>
      refine List.pairwise_cons.2 ⟨fun a ha => ?_, List.pairwise_cons.2 h⟩
      rcases List.mem_cons.1 ha with rfl | ha
      · exact hk
      · exact Nat.lt_trans hk (h.1 a ha)
    · split
      · next hk => subst hk; exact List.pairwise_cons.2 h
      · next h1 h2 =>
        refine List.pairwise_cons.2 ⟨fun a ha => ?_, ih h.2⟩
        rcases Tbl.mem_place k v t a ha with rfl | ha
        · simp only; omega
        · exact h.1 a ha

/-- Every write keeps the canonical form. -/
theorem Tbl.wf_write [DecidableEq α] (d : Nat → α) (t : Tbl α) (k : Nat) (v : α) (h : Tbl.wf d t = true) :
    Tbl.wf d (Tbl.write d t k v) = true := by
  simp only [Tbl.wf, Bool.and_eq_true, List.all_eq_true, decide_eq_true_eq] at h ⊢
  obtain ⟨h1, h2⟩ := h
  unfold Tbl.write
  split
  · refine ⟨?_, fun e he => h2 e (List.mem_filter.1 he).1⟩
    rw [Tbl.rising_iff] at h1 ⊢
    exact h1.filter _
  · next hv =>
    refine ⟨Tbl.rising_place k v t h1, fun e he => ?_⟩
    rcases Tbl.mem_place k v t e he with rfl | he
    · exact hv
    · exact h2 e he

/-- A canonical table stays so when entries are removed. -/
theorem Tbl.wf_filter [DecidableEq α] (d : Nat → α) (t : Tbl α) (p : Nat × α → Bool) (h : Tbl.wf d t = true) :
    Tbl.wf d (t.filter p) = true := by
  simp only [Tbl.wf, Bool.and_eq_true, List.all_eq_true, decide_eq_true_eq] at h ⊢
  refine ⟨?_, fun e he => h.2 e (List.mem_filter.1 he).1⟩
  have := h.1
  rw [Tbl.rising_iff] at this ⊢
  exact this.filter _

end Sys2Proof.Machine
end

