-- ==== Sys2Proof/Laws/Keeps.lean ====
section
/-! SUPPORT. What an operation can change: Keeps m s t says that t has every part of s whose bit is clear in the mask m, and that
the invariant is kept. One lemma of this form for each operation follows in the other files of this folder. -/

namespace Sys2Proof.Machine

open Sys2Proof

/-- The bit of a part in a mask. -/
def Part.bit : Part → Nat
  | .pending => 0 | .resp => 1 | .sent => 2 | .freeN => 3 | .cfg => 5 | .grid => 6 | .sig => 7 | .sched => 8 | .le => 9
  | .fbx => 10 | .acc => 11 | .rcd => 12 | .pair => 13 | .saf => 14 | .olc => 15 | .frc => 16 | .upd => 17 | .lio => 18
  | .chn => 19 | .can => 20 | .tim => 21 | .hlt => 22 | .slot => 23 | .svi => 24 | .pe => 25 | .stn => 26 | .dpy => 27
  | .sess => 28 | .monoRuns => 29 | .phase => 4 | .roles => 30 | .role => 31
  | .regs b => 32 + b

/-- t keeps every part of s that the mask does not name, and the invariant. -/
structure Keeps (m : Nat) (s t : State) : Prop where
  same : ∀ p : Part, m.testBit p.bit = false → p.same s t
  inv : Inv s → Inv t

/-- Every next state that an outcome holds keeps what Keeps says. -/
structure KeepsOut (m : Nat) (s : State) (o : Out) : Prop where
  next : ∀ t, o = .next t → Keeps m s t

/-- The mask of a list of parts. -/
def maskParts : List Part → Nat
  | [] => 0
  | p :: l => 2 ^ p.bit ||| maskParts l

theorem Part.bit_inj {p q : Part} (h : p.bit = q.bit) : p = q := by
  cases p <;> cases q <;> simp only [Part.bit] at h <;> first | rfl | omega | (rw [Nat.add_left_cancel h])

theorem testBit_maskParts_iff (l : List Part) (k : Nat) : (maskParts l).testBit k = true ↔ ∃ p ∈ l, p.bit = k := by
  induction l with
  | nil => simp [maskParts]
  | cons q l ih =>
    rw [maskParts, Nat.testBit_or, Nat.testBit_two_pow, Bool.or_eq_true, ih, decide_eq_true_iff]
    simp

theorem testBit_maskParts (l : List Part) (p : Part) (h : p ∉ l) : (maskParts l).testBit p.bit = false := by
  refine Bool.eq_false_iff.2 fun e => ?_
  obtain ⟨q, hq, hb⟩ := (testBit_maskParts_iff l p.bit).1 e
  exact h (Part.bit_inj hb ▸ hq)

/-- The mask of fewer parts is contained in the mask of more. -/
theorem maskParts_sub {l l' : List Part} (h : ∀ p ∈ l, p ∈ l') : (maskParts l &&& maskParts l') = maskParts l := by
  refine Nat.eq_of_testBit_eq fun k => ?_
  rw [Nat.testBit_and]
  cases hk : (maskParts l).testBit k with
  | false => rfl
  | true =>
    obtain ⟨p, hp, hb⟩ := (testBit_maskParts_iff l k).1 hk
    rw [(testBit_maskParts_iff l' k).2 ⟨p, h p hp, hb⟩]; rfl

theorem Part.same_refl (p : Part) (s : State) : p.same s s := by
  cases p <;> simp [Part.same]

theorem Part.same_trans (p : Part) {s t u : State} (h : p.same s t) (k : p.same t u) : p.same s u := by
  cases p <;> simp only [Part.same] at * <;> first | exact k.trans h | exact Nat.le_trans h k | (intro hb a ha; rw [k hb a ha, h hb a ha])

theorem Keeps.refl (m : Nat) (s : State) : Keeps m s s := ⟨fun p _ => p.same_refl s, id⟩

/-- A mask may grow. -/
theorem testBit_sub {m M i : Nat} (h : (m &&& M) = m) (k : M.testBit i = false) : m.testBit i = false := by
  rw [← h, Nat.testBit_and, k, Bool.and_false]

theorem Keeps.step {m M : Nat} {s t u : State} (h : Keeps m t u) (hm : (m &&& M) = m) (k : Keeps M s t) : Keeps M s u :=
  ⟨fun p hp => p.same_trans (k.same p hp) (h.same p (testBit_sub hm hp)), fun i => h.inv (k.inv i)⟩

theorem Keeps.mono {m M : Nat} {s t : State} (h : Keeps m s t) (hm : (m &&& M) = m) : Keeps M s t :=
  Keeps.step h hm (Keeps.refl M s)

theorem Keeps.ite {M : Nat} {s a b : State} {c : Prop} [Decidable c] (h : Keeps M s a) (k : Keeps M s b) :
    Keeps M s (if c then a else b) := by split <;> assumption

theorem KeepsOut.ite {M : Nat} {s : State} {a b : Out} {c : Prop} [Decidable c] (h : KeepsOut M s a) (k : KeepsOut M s b) :
    KeepsOut M s (if c then a else b) := by split <;> assumption

theorem KeepsOut.done {M : Nat} {s t : State} (h : Keeps M s t) : KeepsOut M s (done t) :=
  ⟨fun u hu => by cases hu; exact h⟩

theorem KeepsOut.step {m M : Nat} {s t : State} {o : Out} (h : KeepsOut m t o) (hm : (m &&& M) = m) (k : Keeps M s t) :
    KeepsOut M s o := ⟨fun u hu => (h.next u hu).step hm k⟩

theorem KeepsOut.mono {m M : Nat} {s : State} {o : Out} (h : KeepsOut m s o) (hm : (m &&& M) = m) : KeepsOut M s o :=
  ⟨fun u hu => (h.next u hu).mono hm⟩

/-- What an operation that keeps the parts outside a mask leaves of a list of parts. -/
theorem KeepsOut.same {m : Nat} {s t : State} {o : Out} {l : List Part} (h : KeepsOut m s o) (ho : o = .next t)
    (hm : (m &&& maskParts l) = m) (p : Part) (hp : p ∉ l) : p.same s t :=
  ((h.next t ho).mono hm).same p (testBit_maskParts l p hp)

theorem Keeps.foldl {α : Type} {M : Nat} {s a : State} {f : State → α → State} {l : List α} (h : Keeps M s a)
    (k : ∀ u y, Keeps M s u → Keeps M s (f u y)) : Keeps M s (l.foldl f a) := by
  induction l generalizing a with
  | nil => exact h
  | cons y l ih => exact ih (k a y h)

/-! ### Updates of one field -/

theorem testBit_ne {M i j : Nat} (h : M.testBit i = true) (k : M.testBit j = false) : i ≠ j := by
  rintro rfl; rw [h] at k; cases k

theorem sub_absurd {m M i : Nat} {P : Prop} (h : (m &&& M) = m) (hp : M.testBit i = false) (hi : m.testBit i = true) : P := by
  rw [← h, Nat.testBit_and, hp, Bool.and_false] at hi; cases hi

theorem or_absurd {M i : Nat} {P : Prop} (h : M.testBit i = true ∨ P) (hp : M.testBit i = false) : P :=
  h.resolve_left (by rw [hp]; decide)

theorem Keeps.upd_resp {M : Nat} {s t : State} {respV}
    (h : (0x2 &&& M) = 0x2) (k : Keeps M s t) : Keeps M s { t with resp := respV } := by
  refine ⟨fun p hq => p.same_trans (k.same p hq) ?_, fun i => have j := k.inv i; ⟨j.regs, j.roles, j.phase, j.buf⟩⟩
  cases p <;> first | rfl | exact fun _ _ _ => rfl | exact Nat.le_refl _ | exact sub_absurd h hq rfl

theorem Keeps.upd_sent {M : Nat} {s t : State} {sentV}
    (h : (0x4 &&& M) = 0x4) (k : Keeps M s t) : Keeps M s { t with sent := sentV } := by
  refine ⟨fun p hq => p.same_trans (k.same p hq) ?_, fun i => have j := k.inv i; ⟨j.regs, j.roles, j.phase, j.buf⟩⟩
  cases p <;> first | rfl | exact fun _ _ _ => rfl | exact Nat.le_refl _ | exact sub_absurd h hq rfl

theorem Keeps.upd_freeN {M : Nat} {s t : State} {freeNV}
    (h : (0x8 &&& M) = 0x8) (k : Keeps M s t) : Keeps M s { t with freeN := freeNV } := by
  refine ⟨fun p hq => p.same_trans (k.same p hq) ?_, fun i => have j := k.inv i; ⟨j.regs, j.roles, j.phase, j.buf⟩⟩
  cases p <;> first | rfl | exact fun _ _ _ => rfl | exact Nat.le_refl _ | exact sub_absurd h hq rfl

theorem Keeps.upd_cfg {M : Nat} {s t : State} {cfgV}
    (h : (0x20 &&& M) = 0x20) (k : Keeps M s t) : Keeps M s { t with cfg := cfgV } := by
  refine ⟨fun p hq => p.same_trans (k.same p hq) ?_, fun i => have j := k.inv i; ⟨j.regs, j.roles, j.phase, j.buf⟩⟩
  cases p <;> first | rfl | exact fun _ _ _ => rfl | exact Nat.le_refl _ | exact sub_absurd h hq rfl

theorem Keeps.upd_grid {M : Nat} {s t : State} {gridV} (hp : t.grid.phase ≤ 3 → gridV.phase ≤ 3) (hm : t.grid.mono ≤ gridV.mono)
    (hF : M.testBit 4 = true ∨ gridV.place = t.grid.place)
    (h : (0x40 &&& M) = 0x40) (k : Keeps M s t) : Keeps M s { t with grid := gridV } := by
  refine ⟨fun p hq => p.same_trans (k.same p hq) ?_, fun i => have j := k.inv i; ⟨j.regs, j.roles, hp j.phase, j.buf⟩⟩
  cases p <;> first | rfl | exact fun _ _ _ => rfl | exact hm | exact or_absurd hF hq | exact Nat.le_refl _ | exact sub_absurd h hq rfl

theorem Keeps.upd_sig {M : Nat} {s t : State} {sigV} (hr : t.sig.roles.ok = true → sigV.roles.ok = true) (hR : M.testBit 30 = true ∨ sigV.roles = t.sig.roles)
    (h : (0x80 &&& M) = 0x80) (k : Keeps M s t) : Keeps M s { t with sig := sigV } := by
  refine ⟨fun p hq => p.same_trans (k.same p hq) ?_, fun i => have j := k.inv i; ⟨j.regs, hr j.roles, j.phase, j.buf⟩⟩
  cases p <;> first | rfl | exact fun _ _ _ => rfl | exact or_absurd hR hq | exact Nat.le_refl _ | exact sub_absurd h hq rfl

theorem Keeps.upd_sched {M : Nat} {s t : State} {schedV}
    (h : (0x100 &&& M) = 0x100) (k : Keeps M s t) : Keeps M s { t with sched := schedV } := by
  refine ⟨fun p hq => p.same_trans (k.same p hq) ?_, fun i => have j := k.inv i; ⟨j.regs, j.roles, j.phase, j.buf⟩⟩
  cases p <;> first | rfl | exact fun _ _ _ => rfl | exact Nat.le_refl _ | exact sub_absurd h hq rfl

theorem Keeps.upd_le {M : Nat} {s t : State} {leV}
    (h : (0x200 &&& M) = 0x200) (k : Keeps M s t) : Keeps M s { t with le := leV } := by
  refine ⟨fun p hq => p.same_trans (k.same p hq) ?_, fun i => have j := k.inv i; ⟨j.regs, j.roles, j.phase, j.buf⟩⟩
  cases p <;> first | rfl | exact fun _ _ _ => rfl | exact Nat.le_refl _ | exact sub_absurd h hq rfl

theorem Keeps.upd_fbx {M : Nat} {s t : State} {fbxV}
    (h : (0x400 &&& M) = 0x400) (k : Keeps M s t) : Keeps M s { t with fbx := fbxV } := by
  refine ⟨fun p hq => p.same_trans (k.same p hq) ?_, fun i => have j := k.inv i; ⟨j.regs, j.roles, j.phase, j.buf⟩⟩
  cases p <;> first | rfl | exact fun _ _ _ => rfl | exact Nat.le_refl _ | exact sub_absurd h hq rfl

theorem Keeps.upd_acc {M : Nat} {s t : State} {accV}
    (h : (0x800 &&& M) = 0x800) (k : Keeps M s t) : Keeps M s { t with acc := accV } := by
  refine ⟨fun p hq => p.same_trans (k.same p hq) ?_, fun i => have j := k.inv i; ⟨j.regs, j.roles, j.phase, j.buf⟩⟩
  cases p <;> first | rfl | exact fun _ _ _ => rfl | exact Nat.le_refl _ | exact sub_absurd h hq rfl

theorem Keeps.upd_rcd {M : Nat} {s t : State} {rcdV} (hb : infoCount t.rcd.buf ≤ 12288 → infoCount rcdV.buf ≤ 12288)
    (h : (0x1000 &&& M) = 0x1000) (k : Keeps M s t) : Keeps M s { t with rcd := rcdV } := by
  refine ⟨fun p hq => p.same_trans (k.same p hq) ?_, fun i => have j := k.inv i; ⟨j.regs, j.roles, j.phase, hb j.buf⟩⟩
  cases p <;> first | rfl | exact fun _ _ _ => rfl | exact Nat.le_refl _ | exact sub_absurd h hq rfl

theorem Keeps.upd_pair {M : Nat} {s t : State} {pairV} (hQ : M.testBit 31 = true ∨ pairV.role = t.pair.role)
    (h : (0x2000 &&& M) = 0x2000) (k : Keeps M s t) : Keeps M s { t with pair := pairV } := by
  refine ⟨fun p hq => p.same_trans (k.same p hq) ?_, fun i => have j := k.inv i; ⟨j.regs, j.roles, j.phase, j.buf⟩⟩
  cases p <;> first | rfl | exact fun _ _ _ => rfl | exact or_absurd hQ hq | exact Nat.le_refl _ | exact sub_absurd h hq rfl

theorem Keeps.upd_saf {M : Nat} {s t : State} {safV}
    (h : (0x4000 &&& M) = 0x4000) (k : Keeps M s t) : Keeps M s { t with saf := safV } := by
  refine ⟨fun p hq => p.same_trans (k.same p hq) ?_, fun i => have j := k.inv i; ⟨j.regs, j.roles, j.phase, j.buf⟩⟩
  cases p <;> first | rfl | exact fun _ _ _ => rfl | exact Nat.le_refl _ | exact sub_absurd h hq rfl

theorem Keeps.upd_olc {M : Nat} {s t : State} {olcV}
    (h : (0x8000 &&& M) = 0x8000) (k : Keeps M s t) : Keeps M s { t with olc := olcV } := by
  refine ⟨fun p hq => p.same_trans (k.same p hq) ?_, fun i => have j := k.inv i; ⟨j.regs, j.roles, j.phase, j.buf⟩⟩
  cases p <;> first | rfl | exact fun _ _ _ => rfl | exact Nat.le_refl _ | exact sub_absurd h hq rfl

theorem Keeps.upd_frc {M : Nat} {s t : State} {frcV}
    (h : (0x10000 &&& M) = 0x10000) (k : Keeps M s t) : Keeps M s { t with frc := frcV } := by
  refine ⟨fun p hq => p.same_trans (k.same p hq) ?_, fun i => have j := k.inv i; ⟨j.regs, j.roles, j.phase, j.buf⟩⟩
  cases p <;> first | rfl | exact fun _ _ _ => rfl | exact Nat.le_refl _ | exact sub_absurd h hq rfl

theorem Keeps.upd_upd {M : Nat} {s t : State} {updV}
    (h : (0x20000 &&& M) = 0x20000) (k : Keeps M s t) : Keeps M s { t with upd := updV } := by
  refine ⟨fun p hq => p.same_trans (k.same p hq) ?_, fun i => have j := k.inv i; ⟨j.regs, j.roles, j.phase, j.buf⟩⟩
  cases p <;> first | rfl | exact fun _ _ _ => rfl | exact Nat.le_refl _ | exact sub_absurd h hq rfl

theorem Keeps.upd_lio {M : Nat} {s t : State} {lioV}
    (h : (0x40000 &&& M) = 0x40000) (k : Keeps M s t) : Keeps M s { t with lio := lioV } := by
  refine ⟨fun p hq => p.same_trans (k.same p hq) ?_, fun i => have j := k.inv i; ⟨j.regs, j.roles, j.phase, j.buf⟩⟩
  cases p <;> first | rfl | exact fun _ _ _ => rfl | exact Nat.le_refl _ | exact sub_absurd h hq rfl

theorem Keeps.upd_chn {M : Nat} {s t : State} {chnV}
    (h : (0x80000 &&& M) = 0x80000) (k : Keeps M s t) : Keeps M s { t with chn := chnV } := by
  refine ⟨fun p hq => p.same_trans (k.same p hq) ?_, fun i => have j := k.inv i; ⟨j.regs, j.roles, j.phase, j.buf⟩⟩
  cases p <;> first | rfl | exact fun _ _ _ => rfl | exact Nat.le_refl _ | exact sub_absurd h hq rfl

theorem Keeps.upd_can {M : Nat} {s t : State} {canV}
    (h : (0x100000 &&& M) = 0x100000) (k : Keeps M s t) : Keeps M s { t with can := canV } := by
  refine ⟨fun p hq => p.same_trans (k.same p hq) ?_, fun i => have j := k.inv i; ⟨j.regs, j.roles, j.phase, j.buf⟩⟩
  cases p <;> first | rfl | exact fun _ _ _ => rfl | exact Nat.le_refl _ | exact sub_absurd h hq rfl

theorem Keeps.upd_tim {M : Nat} {s t : State} {timV}
    (h : (0x200000 &&& M) = 0x200000) (k : Keeps M s t) : Keeps M s { t with tim := timV } := by
  refine ⟨fun p hq => p.same_trans (k.same p hq) ?_, fun i => have j := k.inv i; ⟨j.regs, j.roles, j.phase, j.buf⟩⟩
  cases p <;> first | rfl | exact fun _ _ _ => rfl | exact Nat.le_refl _ | exact sub_absurd h hq rfl

theorem Keeps.upd_hlt {M : Nat} {s t : State} {hltV}
    (h : (0x400000 &&& M) = 0x400000) (k : Keeps M s t) : Keeps M s { t with hlt := hltV } := by
  refine ⟨fun p hq => p.same_trans (k.same p hq) ?_, fun i => have j := k.inv i; ⟨j.regs, j.roles, j.phase, j.buf⟩⟩
  cases p <;> first | rfl | exact fun _ _ _ => rfl | exact Nat.le_refl _ | exact sub_absurd h hq rfl

theorem Keeps.upd_slot {M : Nat} {s t : State} {slotV}
    (h : (0x800000 &&& M) = 0x800000) (k : Keeps M s t) : Keeps M s { t with slot := slotV } := by
  refine ⟨fun p hq => p.same_trans (k.same p hq) ?_, fun i => have j := k.inv i; ⟨j.regs, j.roles, j.phase, j.buf⟩⟩
  cases p <;> first | rfl | exact fun _ _ _ => rfl | exact Nat.le_refl _ | exact sub_absurd h hq rfl

theorem Keeps.upd_svi {M : Nat} {s t : State} {sviV}
    (h : (0x1000000 &&& M) = 0x1000000) (k : Keeps M s t) : Keeps M s { t with svi := sviV } := by
  refine ⟨fun p hq => p.same_trans (k.same p hq) ?_, fun i => have j := k.inv i; ⟨j.regs, j.roles, j.phase, j.buf⟩⟩
  cases p <;> first | rfl | exact fun _ _ _ => rfl | exact Nat.le_refl _ | exact sub_absurd h hq rfl

theorem Keeps.upd_pe {M : Nat} {s t : State} {peV}
    (h : (0x2000000 &&& M) = 0x2000000) (k : Keeps M s t) : Keeps M s { t with pe := peV } := by
  refine ⟨fun p hq => p.same_trans (k.same p hq) ?_, fun i => have j := k.inv i; ⟨j.regs, j.roles, j.phase, j.buf⟩⟩
  cases p <;> first | rfl | exact fun _ _ _ => rfl | exact Nat.le_refl _ | exact sub_absurd h hq rfl

theorem Keeps.upd_stn {M : Nat} {s t : State} {stnV}
    (h : (0x4000000 &&& M) = 0x4000000) (k : Keeps M s t) : Keeps M s { t with stn := stnV } := by
  refine ⟨fun p hq => p.same_trans (k.same p hq) ?_, fun i => have j := k.inv i; ⟨j.regs, j.roles, j.phase, j.buf⟩⟩
  cases p <;> first | rfl | exact fun _ _ _ => rfl | exact Nat.le_refl _ | exact sub_absurd h hq rfl

theorem Keeps.upd_dpy {M : Nat} {s t : State} {dpyV}
    (h : (0x8000000 &&& M) = 0x8000000) (k : Keeps M s t) : Keeps M s { t with dpy := dpyV } := by
  refine ⟨fun p hq => p.same_trans (k.same p hq) ?_, fun i => have j := k.inv i; ⟨j.regs, j.roles, j.phase, j.buf⟩⟩
  cases p <;> first | rfl | exact fun _ _ _ => rfl | exact Nat.le_refl _ | exact sub_absurd h hq rfl

theorem Keeps.upd_sess {M : Nat} {s t : State} {sessV}
    (h : (0x10000000 &&& M) = 0x10000000) (k : Keeps M s t) : Keeps M s { t with sess := sessV } := by
  refine ⟨fun p hq => p.same_trans (k.same p hq) ?_, fun i => have j := k.inv i; ⟨j.regs, j.roles, j.phase, j.buf⟩⟩
  cases p <;> first | rfl | exact fun _ _ _ => rfl | exact Nat.le_refl _ | exact sub_absurd h hq rfl

theorem Keeps.upd_freeN_grid {M : Nat} {s t : State} {freeNV} {gridV} (hp : t.grid.phase ≤ 3 → gridV.phase ≤ 3) (hm : t.grid.mono ≤ gridV.mono)
    (hF : M.testBit 4 = true ∨ gridV.place = t.grid.place)
    (h : (0x48 &&& M) = 0x48) (k : Keeps M s t) : Keeps M s { t with freeN := freeNV, grid := gridV } := by
  refine ⟨fun p hq => p.same_trans (k.same p hq) ?_, fun i => have j := k.inv i; ⟨j.regs, j.roles, hp j.phase, j.buf⟩⟩
  cases p <;> first | rfl | exact fun _ _ _ => rfl | exact hm | exact or_absurd hF hq | exact Nat.le_refl _ | exact sub_absurd h hq rfl

theorem Keeps.upd_freeN_sched {M : Nat} {s t : State} {freeNV} {schedV}
    (h : (0x108 &&& M) = 0x108) (k : Keeps M s t) : Keeps M s { t with freeN := freeNV, sched := schedV } := by
  refine ⟨fun p hq => p.same_trans (k.same p hq) ?_, fun i => have j := k.inv i; ⟨j.regs, j.roles, j.phase, j.buf⟩⟩
  cases p <;> first | rfl | exact fun _ _ _ => rfl | exact Nat.le_refl _ | exact sub_absurd h hq rfl

theorem Keeps.upd_grid_sig {M : Nat} {s t : State} {gridV} {sigV} (hr : t.sig.roles.ok = true → sigV.roles.ok = true) (hR : M.testBit 30 = true ∨ sigV.roles = t.sig.roles) (hp : t.grid.phase ≤ 3 → gridV.phase ≤ 3) (hm : t.grid.mono ≤ gridV.mono)
    (hF : M.testBit 4 = true ∨ gridV.place = t.grid.place)
    (h : (0xc0 &&& M) = 0xc0) (k : Keeps M s t) : Keeps M s { t with grid := gridV, sig := sigV } := by
  refine ⟨fun p hq => p.same_trans (k.same p hq) ?_, fun i => have j := k.inv i; ⟨j.regs, hr j.roles, hp j.phase, j.buf⟩⟩
  cases p <;> first | rfl | exact fun _ _ _ => rfl | exact hm | exact or_absurd hF hq | exact or_absurd hR hq | exact Nat.le_refl _ | exact sub_absurd h hq rfl

theorem Keeps.upd_fbx_frc {M : Nat} {s t : State} {fbxV} {frcV}
    (h : (0x10400 &&& M) = 0x10400) (k : Keeps M s t) : Keeps M s { t with fbx := fbxV, frc := frcV } := by
  refine ⟨fun p hq => p.same_trans (k.same p hq) ?_, fun i => have j := k.inv i; ⟨j.regs, j.roles, j.phase, j.buf⟩⟩
  cases p <;> first | rfl | exact fun _ _ _ => rfl | exact Nat.le_refl _ | exact sub_absurd h hq rfl

theorem Keeps.upd_fbx_dpy {M : Nat} {s t : State} {fbxV} {dpyV}
    (h : (0x8000400 &&& M) = 0x8000400) (k : Keeps M s t) : Keeps M s { t with fbx := fbxV, dpy := dpyV } := by
  refine ⟨fun p hq => p.same_trans (k.same p hq) ?_, fun i => have j := k.inv i; ⟨j.regs, j.roles, j.phase, j.buf⟩⟩
  cases p <;> first | rfl | exact fun _ _ _ => rfl | exact Nat.le_refl _ | exact sub_absurd h hq rfl

theorem Keeps.upd_pair_hlt_slot {M : Nat} {s t : State} {pairV} {hltV} {slotV} (hQ : M.testBit 31 = true ∨ pairV.role = t.pair.role)
    (h : (0xc02000 &&& M) = 0xc02000) (k : Keeps M s t) : Keeps M s { t with pair := pairV, hlt := hltV, slot := slotV } := by
  refine ⟨fun p hq => p.same_trans (k.same p hq) ?_, fun i => have j := k.inv i; ⟨j.regs, j.roles, j.phase, j.buf⟩⟩
  cases p <;> first | rfl | exact fun _ _ _ => rfl | exact or_absurd hQ hq | exact Nat.le_refl _ | exact sub_absurd h hq rfl

theorem Keeps.upd_lio_chn_can {M : Nat} {s t : State} {lioV} {chnV} {canV}
    (h : (0x1c0000 &&& M) = 0x1c0000) (k : Keeps M s t) : Keeps M s { t with lio := lioV, chn := chnV, can := canV } := by
  refine ⟨fun p hq => p.same_trans (k.same p hq) ?_, fun i => have j := k.inv i; ⟨j.regs, j.roles, j.phase, j.buf⟩⟩
  cases p <;> first | rfl | exact fun _ _ _ => rfl | exact Nat.le_refl _ | exact sub_absurd h hq rfl

theorem Keeps.upd_cfg_sig_sched_fbx {M : Nat} {s t : State} {cfgV} {sigV} {schedV} {fbxV} (hr : t.sig.roles.ok = true → sigV.roles.ok = true) (hR : M.testBit 30 = true ∨ sigV.roles = t.sig.roles)
    (h : (0x5a0 &&& M) = 0x5a0) (k : Keeps M s t) : Keeps M s { t with cfg := cfgV, sig := sigV, sched := schedV, fbx := fbxV } := by
  refine ⟨fun p hq => p.same_trans (k.same p hq) ?_, fun i => have j := k.inv i; ⟨j.regs, hr j.roles, j.phase, j.buf⟩⟩
  cases p <;> first | rfl | exact fun _ _ _ => rfl | exact or_absurd hR hq | exact Nat.le_refl _ | exact sub_absurd h hq rfl

theorem Keeps.upd_sig_sched_le_fbx {M : Nat} {s t : State} {sigV} {schedV} {leV} {fbxV} (hr : t.sig.roles.ok = true → sigV.roles.ok = true) (hR : M.testBit 30 = true ∨ sigV.roles = t.sig.roles)
    (h : (0x780 &&& M) = 0x780) (k : Keeps M s t) : Keeps M s { t with sig := sigV, sched := schedV, le := leV, fbx := fbxV } := by
  refine ⟨fun p hq => p.same_trans (k.same p hq) ?_, fun i => have j := k.inv i; ⟨j.regs, hr j.roles, j.phase, j.buf⟩⟩
  cases p <;> first | rfl | exact fun _ _ _ => rfl | exact or_absurd hR hq | exact Nat.le_refl _ | exact sub_absurd h hq rfl

theorem Keeps.upd_sched_le_fbx_rcd {M : Nat} {s t : State} {schedV} {leV} {fbxV} {rcdV} (hb : infoCount t.rcd.buf ≤ 12288 → infoCount rcdV.buf ≤ 12288)
    (h : (0x1700 &&& M) = 0x1700) (k : Keeps M s t) : Keeps M s { t with sched := schedV, le := leV, fbx := fbxV, rcd := rcdV } := by
  refine ⟨fun p hq => p.same_trans (k.same p hq) ?_, fun i => have j := k.inv i; ⟨j.regs, j.roles, j.phase, hb j.buf⟩⟩
  cases p <;> first | rfl | exact fun _ _ _ => rfl | exact Nat.le_refl _ | exact sub_absurd h hq rfl

theorem Keeps.upd_saf_olc_frc_upd {M : Nat} {s t : State} {safV} {olcV} {frcV} {updV}
    (h : (0x3c000 &&& M) = 0x3c000) (k : Keeps M s t) : Keeps M s { t with saf := safV, olc := olcV, frc := frcV, upd := updV } := by
  refine ⟨fun p hq => p.same_trans (k.same p hq) ?_, fun i => have j := k.inv i; ⟨j.regs, j.roles, j.phase, j.buf⟩⟩
  cases p <;> first | rfl | exact fun _ _ _ => rfl | exact Nat.le_refl _ | exact sub_absurd h hq rfl

theorem Keeps.upd_sent_grid_sched_fbx_acc {M : Nat} {s t : State} {sentV} {gridV} {schedV} {fbxV} {accV} (hp : t.grid.phase ≤ 3 → gridV.phase ≤ 3) (hm : t.grid.mono ≤ gridV.mono)
    (hF : M.testBit 4 = true ∨ gridV.place = t.grid.place)
    (h : (0xd44 &&& M) = 0xd44) (k : Keeps M s t) : Keeps M s { t with sent := sentV, grid := gridV, sched := schedV, fbx := fbxV, acc := accV } := by
  refine ⟨fun p hq => p.same_trans (k.same p hq) ?_, fun i => have j := k.inv i; ⟨j.regs, j.roles, hp j.phase, j.buf⟩⟩
  cases p <;> first | rfl | exact fun _ _ _ => rfl | exact hm | exact or_absurd hF hq | exact Nat.le_refl _ | exact sub_absurd h hq rfl

theorem Keeps.upd_freeN_pair_upd_hlt_slot {M : Nat} {s t : State} {freeNV} {pairV} {updV} {hltV} {slotV} (hQ : M.testBit 31 = true ∨ pairV.role = t.pair.role)
    (h : (0xc22008 &&& M) = 0xc22008) (k : Keeps M s t) : Keeps M s { t with freeN := freeNV, pair := pairV, upd := updV, hlt := hltV, slot := slotV } := by
  refine ⟨fun p hq => p.same_trans (k.same p hq) ?_, fun i => have j := k.inv i; ⟨j.regs, j.roles, j.phase, j.buf⟩⟩
  cases p <;> first | rfl | exact fun _ _ _ => rfl | exact or_absurd hQ hq | exact Nat.le_refl _ | exact sub_absurd h hq rfl

/-! ### Registers -/

theorem rd_wr (s : State) (a b : Nat) (v : Word) : rd (wr s a v) b = if b = a then v else rd s b :=
  Tbl.read_write _ _ _ _ _

@[simp] theorem rd_wr_same (s : State) (a : Nat) (v : Word) : rd (wr s a v) a = v := Tbl.read_write_same _ _ _ _

theorem rd_wr_other (s : State) (a b : Nat) (v : Word) (h : b ≠ a) : rd (wr s a v) b = rd s b :=
  Tbl.read_write_other _ _ _ _ _ h

theorem Keeps.wrOf {M : Nat} {s t : State} {a b : Nat} {v : Word} (hb : blockOf a = b) (h : M.testBit (32 + b) = true)
    (k : Keeps M s t) : Keeps M s (wr t a v) := by
  refine ⟨fun p hp => p.same_trans (k.same p hp) ?_, fun i => ?_⟩
  · cases p with
    | regs c =>
      intro _ x hx
      refine rd_wr_other _ _ _ _ ?_
      rintro rfl
      rw [Part.bit, ← hx, hb, h] at hp; cases hp
    | monoRuns => exact Nat.le_refl _
    | _ => rfl
  · have j := k.inv i
    exact ⟨Tbl.wf_write _ _ _ _ j.regs, j.roles, j.phase, j.buf⟩

theorem Keeps.wr {M : Nat} {s t : State} {a : Nat} {v : Word} (h : M.testBit (32 + blockOf a) = true)
    (k : Keeps M s t) : Keeps M s (wr t a v) := Keeps.wrOf rfl h k

theorem Keeps.wrFieldOf {M : Nat} {s t : State} {a b : Nat} {hi lo v : Nat} (hb : blockOf a = b) (h : M.testBit (32 + b) = true)
    (k : Keeps M s t) : Keeps M s (wrField t a hi lo v) := Keeps.wrOf hb h k

theorem Keeps.wrField {M : Nat} {s t : State} {a : Nat} {hi lo v : Nat} (h : M.testBit (32 + blockOf a) = true)
    (k : Keeps M s t) : Keeps M s (wrField t a hi lo v) := Keeps.wr h k

theorem Keeps.setBitsOf {M : Nat} {s t : State} {a b : Nat} {v : Word} (hb : blockOf a = b) (h : M.testBit (32 + b) = true)
    (k : Keeps M s t) : Keeps M s (setBits t a v) := Keeps.wrOf hb h k

theorem Keeps.setBits {M : Nat} {s t : State} {a : Nat} {v : Word} (h : M.testBit (32 + blockOf a) = true)
    (k : Keeps M s t) : Keeps M s (setBits t a v) := Keeps.wr h k

theorem Keeps.clrBitsOf {M : Nat} {s t : State} {a b : Nat} {v : Word} (hb : blockOf a = b) (h : M.testBit (32 + b) = true)
    (k : Keeps M s t) : Keeps M s (clrBits t a v) := Keeps.wrOf hb h k

theorem Keeps.clrBits {M : Nat} {s t : State} {a : Nat} {v : Word} (h : M.testBit (32 + blockOf a) = true)
    (k : Keeps M s t) : Keeps M s (clrBits t a v) := Keeps.wr h k

theorem Keeps.setBitOf {M : Nat} {s t : State} {a b : Nat} {i : Nat} (hb : blockOf a = b) (h : M.testBit (32 + b) = true)
    (k : Keeps M s t) : Keeps M s (setBit t a i) := Keeps.wrOf hb h k

theorem Keeps.setBit {M : Nat} {s t : State} {a : Nat} {i : Nat} (h : M.testBit (32 + blockOf a) = true)
    (k : Keeps M s t) : Keeps M s (setBit t a i) := Keeps.wr h k

theorem Keeps.addRegOf {M : Nat} {s t : State} {a b : Nat} {n : Nat} (hb : blockOf a = b) (h : M.testBit (32 + b) = true)
    (k : Keeps M s t) : Keeps M s (addReg t a n) := Keeps.wrOf hb h k

theorem Keeps.addReg {M : Nat} {s t : State} {a : Nat} {n : Nat} (h : M.testBit (32 + blockOf a) = true)
    (k : Keeps M s t) : Keeps M s (addReg t a n) := Keeps.wr h k

theorem Keeps.bumpOf {M : Nat} {s t : State} {a b : Nat}  (hb : blockOf a = b) (h : M.testBit (32 + b) = true)
    (k : Keeps M s t) : Keeps M s (bump t a ) := Keeps.wrOf hb h k

theorem Keeps.bump {M : Nat} {s t : State} {a : Nat}  (h : M.testBit (32 + blockOf a) = true)
    (k : Keeps M s t) : Keeps M s (bump t a ) := Keeps.wr h k

theorem Keeps.addFieldOf {M : Nat} {s t : State} {a b : Nat} {hi lo n : Nat} (hb : blockOf a = b) (h : M.testBit (32 + b) = true)
    (k : Keeps M s t) : Keeps M s (addField t a hi lo n) := Keeps.wrOf hb h k

theorem Keeps.addField {M : Nat} {s t : State} {a : Nat} {hi lo n : Nat} (h : M.testBit (32 + blockOf a) = true)
    (k : Keeps M s t) : Keeps M s (addField t a hi lo n) := Keeps.wr h k

theorem Keeps.peakFieldOf {M : Nat} {s t : State} {a b : Nat} {hi lo v : Nat} (hb : blockOf a = b) (h : M.testBit (32 + b) = true)
    (k : Keeps M s t) : Keeps M s (peakField t a hi lo v) := Keeps.wrOf hb h k

theorem Keeps.peakField {M : Nat} {s t : State} {a : Nat} {hi lo v : Nat} (h : M.testBit (32 + blockOf a) = true)
    (k : Keeps M s t) : Keeps M s (peakField t a hi lo v) := Keeps.wr h k

theorem Keeps.zeroRegs {M b : Nat} {s t : State} {l : List Nat} (h : ∀ a ∈ l, blockOf a = b) (hb : M.testBit (32 + b) = true)
    (k : Keeps M s t) : Keeps M s (zeroRegs t l) := by
  unfold Machine.zeroRegs
  induction l generalizing t with
  | nil => exact k
  | cons a l ih => exact ih (fun x hx => h x (List.mem_cons_of_mem _ hx)) (Keeps.wrOf (h a (List.mem_cons_self ..)) hb k)

end Sys2Proof.Machine
end

