-- ==== Sys2Proof/Laws/Registers.lean ====
section
/-! SUPPORT. The block of every register that stands in an array: whatever its number, its name stays in its block. -/

namespace Sys2Proof.Machine

theorem Reg.FRM_ENG_BUDGETn_block (n : Nat) : blockOf (Reg.FRM_ENG_BUDGETn n) = 1 := by unfold Reg.FRM_ENG_BUDGETn blockOf bitsOf; omega
theorem Reg.SIG_WATCHn_block (n : Nat) : blockOf (Reg.SIG_WATCHn n) = 2 := by unfold Reg.SIG_WATCHn blockOf bitsOf; omega
theorem Reg.LE_ID_block (e : Nat) : blockOf (Reg.LE_ID e) = 3 := by unfold Reg.LE_ID blockOf bitsOf; omega
theorem Reg.LE_CFG_block (e : Nat) : blockOf (Reg.LE_CFG e) = 3 := by unfold Reg.LE_CFG blockOf bitsOf; omega
theorem Reg.LE_STAT_block (e : Nat) : blockOf (Reg.LE_STAT e) = 3 := by unfold Reg.LE_STAT blockOf bitsOf; omega
theorem Reg.LE_CTRL_block (e : Nat) : blockOf (Reg.LE_CTRL e) = 3 := by unfold Reg.LE_CTRL blockOf bitsOf; omega
theorem Reg.LE_EVT_STAT_block (e : Nat) : blockOf (Reg.LE_EVT_STAT e) = 3 := by unfold Reg.LE_EVT_STAT blockOf bitsOf; omega
theorem Reg.LE_EVT_EN_block (e : Nat) : blockOf (Reg.LE_EVT_EN e) = 3 := by unfold Reg.LE_EVT_EN blockOf bitsOf; omega
theorem Reg.LE_PC_block (e : Nat) : blockOf (Reg.LE_PC e) = 3 := by unfold Reg.LE_PC blockOf bitsOf; omega
theorem Reg.LE_ACC_block (e : Nat) : blockOf (Reg.LE_ACC e) = 3 := by unfold Reg.LE_ACC blockOf bitsOf; omega
theorem Reg.LE_PROG_SEL_block (e : Nat) : blockOf (Reg.LE_PROG_SEL e) = 3 := by unfold Reg.LE_PROG_SEL blockOf bitsOf; omega
theorem Reg.LE_PROG_ENT_block (e : Nat) : blockOf (Reg.LE_PROG_ENT e) = 3 := by unfold Reg.LE_PROG_ENT blockOf bitsOf; omega
theorem Reg.LE_PROG_LEN_block (e : Nat) : blockOf (Reg.LE_PROG_LEN e) = 3 := by unfold Reg.LE_PROG_LEN blockOf bitsOf; omega
theorem Reg.LE_PROG_CLS_block (e : Nat) : blockOf (Reg.LE_PROG_CLS e) = 3 := by unfold Reg.LE_PROG_CLS blockOf bitsOf; omega
theorem Reg.LE_PROG_STAT_block (e : Nat) : blockOf (Reg.LE_PROG_STAT e) = 3 := by unfold Reg.LE_PROG_STAT blockOf bitsOf; omega
theorem Reg.LE_PROG_CELLS_block (e : Nat) : blockOf (Reg.LE_PROG_CELLS e) = 3 := by unfold Reg.LE_PROG_CELLS blockOf bitsOf; omega
theorem Reg.LE_PROG_CCNT_block (e : Nat) : blockOf (Reg.LE_PROG_CCNT e) = 3 := by unfold Reg.LE_PROG_CCNT blockOf bitsOf; omega
theorem Reg.LE_CELL_SEL_block (e : Nat) : blockOf (Reg.LE_CELL_SEL e) = 3 := by unfold Reg.LE_CELL_SEL blockOf bitsOf; omega
theorem Reg.LE_CELL_VAL_block (e : Nat) : blockOf (Reg.LE_CELL_VAL e) = 3 := by unfold Reg.LE_CELL_VAL blockOf bitsOf; omega
theorem Reg.LE_PMEM_SEL_block (e : Nat) : blockOf (Reg.LE_PMEM_SEL e) = 3 := by unfold Reg.LE_PMEM_SEL blockOf bitsOf; omega
theorem Reg.LE_PMEM_VAL_block (e : Nat) : blockOf (Reg.LE_PMEM_VAL e) = 3 := by unfold Reg.LE_PMEM_VAL blockOf bitsOf; omega
theorem Reg.LE_PMEM_CRC_block (e : Nat) : blockOf (Reg.LE_PMEM_CRC e) = 3 := by unfold Reg.LE_PMEM_CRC blockOf bitsOf; omega
theorem Reg.LE_FAULT_CNT_block (e : Nat) : blockOf (Reg.LE_FAULT_CNT e) = 3 := by unfold Reg.LE_FAULT_CNT blockOf bitsOf; omega
theorem Reg.LE_FAULT_LAST_block (e : Nat) : blockOf (Reg.LE_FAULT_LAST e) = 3 := by unfold Reg.LE_FAULT_LAST blockOf bitsOf; omega
theorem Reg.LE_ECC_CNT_block (e : Nat) : blockOf (Reg.LE_ECC_CNT e) = 3 := by unfold Reg.LE_ECC_CNT blockOf bitsOf; omega
theorem Reg.LE_LOAD_block (e : Nat) : blockOf (Reg.LE_LOAD e) = 3 := by unfold Reg.LE_LOAD blockOf bitsOf; omega
theorem Reg.LE_PEAKS_block (e : Nat) : blockOf (Reg.LE_PEAKS e) = 3 := by unfold Reg.LE_PEAKS blockOf bitsOf; omega
theorem Reg.LE_CMP_STAT_block (e : Nat) : blockOf (Reg.LE_CMP_STAT e) = 3 := by unfold Reg.LE_CMP_STAT blockOf bitsOf; omega
theorem Reg.LE_MISM_CNT_block (e : Nat) : blockOf (Reg.LE_MISM_CNT e) = 3 := by unfold Reg.LE_MISM_CNT blockOf bitsOf; omega
theorem Reg.LE_DIVG_CNT_block (e : Nat) : blockOf (Reg.LE_DIVG_CNT e) = 3 := by unfold Reg.LE_DIVG_CNT blockOf bitsOf; omega
theorem Reg.LE_MODE_REQ_block (e : Nat) : blockOf (Reg.LE_MODE_REQ e) = 3 := by unfold Reg.LE_MODE_REQ blockOf bitsOf; omega
theorem Reg.LE_DBG_CTRL_block (e : Nat) : blockOf (Reg.LE_DBG_CTRL e) = 3 := by unfold Reg.LE_DBG_CTRL blockOf bitsOf; omega
theorem Reg.LE_DBG_BP_block (e : Nat) : blockOf (Reg.LE_DBG_BP e) = 3 := by unfold Reg.LE_DBG_BP blockOf bitsOf; omega
theorem Reg.LE_DBG_WR_block (e : Nat) : blockOf (Reg.LE_DBG_WR e) = 3 := by unfold Reg.LE_DBG_WR blockOf bitsOf; omega
theorem Reg.FBX_CORE_STATn_block (n : Nat) : blockOf (Reg.FBX_CORE_STATn n) = 4 := by unfold Reg.FBX_CORE_STATn blockOf bitsOf; omega
theorem Reg.FBX_CORE_SVCn_block (n : Nat) : blockOf (Reg.FBX_CORE_SVCn n) = 4 := by unfold Reg.FBX_CORE_SVCn blockOf bitsOf; omega
theorem Reg.FBX_FIFO_STATn_block (n : Nat) : blockOf (Reg.FBX_FIFO_STATn n) = 4 := by unfold Reg.FBX_FIFO_STATn blockOf bitsOf; omega
theorem Reg.FBX_FIFO_LOSTn_block (n : Nat) : blockOf (Reg.FBX_FIFO_LOSTn n) = 4 := by unfold Reg.FBX_FIFO_LOSTn blockOf bitsOf; omega
theorem Reg.FBX_JRNL_STATn_block (n : Nat) : blockOf (Reg.FBX_JRNL_STATn n) = 4 := by unfold Reg.FBX_JRNL_STATn blockOf bitsOf; omega
theorem Reg.SVI_OKMAPn_block (n : Nat) : blockOf (Reg.SVI_OKMAPn n) = 6 := by unfold Reg.SVI_OKMAPn blockOf bitsOf; omega
theorem Reg.PE_ID_block (e : Nat) : blockOf (Reg.PE_ID e) = 5 := by unfold Reg.PE_ID blockOf bitsOf; omega
theorem Reg.PE_CFG_block (e : Nat) : blockOf (Reg.PE_CFG e) = 5 := by unfold Reg.PE_CFG blockOf bitsOf; omega
theorem Reg.PE_STAT_block (e : Nat) : blockOf (Reg.PE_STAT e) = 5 := by unfold Reg.PE_STAT blockOf bitsOf; omega
theorem Reg.PE_CTRL_block (e : Nat) : blockOf (Reg.PE_CTRL e) = 5 := by unfold Reg.PE_CTRL blockOf bitsOf; omega
theorem Reg.PE_EVT_STAT_block (e : Nat) : blockOf (Reg.PE_EVT_STAT e) = 5 := by unfold Reg.PE_EVT_STAT blockOf bitsOf; omega
theorem Reg.PE_EVT_EN_block (e : Nat) : blockOf (Reg.PE_EVT_EN e) = 5 := by unfold Reg.PE_EVT_EN blockOf bitsOf; omega
theorem Reg.PE_LOAD_block (e : Nat) : blockOf (Reg.PE_LOAD e) = 5 := by unfold Reg.PE_LOAD blockOf bitsOf; omega
theorem Reg.PE_PEAK_block (e : Nat) : blockOf (Reg.PE_PEAK e) = 5 := by unfold Reg.PE_PEAK blockOf bitsOf; omega
theorem Reg.PE_BUDGET_block (e : Nat) : blockOf (Reg.PE_BUDGET e) = 5 := by unfold Reg.PE_BUDGET blockOf bitsOf; omega
theorem Reg.PE_OVR_CNT_block (e : Nat) : blockOf (Reg.PE_OVR_CNT e) = 5 := by unfold Reg.PE_OVR_CNT blockOf bitsOf; omega
theorem Reg.PE_NOTREADY_block (e : Nat) : blockOf (Reg.PE_NOTREADY e) = 5 := by unfold Reg.PE_NOTREADY blockOf bitsOf; omega
theorem Reg.PE_ELEM_SEL_block (e : Nat) : blockOf (Reg.PE_ELEM_SEL e) = 5 := by unfold Reg.PE_ELEM_SEL blockOf bitsOf; omega
theorem Reg.PE_ELEM_IID_block (e : Nat) : blockOf (Reg.PE_ELEM_IID e) = 5 := by unfold Reg.PE_ELEM_IID blockOf bitsOf; omega
theorem Reg.PE_ELEM_CFG_block (e : Nat) : blockOf (Reg.PE_ELEM_CFG e) = 5 := by unfold Reg.PE_ELEM_CFG blockOf bitsOf; omega
theorem Reg.PE_ELEM_STAT_block (e : Nat) : blockOf (Reg.PE_ELEM_STAT e) = 5 := by unfold Reg.PE_ELEM_STAT blockOf bitsOf; omega
theorem Reg.PE_WORD_SEL_block (e : Nat) : blockOf (Reg.PE_WORD_SEL e) = 5 := by unfold Reg.PE_WORD_SEL blockOf bitsOf; omega
theorem Reg.PE_ELEM_WORD_block (e : Nat) : blockOf (Reg.PE_ELEM_WORD e) = 5 := by unfold Reg.PE_ELEM_WORD blockOf bitsOf; omega
theorem Reg.PE_OUT_SEL_block (e : Nat) : blockOf (Reg.PE_OUT_SEL e) = 5 := by unfold Reg.PE_OUT_SEL blockOf bitsOf; omega
theorem Reg.PE_OUT_VAL_block (e : Nat) : blockOf (Reg.PE_OUT_VAL e) = 5 := by unfold Reg.PE_OUT_VAL blockOf bitsOf; omega
theorem Reg.PE_OUT_AUX_block (e : Nat) : blockOf (Reg.PE_OUT_AUX e) = 5 := by unfold Reg.PE_OUT_AUX blockOf bitsOf; omega
theorem Reg.PE_ROUTE_SEL_block (e : Nat) : blockOf (Reg.PE_ROUTE_SEL e) = 5 := by unfold Reg.PE_ROUTE_SEL blockOf bitsOf; omega
theorem Reg.PE_ROUTE_block (e : Nat) : blockOf (Reg.PE_ROUTE e) = 5 := by unfold Reg.PE_ROUTE blockOf bitsOf; omega
theorem Reg.PE_KAT_block (e : Nat) : blockOf (Reg.PE_KAT e) = 5 := by unfold Reg.PE_KAT blockOf bitsOf; omega
theorem Reg.PE_ECC_CNT_block (e : Nat) : blockOf (Reg.PE_ECC_CNT e) = 5 := by unfold Reg.PE_ECC_CNT blockOf bitsOf; omega
theorem Reg.OLC_PARTMAPn_block (n : Nat) : blockOf (Reg.OLC_PARTMAPn n) = 22 := by unfold Reg.OLC_PARTMAPn blockOf bitsOf; omega
theorem Reg.PAIR_REPMAPn_block (n : Nat) : blockOf (Reg.PAIR_REPMAPn n) = 7 := by unfold Reg.PAIR_REPMAPn blockOf bitsOf; omega
theorem Reg.PAIR_LAGMAPn_block (n : Nat) : blockOf (Reg.PAIR_LAGMAPn n) = 7 := by unfold Reg.PAIR_LAGMAPn blockOf bitsOf; omega
theorem Reg.SAF_PSAFEn_block (n : Nat) : blockOf (Reg.SAF_PSAFEn n) = 8 := by unfold Reg.SAF_PSAFEn blockOf bitsOf; omega
theorem Reg.CHN_OKMAPn_block (n : Nat) : blockOf (Reg.CHN_OKMAPn n) = 12 := by unfold Reg.CHN_OKMAPn blockOf bitsOf; omega
theorem Reg.AIO_CH_CFG_block (e : Nat) : blockOf (Reg.AIO_CH_CFG e) = 15 := by unfold Reg.AIO_CH_CFG blockOf bitsOf; omega
theorem Reg.AIO_CH_STAT_block (e : Nat) : blockOf (Reg.AIO_CH_STAT e) = 15 := by unfold Reg.AIO_CH_STAT blockOf bitsOf; omega
theorem Reg.AIO_CH_OUT_block (e : Nat) : blockOf (Reg.AIO_CH_OUT e) = 15 := by unfold Reg.AIO_CH_OUT blockOf bitsOf; omega
theorem Reg.AIO_CH_MEAS_block (e : Nat) : blockOf (Reg.AIO_CH_MEAS e) = 15 := by unfold Reg.AIO_CH_MEAS blockOf bitsOf; omega
theorem Reg.AIO_CH_HEAD_block (e : Nat) : blockOf (Reg.AIO_CH_HEAD e) = 15 := by unfold Reg.AIO_CH_HEAD blockOf bitsOf; omega
theorem Reg.AIO_CH_SAFE_block (e : Nat) : blockOf (Reg.AIO_CH_SAFE e) = 15 := by unfold Reg.AIO_CH_SAFE blockOf bitsOf; omega
theorem Reg.AIO_CH_HART_block (e : Nat) : blockOf (Reg.AIO_CH_HART e) = 15 := by unfold Reg.AIO_CH_HART blockOf bitsOf; omega
theorem Reg.AIO_CH_HCNT_block (e : Nat) : blockOf (Reg.AIO_CH_HCNT e) = 15 := by unfold Reg.AIO_CH_HCNT blockOf bitsOf; omega
theorem Reg.AIO_CH_EVCNT_block (e : Nat) : blockOf (Reg.AIO_CH_EVCNT e) = 15 := by unfold Reg.AIO_CH_EVCNT blockOf bitsOf; omega
theorem Reg.CAN_C_CFG_block (e : Nat) : blockOf (Reg.CAN_C_CFG e) = 13 := by unfold Reg.CAN_C_CFG blockOf bitsOf; omega
theorem Reg.CAN_C_BT_block (e : Nat) : blockOf (Reg.CAN_C_BT e) = 13 := by unfold Reg.CAN_C_BT blockOf bitsOf; omega
theorem Reg.CAN_C_DBT_block (e : Nat) : blockOf (Reg.CAN_C_DBT e) = 13 := by unfold Reg.CAN_C_DBT blockOf bitsOf; omega
theorem Reg.CAN_C_STAT_block (e : Nat) : blockOf (Reg.CAN_C_STAT e) = 13 := by unfold Reg.CAN_C_STAT blockOf bitsOf; omega
theorem Reg.CAN_C_ERR_block (e : Nat) : blockOf (Reg.CAN_C_ERR e) = 13 := by unfold Reg.CAN_C_ERR blockOf bitsOf; omega
theorem Reg.CAN_C_FRM_block (e : Nat) : blockOf (Reg.CAN_C_FRM e) = 13 := by unfold Reg.CAN_C_FRM blockOf bitsOf; omega
theorem Reg.CAN_C_ERRCNT_block (e : Nat) : blockOf (Reg.CAN_C_ERRCNT e) = 13 := by unfold Reg.CAN_C_ERRCNT blockOf bitsOf; omega
theorem Reg.CAN_C_UNK_block (e : Nat) : blockOf (Reg.CAN_C_UNK e) = 13 := by unfold Reg.CAN_C_UNK blockOf bitsOf; omega
theorem Reg.CAN_C_UNK_LAST_block (e : Nat) : blockOf (Reg.CAN_C_UNK_LAST e) = 13 := by unfold Reg.CAN_C_UNK_LAST blockOf bitsOf; omega
theorem Reg.CAN_RXO_SEL_block (e : Nat) : blockOf (Reg.CAN_RXO_SEL e) = 13 := by unfold Reg.CAN_RXO_SEL blockOf bitsOf; omega
theorem Reg.CAN_RXO_CFG_block (e : Nat) : blockOf (Reg.CAN_RXO_CFG e) = 13 := by unfold Reg.CAN_RXO_CFG blockOf bitsOf; omega
theorem Reg.CAN_RXO_ID_block (e : Nat) : blockOf (Reg.CAN_RXO_ID e) = 13 := by unfold Reg.CAN_RXO_ID blockOf bitsOf; omega
theorem Reg.CAN_RXO_STAT_block (e : Nat) : blockOf (Reg.CAN_RXO_STAT e) = 13 := by unfold Reg.CAN_RXO_STAT blockOf bitsOf; omega
theorem Reg.CAN_RXO_W0_block (e : Nat) : blockOf (Reg.CAN_RXO_W0 e) = 13 := by unfold Reg.CAN_RXO_W0 blockOf bitsOf; omega
theorem Reg.CAN_RXO_W1_block (e : Nat) : blockOf (Reg.CAN_RXO_W1 e) = 13 := by unfold Reg.CAN_RXO_W1 blockOf bitsOf; omega
theorem Reg.CAN_RXO_W2_block (e : Nat) : blockOf (Reg.CAN_RXO_W2 e) = 13 := by unfold Reg.CAN_RXO_W2 blockOf bitsOf; omega
theorem Reg.CAN_RXO_W3_block (e : Nat) : blockOf (Reg.CAN_RXO_W3 e) = 13 := by unfold Reg.CAN_RXO_W3 blockOf bitsOf; omega
theorem Reg.CAN_RXO_Wn_block (e n : Nat) : blockOf (Reg.CAN_RXO_Wn e n) = 13 := by unfold Reg.CAN_RXO_Wn blockOf bitsOf; omega
theorem Reg.CAN_TXB_SEL_block (e : Nat) : blockOf (Reg.CAN_TXB_SEL e) = 13 := by unfold Reg.CAN_TXB_SEL blockOf bitsOf; omega
theorem Reg.CAN_TXB_CFG_block (e : Nat) : blockOf (Reg.CAN_TXB_CFG e) = 13 := by unfold Reg.CAN_TXB_CFG blockOf bitsOf; omega
theorem Reg.CAN_TXB_ID_block (e : Nat) : blockOf (Reg.CAN_TXB_ID e) = 13 := by unfold Reg.CAN_TXB_ID blockOf bitsOf; omega
theorem Reg.CAN_TXB_LIFE_block (e : Nat) : blockOf (Reg.CAN_TXB_LIFE e) = 13 := by unfold Reg.CAN_TXB_LIFE blockOf bitsOf; omega
theorem Reg.CAN_TXB_STAT_block (e : Nat) : blockOf (Reg.CAN_TXB_STAT e) = 13 := by unfold Reg.CAN_TXB_STAT blockOf bitsOf; omega
theorem Reg.CAN_TXB_CMD_block (e : Nat) : blockOf (Reg.CAN_TXB_CMD e) = 13 := by unfold Reg.CAN_TXB_CMD blockOf bitsOf; omega
theorem Reg.CAN_TXB_CNT_block (e : Nat) : blockOf (Reg.CAN_TXB_CNT e) = 13 := by unfold Reg.CAN_TXB_CNT blockOf bitsOf; omega
theorem Reg.CAN_TT_CFG_block (e : Nat) : blockOf (Reg.CAN_TT_CFG e) = 13 := by unfold Reg.CAN_TT_CFG blockOf bitsOf; omega
theorem Reg.CAN_TT_STAT_block (e : Nat) : blockOf (Reg.CAN_TT_STAT e) = 13 := by unfold Reg.CAN_TT_STAT blockOf bitsOf; omega
theorem Reg.CAN_TT_CELL_SEL_block (e : Nat) : blockOf (Reg.CAN_TT_CELL_SEL e) = 13 := by unfold Reg.CAN_TT_CELL_SEL blockOf bitsOf; omega
theorem Reg.CAN_TT_CELL_block (e : Nat) : blockOf (Reg.CAN_TT_CELL e) = 13 := by unfold Reg.CAN_TT_CELL blockOf bitsOf; omega
theorem Reg.CAN_TT_MISS_block (e : Nat) : blockOf (Reg.CAN_TT_MISS e) = 13 := by unfold Reg.CAN_TT_MISS blockOf bitsOf; omega
theorem Reg.GSE_OKMAPn_block (n : Nat) : blockOf (Reg.GSE_OKMAPn n) = 10 := by unfold Reg.GSE_OKMAPn blockOf bitsOf; omega
theorem Reg.UPD_STAGE_Tn_block (n : Nat) : blockOf (Reg.UPD_STAGE_Tn n) = 19 := by unfold Reg.UPD_STAGE_Tn blockOf bitsOf; omega
theorem Reg.ACC_ENG_PARTn_block (n : Nat) : blockOf (Reg.ACC_ENG_PARTn n) = 18 := by unfold Reg.ACC_ENG_PARTn blockOf bitsOf; omega
theorem Reg.REC_RD_Wn_block (n : Nat) : blockOf (Reg.REC_RD_Wn n) = 17 := by unfold Reg.REC_RD_Wn blockOf bitsOf; omega
theorem Reg.DEV_BANDHn_block (n : Nat) : blockOf (Reg.DEV_BANDHn n) = 0 := by unfold Reg.DEV_BANDHn blockOf bitsOf; omega
theorem Reg.MON_TEMPn_block (n : Nat) : blockOf (Reg.MON_TEMPn n) = 20 := by unfold Reg.MON_TEMPn blockOf bitsOf; omega
theorem Reg.MON_TPEAKn_block (n : Nat) : blockOf (Reg.MON_TPEAKn n) = 20 := by unfold Reg.MON_TPEAKn blockOf bitsOf; omega
theorem Reg.MON_VOLTn_block (n : Nat) : blockOf (Reg.MON_VOLTn n) = 20 := by unfold Reg.MON_VOLTn blockOf bitsOf; omega
theorem Reg.MON_VEXTn_block (n : Nat) : blockOf (Reg.MON_VEXTn n) = 20 := by unfold Reg.MON_VEXTn blockOf bitsOf; omega
theorem Reg.MON_PROCn_block (n : Nat) : blockOf (Reg.MON_PROCn n) = 20 := by unfold Reg.MON_PROCn blockOf bitsOf; omega
theorem Reg.MON_PBASEn_block (n : Nat) : blockOf (Reg.MON_PBASEn n) = 20 := by unfold Reg.MON_PBASEn blockOf bitsOf; omega

end Sys2Proof.Machine
end

