-- ==== Sys2Proof/Laws/KeepsSched.lean ====
section
/-! SUPPORT. What each operation of Ops, PairOps, Access, Sched can change: one lemma for each (Laws/Keeps.lean says what Keeps means).
The mask names the parts by Part.bit. -/

namespace Sys2Proof.Machine

open Sys2Proof

theorem collectGot_keeps (s : State) a1 a2 : Keeps 0x80 s (collectGot s a1 a2) := by
  unfold collectGot
  exact (Keeps.ite (Keeps.upd_sig (fun h => h) (.inr rfl) rfl (Keeps.refl ..)) (Keeps.upd_sig (fun h => h) (.inr rfl) rfl (Keeps.refl ..)))

theorem loseEndpoint_keeps (s : State) a1 a2 : Keeps 0x80 s (loseEndpoint s a1 a2) := by
  unfold loseEndpoint
  extract_lets -merge +onlyGivenNames x1 x2
  have h3 : Keeps 0x80 s x2 := (Keeps.upd_sig (fun h => h) (.inr rfl) rfl (Keeps.refl ..))
  clear_value x2
  exact (Keeps.ite (Keeps.step (collectGot_keeps ..) rfl h3) h3)

theorem infoCount_append (a b : List Rec) : infoCount (a ++ b) = infoCount a + infoCount b := by
  simp [infoCount]

theorem infoCount_le (b : List Rec) : infoCount b ≤ b.length := List.length_filter_le _ _

theorem infoCount_dropNewestInfo (b : List Rec) : infoCount (dropNewestInfo b) ≤ infoCount b := by
  induction b with
  | nil => exact Nat.le_refl _
  | cons r rs ih =>
    have h : ∀ l, infoCount (r :: l) = infoCount [r] + infoCount l := fun l => infoCount_append [r] l
    unfold dropNewestInfo
    split
    · rw [h]; omega
    · rw [h, h rs]; omega

/-- A record enters the buffer, or is discarded, and no info record takes an entry kept for alarms. -/
theorem enterRec_keeps (s : State) r : Keeps 0x2000000001000 s (enterRec s r) := by
  unfold enterRec discardRec acceptRec
  split
  · split
    · refine Keeps.upd_rcd (fun h => ?_) rfl (Keeps.refl ..)
      have h1 := infoCount_le s.rcd.buf
      have h2 := infoCount_le [r]
      rw [infoCount_append]
      simp only [List.length_singleton] at h2
      omega
    · exact Keeps.setBit rfl (Keeps.upd_rcd id rfl (Keeps.refl ..))
  · next hs =>
    have h0 : infoCount [r] = 0 := by simp [infoCount, hs]
    split
    · refine Keeps.upd_rcd (fun h => ?_) rfl (Keeps.refl ..)
      rw [infoCount_append, h0]
      exact h
    · refine Keeps.upd_rcd (fun h => ?_) rfl (Keeps.setBit rfl (Keeps.upd_rcd id rfl
        (Keeps.upd_rcd (fun h => Nat.le_trans (infoCount_dropNewestInfo _) h) rfl (Keeps.refl ..))))
      rw [infoCount_append, h0]
      exact h

theorem record_keeps (s : State) a1 : Keeps 0x2000000001008 s (record s a1) := by
  unfold record
  exact (Keeps.step (enterRec_keeps ..) rfl (Keeps.upd_freeN rfl (Keeps.refl ..)))

theorem evtStat_block (b e : Nat) (h : b ≤ 22) : blockOf (evtStat b e) = b := by
  have hall : ∀ c : Fin 23, c.val ≠ 3 → c.val ≠ 5 → blockOf (evtStat c.val 0) = c.val := by decide
  by_cases h3 : b = 3
  · subst h3; exact Reg.LE_EVT_STAT_block e
  · by_cases h5 : b = 5
    · subst h5; exact Reg.PE_EVT_STAT_block e
    · have he : evtStat b e = evtStat b 0 := by
        unfold evtStat; split <;> first | rfl | exact absurd rfl h3 | exact absurd rfl h5
      rw [he]
      exact hall ⟨b, Nat.lt_succ_of_le h⟩ h3 h5

/-- An event sets a bit of its block's status register and is recorded; that is all. -/
theorem Keeps.raise {M : Nat} {s t : State} {r : RecReq} {e : Nat} (b : Nat) (hb : r.blk = b) (hm : M.testBit (32 + b) = true)
    (hr : (0x2000000001008 &&& M) = 0x2000000001008) (h22 : Nat.ble b 22 = true) (k : Keeps M s t) : Keeps M s (raise t r e) := by
  unfold Machine.raise
  refine Keeps.step (record_keeps ..) hr (Keeps.wrOf ?_ hm k)
  rw [evtStat_block _ _ (by rw [hb]; exact Nat.le_of_ble_eq_true h22), hb]

theorem loseSource_keeps (s : State) a1 a2 : Keeps 0x2000400001088 s (loseSource s a1 a2) := by
  unfold loseSource
  extract_lets -merge +onlyGivenNames x1
  have h2 : Keeps 0x2000400001088 s x1 := (Keeps.foldl (Keeps.refl ..) fun _ _ hu3 => (Keeps.step (loseEndpoint_keeps ..) rfl hu3))
  clear_value x1
  exact (Keeps.raise 2 rfl rfl rfl rfl (Keeps.wr rfl h2))

theorem answer_keeps (s : State) a1 : Keeps 0x2 s (answer s a1) := by
  unfold answer
  exact (Keeps.upd_resp rfl (Keeps.refl ..))

theorem refuse_keeps (s : State) a1 a2 a3 a4 : Keeps 0x200000000100a s (refuse s a1 a2 a3 a4) := by
  unfold refuse
  exact (Keeps.step (answer_keeps ..) rfl (Keeps.step (record_keeps ..) rfl (Keeps.refl ..)))

theorem startFlush_keeps (s : State) a1 : Keeps 0x1000 s (startFlush s a1) := by
  unfold startFlush
  exact (Keeps.ite (Keeps.refl ..) (Keeps.upd_rcd (by first | exact fun h => h | exact fun _ => Nat.zero_le _) rfl (Keeps.refl ..)))

theorem setPart_keeps (s : State) a1 a2 : Keeps 0x100 s (setPart s a1 a2) := by
  unfold setPart
  exact (Keeps.upd_sched rfl (Keeps.refl ..))

theorem setAc_keeps (s : State) a1 a2 : Keeps 0x400 s (setAc s a1 a2) := by
  unfold setAc
  exact (Keeps.upd_fbx rfl (Keeps.refl ..))

theorem setClass_keeps (s : State) a1 a2 : Keeps 0x100 s (setClass s a1 a2) := by
  unfold setClass
  exact (Keeps.upd_sched rfl (Keeps.refl ..))

theorem accepted_keeps (s : State) a1 a2 : Keeps 0x2000000001008 s (accepted s a1 a2) := by
  unfold accepted
  exact (Keeps.step (record_keeps ..) rfl (Keeps.refl ..))

theorem setLe_keeps (s : State) a1 a2 : Keeps 0x200 s (setLe s a1 a2) := by
  unfold setLe
  exact (Keeps.upd_le rfl (Keeps.refl ..))

theorem recordBare_keeps (s : State) a1 a2 : Keeps 0x2000000001008 s (recordBare s a1 a2) := by
  unfold recordBare
  exact (Keeps.step (record_keeps ..) rfl (Keeps.refl ..))

theorem conditionEnded_keeps (s : State) a1 a2 a3 a4 : Keeps 0x2000000001008 s (conditionEnded s a1 a2 a3 a4) := by
  unfold conditionEnded
  exact (Keeps.step (record_keeps ..) rfl (Keeps.refl ..))

theorem cleared_keeps (s : State) a1 a2 : Keeps 0x2000000001008 s (cleared s a1 a2) := by
  unfold cleared
  exact (Keeps.step (record_keeps ..) rfl (Keeps.refl ..))

theorem sourceBack_keeps (s : State) a1 : Keeps 0x2000400001088 s (sourceBack s a1) := by
  unfold sourceBack
  exact (Keeps.ite (by
      extract_lets -merge +onlyGivenNames x1 x2
      have h3 : Keeps 0x2000400001088 s x2 := (Keeps.upd_sig (fun h => h) (.inr rfl) rfl (Keeps.refl ..))
      clear_value x2
      exact (Keeps.raise 2 rfl rfl rfl rfl (Keeps.wr rfl h3))) (Keeps.refl ..))

theorem collectAna_keeps (s : State) a1 a2 a3 a4 : Keeps 0x2000400001088 s (collectAna s a1 a2 a3 a4) := by
  unfold collectAna
  extract_lets -merge +onlyGivenNames x1
  have h2 : Keeps 0x2000400001088 s x1 := (Keeps.step (sourceBack_keeps ..) rfl (Keeps.refl ..))
  clear_value x1
  exact (Keeps.ite (by
      extract_lets -merge +onlyGivenNames x3
      clear_value x3
      exact (Keeps.step (collectGot_keeps ..) rfl (Keeps.raise 2 rfl rfl rfl rfl (Keeps.bump rfl h2)))) (Keeps.step (collectGot_keeps ..) rfl h2))

theorem collectTet_keeps (s : State) a1 a2 a3 a4 : Keeps 0x2000400001088 s (collectTet s a1 a2 a3 a4) := by
  unfold collectTet
  exact (Keeps.step (collectGot_keeps ..) rfl (Keeps.step (sourceBack_keeps ..) rfl (Keeps.refl ..)))

theorem collectOwn_keeps (s : State) a1 a2 a3 : Keeps 0x2000400001088 s (collectOwn s a1 a2 a3) := by
  unfold collectOwn
  exact (Keeps.step (collectTet_keeps ..) rfl (Keeps.refl ..))

theorem collectState_keeps (s : State) a1 a2 a3 a4 : Keeps 0x2000400001088 s (collectState s a1 a2 a3 a4) := by
  unfold collectState
  exact (Keeps.step (collectTet_keeps ..) rfl (Keeps.refl ..))

theorem discardRec_keeps (s : State) a1 : Keeps 0x2000000001000 s (discardRec s a1) := by
  unfold discardRec
  exact (Keeps.setBit rfl (Keeps.upd_rcd (by first | exact fun h => h | exact fun _ => Nat.zero_le _) rfl (Keeps.refl ..)))

theorem recordRefusal_keeps (s : State) a1 a2 a3 a4 a5 : Keeps 0x6000000001808 s (recordRefusal s a1 a2 a3 a4 a5) := by
  unfold recordRefusal
  extract_lets -merge +onlyGivenNames x1 x2
  clear_value x1
  have h3 : Keeps 0x6000000001808 s x2 := (Keeps.bump rfl (Keeps.wr rfl (Keeps.refl ..)))
  clear_value x2
  extract_lets -merge +onlyGivenNames x4 x5
  clear_value x4
  have h6 : Keeps 0x6000000001808 s x5 := (Keeps.upd_acc rfl h3)
  clear_value x5
  extract_lets -merge +onlyGivenNames x7 x8
  clear_value x7 x8
  exact (Keeps.ite (Keeps.setBit rfl h6) (Keeps.raise 18 rfl rfl rfl rfl (Keeps.upd_acc rfl h6)))

theorem touch_keeps (s : State) a1 : Keeps 0x10000000 s (touch s a1) := by
  unfold touch
  exact (Keeps.upd_sess rfl (Keeps.refl ..))

theorem settingWritten_keeps (s : State) a1 a2 a3 a4 : Keeps 0x2000000001008 s (settingWritten s a1 a2 a3 a4) := by
  unfold settingWritten
  exact (Keeps.step (record_keeps ..) rfl (Keeps.refl ..))

theorem keyWrong_keeps (s : State) a1 a2 : Keeps 0x200000000100a s (keyWrong s a1 a2) := by
  unfold keyWrong
  exact (Keeps.step (answer_keeps ..) rfl (Keeps.step (record_keeps ..) rfl (Keeps.refl ..)))

theorem atTime_keeps (s : State) t : Keeps 0x40 s (atTime s t) :=
  Keeps.upd_grid id (Nat.le_add_right _ _) (.inr rfl) rfl (Keeps.refl ..)

theorem drawWord_keeps (s : State) : Keeps 0x8 s (drawWord s).2 := Keeps.upd_freeN rfl (Keeps.refl ..)

theorem drawDWord_keeps (s : State) : Keeps 0x8 s (drawDWord s).2 := Keeps.upd_freeN rfl (Keeps.refl ..)

theorem Keeps.guarded {M : Nat} {s t : State} {port addr len master : Nat} {k : AccKind} {f : State → State}
    (hm : (0x600000000180A &&& M) = 0x600000000180A) (h : Keeps M s t) (hf : ∀ u, Keeps M s u → Keeps M s (f u)) :
    Keeps M s (guarded t port addr len master k f) := by
  unfold Machine.guarded
  split
  · exact Keeps.step (m := 0x600000000180A) (Keeps.step (answer_keeps ..) rfl (Keeps.mono (recordRefusal_keeps ..) rfl)) hm h
  · exact hf _ h

theorem Keeps.written {M : Nat} {s t : State} {reg : Nat} {c : Cmd} {f : State → State}
    (hm : (0x600001000180A &&& M) = 0x600001000180A) (h : Keeps M s t) (hf : ∀ u, Keeps M s u → Keeps M s (f u)) :
    Keeps M s (written t reg c f) := by
  unfold Machine.written
  refine Keeps.guarded ?_ (Keeps.step (m := 0x600001000180A) (Keeps.mono (touch_keeps t c.session) rfl) hm h) hf
  have h1 : (0x600000000180A &&& 0x600001000180A) = 0x600000000180A := rfl
  rw [← h1, Nat.and_assoc, hm]

theorem Keeps.keyed {M : Nat} {s t : State} {reg : Nat} {c : Cmd} {f : State → State}
    (hm : (0x600001000180A &&& M) = 0x600001000180A) (h : Keeps M s t) (hf : ∀ u, Keeps M s u → Keeps M s (f u)) :
    Keeps M s (keyed t reg c f) :=
  Keeps.written hm h fun u hu => Keeps.ite (hf u hu) (Keeps.step (m := 0x600001000180A) (Keeps.mono (keyWrong_keeps ..) rfl) hm hu)

theorem Keeps.keyedBit {M : Nat} {s t : State} {reg bit : Nat} {c : Cmd} {f : State → State}
    (hm : (0x600001000180A &&& M) = 0x600001000180A) (h : Keeps M s t) (hf : ∀ u, Keeps M s u → Keeps M s (f u)) :
    Keeps M s (keyedBit t reg bit c f) := Keeps.keyed hm h fun u hu => Keeps.ite (hf u hu) hu

theorem refuseSwitch_keeps (s : State) a1 a2 : Keeps 0x200800000100a s (refuseSwitch s a1 a2) := by
  unfold refuseSwitch
  exact (Keeps.step (refuse_keeps ..) rfl (Keeps.setBit rfl (Keeps.wrField rfl (Keeps.refl ..))))

/-- An update of the pair's state; the role stays where the update keeps it. -/
theorem Keeps.setPair {M : Nat} {s t : State} {f : PairState → PairState} (hQ : M.testBit 31 = true ∨ ∀ p, (f p).role = p.role)
    (h : (0x2000 &&& M) = 0x2000) (k : Keeps M s t) : Keeps M s (setPair t f) :=
  Keeps.upd_pair (hQ.imp_right fun g => g _) h k

theorem requestRole_keeps (s : State) a1 a2 : Keeps 0x2000 s (requestRole s a1 a2) := by
  unfold requestRole
  exact (by
    split
    · exact (Keeps.refl ..)
    · exact (Keeps.setPair (.inr fun _ => rfl) rfl (Keeps.refl ..)))

theorem markLifeDrop_keeps (s : State) : Keeps 0x40000 s (markLifeDrop s) := by
  unfold markLifeDrop
  exact (Keeps.upd_lio rfl (Keeps.refl ..))

theorem leaveForRestart_keeps (s : State) a1 : Keeps 0x42000 s (leaveForRestart s a1) := by
  unfold leaveForRestart
  exact (Keeps.setPair (.inr fun _ => rfl) rfl (Keeps.step (requestRole_keeps ..) rfl (Keeps.ite (Keeps.step (markLifeDrop_keeps ..) rfl (Keeps.refl ..)) (Keeps.refl ..))))

theorem raiseA_keeps (s : State) a1 a2 a3 : Keeps 0x2008000001008 s (raiseA s a1 a2 a3) := by
  unfold raiseA
  exact (Keeps.step (record_keeps ..) rfl (Keeps.setBit rfl (Keeps.refl ..)))

theorem reLearn_keeps (s : State) a1 : Keeps 0x2000 s (reLearn s a1) := by
  unfold reLearn
  exact (Keeps.setPair (.inr fun _ => rfl) rfl (Keeps.step (requestRole_keeps ..) rfl (Keeps.refl ..)))

theorem dropSafetyForces_keeps (s : State) : Keeps 0x22000000011008 s (dropSafetyForces s) := by
  unfold dropSafetyForces
  exact (Keeps.foldl (Keeps.refl ..) fun _ _ hu1 => (by
      split
      · exact (Keeps.ite (by
            extract_lets -merge +onlyGivenNames x2 x3
            clear_value x2
            have h4 : Keeps 0x22000000011008 s x3 := (Keeps.upd_frc rfl hu1)
            clear_value x3
            exact (Keeps.raise 21 rfl rfl rfl rfl (Keeps.wr rfl h4))) hu1)
      · exact hu1))

theorem autoDisarm_keeps (s : State) a1 : Keeps 0x42000000009008 s (autoDisarm s a1) := by
  unfold autoDisarm
  exact (Keeps.ite (Keeps.raise 22 rfl rfl rfl rfl (Keeps.upd_olc rfl (Keeps.refl ..))) (Keeps.refl ..))

theorem closeDebug_keeps (s : State) a1 : Keeps 0x2000800001208 s (closeDebug s a1) := by
  unfold closeDebug
  extract_lets -merge +onlyGivenNames x1 x2
  clear_value x1
  have h3 : Keeps 0x2000800001208 s x2 := (Keeps.step (setLe_keeps ..) rfl (Keeps.refl ..))
  clear_value x2
  exact (Keeps.step (recordBare_keeps ..) rfl (Keeps.wrOf (Reg.LE_DBG_CTRL_block ..) rfl h3))

theorem closeDebugAll_keeps (s : State) : Keeps 0x2000800001208 s (closeDebugAll s) := by
  unfold closeDebugAll
  exact (Keeps.foldl (Keeps.refl ..) fun _ _ hu1 => (Keeps.ite (Keeps.step (closeDebug_keeps ..) rfl hu1) hu1))

theorem enterStage_keeps (s : State) a1 : Keeps 0x8000000000000 s (enterStage s a1) := by
  unfold enterStage
  extract_lets -merge +onlyGivenNames x1
  have h2 : Keeps 0x8000000000000 s x1 := (Keeps.wrField rfl (Keeps.refl ..))
  clear_value x1
  exact (Keeps.ite (Keeps.wrFieldOf (Reg.UPD_STAGE_Tn_block ..) rfl h2) h2)

theorem reachRun_keeps (s : State) : Keeps 0xa000000021008 s (reachRun s) := by
  unfold reachRun
  exact (Keeps.ite (Keeps.raise 19 rfl rfl rfl rfl (by
      extract_lets -merge +onlyGivenNames x1
      have h2 : Keeps 0xa000000021008 s x1 := (Keeps.step (enterStage_keeps ..) rfl (Keeps.refl ..))
      clear_value x1
      exact (Keeps.upd_upd rfl h2))) (Keeps.refl ..))

theorem setLife_keeps (s : State) a1 : Keeps 0x2400000041008 s (setLife s a1) := by
  unfold setLife
  exact (Keeps.ite (Keeps.refl ..) (Keeps.raise 14 rfl rfl rfl rfl (Keeps.wrField rfl (Keeps.upd_lio rfl (Keeps.refl ..)))))

theorem lifeOnOffline_keeps (s : State) : Keeps 0x2400000041008 s (lifeOnOffline s) := by
  unfold lifeOnOffline
  exact (Keeps.ite (Keeps.step (setLife_keeps ..) rfl (Keeps.upd_lio rfl (Keeps.refl ..))) (Keeps.refl ..))

theorem takeRoleAt_keeps (s : State) a1 a2 a3 : Keeps 0x4a40888006b208 s (takeRoleAt s a1 a2 a3) := by
  unfold takeRoleAt
  extract_lets -merge +onlyGivenNames x1
  clear_value x1
  exact (Keeps.ite (Keeps.refl ..) (by
      extract_lets -merge +onlyGivenNames x2
      have h3 : Keeps 0x4a40888006b208 s x2 := (Keeps.setPair (.inl rfl) rfl (Keeps.refl ..))
      clear_value x2
      extract_lets -merge +onlyGivenNames x4
      have h5 : Keeps 0x4a40888006b208 s x4 := (Keeps.raise 7 rfl rfl rfl rfl h3)
      clear_value x4
      extract_lets -merge +onlyGivenNames x6
      have h7 : Keeps 0x4a40888006b208 s x6 := (Keeps.ite (Keeps.step (autoDisarm_keeps ..) rfl h5) h5)
      clear_value x6
      extract_lets -merge +onlyGivenNames x8
      have h9 : Keeps 0x4a40888006b208 s x8 := (Keeps.ite (Keeps.step (closeDebugAll_keeps ..) rfl h7) h7)
      clear_value x8
      exact (Keeps.ite (Keeps.step (reachRun_keeps ..) rfl h9) (Keeps.ite (Keeps.step (lifeOnOffline_keeps ..) rfl h9) h9))))

theorem takeRole_keeps (s : State) a1 a2 : Keeps 0x4a40888006b208 s (takeRole s a1 a2) := by
  unfold takeRole
  exact (Keeps.step (takeRoleAt_keeps ..) rfl (Keeps.refl ..))

theorem send_keeps (s : State) a1 a2 a3 : Keeps 0x4 s (send s a1 a2 a3) := by
  unfold send
  exact (Keeps.upd_sent rfl (Keeps.refl ..))

theorem tokel_keeps (s : State) a1 a2 : Keeps 0x4 s (tokel s a1 a2) := by
  unfold tokel
  exact (Keeps.step (send_keeps ..) rfl (Keeps.refl ..))

theorem startSwitch_keeps (s : State) a1 a2 : Keeps 0x2004 s (startSwitch s a1 a2) := by
  unfold startSwitch
  extract_lets -merge +onlyGivenNames x1
  clear_value x1
  exact (Keeps.step (tokel_keeps ..) rfl (Keeps.setPair (.inr fun _ => rfl) rfl (Keeps.refl ..)))

theorem askSwitch_keeps (s : State) a1 a2 a3 : Keeps 0x200800000300e s (askSwitch s a1 a2 a3) := by
  unfold askSwitch
  extract_lets -merge +onlyGivenNames x1
  clear_value x1
  exact (Keeps.ite (Keeps.step (refuseSwitch_keeps ..) rfl (Keeps.refl ..)) (Keeps.step (startSwitch_keeps ..) rfl (Keeps.refl ..)))

theorem requestSwitchover_keeps (s : State) a1 : Keeps 0x200800000300e s (requestSwitchover s a1) := by
  unfold requestSwitchover
  exact (by
    split
    · exact (Keeps.step (recordBare_keeps ..) rfl (Keeps.refl ..))
    · exact (Keeps.step (askSwitch_keeps ..) rfl (Keeps.step (recordBare_keeps ..) rfl (Keeps.refl ..)))
    · exact (Keeps.refl ..))

theorem ethSend_keeps (s : State) a1 a2 a3 : Keeps 0x4000004 s (ethSend s a1 a2 a3) := by
  unfold ethSend
  exact (Keeps.step (send_keeps ..) rfl (Keeps.upd_stn rfl (Keeps.refl ..)))

theorem partitionSafeState_keeps (s : State) a1 : Keeps 0x2010000005008 s (partitionSafeState s a1) := by
  unfold partitionSafeState
  extract_lets -merge +onlyGivenNames x1
  clear_value x1
  exact (Keeps.ite (Keeps.refl ..) (by
      extract_lets -merge +onlyGivenNames x2 x3
      clear_value x2
      have h4 : Keeps 0x2010000005008 s x3 := (Keeps.upd_saf rfl (Keeps.refl ..))
      clear_value x3
      extract_lets -merge +onlyGivenNames x5
      have h6 : Keeps 0x2010000005008 s x5 := (Keeps.foldl h4 fun _ _ hu7 => (Keeps.setBitOf (Reg.SAF_PSAFEn_block ..) rfl hu7))
      clear_value x5
      exact (Keeps.step (startFlush_keeps ..) rfl (Keeps.raise 8 rfl rfl rfl rfl h6))))

theorem moduleSafe_keeps (s : State) a1 a2 : Keeps 0x2410000047008 s (moduleSafe s a1 a2) := by
  unfold moduleSafe
  exact (Keeps.ite (Keeps.refl ..) (by
      extract_lets -merge +onlyGivenNames x1
      have h2 : Keeps 0x2410000047008 s x1 := (Keeps.upd_freeN rfl (Keeps.refl ..))
      clear_value x1
      extract_lets -merge +onlyGivenNames x3 x4 x5
      clear_value x3 x4
      have h6 : Keeps 0x2410000047008 s x5 := (Keeps.upd_saf rfl h2)
      clear_value x5
      extract_lets -merge +onlyGivenNames x7
      have h8 : Keeps 0x2410000047008 s x7 := (Keeps.wr rfl (Keeps.wr rfl h6))
      clear_value x7
      extract_lets -merge +onlyGivenNames x9
      have h10 : Keeps 0x2410000047008 s x9 := (Keeps.step (startFlush_keeps ..) rfl (Keeps.raise 8 rfl rfl rfl rfl h8))
      clear_value x9
      exact (Keeps.setPair (.inr fun _ => rfl) rfl (Keeps.step (requestRole_keeps ..) rfl (Keeps.step (setLife_keeps ..) rfl h10)))))

theorem stopStart_keeps (s : State) a1 : Keeps 0xa000000001008 s (stopStart s a1) := by
  unfold stopStart
  exact (Keeps.raise 19 rfl rfl rfl rfl (Keeps.wrField rfl (Keeps.refl ..)))

theorem removalTick_keeps (s : State) : Keeps 0x801000 s (removalTick s) := by
  unfold removalTick
  extract_lets -merge +onlyGivenNames x1
  clear_value x1
  exact (Keeps.ite (Keeps.step (startFlush_keeps ..) rfl (Keeps.upd_slot rfl (Keeps.refl ..))) (Keeps.refl ..))

theorem pendSins_keeps (s : State) a1 : Keeps 0x4000 s (pendSins s a1) := by
  unfold pendSins
  exact (Keeps.foldl (Keeps.refl ..) fun _ _ hu1 => (Keeps.upd_saf rfl hu1))

theorem takeBarrier_keeps (s : State) a1 a2 : Keeps 0x6000000001808 s (takeBarrier s a1 a2) := by
  unfold takeBarrier
  extract_lets -merge +onlyGivenNames x1 x2 x3
  clear_value x1 x2 x3
  exact (Keeps.raise 18 rfl rfl rfl rfl (Keeps.upd_acc rfl (Keeps.refl ..)))

theorem execAccBarrier_keeps a0 a1 (s : State) : KeepsOut 0x600001000180a s (execAccBarrier a0 a1 s) := by
  unfold execAccBarrier
  exact (KeepsOut.done (Keeps.keyed rfl (Keeps.refl ..) (fun _ hu1 => (by
      extract_lets -merge +onlyGivenNames x2 x3
      clear_value x2 x3
      exact (Keeps.ite hu1 (Keeps.ite (Keeps.upd_acc rfl hu1) (by
            extract_lets -merge +onlyGivenNames x4
            have h5 : Keeps 0x600001000180a s x4 := (Keeps.step (takeBarrier_keeps ..) rfl hu1)
            clear_value x4
            exact (Keeps.upd_acc rfl h5))))))))

theorem execAccClrCnt_keeps a0 (s : State) : KeepsOut 0x600001000180a s (execAccClrCnt a0 s) := by
  unfold execAccClrCnt
  exact (KeepsOut.done (Keeps.keyedBit rfl (Keeps.refl ..) (fun _ hu1 => (Keeps.step (cleared_keeps ..) rfl (Keeps.wr rfl hu1)))))

theorem execAccRegionWrite_keeps a0 a1 (s : State) : KeepsOut 0x641001004780a s (execAccRegionWrite a0 a1 s) := by
  unfold execAccRegionWrite
  extract_lets -merge +onlyGivenNames x1 x2
  clear_value x1 x2
  exact (KeepsOut.done (Keeps.written rfl (Keeps.refl ..) (fun _ hu3 => (Keeps.ite (Keeps.upd_acc rfl hu3) (Keeps.ite (Keeps.ite (by
            extract_lets -merge +onlyGivenNames x4
            have h5 : Keeps 0x641001004780a s x4 := (Keeps.step (recordRefusal_keeps ..) rfl hu3)
            clear_value x4
            exact (Keeps.step (moduleSafe_keeps ..) rfl (Keeps.step (answer_keeps ..) rfl (Keeps.raise 18 rfl rfl rfl rfl h5)))) (Keeps.upd_acc rfl hu3)) hu3)))))

theorem execAccViolAddrLo_keeps (s : State) : KeepsOut 0x4000000000002 s (execAccViolAddrLo s) := by
  unfold execAccViolAddrLo
  extract_lets -merge +onlyGivenNames x1
  clear_value x1
  exact (KeepsOut.done (Keeps.step (answer_keeps ..) rfl (Keeps.wr rfl (Keeps.wr rfl (Keeps.refl ..)))))

theorem execBarrierDrainEnd_keeps a0 (s : State) : KeepsOut 0x6000000001808 s (execBarrierDrainEnd a0 s) := by
  unfold execBarrierDrainEnd
  exact (KeepsOut.ite (KeepsOut.done (Keeps.refl ..)) (by
      split
      · exact (KeepsOut.done (Keeps.upd_acc rfl (Keeps.refl ..)))
      · exact (by
          extract_lets -merge +onlyGivenNames x1 x2
          clear_value x1
          have h3 : Keeps 0x6000000001808 s x2 := (Keeps.step (takeBarrier_keeps ..) rfl (Keeps.upd_acc rfl (Keeps.refl ..)))
          clear_value x2
          exact (KeepsOut.done (Keeps.upd_acc rfl h3)))))

theorem reactAtCommit_keeps (s : State) a1 : Keeps 0x100 s (reactAtCommit s a1) := by
  unfold reactAtCommit
  exact (Keeps.step (setPart_keeps ..) rfl (Keeps.refl ..))

theorem stopAc_keeps (s : State) a1 a2 : Keeps 0x2001000001408 s (stopAc s a1 a2) := by
  unfold stopAc
  extract_lets -merge +onlyGivenNames x1
  clear_value x1
  exact (by
    split
    · exact (Keeps.refl ..)
    · exact (by
        extract_lets -merge +onlyGivenNames x2 x3 x4
        clear_value x2 x3
        have h5 : Keeps 0x2001000001408 s x4 := (Keeps.step (setAc_keeps ..) rfl (Keeps.refl ..))
        clear_value x4
        extract_lets -merge +onlyGivenNames x6 x7
        clear_value x6
        have h8 : Keeps 0x2001000001408 s x7 := (Keeps.upd_fbx rfl h5)
        clear_value x7
        extract_lets -merge +onlyGivenNames x9
        have h10 : Keeps 0x2001000001408 s x9 := (Keeps.wrFieldOf (Reg.FBX_JRNL_STATn_block ..) rfl h8)
        clear_value x9
        exact (Keeps.raise 4 rfl rfl rfl rfl h10)))

theorem spend_keeps (s : State) a1 a2 : Keeps 0x100 s (spend s a1 a2) := by
  unfold spend
  exact (Keeps.step (setPart_keeps ..) rfl (Keeps.refl ..))

theorem chargeClass_keeps (s : State) a1 a2 a3 : Keeps 0x100 s (chargeClass s a1 a2 a3) := by
  unfold chargeClass
  extract_lets -merge +onlyGivenNames x1 x2 x3 x4 x5
  clear_value x1 x2 x3 x4
  have h6 : Keeps 0x100 s x5 := (Keeps.step (setClass_keeps ..) rfl (Keeps.refl ..))
  clear_value x5
  extract_lets -merge +onlyGivenNames x7 x8
  clear_value x7
  have h9 : Keeps 0x100 s x8 := (Keeps.upd_sched rfl h6)
  clear_value x8
  exact (Keeps.step (spend_keeps ..) rfl h9)

theorem acFault_keeps (s : State) a1 a2 a3 a4 : Keeps 0x2001000001508 s (acFault s a1 a2 a3 a4) := by
  unfold acFault
  extract_lets -merge +onlyGivenNames x1
  clear_value x1
  exact (by
    split
    · exact (Keeps.refl ..)
    · exact (by
        extract_lets -merge +onlyGivenNames x2 x3 x4
        clear_value x2 x3
        have h5 : Keeps 0x2001000001508 s x4 := (Keeps.wr rfl (Keeps.bump rfl (Keeps.refl ..)))
        clear_value x4
        extract_lets -merge +onlyGivenNames x6
        have h7 : Keeps 0x2001000001508 s x6 := (Keeps.wr rfl h5)
        clear_value x6
        extract_lets -merge +onlyGivenNames x8 x9 x10
        clear_value x8 x9
        have h11 : Keeps 0x2001000001508 s x10 := (Keeps.upd_fbx rfl h7)
        clear_value x10
        extract_lets -merge +onlyGivenNames x12
        have h13 : Keeps 0x2001000001508 s x12 := (Keeps.setBit rfl h11)
        clear_value x12
        extract_lets -merge +onlyGivenNames x14
        have h15 : Keeps 0x2001000001508 s x14 := (Keeps.ite h13 (Keeps.step (record_keeps ..) rfl h13))
        clear_value x14
        extract_lets -merge +onlyGivenNames x16
        have h17 : Keeps 0x2001000001508 s x16 := (Keeps.step (startFlush_keeps ..) rfl (Keeps.step (reactAtCommit_keeps ..) rfl h15))
        clear_value x16
        exact (Keeps.step (stopAc_keeps ..) rfl (Keeps.step (chargeClass_keeps ..) rfl h17))))

theorem engineFailed_keeps (s : State) a1 : Keeps 0x201800004730e s (engineFailed s a1) := by
  unfold engineFailed
  extract_lets -merge +onlyGivenNames x1
  clear_value x1
  exact (Keeps.ite (Keeps.refl ..) (by
      extract_lets -merge +onlyGivenNames x2
      have h3 : Keeps 0x201800004730e s x2 := (Keeps.step (setLe_keeps ..) rfl (Keeps.refl ..))
      clear_value x2
      extract_lets -merge +onlyGivenNames x4 x5
      clear_value x4
      have h6 : Keeps 0x201800004730e s x5 := (Keeps.foldl h3 fun _ _ hu7 => (Keeps.step (reactAtCommit_keeps ..) rfl hu7))
      clear_value x5
      extract_lets -merge +onlyGivenNames x8
      have h9 : Keeps 0x201800004730e s x8 := (Keeps.step (recordBare_keeps ..) rfl h6)
      clear_value x8
      extract_lets -merge +onlyGivenNames x10
      have h11 : Keeps 0x201800004730e s x10 := (Keeps.step (partitionSafeState_keeps ..) rfl (Keeps.step (startFlush_keeps ..) rfl h9))
      clear_value x10
      exact (by
        split
        · exact (Keeps.step (requestSwitchover_keeps ..) rfl h11)
        · exact (Keeps.step (requestSwitchover_keeps ..) rfl h11)
        · exact (Keeps.step (leaveForRestart_keeps ..) rfl h11)
        · exact (Keeps.step (leaveForRestart_keeps ..) rfl h11)
        · exact (Keeps.step (leaveForRestart_keeps ..) rfl h11)
        · exact h11)))

theorem windowEvent_keeps (s : State) a1 : Keeps 0x201880004730e s (windowEvent s a1) := by
  unfold windowEvent
  extract_lets -merge +onlyGivenNames x1 x2 x3 x4
  clear_value x1 x2 x3
  have h5 : Keeps 0x201880004730e s x4 := (Keeps.step (setLe_keeps ..) rfl (Keeps.refl ..))
  clear_value x4
  extract_lets -merge +onlyGivenNames x6
  have h7 : Keeps 0x201880004730e s x6 := (Keeps.wrFieldOf (Reg.LE_CMP_STAT_block ..) rfl h5)
  clear_value x6
  exact (Keeps.ite h7 (Keeps.step (engineFailed_keeps ..) rfl h7))

theorem overrun_keeps (s : State) a1 a2 : Keeps 0x2000200001108 s (overrun s a1 a2) := by
  unfold overrun
  extract_lets -merge +onlyGivenNames x1 x2 x3 x4
  clear_value x1 x2 x3
  have h5 : Keeps 0x2000200001108 s x4 := (Keeps.step (setClass_keeps ..) rfl (Keeps.refl ..))
  clear_value x4
  extract_lets -merge +onlyGivenNames x6
  have h7 : Keeps 0x2000200001108 s x6 := (Keeps.wr rfl (Keeps.bump rfl h5))
  clear_value x6
  extract_lets -merge +onlyGivenNames x8 x9 x10
  clear_value x8 x9
  have h11 : Keeps 0x2000200001108 s x10 := (Keeps.step (setPart_keeps ..) rfl h7)
  clear_value x10
  exact (Keeps.raise 1 rfl rfl rfl rfl h11)

theorem startNext_keeps (s : State) a1 a2 a3 : Keeps 0x300 s (startNext s a1 a2 a3) := by
  unfold startNext
  extract_lets -merge +onlyGivenNames x1 x2
  clear_value x1 x2
  exact (by
    split
    · exact (Keeps.step (setLe_keeps ..) rfl (Keeps.refl ..))
    · exact (by
        extract_lets -merge +onlyGivenNames x3 x4 x5 x6
        clear_value x3 x4 x5
        have h7 : Keeps 0x300 s x6 := (Keeps.step (setLe_keeps ..) rfl (Keeps.refl ..))
        clear_value x6
        exact (Keeps.step (setClass_keeps ..) rfl h7)))

theorem stopLe_keeps (s : State) a1 a2 a3 : Keeps 0x300 s (stopLe s a1 a2 a3) := by
  unfold stopLe
  exact (Keeps.step (startNext_keeps ..) rfl (Keeps.refl ..))

theorem unqueue_keeps (s : State) a1 : Keeps 0x600 s (unqueue s a1) := by
  unfold unqueue
  extract_lets -merge +onlyGivenNames x1
  clear_value x1
  exact (Keeps.ite (by
      extract_lets -merge +onlyGivenNames x2 x3
      clear_value x2 x3
      exact (Keeps.step (setAc_keeps ..) rfl (Keeps.refl ..))) (by
      extract_lets -merge +onlyGivenNames x4 x5
      clear_value x4 x5
      exact (Keeps.step (setLe_keeps ..) rfl (Keeps.refl ..))))

theorem leFault_keeps (s : State) a1 a2 a3 a4 : Keeps 0x2000800001308 s (leFault s a1 a2 a3 a4) := by
  unfold leFault
  extract_lets -merge +onlyGivenNames x1 x2
  clear_value x1 x2
  exact (by
    split
    · exact (by
        extract_lets -merge +onlyGivenNames x3 x4 x5
        clear_value x3 x4
        have h6 : Keeps 0x2000800001308 s x5 := (Keeps.wrOf (Reg.LE_FAULT_LAST_block ..) rfl (Keeps.bumpOf (Reg.LE_FAULT_CNT_block ..) rfl (Keeps.refl ..)))
        clear_value x5
        extract_lets -merge +onlyGivenNames x7 x8 x9
        clear_value x7 x8
        have h10 : Keeps 0x2000800001308 s x9 := (Keeps.step (setLe_keeps ..) rfl h6)
        clear_value x9
        extract_lets -merge +onlyGivenNames x11
        have h12 : Keeps 0x2000800001308 s x11 := (Keeps.setBitOf (Reg.LE_EVT_STAT_block ..) rfl h10)
        clear_value x11
        extract_lets -merge +onlyGivenNames x13
        have h14 : Keeps 0x2000800001308 s x13 := (Keeps.ite h12 (Keeps.step (record_keeps ..) rfl h12))
        clear_value x13
        extract_lets -merge +onlyGivenNames x15
        have h16 : Keeps 0x2000800001308 s x15 := (Keeps.step (startFlush_keeps ..) rfl (Keeps.step (reactAtCommit_keeps ..) rfl h14))
        clear_value x15
        exact (Keeps.step (stopLe_keeps ..) rfl (Keeps.step (chargeClass_keeps ..) rfl h16)))
    · exact (Keeps.refl ..))

theorem skipRest_keeps (s : State) a1 : Keeps 0x2000000001308 s (skipRest s a1) := by
  unfold skipRest
  extract_lets -merge +onlyGivenNames x1 x2 x3 x4 x5
  clear_value x1 x2 x3 x4
  have h6 : Keeps 0x2000000001308 s x5 := (Keeps.step (setLe_keeps ..) rfl (Keeps.refl ..))
  clear_value x5
  exact (Keeps.foldl h6 fun _ _ hu7 => (Keeps.step (recordBare_keeps ..) rfl (Keeps.step (setClass_keeps ..) rfl hu7)))

theorem stopOn_keeps (s : State) a1 a2 a3 : Keeps 0x2001000001708 s (stopOn s a1 a2 a3) := by
  unfold stopOn
  exact (Keeps.ite (Keeps.step (stopAc_keeps ..) rfl (Keeps.refl ..)) (Keeps.step (stopLe_keeps ..) rfl (Keeps.refl ..)))

end Sys2Proof.Machine
end

