-- ==== Sys2Proof/Laws/KeepsRestart.lean ====
section
/-! SUPPORT. What each operation of Terminal, LePass, AppCore, Restart can change: one lemma for each (Laws/Keeps.lean says what Keeps means).
The mask names the parts by Part.bit. -/

namespace Sys2Proof.Machine

open Sys2Proof

theorem setLio_keeps (s : State) a1 : Keeps 0x40000 s (setLio s a1) := by
  unfold setLio
  exact (Keeps.upd_lio rfl (Keeps.refl ..))

theorem setDi_keeps (s : State) a1 a2 : Keeps 0x40000 s (setDi s a1 a2) := by
  unfold setDi
  exact (Keeps.step (setLio_keeps ..) rfl (Keeps.refl ..))

theorem diStart_keeps (s : State) a1 : Keeps 0x40000 s (diStart s a1) := by
  unfold diStart
  extract_lets -merge +onlyGivenNames x1
  clear_value x1
  exact (Keeps.step (setDi_keeps ..) rfl (Keeps.refl ..))

theorem setAx_keeps (s : State) a1 a2 : Keeps 0x40000 s (setAx s a1 a2) := by
  unfold setAx
  exact (Keeps.step (setLio_keeps ..) rfl (Keeps.refl ..))

theorem setDo_keeps (s : State) a1 a2 : Keeps 0x40000 s (setDo s a1 a2) := by
  unfold setDo
  exact (Keeps.step (setLio_keeps ..) rfl (Keeps.refl ..))

theorem latchDo_keeps (s : State) a1 a2 : Keeps 0x40000 s (latchDo s a1 a2) := by
  unfold latchDo
  exact (Keeps.step (setDo_keeps ..) rfl (Keeps.refl ..))

theorem setGrp_keeps (s : State) a1 a2 : Keeps 0x40000 s (setGrp s a1 a2) := by
  unfold setGrp
  exact (Keeps.step (setLio_keeps ..) rfl (Keeps.refl ..))

theorem badWord_keeps (s : State) a1 : Keeps 0x2000800001008 s (badWord s a1) := by
  unfold badWord
  exact (Keeps.wrFieldOf (Reg.LE_CMP_STAT_block ..) rfl (Keeps.wrFieldOf (Reg.LE_CMP_STAT_block ..) rfl (Keeps.raise 3 rfl rfl rfl rfl (Keeps.refl ..))))

theorem divergence_keeps (s : State) a1 a2 : Keeps 0x2000800001008 s (divergence s a1 a2) := by
  unfold divergence
  exact (by
    split
    · exact (Keeps.refl ..)
    · exact (Keeps.addFieldOf (Reg.LE_DIVG_CNT_block ..) rfl (Keeps.refl ..))
    · exact (Keeps.raise 3 rfl rfl rfl rfl (Keeps.addFieldOf (Reg.LE_DIVG_CNT_block ..) rfl (Keeps.addFieldOf (Reg.LE_DIVG_CNT_block ..) rfl (Keeps.refl ..)))))

theorem eccCorrected_keeps (s : State) a1 a2 : Keeps 0x2000800001008 s (eccCorrected s a1 a2) := by
  unfold eccCorrected
  extract_lets -merge +onlyGivenNames x1
  have h2 : Keeps 0x2000800001008 s x1 := (Keeps.ite (Keeps.addFieldOf (Reg.LE_ECC_CNT_block ..) rfl (Keeps.refl ..)) (Keeps.addFieldOf (Reg.LE_ECC_CNT_block ..) rfl (Keeps.refl ..)))
  clear_value x1
  exact (Keeps.raise 3 rfl rfl rfl rfl h2)

theorem haltEngine_keeps (s : State) a1 a2 : Keeps 0x800000200 s (haltEngine s a1 a2) := by
  unfold haltEngine
  extract_lets -merge +onlyGivenNames x1 x2
  clear_value x1
  have h3 : Keeps 0x800000200 s x2 := (Keeps.step (setLe_keeps ..) rfl (Keeps.refl ..))
  clear_value x2
  exact (Keeps.wrFieldOf (Reg.LE_DBG_CTRL_block ..) rfl (Keeps.wrFieldOf (Reg.LE_DBG_CTRL_block ..) rfl h3))

theorem memFault_keeps (s : State) a1 a2 a3 : Keeps 0x201880004730e s (memFault s a1 a2 a3) := by
  unfold memFault
  exact (Keeps.step (windowEvent_keeps ..) rfl (Keeps.step (leFault_keeps ..) rfl (Keeps.step (badWord_keeps ..) rfl (Keeps.refl ..))))

theorem mismatch_keeps (s : State) a1 a2 a3 : Keeps 0x201880004730e s (mismatch s a1 a2 a3) := by
  unfold mismatch
  extract_lets -merge +onlyGivenNames x1 x2
  clear_value x1 x2
  exact (by
    split
    · exact (by
        extract_lets -merge +onlyGivenNames x3
        have h4 : Keeps 0x201880004730e s x3 := (Keeps.addFieldOf (Reg.LE_MISM_CNT_block ..) rfl (Keeps.refl ..))
        clear_value x3
        extract_lets -merge +onlyGivenNames x5
        have h6 : Keeps 0x201880004730e s x5 := (Keeps.wrFieldOf (Reg.LE_CMP_STAT_block ..) rfl (Keeps.wrFieldOf (Reg.LE_CMP_STAT_block ..) rfl h4))
        clear_value x5
        extract_lets -merge +onlyGivenNames x7
        have h8 : Keeps 0x201880004730e s x7 := (Keeps.raise 3 rfl rfl rfl rfl h6)
        clear_value x7
        extract_lets -merge +onlyGivenNames x9
        have h10 : Keeps 0x201880004730e s x9 := (Keeps.step (skipRest_keeps ..) rfl (Keeps.step (chargeClass_keeps ..) rfl h8))
        clear_value x9
        exact (Keeps.step (windowEvent_keeps ..) rfl (Keeps.step (stopLe_keeps ..) rfl h10)))
    · exact (Keeps.refl ..))

theorem release_keeps (s : State) a1 a2 a3 a4 a5 a6 : Keeps 0x800000208 s (release s a1 a2 a3 a4 a5 a6) := by
  unfold release
  extract_lets -merge +onlyGivenNames x1 x2 x3 x4
  clear_value x1 x2 x3
  have h5 : Keeps 0x800000208 s x4 := (Keeps.step (setLe_keeps ..) rfl (Keeps.refl ..))
  clear_value x4
  extract_lets -merge +onlyGivenNames x6
  have h7 : Keeps 0x800000208 s x6 := (Keeps.peakFieldOf (Reg.LE_PEAKS_block ..) rfl (Keeps.peakFieldOf (Reg.LE_PEAKS_block ..) rfl h5))
  clear_value x6
  exact (Keeps.ite (Keeps.peakFieldOf (Reg.LE_CMP_STAT_block ..) rfl (Keeps.upd_freeN rfl h7)) h7)

theorem programEnd_keeps (s : State) a1 a2 : Keeps 0x200 s (programEnd s a1 a2) := by
  unfold programEnd
  extract_lets -merge +onlyGivenNames x1 x2
  clear_value x1 x2
  exact (by
    split
    · exact (Keeps.refl ..)
    · exact (by
        extract_lets -merge +onlyGivenNames x3 x4 x5
        clear_value x3 x4 x5
        exact (Keeps.step (setLe_keeps ..) rfl (Keeps.refl ..))))

theorem runInsn_keeps (s : State) a1 a2 a3 a4 : Keeps 0x2018c0004730e s (runInsn s a1 a2 a3 a4) := by
  unfold runInsn
  extract_lets -merge +onlyGivenNames x1 x2 x3
  clear_value x1 x2 x3
  exact (by
    split
    · exact (Keeps.refl ..)
    · exact (by
        extract_lets -merge +onlyGivenNames x4 x5 x6 x7 x8
        clear_value x4 x5 x6 x7
        have h9 : Keeps 0x2018c0004730e s x8 := (Keeps.step (divergence_keeps ..) rfl (Keeps.refl ..))
        clear_value x8
        extract_lets -merge +onlyGivenNames x10
        clear_value x10
        exact (by
          split
          · exact (Keeps.step (mismatch_keeps ..) rfl h9)
          · exact (by
              split
              · exact (by
                  extract_lets -merge +onlyGivenNames x11 x12 x13
                  clear_value x11 x12
                  have h14 : Keeps 0x2018c0004730e s x13 := (Keeps.ite (Keeps.raise 2 rfl rfl rfl rfl (Keeps.wr rfl (Keeps.bump rfl h9))) h9)
                  clear_value x13
                  exact (Keeps.step (leFault_keeps ..) rfl h14))
              · exact (by
                  extract_lets -merge +onlyGivenNames x15
                  have h16 : Keeps 0x2018c0004730e s x15 := (Keeps.step (release_keeps ..) rfl h9)
                  clear_value x15
                  exact (Keeps.ite (Keeps.step (programEnd_keeps ..) rfl h16) (Keeps.ite (Keeps.step (leFault_keeps ..) rfl h16) h16)))))))

theorem issueWord_keeps (s : State) a1 a2 a3 a4 : Keeps 0x2018c0004730e s (issueWord s a1 a2 a3 a4) := by
  unfold issueWord
  extract_lets -merge +onlyGivenNames x1 x2 x3 x4
  clear_value x1 x2 x3
  have h5 : Keeps 0x2018c0004730e s x4 := (Keeps.wrOf (Reg.LE_PC_block ..) rfl (Keeps.refl ..))
  clear_value x4
  extract_lets -merge +onlyGivenNames x6 x7
  clear_value x6 x7
  exact (Keeps.ite (Keeps.step (memFault_keeps ..) rfl h5) (by
      extract_lets -merge +onlyGivenNames x8
      have h9 : Keeps 0x2018c0004730e s x8 := (Keeps.ite (Keeps.step (eccCorrected_keeps ..) rfl h5) h5)
      clear_value x8
      exact (by
        split
        · exact (Keeps.ite (Keeps.step (leFault_keeps ..) rfl h9) h5)
        · exact (Keeps.ite h5 (Keeps.ite (Keeps.step (memFault_keeps ..) rfl h9) (by
                extract_lets -merge +onlyGivenNames x10
                have h11 : Keeps 0x2018c0004730e s x10 := (Keeps.ite (Keeps.step (eccCorrected_keeps ..) rfl h9) h9)
                clear_value x10
                exact (Keeps.step (runInsn_keeps ..) rfl h11)))))))

theorem issue_keeps (s : State) a1 a2 : Keeps 0x2018c0004734e s (issue s a1 a2) := by
  unfold issue
  extract_lets -merge +onlyGivenNames x1
  have h2 : Keeps 0x2018c0004734e s x1 := (Keeps.step (atTime_keeps ..) rfl (Keeps.refl ..))
  clear_value x1
  extract_lets -merge +onlyGivenNames x3
  clear_value x3
  exact (Keeps.ite (Keeps.refl ..) (by
      extract_lets -merge +onlyGivenNames x4
      clear_value x4
      exact (Keeps.ite (Keeps.step (haltEngine_keeps ..) rfl h2) (by
          extract_lets -merge +onlyGivenNames x5 x6
          clear_value x5
          have h7 : Keeps 0x2018c0004734e s x6 := (Keeps.step (setLe_keeps ..) rfl h2)
          clear_value x6
          exact (Keeps.step (issueWord_keeps ..) rfl h7)))))

theorem showCopies_keeps (s : State) : Keeps 0x1000000000 s (showCopies s) := by
  unfold showCopies
  exact (Keeps.wrField rfl (Keeps.wrField rfl (Keeps.refl ..)))

theorem tgDiscard_keeps (s : State) a1 a2 : Keeps 0x2001000001408 s (tgDiscard s a1 a2) := by
  unfold tgDiscard
  extract_lets -merge +onlyGivenNames x1 x2 x3
  clear_value x1 x2
  have h4 : Keeps 0x2001000001408 s x3 := (Keeps.step (setAc_keeps ..) rfl (Keeps.refl ..))
  clear_value x3
  exact (Keeps.raise 4 rfl rfl rfl rfl (Keeps.addFieldOf (Reg.FBX_FIFO_LOSTn_block ..) rfl h4))

theorem putTelegram_keeps (s : State) a1 : Keeps 0x2001000001408 s (putTelegram s a1) := by
  unfold putTelegram
  extract_lets -merge +onlyGivenNames x1 x2
  clear_value x1 x2
  exact (Keeps.ite (Keeps.step (tgDiscard_keeps ..) rfl (Keeps.refl ..)) (Keeps.step (setAc_keeps ..) rfl (Keeps.refl ..)))

theorem startWriteThrough_keeps (s : State) : Keeps 0x1000000400 s (startWriteThrough s) := by
  unfold startWriteThrough
  exact (Keeps.ite (Keeps.refl ..) (by
      extract_lets -merge +onlyGivenNames x1 x2 x3 x4 x5
      clear_value x1 x2 x3 x4
      have h6 : Keeps 0x1000000400 s x5 := (Keeps.wrField rfl (Keeps.wrField rfl (Keeps.refl ..)))
      clear_value x5
      extract_lets -merge +onlyGivenNames x7 x8 x9 x10
      clear_value x7 x8 x9
      have h11 : Keeps 0x1000000400 s x10 := (Keeps.upd_fbx rfl h6)
      clear_value x10
      exact (Keeps.step (showCopies_keeps ..) rfl h11)))

theorem execAcSlotStart_keeps a0 a1 (s : State) : KeepsOut 0x2001000001548 s (execAcSlotStart a0 a1 s) := by
  unfold execAcSlotStart
  extract_lets -merge +onlyGivenNames x1
  have h2 : Keeps 0x2001000001548 s x1 := (Keeps.step (atTime_keeps ..) rfl (Keeps.refl ..))
  clear_value x1
  extract_lets -merge +onlyGivenNames x3
  clear_value x3
  exact (by
    split
    · exact (KeepsOut.done (Keeps.refl ..))
    · exact (by
        split
        · exact (KeepsOut.done (Keeps.refl ..))
        · exact (by
            extract_lets -merge +onlyGivenNames x4
            clear_value x4
            exact (KeepsOut.ite (by
                extract_lets -merge +onlyGivenNames x5 x6
                clear_value x5
                have h7 : Keeps 0x2001000001548 s x6 := (Keeps.step (setAc_keeps ..) rfl h2)
                clear_value x6
                extract_lets -merge +onlyGivenNames x8 x9
                clear_value x8
                have h10 : Keeps 0x2001000001548 s x9 := (Keeps.step (setClass_keeps ..) rfl h7)
                clear_value x9
                exact (KeepsOut.ite (KeepsOut.done (Keeps.raise 4 rfl rfl rfl rfl h10)) (KeepsOut.done h10))) (KeepsOut.done (Keeps.refl ..))))))

theorem storeRejected_keeps (s : State) a1 a2 a3 : Keeps 0x2000400001008 s (storeRejected s a1 a2 a3) := by
  unfold storeRejected
  exact (Keeps.raise 2 rfl rfl rfl rfl (Keeps.wr rfl (Keeps.bump rfl (Keeps.refl ..))))

theorem memWrite_keeps (s : State) a1 a2 a3 a4 a5 a6 : Keeps 0x2001000001508 s (memWrite s a1 a2 a3 a4 a5 a6) := by
  unfold memWrite
  extract_lets -merge +onlyGivenNames x1 x2 x3 x4
  clear_value x1 x2 x3 x4
  exact (Keeps.ite (Keeps.step (acFault_keeps ..) rfl (Keeps.refl ..)) (Keeps.ite (Keeps.step (acFault_keeps ..) rfl (Keeps.refl ..)) (by
        extract_lets -merge +onlyGivenNames x5 x6
        clear_value x5
        have h7 : Keeps 0x2001000001508 s x6 := (Keeps.step (setAc_keeps ..) rfl (Keeps.refl ..))
        clear_value x6
        exact (Keeps.peakFieldOf (Reg.FBX_JRNL_STATn_block ..) rfl (Keeps.upd_fbx rfl h7)))))

theorem execAcStore_keeps a0 a1 a2 a3 a4 (s : State) : KeepsOut 0x6001400001d4a s (execAcStore a0 a1 a2 a3 a4 s) := by
  unfold execAcStore
  extract_lets -merge +onlyGivenNames x1
  have h2 : Keeps 0x6001400001d4a s x1 := (Keeps.step (atTime_keeps ..) rfl (Keeps.refl ..))
  clear_value x1
  extract_lets -merge +onlyGivenNames x3
  clear_value x3
  exact (by
    split
    · exact (KeepsOut.done (Keeps.refl ..))
    · exact (by
        extract_lets -merge +onlyGivenNames x4 x5
        clear_value x4 x5
        exact (KeepsOut.ite (KeepsOut.done (Keeps.refl ..)) (by
            split
            · exact (KeepsOut.ite (KeepsOut.done (Keeps.step (acFault_keeps ..) rfl h2)) (KeepsOut.done (Keeps.refl ..)))
            · exact (by
                split
                · exact (KeepsOut.ite (KeepsOut.done (Keeps.step (setAc_keeps ..) rfl h2)) (KeepsOut.done (Keeps.step (acFault_keeps ..) rfl (Keeps.step (storeRejected_keeps ..) rfl h2))))
                · exact (KeepsOut.ite (KeepsOut.done (Keeps.step (setAc_keeps ..) rfl h2)) (KeepsOut.done (Keeps.step (acFault_keeps ..) rfl (Keeps.step (storeRejected_keeps ..) rfl h2))))
                · exact (KeepsOut.ite (KeepsOut.done (Keeps.step (acFault_keeps ..) rfl h2)) (by
                      split
                      · exact (KeepsOut.done (Keeps.step (acFault_keeps ..) rfl (Keeps.step (recordRefusal_keeps ..) rfl h2)))
                      · exact (KeepsOut.ite (KeepsOut.done (Keeps.step (answer_keeps ..) rfl h2)) (KeepsOut.done (Keeps.step (memWrite_keeps ..) rfl h2))))))))))

theorem execBudgetExhausted.unqueueAll_keeps (s : State) a1 a2 : Keeps 0x2000200001708 s (execBudgetExhausted.unqueueAll s a1 a2) := by
  unfold execBudgetExhausted.unqueueAll
  exact (Keeps.foldl (Keeps.refl ..) fun _ _ hu1 => (Keeps.ite (Keeps.ite (Keeps.step (overrun_keeps ..) rfl (Keeps.step (unqueue_keeps ..) rfl hu1)) hu1) hu1))

theorem execBudgetExhausted_keeps a0 a1 (s : State) : KeepsOut 0x2001200001748 s (execBudgetExhausted a0 a1 s) := by
  unfold execBudgetExhausted
  extract_lets -merge +onlyGivenNames x1
  have h2 : Keeps 0x2001200001748 s x1 := (Keeps.step (atTime_keeps ..) rfl (Keeps.refl ..))
  clear_value x1
  exact (KeepsOut.ite (KeepsOut.done (Keeps.refl ..)) (by
      extract_lets -merge +onlyGivenNames x3 x4
      clear_value x3
      have h5 : Keeps 0x2001200001748 s x4 := (Keeps.foldl h2 fun _ _ hu6 => (by
            split
            · exact (by
                extract_lets -merge +onlyGivenNames x7 x8 x9
                clear_value x7 x8
                have h10 : Keeps 0x2001200001748 s x9 := (Keeps.step (overrun_keeps ..) rfl (Keeps.step (chargeClass_keeps ..) rfl hu6))
                clear_value x9
                exact (Keeps.ite (Keeps.step (stopAc_keeps ..) rfl h10) (Keeps.step (stopLe_keeps ..) rfl (Keeps.step (execBudgetExhausted.unqueueAll_keeps ..) rfl h10))))
            · exact (Keeps.step (overrun_keeps ..) rfl (Keeps.step (unqueue_keeps ..) rfl hu6))
            · exact hu6))
      clear_value x4
      exact (KeepsOut.done (Keeps.step (setPart_keeps ..) rfl h5))))

theorem keepStores_keeps (s : State) a1 : Keeps 0x80 s (keepStores s a1) := by
  unfold keepStores
  exact (Keeps.upd_sig (fun h => h) (.inr rfl) rfl (Keeps.refl ..))

theorem retChange_keeps (s : State) a1 a2 : Keeps 0x400 s (retChange s a1 a2) := by
  unfold retChange
  exact (Keeps.upd_fbx rfl (Keeps.refl ..))

theorem keepCells_keeps (s : State) a1 a2 : Keeps 0x600 s (keepCells s a1 a2) := by
  unfold keepCells
  exact (Keeps.foldl (Keeps.refl ..) fun _ _ hu1 => (by
      split
      · exact hu1
      · exact (by
          extract_lets -merge +onlyGivenNames x2 x3
          clear_value x2
          have h4 : Keeps 0x600 s x3 := (Keeps.step (setLe_keeps ..) rfl hu1)
          clear_value x3
          exact (Keeps.ite (Keeps.step (retChange_keeps ..) rfl h4) h4))))

theorem execClassEnd_keeps a0 a1 a2 (s : State) : KeepsOut 0x7c0 s (execClassEnd a0 a1 a2 s) := by
  unfold execClassEnd
  extract_lets -merge +onlyGivenNames x1
  have h2 : Keeps 0x7c0 s x1 := (Keeps.step (atTime_keeps ..) rfl (Keeps.refl ..))
  clear_value x1
  exact (KeepsOut.ite (KeepsOut.done (Keeps.refl ..)) (KeepsOut.ite (by
        extract_lets -merge +onlyGivenNames x3
        clear_value x3
        exact (by
          split
          · exact (KeepsOut.done (Keeps.refl ..))
          · exact (KeepsOut.ite (KeepsOut.done (Keeps.refl ..)) (by
                extract_lets -merge +onlyGivenNames x4
                have h5 : Keeps 0x7c0 s x4 := (Keeps.step (chargeClass_keeps ..) rfl h2)
                clear_value x4
                extract_lets -merge +onlyGivenNames x6
                have h7 : Keeps 0x7c0 s x6 := (Keeps.foldl (Keeps.step (keepStores_keeps ..) rfl h5) fun _ _ hu8 => (Keeps.step (retChange_keeps ..) rfl hu8))
                clear_value x6
                extract_lets -merge +onlyGivenNames x9
                clear_value x9
                exact (KeepsOut.done (Keeps.step (setAc_keeps ..) rfl h7)))))) (by
        extract_lets -merge +onlyGivenNames x10 x11 x12 x13
        clear_value x10 x11 x12 x13
        exact (by
          split
          · exact (KeepsOut.done (Keeps.refl ..))
          · exact (KeepsOut.ite (KeepsOut.done (Keeps.refl ..)) (by
                extract_lets -merge +onlyGivenNames x14
                have h15 : Keeps 0x7c0 s x14 := (Keeps.step (keepCells_keeps ..) rfl (Keeps.step (keepStores_keeps ..) rfl (Keeps.step (chargeClass_keeps ..) rfl h2)))
                clear_value x14
                exact (KeepsOut.done (Keeps.step (startNext_keeps ..) rfl h15))))))))

theorem execFbxClrCnt_keeps a0 (s : State) : KeepsOut 0x600101000180a s (execFbxClrCnt a0 s) := by
  unfold execFbxClrCnt
  exact (KeepsOut.done (Keeps.keyedBit rfl (Keeps.refl ..) (fun _ hu1 => (Keeps.step (cleared_keeps ..) rfl (Keeps.zeroRegs (b := 4) (List.forall_mem_append.2 ⟨(List.forall_mem_append.2 ⟨(List.forall_mem_cons.2 ⟨rfl, (fun _ h => absurd h List.not_mem_nil)⟩), (List.forall_mem_map.2 fun _ _ => Reg.FBX_FIFO_LOSTn_block ..)⟩), (List.forall_mem_map.2 fun _ _ => Reg.FBX_JRNL_STATn_block ..)⟩) rfl hu1)))))

theorem execFbxRetGenLo_keeps (s : State) : KeepsOut 0x1000000002 s (execFbxRetGenLo s) := by
  unfold execFbxRetGenLo
  extract_lets -merge +onlyGivenNames x1 x2 x3
  clear_value x1 x2 x3
  exact (KeepsOut.done (Keeps.step (answer_keeps ..) rfl (Keeps.wr rfl (Keeps.wr rfl (Keeps.refl ..)))))

theorem swapFifo_keeps (s : State) a1 : Keeps 0x2001000001408 s (swapFifo s a1) := by
  unfold swapFifo
  extract_lets -merge +onlyGivenNames x1 x2 x3 x4 x5
  clear_value x1 x2 x3 x4
  have h6 : Keeps 0x2001000001408 s x5 := (Keeps.step (setAc_keeps ..) rfl (Keeps.upd_freeN rfl (Keeps.refl ..)))
  clear_value x5
  exact (Keeps.ite h6 (Keeps.raise 4 rfl rfl rfl rfl (Keeps.addFieldOf (Reg.FBX_FIFO_LOSTn_block ..) rfl h6)))

theorem execFrameNow_keeps a0 (s : State) : KeepsOut 0x2 s (execFrameNow a0 s) := by
  unfold execFrameNow
  exact (by
    split
    · exact (KeepsOut.done (Keeps.refl ..))
    · exact (KeepsOut.done (Keeps.step (answer_keeps ..) rfl (Keeps.refl ..))))

theorem execMonoNow_keeps a0 (s : State) : KeepsOut 0x2 s (execMonoNow a0 s) := by
  unfold execMonoNow
  exact (by
    split
    · exact (KeepsOut.done (Keeps.refl ..))
    · exact (KeepsOut.done (Keeps.step (answer_keeps ..) rfl (Keeps.refl ..))))

theorem execRecEvent_keeps a0 a1 a2 (s : State) : KeepsOut 0x2000000001408 s (execRecEvent a0 a1 a2 s) := by
  unfold execRecEvent
  exact (by
    split
    · exact (KeepsOut.done (Keeps.refl ..))
    · exact (by
        extract_lets -merge +onlyGivenNames x1 x2
        clear_value x1
        have h3 : Keeps 0x2000000001408 s x2 := (Keeps.step (setAc_keeps ..) rfl (Keeps.refl ..))
        clear_value x2
        exact (KeepsOut.ite (by
            extract_lets -merge +onlyGivenNames x4
            clear_value x4
            exact (KeepsOut.done (Keeps.step (recordBare_keeps ..) rfl h3))) (KeepsOut.done h3))))

theorem execRetainedWriteDone_keeps a0 (s : State) : KeepsOut 0x1000000400 s (execRetainedWriteDone a0 s) := by
  unfold execRetainedWriteDone
  exact (by
    split
    · exact (KeepsOut.done (Keeps.refl ..))
    · exact (by
        split
        · exact (KeepsOut.done (Keeps.refl ..))
        · exact (KeepsOut.ite (KeepsOut.done (Keeps.refl ..)) (by
              extract_lets -merge +onlyGivenNames x1 x2 x3 x4 x5 x6 x7
              clear_value x1 x2 x3 x4 x5 x6 x7
              exact (KeepsOut.done (Keeps.step (showCopies_keeps ..) rfl (Keeps.upd_fbx rfl (Keeps.refl ..))))))))

theorem execRollbackEnd_keeps a0 (s : State) : KeepsOut 0x400 s (execRollbackEnd a0 s) := by
  unfold execRollbackEnd
  extract_lets -merge +onlyGivenNames x1
  clear_value x1
  exact (by
    split
    · exact (KeepsOut.done (Keeps.refl ..))
    · exact (by
        extract_lets -merge +onlyGivenNames x2 x3
        clear_value x2
        have h4 : Keeps 0x400 s x3 := (Keeps.upd_fbx rfl (Keeps.refl ..))
        clear_value x3
        exact (KeepsOut.done (Keeps.step (setAc_keeps ..) rfl h4))))

theorem execServicePreempt_keeps a0 a1 (s : State) : KeepsOut 0x440 s (execServicePreempt a0 a1 s) := by
  unfold execServicePreempt
  exact (KeepsOut.ite (by
      extract_lets -merge +onlyGivenNames x1
      have h2 : Keeps 0x440 s x1 := (Keeps.step (atTime_keeps ..) rfl (Keeps.refl ..))
      clear_value x1
      exact (KeepsOut.done (Keeps.step (setAc_keeps ..) rfl h2))) (KeepsOut.done (Keeps.refl ..)))

theorem execSqRead_keeps a0 a1 (s : State) : KeepsOut 0xa s (execSqRead a0 a1 s) := by
  unfold execSqRead
  exact (by
    split
    · exact (KeepsOut.done (Keeps.refl ..))
    · exact (KeepsOut.ite (KeepsOut.done (Keeps.step (answer_keeps ..) rfl (Keeps.refl ..))) (by
          extract_lets -merge +onlyGivenNames x1
          have h2 : Keeps 0xa s x1.2 := (Keeps.step (drawWord_keeps ..) rfl (Keeps.refl ..))
          clear_value x1
          exact (KeepsOut.done (Keeps.step (answer_keeps ..) rfl h2)))))

theorem execTaiFreeze_keeps a0 (s : State) : KeepsOut 0x2 s (execTaiFreeze a0 s) := by
  unfold execTaiFreeze
  exact (by
    split
    · exact (KeepsOut.done (Keeps.refl ..))
    · exact (KeepsOut.done (Keeps.step (answer_keeps ..) rfl (Keeps.refl ..))))

theorem execTgDrop_keeps a0 (s : State) : KeepsOut 0x400 s (execTgDrop a0 s) := by
  unfold execTgDrop
  exact (by
    split
    · exact (KeepsOut.done (Keeps.refl ..))
    · exact (by
        extract_lets -merge +onlyGivenNames x1 x2
        clear_value x1 x2
        exact (KeepsOut.done (Keeps.step (setAc_keeps ..) rfl (Keeps.refl ..)))))

theorem tgReadAt_keeps (s : State) a1 a2 a3 : Keeps 0x402 s (tgReadAt s a1 a2 a3) := by
  unfold tgReadAt
  extract_lets -merge +onlyGivenNames x1
  clear_value x1
  exact (by
    split
    · exact (Keeps.step (answer_keeps ..) rfl (Keeps.step (setAc_keeps ..) rfl (Keeps.refl ..)))
    · exact (Keeps.ite (Keeps.step (answer_keeps ..) rfl (Keeps.step (setAc_keeps ..) rfl (Keeps.refl ..))) (Keeps.step (answer_keeps ..) rfl (Keeps.step (setAc_keeps ..) rfl (Keeps.refl ..)))))

theorem execTgRead_keeps a0 a1 (s : State) : KeepsOut 0x442 s (execTgRead a0 a1 s) := by
  unfold execTgRead
  exact (by
    split
    · exact (KeepsOut.done (Keeps.refl ..))
    · exact (KeepsOut.done (Keeps.step (tgReadAt_keeps ..) rfl (Keeps.step (atTime_keeps ..) rfl (Keeps.refl ..)))))

theorem execTgReadStallEnd_keeps a0 a1 (s : State) : KeepsOut 0x442 s (execTgReadStallEnd a0 a1 s) := by
  unfold execTgReadStallEnd
  extract_lets -merge +onlyGivenNames x1
  clear_value x1
  exact (by
    split
    · exact (KeepsOut.done (Keeps.refl ..))
    · exact (KeepsOut.ite (KeepsOut.done (Keeps.step (tgReadAt_keeps ..) rfl (Keeps.step (atTime_keeps ..) rfl (Keeps.refl ..)))) (KeepsOut.done (Keeps.refl ..))))

theorem initRun_keeps (s : State) : Keeps 0x780 s (initRun s) := by
  unfold initRun
  exact (Keeps.upd_sig_sched_le_fbx (fun h => h) (.inr rfl) rfl (Keeps.refl ..))

theorem restoreEp_keeps (s : State) a1 a2 : Keeps 0x80 s (restoreEp s a1 a2) := by
  unfold restoreEp
  extract_lets -merge +onlyGivenNames x1 x2
  clear_value x1 x2
  exact (Keeps.upd_sig (fun h => h) (.inr rfl) rfl (Keeps.refl ..))

theorem restoreItem_keeps (s : State) a1 a2 : Keeps 0x680 s (restoreItem s a1 a2) := by
  unfold restoreItem
  exact (Keeps.ite (Keeps.upd_fbx rfl (Keeps.refl ..)) (Keeps.ite (by
        extract_lets -merge +onlyGivenNames x1
        clear_value x1
        exact (Keeps.step (setLe_keeps ..) rfl (Keeps.refl ..))) (Keeps.step (restoreEp_keeps ..) rfl (Keeps.refl ..))))

theorem restoreRun_keeps (s : State) a1 : Keeps 0x2001000001788 s (restoreRun s a1) := by
  unfold restoreRun
  extract_lets -merge +onlyGivenNames x1
  have h2 : Keeps 0x2001000001788 s x1 := (Keeps.step (initRun_keeps ..) rfl (Keeps.refl ..))
  clear_value x1
  extract_lets -merge +onlyGivenNames x3 x4 x5 x6 x7
  clear_value x3 x4 x5 x6
  have h8 : Keeps 0x2001000001788 s x7 := by
    unfold x7
    exact (by
      split
      · exact h2
      · exact (Keeps.foldl h2 fun _ _ hu9 => (Keeps.ite hu9 (Keeps.step (restoreItem_keeps ..) rfl hu9))))
  clear_value x7
  extract_lets -merge +onlyGivenNames x10 x11 x12 x13
  clear_value x10 x11 x12
  have h14 : Keeps 0x2001000001788 s x13 := (Keeps.upd_fbx rfl h8)
  clear_value x13
  extract_lets -merge +onlyGivenNames x15 x16
  clear_value x15
  have h17 : Keeps 0x2001000001788 s x16 := (Keeps.wrField rfl (Keeps.wrField rfl h14))
  clear_value x16
  extract_lets -merge +onlyGivenNames x18
  have h19 : Keeps 0x2001000001788 s x18 := (Keeps.ite (Keeps.raise 4 rfl rfl rfl rfl (Keeps.setBit rfl h17)) h17)
  clear_value x18
  extract_lets -merge +onlyGivenNames x20
  have h21 : Keeps 0x2001000001788 s x20 := (Keeps.ite (Keeps.raise 4 rfl rfl rfl rfl h19) h19)
  clear_value x20
  exact (Keeps.step (showCopies_keeps ..) rfl h21)

/-- Entries of the register file are only removed, so it keeps its canonical form. -/
theorem resetLevelX_keeps (s : State) : Keeps 0x7FFFFF00000000 s (resetLevelX s) := by
  refine ⟨fun p hp => ?_, fun i => ⟨Tbl.wf_filter _ _ _ i.regs, i.roles, i.phase, i.buf⟩⟩
  cases p with
  | regs b =>
    intro hb
    have hall : ∀ c : Fin 23, (0x7FFFFF00000000 : Nat).testBit (32 + c.val) = true := by decide
    rw [Part.bit, hall ⟨b, Nat.lt_succ_of_le hb⟩] at hp
    cases hp
  | monoRuns => exact Nat.le_refl _
  | _ => rfl

theorem warmInPlace_keeps (s : State) : Keeps 0x7fffff00001788 s (warmInPlace s) := by
  unfold warmInPlace
  exact (Keeps.step (restoreRun_keeps ..) rfl (Keeps.step (resetLevelX_keeps ..) rfl (Keeps.refl ..)))

end Sys2Proof.Machine
end

