-- ==== Sys2Proof/Laws/KeepsCan.lean ====
section
/-! SUPPORT. What each operation of LocalIo, ChainOps, Can can change: one lemma for each (Laws/Keeps.lean says what Keeps means).
The mask names the parts by Part.bit. -/

namespace Sys2Proof.Machine

open Sys2Proof

theorem burdenLead_keeps (s : State) a1 : Keeps 0x40000 s (burdenLead s a1) := by
  unfold burdenLead
  exact (Keeps.ite (Keeps.step (setLio_keeps ..) rfl (Keeps.refl ..)) (Keeps.refl ..))

theorem hartDeliver_keeps (s : State) a1 a2 a3 a4 a5 : Keeps 0x2001000041408 s (hartDeliver s a1 a2 a3 a4 a5) := by
  unfold hartDeliver
  extract_lets -merge +onlyGivenNames x1 x2
  clear_value x1
  have h3 : Keeps 0x2001000041408 s x2 := (Keeps.step (setAx_keeps ..) rfl (Keeps.refl ..))
  clear_value x2
  exact (Keeps.step (putTelegram_keeps ..) rfl h3)

theorem hartLost_keeps (s : State) a1 : Keeps 0x2001000041408 s (hartLost s a1) := by
  unfold hartLost
  exact (Keeps.foldl (Keeps.refl ..) fun _ _ hu1 => (by
      extract_lets -merge +onlyGivenNames x2 x3 x4
      clear_value x2 x3
      have h5 : Keeps 0x2001000041408 s x4 := by
        unfold x4
        exact (by
          split
          · exact (Keeps.step (hartDeliver_keeps ..) rfl (Keeps.step (setAx_keeps ..) rfl (Keeps.upd_freeN rfl hu1)))
          · exact hu1)
      clear_value x4
      exact (Keeps.foldl h5 fun _ _ hu6 => (Keeps.step (hartDeliver_keeps ..) rfl (Keeps.step (setAx_keeps ..) rfl hu6)))))

theorem condEnds_keeps (s : State) a1 : Keeps 0x2000000041008 s (condEnds s a1) := by
  unfold condEnds
  extract_lets -merge +onlyGivenNames x1
  clear_value x1
  exact (by
    split
    · exact (Keeps.step (conditionEnded_keeps ..) rfl (Keeps.step (setAx_keeps ..) rfl (Keeps.refl ..)))
    · exact (Keeps.refl ..))

theorem dropConds_keeps (s : State) a1 : Keeps 0x2000000041008 s (dropConds s a1) := by
  unfold dropConds
  extract_lets -merge +onlyGivenNames x1
  have h2 : Keeps 0x2000000041008 s x1 := (Keeps.step (condEnds_keeps ..) rfl (Keeps.refl ..))
  clear_value x1
  exact (Keeps.step (setAx_keeps ..) rfl h2)

theorem axJudge_keeps (s : State) a1 : Keeps 0x2000000041008 s (axJudge s a1) := by
  unfold axJudge
  extract_lets -merge +onlyGivenNames x1
  try clear_value x1
  exact (Keeps.ite (Keeps.step (dropConds_keeps ..) rfl (Keeps.refl ..)) (by
      extract_lets -merge +onlyGivenNames x2 x3 x4 x5 x6 x7 x8 x9 x10 x11
      try clear_value x10
      try clear_value x9
      try clear_value x8
      try clear_value x7
      try clear_value x6
      try clear_value x5
      try clear_value x4
      try clear_value x3
      try clear_value x2
      have h12 : Keeps 0x2000000041008 s x11 := (Keeps.ite (Keeps.step (condEnds_keeps ..) rfl (Keeps.refl ..)) (Keeps.refl ..))
      try clear_value x11
      extract_lets -merge +onlyGivenNames x13 x14
      try clear_value x14
      try clear_value x13
      exact (Keeps.step (setAx_keeps ..) rfl h12)))

theorem latchAx_keeps (s : State) a1 a2 : Keeps 0x40000 s (latchAx s a1 a2) := by
  unfold latchAx
  exact (by
    split
    · exact (Keeps.step (setAx_keeps ..) rfl (Keeps.refl ..)))

theorem latchAxs_keeps (s : State) : Keeps 0x40000 s (latchAxs s) := by
  unfold latchAxs
  exact (Keeps.foldl (Keeps.refl ..) fun _ _ hu1 => (by
      split
      · exact hu1
      · exact (Keeps.ite hu1 (by
            extract_lets -merge +onlyGivenNames x2 x3
            clear_value x2
            have h4 : Keeps 0x40000 s x3 := (Keeps.ite (Keeps.step (setAx_keeps ..) rfl hu1) (Keeps.step (latchAx_keeps ..) rfl hu1))
            clear_value x3
            exact (by
              split
              · exact (Keeps.ite (Keeps.step (setAx_keeps ..) rfl h4) h4)
              · exact (Keeps.step (setAx_keeps ..) rfl h4))))))

theorem latchDos_keeps (s : State) : Keeps 0x40000 s (latchDos s) := by
  unfold latchDos
  exact (Keeps.foldl (Keeps.refl ..) fun _ _ hu1 => (by
      extract_lets -merge +onlyGivenNames x2
      clear_value x2
      exact (Keeps.ite (Keeps.step (latchDo_keeps ..) rfl hu1) (Keeps.step (setDo_keeps ..) rfl hu1))))

theorem presentAis_keeps (s : State) : Keeps 0x2000400001088 s (presentAis s) := by
  unfold presentAis
  exact (Keeps.foldl (Keeps.refl ..) fun _ _ hu1 => (Keeps.ite hu1 (by
        split
        · exact (Keeps.foldl hu1 fun _ _ hu2 => (Keeps.step (collectAna_keeps ..) rfl hu2)))))

theorem presentDis_keeps (s : State) : Keeps 0x2000400001088 s (presentDis s) := by
  unfold presentDis
  exact (Keeps.foldl (Keeps.refl ..) fun _ _ hu1 => (Keeps.step (collectOwn_keeps ..) rfl hu1))

theorem distributed_keeps (s : State) : Keeps 0x40000 s (distributed s) := by
  unfold distributed
  exact (Keeps.step (setLio_keeps ..) rfl (Keeps.refl ..))

theorem execAdcSample_keeps a0 a1 a2 a3 a4 (s : State) : KeepsOut 0x2800000041048 s (execAdcSample a0 a1 a2 a3 a4 s) := by
  unfold execAdcSample
  extract_lets -merge +onlyGivenNames x1
  have h2 : Keeps 0x2800000041048 s x1 := (Keeps.step (atTime_keeps ..) rfl (Keeps.refl ..))
  clear_value x1
  extract_lets -merge +onlyGivenNames x3
  clear_value x3
  exact (KeepsOut.ite (KeepsOut.done h2) (by
      extract_lets -merge +onlyGivenNames x4 x5
      clear_value x4
      have h6 : Keeps 0x2800000041048 s x5 := (Keeps.step (axJudge_keeps ..) rfl (Keeps.step (setAx_keeps ..) rfl h2))
      clear_value x5
      extract_lets -merge +onlyGivenNames x7 x8
      clear_value x7
      have h9 : Keeps 0x2800000041048 s x8 := (Keeps.ite h6 (Keeps.step (setAx_keeps ..) rfl h6))
      clear_value x8
      exact (KeepsOut.done (Keeps.wrField rfl h9))))

theorem execAioClrCnt_keeps a0 (s : State) : KeepsOut 0x600001004180a s (execAioClrCnt a0 s) := by
  unfold execAioClrCnt
  exact (KeepsOut.done (Keeps.keyedBit rfl (Keeps.refl ..) (fun _ hu1 => (by
      extract_lets -merge +onlyGivenNames x2
      have h3 : Keeps 0x600001004180a s x2 := (Keeps.foldl hu1 fun _ _ hu4 => (Keeps.step (setAx_keeps ..) rfl hu4))
      clear_value x2
      exact (Keeps.step (cleared_keeps ..) rfl h3)))))

theorem execAoTakeoverDrive_keeps a0 (s : State) : KeepsOut 0x40040 s (execAoTakeoverDrive a0 s) := by
  unfold execAoTakeoverDrive
  extract_lets -merge +onlyGivenNames x1
  have h2 : Keeps 0x40040 s x1 := (Keeps.step (atTime_keeps ..) rfl (Keeps.refl ..))
  clear_value x1
  exact (KeepsOut.ite (by
      extract_lets -merge +onlyGivenNames x3
      have h4 : Keeps 0x40040 s x3 := (Keeps.step (setLio_keeps ..) rfl h2)
      clear_value x3
      exact (KeepsOut.done (Keeps.foldl h4 fun _ _ hu5 => (by
          split
          · exact (Keeps.ite (Keeps.step (setAx_keeps ..) rfl (Keeps.step (latchAx_keeps ..) rfl hu5)) hu5)
          · exact hu5)))) (KeepsOut.done h2))

theorem execBurdenSwitch_keeps a0 (s : State) : KeepsOut 0x40040 s (execBurdenSwitch a0 s) := by
  unfold execBurdenSwitch
  extract_lets -merge +onlyGivenNames x1
  have h2 : Keeps 0x40040 s x1 := (Keeps.step (atTime_keeps ..) rfl (Keeps.refl ..))
  clear_value x1
  exact (by
    split
    · exact (by
        extract_lets -merge +onlyGivenNames x3
        clear_value x3
        exact (KeepsOut.ite (KeepsOut.done (Keeps.step (setLio_keeps ..) rfl h2)) (KeepsOut.ite (KeepsOut.done (Keeps.step (setLio_keeps ..) rfl h2)) (KeepsOut.done h2))))
    · exact (KeepsOut.done h2))

theorem execConditionRecord_keeps a0 a1 (s : State) : KeepsOut 0x2800000041048 s (execConditionRecord a0 a1 s) := by
  unfold execConditionRecord
  extract_lets -merge +onlyGivenNames x1
  have h2 : Keeps 0x2800000041048 s x1 := (Keeps.step (atTime_keeps ..) rfl (Keeps.refl ..))
  clear_value x1
  extract_lets -merge +onlyGivenNames x3
  clear_value x3
  exact (KeepsOut.ite (by
      extract_lets -merge +onlyGivenNames x4
      clear_value x4
      exact (KeepsOut.done (Keeps.raise 15 rfl rfl rfl rfl (Keeps.step (setAx_keeps ..) rfl h2)))) (KeepsOut.done h2))

theorem execCrossFadeStep_keeps a0 (s : State) : KeepsOut 0x2800000843048 s (execCrossFadeStep a0 s) := by
  unfold execCrossFadeStep
  extract_lets -merge +onlyGivenNames x1
  have h2 : Keeps 0x2800000843048 s x1 := (Keeps.step (atTime_keeps ..) rfl (Keeps.refl ..))
  clear_value x1
  exact (by
    split
    · exact (KeepsOut.done h2)
    · exact (by
        extract_lets -merge +onlyGivenNames x3
        clear_value x3
        exact (KeepsOut.ite (KeepsOut.done h2) (by
            extract_lets -merge +onlyGivenNames x4
            have h5 : Keeps 0x2800000843048 s x4 := (Keeps.setPair (.inr fun _ => rfl) rfl h2)
            clear_value x4
            extract_lets -merge +onlyGivenNames x6
            have h7 : Keeps 0x2800000843048 s x6 := (Keeps.foldl h5 fun _ _ hu8 => (Keeps.ite hu8 (by
                    extract_lets -merge +onlyGivenNames x9
                    clear_value x9
                    exact (Keeps.step (setAx_keeps ..) rfl hu8))))
            clear_value x6
            exact (KeepsOut.ite (KeepsOut.done (Keeps.step (removalTick_keeps ..) rfl (Keeps.raise 15 rfl rfl rfl rfl h7))) (KeepsOut.done (Keeps.step (removalTick_keeps ..) rfl h7)))))))

theorem lioFaults_keeps (s : State) : Keeps 0x2400000001008 s (lioFaults s) := by
  unfold lioFaults
  extract_lets -merge +onlyGivenNames x1 x2 x3 x4
  clear_value x1 x2 x3
  have h5 : Keeps 0x2400000001008 s x4 := (Keeps.wrField rfl (Keeps.wrField rfl (Keeps.refl ..)))
  clear_value x4
  extract_lets -merge +onlyGivenNames x6
  have h7 : Keeps 0x2400000001008 s x6 := (Keeps.ite (Keeps.raise 14 rfl rfl rfl rfl h5) h5)
  clear_value x6
  exact (Keeps.ite (Keeps.raise 14 rfl rfl rfl rfl h7) h7)

theorem execDebounceExpiry_keeps a0 a1 (s : State) : KeepsOut 0x2400000041048 s (execDebounceExpiry a0 a1 s) := by
  unfold execDebounceExpiry
  extract_lets -merge +onlyGivenNames x1
  have h2 : Keeps 0x2400000041048 s x1 := (Keeps.step (atTime_keeps ..) rfl (Keeps.refl ..))
  clear_value x1
  extract_lets -merge +onlyGivenNames x3
  clear_value x3
  exact (by
    split
    · exact (KeepsOut.ite (by
          extract_lets -merge +onlyGivenNames x4
          have h5 : Keeps 0x2400000041048 s x4 := (Keeps.step (setDi_keeps ..) rfl h2)
          clear_value x4
          exact (KeepsOut.done (Keeps.step (lioFaults_keeps ..) rfl (Keeps.ite (Keeps.bump rfl h5) h5)))) (KeepsOut.done h2))
    · exact (KeepsOut.done h2))

theorem execDiChange_keeps a0 a1 a2 a3 (s : State) : KeepsOut 0x40040 s (execDiChange a0 a1 a2 a3 s) := by
  unfold execDiChange
  extract_lets -merge +onlyGivenNames x1
  have h2 : Keeps 0x40040 s x1 := (Keeps.step (atTime_keeps ..) rfl (Keeps.refl ..))
  clear_value x1
  extract_lets -merge +onlyGivenNames x3 x4
  clear_value x3 x4
  exact (KeepsOut.ite (KeepsOut.done h2) (KeepsOut.done (Keeps.step (setDi_keeps ..) rfl h2)))

theorem faultEnd_keeps (s : State) a1 a2 : Keeps 0x2000000001008 s (faultEnd s a1 a2) := by
  unfold faultEnd
  exact (by
    split
    · exact (Keeps.step (conditionEnded_keeps ..) rfl (Keeps.refl ..))
    · exact (Keeps.refl ..))

theorem execDoRelease_keeps a0 (s : State) : KeepsOut 0x42040 s (execDoRelease a0 s) := by
  unfold execDoRelease
  extract_lets -merge +onlyGivenNames x1
  have h2 : Keeps 0x42040 s x1 := (Keeps.step (atTime_keeps ..) rfl (Keeps.refl ..))
  clear_value x1
  exact (by
    split
    · exact (KeepsOut.ite (by
          extract_lets -merge +onlyGivenNames x3
          have h4 : Keeps 0x42040 s x3 := (Keeps.setPair (.inr fun _ => rfl) rfl h2)
          clear_value x3
          exact (KeepsOut.done (Keeps.foldl h4 fun _ _ hu5 => (Keeps.ite hu5 (Keeps.step (setDo_keeps ..) rfl hu5))))) (KeepsOut.done h2))
    · exact (KeepsOut.done h2))

theorem execDoRetry_keeps a0 a1 a2 a3 (s : State) : KeepsOut 0x2400000041048 s (execDoRetry a0 a1 a2 a3 s) := by
  unfold execDoRetry
  extract_lets -merge +onlyGivenNames x1
  have h2 : Keeps 0x2400000041048 s x1 := (Keeps.step (atTime_keeps ..) rfl (Keeps.refl ..))
  clear_value x1
  exact (KeepsOut.ite (by
      extract_lets -merge +onlyGivenNames x3
      clear_value x3
      exact (KeepsOut.ite (KeepsOut.done h2) (KeepsOut.ite (KeepsOut.done (Keeps.step (setGrp_keeps ..) rfl h2)) (KeepsOut.done (Keeps.step (lioFaults_keeps ..) rfl (Keeps.step (faultEnd_keeps ..) rfl (Keeps.step (setGrp_keeps ..) rfl h2))))))) (by
      extract_lets -merge +onlyGivenNames x4
      clear_value x4
      exact (KeepsOut.ite (KeepsOut.done h2) (KeepsOut.ite (KeepsOut.done (Keeps.step (setDo_keeps ..) rfl h2)) (KeepsOut.done (Keeps.step (lioFaults_keeps ..) rfl (Keeps.step (faultEnd_keeps ..) rfl (Keeps.step (setDo_keeps ..) rfl h2))))))))

theorem grantLatchIo_keeps (s : State) : Keeps 0x40000 s (grantLatchIo s) := by
  unfold grantLatchIo
  extract_lets -merge +onlyGivenNames x1
  have h2 : Keeps 0x40000 s x1 := (Keeps.foldl (Keeps.refl ..) fun _ _ hu3 => (Keeps.ite hu3 (Keeps.step (latchDo_keeps ..) rfl hu3)))
  clear_value x1
  exact (Keeps.step (setLio_keeps ..) rfl h2)

theorem hartStart_keeps (s : State) a1 a2 : Keeps 0x200100004140c s (hartStart s a1 a2) := by
  unfold hartStart
  extract_lets -merge +onlyGivenNames x1
  clear_value x1
  exact (by
    split
    · exact (Keeps.refl ..)
    · exact (Keeps.ite (Keeps.refl ..) (Keeps.ite (Keeps.step (hartDeliver_keeps ..) rfl (Keeps.step (setAx_keeps ..) rfl (Keeps.refl ..))) (Keeps.step (send_keeps ..) rfl (Keeps.step (setAx_keeps ..) rfl (Keeps.refl ..))))))

theorem execHartReq_keeps a0 a1 a2 a3 a4 (s : State) : KeepsOut 0x200100004144e s (execHartReq a0 a1 a2 a3 a4 s) := by
  unfold execHartReq
  extract_lets -merge +onlyGivenNames x1
  have h2 : Keeps 0x200100004144e s x1 := (Keeps.step (atTime_keeps ..) rfl (Keeps.refl ..))
  clear_value x1
  exact (by
    split
    · exact (KeepsOut.done h2)
    · exact (by
        extract_lets -merge +onlyGivenNames x3
        clear_value x3
        exact (KeepsOut.ite (KeepsOut.done h2) (KeepsOut.ite (KeepsOut.done (Keeps.step (answer_keeps ..) rfl (Keeps.step (setAx_keeps ..) rfl h2))) (KeepsOut.done (Keeps.step (hartStart_keeps ..) rfl (Keeps.step (setAx_keeps ..) rfl h2)))))))

theorem execHartResponse_keeps a0 a1 a2 a3 a4 (s : State) : KeepsOut 0x200100004144c s (execHartResponse a0 a1 a2 a3 a4 s) := by
  unfold execHartResponse
  extract_lets -merge +onlyGivenNames x1
  have h2 : Keeps 0x200100004144c s x1 := (Keeps.step (atTime_keeps ..) rfl (Keeps.refl ..))
  clear_value x1
  extract_lets -merge +onlyGivenNames x3 x4
  clear_value x3 x4
  exact (KeepsOut.ite (KeepsOut.done h2) (by
      split
      · exact (KeepsOut.done (Keeps.step (hartStart_keeps ..) rfl (Keeps.step (hartDeliver_keeps ..) rfl (Keeps.step (setAx_keeps ..) rfl h2))))
      · exact (KeepsOut.ite (KeepsOut.done h2) (by
            extract_lets -merge +onlyGivenNames x5
            clear_value x5
            exact (KeepsOut.done (Keeps.step (hartDeliver_keeps ..) rfl (Keeps.step (setAx_keeps ..) rfl h2)))))))

theorem execHartTimeout_keeps a0 a1 (s : State) : KeepsOut 0x280100004144c s (execHartTimeout a0 a1 s) := by
  unfold execHartTimeout
  extract_lets -merge +onlyGivenNames x1
  have h2 : Keeps 0x280100004144c s x1 := (Keeps.step (atTime_keeps ..) rfl (Keeps.refl ..))
  clear_value x1
  extract_lets -merge +onlyGivenNames x3
  clear_value x3
  exact (by
    split
    · exact (KeepsOut.ite (by
          extract_lets -merge +onlyGivenNames x4
          have h5 : Keeps 0x280100004144c s x4 := (Keeps.raise 15 rfl rfl rfl rfl (Keeps.step (setAx_keeps ..) rfl h2))
          clear_value x4
          exact (KeepsOut.done (Keeps.step (hartStart_keeps ..) rfl (Keeps.step (hartDeliver_keeps ..) rfl h5)))) (KeepsOut.done h2))
    · exact (KeepsOut.done h2))

theorem execLioClrCnt_keeps a0 (s : State) : KeepsOut 0x640001000180a s (execLioClrCnt a0 s) := by
  unfold execLioClrCnt
  exact (KeepsOut.done (Keeps.keyedBit rfl (Keeps.refl ..) (fun _ hu1 => (Keeps.step (cleared_keeps ..) rfl (Keeps.zeroRegs (b := 14) (List.forall_mem_cons.2 ⟨rfl, (List.forall_mem_cons.2 ⟨rfl, (List.forall_mem_cons.2 ⟨rfl, (fun _ h => absurd h List.not_mem_nil)⟩)⟩)⟩) rfl hu1)))))

theorem resetAx_keeps (s : State) a1 : Keeps 0x2000000041008 s (resetAx s a1) := by
  unfold resetAx
  extract_lets -merge +onlyGivenNames x1
  have h2 : Keeps 0x2000000041008 s x1 := (Keeps.step (dropConds_keeps ..) rfl (Keeps.refl ..))
  clear_value x1
  exact (Keeps.step (setAx_keeps ..) rfl h2)

theorem lioImage_keeps (s : State) a1 : Keeps 0x2000000041008 s (lioImage s a1) := by
  unfold lioImage
  extract_lets -merge +onlyGivenNames x1 x2 x3
  clear_value x1 x2
  have h4 : Keeps 0x2000000041008 s x3 := (Keeps.foldl (Keeps.refl ..) fun _ _ hu5 => (Keeps.ite hu5 (Keeps.step (diStart_keeps ..) rfl hu5)))
  clear_value x3
  exact (Keeps.foldl h4 fun _ _ hu6 => (Keeps.ite hu6 (Keeps.step (resetAx_keeps ..) rfl hu6)))

theorem execOutputWatchdogExpiry_keeps a0 (s : State) : KeepsOut 0x2c00000041048 s (execOutputWatchdogExpiry a0 s) := by
  unfold execOutputWatchdogExpiry
  extract_lets -merge +onlyGivenNames x1
  have h2 : Keeps 0x2c00000041048 s x1 := (Keeps.step (atTime_keeps ..) rfl (Keeps.refl ..))
  clear_value x1
  exact (KeepsOut.ite (by
      extract_lets -merge +onlyGivenNames x3
      have h4 : Keeps 0x2c00000041048 s x3 := (Keeps.step (setLio_keeps ..) rfl (Keeps.bump rfl h2))
      clear_value x3
      extract_lets -merge +onlyGivenNames x5
      have h6 : Keeps 0x2c00000041048 s x5 := (Keeps.raise 14 rfl rfl rfl rfl h4)
      clear_value x5
      exact (KeepsOut.done (Keeps.ite (Keeps.setBit rfl h6) h6))) (KeepsOut.done h2))

theorem faultBegin_keeps (s : State) k info : Keeps 0x2000000001008 s (faultBegin s k info).1 := recordBare_keeps ..

theorem execDoOverload_keeps ch t (s : State) : KeepsOut 0x2400000041048 s (execDoOverload ch t s) := by
  unfold execDoOverload
  extract_lets -merge +onlyGivenNames u
  have h0 : Keeps 0x2400000041048 s u := Keeps.step (atTime_keeps ..) rfl (Keeps.refl ..)
  clear_value u
  extract_lets -merge +onlyGivenNames x
  refine KeepsOut.ite (KeepsOut.done h0) ?_
  have hb : Keeps 0x2400000041048 s (faultBegin u 2 [ch]).1 := Keeps.step (faultBegin_keeps ..) rfl h0
  cases x.ovlRec <;>
    exact KeepsOut.done (Keeps.step (lioFaults_keeps ..) rfl (Keeps.step (setDo_keeps ..) rfl (Keeps.bump rfl (by assumption))))

theorem execDoReadback_keeps ch sense t (s : State) : KeepsOut 0x2400000041048 s (execDoReadback ch sense t s) := by
  unfold execDoReadback
  extract_lets -merge +onlyGivenNames u
  have h0 : Keeps 0x2400000041048 s u := Keeps.step (atTime_keeps ..) rfl (Keeps.refl ..)
  clear_value u
  split
  · exact KeepsOut.done h0
  · extract_lets -merge +onlyGivenNames x
    clear_value x
    refine KeepsOut.ite (KeepsOut.done h0) (KeepsOut.ite (KeepsOut.done ?_) ?_)
    · exact Keeps.step (lioFaults_keeps ..) rfl (Keeps.step (faultEnd_keeps ..) rfl (Keeps.step (setDo_keeps ..) rfl h0))
    · extract_lets -merge +onlyGivenNames n
      clear_value n
      have hb : Keeps 0x2400000041048 s (faultBegin (bump u Reg.LIO_DO_OVL_CNT) 1 [ch]).1 :=
        Keeps.step (faultBegin_keeps ..) rfl (Keeps.bump rfl h0)
      exact KeepsOut.ite (KeepsOut.done (Keeps.step (lioFaults_keeps ..) rfl (Keeps.step (setDo_keeps ..) rfl hb)))
        (KeepsOut.done (Keeps.step (setDo_keeps ..) rfl h0))

theorem execGroupOvercurrent_keeps g t (s : State) : KeepsOut 0x2400000041048 s (execGroupOvercurrent g t s) := by
  unfold execGroupOvercurrent
  extract_lets -merge +onlyGivenNames u
  have h0 : Keeps 0x2400000041048 s u := Keeps.step (atTime_keeps ..) rfl (Keeps.refl ..)
  clear_value u
  extract_lets -merge +onlyGivenNames x
  refine KeepsOut.ite (KeepsOut.done h0) ?_
  have hb : Keeps 0x2400000041048 s (faultBegin u 3 [g]).1 := Keeps.step (faultBegin_keeps ..) rfl h0
  cases x.ocRec <;>
    exact KeepsOut.done (Keeps.step (lioFaults_keeps ..) rfl (Keeps.step (setGrp_keeps ..) rfl (Keeps.bump rfl (by assumption))))

theorem execGroupSupplyLow_keeps g low t (s : State) : KeepsOut 0x2400000041048 s (execGroupSupplyLow g low t s) := by
  unfold execGroupSupplyLow
  extract_lets -merge +onlyGivenNames u
  have h0 : Keeps 0x2400000041048 s u := Keeps.step (atTime_keeps ..) rfl (Keeps.refl ..)
  clear_value u
  extract_lets -merge +onlyGivenNames x
  clear_value x
  have hb : Keeps 0x2400000041048 s (faultBegin u 4 [g]).1 := Keeps.step (faultBegin_keeps ..) rfl h0
  refine KeepsOut.ite (KeepsOut.done h0) (KeepsOut.ite ?_ ?_)
  · exact KeepsOut.done (Keeps.step (lioFaults_keeps ..) rfl (Keeps.step (setGrp_keeps ..) rfl hb))
  · exact KeepsOut.done (Keeps.step (lioFaults_keeps ..) rfl (Keeps.step (faultEnd_keeps ..) rfl (Keeps.step (setGrp_keeps ..) rfl h0)))

theorem setChn_keeps (s : State) a1 : Keeps 0x80000 s (setChn s a1) := by
  unfold setChn
  exact (Keeps.upd_chn rfl (Keeps.refl ..))

theorem setPort_keeps (s : State) a1 a2 : Keeps 0x80000 s (setPort s a1 a2) := by
  unfold setPort
  exact (Keeps.step (setChn_keeps ..) rfl (Keeps.refl ..))

theorem newEpoch_keeps (s : State) a1 a2 : Keeps 0x2100000081008 s (newEpoch s a1 a2) := by
  unfold newEpoch
  extract_lets -merge +onlyGivenNames x1
  clear_value x1
  exact (Keeps.raise 12 rfl rfl rfl rfl (Keeps.step (setPort_keeps ..) rfl (Keeps.refl ..)))

theorem chainLead_keeps (s : State) a1 : Keeps 0x2100000081008 s (chainLead s a1) := by
  unfold chainLead
  extract_lets -merge +onlyGivenNames x1 x2
  clear_value x1
  have h3 : Keeps 0x2100000081008 s x2 := (Keeps.step (setChn_keeps ..) rfl (Keeps.refl ..))
  clear_value x2
  exact (Keeps.foldl h3 fun _ _ hu4 => (by
      extract_lets -merge +onlyGivenNames x5
      clear_value x5
      exact (Keeps.ite (Keeps.step (setPort_keeps ..) rfl hu4) (by
          split
          · exact (Keeps.step (newEpoch_keeps ..) rfl (Keeps.step (setPort_keeps ..) rfl hu4))
          · exact (Keeps.step (setPort_keeps ..) rfl hu4)))))

theorem chainYield_keeps (s : State) a1 : Keeps 0x80000 s (chainYield s a1) := by
  unfold chainYield
  exact (Keeps.step (setChn_keeps ..) rfl (Keeps.refl ..))

theorem setNode_keeps (s : State) a1 a2 a3 : Keeps 0x80000 s (setNode s a1 a2 a3) := by
  unfold setNode
  extract_lets -merge +onlyGivenNames x1
  clear_value x1
  exact (Keeps.step (setPort_keeps ..) rfl (Keeps.refl ..))

theorem nodeLost_keeps (s : State) a1 a2 : Keeps 0x2100400081088 s (nodeLost s a1 a2) := by
  unfold nodeLost
  exact (Keeps.raise 12 rfl rfl rfl rfl (Keeps.step (setNode_keeps ..) rfl (Keeps.step (loseSource_keeps ..) rfl (Keeps.refl ..))))

theorem chainImage_keeps (s : State) a1 : Keeps 0x2100400081088 s (chainImage s a1) := by
  unfold chainImage
  exact (Keeps.foldl (Keeps.refl ..) fun _ _ hu1 => (Keeps.foldl hu1 fun _ _ hu2 => (by
        extract_lets -merge +onlyGivenNames x3 x4 x5
        try clear_value x5
        try clear_value x4
        try clear_value x3
        exact (Keeps.ite (Keeps.ite (Keeps.step (setNode_keeps ..) rfl hu2) (Keeps.step (setNode_keeps ..) rfl hu2)) (Keeps.ite (Keeps.step (nodeLost_keeps ..) rfl (Keeps.step (setNode_keeps ..) rfl hu2)) (Keeps.ite (Keeps.step (setNode_keeps ..) rfl hu2) (Keeps.step (setNode_keeps ..) rfl hu2)))))))

theorem setCan_keeps (s : State) a1 a2 : Keeps 0x100000 s (setCan s a1 a2) := by
  unfold setCan
  exact (Keeps.upd_can rfl (Keeps.refl ..))

theorem modCan_keeps (s : State) a1 a2 : Keeps 0x100000 s (modCan s a1 a2) := by
  unfold modCan
  exact (Keeps.step (setCan_keeps ..) rfl (Keeps.refl ..))

theorem setBuf_keeps (s : State) a1 a2 a3 : Keeps 0x100000 s (setBuf s a1 a2 a3) := by
  unfold setBuf
  exact (Keeps.step (modCan_keeps ..) rfl (Keeps.refl ..))

theorem pendCan_keeps (s : State) a1 a2 a3 : Keeps 0x100000 s (pendCan s a1 a2 a3) := by
  unfold pendCan
  exact (Keeps.step (setBuf_keeps ..) rfl (Keeps.refl ..))

theorem cancelCan_keeps (s : State) a1 a2 : Keeps 0x100000 s (cancelCan s a1 a2) := by
  unfold cancelCan
  extract_lets -merge +onlyGivenNames x1
  clear_value x1
  exact (Keeps.step (setBuf_keeps ..) rfl (Keeps.refl ..))

theorem queueCan_keeps (s : State) a1 a2 a3 : Keeps 0x100000 s (queueCan s a1 a2 a3) := by
  unfold queueCan
  extract_lets -merge +onlyGivenNames x1
  clear_value x1
  exact (by
    split
    · exact (Keeps.step (pendCan_keeps ..) rfl (Keeps.refl ..))
    · exact (Keeps.ite (Keeps.ite (Keeps.step (setBuf_keeps ..) rfl (Keeps.refl ..)) (Keeps.step (pendCan_keeps ..) rfl (Keeps.step (cancelCan_keeps ..) rfl (Keeps.refl ..)))) (Keeps.step (setBuf_keeps ..) rfl (Keeps.refl ..))))

theorem canLead_keeps (s : State) : Keeps 0x100000 s (canLead s) := by
  unfold canLead
  extract_lets -merge +onlyGivenNames x1
  try clear_value x1
  exact (Keeps.foldl (Keeps.refl ..) fun _ _ hu2 => (Keeps.foldl hu2 fun _ _ hu3 => (by
        extract_lets -merge +onlyGivenNames x4 x5
        try clear_value x4
        have h6 : Keeps 0x100000 s x5 := (Keeps.step (setBuf_keeps ..) rfl hu3)
        try clear_value x5
        extract_lets -merge +onlyGivenNames x7
        try clear_value x7
        exact (Keeps.ite (Keeps.step (queueCan_keeps ..) rfl h6) h6))))

theorem canCommit_keeps (s : State) : Keeps 0x100000 s (canCommit s) := by
  unfold canCommit
  exact (Keeps.ite (Keeps.refl ..) (Keeps.foldl (Keeps.refl ..) fun _ _ hu1 => (Keeps.foldl hu1 fun _ _ hu2 => (by
          extract_lets -merge +onlyGivenNames x3
          clear_value x3
          exact (by
            split
            · exact (Keeps.ite (Keeps.step (queueCan_keeps ..) rfl hu2) hu2)
            · exact (Keeps.ite (Keeps.step (queueCan_keeps ..) rfl hu2) hu2)
            · exact hu2)))))

theorem timeMaster_keeps (s : State) a1 a2 : Keeps 0x2200000101008 s (timeMaster s a1 a2) := by
  unfold timeMaster
  exact (Keeps.ite (Keeps.refl ..) (Keeps.raise 13 rfl rfl rfl rfl (Keeps.step (modCan_keeps ..) rfl (Keeps.refl ..))))

theorem ttFreeze_keeps (s : State) a1 : Keeps 0x220000010100c s (ttFreeze s a1) := by
  unfold ttFreeze
  extract_lets -merge +onlyGivenNames x1 x2 x3
  clear_value x1 x2 x3
  exact (Keeps.ite (Keeps.ite (by
        extract_lets -merge +onlyGivenNames x4 x5 x6
        clear_value x4 x5
        have h7 : Keeps 0x220000010100c s x6 := (Keeps.step (setCan_keeps ..) rfl (Keeps.refl ..))
        clear_value x6
        exact (Keeps.step (timeMaster_keeps ..) rfl (Keeps.step (send_keeps ..) rfl h7))) (Keeps.refl ..)) (by
      split
      · exact (by
          extract_lets -merge +onlyGivenNames x8 x9
          clear_value x8 x9
          exact (Keeps.ite (Keeps.step (setCan_keeps ..) rfl (Keeps.refl ..)) (Keeps.refl ..)))
      · exact (Keeps.refl ..)))

theorem canFreeze_keeps (s : State) : Keeps 0x220000010100c s (canFreeze s) := by
  unfold canFreeze
  exact (Keeps.foldl (Keeps.refl ..) fun _ _ hu1 => (by
      extract_lets -merge +onlyGivenNames x2 x3
      try clear_value x2
      have h4 : Keeps 0x220000010100c s x3 := (Keeps.ite (Keeps.step (ttFreeze_keeps ..) rfl hu1) hu1)
      try clear_value x3
      extract_lets -merge +onlyGivenNames x5
      have h6 : Keeps 0x220000010100c s x5 := (Keeps.ite (Keeps.step (modCan_keeps ..) rfl h4) h4)
      try clear_value x5
      exact (Keeps.ite h6 (Keeps.step (modCan_keeps ..) rfl h6))))

theorem setObj_keeps (s : State) a1 a2 a3 : Keeps 0x100000 s (setObj s a1 a2 a3) := by
  unfold setObj
  exact (Keeps.step (modCan_keeps ..) rfl (Keeps.refl ..))

theorem canImage_keeps (s : State) a1 : Keeps 0x100000 s (canImage s a1) := by
  unfold canImage
  exact (Keeps.foldl (Keeps.refl ..) fun _ _ hu1 => (by
      extract_lets -merge +onlyGivenNames x2 x3
      clear_value x2
      have h4 : Keeps 0x100000 s x3 := (Keeps.foldl hu1 fun _ _ hu5 => (Keeps.ite hu5 (Keeps.ite (Keeps.step (setBuf_keeps ..) rfl (Keeps.step (cancelCan_keeps ..) rfl hu5)) (Keeps.step (setBuf_keeps ..) rfl hu5))))
      clear_value x3
      exact (Keeps.foldl h4 fun _ _ hu6 => (Keeps.ite hu6 (Keeps.step (setObj_keeps ..) rfl hu6)))))

theorem collectCan_keeps (s : State) a1 a2 a3 : Keeps 0x2000400101088 s (collectCan s a1 a2 a3) := by
  unfold collectCan
  extract_lets -merge +onlyGivenNames x1 x2 x3
  clear_value x1 x2 x3
  exact (Keeps.ite (Keeps.step (modCan_keeps ..) rfl (Keeps.refl ..)) (by
      extract_lets -merge +onlyGivenNames x4
      clear_value x4
      exact (by
        split
        · exact (Keeps.step (collectTet_keeps ..) rfl (Keeps.refl ..))
        · exact (Keeps.step (collectTet_keeps ..) rfl (Keeps.refl ..))
        · exact (Keeps.step (collectTet_keeps ..) rfl (Keeps.refl ..))
        · exact (Keeps.step (collectAna_keeps ..) rfl (Keeps.refl ..)))))

theorem endLock_keeps (s : State) a1 a2 : Keeps 0x2200000101008 s (endLock s a1 a2) := by
  unfold endLock
  exact (by
    split
    · exact (Keeps.refl ..)
    · exact (by
        extract_lets -merge +onlyGivenNames x1
        have h2 : Keeps 0x2200000101008 s x1 := (Keeps.step (modCan_keeps ..) rfl (Keeps.refl ..))
        clear_value x1
        extract_lets -merge +onlyGivenNames x3 x4 x5 x6
        clear_value x3 x4 x5
        have h7 : Keeps 0x2200000101008 s x6 := (Keeps.step (setObj_keeps ..) rfl h2)
        clear_value x6
        exact (Keeps.ite h7 (Keeps.raise 13 rfl rfl rfl rfl h7))))

theorem errState_keeps (s : State) a1 a2 : Keeps 0x2200400101088 s (errState s a1 a2) := by
  unfold errState
  extract_lets -merge +onlyGivenNames x1 x2 x3
  clear_value x1 x2
  have h4 : Keeps 0x2200400101088 s x3 := (Keeps.ite (Keeps.raise 13 rfl rfl rfl rfl (Keeps.refl ..)) (Keeps.refl ..))
  clear_value x3
  exact (Keeps.ite (by
      extract_lets -merge +onlyGivenNames x5
      have h6 : Keeps 0x2200400101088 s x5 := (Keeps.step (modCan_keeps ..) rfl h4)
      clear_value x5
      extract_lets -merge +onlyGivenNames x7
      have h8 : Keeps 0x2200400101088 s x7 := (Keeps.raise 13 rfl rfl rfl rfl (Keeps.wrField rfl h6))
      clear_value x7
      exact (Keeps.step (loseSource_keeps ..) rfl h8)) h4)

theorem execBusOffRecovery_keeps a0 a1 (s : State) : KeepsOut 0x200000100040 s (execBusOffRecovery a0 a1 s) := by
  unfold execBusOffRecovery
  extract_lets -merge +onlyGivenNames x1
  have h2 : Keeps 0x200000100040 s x1 := (Keeps.step (atTime_keeps ..) rfl (Keeps.refl ..))
  clear_value x1
  extract_lets -merge +onlyGivenNames x3
  clear_value x3
  exact (KeepsOut.ite (KeepsOut.done (Keeps.wrField rfl (Keeps.step (setCan_keeps ..) rfl h2))) (KeepsOut.done h2))

theorem execCanArbitrationStart_keeps a0 a1 a2 (s : State) : KeepsOut 0x100040 s (execCanArbitrationStart a0 a1 a2 s) := by
  unfold execCanArbitrationStart
  extract_lets -merge +onlyGivenNames x1
  have h2 : Keeps 0x100040 s x1 := (Keeps.step (atTime_keeps ..) rfl (Keeps.refl ..))
  clear_value x1
  extract_lets -merge +onlyGivenNames x3
  clear_value x3
  exact (KeepsOut.ite (KeepsOut.done (Keeps.step (setBuf_keeps ..) rfl h2)) (KeepsOut.done h2))

theorem execCanBusError_keeps a0 a1 a2 (s : State) : KeepsOut 0x22004001010c8 s (execCanBusError a0 a1 a2 s) := by
  unfold execCanBusError
  extract_lets -merge +onlyGivenNames x1
  have h2 : Keeps 0x22004001010c8 s x1 := (Keeps.step (atTime_keeps ..) rfl (Keeps.refl ..))
  clear_value x1
  exact (KeepsOut.ite (KeepsOut.done h2) (by
      extract_lets -merge +onlyGivenNames x3 x4
      clear_value x3
      have h5 : Keeps 0x22004001010c8 s x4 := (Keeps.step (modCan_keeps ..) rfl h2)
      clear_value x4
      exact (KeepsOut.done (Keeps.step (errState_keeps ..) rfl h5))))

theorem execCanCancel_keeps a0 a1 (s : State) : KeepsOut 0x620001010180a s (execCanCancel a0 a1 s) := by
  unfold execCanCancel
  exact (KeepsOut.done (Keeps.keyedBit rfl (Keeps.refl ..) (fun _ hu1 => (by
      extract_lets -merge +onlyGivenNames x2 x3
      clear_value x2 x3
      exact (Keeps.ite hu1 (Keeps.ite (Keeps.raise 13 rfl rfl rfl rfl hu1) (Keeps.step (cancelCan_keeps ..) rfl (Keeps.step (accepted_keeps ..) rfl hu1))))))))

theorem execCanClrCnt_keeps a0 (s : State) : KeepsOut 0x600001010180a s (execCanClrCnt a0 s) := by
  unfold execCanClrCnt
  exact (KeepsOut.done (Keeps.keyedBit rfl (Keeps.refl ..) (fun _ hu1 => (by
      extract_lets -merge +onlyGivenNames x2
      have h3 : Keeps 0x600001010180a s x2 := (Keeps.foldl hu1 fun _ _ hu4 => (Keeps.step (modCan_keeps ..) rfl hu4))
      clear_value x2
      exact (Keeps.step (cleared_keeps ..) rfl h3)))))

theorem hearRef_keeps (s : State) a1 a2 : Keeps 0x2200000101008 s (hearRef s a1 a2) := by
  unfold hearRef
  extract_lets -merge +onlyGivenNames x1
  have h2 : Keeps 0x2200000101008 s x1 := (Keeps.step (modCan_keeps ..) rfl (Keeps.refl ..))
  clear_value x1
  exact (Keeps.step (timeMaster_keeps ..) rfl h2)

theorem unknownCan_keeps (s : State) a1 a2 : Keeps 0x2200000101008 s (unknownCan s a1 a2) := by
  unfold unknownCan
  extract_lets -merge +onlyGivenNames x1 x2 x3
  clear_value x1 x2
  have h4 : Keeps 0x2200000101008 s x3 := (Keeps.setBit rfl (Keeps.step (setCan_keeps ..) rfl (Keeps.refl ..)))
  clear_value x3
  extract_lets -merge +onlyGivenNames x5
  clear_value x5
  exact (Keeps.ite (Keeps.step (record_keeps ..) rfl (Keeps.step (modCan_keeps ..) rfl h4)) h4)

theorem storeCan_keeps (s : State) a1 a2 a3 : Keeps 0x100000 s (storeCan s a1 a2 a3) := by
  unfold storeCan
  extract_lets -merge +onlyGivenNames x1 x2 x3
  clear_value x1 x2 x3
  exact (Keeps.ite (Keeps.step (setObj_keeps ..) rfl (Keeps.refl ..)) (Keeps.step (setObj_keeps ..) rfl (Keeps.refl ..)))

theorem execCanFrameReceived_keeps a0 a1 (s : State) : KeepsOut 0x22014001014c8 s (execCanFrameReceived a0 a1 s) := by
  unfold execCanFrameReceived
  extract_lets -merge +onlyGivenNames x1
  have h2 : Keeps 0x22014001014c8 s x1 := (Keeps.step (atTime_keeps ..) rfl (Keeps.refl ..))
  clear_value x1
  exact (KeepsOut.ite (KeepsOut.done h2) (by
      extract_lets -merge +onlyGivenNames x3
      have h4 : Keeps 0x22014001014c8 s x3 := (Keeps.step (modCan_keeps ..) rfl h2)
      clear_value x3
      exact (KeepsOut.ite (KeepsOut.done (Keeps.step (modCan_keeps ..) rfl h4)) (by
          extract_lets -merge +onlyGivenNames x5
          have h6 : Keeps 0x22014001014c8 s x5 := (Keeps.ite (Keeps.step (hearRef_keeps ..) rfl h4) h4)
          clear_value x5
          extract_lets -merge +onlyGivenNames x7
          have h8 : Keeps 0x22014001014c8 s x7 := (Keeps.foldl h6 fun _ _ hu9 => (Keeps.ite (Keeps.step (setBuf_keeps ..) rfl hu9) hu9))
          clear_value x7
          exact (by
            split
            · exact (KeepsOut.ite (KeepsOut.done h8) (KeepsOut.done (Keeps.step (unknownCan_keeps ..) rfl h8)))
            · exact (KeepsOut.ite (KeepsOut.done (Keeps.step (modCan_keeps ..) rfl h8)) (by
                  extract_lets -merge +onlyGivenNames x10
                  have h11 : Keeps 0x22014001014c8 s x10 := (Keeps.foldl h8 fun _ _ hu12 => (Keeps.step (collectCan_keeps ..) rfl hu12))
                  clear_value x10
                  extract_lets -merge +onlyGivenNames x13
                  have h14 : Keeps 0x22014001014c8 s x13 := by
                    unfold x13
                    exact (by
                      split
                      · exact (Keeps.step (putTelegram_keeps ..) rfl h11)
                      · exact h11)
                  clear_value x13
                  exact (KeepsOut.done (Keeps.step (storeCan_keeps ..) rfl h14)))))))))

theorem execCanLockTimeout_keeps a0 a1 (s : State) : KeepsOut 0x2200000101048 s (execCanLockTimeout a0 a1 s) := by
  unfold execCanLockTimeout
  extract_lets -merge +onlyGivenNames x1
  have h2 : Keeps 0x2200000101048 s x1 := (Keeps.step (atTime_keeps ..) rfl (Keeps.refl ..))
  clear_value x1
  exact (by
    split
    · exact (KeepsOut.ite (KeepsOut.done (Keeps.step (endLock_keeps ..) rfl h2)) (KeepsOut.done h2))
    · exact (KeepsOut.done h2))

theorem execCanRecover_keeps a0 (s : State) : KeepsOut 0x600001010180a s (execCanRecover a0 s) := by
  unfold execCanRecover
  exact (KeepsOut.done (Keeps.keyed rfl (Keeps.refl ..) (fun _ hu1 => (Keeps.ite hu1 (Keeps.foldl (Keeps.step (accepted_keeps ..) rfl hu1) fun _ _ hu2 => (Keeps.ite (Keeps.step (modCan_keeps ..) rfl hu2) hu2))))))

theorem execCanRxTimeout_keeps a0 a1 a2 (s : State) : KeepsOut 0x22004001010c8 s (execCanRxTimeout a0 a1 a2 s) := by
  unfold execCanRxTimeout
  extract_lets -merge +onlyGivenNames x1
  have h2 : Keeps 0x22004001010c8 s x1 := (Keeps.step (atTime_keeps ..) rfl (Keeps.refl ..))
  clear_value x1
  extract_lets -merge +onlyGivenNames x3 x4
  clear_value x3 x4
  exact (KeepsOut.ite (KeepsOut.done (Keeps.raise 13 rfl rfl rfl rfl (Keeps.step (loseSource_keeps ..) rfl (Keeps.step (setObj_keeps ..) rfl h2)))) (KeepsOut.done h2))

theorem execCanRxoW19_keeps a0 a1 (s : State) : KeepsOut 0x220000010104a s (execCanRxoW19 a0 a1 s) := by
  unfold execCanRxoW19
  extract_lets -merge +onlyGivenNames x1
  have h2 : Keeps 0x220000010104a s x1 := (Keeps.step (atTime_keeps ..) rfl (Keeps.refl ..))
  clear_value x1
  exact (KeepsOut.done (Keeps.step (answer_keeps ..) rfl (Keeps.step (endLock_keeps ..) rfl h2)))

theorem nextCan_keeps (s : State) a1 a2 : Keeps 0x100000 s (nextCan s a1 a2) := by
  unfold nextCan
  extract_lets -merge +onlyGivenNames x1
  clear_value x1
  exact (by
    split
    · exact (Keeps.step (pendCan_keeps ..) rfl (Keeps.step (setBuf_keeps ..) rfl (Keeps.refl ..)))
    · exact (Keeps.refl ..))

theorem execCanTxDone_keeps a0 a1 a2 (s : State) : KeepsOut 0x100044 s (execCanTxDone a0 a1 a2 s) := by
  unfold execCanTxDone
  extract_lets -merge +onlyGivenNames x1
  have h2 : Keeps 0x100044 s x1 := (Keeps.step (atTime_keeps ..) rfl (Keeps.refl ..))
  clear_value x1
  extract_lets -merge +onlyGivenNames x3
  clear_value x3
  exact (by
    split
    · exact (KeepsOut.done h2)
    · exact (KeepsOut.ite (KeepsOut.done h2) (by
          extract_lets -merge +onlyGivenNames x4 x5
          clear_value x4
          have h6 : Keeps 0x100044 s x5 := (Keeps.step (send_keeps ..) rfl h2)
          clear_value x5
          extract_lets -merge +onlyGivenNames x7
          have h8 : Keeps 0x100044 s x7 := (Keeps.step (modCan_keeps ..) rfl h6)
          clear_value x7
          extract_lets -merge +onlyGivenNames x9
          have h10 : Keeps 0x100044 s x9 := (Keeps.step (setBuf_keeps ..) rfl h8)
          clear_value x9
          exact (KeepsOut.done (Keeps.step (nextCan_keeps ..) rfl h10)))))

theorem execCanTxError_keeps a0 a1 a2 a3 (s : State) : KeepsOut 0x22004001010c8 s (execCanTxError a0 a1 a2 a3 s) := by
  unfold execCanTxError
  extract_lets -merge +onlyGivenNames x1
  have h2 : Keeps 0x22004001010c8 s x1 := (Keeps.step (atTime_keeps ..) rfl (Keeps.refl ..))
  clear_value x1
  extract_lets -merge +onlyGivenNames x3
  clear_value x3
  exact (KeepsOut.ite (KeepsOut.done h2) (by
      extract_lets -merge +onlyGivenNames x4 x5
      clear_value x4
      have h6 : Keeps 0x22004001010c8 s x5 := (Keeps.step (setBuf_keeps ..) rfl h2)
      clear_value x5
      extract_lets -merge +onlyGivenNames x7
      have h8 : Keeps 0x22004001010c8 s x7 := (Keeps.ite h6 (Keeps.step (modCan_keeps ..) rfl h6))
      clear_value x7
      extract_lets -merge +onlyGivenNames x9
      have h10 : Keeps 0x22004001010c8 s x9 := (Keeps.ite (Keeps.step (nextCan_keeps ..) rfl (Keeps.step (cancelCan_keeps ..) rfl h8)) h8)
      clear_value x9
      exact (KeepsOut.done (Keeps.step (errState_keeps ..) rfl h10))))

theorem execCanTxLifetime_keeps a0 a1 a2 (s : State) : KeepsOut 0x100040 s (execCanTxLifetime a0 a1 a2 s) := by
  unfold execCanTxLifetime
  extract_lets -merge +onlyGivenNames x1
  have h2 : Keeps 0x100040 s x1 := (Keeps.step (atTime_keeps ..) rfl (Keeps.refl ..))
  clear_value x1
  extract_lets -merge +onlyGivenNames x3 x4
  clear_value x3 x4
  exact (KeepsOut.ite (KeepsOut.ite (KeepsOut.done (Keeps.step (setBuf_keeps ..) rfl h2)) (KeepsOut.done (Keeps.step (cancelCan_keeps ..) rfl h2))) (KeepsOut.done h2))

theorem ttJudge_keeps (s : State) a1 : Keeps 0x2200000101008 s (ttJudge s a1) := by
  unfold ttJudge
  exact (by
    split
    · exact (Keeps.refl ..)
    · exact (by
        extract_lets -merge +onlyGivenNames x1
        have h2 : Keeps 0x2200000101008 s x1 := (Keeps.step (modCan_keeps ..) rfl (Keeps.refl ..))
        clear_value x1
        exact (Keeps.ite (Keeps.raise 13 rfl rfl rfl rfl (Keeps.step (modCan_keeps ..) rfl h2)) h2)))

theorem execTtTimeMark_keeps a0 a1 a2 (s : State) : KeepsOut 0x2200000101048 s (execTtTimeMark a0 a1 a2 s) := by
  unfold execTtTimeMark
  extract_lets -merge +onlyGivenNames x1
  have h2 : Keeps 0x2200000101048 s x1 := (Keeps.step (atTime_keeps ..) rfl (Keeps.refl ..))
  clear_value x1
  extract_lets -merge +onlyGivenNames x3
  clear_value x3
  exact (KeepsOut.ite (KeepsOut.done h2) (by
      extract_lets -merge +onlyGivenNames x4
      have h5 : Keeps 0x2200000101048 s x4 := (Keeps.step (ttJudge_keeps ..) rfl h2)
      clear_value x4
      exact (by
        split
        · exact (KeepsOut.done h5)
        · exact (by
            split
            · exact (KeepsOut.done (Keeps.step (modCan_keeps ..) rfl h5))
            · exact (KeepsOut.done h5)
            · exact (KeepsOut.ite (KeepsOut.done (Keeps.foldl h5 fun _ _ hu6 => (Keeps.step (pendCan_keeps ..) rfl hu6))) (KeepsOut.done h5))))))

theorem execCanRxoSel_keeps c k (s : State) : KeepsOut 0x620001010180a s (execCanRxoSel c k s) := by
  unfold execCanRxoSel
  refine KeepsOut.done (Keeps.written rfl (Keeps.refl ..) fun u hu => ?_)
  extract_lets a new
  exact Keeps.step (settingWritten_keeps ..) rfl (Keeps.wrOf (Reg.CAN_RXO_SEL_block ..) rfl (Keeps.step (endLock_keeps ..) rfl hu))

theorem execCanRxoW0_keeps c t (s : State) : KeepsOut 0x200000100042 s (execCanRxoW0 c t s) := by
  unfold execCanRxoW0
  extract_lets -merge +onlyGivenNames u n ws s1 s2
  have h1 : Keeps 0x200000100042 s s1 := Keeps.step (modCan_keeps ..) rfl (Keeps.step (atTime_keeps ..) rfl (Keeps.refl ..))
  have h2 : Keeps 0x200000100042 s s2 := by
    have hall : ∀ l : List Nat, (∀ i ∈ l, i < 20) → ∀ v, Keeps 0x200000100042 s v →
        Keeps 0x200000100042 s (l.foldl (fun u i => wr u (Reg.CAN_RXO_W0 c + 4 * i) (ws.getD i 0)) v) := by
      intro l
      induction l with
      | nil => exact fun _ _ h => h
      | cons i l ih =>
        intro hl v hv
        refine ih (fun x hx => hl x (List.mem_cons_of_mem _ hx)) _ (Keeps.wrOf (b := 13) ?_ rfl hv)
        have := hl i (List.mem_cons_self ..)
        unfold Reg.CAN_RXO_W0 blockOf bitsOf
        omega
    exact hall (upto 20) (by simp [upto]) s1 h1
  clear_value s2
  exact KeepsOut.done (Keeps.step (answer_keeps ..) rfl h2)

end Sys2Proof.Machine
end

