-- ==== Sys2Proof/Laws/KeepsPair.lean ====
section
/-! SUPPORT. What each operation of Lead, Relabel, TimeOps, Pair can change: one lemma for each (Laws/Keeps.lean says what Keeps means).
The mask names the parts by Part.bit. -/

namespace Sys2Proof.Machine

open Sys2Proof

theorem setStn_keeps (s : State) a1 : Keeps 0x4000000 s (setStn s a1) := by
  unfold setStn
  exact (Keeps.upd_stn rfl (Keeps.refl ..))

theorem stationLead_keeps (s : State) : Keeps 0x2020004001008 s (stationLead s) := by
  unfold stationLead
  exact (Keeps.ite (Keeps.refl ..) (by
      extract_lets -merge +onlyGivenNames x1
      clear_value x1
      exact (Keeps.raise 9 rfl rfl rfl rfl (Keeps.step (setStn_keeps ..) rfl (Keeps.refl ..)))))

theorem onLead_keeps (s : State) a1 : Keeps 0x21200041c1008 s (onLead s a1) := by
  unfold onLead
  exact (Keeps.step (stationLead_keeps ..) rfl (Keeps.step (canLead_keeps ..) rfl (Keeps.step (chainLead_keeps ..) rfl (Keeps.step (burdenLead_keeps ..) rfl (Keeps.refl ..)))))

theorem stationYield_keeps (s : State) : Keeps 0x2020004001008 s (stationYield s) := by
  unfold stationYield
  exact (Keeps.ite (Keeps.refl ..) (Keeps.raise 9 rfl rfl rfl rfl (Keeps.step (setStn_keeps ..) rfl (Keeps.refl ..))))

theorem onYieldLead_keeps (s : State) a1 : Keeps 0x20210040c1408 s (onYieldLead s a1) := by
  unfold onYieldLead
  exact (Keeps.step (stationYield_keeps ..) rfl (Keeps.step (chainYield_keeps ..) rfl (Keeps.step (hartLost_keeps ..) rfl (Keeps.step (burdenLead_keeps ..) rfl (Keeps.refl ..)))))

theorem gratuitousArp_keeps (s : State) : Keeps 0x4000004 s (gratuitousArp s) := by
  unfold gratuitousArp
  exact (Keeps.ite (Keeps.refl ..) (Keeps.foldl (Keeps.step (setStn_keeps ..) rfl (Keeps.refl ..)) fun _ _ hu1 => (Keeps.step (ethSend_keeps ..) rfl hu1)))

theorem onGrant_keeps (s : State) a1 : Keeps 0x40000 s (onGrant s a1) := by
  unfold onGrant
  exact (Keeps.step (grantLatchIo_keeps ..) rfl (Keeps.refl ..))

theorem relabelPe_keeps a0 a1 (s : State) : Keeps 0x2000000 s (relabelPe a0 a1 s) := by
  unfold relabelPe
  exact (Keeps.upd_pe rfl (Keeps.refl ..))

theorem relabelSvi_keeps a0 a1 (s : State) : Keeps 0x1000000 s (relabelSvi a0 a1 s) := by
  unfold relabelSvi
  extract_lets -merge +onlyGivenNames x1 x2 x3
  clear_value x1 x2 x3
  exact (Keeps.upd_svi rfl (Keeps.refl ..))

theorem relabelTime_keeps a0 (s : State) : Keeps 0x200000 s (relabelTime a0 s) := by
  unfold relabelTime
  extract_lets -merge +onlyGivenNames x1
  clear_value x1
  exact (Keeps.upd_tim rfl (Keeps.refl ..))

theorem relabelField_keeps a0 a1 (s : State) : Keeps 0x1c0000 s (relabelField a0 a1 s) := by
  unfold relabelField
  extract_lets -merge +onlyGivenNames x1
  clear_value x1
  exact (Keeps.upd_lio_chn_can rfl (Keeps.refl ..))

theorem relabelCare_keeps a0 (s : State) : Keeps 0x3c000 s (relabelCare a0 s) := by
  unfold relabelCare
  extract_lets -merge +onlyGivenNames x1 x2
  clear_value x1 x2
  exact (Keeps.upd_saf_olc_frc_upd rfl (Keeps.refl ..))

theorem relabelPair_keeps a0 a1 (s : State) : Keeps 0x2000 s (relabelPair a0 a1 s) := by
  unfold relabelPair
  extract_lets -merge +onlyGivenNames x1 x2 x3 x4 x5 x6
  clear_value x2 x3 x4 x5 x6
  exact (Keeps.upd_pair (.inr rfl) rfl (Keeps.refl ..))

theorem relabelSched_keeps a0 a1 (s : State) : Keeps 0x1700 s (relabelSched a0 a1 s) := by
  unfold relabelSched
  exact (Keeps.upd_sched_le_fbx_rcd (by first | exact fun h => h | exact fun _ => Nat.zero_le _) rfl (Keeps.refl ..))

theorem relabelGrid_keeps a0 a1 (s : State) : Keeps 0xc0 s (relabelGrid a0 a1 s) := by
  unfold relabelGrid
  extract_lets -merge +onlyGivenNames x1
  clear_value x1
  exact (Keeps.upd_grid_sig (fun h => h) (.inr rfl) (by first | exact fun h => h | exact fun _ => Nat.le_of_ble_eq_true rfl) (Nat.le_refl _) (.inr rfl) rfl (Keeps.refl ..))

theorem relabel_keeps (s : State) a1 : Keeps 0x33ff7c0 s (relabel s a1) := by
  unfold relabel
  extract_lets -merge +onlyGivenNames x1 x2
  clear_value x1 x2
  exact (Keeps.ite (Keeps.refl ..) (Keeps.step (relabelPe_keeps ..) rfl (Keeps.step (relabelSvi_keeps ..) rfl (Keeps.step (relabelTime_keeps ..) rfl (Keeps.step (relabelField_keeps ..) rfl (Keeps.step (relabelCare_keeps ..) rfl (Keeps.step (relabelPair_keeps ..) rfl (Keeps.step (relabelSched_keeps ..) rfl (Keeps.step (relabelGrid_keeps ..) rfl (Keeps.refl ..))))))))))

theorem setTim_keeps (s : State) a1 : Keeps 0x200000 s (setTim s a1) := by
  unfold setTim
  exact (Keeps.upd_tim rfl (Keeps.refl ..))

theorem utcRefresh_keeps (s : State) : Keeps 0x200000 s (utcRefresh s) := by
  unfold utcRefresh
  exact (by
    split
    · exact (Keeps.step (setTim_keeps ..) rfl (Keeps.refl ..))
    · exact (Keeps.refl ..))

theorem timRefresh_keeps (s : State) : Keeps 0x2080000201048 s (timRefresh s) := by
  unfold timRefresh
  extract_lets -merge +onlyGivenNames x1
  have h2 : Keeps 0x2080000201048 s x1 := (Keeps.step (utcRefresh_keeps ..) rfl (Keeps.refl ..))
  clear_value x1
  extract_lets -merge +onlyGivenNames x3 x4
  clear_value x3
  have h5 : Keeps 0x2080000201048 s x4 := (Keeps.ite (Keeps.step (setTim_keeps ..) rfl h2) h2)
  clear_value x4
  extract_lets -merge +onlyGivenNames x6 x7 x8
  clear_value x6
  have h9 : Keeps 0x2080000201048 s x8 := (Keeps.upd_grid (by first | exact fun h => h | exact fun _ => Nat.le_of_ble_eq_true rfl) (Nat.le_refl _) (.inr rfl) rfl h5)
  clear_value x8
  extract_lets -merge +onlyGivenNames x10 x11
  clear_value x10
  have h12 : Keeps 0x2080000201048 s x11 := (Keeps.wrField rfl (Keeps.wrField rfl h9))
  clear_value x11
  extract_lets -merge +onlyGivenNames x13
  have h14 : Keeps 0x2080000201048 s x13 := (Keeps.ite h12 (Keeps.raise 11 rfl rfl rfl rfl h12))
  clear_value x13
  extract_lets -merge +onlyGivenNames x15 x16
  clear_value x15
  have h17 : Keeps 0x2080000201048 s x16 := (Keeps.ite h14 (Keeps.raise 11 rfl rfl rfl rfl h14))
  clear_value x16
  extract_lets -merge +onlyGivenNames x18 x19 x20
  clear_value x18 x19
  have h21 : Keeps 0x2080000201048 s x20 := (Keeps.wr rfl (Keeps.wr rfl h17))
  clear_value x20
  exact (Keeps.wr rfl (Keeps.wr rfl h21))

theorem timStart_keeps (s : State) : Keeps 0x2080000201048 s (timStart s) := by
  unfold timStart
  extract_lets -merge +onlyGivenNames x1
  have h2 : Keeps 0x2080000201048 s x1 := (Keeps.step (setTim_keeps ..) rfl (Keeps.refl ..))
  clear_value x1
  exact (Keeps.step (timRefresh_keeps ..) rfl (Keeps.wr rfl (Keeps.wrField rfl h2)))

theorem setLaunchQ_keeps (s : State) a1 a2 : Keeps 0x200000 s (setLaunchQ s a1 a2) := by
  unfold setLaunchQ
  exact (Keeps.step (setTim_keeps ..) rfl (Keeps.refl ..))

theorem enqueue_keeps (s : State) a1 a2 : Keeps 0x2080000201008 s (enqueue s a1 a2) := by
  unfold enqueue
  extract_lets -merge +onlyGivenNames x1
  clear_value x1
  exact (Keeps.ite (Keeps.step (recordBare_keeps ..) rfl (Keeps.addField rfl (Keeps.refl ..))) (by
      extract_lets -merge +onlyGivenNames x2
      clear_value x2
      exact (Keeps.step (setLaunchQ_keeps ..) rfl (Keeps.refl ..))))

theorem followOfs_keeps (s : State) a1 a2 : Keeps 0x2000200201048 s (followOfs s a1 a2) := by
  unfold followOfs
  extract_lets -merge +onlyGivenNames x1
  have h2 : Keeps 0x2000200201048 s x1 := (Keeps.step (setTim_keeps ..) rfl (Keeps.refl ..))
  clear_value x1
  exact (Keeps.ite h2 (Keeps.raise 1 rfl rfl rfl rfl (Keeps.upd_grid (by first | exact fun h => h | exact fun _ => Nat.le_of_ble_eq_true rfl) (Nat.le_refl _) (.inr rfl) rfl h2)))

theorem firstLock_keeps (s : State) a1 : Keeps 0x20002033ff7c8 s (firstLock s a1) := by
  unfold firstLock
  extract_lets -merge +onlyGivenNames x1 x2 x3 x4
  clear_value x1 x2
  have h5 : Keeps 0x20002033ff7c8 s x4 := (Keeps.step (relabel_keeps ..) rfl (Keeps.upd_grid (by first | exact fun h => h | exact fun _ => Nat.le_of_ble_eq_true rfl) (Nat.le_refl _) (.inr rfl) rfl (Keeps.refl ..)))
  clear_value x4
  extract_lets -merge +onlyGivenNames x6 x7
  clear_value x6
  have h8 : Keeps 0x20002033ff7c8 s x7 := (Keeps.ite (Keeps.raise 1 rfl rfl rfl rfl h5) (Keeps.step (recordBare_keeps ..) rfl h5))
  clear_value x7
  exact (Keeps.step (followOfs_keeps ..) rfl h8)

theorem selectBase_keeps (s : State) a1 : Keeps 0x20802033ff7c8 s (selectBase s a1) := by
  unfold selectBase
  extract_lets -merge +onlyGivenNames x1
  clear_value x1
  exact (Keeps.ite (Keeps.refl ..) (by
      extract_lets -merge +onlyGivenNames x2
      have h3 : Keeps 0x20802033ff7c8 s x2 := (Keeps.raise 1 rfl rfl rfl rfl (Keeps.raise 11 rfl rfl rfl rfl (Keeps.wrField rfl (Keeps.refl ..))))
      clear_value x2
      exact (Keeps.ite (Keeps.step (setTim_keeps ..) rfl h3) (Keeps.ite (Keeps.step (firstLock_keeps ..) rfl h3) (Keeps.step (followOfs_keeps ..) rfl h3)))))

theorem dropControl_keeps (s : State) : Keeps 0x80000200000 s (dropControl s) := by
  unfold dropControl
  exact (Keeps.foldl (Keeps.refl ..) fun _ _ hu1 => (by
      extract_lets -merge +onlyGivenNames x2 x3
      try clear_value x2
      have h4 : Keeps 0x80000200000 s x3 := (Keeps.addField rfl hu1)
      try clear_value x3
      exact (Keeps.step (setLaunchQ_keeps ..) rfl h4)))

theorem setInst_keeps (s : State) a1 a2 : Keeps 0x200000 s (setInst s a1 a2) := by
  unfold setInst
  exact (Keeps.step (setTim_keeps ..) rfl (Keeps.refl ..))

theorem okTick_keeps (s : State) a1 : Keeps 0x200000 s (okTick s a1) := by
  unfold okTick
  extract_lets -merge +onlyGivenNames x1 x2
  clear_value x1 x2
  exact (Keeps.ite (Keeps.refl ..) (Keeps.step (setInst_keeps ..) rfl (Keeps.refl ..)))

theorem timSelect_keeps (s : State) : Keeps 0x20802033ff7c8 s (timSelect s) := by
  unfold timSelect
  extract_lets -merge +onlyGivenNames x1
  have h2 : Keeps 0x20802033ff7c8 s x1 := (Keeps.step (okTick_keeps ..) rfl (Keeps.step (okTick_keeps ..) rfl (Keeps.refl ..)))
  clear_value x1
  extract_lets -merge +onlyGivenNames x3
  clear_value x3
  exact (Keeps.ite (Keeps.ite (Keeps.step (selectBase_keeps ..) rfl h2) h2) (Keeps.ite h2 (by
        extract_lets -merge +onlyGivenNames x4 x5 x6
        clear_value x4 x5 x6
        exact (Keeps.ite (Keeps.step (selectBase_keeps ..) rfl h2) (Keeps.ite (Keeps.step (selectBase_keeps ..) rfl h2) (Keeps.step (selectBase_keeps ..) rfl h2))))))

theorem gridAdjust_keeps (s : State) : Keeps 0x200040 s (gridAdjust s) := by
  unfold gridAdjust
  extract_lets -merge +onlyGivenNames x1 x2 x3
  clear_value x1 x2
  have h4 : Keeps 0x200040 s x3 := (Keeps.step (setTim_keeps ..) rfl (Keeps.refl ..))
  clear_value x3
  exact (Keeps.ite (Keeps.upd_grid (by first | exact fun h => h | exact fun _ => Nat.le_of_ble_eq_true rfl) (Nat.le_refl _) (.inr rfl) rfl h4) h4)

theorem timFreeze_keeps (s : State) : Keeps 0x20802033ff7c8 s (timFreeze s) := by
  unfold timFreeze
  exact (Keeps.step (timRefresh_keeps ..) rfl (Keeps.step (timSelect_keeps ..) rfl (Keeps.step (gridAdjust_keeps ..) rfl (Keeps.refl ..))))

theorem abortSwitch_keeps (s : State) a1 : Keeps 0x200800080300a s (abortSwitch s a1) := by
  unfold abortSwitch
  extract_lets -merge +onlyGivenNames x1 x2 x3
  clear_value x1 x2
  have h4 : Keeps 0x200800080300a s x3 := (Keeps.ite (Keeps.upd_slot rfl (Keeps.refl ..)) (Keeps.refl ..))
  clear_value x3
  exact (Keeps.step (refuseSwitch_keeps ..) rfl (Keeps.setPair (.inr fun _ => rfl) rfl h4))

theorem applyRole_keeps (s : State) : Keeps 0x4a5298841eb608 s (applyRole s) := by
  unfold applyRole
  exact (by
    split
    · exact (Keeps.refl ..)
    · exact (by
        extract_lets -merge +onlyGivenNames x1 x2
        clear_value x1
        have h3 : Keeps 0x4a5298841eb608 s x2 := (Keeps.step (takeRole_keeps ..) rfl (Keeps.setPair (.inr fun _ => rfl) rfl (Keeps.refl ..)))
        clear_value x2
        exact (Keeps.ite (Keeps.step (onLead_keeps ..) rfl h3) (Keeps.ite (Keeps.step (onYieldLead_keeps ..) rfl h3) h3))))

theorem raiseYield_keeps (s : State) : Keeps 0x2000 s (raiseYield s) := by
  unfold raiseYield
  exact (by
    split
    · exact (Keeps.ite (Keeps.setPair (.inr fun _ => rfl) rfl (Keeps.refl ..)) (Keeps.refl ..))
    · exact (Keeps.refl ..))

theorem showSwitch_keeps (s : State) a1 a2 a3 : Keeps 0x8000000000 s (showSwitch s a1 a2 a3) := by
  unfold showSwitch
  exact (Keeps.wr rfl (Keeps.refl ..))

theorem completeSwitch_keeps (s : State) a1 : Keeps 0x4a5298841eb608 s (completeSwitch s a1) := by
  unfold completeSwitch
  extract_lets -merge +onlyGivenNames x1
  have h2 : Keeps 0x4a5298841eb608 s x1 := (Keeps.setPair (.inr fun _ => rfl) rfl (Keeps.refl ..))
  clear_value x1
  extract_lets -merge +onlyGivenNames x3
  have h4 : Keeps 0x4a5298841eb608 s x3 := (Keeps.addField rfl (Keeps.step (showSwitch_keeps ..) rfl h2))
  clear_value x3
  extract_lets -merge +onlyGivenNames x5
  have h6 : Keeps 0x4a5298841eb608 s x5 := (Keeps.raise 7 rfl rfl rfl rfl h4)
  clear_value x5
  exact (Keeps.ite (Keeps.ite (Keeps.step (onYieldLead_keeps ..) rfl (Keeps.step (takeRoleAt_keeps ..) rfl h6)) (by
        extract_lets -merge +onlyGivenNames x7
        have h8 : Keeps 0x4a5298841eb608 s x7 := (Keeps.step (onYieldLead_keeps ..) rfl (Keeps.step (takeRoleAt_keeps ..) rfl (Keeps.ite h6 (Keeps.step (markLifeDrop_keeps ..) rfl h6))))
        clear_value x7
        exact (Keeps.ite (Keeps.setPair (.inr fun _ => rfl) rfl h8) h8))) (Keeps.step (onLead_keeps ..) rfl (Keeps.step (takeRoleAt_keeps ..) rfl h6)))

theorem countTakeover_keeps (s : State) a1 a2 : Keeps 0x2008000001008 s (countTakeover s a1 a2) := by
  unfold countTakeover
  extract_lets -merge +onlyGivenNames x1
  have h2 : Keeps 0x2008000001008 s x1 := (Keeps.peakField rfl (Keeps.addField rfl (Keeps.step (showSwitch_keeps ..) rfl (Keeps.refl ..))))
  clear_value x1
  exact (Keeps.raise 7 rfl rfl rfl rfl h2)

theorem decideJoin_keeps (s : State) : Keeps 0x2000000003008 s (decideJoin s) := by
  unfold decideJoin
  extract_lets -merge +onlyGivenNames x1
  exact (Keeps.ite (Keeps.refl ..) (Keeps.ite (Keeps.ite (Keeps.refl ..) (Keeps.step (recordBare_keeps ..) rfl (Keeps.setPair (.inr fun _ => rfl) rfl (Keeps.refl ..)))) (Keeps.ite (Keeps.step (requestRole_keeps ..) rfl (Keeps.refl ..)) (Keeps.ite (Keeps.step (requestRole_keeps ..) rfl (Keeps.refl ..)) (Keeps.refl ..)))))

theorem enterJoin_keeps (s : State) : Keeps 0xa000000003008 s (enterJoin s) := by
  unfold enterJoin
  exact (Keeps.step (decideJoin_keeps ..) rfl (Keeps.setPair (.inr fun _ => rfl) rfl (Keeps.step (enterStage_keeps ..) rfl (Keeps.refl ..))))

theorem failClasp_keeps (s : State) a1 : Keeps 0x2008000003008 s (failClasp s a1) := by
  unfold failClasp
  extract_lets -merge +onlyGivenNames x1
  have h2 : Keeps 0x2008000003008 s x1 := (Keeps.setPair (.inr fun _ => rfl) rfl (Keeps.refl ..))
  clear_value x1
  extract_lets -merge +onlyGivenNames x3
  have h4 : Keeps 0x2008000003008 s x3 := (Keeps.addField rfl (Keeps.wrField rfl h2))
  clear_value x3
  exact (Keeps.raise 7 rfl rfl rfl rfl h4)

theorem execClaspFail_keeps a0 a1 (s : State) : KeepsOut 0x2008000003048 s (execClaspFail a0 a1 s) := by
  unfold execClaspFail
  extract_lets -merge +onlyGivenNames x1
  have h2 : Keeps 0x2008000003048 s x1 := (Keeps.step (atTime_keeps ..) rfl (Keeps.refl ..))
  clear_value x1
  exact (KeepsOut.ite (KeepsOut.ite (KeepsOut.done (Keeps.setPair (.inr fun _ => rfl) rfl h2)) (KeepsOut.done (Keeps.step (failClasp_keeps ..) rfl h2))) (KeepsOut.done h2))

theorem execClaspFailClear_keeps a0 (s : State) : KeepsOut 0x2008000003048 s (execClaspFailClear a0 s) := by
  unfold execClaspFailClear
  extract_lets -merge +onlyGivenNames x1
  have h2 : Keeps 0x2008000003048 s x1 := (Keeps.step (atTime_keeps ..) rfl (Keeps.refl ..))
  clear_value x1
  extract_lets -merge +onlyGivenNames x3
  exact (KeepsOut.ite (KeepsOut.done (Keeps.raise 7 rfl rfl rfl rfl (Keeps.setPair (.inr fun _ => rfl) rfl h2))) (KeepsOut.done h2))

theorem execDetachWaitEnd_keeps a0 (s : State) : KeepsOut 0x2040 s (execDetachWaitEnd a0 s) := by
  unfold execDetachWaitEnd
  extract_lets -merge +onlyGivenNames x1
  have h2 : Keeps 0x2040 s x1 := (Keeps.step (atTime_keeps ..) rfl (Keeps.refl ..))
  clear_value x1
  exact (by
    split
    · exact (KeepsOut.ite (by
          extract_lets -merge +onlyGivenNames x3
          have h4 : Keeps 0x2040 s x3 := (Keeps.setPair (.inr fun _ => rfl) rfl h2)
          clear_value x3
          exact (KeepsOut.ite (KeepsOut.done h4) (KeepsOut.done (Keeps.step (requestRole_keeps ..) rfl h4)))) (KeepsOut.done h2))
    · exact (KeepsOut.done h2))

theorem switchTick_keeps (s : State) : Keeps 0x200800080300a s (switchTick s) := by
  unfold switchTick
  exact (by
    split
    · exact (Keeps.ite (Keeps.step (abortSwitch_keeps ..) rfl (Keeps.refl ..)) (Keeps.refl ..))
    · exact (Keeps.refl ..))

theorem killEnds_keeps (s : State) : Keeps 0x2008000003008 s (killEnds s) := by
  unfold killEnds
  extract_lets -merge +onlyGivenNames x1
  have h2 : Keeps 0x2008000003008 s x1 := (Keeps.setPair (.inr fun _ => rfl) rfl (Keeps.refl ..))
  clear_value x1
  exact (Keeps.ite (Keeps.setPair (.inr fun _ => rfl) rfl h2) (Keeps.raise 7 rfl rfl rfl rfl (Keeps.addField rfl h2)))

theorem grantGained_keeps (s : State) a1 : Keeps 0x2008000043008 s (grantGained s a1) := by
  unfold grantGained
  extract_lets -merge +onlyGivenNames x1
  exact (Keeps.ite (by
      extract_lets -merge +onlyGivenNames x2
      have h3 : Keeps 0x2008000043008 s x2 := (Keeps.setPair (.inr fun _ => rfl) rfl (Keeps.refl ..))
      clear_value x2
      exact (by
        split
        · exact (Keeps.ite h3 (Keeps.step (onGrant_keeps ..) rfl (Keeps.setPair (.inr fun _ => rfl) rfl h3)))
        · exact (Keeps.step (decideJoin_keeps ..) rfl h3)
        · exact h3)) (Keeps.step (failClasp_keeps ..) rfl (Keeps.refl ..)))

theorem grantLost_keeps (s : State) a1 : Keeps 0x2088000203008 s (grantLost s a1) := by
  unfold grantLost
  exact (Keeps.ite (Keeps.step (dropControl_keeps ..) rfl (Keeps.setPair (.inr fun _ => rfl) rfl (Keeps.refl ..))) (Keeps.step (failClasp_keeps ..) rfl (Keeps.refl ..)))

theorem seeLines_keeps (s : State) a1 a2 : Keeps 0x2088000243048 s (seeLines s a1 a2) := by
  unfold seeLines
  extract_lets -merge +onlyGivenNames x1
  have h2 : Keeps 0x2088000243048 s x1 := (Keeps.step (atTime_keeps ..) rfl (Keeps.refl ..))
  clear_value x1
  extract_lets -merge +onlyGivenNames x3 x4 x5 x6
  clear_value x4 x5
  have h7 : Keeps 0x2088000243048 s x6 := (Keeps.setPair (.inr fun _ => rfl) rfl h2)
  clear_value x6
  exact (Keeps.ite h7 (by
      extract_lets -merge +onlyGivenNames x8
      have h9 : Keeps 0x2088000243048 s x8 := (Keeps.ite (Keeps.setPair (.inr fun _ => rfl) rfl h7) (Keeps.ite (Keeps.step (killEnds_keeps ..) rfl h7) h7))
      clear_value x8
      exact (Keeps.ite (Keeps.step (failClasp_keeps ..) rfl h9) (Keeps.ite (Keeps.step (grantGained_keeps ..) rfl h9) (Keeps.ite (Keeps.step (grantLost_keeps ..) rfl h9) h9)))))

theorem execGrantLineChange_keeps a0 a1 (s : State) : KeepsOut 0x2088000243048 s (execGrantLineChange a0 a1 s) := by
  unfold execGrantLineChange
  exact (KeepsOut.done (Keeps.step (seeLines_keeps ..) rfl (Keeps.refl ..)))

theorem execJoinDecision_keeps a0 (s : State) : KeepsOut 0xa000000003048 s (execJoinDecision a0 s) := by
  unfold execJoinDecision
  extract_lets -merge +onlyGivenNames x1
  have h2 : Keeps 0xa000000003048 s x1 := (Keeps.step (atTime_keeps ..) rfl (Keeps.refl ..))
  clear_value x1
  exact (KeepsOut.ite (KeepsOut.ite (KeepsOut.done (Keeps.step (enterJoin_keeps ..) rfl h2)) (KeepsOut.done (Keeps.step (decideJoin_keeps ..) rfl h2))) (KeepsOut.done h2))

theorem execJoinRetry_keeps a0 (s : State) : KeepsOut 0xa000000003048 s (execJoinRetry a0 s) := by
  unfold execJoinRetry
  extract_lets -merge +onlyGivenNames x1
  have h2 : Keeps 0xa000000003048 s x1 := (Keeps.step (atTime_keeps ..) rfl (Keeps.refl ..))
  clear_value x1
  exact (by
    split
    · exact (KeepsOut.ite (KeepsOut.done (Keeps.step (enterJoin_keeps ..) rfl h2)) (KeepsOut.done h2))
    · exact (KeepsOut.done h2))

theorem execJoinWaitExpiry_keeps a0 (s : State) : KeepsOut 0x2000000003048 s (execJoinWaitExpiry a0 s) := by
  unfold execJoinWaitExpiry
  exact (KeepsOut.done (Keeps.step (decideJoin_keeps ..) rfl (Keeps.step (atTime_keeps ..) rfl (Keeps.refl ..))))

theorem execKillLineChange_keeps a0 a1 (s : State) : KeepsOut 0x2088000243048 s (execKillLineChange a0 a1 s) := by
  unfold execKillLineChange
  exact (KeepsOut.done (Keeps.step (seeLines_keeps ..) rfl (Keeps.refl ..)))

theorem execKillQualified_keeps a0 (s : State) : KeepsOut 0x2008000003048 s (execKillQualified a0 s) := by
  unfold execKillQualified
  extract_lets -merge +onlyGivenNames x1
  have h2 : Keeps 0x2008000003048 s x1 := (Keeps.step (atTime_keeps ..) rfl (Keeps.refl ..))
  clear_value x1
  extract_lets -merge +onlyGivenNames x3
  exact (by
    split
    · exact (KeepsOut.done h2)
    · exact (KeepsOut.ite (by
          extract_lets -merge +onlyGivenNames x4
          have h5 : Keeps 0x2008000003048 s x4 := (Keeps.setPair (.inr fun _ => rfl) rfl h2)
          clear_value x4
          extract_lets -merge +onlyGivenNames x6
          have h7 : Keeps 0x2008000003048 s x6 := (Keeps.raise 7 rfl rfl rfl rfl (Keeps.addField rfl h5))
          clear_value x6
          exact (KeepsOut.done (Keeps.step (requestRole_keeps ..) rfl (Keeps.step (startFlush_keeps ..) rfl h7)))) (KeepsOut.done h2)))

theorem learnFails_keeps (s : State) : Keeps 0xa008000003008 s (learnFails s) := by
  unfold learnFails
  extract_lets -merge +onlyGivenNames x1 x2
  clear_value x1
  have h3 : Keeps 0xa008000003008 s x2 := (Keeps.setPair (.inr fun _ => rfl) rfl (Keeps.refl ..))
  clear_value x2
  exact (Keeps.step (requestRole_keeps ..) rfl (Keeps.raise 7 rfl rfl rfl rfl (Keeps.step (enterStage_keeps ..) rfl h3)))

theorem execLearnTimeout_keeps a0 (s : State) : KeepsOut 0xa008000003048 s (execLearnTimeout a0 s) := by
  unfold execLearnTimeout
  extract_lets -merge +onlyGivenNames x1
  have h2 : Keeps 0xa008000003048 s x1 := (Keeps.step (atTime_keeps ..) rfl (Keeps.refl ..))
  clear_value x1
  exact (KeepsOut.ite (KeepsOut.done (Keeps.step (learnFails_keeps ..) rfl h2)) (KeepsOut.done h2))

theorem partnerReported_keeps (s : State) a1 : Keeps 0x4200800000b008 s (partnerReported s a1) := by
  unfold partnerReported
  extract_lets -merge +onlyGivenNames x1 x2
  clear_value x1
  have h3 : Keeps 0x4200800000b008 s x2 := (Keeps.setPair (.inr fun _ => rfl) rfl (Keeps.refl ..))
  clear_value x2
  extract_lets -merge +onlyGivenNames x4
  have h5 : Keeps 0x4200800000b008 s x4 := (Keeps.ite (Keeps.raise 7 rfl rfl rfl rfl h3) h3)
  clear_value x4
  extract_lets -merge +onlyGivenNames x6
  have h7 : Keeps 0x4200800000b008 s x6 := (Keeps.ite (Keeps.step (autoDisarm_keeps ..) rfl h5) h5)
  clear_value x6
  exact (by
    split
    · exact (Keeps.ite (Keeps.step (requestRole_keeps ..) rfl h7) h7)
    · exact (Keeps.ite (Keeps.step (requestRole_keeps ..) rfl h7) h7)
    · exact (Keeps.step (decideJoin_keeps ..) rfl h7)
    · exact (Keeps.ite (Keeps.step (reLearn_keeps ..) rfl h7) h7))

theorem execLinkUpCount_keeps a0 (s : State) : KeepsOut 0x2040 s (execLinkUpCount a0 s) := by
  unfold execLinkUpCount
  extract_lets -merge +onlyGivenNames x1
  have h2 : Keeps 0x2040 s x1 := (Keeps.step (atTime_keeps ..) rfl (Keeps.refl ..))
  clear_value x1
  exact (KeepsOut.ite (KeepsOut.done (Keeps.step (requestRole_keeps ..) rfl h2)) (KeepsOut.done h2))

theorem Keeps.pairKeyed {M : Nat} {s t : State} {c : Cmd} {f : State → State}
    (hm : (0x600801000180A &&& M) = 0x600801000180A) (h : Keeps M s t) (hf : ∀ u, Keeps M s u → Keeps M s (f u)) :
    Keeps M s (pairKeyed t c f) := by
  unfold Machine.pairKeyed
  refine Keeps.written ?_ h fun u hu => ?_
  · have h1 : (0x600001000180A &&& 0x600801000180A) = 0x600001000180A := rfl
    rw [← h1, Nat.and_assoc, hm]
  · exact Keeps.ite (hf u hu) (Keeps.step (m := 0x600801000180A) (t := u) (Keeps.wrField rfl (Keeps.mono (keyWrong_keeps ..) rfl)) hm hu)

theorem execPairClrCnt_keeps a0 (s : State) : KeepsOut 0x600801000180a s (execPairClrCnt a0 s) := by
  unfold execPairClrCnt
  exact (KeepsOut.done (Keeps.pairKeyed rfl (Keeps.refl ..) (fun _ hu1 => (Keeps.ite hu1 (by
        extract_lets -merge +onlyGivenNames x2
        have h3 : Keeps 0x600801000180a s x2 := (Keeps.zeroRegs (b := 7) (List.forall_mem_cons.2 ⟨rfl, (List.forall_mem_cons.2 ⟨rfl, (List.forall_mem_cons.2 ⟨rfl, (List.forall_mem_cons.2 ⟨rfl, (List.forall_mem_cons.2 ⟨rfl, (List.forall_mem_cons.2 ⟨rfl, (fun _ h => absurd h List.not_mem_nil)⟩)⟩)⟩)⟩)⟩)⟩) rfl hu1)
        clear_value x2
        exact (Keeps.step (cleared_keeps ..) rfl (Keeps.wrField rfl h3)))))))

theorem execPairRejoin_keeps a0 (s : State) : KeepsOut 0xe00801000380a s (execPairRejoin a0 s) := by
  unfold execPairRejoin
  exact (KeepsOut.done (Keeps.pairKeyed rfl (Keeps.refl ..) (fun _ hu1 => (Keeps.ite hu1 (by
        extract_lets -merge +onlyGivenNames x2 x3
        clear_value x2
        have h4 : Keeps 0xe00801000380a s x3 := (Keeps.wrField rfl (Keeps.setPair (.inr fun _ => rfl) rfl (Keeps.step (accepted_keeps ..) rfl hu1)))
        clear_value x3
        exact (by
          split
          · exact (Keeps.ite (Keeps.step (enterJoin_keeps ..) rfl h4) h4)
          · exact (Keeps.step (reLearn_keeps ..) rfl h4)
          · exact (Keeps.step (reLearn_keeps ..) rfl h4)
          · exact h4))))))

theorem execPairSwitch_keeps a0 (s : State) : KeepsOut 0x600801000380e s (execPairSwitch a0 s) := by
  unfold execPairSwitch
  exact (KeepsOut.done (Keeps.pairKeyed rfl (Keeps.refl ..) (fun _ hu1 => (Keeps.ite hu1 (Keeps.ite (Keeps.step (refuseSwitch_keeps ..) rfl hu1) (Keeps.ite (Keeps.step (refuseSwitch_keeps ..) rfl hu1) (Keeps.step (startSwitch_keeps ..) rfl (Keeps.step (accepted_keeps ..) rfl hu1))))))))

theorem execReLearn_keeps a0 (s : State) : KeepsOut 0xa0000000037c8 s (execReLearn a0 s) := by
  unfold execReLearn
  extract_lets -merge +onlyGivenNames x1
  have h2 : Keeps 0xa0000000037c8 s x1 := (Keeps.step (atTime_keeps ..) rfl (Keeps.refl ..))
  clear_value x1
  exact (by
    split
    · exact (KeepsOut.ite (KeepsOut.done (Keeps.step (enterJoin_keeps ..) rfl (Keeps.step (initRun_keeps ..) rfl (Keeps.wrField rfl h2)))) (KeepsOut.done h2))
    · exact (KeepsOut.done h2))

theorem execSwitchoverEval_keeps a0 (s : State) : KeepsOut 0x4a5298849eb64a s (execSwitchoverEval a0 s) := by
  unfold execSwitchoverEval
  extract_lets -merge +onlyGivenNames x1
  have h2 : Keeps 0x4a5298849eb64a s x1 := (Keeps.step (atTime_keeps ..) rfl (Keeps.refl ..))
  clear_value x1
  exact (by
    split
    · exact (KeepsOut.done h2)
    · exact (KeepsOut.ite (KeepsOut.done h2) (by
          extract_lets -merge +onlyGivenNames x3 x4
          clear_value x3 x4
          exact (KeepsOut.ite (KeepsOut.done (Keeps.step (completeSwitch_keeps ..) rfl h2)) (KeepsOut.done (Keeps.step (abortSwitch_keeps ..) rfl h2))))))

theorem execTakeover_keeps a0 a1 (s : State) : KeepsOut 0x4a5288841eb2c8 s (execTakeover a0 a1 s) := by
  unfold execTakeover
  extract_lets -merge +onlyGivenNames x1
  have h2 : Keeps 0x4a5288841eb2c8 s x1 := (Keeps.step (atTime_keeps ..) rfl (Keeps.refl ..))
  clear_value x1
  extract_lets -merge +onlyGivenNames x3
  exact (KeepsOut.ite (by
      extract_lets -merge +onlyGivenNames x4 x5
      have h6 : Keeps 0x4a5288841eb2c8 s x5 := (Keeps.upd_sig (fun h => h) (.inr rfl) rfl h2)
      clear_value x5
      extract_lets -merge +onlyGivenNames x7
      have h8 : Keeps 0x4a5288841eb2c8 s x7 := (Keeps.step (takeRole_keeps ..) rfl (Keeps.setPair (.inr fun _ => rfl) rfl h6))
      clear_value x7
      extract_lets -merge +onlyGivenNames x9
      have h10 : Keeps 0x4a5288841eb2c8 s x9 := (Keeps.foldl h8 fun _ _ hu11 => (Keeps.step (recordBare_keeps ..) rfl hu11))
      clear_value x9
      exact (KeepsOut.done (Keeps.step (onLead_keeps ..) rfl (Keeps.step (countTakeover_keeps ..) rfl h10)))) (KeepsOut.done h2))

theorem execTokelLinkLost_keeps a0 a1 (s : State) : KeepsOut 0x4200800000b048 s (execTokelLinkLost a0 a1 s) := by
  unfold execTokelLinkLost
  extract_lets -merge +onlyGivenNames x1
  have h2 : Keeps 0x4200800000b048 s x1 := (Keeps.step (atTime_keeps ..) rfl (Keeps.refl ..))
  clear_value x1
  exact (KeepsOut.ite (KeepsOut.done h2) (by
      extract_lets -merge +onlyGivenNames x3
      have h4 : Keeps 0x4200800000b048 s x3 := (Keeps.setPair (.inr fun _ => rfl) rfl h2)
      clear_value x3
      extract_lets -merge +onlyGivenNames x5
      have h6 : Keeps 0x4200800000b048 s x5 := (Keeps.step (raiseA_keeps ..) rfl (Keeps.addField rfl h4))
      clear_value x5
      exact (KeepsOut.done (Keeps.step (autoDisarm_keeps ..) rfl h6))))

theorem execWarmTakeover_keeps a0 a1 (s : State) : KeepsOut 0x7fffff841eb7c8 s (execWarmTakeover a0 a1 s) := by
  unfold execWarmTakeover
  extract_lets -merge +onlyGivenNames x1
  have h2 : Keeps 0x7fffff841eb7c8 s x1 := (Keeps.step (atTime_keeps ..) rfl (Keeps.refl ..))
  clear_value x1
  extract_lets -merge +onlyGivenNames x3
  exact (KeepsOut.ite (by
      extract_lets -merge +onlyGivenNames x4
      have h5 : Keeps 0x7fffff841eb7c8 s x4 := (Keeps.step (takeRole_keeps ..) rfl (Keeps.setPair (.inr fun _ => rfl) rfl (Keeps.step (warmInPlace_keeps ..) rfl h2)))
      clear_value x4
      exact (KeepsOut.done (Keeps.step (onLead_keeps ..) rfl (Keeps.step (countTakeover_keeps ..) rfl (Keeps.step (reachRun_keeps ..) rfl h5))))) (KeepsOut.done h2))

end Sys2Proof.Machine
end

