-- ==== Sys2Proof/Laws/KeepsChange.lean ====
section
/-! SUPPORT. What each operation of Forces, Ingress, Change can change: one lemma for each (Laws/Keeps.lean says what Keeps means).
The mask names the parts by Part.bit. -/

namespace Sys2Proof.Machine

open Sys2Proof

theorem forceRecord_keeps (s : State) a1 a2 a3 a4 a5 : Keeps 0x22000000001008 s (forceRecord s a1 a2 a3 a4 a5) := by
  unfold forceRecord
  exact (Keeps.raise 21 rfl rfl rfl rfl (Keeps.wr rfl (Keeps.refl ..)))

theorem recommit_keeps (s : State) a1 : Keeps 0x80 s (recommit s a1) := by
  unfold recommit
  exact (Keeps.ite (Keeps.refl ..) (by
      extract_lets -merge +onlyGivenNames x1 x2
      clear_value x1 x2
      exact (Keeps.ite (by
          extract_lets -merge +onlyGivenNames x3 x4
          clear_value x3 x4
          exact (Keeps.step (collectGot_keeps ..) rfl (Keeps.upd_sig (fun h => h) (.inr rfl) rfl (Keeps.refl ..)))) (by
          extract_lets -merge +onlyGivenNames x5
          clear_value x5
          exact (Keeps.step (collectGot_keeps ..) rfl (Keeps.upd_sig (fun h => h) (.inr rfl) rfl (Keeps.refl ..)))))))

theorem putForce_keeps (s : State) a1 : Keeps 0x22000000011088 s (putForce s a1) := by
  unfold putForce
  extract_lets -merge +onlyGivenNames x1 x2
  clear_value x1 x2
  exact (by
    split
    · exact (Keeps.refl ..)
    · exact (by
        extract_lets -merge +onlyGivenNames x3 x4 x5
        clear_value x3 x4
        have h6 : Keeps 0x22000000011088 s x5 := (Keeps.upd_frc rfl (Keeps.refl ..))
        clear_value x5
        exact (Keeps.step (forceRecord_keeps ..) rfl (Keeps.step (recommit_keeps ..) rfl h6))))

theorem dropForce_keeps (s : State) a1 a2 a3 : Keeps 0x22000000011088 s (dropForce s a1 a2 a3) := by
  unfold dropForce
  exact (by
    split
    · exact (Keeps.refl ..)
    · exact (by
        extract_lets -merge +onlyGivenNames x1 x2
        clear_value x1
        have h3 : Keeps 0x22000000011088 s x2 := (Keeps.upd_frc rfl (Keeps.refl ..))
        clear_value x2
        exact (Keeps.step (forceRecord_keeps ..) rfl (Keeps.step (recommit_keeps ..) rfl h3))))

theorem applyForce_keeps (s : State) a1 a2 : Keeps 0x22000000011088 s (applyForce s a1 a2) := by
  unfold applyForce
  extract_lets -merge +onlyGivenNames x1
  clear_value x1
  exact (by
    split
    · exact (Keeps.ite (Keeps.step (putForce_keeps ..) rfl (Keeps.refl ..)) (Keeps.refl ..))
    · exact (Keeps.ite (by
          split
          · exact (Keeps.step (dropForce_keeps ..) rfl (Keeps.refl ..))
          · exact (Keeps.refl ..)) (Keeps.refl ..))
    · exact (Keeps.foldl (Keeps.refl ..) fun _ _ hu2 => (Keeps.ite (Keeps.step (dropForce_keeps ..) rfl hu2) hu2)))

theorem execForceEffect_keeps a0 (s : State) : KeepsOut 0x220000000110c8 s (execForceEffect a0 s) := by
  unfold execForceEffect
  extract_lets -merge +onlyGivenNames x1
  have h2 : Keeps 0x220000000110c8 s x1 := (Keeps.step (atTime_keeps ..) rfl (Keeps.refl ..))
  clear_value x1
  extract_lets -merge +onlyGivenNames x3 x4
  clear_value x3 x4
  exact (KeepsOut.ite (KeepsOut.done (Keeps.foldl h2 fun _ _ hu5 => (Keeps.step (applyForce_keeps ..) rfl hu5))) (KeepsOut.ite (by
        extract_lets -merge +onlyGivenNames x6
        have h7 : Keeps 0x220000000110c8 s x6 := (Keeps.foldl h2 fun _ _ hu8 => (Keeps.step (applyForce_keeps ..) rfl hu8))
        clear_value x6
        exact (KeepsOut.done (Keeps.upd_frc rfl h7))) (KeepsOut.done h2)))

theorem execForceExpiry_keeps a0 (s : State) : KeepsOut 0x220000000110c8 s (execForceExpiry a0 s) := by
  unfold execForceExpiry
  extract_lets -merge +onlyGivenNames x1
  have h2 : Keeps 0x220000000110c8 s x1 := (Keeps.step (atTime_keeps ..) rfl (Keeps.refl ..))
  clear_value x1
  exact (KeepsOut.done (Keeps.foldl h2 fun _ _ hu3 => (by
      split
      · exact (Keeps.ite (Keeps.step (dropForce_keeps ..) rfl hu3) hu3)
      · exact hu3)))

theorem refuseForce_keeps (s : State) a1 a2 : Keeps 0x2200000000100a s (refuseForce s a1 a2) := by
  unfold refuseForce
  exact (Keeps.step (refuse_keeps ..) rfl (Keeps.setBit rfl (Keeps.wrField rfl (Keeps.refl ..))))

theorem requestForce_keeps (s : State) a1 a2 : Keeps 0x2200000001100e s (requestForce s a1 a2) := by
  unfold requestForce
  extract_lets -merge +onlyGivenNames x1
  clear_value x1
  exact (Keeps.ite (Keeps.step (refuseForce_keeps ..) rfl (Keeps.refl ..)) (by
      extract_lets -merge +onlyGivenNames x2
      clear_value x2
      exact (Keeps.ite (Keeps.step (refuseForce_keeps ..) rfl (Keeps.refl ..)) (by
          extract_lets -merge +onlyGivenNames x3 x4 x5 x6
          clear_value x3 x4 x5
          have h7 : Keeps 0x2200000001100e s x6 := (Keeps.upd_frc rfl (Keeps.refl ..))
          clear_value x6
          exact (Keeps.ite (Keeps.step (tokel_keeps ..) rfl h7) (Keeps.step (accepted_keeps ..) rfl h7))))))

theorem forceCmd_keeps (s : State) a1 a2 a3 : Keeps 0x2600001001180e s (forceCmd s a1 a2 a3) := by
  unfold forceCmd
  exact (Keeps.written rfl (Keeps.refl ..) (fun _ hu1 => (Keeps.ite (Keeps.setBit rfl (Keeps.wrField rfl (Keeps.step (keyWrong_keeps ..) rfl hu1))) (Keeps.ite hu1 (Keeps.step (requestForce_keeps ..) rfl hu1)))))

theorem execForceRelease_keeps a0 (s : State) : KeepsOut 0x2600001001180e s (execForceRelease a0 s) := by
  unfold execForceRelease
  exact (KeepsOut.done (Keeps.step (forceCmd_keeps ..) rfl (Keeps.refl ..)))

theorem execForceReleaseAll_keeps a0 (s : State) : KeepsOut 0x2600001001180e s (execForceReleaseAll a0 s) := by
  unfold execForceReleaseAll
  exact (KeepsOut.done (Keeps.step (forceCmd_keeps ..) rfl (Keeps.refl ..)))

theorem execForceSet_keeps a0 (s : State) : KeepsOut 0x2600001001180e s (execForceSet a0 s) := by
  unfold execForceSet
  exact (KeepsOut.done (Keeps.step (forceCmd_keeps ..) rfl (Keeps.refl ..)))

theorem forceAnswered_keeps (s : State) a1 a2 : Keeps 0x2200000001100e s (forceAnswered s a1 a2) := by
  unfold forceAnswered
  exact (by
    split
    · exact (Keeps.refl ..)
    · exact (by
        extract_lets -merge +onlyGivenNames x1
        clear_value x1
        exact (Keeps.ite (Keeps.upd_frc rfl (Keeps.refl ..)) (Keeps.step (tokel_keeps ..) rfl (Keeps.step (refuseForce_keeps ..) rfl (Keeps.upd_frc rfl (Keeps.refl ..)))))))

theorem forceTick_keeps (s : State) : Keeps 0x2200000001100e s (forceTick s) := by
  unfold forceTick
  exact (Keeps.foldl (Keeps.refl ..) fun _ _ hu1 => (Keeps.step (forceAnswered_keeps ..) rfl hu1))

theorem forceMirrored_keeps (s : State) a1 : Keeps 0x10004 s (forceMirrored s a1) := by
  unfold forceMirrored
  exact (Keeps.ite (Keeps.step (tokel_keeps ..) rfl (Keeps.upd_frc rfl (Keeps.refl ..))) (Keeps.refl ..))

theorem forceWithdrawn_keeps (s : State) a1 : Keeps 0x10000 s (forceWithdrawn s a1) := by
  unfold forceWithdrawn
  exact (Keeps.upd_frc rfl (Keeps.refl ..))

theorem setSvi_keeps (s : State) a1 : Keeps 0x1000000 s (setSvi s a1) := by
  unfold setSvi
  exact (Keeps.upd_svi rfl (Keeps.refl ..))

theorem setStream_keeps (s : State) a1 a2 : Keeps 0x1000000 s (setStream s a1 a2) := by
  unfold setStream
  exact (Keeps.step (setSvi_keeps ..) rfl (Keeps.refl ..))

theorem svEnter_keeps (s : State) a1 a2 a3 a4 : Keeps 0x2004401001088 s (svEnter s a1 a2 a3 a4) := by
  unfold svEnter
  exact (Keeps.ite (Keeps.step (setStream_keeps ..) rfl (Keeps.refl ..)) (by
      extract_lets -merge +onlyGivenNames x1
      have h2 : Keeps 0x2004401001088 s x1 := (Keeps.step (setStream_keeps ..) rfl (Keeps.refl ..))
      clear_value x1
      extract_lets -merge +onlyGivenNames x3 x4
      have h5 : Keeps 0x2004401001088 s x4 := (Keeps.ite (Keeps.upd_sig (fun h => h) (.inr rfl) rfl h2) h2)
      clear_value x4
      exact (by
        split
        · exact (Keeps.raise 6 rfl rfl rfl rfl h5)
        · exact (Keeps.step (loseSource_keeps ..) rfl (Keeps.raise 6 rfl rfl rfl rfl h5))
        · exact (Keeps.raise 6 rfl rfl rfl rfl h5)
        · exact (Keeps.ite h5 (Keeps.raise 6 rfl rfl rfl rfl h5))
        · exact h5)))

theorem svGap_keeps (s : State) a1 a2 a3 : Keeps 0x2004401001088 s (svGap s a1 a2 a3) := by
  unfold svGap
  exact (Keeps.ite (Keeps.step (setStream_keeps ..) rfl (Keeps.refl ..)) (by
      extract_lets -merge +onlyGivenNames x1
      clear_value x1
      exact (Keeps.ite (Keeps.step (svEnter_keeps ..) rfl (Keeps.refl ..)) (Keeps.step (setStream_keeps ..) rfl (Keeps.refl ..)))))

theorem svRelease_keeps (s : State) a1 a2 a3 : Keeps 0x2004401001088 s (svRelease s a1 a2 a3) := by
  unfold svRelease
  exact (by
    split
    · exact (Keeps.refl ..)
    · exact (Keeps.ite (Keeps.refl ..) (by
          extract_lets -merge +onlyGivenNames x1 x2
          try clear_value x2
          try clear_value x1
          exact (by
            split
            · exact (Keeps.ite (by
                  extract_lets -merge +onlyGivenNames x3
                  try clear_value x3
                  exact (Keeps.step (svEnter_keeps ..) rfl (Keeps.refl ..))) (Keeps.refl ..))
            · exact (by
                extract_lets -merge +onlyGivenNames x4 x5 x6
                try clear_value x5
                try clear_value x4
                have h7 : ∀ (u : State), Keeps 0x2004401001088 s u → Keeps 0x2004401001088 s (x6 u) := fun u hu8 => by
                  unfold x6
                  exact (Keeps.ite (Keeps.step (setStream_keeps ..) rfl hu8) (Keeps.step (svGap_keeps ..) rfl hu8))
                try clear_value x6
                exact (by
                  split
                  · exact (Keeps.ite (by
                        extract_lets -merge +onlyGivenNames x9
                        try clear_value x9
                        exact (Keeps.raise 6 rfl rfl rfl rfl (Keeps.step (setStream_keeps ..) rfl (Keeps.refl ..)))) (h7 _ (Keeps.refl ..)))
                  · exact (h7 _ (Keeps.refl ..))))))))

theorem svResample_keeps (s : State) a1 a2 : Keeps 0x1000008 s (svResample s a1 a2) := by
  unfold svResample
  exact (by
    split
    · exact (Keeps.refl ..)
    · exact (by
        extract_lets -merge +onlyGivenNames x1 x2 x3
        clear_value x1 x2
        have h4 : ∀ (u : State) y1, Keeps 0x1000008 s u → Keeps 0x1000008 s (x3 u y1) := fun u y1 hu5 => by
          unfold x3
          exact (Keeps.step (setStream_keeps ..) rfl hu5)
        clear_value x3
        exact (Keeps.ite (h4 _ _ (Keeps.refl ..)) (by
            extract_lets -merge +onlyGivenNames x6 x7 x8 x9
            clear_value x6 x7 x8 x9
            exact (h4 _ _ (Keeps.upd_freeN rfl (Keeps.refl ..)))))))

theorem svMaps_keeps (s : State) : Keeps 0x4000000000 s (svMaps s) := by
  unfold svMaps
  extract_lets -merge +onlyGivenNames x1 x2
  clear_value x1
  have h3 : Keeps 0x4000000000 s x2 := (Keeps.foldl (Keeps.refl ..) fun _ _ hu4 => (Keeps.wrOf (Reg.SVI_OKMAPn_block ..) rfl hu4))
  clear_value x2
  exact (Keeps.wrField rfl h3)

theorem sviSubscribe_keeps (s : State) a1 : Keeps 0x4001000000 s (sviSubscribe s a1) := by
  unfold sviSubscribe
  extract_lets -merge +onlyGivenNames x1 x2
  clear_value x1
  have h3 : Keeps 0x4001000000 s x2 := (Keeps.step (setSvi_keeps ..) rfl (Keeps.refl ..))
  clear_value x2
  extract_lets -merge +onlyGivenNames x4
  have h5 : Keeps 0x4001000000 s x4 := (Keeps.foldl h3 fun _ _ hu6 => (by
        split
        · exact (Keeps.ite (Keeps.step (setStream_keeps ..) rfl hu6) (Keeps.step (setStream_keeps ..) rfl hu6))
        · exact (Keeps.step (setStream_keeps ..) rfl hu6)))
  clear_value x4
  exact (Keeps.step (svMaps_keeps ..) rfl (Keeps.wrField rfl (Keeps.wrField rfl h5)))

theorem sviImage_keeps (s : State) a1 : Keeps 0x4001000000 s (sviImage s a1) := by
  unfold sviImage
  exact (Keeps.step (sviSubscribe_keeps ..) rfl (Keeps.refl ..))

theorem execStreamErrorTimeout_keeps a0 a1 (s : State) : KeepsOut 0x20044010010c8 s (execStreamErrorTimeout a0 a1 s) := by
  unfold execStreamErrorTimeout
  extract_lets -merge +onlyGivenNames x1
  have h2 : Keeps 0x20044010010c8 s x1 := (Keeps.step (atTime_keeps ..) rfl (Keeps.refl ..))
  clear_value x1
  exact (by
    split
    · exact (KeepsOut.ite (KeepsOut.done (Keeps.step (svEnter_keeps ..) rfl h2)) (KeepsOut.done h2))
    · exact (KeepsOut.done h2))

theorem execStreamLossTimeout_keeps a0 a1 (s : State) : KeepsOut 0x20044010010c8 s (execStreamLossTimeout a0 a1 s) := by
  unfold execStreamLossTimeout
  extract_lets -merge +onlyGivenNames x1
  have h2 : Keeps 0x20044010010c8 s x1 := (Keeps.step (atTime_keeps ..) rfl (Keeps.refl ..))
  clear_value x1
  exact (by
    split
    · exact (KeepsOut.ite (KeepsOut.done (Keeps.step (svEnter_keeps ..) rfl h2)) (KeepsOut.done h2))
    · exact (KeepsOut.done h2))

theorem svAnchor_keeps (s : State) a1 a2 a3 a4 a5 : Keeps 0x2004401001088 s (svAnchor s a1 a2 a3 a4 a5) := by
  unfold svAnchor
  extract_lets -merge +onlyGivenNames x1
  clear_value x1
  exact (Keeps.step (svGap_keeps ..) rfl (Keeps.raise 6 rfl rfl rfl rfl (Keeps.step (setStream_keeps ..) rfl (Keeps.refl ..))))

theorem svAnchoring_keeps (s : State) a1 a2 a3 : Keeps 0x2004401001088 s (svAnchoring s a1 a2 a3) := by
  unfold svAnchoring
  exact (by
    split
    · exact (by
        extract_lets -merge +onlyGivenNames x1
        clear_value x1
        exact (Keeps.ite (Keeps.ite (Keeps.refl ..) (Keeps.step (svAnchor_keeps ..) rfl (Keeps.refl ..))) (Keeps.ite (Keeps.ite (Keeps.refl ..) (by
                extract_lets -merge +onlyGivenNames x2
                clear_value x2
                exact (Keeps.step (svAnchor_keeps ..) rfl (Keeps.wrField rfl (Keeps.wr rfl (Keeps.step (setSvi_keeps ..) rfl (Keeps.refl ..))))))) (Keeps.ite (Keeps.step (svAnchor_keeps ..) rfl (Keeps.wrField rfl (Keeps.step (setSvi_keeps ..) rfl (Keeps.refl ..)))) (Keeps.ite (Keeps.step (setStream_keeps ..) rfl (Keeps.refl ..)) (Keeps.refl ..))))))
    · exact (Keeps.refl ..))

theorem svPlace_keeps (s : State) a1 a2 a3 : Keeps 0x2004401001088 s (svPlace s a1 a2 a3) := by
  unfold svPlace
  exact (by
    split
    · exact (Keeps.refl ..)
    · exact (by
        extract_lets -merge +onlyGivenNames x1 x2 x3 x4 x5 x6
        try clear_value x5
        try clear_value x4
        try clear_value x3
        try clear_value x2
        try clear_value x1
        have h7 : ∀ (u : State) y1, Keeps 0x2004401001088 s u → Keeps 0x2004401001088 s (x6 u y1) := fun u y1 hu8 => by
          unfold x6
          exact (Keeps.step (svAnchor_keeps ..) rfl hu8)
        try clear_value x6
        exact (Keeps.ite (by
            extract_lets -merge +onlyGivenNames x9
            try clear_value x9
            exact (Keeps.ite (h7 _ _ (Keeps.refl ..)) (Keeps.step (setStream_keeps ..) rfl (Keeps.refl ..)))) (Keeps.ite (by
              extract_lets -merge +onlyGivenNames x10
              try clear_value x10
              exact (Keeps.ite (h7 _ _ (Keeps.refl ..)) (Keeps.step (setStream_keeps ..) rfl (Keeps.refl ..)))) (by
              extract_lets -merge +onlyGivenNames x11
              try clear_value x11
              exact (Keeps.ite (Keeps.step (setStream_keeps ..) rfl (Keeps.refl ..)) (by
                  extract_lets -merge +onlyGivenNames x12 x13
                  try clear_value x13
                  try clear_value x12
                  exact (Keeps.step (setStream_keeps ..) rfl (Keeps.refl ..)))))))))

theorem execSvMessage_keeps a0 a1 (s : State) : KeepsOut 0x20044010010c8 s (execSvMessage a0 a1 s) := by
  unfold execSvMessage
  extract_lets -merge +onlyGivenNames x1
  have h2 : Keeps 0x20044010010c8 s x1 := (Keeps.step (atTime_keeps ..) rfl (Keeps.refl ..))
  clear_value x1
  exact (KeepsOut.ite (KeepsOut.done h2) (by
      split
      · exact (KeepsOut.done (Keeps.bump rfl h2))
      · exact (by
          split
          · exact (KeepsOut.done h2)
          · exact (by
              extract_lets -merge +onlyGivenNames x3
              clear_value x3
              exact (KeepsOut.ite (KeepsOut.done (Keeps.bump rfl (Keeps.step (setStream_keeps ..) rfl h2))) (by
                  extract_lets -merge +onlyGivenNames x4
                  have h5 : Keeps 0x20044010010c8 s x4 := (Keeps.step (setSvi_keeps ..) rfl (Keeps.step (setStream_keeps ..) rfl h2))
                  clear_value x4
                  extract_lets -merge +onlyGivenNames x6
                  have h7 : Keeps 0x20044010010c8 s x6 := (Keeps.step (svAnchoring_keeps ..) rfl h5)
                  clear_value x6
                  exact (KeepsOut.done (Keeps.foldl h7 fun _ _ hu8 => (Keeps.step (svPlace_keeps ..) rfl hu8)))))))))

theorem execSviClrCnt_keeps a0 (s : State) : KeepsOut 0x600401100180a s (execSviClrCnt a0 s) := by
  unfold execSviClrCnt
  exact (KeepsOut.done (Keeps.keyedBit rfl (Keeps.refl ..) (fun _ hu1 => (by
      extract_lets -merge +onlyGivenNames x2
      have h3 : Keeps 0x600401100180a s x2 := (Keeps.step (setSvi_keeps ..) rfl hu1)
      clear_value x2
      exact (Keeps.step (cleared_keeps ..) rfl (Keeps.zeroRegs (b := 6) (List.forall_mem_cons.2 ⟨rfl, (List.forall_mem_cons.2 ⟨rfl, (List.forall_mem_cons.2 ⟨rfl, (fun _ h => absurd h List.not_mem_nil)⟩)⟩)⟩) rfl h3))))))

theorem setOlc_keeps (s : State) a1 : Keeps 0x8000 s (setOlc s a1) := by
  unfold setOlc
  exact (Keeps.upd_olc rfl (Keeps.refl ..))

theorem olcPrepared_keeps (s : State) : Keeps 0x42000000009008 s (olcPrepared s) := by
  unfold olcPrepared
  exact (Keeps.raise 22 rfl rfl rfl rfl (Keeps.step (setOlc_keeps ..) rfl (Keeps.refl ..)))

theorem olcPartnerCrc_keeps (s : State) a1 : Keeps 0x42000000009008 s (olcPartnerCrc s a1) := by
  unfold olcPartnerCrc
  exact (Keeps.ite (Keeps.step (olcPrepared_keeps ..) rfl (Keeps.refl ..)) (Keeps.refl ..))

theorem olcArmed_keeps (s : State) a1 a2 : Keeps 0x8000 s (olcArmed s a1 a2) := by
  unfold olcArmed
  exact (Keeps.step (setOlc_keeps ..) rfl (Keeps.refl ..))

theorem olcRevertAt_keeps (s : State) a1 : Keeps 0x8000 s (olcRevertAt s a1) := by
  unfold olcRevertAt
  exact (Keeps.step (setOlc_keeps ..) rfl (Keeps.refl ..))

theorem windowEnds_keeps (s : State) : Keeps 0x42000000009008 s (windowEnds s) := by
  unfold windowEnds
  exact (Keeps.raise 22 rfl rfl rfl rfl (Keeps.step (setOlc_keeps ..) rfl (Keeps.refl ..)))

theorem persistStep_keeps (s : State) : Keeps 0x4200100002940c s (persistStep s) := by
  unfold persistStep
  extract_lets -merge +onlyGivenNames x1 x2 x3 x4 x5
  clear_value x1 x2 x3 x4
  have h6 : Keeps 0x4200100002940c s x5 := by
    unfold x5
    exact (by
      split
      · exact (Keeps.step (showCopies_keeps ..) rfl (Keeps.upd_fbx rfl (Keeps.refl ..)))
      · exact (Keeps.ite (Keeps.upd_upd rfl (Keeps.refl ..)) (Keeps.refl ..))
      · exact (Keeps.step (showCopies_keeps ..) rfl (Keeps.upd_fbx rfl (Keeps.refl ..)))
      · exact (Keeps.ite (Keeps.upd_upd rfl (Keeps.refl ..)) (Keeps.refl ..))
      · exact (Keeps.refl ..))
  clear_value x5
  extract_lets -merge +onlyGivenNames x7
  clear_value x7
  exact (Keeps.ite (by
      extract_lets -merge +onlyGivenNames x8
      have h9 : Keeps 0x4200100002940c s x8 := (Keeps.step (setOlc_keeps ..) rfl h6)
      clear_value x8
      extract_lets -merge +onlyGivenNames x10
      have h11 : Keeps 0x4200100002940c s x10 := (Keeps.ite (Keeps.step (tokel_keeps ..) rfl h9) h9)
      clear_value x10
      exact (Keeps.ite (Keeps.raise 22 rfl rfl rfl rfl h11) h11)) h6)

theorem refuseOlc_keeps (s : State) a1 a2 : Keeps 0x4200000000100a s (refuseOlc s a1 a2) := by
  unfold refuseOlc
  exact (Keeps.step (refuse_keeps ..) rfl (Keeps.setBit rfl (Keeps.wrField rfl (Keeps.refl ..))))

theorem Keeps.olcCmd {M : Nat} {s t : State} {bit : Nat} {c : Cmd} {f : State → State}
    (hm : (0x4600001000180A &&& M) = 0x4600001000180A) (h : Keeps M s t) (hf : ∀ u, Keeps M s u → Keeps M s (f u)) :
    Keeps M s (olcCmd t bit c f) := by
  unfold Machine.olcCmd
  refine Keeps.written ?_ h fun u hu => ?_
  · have h1 : (0x600001000180A &&& 0x4600001000180A) = 0x600001000180A := rfl
    rw [← h1, Nat.and_assoc, hm]
  · exact Keeps.ite (Keeps.step (m := 0x4600001000180A) (t := u) (Keeps.setBit rfl (Keeps.wrField rfl (Keeps.mono (keyWrong_keeps ..) rfl))) hm hu)
      (Keeps.ite hu (Keeps.ite (Keeps.step (m := 0x4600001000180A) (t := u) (Keeps.mono (refuseOlc_keeps ..) rfl) hm hu) (hf u hu)))

theorem execOlcAbort_keeps a0 (s : State) : KeepsOut 0x4600001000980e s (execOlcAbort a0 s) := by
  unfold execOlcAbort
  exact (KeepsOut.done (Keeps.olcCmd rfl (Keeps.refl ..) (fun _ hu1 => (Keeps.ite (Keeps.step (tokel_keeps ..) rfl (Keeps.step (setOlc_keeps ..) rfl (Keeps.step (accepted_keeps ..) rfl hu1))) (Keeps.step (refuse_keeps ..) rfl hu1)))))

theorem execOlcAccept_keeps a0 (s : State) : KeepsOut 0x4600001000980e s (execOlcAccept a0 s) := by
  unfold execOlcAccept
  exact (KeepsOut.done (Keeps.olcCmd rfl (Keeps.refl ..) (fun _ hu1 => (Keeps.ite (Keeps.step (tokel_keeps ..) rfl (Keeps.step (windowEnds_keeps ..) rfl (Keeps.step (accepted_keeps ..) rfl hu1))) (Keeps.step (refuseOlc_keeps ..) rfl hu1)))))

theorem execOlcArm_keeps a0 (s : State) : KeepsOut 0x4600001000980e s (execOlcArm a0 s) := by
  unfold execOlcArm
  exact (KeepsOut.done (Keeps.olcCmd rfl (Keeps.refl ..) (fun _ hu1 => (by
      split
      · exact (by
          extract_lets -merge +onlyGivenNames x2 x3
          clear_value x2 x3
          exact (Keeps.ite (Keeps.step (refuseOlc_keeps ..) rfl hu1) (by
              extract_lets -merge +onlyGivenNames x4
              have h5 : Keeps 0x4600001000980e s x4 := (Keeps.step (accepted_keeps ..) rfl hu1)
              clear_value x4
              exact (Keeps.ite (Keeps.step (tokel_keeps ..) rfl (Keeps.step (setOlc_keeps ..) rfl h5)) (Keeps.step (olcArmed_keeps ..) rfl h5)))))
      · exact (Keeps.step (refuse_keeps ..) rfl hu1)
      · exact (Keeps.step (refuseOlc_keeps ..) rfl hu1)))))

theorem reconcileForces_keeps (s : State) a1 a2 : Keeps 0x22000000011088 s (reconcileForces s a1 a2) := by
  unfold reconcileForces
  exact (Keeps.foldl (Keeps.refl ..) fun _ _ hu1 => (Keeps.ite (Keeps.step (dropForce_keeps ..) rfl hu1) (Keeps.ite (Keeps.upd_frc rfl hu1) hu1)))

theorem execOlcDisarm_keeps a0 (s : State) : KeepsOut 0x4600001000980e s (execOlcDisarm a0 s) := by
  unfold execOlcDisarm
  exact (KeepsOut.done (Keeps.olcCmd rfl (Keeps.refl ..) (fun _ hu1 => (Keeps.ite (Keeps.step (tokel_keeps ..) rfl (Keeps.raise 22 rfl rfl rfl rfl (Keeps.step (setOlc_keeps ..) rfl (Keeps.step (accepted_keeps ..) rfl hu1)))) (Keeps.step (setOlc_keeps ..) rfl hu1)))))

theorem execOlcLoad_keeps a0 a1 a2 a3 (s : State) : KeepsOut 0x4200001000900a s (execOlcLoad a0 a1 a2 a3 s) := by
  unfold execOlcLoad
  extract_lets -merge +onlyGivenNames x1
  have h2 : Keeps 0x4200001000900a s x1 := (Keeps.step (touch_keeps ..) rfl (Keeps.refl ..))
  clear_value x1
  extract_lets -merge +onlyGivenNames x3 x4
  clear_value x3 x4
  exact (KeepsOut.ite (KeepsOut.done (Keeps.step (refuseOlc_keeps ..) rfl h2)) (KeepsOut.ite (KeepsOut.done (Keeps.step (refuseOlc_keeps ..) rfl h2)) (KeepsOut.done (Keeps.step (setOlc_keeps ..) rfl h2))))

theorem execOlcRevert_keeps a0 (s : State) : KeepsOut 0x4600001000980e s (execOlcRevert a0 s) := by
  unfold execOlcRevert
  exact (KeepsOut.done (Keeps.olcCmd rfl (Keeps.refl ..) (fun _ hu1 => (Keeps.ite (Keeps.step (tokel_keeps ..) rfl (Keeps.step (olcRevertAt_keeps ..) rfl (Keeps.step (accepted_keeps ..) rfl hu1))) (Keeps.step (refuseOlc_keeps ..) rfl hu1)))))

theorem execOlcVerify_keeps a0 a1 (s : State) : KeepsOut 0x4200000000900e s (execOlcVerify a0 a1 s) := by
  unfold execOlcVerify
  exact (by
    split
    · exact (KeepsOut.done (Keeps.refl ..))
    · exact (KeepsOut.ite (KeepsOut.done (Keeps.refl ..)) (by
          extract_lets -merge +onlyGivenNames x1
          clear_value x1
          exact (KeepsOut.ite (KeepsOut.done (Keeps.step (refuseOlc_keeps ..) rfl (Keeps.step (setOlc_keeps ..) rfl (Keeps.refl ..)))) (by
              extract_lets -merge +onlyGivenNames x2
              have h3 : Keeps 0x4200000000900e s x2 := (Keeps.step (setOlc_keeps ..) rfl (Keeps.refl ..))
              clear_value x2
              exact (by
                split
                · exact (KeepsOut.done (Keeps.step (tokel_keeps ..) rfl h3))
                · exact (KeepsOut.done (Keeps.step (olcPrepared_keeps ..) rfl h3))
                · exact (KeepsOut.done (Keeps.step (tokel_keeps ..) rfl (Keeps.step (olcPrepared_keeps ..) rfl h3)))))))))

theorem execOlcWindowExpiry_keeps a0 (s : State) : KeepsOut 0x42000000009048 s (execOlcWindowExpiry a0 s) := by
  unfold execOlcWindowExpiry
  extract_lets -merge +onlyGivenNames x1
  have h2 : Keeps 0x42000000009048 s x1 := (Keeps.step (atTime_keeps ..) rfl (Keeps.refl ..))
  clear_value x1
  exact (KeepsOut.ite (KeepsOut.done (Keeps.step (windowEnds_keeps ..) rfl h2)) (KeepsOut.done h2))

theorem execPersistStepEnd_keeps a0 (s : State) : KeepsOut 0x4200100002944c s (execPersistStepEnd a0 s) := by
  unfold execPersistStepEnd
  extract_lets -merge +onlyGivenNames x1
  have h2 : Keeps 0x4200100002944c s x1 := (Keeps.step (atTime_keeps ..) rfl (Keeps.refl ..))
  clear_value x1
  exact (KeepsOut.ite (KeepsOut.done h2) (KeepsOut.done (Keeps.step (persistStep_keeps ..) rfl h2)))

theorem Keeps.partMap {M b : Nat} {s t : State} {reg : Nat → Nat} {ps : List Nat} (hb : ∀ k, blockOf (reg k) = b)
    (h : M.testBit (32 + b) = true) (k : Keeps M s t) : Keeps M s (partMap t reg ps) := by
  unfold Machine.partMap
  exact Keeps.foldl k fun u y hu => Keeps.wrOf (hb y) h hu

end Sys2Proof.Machine
end

