-- ==== Sys2Proof/Laws/KeepsAlign.lean ====
section
/-! SUPPORT. What each operation of SafetyMonitor, Align can change: one lemma for each (Laws/Keeps.lean says what Keeps means).
The mask names the parts by Part.bit. -/

namespace Sys2Proof.Machine

open Sys2Proof

theorem setSaf_keeps (s : State) a1 : Keeps 0x4000 s (setSaf s a1) := by
  unfold setSaf
  exact (Keeps.upd_saf rfl (Keeps.refl ..))

theorem setSmm_keeps (s : State) a1 : Keeps 0x4000 s (setSmm s a1) := by
  unfold setSmm
  exact (Keeps.step (setSaf_keeps ..) rfl (Keeps.refl ..))

theorem leaveSmm_keeps (s : State) : Keeps 0x4004 s (leaveSmm s) := by
  unfold leaveSmm
  exact (by
    split
    · exact (Keeps.refl ..)
    · exact (Keeps.ite (Keeps.step (tokel_keeps ..) rfl (Keeps.step (setSmm_keeps ..) rfl (Keeps.refl ..))) (Keeps.step (setSmm_keeps ..) rfl (Keeps.refl ..)))
    · exact (Keeps.step (setSmm_keeps ..) rfl (Keeps.refl ..)))

theorem smmSessionClosed_keeps (s : State) a1 : Keeps 0x4004 s (smmSessionClosed s a1) := by
  unfold smmSessionClosed
  exact (Keeps.ite (Keeps.step (leaveSmm_keeps ..) rfl (Keeps.refl ..)) (Keeps.refl ..))

theorem collectCells_keeps (s : State) a1 a2 a3 : Keeps 0x2000400001088 s (collectCells s a1 a2 a3) := by
  unfold collectCells
  exact (Keeps.foldl (Keeps.refl ..) fun _ _ hu1 => (Keeps.ite hu1 (by
        split
        · exact (Keeps.step (collectOwn_keeps ..) rfl hu1)
        · exact hu1)))

theorem stcDiscard_keeps (s : State) a1 : Keeps 0x4000 s (stcDiscard s a1) := by
  unfold stcDiscard
  exact (Keeps.step (setSaf_keeps ..) rfl (Keeps.refl ..))

theorem safTelegram_keeps (s : State) a1 a2 a3 a4 : Keeps 0x2000400005088 s (safTelegram s a1 a2 a3 a4) := by
  unfold safTelegram
  exact (by
    split
    · exact (Keeps.refl ..)
    · exact (by
        extract_lets -merge +onlyGivenNames x1 x2 x3 x4 x5
        clear_value x1 x2 x3 x4
        have h6 : ∀ (u : State) y1, Keeps 0x2000400005088 s u → Keeps 0x2000400005088 s (x5 u y1) := fun u y1 hu7 => by
          unfold x5
          exact (Keeps.step (setSaf_keeps ..) rfl hu7)
        clear_value x5
        exact (Keeps.ite (Keeps.refl ..) (Keeps.ite (Keeps.step (stcDiscard_keeps ..) rfl (Keeps.refl ..)) (by
              extract_lets -merge +onlyGivenNames x8 x9
              clear_value x8 x9
              exact (Keeps.ite (by
                  split
                  · exact (Keeps.ite (Keeps.step (stcDiscard_keeps ..) rfl (Keeps.refl ..)) (Keeps.ite (h6 _ _ (Keeps.refl ..)) (h6 _ _ (Keeps.refl ..))))
                  · exact (Keeps.ite (Keeps.step (stcDiscard_keeps ..) rfl (Keeps.refl ..)) (h6 _ _ (Keeps.refl ..)))) (Keeps.ite (Keeps.step (stcDiscard_keeps ..) rfl (Keeps.refl ..)) (by
                    extract_lets -merge +onlyGivenNames x10
                    have h11 : Keeps 0x2000400005088 s x10 := (Keeps.step (collectCells_keeps ..) rfl (Keeps.refl ..))
                    clear_value x10
                    exact (h6 _ _ h11)))))))))

theorem publishSafe_keeps (s : State) a1 a2 : Keeps 0x4000 s (publishSafe s a1 a2) := by
  unfold publishSafe
  extract_lets -merge +onlyGivenNames x1 x2 x3
  clear_value x1 x2 x3
  exact (Keeps.ite (Keeps.refl ..) (by
      extract_lets -merge +onlyGivenNames x4 x5 x6
      clear_value x4 x5 x6
      exact (Keeps.step (setSaf_keeps ..) rfl (Keeps.refl ..))))

theorem publishSafes_keeps (s : State) : Keeps 0x4000 s (publishSafes s) := by
  unfold publishSafes
  exact (Keeps.foldl (Keeps.refl ..) fun _ _ hu1 => (Keeps.step (publishSafe_keeps ..) rfl hu1))

theorem driveMonitors_keeps (s : State) : Keeps 0x2000400005088 s (driveMonitors s) := by
  unfold driveMonitors
  extract_lets -merge +onlyGivenNames x1
  have h2 : Keeps 0x2000400005088 s x1 := (Keeps.foldl (Keeps.refl ..) fun _ _ hu3 => (by
        extract_lets -merge +onlyGivenNames x4 x5 x6
        clear_value x4 x5 x6
        exact (Keeps.step (setSaf_keeps ..) rfl hu3)))
  clear_value x1
  exact (Keeps.foldl h2 fun _ _ hu7 => (by
      extract_lets -merge +onlyGivenNames x8
      clear_value x8
      exact (Keeps.step (collectOwn_keeps ..) rfl hu7)))

theorem endSmm_keeps (s : State) : Keeps 0x6201080001d208 s (endSmm s) := by
  unfold endSmm
  extract_lets -merge +onlyGivenNames x1
  have h2 : Keeps 0x6201080001d208 s x1 := (Keeps.raise 8 rfl rfl rfl rfl (Keeps.step (setSaf_keeps ..) rfl (Keeps.refl ..)))
  clear_value x1
  extract_lets -merge +onlyGivenNames x3
  have h4 : Keeps 0x6201080001d208 s x3 := (Keeps.step (dropSafetyForces_keeps ..) rfl h2)
  clear_value x3
  extract_lets -merge +onlyGivenNames x5
  have h6 : Keeps 0x6201080001d208 s x5 := (Keeps.foldl h4 fun _ _ hu7 => (Keeps.ite (Keeps.step (closeDebug_keeps ..) rfl hu7) hu7))
  clear_value x5
  exact (by
    split
    · exact (Keeps.ite (Keeps.step (autoDisarm_keeps ..) rfl h6) h6)
    · exact h6)

theorem overFrozen_keeps (s : State) a1 a2 : Keeps 0x80 s (overFrozen s a1 a2) := by
  unfold overFrozen
  extract_lets -merge +onlyGivenNames x1
  clear_value x1
  exact (Keeps.upd_sig (fun h => h) (.inr rfl) rfl (Keeps.refl ..))

theorem evalSin_keeps (s : State) a1 a2 : Keeps 0x2010000005088 s (evalSin s a1 a2) := by
  unfold evalSin
  extract_lets -merge +onlyGivenNames x1 x2 x3 x4 x5 x6 x7 x8
  clear_value x1 x2 x3 x4 x5 x6 x7
  have h9 : Keeps 0x2010000005088 s x8 := (Keeps.step (setSaf_keeps ..) rfl (Keeps.refl ..))
  clear_value x8
  extract_lets -merge +onlyGivenNames x10
  have h11 : Keeps 0x2010000005088 s x10 := (Keeps.step (overFrozen_keeps ..) rfl h9)
  clear_value x10
  extract_lets -merge +onlyGivenNames x12
  have h13 : Keeps 0x2010000005088 s x12 := (Keeps.ite h11 (Keeps.step (overFrozen_keeps ..) rfl h11))
  clear_value x12
  extract_lets -merge +onlyGivenNames x14
  have h15 : Keeps 0x2010000005088 s x14 := (Keeps.ite (Keeps.raise 8 rfl rfl rfl rfl h13) h13)
  clear_value x14
  exact (Keeps.ite (Keeps.step (recordBare_keeps ..) rfl h15) h15)

theorem execDiscrepancyTimeout_keeps a0 a1 (s : State) : KeepsOut 0x20100000050c8 s (execDiscrepancyTimeout a0 a1 s) := by
  unfold execDiscrepancyTimeout
  extract_lets -merge +onlyGivenNames x1
  have h2 : Keeps 0x20100000050c8 s x1 := (Keeps.step (atTime_keeps ..) rfl (Keeps.refl ..))
  clear_value x1
  extract_lets -merge +onlyGivenNames x3
  clear_value x3
  exact (by
    split
    · exact (KeepsOut.done h2)
    · exact (KeepsOut.ite (by
          extract_lets -merge +onlyGivenNames x4 x5 x6
          clear_value x4 x5
          have h7 : Keeps 0x20100000050c8 s x6 := (Keeps.step (setSaf_keeps ..) rfl h2)
          clear_value x6
          extract_lets -merge +onlyGivenNames x8
          clear_value x8
          exact (KeepsOut.done (Keeps.raise 8 rfl rfl rfl rfl (Keeps.step (overFrozen_keeps ..) rfl (Keeps.step (overFrozen_keeps ..) rfl h7))))) (KeepsOut.done h2)))

theorem refuseSmm_keeps (s : State) a1 a2 : Keeps 0x201000000100a s (refuseSmm s a1 a2) := by
  unfold refuseSmm
  exact (Keeps.step (refuse_keeps ..) rfl (Keeps.wrField rfl (Keeps.refl ..)))

theorem smmTick_keeps (s : State) : Keeps 0x6201080001d20e s (smmTick s) := by
  unfold smmTick
  extract_lets -merge +onlyGivenNames x1
  clear_value x1
  exact (Keeps.ite (Keeps.step (tokel_keeps ..) rfl (Keeps.step (refuseSmm_keeps ..) rfl (Keeps.step (setSmm_keeps ..) rfl (Keeps.refl ..)))) (Keeps.ite (Keeps.step (endSmm_keeps ..) rfl (Keeps.refl ..)) (Keeps.refl ..)))

theorem safChallenge_keeps (s : State) : Keeps 0x10000004008 s (safChallenge s) := by
  unfold safChallenge
  extract_lets -merge +onlyGivenNames x1 x2
  clear_value x1
  have h3 : Keeps 0x10000004008 s x2.2 := (Keeps.step (drawWord_keeps ..) rfl (Keeps.refl ..))
  clear_value x2
  extract_lets -merge +onlyGivenNames x4
  have h5 : Keeps 0x10000004008 s x4 := (Keeps.wr rfl h3)
  clear_value x4
  exact (Keeps.step (setSaf_keeps ..) rfl h5)

theorem stcSafe_keeps (s : State) a1 a2 : Keeps 0x2010000005008 s (stcSafe s a1 a2) := by
  unfold stcSafe
  extract_lets -merge +onlyGivenNames x1
  have h2 : Keeps 0x2010000005008 s x1 := (Keeps.step (setSaf_keeps ..) rfl (Keeps.refl ..))
  clear_value x1
  exact (Keeps.raise 8 rfl rfl rfl rfl h2)

theorem stcFreeze_keeps (s : State) a1 a2 : Keeps 0x2010000005008 s (stcFreeze s a1 a2) := by
  unfold stcFreeze
  extract_lets -merge +onlyGivenNames x1 x2
  clear_value x1
  have h3 : ∀ (u : State) y1, Keeps 0x2010000005008 s u → Keeps 0x2010000005008 s (x2 u y1) := fun u y1 hu4 => by
    unfold x2
    exact (Keeps.step (setSaf_keeps ..) rfl hu4)
  clear_value x2
  exact (Keeps.ite (Keeps.step (stcSafe_keeps ..) rfl (Keeps.refl ..)) (by
      extract_lets -merge +onlyGivenNames x5 x6 x7
      clear_value x5 x6 x7
      exact (Keeps.ite (Keeps.raise 8 rfl rfl rfl rfl (h3 _ _ (Keeps.refl ..))) (h3 _ _ (Keeps.refl ..)))))

theorem safInputs_keeps (s : State) : Keeps 0x2010000005088 s (safInputs s) := by
  unfold safInputs
  exact (Keeps.foldl (Keeps.refl ..) fun _ _ hu1 => (Keeps.step (evalSin_keeps ..) rfl hu1))

theorem stcOverlay_keeps (s : State) : Keeps 0x80 s (stcOverlay s) := by
  unfold stcOverlay
  exact (Keeps.foldl (Keeps.refl ..) fun _ _ hu1 => (Keeps.ite (Keeps.foldl hu1 fun _ _ hu2 => (Keeps.step (overFrozen_keeps ..) rfl hu2)) hu1))

theorem execKillPathTest_keeps a0 a1 (s : State) : KeepsOut 0x2410000047048 s (execKillPathTest a0 a1 s) := by
  unfold execKillPathTest
  extract_lets -merge +onlyGivenNames x1
  have h2 : Keeps 0x2410000047048 s x1 := (Keeps.step (atTime_keeps ..) rfl (Keeps.refl ..))
  clear_value x1
  exact (KeepsOut.ite (KeepsOut.done h2) (by
      extract_lets -merge +onlyGivenNames x3 x4 x5 x6
      clear_value x3 x4 x5
      have h7 : Keeps 0x2410000047048 s x6 := (Keeps.wr rfl h2)
      clear_value x6
      exact (KeepsOut.ite (KeepsOut.done h7) (KeepsOut.done (Keeps.step (moduleSafe_keeps ..) rfl h7)))))

theorem smmMirrored_keeps (s : State) a1 a2 a3 : Keeps 0x4004 s (smmMirrored s a1 a2 a3) := by
  unfold smmMirrored
  exact (Keeps.ite (Keeps.step (tokel_keeps ..) rfl (Keeps.step (setSmm_keeps ..) rfl (Keeps.refl ..))) (Keeps.refl ..))

theorem smmAnswered_keeps (s : State) a1 : Keeps 0x201000000500e s (smmAnswered s a1) := by
  unfold smmAnswered
  extract_lets -merge +onlyGivenNames x1
  clear_value x1
  exact (Keeps.ite (Keeps.ite (Keeps.step (setSmm_keeps ..) rfl (Keeps.refl ..)) (Keeps.step (tokel_keeps ..) rfl (Keeps.step (refuseSmm_keeps ..) rfl (Keeps.step (setSmm_keeps ..) rfl (Keeps.refl ..))))) (Keeps.refl ..))

theorem execModuleSafeState_keeps a0 a1 a2 (s : State) : KeepsOut 0x2410000047048 s (execModuleSafeState a0 a1 a2 s) := by
  unfold execModuleSafeState
  extract_lets -merge +onlyGivenNames x1
  have h2 : Keeps 0x2410000047048 s x1 := (Keeps.step (atTime_keeps ..) rfl (Keeps.refl ..))
  clear_value x1
  exact (KeepsOut.ite (KeepsOut.done h2) (by
      extract_lets -merge +onlyGivenNames x3
      have h4 : Keeps 0x2410000047048 s x3 := (Keeps.ite (Keeps.setBit rfl h2) (Keeps.ite (Keeps.setBit rfl h2) h2))
      clear_value x3
      exact (KeepsOut.done (Keeps.step (moduleSafe_keeps ..) rfl h4))))

theorem execSafClrCnt_keeps a0 (s : State) : KeepsOut 0x600001000580a s (execSafClrCnt a0 s) := by
  unfold execSafClrCnt
  exact (KeepsOut.done (Keeps.keyedBit rfl (Keeps.refl ..) (fun _ hu1 => (Keeps.step (cleared_keeps ..) rfl (Keeps.step (setSaf_keeps ..) rfl hu1)))))

theorem execSafWdExpiry_keeps a0 (s : State) : KeepsOut 0x2410000047048 s (execSafWdExpiry a0 s) := by
  unfold execSafWdExpiry
  extract_lets -merge +onlyGivenNames x1
  have h2 : Keeps 0x2410000047048 s x1 := (Keeps.step (atTime_keeps ..) rfl (Keeps.refl ..))
  clear_value x1
  exact (KeepsOut.ite (KeepsOut.done (Keeps.step (moduleSafe_keeps ..) rfl h2)) (KeepsOut.done h2))

theorem execSafWdResp_keeps a0 (s : State) : KeepsOut 0x600001000580a s (execSafWdResp a0 s) := by
  unfold execSafWdResp
  exact (KeepsOut.done (Keeps.written rfl (Keeps.refl ..) (fun _ hu1 => (by
      extract_lets -merge +onlyGivenNames x2
      clear_value x2
      exact (Keeps.ite (Keeps.step (setSaf_keeps ..) rfl hu1) (Keeps.step (setSaf_keeps ..) rfl hu1))))))

theorem execSingleCopyLoss_keeps a0 a1 (s : State) : KeepsOut 0x4040 s (execSingleCopyLoss a0 a1 s) := by
  unfold execSingleCopyLoss
  extract_lets -merge +onlyGivenNames x1
  have h2 : Keeps 0x4040 s x1 := (Keeps.step (atTime_keeps ..) rfl (Keeps.refl ..))
  clear_value x1
  extract_lets -merge +onlyGivenNames x3
  clear_value x3
  exact (by
    split
    · exact (KeepsOut.ite (by
          extract_lets -merge +onlyGivenNames x4
          clear_value x4
          exact (KeepsOut.done (Keeps.step (setSaf_keeps ..) rfl h2))) (KeepsOut.done h2))
    · exact (KeepsOut.done h2))

theorem execSmmCodeExpiry_keeps a0 (s : State) : KeepsOut 0x4040 s (execSmmCodeExpiry a0 s) := by
  unfold execSmmCodeExpiry
  extract_lets -merge +onlyGivenNames x1
  have h2 : Keeps 0x4040 s x1 := (Keeps.step (atTime_keeps ..) rfl (Keeps.refl ..))
  clear_value x1
  exact (KeepsOut.ite (KeepsOut.done (Keeps.step (setSmm_keeps ..) rfl h2)) (KeepsOut.done h2))

theorem Keeps.smmCmd {M : Nat} {s t : State} {bit : Nat} {c : Cmd} {f : State → State}
    (hm : (0x601001000180A &&& M) = 0x601001000180A) (h : Keeps M s t) (hf : ∀ u, Keeps M s u → Keeps M s (f u)) :
    Keeps M s (smmCmd t bit c f) := by
  unfold Machine.smmCmd
  refine Keeps.written ?_ h fun u hu => ?_
  · have h1 : (0x600001000180A &&& 0x601001000180A) = 0x600001000180A := rfl
    rw [← h1, Nat.and_assoc, hm]
  · exact Keeps.ite (Keeps.step (m := 0x601001000180A) (t := u) (Keeps.wrField rfl (Keeps.mono (keyWrong_keeps ..) rfl)) hm hu)
      (Keeps.ite (hf u hu) hu)

theorem execSmmEnter_keeps a0 (s : State) : KeepsOut 0x601001000580e s (execSmmEnter a0 s) := by
  unfold execSmmEnter
  exact (KeepsOut.done (Keeps.smmCmd rfl (Keeps.refl ..) (fun _ hu1 => (by
      extract_lets -merge +onlyGivenNames x2 x3
      clear_value x2 x3
      exact (Keeps.ite (Keeps.step (refuseSmm_keeps ..) rfl hu1) (Keeps.ite (Keeps.step (refuseSmm_keeps ..) rfl hu1) (Keeps.ite (Keeps.step (refuseSmm_keeps ..) rfl hu1) (by
              extract_lets -merge +onlyGivenNames x4
              have h5 : Keeps 0x601001000580e s x4 := (Keeps.step (accepted_keeps ..) rfl hu1)
              clear_value x4
              exact (Keeps.ite (by
                  extract_lets -merge +onlyGivenNames x6 x7
                  clear_value x6
                  have h8 : Keeps 0x601001000580e s x7 := (Keeps.step (setSmm_keeps ..) rfl h5)
                  clear_value x7
                  exact (Keeps.ite (Keeps.step (tokel_keeps ..) rfl h8) h8)) (Keeps.step (setSmm_keeps ..) rfl h5))))))))))

theorem execSmmExit_keeps a0 (s : State) : KeepsOut 0x601001000580e s (execSmmExit a0 s) := by
  unfold execSmmExit
  exact (KeepsOut.done (Keeps.smmCmd rfl (Keeps.refl ..) (fun _ hu1 => (Keeps.step (leaveSmm_keeps ..) rfl (Keeps.step (accepted_keeps ..) rfl hu1)))))

theorem execSmmExpiry_keeps a0 (s : State) : KeepsOut 0x6201080001d248 s (execSmmExpiry a0 s) := by
  unfold execSmmExpiry
  extract_lets -merge +onlyGivenNames x1
  have h2 : Keeps 0x6201080001d248 s x1 := (Keeps.step (atTime_keeps ..) rfl (Keeps.refl ..))
  clear_value x1
  exact (KeepsOut.ite (KeepsOut.done (Keeps.step (endSmm_keeps ..) rfl h2)) (KeepsOut.done h2))

theorem execSmmRequest_keeps a0 (s : State) : KeepsOut 0x601001000580a s (execSmmRequest a0 s) := by
  unfold execSmmRequest
  exact (KeepsOut.done (Keeps.smmCmd rfl (Keeps.refl ..) (fun _ hu1 => (by
      extract_lets -merge +onlyGivenNames x2
      clear_value x2
      exact (Keeps.ite (Keeps.step (refuseSmm_keeps ..) rfl hu1) (Keeps.ite (Keeps.step (refuseSmm_keeps ..) rfl hu1) (Keeps.ite (Keeps.step (refuseSmm_keeps ..) rfl hu1) (Keeps.ite (Keeps.step (refuseSmm_keeps ..) rfl hu1) (by
                extract_lets -merge +onlyGivenNames x3
                have h4 : Keeps 0x601001000580a s x3.2 := (Keeps.step (drawWord_keeps ..) rfl hu1)
                clear_value x3
                exact (Keeps.step (accepted_keeps ..) rfl (Keeps.step (setSmm_keeps ..) rfl h4)))))))))))

theorem execSmmStart_keeps a0 (s : State) : KeepsOut 0x2010000005048 s (execSmmStart a0 s) := by
  unfold execSmmStart
  extract_lets -merge +onlyGivenNames x1
  have h2 : Keeps 0x2010000005048 s x1 := (Keeps.step (atTime_keeps ..) rfl (Keeps.refl ..))
  clear_value x1
  extract_lets -merge +onlyGivenNames x3
  clear_value x3
  exact (KeepsOut.ite (by
      extract_lets -merge +onlyGivenNames x4
      have h5 : Keeps 0x2010000005048 s x4 := (Keeps.step (setSaf_keeps ..) rfl h2)
      clear_value x4
      exact (KeepsOut.done (Keeps.raise 8 rfl rfl rfl rfl h5))) (KeepsOut.done h2))

theorem execStcAck_keeps a0 (s : State) : KeepsOut 0x600001000580a s (execStcAck a0 s) := by
  unfold execStcAck
  exact (KeepsOut.done (Keeps.keyedBit rfl (Keeps.refl ..) (fun _ hu1 => (by
      extract_lets -merge +onlyGivenNames x2 x3
      clear_value x2 x3
      exact (Keeps.ite (Keeps.step (accepted_keeps ..) rfl (Keeps.step (setSaf_keeps ..) rfl hu1)) (Keeps.step (refuse_keeps ..) rfl hu1))))))

theorem execStcWatchdogExpiry_keeps a0 a1 (s : State) : KeepsOut 0x20100000050c8 s (execStcWatchdogExpiry a0 a1 s) := by
  unfold execStcWatchdogExpiry
  extract_lets -merge +onlyGivenNames x1
  have h2 : Keeps 0x20100000050c8 s x1 := (Keeps.step (atTime_keeps ..) rfl (Keeps.refl ..))
  clear_value x1
  extract_lets -merge +onlyGivenNames x3
  clear_value x3
  exact (by
    split
    · exact (KeepsOut.done h2)
    · exact (KeepsOut.ite (KeepsOut.done (Keeps.step (stcOverlay_keeps ..) rfl (Keeps.step (stcSafe_keeps ..) rfl h2))) (KeepsOut.done h2)))

theorem setAlign_keeps (s : State) a1 : Keeps 0x2000 s (setAlign s a1) := by
  unfold setAlign
  exact (Keeps.setPair (.inr fun _ => rfl) rfl (Keeps.refl ..))

theorem alignClose_keeps (s : State) : Keeps 0x2008000003408 s (alignClose s) := by
  unfold alignClose
  extract_lets -merge +onlyGivenNames x1
  clear_value x1
  exact (Keeps.ite (Keeps.wrField rfl (Keeps.refl ..)) (by
      extract_lets -merge +onlyGivenNames x2 x3 x4 x5 x6 x7
      clear_value x2 x3 x4 x5 x6
      have h8 : Keeps 0x2008000003408 s x7 := (Keeps.step (setAlign_keeps ..) rfl (Keeps.refl ..))
      clear_value x7
      extract_lets -merge +onlyGivenNames x9
      have h10 : Keeps 0x2008000003408 s x9 := (Keeps.setPair (.inr fun _ => rfl) rfl h8)
      clear_value x9
      extract_lets -merge +onlyGivenNames x11
      have h12 : Keeps 0x2008000003408 s x11 := (Keeps.wr rfl h10)
      clear_value x11
      extract_lets -merge +onlyGivenNames x13
      have h14 : Keeps 0x2008000003408 s x13 := (Keeps.partMap (fun _ => Reg.PAIR_LAGMAPn_block ..) rfl (Keeps.partMap (fun _ => Reg.PAIR_REPMAPn_block ..) rfl h12))
      clear_value x13
      extract_lets -merge +onlyGivenNames x15
      have h16 : Keeps 0x2008000003408 s x15 := (Keeps.ite h14 (Keeps.setBit rfl (Keeps.addField rfl h14)))
      clear_value x15
      extract_lets -merge +onlyGivenNames x17
      have h18 : Keeps 0x2008000003408 s x17 := (Keeps.ite h16 (Keeps.step (raiseA_keeps ..) rfl (Keeps.addField rfl h16)))
      clear_value x17
      extract_lets -merge +onlyGivenNames x19
      have h20 : Keeps 0x2008000003408 s x19 := (Keeps.foldl h18 fun _ _ hu21 => (Keeps.step (setAc_keeps ..) rfl hu21))
      clear_value x19
      exact (Keeps.ite (Keeps.step (reLearn_keeps ..) rfl h20) h20)))

theorem alignFreeze_keeps (s : State) : Keeps 0x2000 s (alignFreeze s) := by
  unfold alignFreeze
  exact (Keeps.step (setAlign_keeps ..) rfl (Keeps.refl ..))

theorem takeRec_keeps (s : State) a1 : Keeps 0x80 s (takeRec s a1) := by
  unfold takeRec
  extract_lets -merge +onlyGivenNames x1 x2
  clear_value x1 x2
  exact (Keeps.upd_sig (fun h => h) (.inr rfl) rfl (Keeps.refl ..))

theorem applyXfer_keeps (s : State) a1 : Keeps 0xc780 s (applyXfer s a1) := by
  unfold applyXfer
  extract_lets -merge +onlyGivenNames x1
  have h2 : Keeps 0xc780 s x1 := (Keeps.foldl (Keeps.refl ..) fun _ _ hu3 => (Keeps.step (setLe_keeps ..) rfl hu3))
  clear_value x1
  extract_lets -merge +onlyGivenNames x4 x5
  clear_value x4
  have h6 : Keeps 0xc780 s x5 := (Keeps.upd_fbx rfl h2)
  clear_value x5
  extract_lets -merge +onlyGivenNames x7
  have h8 : Keeps 0xc780 s x7 := (Keeps.foldl h6 fun _ _ hu9 => (Keeps.step (takeRec_keeps ..) rfl hu9))
  clear_value x7
  extract_lets -merge +onlyGivenNames x10
  have h11 : Keeps 0xc780 s x10 := (Keeps.foldl h8 fun _ _ hu12 => (Keeps.step (setPart_keeps ..) rfl hu12))
  clear_value x10
  extract_lets -merge +onlyGivenNames x13
  have h14 : Keeps 0xc780 s x13 := (Keeps.step (setSaf_keeps ..) rfl h11)
  clear_value x13
  exact (by
    split
    · exact (Keeps.step (setOlc_keeps ..) rfl h14)
    · exact h14)

theorem hmMatch_keeps (s : State) : Keeps 0x8000022000 s (hmMatch s) := by
  unfold hmMatch
  extract_lets -merge +onlyGivenNames x1
  have h2 : Keeps 0x8000022000 s x1 := (Keeps.setPair (.inr fun _ => rfl) rfl (Keeps.refl ..))
  clear_value x1
  extract_lets -merge +onlyGivenNames x3 x4
  clear_value x3
  have h5 : Keeps 0x8000022000 s x4 := (Keeps.upd_upd rfl h2)
  clear_value x4
  exact (Keeps.addField rfl h5)

theorem hmMismatch_keeps (s : State) a1 a2 : Keeps 0x2008000023008 s (hmMismatch s a1 a2) := by
  unfold hmMismatch
  extract_lets -merge +onlyGivenNames x1 x2 x3
  clear_value x1 x2
  have h4 : Keeps 0x2008000023008 s x3 := (Keeps.setPair (.inr fun _ => rfl) rfl (Keeps.addField rfl (Keeps.refl ..)))
  clear_value x3
  extract_lets -merge +onlyGivenNames x5
  have h6 : Keeps 0x2008000023008 s x5 := (Keeps.step (raiseA_keeps ..) rfl (Keeps.wrField rfl h4))
  clear_value x5
  extract_lets -merge +onlyGivenNames x7 x8
  clear_value x7
  have h9 : Keeps 0x2008000023008 s x8 := (Keeps.upd_upd rfl h6)
  clear_value x8
  extract_lets -merge +onlyGivenNames x10
  have h11 : Keeps 0x2008000023008 s x10 := (Keeps.ite (Keeps.step (raiseA_keeps ..) rfl (Keeps.wrField rfl h9)) h9)
  clear_value x10
  exact (Keeps.ite (Keeps.step (reLearn_keeps ..) rfl h11) h11)

theorem hallmarkCompare_keeps (s : State) : Keeps 0x2008000023008 s (hallmarkCompare s) := by
  unfold hallmarkCompare
  extract_lets -merge +onlyGivenNames x1 x2 x3 x4
  clear_value x2 x3
  have h5 : Keeps 0x2008000023008 s x4 := (Keeps.wrField rfl (Keeps.setPair (.inr fun _ => rfl) rfl (Keeps.refl ..)))
  clear_value x4
  extract_lets -merge +onlyGivenNames x6
  have h7 : Keeps 0x2008000023008 s x6 := (Keeps.ite (Keeps.wrField rfl h5) h5)
  clear_value x6
  exact (Keeps.ite (Keeps.wrField rfl h7) (by
      extract_lets -merge +onlyGivenNames x8
      have h9 : Keeps 0x2008000023008 s x8 := (Keeps.wrField rfl h7)
      clear_value x8
      exact (by
        split
        · exact (Keeps.ite (Keeps.addField rfl (Keeps.wrField rfl h9)) (by
              extract_lets -merge +onlyGivenNames x10
              have h11 : Keeps 0x2008000023008 s x10 := (Keeps.setPair (.inr fun _ => rfl) rfl h9)
              clear_value x10
              exact (Keeps.ite (Keeps.step (hmMatch_keeps ..) rfl (Keeps.wrField rfl h11)) (by
                  extract_lets -merge +onlyGivenNames x12
                  have h13 : Keeps 0x2008000023008 s x12 := (Keeps.step (hmMismatch_keeps ..) rfl (Keeps.wrField rfl h11))
                  clear_value x12
                  exact (Keeps.wrField rfl h13)))))
        · exact (Keeps.addField rfl (Keeps.wrField rfl h9)))))

theorem linkFreeze_keeps (s : State) : Keeps 0x8000002000 s (linkFreeze s) := by
  unfold linkFreeze
  extract_lets -merge +onlyGivenNames x1 x2 x3 x4 x5 x6
  clear_value x2 x3 x4 x5
  have h7 : Keeps 0x8000002000 s x6 := (Keeps.wr rfl (Keeps.refl ..))
  clear_value x6
  exact (Keeps.setPair (.inr fun _ => rfl) rfl h7)

theorem execGridDeviation_keeps a0 (s : State) : KeepsOut 0x2008000003048 s (execGridDeviation a0 s) := by
  unfold execGridDeviation
  extract_lets -merge +onlyGivenNames x1
  have h2 : Keeps 0x2008000003048 s x1 := (Keeps.step (atTime_keeps ..) rfl (Keeps.refl ..))
  clear_value x1
  exact (KeepsOut.ite (KeepsOut.done (Keeps.step (reLearn_keeps ..) rfl (Keeps.step (raiseA_keeps ..) rfl h2))) (KeepsOut.done h2))

theorem setLearn_keeps (s : State) a1 : Keeps 0x2000 s (setLearn s a1) := by
  unfold setLearn
  exact (Keeps.setPair (.inr fun _ => rfl) rfl (Keeps.refl ..))

theorem execLearnPhaseEnd_keeps a0 (s : State) : KeepsOut 0x2008000003048 s (execLearnPhaseEnd a0 s) := by
  unfold execLearnPhaseEnd
  extract_lets -merge +onlyGivenNames x1
  have h2 : Keeps 0x2008000003048 s x1 := (Keeps.step (atTime_keeps ..) rfl (Keeps.refl ..))
  clear_value x1
  extract_lets -merge +onlyGivenNames x3 x4
  clear_value x3
  have h5 : Keeps 0x2008000003048 s x4 := (Keeps.step (setLearn_keeps ..) rfl h2)
  clear_value x4
  exact (KeepsOut.ite (KeepsOut.ite (KeepsOut.done (Keeps.step (setLearn_keeps ..) rfl h5)) (KeepsOut.done (Keeps.step (setLearn_keeps ..) rfl h2))) (KeepsOut.ite (KeepsOut.done h2) (by
        split
        · exact (KeepsOut.ite (KeepsOut.done h5) (KeepsOut.done h2))
        · exact (KeepsOut.ite (KeepsOut.done h5) (KeepsOut.done h2))
        · exact (KeepsOut.ite (KeepsOut.done h5) (KeepsOut.done h2))
        · exact (KeepsOut.ite (KeepsOut.done h5) (KeepsOut.done h2))
        · exact (KeepsOut.ite (KeepsOut.done (Keeps.step (requestRole_keeps ..) rfl (Keeps.step (raiseA_keeps ..) rfl h5))) (KeepsOut.done h2))
        · exact (KeepsOut.done h2))))

theorem execLinkBlkreq_keeps a0 a1 a2 (s : State) : KeepsOut 0x2044 s (execLinkBlkreq a0 a1 a2 s) := by
  unfold execLinkBlkreq
  extract_lets -merge +onlyGivenNames x1
  have h2 : Keeps 0x2044 s x1 := (Keeps.step (atTime_keeps ..) rfl (Keeps.refl ..))
  clear_value x1
  exact (KeepsOut.ite (KeepsOut.done h2) (by
      extract_lets -merge +onlyGivenNames x3
      clear_value x3
      exact (KeepsOut.done (Keeps.step (tokel_keeps ..) rfl (Keeps.step (setAlign_keeps ..) rfl h2)))))

theorem learnBytes_keeps (s : State) a1 : Keeps 0x8000002000 s (learnBytes s a1) := by
  unfold learnBytes
  extract_lets -merge +onlyGivenNames x1
  clear_value x1
  exact (Keeps.wr rfl (Keeps.step (setLearn_keeps ..) rfl (Keeps.refl ..)))

theorem execLinkBulk_keeps a0 a1 (s : State) : KeepsOut 0x800002e7c0 s (execLinkBulk a0 a1 s) := by
  unfold execLinkBulk
  extract_lets -merge +onlyGivenNames x1
  have h2 : Keeps 0x800002e7c0 s x1 := (Keeps.step (atTime_keeps ..) rfl (Keeps.refl ..))
  clear_value x1
  exact (KeepsOut.ite (KeepsOut.done (Keeps.step (learnBytes_keeps ..) rfl (Keeps.step (setLearn_keeps ..) rfl (Keeps.step (applyXfer_keeps ..) rfl h2)))) (KeepsOut.ite (KeepsOut.done (Keeps.upd_upd rfl h2)) (KeepsOut.done h2)))

theorem switchNamed_keeps (s : State) a1 a2 : Keeps 0x2004 s (switchNamed s a1 a2) := by
  unfold switchNamed
  exact (Keeps.ite (Keeps.step (tokel_keeps ..) rfl (Keeps.setPair (.inr fun _ => rfl) rfl (Keeps.refl ..))) (Keeps.step (tokel_keeps ..) rfl (Keeps.refl ..)))

theorem switchAnswered_keeps (s : State) a1 a2 : Keeps 0x200800080300a s (switchAnswered s a1 a2) := by
  unfold switchAnswered
  exact (by
    split
    · exact (Keeps.ite (Keeps.ite (Keeps.setPair (.inr fun _ => rfl) rfl (Keeps.refl ..)) (Keeps.step (abortSwitch_keeps ..) rfl (Keeps.refl ..))) (Keeps.refl ..))
    · exact (Keeps.refl ..))

theorem learnTrust_keeps (s : State) a1 : Keeps 0xa000000021008 s (learnTrust s a1) := by
  unfold learnTrust
  extract_lets -merge +onlyGivenNames x1 x2
  try clear_value x1
  have h3 : Keeps 0xa000000021008 s x2 := (Keeps.upd_upd rfl (Keeps.refl ..))
  try clear_value x2
  exact (Keeps.ite (Keeps.step (stopStart_keeps ..) rfl h3) (Keeps.ite (Keeps.raise 19 rfl rfl rfl rfl (Keeps.upd_upd rfl h3)) h3))

theorem execLinkCtrl_keeps a0 a1 (s : State) : KeepsOut 0x6a01900083f44e s (execLinkCtrl a0 a1 s) := by
  unfold execLinkCtrl
  extract_lets -merge +onlyGivenNames x1
  have h2 : Keeps 0x6a01900083f44e s x1 := (Keeps.step (atTime_keeps ..) rfl (Keeps.refl ..))
  clear_value x1
  exact (KeepsOut.done (by
    split
    · exact (Keeps.step (partnerReported_keeps ..) rfl h2)
    · exact (Keeps.step (switchNamed_keeps ..) rfl h2)
    · exact (Keeps.step (switchAnswered_keeps ..) rfl h2)
    · exact (Keeps.step (forceMirrored_keeps ..) rfl h2)
    · exact (Keeps.ite (Keeps.step (forceAnswered_keeps ..) rfl h2) (Keeps.step (forceWithdrawn_keeps ..) rfl h2))
    · exact (Keeps.step (smmMirrored_keeps ..) rfl h2)
    · exact (Keeps.ite (Keeps.step (smmAnswered_keeps ..) rfl h2) (Keeps.step (setSmm_keeps ..) rfl h2))
    · exact (Keeps.step (setSmm_keeps ..) rfl h2)
    · exact (Keeps.step (olcPartnerCrc_keeps ..) rfl h2)
    · exact (Keeps.ite (Keeps.step (tokel_keeps ..) rfl (Keeps.step (olcArmed_keeps ..) rfl h2)) h2)
    · exact (Keeps.ite (Keeps.step (olcArmed_keeps ..) rfl h2) h2)
    · exact (Keeps.ite (Keeps.raise 22 rfl rfl rfl rfl (Keeps.step (setOlc_keeps ..) rfl h2)) h2)
    · exact (Keeps.ite (Keeps.step (setOlc_keeps ..) rfl h2) h2)
    · exact (Keeps.ite (Keeps.step (olcRevertAt_keeps ..) rfl h2) h2)
    · exact (Keeps.ite (Keeps.step (windowEnds_keeps ..) rfl h2) h2)
    · exact (Keeps.ite (Keeps.step (persistStep_keeps ..) rfl h2) h2)
    · exact (Keeps.ite (Keeps.step (tokel_keeps ..) rfl h2) h2)
    · exact (Keeps.upd_upd rfl h2)
    · exact (Keeps.upd_upd rfl h2)
    · exact (Keeps.step (recordBare_keeps ..) rfl h2)
    · exact (Keeps.step (learnTrust_keeps ..) rfl h2)))

theorem execLinkDelta_keeps a0 a1 (s : State) : KeepsOut 0x800000e7c0 s (execLinkDelta a0 a1 s) := by
  unfold execLinkDelta
  extract_lets -merge +onlyGivenNames x1
  have h2 : Keeps 0x800000e7c0 s x1 := (Keeps.step (atTime_keeps ..) rfl (Keeps.refl ..))
  clear_value x1
  exact (by
    split
    · exact (KeepsOut.ite (KeepsOut.done (Keeps.step (setAlign_keeps ..) rfl (Keeps.step (applyXfer_keeps ..) rfl h2))) (KeepsOut.ite (KeepsOut.done (Keeps.step (setAlign_keeps ..) rfl (Keeps.step (applyXfer_keeps ..) rfl h2))) (KeepsOut.done h2)))
    · exact (KeepsOut.ite (KeepsOut.done (Keeps.step (learnBytes_keeps ..) rfl (Keeps.step (setLearn_keeps ..) rfl (Keeps.step (applyXfer_keeps ..) rfl h2)))) (KeepsOut.done h2)))

theorem execLinkDfinal_keeps a0 a1 (s : State) : KeepsOut 0x800000e7c0 s (execLinkDfinal a0 a1 s) := by
  unfold execLinkDfinal
  extract_lets -merge +onlyGivenNames x1
  have h2 : Keeps 0x800000e7c0 s x1 := (Keeps.step (atTime_keeps ..) rfl (Keeps.refl ..))
  clear_value x1
  exact (KeepsOut.ite (KeepsOut.done (Keeps.step (learnBytes_keeps ..) rfl (Keeps.step (setLearn_keeps ..) rfl (Keeps.step (applyXfer_keeps ..) rfl h2)))) (KeepsOut.done h2))

theorem execLinkDigest_keeps a0 a1 (s : State) : KeepsOut 0x2044 s (execLinkDigest a0 a1 s) := by
  unfold execLinkDigest
  extract_lets -merge +onlyGivenNames x1
  have h2 : Keeps 0x2044 s x1 := (Keeps.step (atTime_keeps ..) rfl (Keeps.refl ..))
  clear_value x1
  exact (KeepsOut.ite (KeepsOut.done h2) (by
      extract_lets -merge +onlyGivenNames x3 x4 x5 x6
      clear_value x3 x4 x5
      have h7 : Keeps 0x2044 s x6 := (Keeps.step (setAlign_keeps ..) rfl h2)
      clear_value x6
      exact (KeepsOut.ite (KeepsOut.done h7) (KeepsOut.done (Keeps.step (tokel_keeps ..) rfl h7)))))

theorem execLinkFmark_keeps a0 a1 (s : State) : KeepsOut 0x420080033ff7c8 s (execLinkFmark a0 a1 s) := by
  unfold execLinkFmark
  exact (KeepsOut.ite (KeepsOut.done (Keeps.refl ..)) (by
      extract_lets -merge +onlyGivenNames x1
      have h2 : Keeps 0x420080033ff7c8 s x1 := (Keeps.step (atTime_keeps ..) rfl (Keeps.refl ..))
      clear_value x1
      extract_lets -merge +onlyGivenNames x3 x4
      clear_value x3
      have h5 : Keeps 0x420080033ff7c8 s x4 := (Keeps.ite (Keeps.step (relabel_keeps ..) rfl h2) h2)
      clear_value x4
      extract_lets -merge +onlyGivenNames x6 x7
      clear_value x6
      have h8 : Keeps 0x420080033ff7c8 s x7 := (Keeps.setPair (.inr fun _ => rfl) rfl h5)
      clear_value x7
      extract_lets -merge +onlyGivenNames x9
      have h10 : Keeps 0x420080033ff7c8 s x9 := (Keeps.wr rfl (Keeps.wr rfl h8))
      clear_value x9
      extract_lets -merge +onlyGivenNames x11 x12
      have h13 : Keeps 0x420080033ff7c8 s x12 := (Keeps.upd_grid (by first | exact fun h => h | exact fun _ => Nat.le_of_ble_eq_true rfl) (Nat.le_refl _) (.inr rfl) rfl h10)
      clear_value x12
      extract_lets -merge +onlyGivenNames x14
      have h15 : Keeps 0x420080033ff7c8 s x14 := (Keeps.ite (Keeps.step (raiseA_keeps ..) rfl (Keeps.setPair (.inr fun _ => rfl) rfl h13)) h13)
      clear_value x14
      exact (KeepsOut.done (Keeps.step (partnerReported_keeps ..) rfl h15))))

theorem execLinkHallmark_keeps a0 a1 (s : State) : KeepsOut 0x2040 s (execLinkHallmark a0 a1 s) := by
  unfold execLinkHallmark
  extract_lets -merge +onlyGivenNames x1
  have h2 : Keeps 0x2040 s x1 := (Keeps.step (atTime_keeps ..) rfl (Keeps.refl ..))
  clear_value x1
  exact (KeepsOut.done (Keeps.setPair (.inr fun _ => rfl) rfl h2))

theorem repairRec_keeps (s : State) a1 : Keeps 0x80 s (repairRec s a1) := by
  unfold repairRec
  extract_lets -merge +onlyGivenNames x1 x2 x3
  clear_value x1 x2 x3
  exact (Keeps.upd_sig (fun h => h) (.inr rfl) rfl (Keeps.refl ..))

theorem repairTelegrams_keeps (s : State) a1 a2 : Keeps 0x400 s (repairTelegrams s a1 a2) := by
  unfold repairTelegrams
  extract_lets -merge +onlyGivenNames x1 x2
  clear_value x1 x2
  exact (Keeps.step (setAc_keeps ..) rfl (Keeps.refl ..))

theorem execLinkRepair_keeps a0 a1 (s : State) : KeepsOut 0x24c0 s (execLinkRepair a0 a1 s) := by
  unfold execLinkRepair
  extract_lets -merge +onlyGivenNames x1
  have h2 : Keeps 0x24c0 s x1 := (Keeps.step (atTime_keeps ..) rfl (Keeps.refl ..))
  clear_value x1
  exact (KeepsOut.ite (KeepsOut.done h2) (KeepsOut.done (Keeps.foldl h2 fun _ _ hu3 => (Keeps.ite (by
          extract_lets -merge +onlyGivenNames x4
          have h5 : Keeps 0x24c0 s x4 := (Keeps.foldl hu3 fun _ _ hu6 => (Keeps.step (repairRec_keeps ..) rfl hu6))
          clear_value x4
          extract_lets -merge +onlyGivenNames x7
          have h8 : Keeps 0x24c0 s x7 := by
            unfold x7
            exact (by
              split
              · exact (Keeps.step (repairTelegrams_keeps ..) rfl h5)
              · exact h5)
          clear_value x7
          exact (Keeps.step (setAlign_keeps ..) rfl h8)) hu3))))

theorem execLinkSnap_keeps a0 a1 (s : State) : KeepsOut 0x9000016440 s (execLinkSnap a0 a1 s) := by
  unfold execLinkSnap
  extract_lets -merge +onlyGivenNames x1
  have h2 : Keeps 0x9000016440 s x1 := (Keeps.step (atTime_keeps ..) rfl (Keeps.refl ..))
  clear_value x1
  exact (KeepsOut.ite (KeepsOut.done h2) (by
      extract_lets -merge +onlyGivenNames x3 x4 x5 x6
      clear_value x3 x4 x5
      have h7 : Keeps 0x9000016440 s x6 := (Keeps.step (showCopies_keeps ..) rfl (Keeps.upd_fbx_frc rfl h2))
      clear_value x6
      extract_lets -merge +onlyGivenNames x8
      have h9 : Keeps 0x9000016440 s x8 := (Keeps.step (setSaf_keeps ..) rfl h7)
      clear_value x8
      exact (KeepsOut.done (Keeps.step (learnBytes_keeps ..) rfl (Keeps.step (setLearn_keeps ..) rfl h9)))))

end Sys2Proof.Machine
end

