-- ==== Sys2Proof/Laws/KeepsStation.lean ====
section
/-! SUPPORT. What each operation of Chain, GooseOps, Station can change: one lemma for each (Laws/Keeps.lean says what Keeps means).
The mask names the parts by Part.bit. -/

namespace Sys2Proof.Machine

open Sys2Proof

theorem dupSuspect_keeps (s : State) a1 a2 : Keeps 0x80000 s (dupSuspect s a1 a2) := by
  unfold dupSuspect
  extract_lets -merge +onlyGivenNames x1
  clear_value x1
  exact (Keeps.ite (Keeps.step (setChn_keeps ..) rfl (Keeps.step (setPort_keeps ..) rfl (Keeps.refl ..))) (Keeps.refl ..))

theorem answeredValid_keeps (s : State) a1 a2 : Keeps 0x80000 s (answeredValid s a1 a2) := by
  unfold answeredValid
  extract_lets -merge +onlyGivenNames x1 x2
  clear_value x1
  have h3 : Keeps 0x80000 s x2 := (Keeps.step (setPort_keeps ..) rfl (Keeps.refl ..))
  clear_value x2
  exact (Keeps.foldl h3 fun _ _ hu4 => (Keeps.ite hu4 (Keeps.step (dupSuspect_keeps ..) rfl hu4)))

theorem chainFreeze_keeps (s : State) : Keeps 0x80004 s (chainFreeze s) := by
  unfold chainFreeze
  exact (Keeps.foldl (Keeps.refl ..) fun _ _ hu1 => (by
      extract_lets -merge +onlyGivenNames x2 x3 x4 x5
      clear_value x2 x3 x4
      have h6 : Keeps 0x80004 s x5 := (Keeps.step (setPort_keeps ..) rfl hu1)
      clear_value x5
      exact (Keeps.ite (Keeps.step (send_keeps ..) rfl h6) h6)))

theorem chainMissed_keeps (s : State) a1 a2 a3 : Keeps 0x2100400081088 s (chainMissed s a1 a2 a3) := by
  unfold chainMissed
  extract_lets -merge +onlyGivenNames x1 x2 x3 x4
  clear_value x1 x2 x3
  have h5 : Keeps 0x2100400081088 s x4 := (Keeps.setBit rfl (Keeps.step (setPort_keeps ..) rfl (Keeps.step (setNode_keeps ..) rfl (Keeps.refl ..))))
  clear_value x4
  extract_lets -merge +onlyGivenNames x6
  have h7 : Keeps 0x2100400081088 s x6 := (Keeps.foldl h5 fun _ _ hu8 => (Keeps.ite (Keeps.step (collectGot_keeps ..) rfl hu8) (Keeps.step (collectGot_keeps ..) rfl hu8)))
  clear_value x6
  extract_lets -merge +onlyGivenNames x9
  have h10 : Keeps 0x2100400081088 s x9 := (Keeps.step (record_keeps ..) rfl h7)
  clear_value x9
  exact (Keeps.ite (Keeps.step (nodeLost_keeps ..) rfl h10) h10)

theorem collectData_keeps (s : State) a1 a2 a3 a4 a5 : Keeps 0x2000400005088 s (collectData s a1 a2 a3 a4 a5) := by
  unfold collectData
  extract_lets -merge +onlyGivenNames x1
  have h2 : Keeps 0x2000400005088 s x1 := (Keeps.foldl (Keeps.refl ..) fun _ _ hu3 => (by
        split
        · exact (by
            extract_lets -merge +onlyGivenNames x4
            clear_value x4
            exact (by
              split
              · exact (Keeps.step (collectOwn_keeps ..) rfl hu3)
              · exact (Keeps.step (collectAna_keeps ..) rfl hu3)
              · exact hu3))))
  clear_value x1
  exact (Keeps.foldl h2 fun _ _ hu5 => (by
      split
      · exact hu5
      · exact (by
          extract_lets -merge +onlyGivenNames x6 x7 x8
          clear_value x6 x7 x8
          exact (Keeps.ite (Keeps.step (safTelegram_keeps ..) rfl hu5) hu5))))

theorem nodeMismatch_keeps (s : State) a1 a2 : Keeps 0x2100000081008 s (nodeMismatch s a1 a2) := by
  unfold nodeMismatch
  exact (Keeps.raise 12 rfl rfl rfl rfl (Keeps.step (setNode_keeps ..) rfl (Keeps.refl ..)))

theorem nodeOk_keeps (s : State) a1 a2 : Keeps 0x2100000081008 s (nodeOk s a1 a2) := by
  unfold nodeOk
  extract_lets -merge +onlyGivenNames x1
  clear_value x1
  exact (Keeps.ite (Keeps.refl ..) (Keeps.raise 12 rfl rfl rfl rfl (Keeps.step (setNode_keeps ..) rfl (Keeps.refl ..))))

theorem configAnswered_keeps (s : State) a1 a2 a3 : Keeps 0x2100000081008 s (configAnswered s a1 a2 a3) := by
  unfold configAnswered
  extract_lets -merge +onlyGivenNames x1
  clear_value x1
  exact (Keeps.ite (Keeps.ite (Keeps.step (setNode_keeps ..) rfl (Keeps.refl ..)) (Keeps.step (nodeMismatch_keeps ..) rfl (Keeps.refl ..))) (Keeps.ite (Keeps.refl ..) (Keeps.ite (Keeps.step (nodeOk_keeps ..) rfl (Keeps.step (setNode_keeps ..) rfl (Keeps.refl ..))) (Keeps.step (nodeMismatch_keeps ..) rfl (Keeps.refl ..)))))

theorem crcFailed_keeps (s : State) a1 a2 : Keeps 0x80000 s (crcFailed s a1 a2) := by
  unfold crcFailed
  extract_lets -merge +onlyGivenNames x1 x2 x3 x4
  clear_value x1 x2 x3 x4
  exact (Keeps.step (dupSuspect_keeps ..) rfl (Keeps.step (setNode_keeps ..) rfl (Keeps.refl ..)))

theorem dataResponse_keeps (s : State) a1 a2 a3 a4 a5 : Keeps 0x2100400085088 s (dataResponse s a1 a2 a3 a4 a5) := by
  unfold dataResponse
  extract_lets -merge +onlyGivenNames x1 x2 x3
  clear_value x1 x2
  have h4 : Keeps 0x2100400085088 s x3 := (Keeps.step (setNode_keeps ..) rfl (Keeps.refl ..))
  clear_value x3
  exact (Keeps.ite (by
      extract_lets -merge +onlyGivenNames x5 x6
      clear_value x5
      have h7 : Keeps 0x2100400085088 s x6 := (Keeps.step (setNode_keeps ..) rfl h4)
      clear_value x6
      extract_lets -merge +onlyGivenNames x8
      have h9 : Keeps 0x2100400085088 s x8 := (Keeps.step (chainMissed_keeps ..) rfl h7)
      clear_value x8
      exact (Keeps.ite (Keeps.step (setNode_keeps ..) rfl h9) h9)) (by
      extract_lets -merge +onlyGivenNames x10 x11
      clear_value x10
      have h12 : Keeps 0x2100400085088 s x11 := (Keeps.step (setNode_keeps ..) rfl h4)
      clear_value x11
      extract_lets -merge +onlyGivenNames x13
      have h14 : Keeps 0x2100400085088 s x13 := (Keeps.step (collectData_keeps ..) rfl (Keeps.step (answeredValid_keeps ..) rfl h12))
      clear_value x13
      extract_lets -merge +onlyGivenNames x15
      clear_value x15
      exact (Keeps.ite (Keeps.step (nodeOk_keeps ..) rfl h14) h14)))

theorem delayAnswered_keeps (s : State) a1 a2 a3 a4 : Keeps 0x2100000081008 s (delayAnswered s a1 a2 a3 a4) := by
  unfold delayAnswered
  extract_lets -merge +onlyGivenNames x1
  clear_value x1
  exact (Keeps.ite (Keeps.refl ..) (by
      extract_lets -merge +onlyGivenNames x2 x3 x4
      clear_value x2 x3 x4
      exact (Keeps.ite (Keeps.step (setNode_keeps ..) rfl (Keeps.refl ..)) (Keeps.ite (Keeps.step (nodeMismatch_keeps ..) rfl (Keeps.step (setNode_keeps ..) rfl (Keeps.refl ..))) (Keeps.step (setNode_keeps ..) rfl (Keeps.refl ..))))))

theorem dupEnds_keeps (s : State) a1 a2 : Keeps 0x2100000081008 s (dupEnds s a1 a2) := by
  unfold dupEnds
  extract_lets -merge +onlyGivenNames x1 x2 x3
  clear_value x1 x2
  have h4 : Keeps 0x2100000081008 s x3 := (Keeps.step (setPort_keeps ..) rfl (Keeps.refl ..))
  clear_value x3
  exact (Keeps.ite (Keeps.raise 12 rfl rfl rfl rfl (Keeps.step (setNode_keeps ..) rfl h4)) (Keeps.step (recordBare_keeps ..) rfl h4))

theorem sendReq_keeps (s : State) a1 a2 a3 a4 a5 a6 : Keeps 0x80004 s (sendReq s a1 a2 a3 a4 a5 a6) := by
  unfold sendReq
  extract_lets -merge +onlyGivenNames x1 x2 x3 x4
  clear_value x1 x2 x3
  have h5 : Keeps 0x80004 s x4 := (Keeps.step (setPort_keeps ..) rfl (Keeps.refl ..))
  clear_value x4
  exact (Keeps.step (send_keeps ..) rfl h5)

theorem sendFree_keeps (s : State) a1 a2 a3 a4 a5 a6 : Keeps 0x80004 s (sendFree s a1 a2 a3 a4 a5 a6) := by
  unfold sendFree
  exact (Keeps.ite (Keeps.step (sendReq_keeps ..) rfl (Keeps.refl ..)) (Keeps.refl ..))

theorem execChainAssign_keeps a0 a1 (s : State) : KeepsOut 0x600001008184e s (execChainAssign a0 a1 s) := by
  unfold execChainAssign
  extract_lets -merge +onlyGivenNames x1
  have h2 : Keeps 0x600001008184e s x1 := (Keeps.step (atTime_keeps ..) rfl (Keeps.refl ..))
  clear_value x1
  exact (KeepsOut.done (Keeps.keyedBit rfl h2 (fun _ hu3 => (by
      extract_lets -merge +onlyGivenNames x4 x5 x6
      clear_value x4 x5 x6
      exact (by
        split
        · exact (Keeps.step (refuse_keeps ..) rfl hu3)
        · exact (Keeps.ite (Keeps.step (refuse_keeps ..) rfl hu3) (Keeps.step (sendFree_keeps ..) rfl (Keeps.step (accepted_keeps ..) rfl hu3))))))))

theorem execChainConfig_keeps a0 a1 a2 (s : State) : KeepsOut 0x80044 s (execChainConfig a0 a1 a2 s) := by
  unfold execChainConfig
  extract_lets -merge +onlyGivenNames x1
  have h2 : Keeps 0x80044 s x1 := (Keeps.step (atTime_keeps ..) rfl (Keeps.refl ..))
  clear_value x1
  extract_lets -merge +onlyGivenNames x3
  clear_value x3
  exact (KeepsOut.ite (KeepsOut.done (Keeps.step (sendFree_keeps ..) rfl h2)) (KeepsOut.done h2))

theorem execChainData_keeps a0 a1 a2 (s : State) : KeepsOut 0x100000080044 s (execChainData a0 a1 a2 s) := by
  unfold execChainData
  extract_lets -merge +onlyGivenNames x1
  have h2 : Keeps 0x100000080044 s x1 := (Keeps.step (atTime_keeps ..) rfl (Keeps.refl ..))
  clear_value x1
  exact (by
    split
    · exact (KeepsOut.done h2)
    · exact (by
        extract_lets -merge +onlyGivenNames x3 x4
        clear_value x3 x4
        exact (KeepsOut.ite (KeepsOut.done h2) (KeepsOut.ite (KeepsOut.done (Keeps.setBit rfl h2)) (by
              extract_lets -merge +onlyGivenNames x5
              clear_value x5
              exact (KeepsOut.done (Keeps.step (sendReq_keeps ..) rfl h2)))))))

theorem execChainDelay_keeps a0 a1 a2 (s : State) : KeepsOut 0x80044 s (execChainDelay a0 a1 a2 s) := by
  unfold execChainDelay
  extract_lets -merge +onlyGivenNames x1
  have h2 : Keeps 0x80044 s x1 := (Keeps.step (atTime_keeps ..) rfl (Keeps.refl ..))
  clear_value x1
  extract_lets -merge +onlyGivenNames x3
  clear_value x3
  exact (KeepsOut.ite (KeepsOut.done (Keeps.step (sendFree_keeps ..) rfl h2)) (KeepsOut.done h2))

theorem execChainIdent_keeps a0 a1 a2 (s : State) : KeepsOut 0x80044 s (execChainIdent a0 a1 a2 s) := by
  unfold execChainIdent
  extract_lets -merge +onlyGivenNames x1
  have h2 : Keeps 0x80044 s x1 := (Keeps.step (atTime_keeps ..) rfl (Keeps.refl ..))
  clear_value x1
  extract_lets -merge +onlyGivenNames x3
  clear_value x3
  exact (KeepsOut.ite (KeepsOut.done (Keeps.step (sendFree_keeps ..) rfl h2)) (KeepsOut.done h2))

theorem probeResult_keeps (s : State) a1 a2 : Keeps 0x2100000081008 s (probeResult s a1 a2) := by
  unfold probeResult
  extract_lets -merge +onlyGivenNames x1 x2 x3
  clear_value x1 x2
  have h4 : Keeps 0x2100000081008 s x3 := (Keeps.step (setPort_keeps ..) rfl (Keeps.refl ..))
  clear_value x3
  extract_lets -merge +onlyGivenNames x5
  clear_value x5
  exact (Keeps.ite (Keeps.step (setPort_keeps ..) rfl h4) (Keeps.ite (Keeps.step (dupEnds_keeps ..) rfl h4) (Keeps.ite (Keeps.step (dupEnds_keeps ..) rfl h4) (Keeps.step (setPort_keeps ..) rfl h4))))

theorem execChainMiss_keeps a0 a1 (s : State) : KeepsOut 0x21004000810c8 s (execChainMiss a0 a1 s) := by
  unfold execChainMiss
  extract_lets -merge +onlyGivenNames x1
  have h2 : Keeps 0x21004000810c8 s x1 := (Keeps.step (atTime_keeps ..) rfl (Keeps.refl ..))
  clear_value x1
  extract_lets -merge +onlyGivenNames x3
  clear_value x3
  exact (by
    split
    · exact (KeepsOut.done h2)
    · exact (KeepsOut.ite (KeepsOut.done h2) (by
          extract_lets -merge +onlyGivenNames x4
          have h5 : Keeps 0x21004000810c8 s x4 := (Keeps.step (setPort_keeps ..) rfl h2)
          clear_value x4
          exact (KeepsOut.ite (KeepsOut.done (Keeps.step (chainMissed_keeps ..) rfl h5)) (KeepsOut.ite (KeepsOut.done (Keeps.step (probeResult_keeps ..) rfl h5)) (KeepsOut.done h5))))))

theorem execChainProbe_keeps a0 a1 (s : State) : KeepsOut 0x80044 s (execChainProbe a0 a1 s) := by
  unfold execChainProbe
  extract_lets -merge +onlyGivenNames x1
  have h2 : Keeps 0x80044 s x1 := (Keeps.step (atTime_keeps ..) rfl (Keeps.refl ..))
  clear_value x1
  extract_lets -merge +onlyGivenNames x3
  clear_value x3
  exact (KeepsOut.ite (KeepsOut.done (Keeps.step (sendFree_keeps ..) rfl h2)) (KeepsOut.done h2))

theorem execChainRequestHeard_keeps a0 a1 a2 a3 a4 a5 a6 (s : State) : KeepsOut 0x80040 s (execChainRequestHeard a0 a1 a2 a3 a4 a5 a6 s) := by
  unfold execChainRequestHeard
  extract_lets -merge +onlyGivenNames x1
  have h2 : Keeps 0x80040 s x1 := (Keeps.step (atTime_keeps ..) rfl (Keeps.refl ..))
  clear_value x1
  exact (KeepsOut.ite (KeepsOut.done h2) (by
      extract_lets -merge +onlyGivenNames x3 x4 x5 x6
      clear_value x3 x4 x5 x6
      exact (KeepsOut.done (Keeps.step (setPort_keeps ..) rfl h2))))

theorem probeCrc_keeps (s : State) a1 : Keeps 0x2100000081008 s (probeCrc s a1) := by
  unfold probeCrc
  extract_lets -merge +onlyGivenNames x1
  clear_value x1
  exact (Keeps.ite (Keeps.step (setPort_keeps ..) rfl (Keeps.refl ..)) (Keeps.step (dupEnds_keeps ..) rfl (Keeps.refl ..)))

theorem strangerAnswered_keeps (s : State) a1 a2 : Keeps 0x2100000081008 s (strangerAnswered s a1 a2) := by
  unfold strangerAnswered
  extract_lets -merge +onlyGivenNames x1 x2
  clear_value x1 x2
  exact (Keeps.ite (Keeps.step (setPort_keeps ..) rfl (Keeps.refl ..)) (Keeps.ite (Keeps.raise 12 rfl rfl rfl rfl (Keeps.step (setPort_keeps ..) rfl (Keeps.refl ..))) (Keeps.refl ..)))

theorem identAnswered_keeps (s : State) a1 a2 a3 : Keeps 0x2100000081008 s (identAnswered s a1 a2 a3) := by
  unfold identAnswered
  extract_lets -merge +onlyGivenNames x1 x2
  clear_value x1
  have h3 : Keeps 0x2100000081008 s x2 := (Keeps.ite (Keeps.step (newEpoch_keeps ..) rfl (Keeps.refl ..)) (Keeps.refl ..))
  clear_value x2
  exact (Keeps.ite h3 (by
      extract_lets -merge +onlyGivenNames x4 x5
      clear_value x4 x5
      exact (Keeps.ite (Keeps.ite (Keeps.step (setNode_keeps ..) rfl h3) (Keeps.step (nodeMismatch_keeps ..) rfl (Keeps.step (setNode_keeps ..) rfl h3))) (Keeps.step (setNode_keeps ..) rfl h3))))

theorem takeResponse_keeps (s : State) a1 a2 a3 a4 : Keeps 0x2100400085088 s (takeResponse s a1 a2 a3 a4) := by
  unfold takeResponse
  extract_lets -merge +onlyGivenNames x1 x2
  clear_value x1
  have h3 : Keeps 0x2100400085088 s x2 := (Keeps.step (setPort_keeps ..) rfl (Keeps.refl ..))
  clear_value x2
  exact (Keeps.ite (Keeps.step (dataResponse_keeps ..) rfl h3) (by
      split
      · exact (Keeps.ite (Keeps.step (strangerAnswered_keeps ..) rfl h3) (Keeps.step (identAnswered_keeps ..) rfl h3))
      · exact (Keeps.step (delayAnswered_keeps ..) rfl h3)
      · exact (Keeps.step (configAnswered_keeps ..) rfl h3)
      · exact (Keeps.step (probeResult_keeps ..) rfl h3)
      · exact h3))

theorem execChainResponse_keeps a0 a1 a2 (s : State) : KeepsOut 0x21004000850c8 s (execChainResponse a0 a1 a2 s) := by
  unfold execChainResponse
  extract_lets -merge +onlyGivenNames x1
  have h2 : Keeps 0x21004000850c8 s x1 := (Keeps.step (atTime_keeps ..) rfl (Keeps.refl ..))
  clear_value x1
  extract_lets -merge +onlyGivenNames x3 x4
  clear_value x3 x4
  exact (KeepsOut.ite (KeepsOut.done h2) (by
      split
      · exact (KeepsOut.done h2)
      · exact (KeepsOut.ite (by
            extract_lets -merge +onlyGivenNames x5
            have h6 : Keeps 0x21004000850c8 s x5 := (Keeps.step (setPort_keeps ..) rfl h2)
            clear_value x5
            exact (KeepsOut.ite (KeepsOut.done (Keeps.step (setPort_keeps ..) rfl h6)) (KeepsOut.ite (KeepsOut.done (Keeps.step (probeCrc_keeps ..) rfl h6)) (KeepsOut.done (Keeps.step (crcFailed_keeps ..) rfl h6))))) (KeepsOut.ite (KeepsOut.done (Keeps.step (takeResponse_keeps ..) rfl h2)) (KeepsOut.done (Keeps.step (setPort_keeps ..) rfl h2))))))

theorem execChainUnblock_keeps a0 (s : State) : KeepsOut 0x600001008180a s (execChainUnblock a0 s) := by
  unfold execChainUnblock
  exact (KeepsOut.done (Keeps.keyedBit rfl (Keeps.refl ..) (fun _ hu1 => (by
      extract_lets -merge +onlyGivenNames x2 x3 x4 x5
      clear_value x2 x3 x4
      have h6 : Keeps 0x600001008180a s x5 := (Keeps.step (accepted_keeps ..) rfl hu1)
      clear_value x5
      exact (Keeps.ite (Keeps.step (setNode_keeps ..) rfl h6) h6)))))

theorem execChnClrCnt_keeps a0 (s : State) : KeepsOut 0x600001008180a s (execChnClrCnt a0 s) := by
  unfold execChnClrCnt
  exact (KeepsOut.done (Keeps.keyedBit rfl (Keeps.refl ..) (fun _ hu1 => (by
      extract_lets -merge +onlyGivenNames x2
      have h3 : Keeps 0x600001008180a s x2 := (Keeps.step (setChn_keeps ..) rfl hu1)
      clear_value x2
      exact (Keeps.step (cleared_keeps ..) rfl h3)))))

theorem execChnNodeSerlo_keeps (s : State) : KeepsOut 0x100000000002 s (execChnNodeSerlo s) := by
  unfold execChnNodeSerlo
  extract_lets -merge +onlyGivenNames x1
  clear_value x1
  exact (KeepsOut.done (Keeps.step (answer_keeps ..) rfl (Keeps.wr rfl (Keeps.wr rfl (Keeps.refl ..)))))

theorem execChnStrSerlo_keeps (s : State) : KeepsOut 0x100000000002 s (execChnStrSerlo s) := by
  unfold execChnStrSerlo
  extract_lets -merge +onlyGivenNames x1 x2
  clear_value x1 x2
  exact (KeepsOut.done (Keeps.step (answer_keeps ..) rfl (Keeps.wr rfl (Keeps.wr rfl (Keeps.refl ..)))))

theorem execEpochTimeout_keeps a0 a1 (s : State) : KeepsOut 0x2100000081048 s (execEpochTimeout a0 a1 s) := by
  unfold execEpochTimeout
  extract_lets -merge +onlyGivenNames x1
  have h2 : Keeps 0x2100000081048 s x1 := (Keeps.step (atTime_keeps ..) rfl (Keeps.refl ..))
  clear_value x1
  extract_lets -merge +onlyGivenNames x3
  clear_value x3
  exact (KeepsOut.ite (KeepsOut.done (Keeps.step (newEpoch_keeps ..) rfl h2)) (KeepsOut.done h2))

theorem execNodeHoldExpiry_keeps a0 a1 a2 (s : State) : KeepsOut 0x80040 s (execNodeHoldExpiry a0 a1 a2 s) := by
  unfold execNodeHoldExpiry
  extract_lets -merge +onlyGivenNames x1
  have h2 : Keeps 0x80040 s x1 := (Keeps.step (atTime_keeps ..) rfl (Keeps.refl ..))
  clear_value x1
  extract_lets -merge +onlyGivenNames x3
  clear_value x3
  exact (by
    split
    · exact (KeepsOut.ite (KeepsOut.done (Keeps.step (setNode_keeps ..) rfl h2)) (KeepsOut.done h2))
    · exact (KeepsOut.done h2))

theorem execStrangerPoll_keeps a0 a1 (s : State) : KeepsOut 0x80044 s (execStrangerPoll a0 a1 s) := by
  unfold execStrangerPoll
  extract_lets -merge +onlyGivenNames x1
  have h2 : Keeps 0x80044 s x1 := (Keeps.step (atTime_keeps ..) rfl (Keeps.refl ..))
  clear_value x1
  exact (KeepsOut.ite (KeepsOut.done h2) (by
      extract_lets -merge +onlyGivenNames x3 x4
      clear_value x3
      have h5 : Keeps 0x80044 s x4 := (Keeps.step (setPort_keeps ..) rfl h2)
      clear_value x4
      exact (KeepsOut.done (Keeps.step (sendFree_keeps ..) rfl h5))))

theorem queuePub_keeps (s : State) a1 a2 : Keeps 0x2080000201008 s (queuePub s a1 a2) := by
  unfold queuePub
  extract_lets -merge +onlyGivenNames x1 x2 x3 x4
  clear_value x1 x2 x3 x4
  exact (Keeps.step (enqueue_keeps ..) rfl (Keeps.step (enqueue_keeps ..) rfl (Keeps.refl ..)))

theorem setPub_keeps (s : State) a1 a2 : Keeps 0x4000000 s (setPub s a1 a2) := by
  unfold setPub
  exact (Keeps.step (setStn_keeps ..) rfl (Keeps.refl ..))

theorem dropQueued_keeps (s : State) a1 : Keeps 0x200000 s (dropQueued s a1) := by
  unfold dropQueued
  exact (Keeps.foldl (Keeps.refl ..) fun _ _ hu1 => (Keeps.step (setLaunchQ_keeps ..) rfl hu1))

theorem newState_keeps (s : State) a1 a2 a3 : Keeps 0x2080004201008 s (newState s a1 a2 a3) := by
  unfold newState
  extract_lets -merge +onlyGivenNames x1 x2
  clear_value x1 x2
  exact (Keeps.step (queuePub_keeps ..) rfl (Keeps.step (setPub_keeps ..) rfl (Keeps.step (dropQueued_keeps ..) rfl (Keeps.refl ..))))

theorem repeatState_keeps (s : State) a1 : Keeps 0x2080004201008 s (repeatState s a1) := by
  unfold repeatState
  extract_lets -merge +onlyGivenNames x1 x2
  clear_value x1 x2
  exact (Keeps.step (queuePub_keeps ..) rfl (Keeps.step (setPub_keeps ..) rfl (Keeps.refl ..)))

theorem commitPub_keeps (s : State) a1 : Keeps 0x2080004201008 s (commitPub s a1) := by
  unfold commitPub
  exact (Keeps.ite (Keeps.refl ..) (by
      extract_lets -merge +onlyGivenNames x1 x2 x3
      clear_value x1 x2 x3
      exact (Keeps.ite (Keeps.step (newState_keeps ..) rfl (Keeps.refl ..)) (Keeps.ite (Keeps.step (repeatState_keeps ..) rfl (Keeps.refl ..)) (Keeps.refl ..)))))

theorem commitPubs_keeps (s : State) : Keeps 0x20c0004201008 s (commitPubs s) := by
  unfold commitPubs
  extract_lets -merge +onlyGivenNames x1
  have h2 : Keeps 0x20c0004201008 s x1 := (Keeps.foldl (Keeps.refl ..) fun _ _ hu3 => (Keeps.step (commitPub_keeps ..) rfl hu3))
  clear_value x1
  exact (Keeps.ite (Keeps.raise 10 rfl rfl rfl rfl (Keeps.step (setStn_keeps ..) rfl h2)) h2)

theorem promptPub_keeps (s : State) a1 : Keeps 0x2080004201008 s (promptPub s a1) := by
  unfold promptPub
  extract_lets -merge +onlyGivenNames x1 x2
  clear_value x1 x2
  exact (Keeps.ite (Keeps.step (newState_keeps ..) rfl (Keeps.refl ..)) (Keeps.refl ..))

theorem gseMaps_keeps (s : State) : Keeps 0x40000000000 s (gseMaps s) := by
  unfold gseMaps
  extract_lets -merge +onlyGivenNames x1 x2
  clear_value x1
  have h3 : Keeps 0x40000000000 s x2 := (Keeps.foldl (Keeps.refl ..) fun _ _ hu4 => (Keeps.wrOf (Reg.GSE_OKMAPn_block ..) rfl hu4))
  clear_value x2
  exact (Keeps.wrField rfl h3)

theorem gseSubscribe_keeps (s : State) a1 : Keeps 0x40004000000 s (gseSubscribe s a1) := by
  unfold gseSubscribe
  extract_lets -merge +onlyGivenNames x1
  clear_value x1
  exact (Keeps.step (gseMaps_keeps ..) rfl (Keeps.step (setStn_keeps ..) rfl (Keeps.refl ..)))

theorem sessEvent_keeps (s : State) a1 a2 a3 a4 : Keeps 0x2020000001008 s (sessEvent s a1 a2 a3 a4) := by
  unfold sessEvent
  exact (Keeps.raise 9 rfl rfl rfl rfl (Keeps.refl ..))

theorem closeSession_keeps (s : State) a1 : Keeps 0x202001000500c s (closeSession s a1) := by
  unfold closeSession
  exact (by
    split
    · exact (Keeps.step (smmSessionClosed_keeps ..) rfl (Keeps.step (sessEvent_keeps ..) rfl (Keeps.upd_sess rfl (Keeps.refl ..))))
    · exact (Keeps.refl ..))

theorem subTelegram_keeps (s : State) a1 a2 a3 a4 a5 : Keeps 0x2000400005088 s (subTelegram s a1 a2 a3 a4 a5) := by
  unfold subTelegram
  extract_lets -merge +onlyGivenNames x1
  clear_value x1
  exact (Keeps.foldl (Keeps.refl ..) fun _ _ hu2 => (Keeps.ite (Keeps.step (safTelegram_keeps ..) rfl hu2) hu2))

theorem collectMember_keeps (s : State) a1 a2 a3 a4 a5 : Keeps 0x2000400005088 s (collectMember s a1 a2 a3 a4 a5) := by
  unfold collectMember
  extract_lets -merge +onlyGivenNames x1
  clear_value x1
  exact (by
    split
    · exact (Keeps.foldl (Keeps.refl ..) fun _ _ hu2 => (Keeps.step (collectState_keeps ..) rfl hu2))
    · exact (Keeps.foldl (Keeps.refl ..) fun _ _ hu3 => (Keeps.step (collectState_keeps ..) rfl hu3))
    · exact (Keeps.foldl (Keeps.refl ..) fun _ _ hu4 => (Keeps.step (collectAna_keeps ..) rfl hu4))
    · exact (Keeps.foldl (Keeps.refl ..) fun _ _ hu5 => (Keeps.step (collectAna_keeps ..) rfl hu5))
    · exact (Keeps.step (subTelegram_keeps ..) rfl (Keeps.refl ..))
    · exact (Keeps.refl ..))

theorem collectMembers_keeps (s : State) a1 a2 a3 : Keeps 0x2000400005088 s (collectMembers s a1 a2 a3) := by
  unfold collectMembers
  exact (Keeps.foldl (Keeps.refl ..) fun _ _ hu1 => (Keeps.step (collectMember_keeps ..) rfl hu1))

theorem setPair__keeps (s : State) a1 a2 : Keeps 0x4000000 s (setPair_ s a1 a2) := by
  unfold setPair_
  exact (Keeps.step (setStn_keeps ..) rfl (Keeps.refl ..))

theorem countDrop_keeps (s : State) a1 a2 : Keeps 0x4000000 s (countDrop s a1 a2) := by
  unfold countDrop
  extract_lets -merge +onlyGivenNames x1
  clear_value x1
  exact (Keeps.step (setPair__keeps ..) rfl (Keeps.refl ..))

theorem endAssoc_keeps (s : State) a1 : Keeps 0x6000000 s (endAssoc s a1) := by
  unfold endAssoc
  extract_lets -merge +onlyGivenNames x1
  have h2 : Keeps 0x6000000 s x1 := (Keeps.step (setStn_keeps ..) rfl (Keeps.refl ..))
  clear_value x1
  exact (Keeps.upd_pe rfl h2)

theorem setObj__keeps (s : State) a1 a2 : Keeps 0x4000000 s (setObj_ s a1 a2) := by
  unfold setObj_
  exact (Keeps.step (setStn_keeps ..) rfl (Keeps.refl ..))

theorem endCommand_keeps (s : State) a1 a2 a3 : Keeps 0x200040400108c s (endCommand s a1 a2 a3) := by
  unfold endCommand
  extract_lets -merge +onlyGivenNames x1 x2
  clear_value x1
  have h3 : Keeps 0x200040400108c s x2 := (Keeps.step (setObj__keeps ..) rfl (Keeps.refl ..))
  clear_value x2
  extract_lets -merge +onlyGivenNames x4
  have h5 : Keeps 0x200040400108c s x4 := (Keeps.foldl h3 fun _ _ hu6 => (Keeps.step (collectOwn_keeps ..) rfl hu6))
  clear_value x4
  exact (Keeps.ite h5 (Keeps.step (ethSend_keeps ..) rfl h5))

theorem execArpRequest_keeps a0 a1 a2 (s : State) : KeepsOut 0x4000044 s (execArpRequest a0 a1 a2 s) := by
  unfold execArpRequest
  extract_lets -merge +onlyGivenNames x1
  have h2 : Keeps 0x4000044 s x1 := (Keeps.step (atTime_keeps ..) rfl (Keeps.refl ..))
  clear_value x1
  exact (KeepsOut.ite (KeepsOut.done (Keeps.step (ethSend_keeps ..) rfl h2)) (KeepsOut.done h2))

theorem Keeps.mmsCall {M : Nat} {s t : State} {a : Nat} {f : State → State}
    (hm : (0x2 &&& M) = 0x2) (h : Keeps M s t) (hf : ∀ u, Keeps M s u → Keeps M s (f u)) :
    Keeps M s (mmsCall t a f) := by
  unfold Machine.mmsCall
  exact Keeps.ite (hf _ h) (Keeps.step (answer_keeps ..) hm h)

theorem execDeleteFile_keeps a0 a1 a2 a3 (s : State) : KeepsOut 0x2000042 s (execDeleteFile a0 a1 a2 a3 s) := by
  unfold execDeleteFile
  exact (KeepsOut.done (Keeps.mmsCall rfl (Keeps.step (atTime_keeps ..) rfl (Keeps.refl ..)) (fun _ hu1 => (Keeps.ite (Keeps.step (answer_keeps ..) rfl hu1) (Keeps.step (answer_keeps ..) rfl (Keeps.upd_pe rfl hu1))))))

theorem execEthClrCnt_keeps a0 (s : State) : KeepsOut 0x600001400180a s (execEthClrCnt a0 s) := by
  unfold execEthClrCnt
  exact (KeepsOut.done (Keeps.keyedBit rfl (Keeps.refl ..) (fun _ hu1 => (Keeps.step (cleared_keeps ..) rfl (Keeps.step (setStn_keeps ..) rfl hu1)))))

theorem setPort__keeps (s : State) a1 a2 : Keeps 0x4000000 s (setPort_ s a1 a2) := by
  unfold setPort_
  exact (Keeps.step (setStn_keeps ..) rfl (Keeps.refl ..))

theorem portSecond_keeps (s : State) a1 a2 : Keeps 0x4000000 s (portSecond s a1 a2) := by
  unfold portSecond
  extract_lets -merge +onlyGivenNames x1 x2
  clear_value x1 x2
  exact (Keeps.ite (Keeps.refl ..) (Keeps.step (setPort__keeps ..) rfl (Keeps.refl ..)))

theorem forgetDups_keeps (s : State) a1 a2 : Keeps 0x2020004001008 s (forgetDups s a1 a2) := by
  unfold forgetDups
  extract_lets -merge +onlyGivenNames x1 x2 x3 x4
  clear_value x1 x2 x3
  have h5 : Keeps 0x2020004001008 s x4 := (Keeps.step (setPair__keeps ..) rfl (Keeps.refl ..))
  clear_value x4
  exact (Keeps.ite h5 (Keeps.raise 9 rfl rfl rfl rfl h5))

theorem pairSecond_keeps (s : State) a1 a2 : Keeps 0x4000000 s (pairSecond s a1 a2) := by
  unfold pairSecond
  extract_lets -merge +onlyGivenNames x1 x2
  clear_value x1 x2
  exact (Keeps.ite (Keeps.refl ..) (Keeps.step (setPair__keeps ..) rfl (Keeps.refl ..)))

theorem filterFrame_keeps (s : State) a1 a2 : Keeps 0x2020004001008 s (filterFrame s a1 a2) := by
  unfold filterFrame
  exact (Keeps.ite (Keeps.step (countDrop_keeps ..) rfl (Keeps.refl ..)) (Keeps.ite (Keeps.step (countDrop_keeps ..) rfl (Keeps.refl ..)) (Keeps.ite (Keeps.refl ..) (Keeps.ite (by
            extract_lets -merge +onlyGivenNames x1
            clear_value x1
            exact (Keeps.ite (Keeps.step (countDrop_keeps ..) rfl (Keeps.refl ..)) (by
                extract_lets -merge +onlyGivenNames x2
                have h3 : Keeps 0x2020004001008 s x2 := (Keeps.step (setPair__keeps ..) rfl (Keeps.refl ..))
                clear_value x2
                exact (Keeps.ite h3 (Keeps.step (countDrop_keeps ..) rfl h3))))) (Keeps.ite (by
              extract_lets -merge +onlyGivenNames x4
              have h5 : Keeps 0x2020004001008 s x4 := (Keeps.step (countDrop_keeps ..) rfl (Keeps.refl ..))
              clear_value x4
              exact (Keeps.raise 9 rfl rfl rfl rfl (Keeps.step (setPair__keeps ..) rfl h5))) (Keeps.ite (by
                extract_lets -merge +onlyGivenNames x6
                clear_value x6
                exact (Keeps.ite (Keeps.refl ..) (Keeps.step (setPair__keeps ..) rfl (Keeps.refl ..)))) (Keeps.refl ..)))))))

theorem forwardHsr_keeps (s : State) a1 a2 : Keeps 0x4000004 s (forwardHsr s a1 a2) := by
  unfold forwardHsr
  exact (Keeps.ite (Keeps.step (ethSend_keeps ..) rfl (Keeps.refl ..)) (Keeps.refl ..))

theorem execEthFrameRx_keeps a0 a1 (s : State) : KeepsOut 0x202000400104c s (execEthFrameRx a0 a1 s) := by
  unfold execEthFrameRx
  extract_lets -merge +onlyGivenNames x1
  have h2 : Keeps 0x202000400104c s x1 := (Keeps.step (atTime_keeps ..) rfl (Keeps.refl ..))
  clear_value x1
  exact (KeepsOut.ite (KeepsOut.done h2) (by
      extract_lets -merge +onlyGivenNames x3
      have h4 : Keeps 0x202000400104c s x3 := (Keeps.step (portSecond_keeps ..) rfl h2)
      clear_value x3
      extract_lets -merge +onlyGivenNames x5
      clear_value x5
      exact (KeepsOut.ite (KeepsOut.done (Keeps.step (setPort__keeps ..) rfl h4)) (KeepsOut.ite (KeepsOut.done (Keeps.step (setPort__keeps ..) rfl h4)) (by
            extract_lets -merge +onlyGivenNames x6
            have h7 : Keeps 0x202000400104c s x6 := (Keeps.step (setPort__keeps ..) rfl h4)
            clear_value x6
            exact (KeepsOut.ite (KeepsOut.done h7) (by
                extract_lets -merge +onlyGivenNames x8 x9
                clear_value x8
                have h10 : Keeps 0x202000400104c s x9 := (Keeps.step (forgetDups_keeps ..) rfl (Keeps.step (pairSecond_keeps ..) rfl h7))
                clear_value x9
                extract_lets -merge +onlyGivenNames x11
                clear_value x11
                exact (by
                  split
                  · exact (KeepsOut.done (Keeps.step (filterFrame_keeps ..) rfl h10))
                  · exact (KeepsOut.ite (KeepsOut.done (Keeps.step (setPair__keeps ..) rfl h10)) (by
                        extract_lets -merge +onlyGivenNames x12 x13
                        clear_value x12 x13
                        exact (KeepsOut.done (Keeps.step (filterFrame_keeps ..) rfl (Keeps.step (forwardHsr_keeps ..) rfl (Keeps.step (setPair__keeps ..) rfl h10))))))))))))))

theorem execEthLinkChange_keeps a0 a1 a2 a3 (s : State) : KeepsOut 0x2020004001048 s (execEthLinkChange a0 a1 a2 a3 s) := by
  unfold execEthLinkChange
  extract_lets -merge +onlyGivenNames x1
  have h2 : Keeps 0x2020004001048 s x1 := (Keeps.step (atTime_keeps ..) rfl (Keeps.refl ..))
  clear_value x1
  extract_lets -merge +onlyGivenNames x3
  clear_value x3
  exact (KeepsOut.ite (KeepsOut.done h2) (by
      extract_lets -merge +onlyGivenNames x4
      have h5 : Keeps 0x2020004001048 s x4 := (Keeps.step (setPort__keeps ..) rfl h2)
      clear_value x4
      exact (KeepsOut.done (Keeps.raise 9 rfl rfl rfl rfl (Keeps.wrField rfl h5)))))

theorem execFileDirectory_keeps a0 a1 (s : State) : KeepsOut 0x42 s (execFileDirectory a0 a1 s) := by
  unfold execFileDirectory
  exact (KeepsOut.done (Keeps.mmsCall rfl (Keeps.step (atTime_keeps ..) rfl (Keeps.refl ..)) (fun _ hu1 => (Keeps.step (answer_keeps ..) rfl hu1))))

theorem operateFreeze_keeps (s : State) : Keeps 0x200040400108c s (operateFreeze s) := by
  unfold operateFreeze
  exact (Keeps.foldl (Keeps.refl ..) fun _ _ hu1 => (by
      split
      · exact hu1
      · exact (Keeps.ite (Keeps.step (setObj__keeps ..) rfl hu1) (Keeps.ite (Keeps.step (endCommand_keeps ..) rfl hu1) hu1))))

theorem reportOne_keeps (s : State) a1 a2 : Keeps 0x4000004 s (reportOne s a1 a2) := by
  unfold reportOne
  extract_lets -merge +onlyGivenNames x1 x2
  clear_value x1 x2
  exact (Keeps.ite (Keeps.refl ..) (by
      extract_lets -merge +onlyGivenNames x3 x4 x5 x6 x7
      clear_value x3 x4 x5 x6 x7
      exact (Keeps.foldl (Keeps.step (setStn_keeps ..) rfl (Keeps.refl ..)) fun _ _ hu8 => (Keeps.step (ethSend_keeps ..) rfl hu8))))

theorem reportsFreeze_keeps (s : State) : Keeps 0x4000004 s (reportsFreeze s) := by
  unfold reportsFreeze
  exact (Keeps.ite (Keeps.refl ..) (by
      extract_lets -merge +onlyGivenNames x1
      have h2 : Keeps 0x4000004 s x1 := (Keeps.foldl (Keeps.refl ..) fun _ _ hu3 => (Keeps.step (reportOne_keeps ..) rfl hu3))
      clear_value x1
      exact (Keeps.ite (Keeps.step (tokel_keeps ..) rfl h2) h2)))

theorem execGetDataValues_keeps a0 a1 a2 (s : State) : KeepsOut 0x42 s (execGetDataValues a0 a1 a2 s) := by
  unfold execGetDataValues
  exact (KeepsOut.done (Keeps.mmsCall rfl (Keeps.step (atTime_keeps ..) rfl (Keeps.refl ..)) (fun _ hu1 => (by
      split
      · exact (Keeps.step (answer_keeps ..) rfl hu1)
      · exact (Keeps.step (answer_keeps ..) rfl hu1)))))

theorem execGetDirectory_keeps a0 a1 a2 (s : State) : KeepsOut 0x42 s (execGetDirectory a0 a1 a2 s) := by
  unfold execGetDirectory
  exact (KeepsOut.done (Keeps.mmsCall rfl (Keeps.step (atTime_keeps ..) rfl (Keeps.refl ..)) (fun _ hu1 => (by
      split
      · exact (Keeps.step (answer_keeps ..) rfl hu1)
      · exact (Keeps.step (answer_keeps ..) rfl hu1)))))

theorem execGetFile_keeps a0 a1 a2 a3 a4 (s : State) : KeepsOut 0x2000042 s (execGetFile a0 a1 a2 a3 a4 s) := by
  unfold execGetFile
  exact (KeepsOut.done (Keeps.mmsCall rfl (Keeps.step (atTime_keeps ..) rfl (Keeps.refl ..)) (fun _ hu1 => (by
      split
      · exact (Keeps.step (answer_keeps ..) rfl hu1)
      · exact (by
          extract_lets -merge +onlyGivenNames x2 x3
          clear_value x2
          have h4 : Keeps 0x2000042 s x3 := (Keeps.upd_pe rfl hu1)
          clear_value x3
          extract_lets -merge +onlyGivenNames x5
          clear_value x5
          exact (Keeps.step (answer_keeps ..) rfl h4))))))

theorem setSub_keeps (s : State) a1 a2 : Keeps 0x4000000 s (setSub s a1 a2) := by
  unfold setSub
  exact (Keeps.step (setStn_keeps ..) rfl (Keeps.refl ..))

theorem execGooseErrorTimeout_keeps a0 a1 (s : State) : KeepsOut 0x2040004001048 s (execGooseErrorTimeout a0 a1 s) := by
  unfold execGooseErrorTimeout
  extract_lets -merge +onlyGivenNames x1
  have h2 : Keeps 0x2040004001048 s x1 := (Keeps.step (atTime_keeps ..) rfl (Keeps.refl ..))
  clear_value x1
  exact (by
    split
    · exact (KeepsOut.ite (KeepsOut.done (Keeps.step (gseMaps_keeps ..) rfl (Keeps.raise 10 rfl rfl rfl rfl (Keeps.step (setSub_keeps ..) rfl h2)))) (KeepsOut.done h2))
    · exact (KeepsOut.done h2))

theorem execGooseRepeat_keeps a0 a1 (s : State) : KeepsOut 0x2080004201048 s (execGooseRepeat a0 a1 s) := by
  unfold execGooseRepeat
  extract_lets -merge +onlyGivenNames x1
  have h2 : Keeps 0x2080004201048 s x1 := (Keeps.step (atTime_keeps ..) rfl (Keeps.refl ..))
  clear_value x1
  extract_lets -merge +onlyGivenNames x3
  clear_value x3
  exact (KeepsOut.ite (KeepsOut.done (Keeps.step (repeatState_keeps ..) rfl h2)) (KeepsOut.done h2))

theorem hearPartner_keeps (s : State) a1 : Keeps 0x4000000 s (hearPartner s a1) := by
  unfold hearPartner
  exact (by
    split
    · exact (Keeps.ite (Keeps.refl ..) (Keeps.step (setPub_keeps ..) rfl (Keeps.refl ..)))
    · exact (Keeps.refl ..))

theorem gooseAccept_keeps (s : State) a1 a2 a3 a4 : Keeps 0x2041404005488 s (gooseAccept s a1 a2 a3 a4) := by
  unfold gooseAccept
  extract_lets -merge +onlyGivenNames x1 x2 x3 x4
  clear_value x1 x2 x3
  have h5 : Keeps 0x2041404005488 s x4 := (Keeps.step (setSub_keeps ..) rfl (Keeps.refl ..))
  clear_value x4
  extract_lets -merge +onlyGivenNames x6
  have h7 : Keeps 0x2041404005488 s x6 := (Keeps.ite (Keeps.raise 10 rfl rfl rfl rfl h5) h5)
  clear_value x6
  extract_lets -merge +onlyGivenNames x8
  have h9 : Keeps 0x2041404005488 s x8 := (Keeps.ite (Keeps.step (collectMembers_keeps ..) rfl h7) h7)
  clear_value x8
  exact (Keeps.step (gseMaps_keeps ..) rfl (by
    split
    · exact (Keeps.step (putTelegram_keeps ..) rfl h9)
    · exact h9))

theorem execGooseRx_keeps a0 a1 (s : State) : KeepsOut 0x20414040054c8 s (execGooseRx a0 a1 s) := by
  unfold execGooseRx
  extract_lets -merge +onlyGivenNames x1
  have h2 : Keeps 0x20414040054c8 s x1 := (Keeps.step (hearPartner_keeps ..) rfl (Keeps.step (atTime_keeps ..) rfl (Keeps.refl ..)))
  clear_value x1
  exact (by
    split
    · exact (KeepsOut.done h2)
    · exact (by
        split
        · exact (KeepsOut.done h2)
        · exact (by
            extract_lets -merge +onlyGivenNames x3 x4
            clear_value x3 x4
            exact (KeepsOut.ite (KeepsOut.done (Keeps.foldl h2 fun _ _ hu5 => (by
                  split
                  · exact (Keeps.step (subTelegram_keeps ..) rfl hu5)
                  · exact hu5))) (KeepsOut.ite (KeepsOut.done (Keeps.step (setSub_keeps ..) rfl h2)) (KeepsOut.done (Keeps.step (gooseAccept_keeps ..) rfl h2)))))))

theorem execGooseTalExpiry_keeps a0 a1 (s : State) : KeepsOut 0x20404040010c8 s (execGooseTalExpiry a0 a1 s) := by
  unfold execGooseTalExpiry
  extract_lets -merge +onlyGivenNames x1
  have h2 : Keeps 0x20404040010c8 s x1 := (Keeps.step (atTime_keeps ..) rfl (Keeps.refl ..))
  clear_value x1
  exact (by
    split
    · exact (KeepsOut.ite (KeepsOut.done (Keeps.step (gseMaps_keeps ..) rfl (Keeps.step (loseSource_keeps ..) rfl (Keeps.raise 10 rfl rfl rfl rfl (Keeps.step (setSub_keeps ..) rfl h2))))) (KeepsOut.done h2))
    · exact (KeepsOut.done h2))

theorem execGseClrCnt_keeps a0 (s : State) : KeepsOut 0x600001400180a s (execGseClrCnt a0 s) := by
  unfold execGseClrCnt
  exact (KeepsOut.done (Keeps.keyedBit rfl (Keeps.refl ..) (fun _ hu1 => (Keeps.step (cleared_keeps ..) rfl (Keeps.step (setStn_keeps ..) rfl hu1)))))

theorem execIcmpEcho_keeps a0 a1 a2 a3 (s : State) : KeepsOut 0x4000044 s (execIcmpEcho a0 a1 a2 a3 s) := by
  unfold execIcmpEcho
  extract_lets -merge +onlyGivenNames x1
  have h2 : Keeps 0x4000044 s x1 := (Keeps.step (atTime_keeps ..) rfl (Keeps.refl ..))
  clear_value x1
  exact (KeepsOut.ite (KeepsOut.done (Keeps.step (ethSend_keeps ..) rfl h2)) (KeepsOut.done h2))

theorem execMmsAbort_keeps a0 a1 (s : State) : KeepsOut 0x6000040 s (execMmsAbort a0 a1 s) := by
  unfold execMmsAbort
  extract_lets -merge +onlyGivenNames x1
  have h2 : Keeps 0x6000040 s x1 := (Keeps.step (atTime_keeps ..) rfl (Keeps.refl ..))
  clear_value x1
  exact (KeepsOut.done (Keeps.ite (Keeps.step (endAssoc_keeps ..) rfl h2) h2))

theorem execMmsAssociate_keeps a0 a1 a2 (s : State) : KeepsOut 0x4000042 s (execMmsAssociate a0 a1 a2 s) := by
  unfold execMmsAssociate
  extract_lets -merge +onlyGivenNames x1
  have h2 : Keeps 0x4000042 s x1 := (Keeps.step (atTime_keeps ..) rfl (Keeps.refl ..))
  clear_value x1
  exact (KeepsOut.ite (KeepsOut.done (Keeps.step (answer_keeps ..) rfl (Keeps.step (setStn_keeps ..) rfl h2))) (KeepsOut.done (Keeps.step (answer_keeps ..) rfl h2)))

theorem execMmsConclude_keeps a0 a1 (s : State) : KeepsOut 0x6000042 s (execMmsConclude a0 a1 s) := by
  unfold execMmsConclude
  exact (KeepsOut.done (Keeps.mmsCall rfl (Keeps.step (atTime_keeps ..) rfl (Keeps.refl ..)) (fun _ hu1 => (Keeps.step (answer_keeps ..) rfl (Keeps.step (endAssoc_keeps ..) rfl hu1)))))

theorem execMmsOperate_keeps a0 a1 a2 a3 a4 a5 (s : State) : KeepsOut 0x20014040014ca s (execMmsOperate a0 a1 a2 a3 a4 a5 s) := by
  unfold execMmsOperate
  exact (KeepsOut.done (Keeps.mmsCall rfl (Keeps.step (atTime_keeps ..) rfl (Keeps.refl ..)) (fun _ hu1 => (by
      split
      · exact (Keeps.step (answer_keeps ..) rfl hu1)
      · exact (by
          extract_lets -merge +onlyGivenNames x2 x3
          clear_value x2
          have h4 : ∀ y0, Keeps 0x20014040014ca s (x3 y0) := fun y0 => (Keeps.step (answer_keeps ..) rfl (Keeps.step (setStn_keeps ..) rfl hu1))
          clear_value x3
          exact (Keeps.ite (h4 _) (Keeps.ite (h4 _) (by
                extract_lets -merge +onlyGivenNames x5 x6
                clear_value x5
                have h7 : Keeps 0x20014040014ca s x6 := (Keeps.step (setObj__keeps ..) rfl hu1)
                clear_value x6
                extract_lets -merge +onlyGivenNames x8
                have h9 : Keeps 0x20014040014ca s x8 := (Keeps.foldl h7 fun _ _ hu10 => (Keeps.step (collectOwn_keeps ..) rfl hu10))
                clear_value x8
                extract_lets -merge +onlyGivenNames x11
                have h12 : Keeps 0x20014040014ca s x11 := by
                  unfold x11
                  exact (by
                    split
                    · exact (Keeps.step (putTelegram_keeps ..) rfl h9)
                    · exact h9)
                clear_value x11
                exact (Keeps.step (answer_keeps ..) rfl (Keeps.step (setStn_keeps ..) rfl h12))))))))))

theorem execMmsSelect_keeps a0 a1 a2 (s : State) : KeepsOut 0x4000042 s (execMmsSelect a0 a1 a2 s) := by
  unfold execMmsSelect
  exact (KeepsOut.done (Keeps.mmsCall rfl (Keeps.step (atTime_keeps ..) rfl (Keeps.refl ..)) (fun _ hu1 => (by
      split
      · exact (Keeps.step (answer_keeps ..) rfl hu1)
      · exact (by
          extract_lets -merge +onlyGivenNames x2 x3
          clear_value x2 x3
          exact (Keeps.ite (Keeps.step (answer_keeps ..) rfl hu1) (Keeps.step (answer_keeps ..) rfl (Keeps.step (setObj__keeps ..) rfl hu1))))))))

theorem stationImage_keeps (s : State) a1 : Keeps 0x40004000000 s (stationImage s a1) := by
  unfold stationImage
  extract_lets -merge +onlyGivenNames x1
  have h2 : Keeps 0x40004000000 s x1 := (Keeps.step (gseSubscribe_keeps ..) rfl (Keeps.refl ..))
  clear_value x1
  exact (Keeps.foldl h2 fun _ _ hu3 => (Keeps.ite hu3 (Keeps.step (setPub_keeps ..) rfl hu3)))

theorem execOperateTimeout_keeps a0 a1 (s : State) : KeepsOut 0x20004040010cc s (execOperateTimeout a0 a1 s) := by
  unfold execOperateTimeout
  extract_lets -merge +onlyGivenNames x1
  have h2 : Keeps 0x20004040010cc s x1 := (Keeps.step (atTime_keeps ..) rfl (Keeps.refl ..))
  clear_value x1
  exact (by
    split
    · exact (KeepsOut.ite (KeepsOut.done (Keeps.step (endCommand_keeps ..) rfl h2)) (KeepsOut.done h2))
    · exact (KeepsOut.done h2))

theorem execSelectTimeout_keeps a0 a1 (s : State) : KeepsOut 0x4000040 s (execSelectTimeout a0 a1 s) := by
  unfold execSelectTimeout
  extract_lets -merge +onlyGivenNames x1
  have h2 : Keeps 0x4000040 s x1 := (Keeps.step (atTime_keeps ..) rfl (Keeps.refl ..))
  clear_value x1
  extract_lets -merge +onlyGivenNames x3
  clear_value x3
  exact (KeepsOut.ite (KeepsOut.done (Keeps.step (setObj__keeps ..) rfl h2)) (KeepsOut.done h2))

theorem execSessionClose_keeps a0 a1 (s : State) : KeepsOut 0x202001000504c s (execSessionClose a0 a1 s) := by
  unfold execSessionClose
  exact (KeepsOut.done (Keeps.step (closeSession_keeps ..) rfl (Keeps.step (atTime_keeps ..) rfl (Keeps.refl ..))))

theorem execSessionIdleTimeout_keeps a0 a1 (s : State) : KeepsOut 0x202001000504c s (execSessionIdleTimeout a0 a1 s) := by
  unfold execSessionIdleTimeout
  extract_lets -merge +onlyGivenNames x1
  have h2 : Keeps 0x202001000504c s x1 := (Keeps.step (atTime_keeps ..) rfl (Keeps.refl ..))
  clear_value x1
  exact (KeepsOut.ite (KeepsOut.done (Keeps.step (closeSession_keeps ..) rfl h2)) (KeepsOut.done h2))

theorem execSessionOpen_keeps a0 a1 (s : State) : KeepsOut 0x202001400104a s (execSessionOpen a0 a1 s) := by
  unfold execSessionOpen
  extract_lets -merge +onlyGivenNames x1
  have h2 : Keeps 0x202001400104a s x1 := (Keeps.step (atTime_keeps ..) rfl (Keeps.refl ..))
  clear_value x1
  extract_lets -merge +onlyGivenNames x3 x4
  clear_value x3 x4
  exact (by
    split
    · exact (KeepsOut.done (Keeps.step (answer_keeps ..) rfl (Keeps.step (sessEvent_keeps ..) rfl h2)))
    · exact (KeepsOut.ite (KeepsOut.done (Keeps.step (answer_keeps ..) rfl (Keeps.step (sessEvent_keeps ..) rfl h2))) (by
          extract_lets -merge +onlyGivenNames x5 x6 x7
          clear_value x5 x6
          have h8 : Keeps 0x202001400104a s x7 := (Keeps.step (setStn_keeps ..) rfl (Keeps.upd_sess rfl h2))
          clear_value x7
          exact (KeepsOut.done (Keeps.step (answer_keeps ..) rfl (Keeps.step (sessEvent_keeps ..) rfl h8))))))

theorem execSetDataValues_keeps a0 a1 a2 a3 a4 (s : State) : KeepsOut 0x4000042 s (execSetDataValues a0 a1 a2 a3 a4 s) := by
  unfold execSetDataValues
  exact (KeepsOut.done (Keeps.mmsCall rfl (Keeps.step (atTime_keeps ..) rfl (Keeps.refl ..)) (fun _ hu1 => (by
      split
      · exact (Keeps.step (answer_keeps ..) rfl hu1)
      · exact (by
          extract_lets -merge +onlyGivenNames x2 x3
          clear_value x2
          have h4 : ∀ y0, Keeps 0x4000042 s (x3 y0) := fun y0 => (Keeps.step (answer_keeps ..) rfl (Keeps.step (setStn_keeps ..) rfl hu1))
          clear_value x3
          exact (Keeps.ite (Keeps.step (answer_keeps ..) rfl hu1) (Keeps.ite (h4 _) (Keeps.ite (h4 _) (h4 _)))))))))

theorem execSupervisionFrame_keeps a0 a1 (s : State) : KeepsOut 0x4000044 s (execSupervisionFrame a0 a1 s) := by
  unfold execSupervisionFrame
  extract_lets -merge +onlyGivenNames x1
  have h2 : Keeps 0x4000044 s x1 := (Keeps.step (atTime_keeps ..) rfl (Keeps.refl ..))
  clear_value x1
  exact (KeepsOut.ite (KeepsOut.done h2) (KeepsOut.done (Keeps.foldl h2 fun _ _ hu3 => (Keeps.step (ethSend_keeps ..) rfl hu3))))

end Sys2Proof.Machine
end

