-- ==== Sys2Proof/Laws/KeepsDisplay.lean ====
section
/-! SUPPORT. What each operation of Phasor, Display can change: one lemma for each (Laws/Keeps.lean says what Keeps means).
The mask names the parts by Part.bit. -/

namespace Sys2Proof.Machine

open Sys2Proof

theorem setPe_keeps (s : State) a1 : Keeps 0x2000000 s (setPe s a1) := by
  unfold setPe
  exact (Keeps.upd_pe rfl (Keeps.refl ..))

theorem peStart_keeps (s : State) : Keeps 0x2000100 s (peStart s) := by
  unfold peStart
  extract_lets -merge +onlyGivenNames x1 x2 x3
  clear_value x1 x2
  have h4 : Keeps 0x2000100 s x3 := (Keeps.upd_sched rfl (Keeps.refl ..))
  clear_value x3
  exact (Keeps.step (setPe_keeps ..) rfl h4)

theorem setEng_keeps (s : State) a1 a2 : Keeps 0x2000000 s (setEng s a1 a2) := by
  unfold setEng
  exact (Keeps.step (setPe_keeps ..) rfl (Keeps.refl ..))

theorem setElem_keeps (s : State) a1 a2 a3 : Keeps 0x2000000 s (setElem s a1 a2 a3) := by
  unfold setElem
  exact (Keeps.step (setEng_keeps ..) rfl (Keeps.refl ..))

theorem capDone_keeps (s : State) a1 a2 a3 : Keeps 0x2002002001008 s (capDone s a1 a2 a3) := by
  unfold capDone
  extract_lets -merge +onlyGivenNames x1 x2 x3 x4 x5 x6 x7
  clear_value x1 x2 x3 x4 x5 x6
  have h8 : Keeps 0x2002002001008 s x7 := (Keeps.step (setElem_keeps ..) rfl (Keeps.refl ..))
  clear_value x7
  exact (Keeps.raise 5 rfl rfl rfl rfl (Keeps.step (setPe_keeps ..) rfl h8))

theorem endPrompt_keeps (s : State) a1 : Keeps 0x40100 s (endPrompt s a1) := by
  unfold endPrompt
  exact (by
    split
    · exact (Keeps.refl ..)
    · exact (by
        extract_lets -merge +onlyGivenNames x1 x2
        clear_value x1
        have h3 : Keeps 0x40100 s x2 := (Keeps.upd_sched rfl (Keeps.refl ..))
        clear_value x2
        extract_lets -merge +onlyGivenNames x4
        clear_value x4
        exact (Keeps.ite (Keeps.step (setDo_keeps ..) rfl h3) h3)))

theorem makeRoom_keeps (s : State) size n : Keeps 0x2000000 s (makeRoom s size n) := by
  induction n generalizing s with
  | zero => exact Keeps.refl ..
  | succ n ih =>
    unfold makeRoom
    extract_lets r used
    refine Keeps.ite (Keeps.refl ..) ?_
    split
    · exact Keeps.refl ..
    · exact Keeps.step (ih _) rfl (Keeps.step (setPe_keeps ..) rfl (Keeps.refl ..))

theorem evalCapture_keeps (s : State) a1 a2 a3 a4 : Keeps 0x2002002001008 s (evalCapture s a1 a2 a3 a4) := by
  unfold evalCapture
  extract_lets -merge +onlyGivenNames x1 x2 x3 x4 x5 x6 x7
  clear_value x1 x2 x3 x4 x5 x6
  have h8 : ∀ (u : State) y1, Keeps 0x2002002001008 s u → Keeps 0x2002002001008 s (x7 u y1) := fun u y1 hu9 => by
    unfold x7
    exact (by
      extract_lets -merge +onlyGivenNames x10
      clear_value x10
      exact (Keeps.step (setElem_keeps ..) rfl hu9))
  clear_value x7
  extract_lets -merge +onlyGivenNames x11
  have h12 : ∀ (u : State), Keeps 0x2002002001008 s u → Keeps 0x2002002001008 s (x11 u) := fun u hu13 => by
    unfold x11
    exact (Keeps.ite (Keeps.step (capDone_keeps ..) rfl hu13) hu13)
  clear_value x11
  exact (Keeps.ite (by
      extract_lets -merge +onlyGivenNames x14 x15
      clear_value x14 x15
      exact (h12 _ (h8 _ _ (Keeps.refl ..)))) (Keeps.ite (by
        extract_lets -merge +onlyGivenNames x16
        have h17 : Keeps 0x2002002001008 s x16 := (Keeps.step (makeRoom_keeps ..) rfl (Keeps.refl ..))
        clear_value x16
        exact (Keeps.ite (h12 _ (h8 _ _ h17)) (h8 _ _ (Keeps.raise 5 rfl rfl rfl rfl h17)))) (h8 _ _ (Keeps.refl ..))))

theorem peFreeze_keeps (s : State) : Keeps 0x2000000 s (peFreeze s) := by
  unfold peFreeze
  exact (Keeps.step (setPe_keeps ..) rfl (Keeps.refl ..))

theorem peGuard_keeps (s : State) : Keeps 0x2000000 s (peGuard s) := by
  unfold peGuard
  exact (Keeps.step (setPe_keeps ..) rfl (Keeps.refl ..))

theorem readyEvent_keeps (s : State) a1 a2 a3 a4 a5 : Keeps 0x2002000001008 s (readyEvent s a1 a2 a3 a4 a5) := by
  unfold readyEvent
  exact (Keeps.ite (Keeps.refl ..) (Keeps.ite (Keeps.raise 5 rfl rfl rfl rfl (Keeps.refl ..)) (Keeps.raise 5 rfl rfl rfl rfl (Keeps.refl ..))))

theorem peImage_keeps (s : State) a1 : Keeps 0x2002002041108 s (peImage s a1) := by
  unfold peImage
  exact (Keeps.foldl (Keeps.refl ..) fun _ _ hu1 => (by
      extract_lets -merge +onlyGivenNames x2 x3 x4
      clear_value x2 x3 x4
      exact (Keeps.ite hu1 (by
          extract_lets -merge +onlyGivenNames x5 x6
          clear_value x5
          have h7 : Keeps 0x2002002041108 s x6 := (Keeps.step (setEng_keeps ..) rfl hu1)
          clear_value x6
          extract_lets -merge +onlyGivenNames x8
          have h9 : Keeps 0x2002002041108 s x8 := (Keeps.foldl h7 fun _ _ hu10 => (by
                extract_lets -merge +onlyGivenNames x11
                clear_value x11
                exact (Keeps.step (readyEvent_keeps ..) rfl hu10)))
          clear_value x8
          exact (Keeps.foldl h9 fun _ _ hu12 => (by
              split
              · exact hu12
              · exact (by
                  extract_lets -merge +onlyGivenNames x13
                  clear_value x13
                  exact (Keeps.ite hu12 (by
                      extract_lets -merge +onlyGivenNames x14 x15
                      clear_value x14
                      have h16 : Keeps 0x2002002041108 s x15 := (Keeps.upd_sched rfl hu12)
                      clear_value x15
                      exact (Keeps.ite (Keeps.step (endPrompt_keeps ..) rfl h16) h16))))))))))

theorem execPeClrCnt_keeps a0 a1 (s : State) : KeepsOut 0x600001200180a s (execPeClrCnt a0 a1 s) := by
  unfold execPeClrCnt
  exact (KeepsOut.done (Keeps.keyedBit rfl (Keeps.refl ..) (fun _ hu1 => (by
      extract_lets -merge +onlyGivenNames x2
      clear_value x2
      exact (Keeps.step (cleared_keeps ..) rfl (Keeps.step (setEng_keeps ..) rfl hu1))))))

theorem peSkip_keeps (s : State) a1 a2 a3 : Keeps 0x2000000 s (peSkip s a1 a2 a3) := by
  unfold peSkip
  extract_lets -merge +onlyGivenNames x1 x2 x3
  clear_value x1 x2 x3
  exact (Keeps.step (setElem_keeps ..) rfl (Keeps.refl ..))

theorem postOne_keeps (s : State) a1 a2 a3 : Keeps 0x2000400001088 s (postOne s a1 a2 a3) := by
  unfold postOne
  extract_lets -merge +onlyGivenNames x1 x2 x3
  clear_value x1 x2 x3
  exact (Keeps.ite (Keeps.step (collectTet_keeps ..) rfl (Keeps.refl ..)) (by
      extract_lets -merge +onlyGivenNames x4
      clear_value x4
      exact (Keeps.step (collectAna_keeps ..) rfl (Keeps.refl ..))))

theorem pePost_keeps (s : State) a1 a2 : Keeps 0x2000400001088 s (pePost s a1 a2) := by
  unfold pePost
  exact (Keeps.foldl (Keeps.refl ..) fun _ _ hu1 => (Keeps.step (postOne_keeps ..) rfl hu1))

theorem peFail_keeps (s : State) a1 a2 a3 : Keeps 0x200a40206318e s (peFail s a1 a2 a3) := by
  unfold peFail
  extract_lets -merge +onlyGivenNames x1
  clear_value x1
  exact (Keeps.ite (Keeps.refl ..) (by
      extract_lets -merge +onlyGivenNames x2
      have h3 : Keeps 0x200a40206318e s x2 := (Keeps.foldl (Keeps.refl ..) fun _ _ hu4 => (by
            extract_lets -merge +onlyGivenNames x5
            clear_value x5
            exact (Keeps.step (readyEvent_keeps ..) rfl (Keeps.step (setElem_keeps ..) rfl hu4))))
      clear_value x2
      extract_lets -merge +onlyGivenNames x6 x7
      clear_value x6
      have h8 : Keeps 0x200a40206318e s x7 := (Keeps.step (setEng_keeps ..) rfl h3)
      clear_value x7
      extract_lets -merge +onlyGivenNames x9 x10
      clear_value x9
      have h11 : Keeps 0x200a40206318e s x10 := (Keeps.step (startFlush_keeps ..) rfl (Keeps.raise 5 rfl rfl rfl rfl (Keeps.foldl h8 fun _ _ hu12 => (Keeps.step (endPrompt_keeps ..) rfl hu12))))
      clear_value x10
      extract_lets -merge +onlyGivenNames x13 x14
      clear_value x13
      have h15 : Keeps 0x200a40206318e s x14 := (Keeps.step (pePost_keeps ..) rfl (Keeps.upd_upd rfl h11))
      clear_value x14
      exact (by
        split
        · exact (Keeps.step (requestSwitchover_keeps ..) rfl h15)
        · exact (Keeps.step (requestSwitchover_keeps ..) rfl h15)
        · exact h15
        · exact (Keeps.step (leaveForRestart_keeps ..) rfl h15))))

theorem execPePassOverrun_keeps a0 a1 (s : State) : KeepsOut 0x200a4020631ce s (execPePassOverrun a0 a1 s) := by
  unfold execPePassOverrun
  extract_lets -merge +onlyGivenNames x1
  have h2 : Keeps 0x200a4020631ce s x1 := (Keeps.step (atTime_keeps ..) rfl (Keeps.refl ..))
  clear_value x1
  extract_lets -merge +onlyGivenNames x3
  clear_value x3
  exact (by
    split
    · exact (KeepsOut.done h2)
    · exact (by
        extract_lets -merge +onlyGivenNames x4 x5
        clear_value x4
        have h6 : Keeps 0x200a4020631ce s x5 := (Keeps.foldl h2 fun _ _ hu7 => (Keeps.step (peSkip_keeps ..) rfl hu7))
        clear_value x5
        extract_lets -merge +onlyGivenNames x8 x9 x10
        clear_value x8 x9
        have h11 : Keeps 0x200a4020631ce s x10 := (Keeps.step (setEng_keeps ..) rfl h6)
        clear_value x10
        extract_lets -merge +onlyGivenNames x12
        have h13 : Keeps 0x200a4020631ce s x12 := (Keeps.raise 5 rfl rfl rfl rfl h11)
        clear_value x12
        exact (KeepsOut.ite (KeepsOut.done (Keeps.step (peFail_keeps ..) rfl h13)) (KeepsOut.done (Keeps.step (pePost_keeps ..) rfl h13)))))

theorem execPePostDeadline_keeps a0 a1 (s : State) : KeepsOut 0x200a4020631ce s (execPePostDeadline a0 a1 s) := by
  unfold execPePostDeadline
  extract_lets -merge +onlyGivenNames x1
  have h2 : Keeps 0x200a4020631ce s x1 := (Keeps.step (atTime_keeps ..) rfl (Keeps.refl ..))
  clear_value x1
  exact (KeepsOut.ite (KeepsOut.done (Keeps.step (peFail_keeps ..) rfl h2)) (KeepsOut.done h2))

theorem execPromptMinpulseEnd_keeps a0 a1 (s : State) : KeepsOut 0x40140 s (execPromptMinpulseEnd a0 a1 s) := by
  unfold execPromptMinpulseEnd
  extract_lets -merge +onlyGivenNames x1
  have h2 : Keeps 0x40140 s x1 := (Keeps.step (atTime_keeps ..) rfl (Keeps.refl ..))
  clear_value x1
  exact (by
    split
    · exact (KeepsOut.ite (KeepsOut.done (Keeps.step (endPrompt_keeps ..) rfl h2)) (KeepsOut.done h2))
    · exact (KeepsOut.done h2))

theorem peEcc_keeps (s : State) a1 a2 : Keeps 0x2002002001008 s (peEcc s a1 a2) := by
  unfold peEcc
  exact (Keeps.ite (Keeps.refl ..) (by
      extract_lets -merge +onlyGivenNames x1
      clear_value x1
      exact (Keeps.raise 5 rfl rfl rfl rfl (Keeps.step (setEng_keeps ..) rfl (Keeps.refl ..)))))

theorem ringBad_keeps (s : State) a1 a2 a3 : Keeps 0x2000003001008 s (ringBad s a1 a2 a3) := by
  unfold ringBad
  exact (by
    split
    · exact (by
        extract_lets -merge +onlyGivenNames x1 x2 x3 x4 x5
        clear_value x1 x2 x3 x4
        have h6 : Keeps 0x2000003001008 s x5 := (Keeps.step (setEng_keeps ..) rfl (Keeps.step (setStream_keeps ..) rfl (Keeps.refl ..)))
        clear_value x5
        exact (Keeps.step (recordBare_keeps ..) rfl h6))
    · exact (Keeps.refl ..))

theorem peLoad_keeps (s : State) a1 a2 : Keeps 0x2000000 s (peLoad s a1 a2) := by
  unfold peLoad
  extract_lets -merge +onlyGivenNames x1 x2 x3
  clear_value x1 x2 x3
  exact (Keeps.step (setEng_keeps ..) rfl (Keeps.refl ..))

theorem fireRoute_keeps (s : State) a1 a2 a3 a4 : Keeps 0x2082204201108 s (fireRoute s a1 a2 a3 a4) := by
  unfold fireRoute
  extract_lets -merge +onlyGivenNames x1
  clear_value x1
  exact (Keeps.ite (Keeps.raise 1 rfl rfl rfl rfl (Keeps.refl ..)) (by
      extract_lets -merge +onlyGivenNames x2 x3 x4 x5
      clear_value x2 x3 x4
      have h6 : Keeps 0x2082204201108 s x5 := (Keeps.upd_sched rfl (Keeps.refl ..))
      clear_value x5
      extract_lets -merge +onlyGivenNames x7
      have h8 : Keeps 0x2082204201108 s x7 := (Keeps.raise 1 rfl rfl rfl rfl (Keeps.bump rfl h6))
      clear_value x7
      exact (Keeps.step (promptPub_keeps ..) rfl (Keeps.raise 5 rfl rfl rfl rfl h8))))

theorem tripChanged_keeps (s : State) a1 a2 a3 a4 : Keeps 0x2082204241108 s (tripChanged s a1 a2 a3 a4) := by
  unfold tripChanged
  extract_lets -merge +onlyGivenNames x1
  clear_value x1
  exact (Keeps.foldl (Keeps.refl ..) fun _ _ hu2 => (Keeps.ite hu2 (Keeps.ite (Keeps.step (fireRoute_keeps ..) rfl hu2) (by
          split
          · exact hu2
          · exact (by
              extract_lets -merge +onlyGivenNames x3 x4
              clear_value x3
              have h5 : Keeps 0x2082204241108 s x4 := (Keeps.upd_sched rfl hu2)
              clear_value x4
              exact (Keeps.ite (Keeps.step (endPrompt_keeps ..) rfl h5) h5))))))

theorem peElem_keeps (s : State) a1 a2 a3 a4 : Keeps 0x2082206241108 s (peElem s a1 a2 a3 a4) := by
  unfold peElem
  extract_lets -merge +onlyGivenNames x1
  clear_value x1
  exact (by
    split
    · exact (Keeps.step (setElem_keeps ..) rfl (Keeps.refl ..))
    · exact (Keeps.step (setElem_keeps ..) rfl (Keeps.step (setEng_keeps ..) rfl (Keeps.refl ..)))
    · exact (by
        extract_lets -merge +onlyGivenNames x2
        clear_value x2
        exact (Keeps.ite (Keeps.step (evalCapture_keeps ..) rfl (Keeps.refl ..)) (by
            extract_lets -merge +onlyGivenNames x3
            have h4 : Keeps 0x2082206241108 s x3 := (Keeps.step (readyEvent_keeps ..) rfl (Keeps.step (setElem_keeps ..) rfl (Keeps.refl ..)))
            clear_value x3
            exact (Keeps.ite (Keeps.step (tripChanged_keeps ..) rfl h4) h4)))))

theorem peKat_keeps (s : State) a1 a2 a3 : Keeps 0x200a40206318e s (peKat s a1 a2 a3) := by
  unfold peKat
  extract_lets -merge +onlyGivenNames x1 x2 x3
  clear_value x1 x2
  have h4 : Keeps 0x200a40206318e s x3 := (Keeps.step (setEng_keeps ..) rfl (Keeps.refl ..))
  clear_value x3
  exact (Keeps.ite h4 (Keeps.step (peFail_keeps ..) rfl h4))

theorem peTick_keeps (s : State) a1 a2 a3 a4 : Keeps 0x208a60726318e s (peTick s a1 a2 a3 a4) := by
  unfold peTick
  extract_lets -merge +onlyGivenNames x1
  clear_value x1
  exact (Keeps.ite (Keeps.step (pePost_keeps ..) rfl (Keeps.refl ..)) (Keeps.ite (Keeps.refl ..) (by
        extract_lets -merge +onlyGivenNames x2 x3
        clear_value x2
        have h4 : Keeps 0x208a60726318e s x3 := (Keeps.step (peEcc_keeps ..) rfl (Keeps.foldl (Keeps.step (setEng_keeps ..) rfl (Keeps.refl ..)) fun _ _ hu5 => (Keeps.step (ringBad_keeps ..) rfl hu5)))
        clear_value x3
        extract_lets -merge +onlyGivenNames x6 x7
        clear_value x6
        have h8 : Keeps 0x208a60726318e s x7 := (Keeps.step (peLoad_keeps ..) rfl (Keeps.foldl h4 fun _ _ hu9 => (Keeps.step (peElem_keeps ..) rfl hu9)))
        clear_value x7
        exact (Keeps.ite (Keeps.step (peFail_keeps ..) rfl h8) (by
            split
            · exact (Keeps.step (setEng_keeps ..) rfl h8)
            · exact (Keeps.step (peKat_keeps ..) rfl (Keeps.step (pePost_keeps ..) rfl h8)))))))

theorem svTick_keeps (s : State) k j t : Keeps 0x2004401001088 s (svTick s k j t).1 := by
  unfold svTick
  extract_lets -merge +onlyGivenNames c
  split
  · extract_lets -merge +onlyGivenNames m i1 s1
    have h1 : Keeps 0x2004401001088 s s1 := Keeps.ite (Keeps.step (svRelease_keeps ..) rfl (Keeps.refl ..)) (Keeps.refl ..)
    clear_value s1
    split
    · exact Keeps.step (svResample_keeps ..) rfl h1
    · exact h1
  · split
    · extract_lets -merge +onlyGivenNames n
      exact Keeps.step (svRelease_keeps ..) rfl (Keeps.refl ..)
    · exact Keeps.refl ..

theorem sviTick_keeps (s : State) j t : Keeps 0x2004401001088 s (sviTick s j t).1 := by
  have hfold : ∀ (l : Tbl (Option SvStream)) (p : State × List (Nat × Nat)), Keeps 0x2004401001088 s p.1 →
      Keeps 0x2004401001088 s (l.foldl (fun (p : State × List (Nat × Nat)) e =>
        let (u, n) := svTick p.1 e.1 j t
        (u, match n with
          | some v => p.2 ++ [(e.1, v)]
          | none => p.2)) p).1 := by
    intro l
    induction l with
    | nil => exact fun _ h => h
    | cons e l ih => exact fun p h => ih _ (Keeps.step (svTick_keeps ..) rfl h)
  unfold sviTick
  split
  · exact Keeps.refl ..
  · have h0 := hfold s.svi.streams (s, []) (Keeps.refl ..)
    dsimp only
    refine Keeps.step (svMaps_keeps ..) rfl (Keeps.ite (Keeps.step (setSvi_keeps ..) rfl (Keeps.wr rfl h0)) h0)

theorem execSampleTick_keeps a0 a1 (s : State) : KeepsOut 0x208e6072631ce s (execSampleTick a0 a1 s) := by
  unfold execSampleTick
  extract_lets -merge +onlyGivenNames x1
  have h2 : Keeps 0x208e6072631ce s x1 := (Keeps.step (atTime_keeps ..) rfl (Keeps.refl ..))
  clear_value x1
  extract_lets -merge +onlyGivenNames x3
  clear_value x3
  exact (KeepsOut.ite (KeepsOut.done h2) (by
      extract_lets -merge +onlyGivenNames x4 x5
      have h6 : Keeps 0x208e6072631ce s x5 := (Keeps.step (sviTick_keeps ..) rfl (Keeps.upd_freeN_grid (by first | exact fun h => h | exact fun _ => Nat.le_of_ble_eq_true rfl) (Nat.le_refl _) (.inr rfl) rfl h2))
      clear_value x5
      exact (KeepsOut.done (Keeps.foldl h6 fun _ _ hu7 => (Keeps.step (peTick_keeps ..) rfl hu7)))))

theorem setDpy_keeps (s : State) a1 : Keeps 0x8000000 s (setDpy s a1) := by
  unfold setDpy
  exact (Keeps.upd_dpy rfl (Keeps.refl ..))

theorem adoptRegions_keeps (s : State) : Keeps 0x8000000 s (adoptRegions s) := by
  unfold adoptRegions
  extract_lets -merge +onlyGivenNames x1
  clear_value x1
  exact (Keeps.ite (Keeps.refl ..) (by
      extract_lets -merge +onlyGivenNames x2
      clear_value x2
      exact (Keeps.step (setDpy_keeps ..) rfl (Keeps.refl ..))))

theorem dpyTables_keeps (s : State) : Keeps 0x3000008001008 s (dpyTables s) := by
  unfold dpyTables
  extract_lets -merge +onlyGivenNames x1 x2 x3
  clear_value x1 x2
  have h4 : Keeps 0x3000008001008 s x3 := (Keeps.step (setDpy_keeps ..) rfl (Keeps.refl ..))
  clear_value x3
  extract_lets -merge +onlyGivenNames x5
  have h6 : Keeps 0x3000008001008 s x5 := (Keeps.ite (Keeps.raise 16 rfl rfl rfl rfl h4) h4)
  clear_value x5
  exact (Keeps.ite h6 (Keeps.raise 16 rfl rfl rfl rfl (Keeps.step (setDpy_keeps ..) rfl h6)))

theorem dpyStart_keeps (s : State) : Keeps 0x8000000 s (dpyStart s) := by
  unfold dpyStart
  extract_lets -merge +onlyGivenNames x1 x2
  clear_value x1 x2
  exact (Keeps.step (setDpy_keeps ..) rfl (Keeps.refl ..))

theorem setRow_keeps (s : State) a1 a2 : Keeps 0x8000000 s (setRow s a1 a2) := by
  unfold setRow
  exact (Keeps.step (setDpy_keeps ..) rfl (Keeps.refl ..))

theorem startRow_keeps (s : State) a1 a2 a3 : Keeps 0x8000000 s (startRow s a1 a2 a3) := by
  unfold startRow
  extract_lets -merge +onlyGivenNames x1 x2
  clear_value x1 x2
  exact (Keeps.step (setRow_keeps ..) rfl (Keeps.refl ..))

theorem startFinal_keeps (s : State) : Keeps 0x8000000 s (startFinal s) := by
  unfold startFinal
  exact (Keeps.ite (by
      extract_lets -merge +onlyGivenNames x1
      clear_value x1
      exact (Keeps.step (setDpy_keeps ..) rfl (Keeps.foldl (Keeps.refl ..) fun _ _ hu2 => (Keeps.step (startRow_keeps ..) rfl hu2)))) (Keeps.refl ..))

theorem startClears_keeps (s : State) : Keeps 0x8000000 s (startClears s) := by
  unfold startClears
  exact (Keeps.foldl (Keeps.refl ..) fun _ _ hu1 => (Keeps.ite hu1 (by
        extract_lets -merge +onlyGivenNames x2
        have h3 : Keeps 0x8000000 s x2 := (Keeps.step (setDpy_keeps ..) rfl hu1)
        clear_value x2
        exact (Keeps.ite (Keeps.step (startRow_keeps ..) rfl h3) h3))))

theorem recoverRow_keeps (s : State) a1 : Keeps 0x8000000 s (recoverRow s a1) := by
  unfold recoverRow
  extract_lets -merge +onlyGivenNames x1 x2 x3
  clear_value x1 x2 x3
  exact (Keeps.step (setRow_keeps ..) rfl (Keeps.refl ..))

theorem startRecovery_keeps (s : State) : Keeps 0x8000000 s (startRecovery s) := by
  unfold startRecovery
  exact (Keeps.step (setDpy_keeps ..) rfl (Keeps.foldl (Keeps.refl ..) fun _ _ hu1 => (Keeps.step (recoverRow_keeps ..) rfl hu1)))

theorem setReg_keeps (s : State) a1 a2 : Keeps 0x8000000 s (setReg s a1 a2) := by
  unfold setReg
  exact (Keeps.step (setDpy_keeps ..) rfl (Keeps.refl ..))

theorem startRegion_keeps (s : State) a1 : Keeps 0x8000000 s (startRegion s a1) := by
  unfold startRegion
  extract_lets -merge +onlyGivenNames x1
  clear_value x1
  exact (by
    split
    · exact (Keeps.refl ..)
    · exact (Keeps.ite (Keeps.refl ..) (by
          extract_lets -merge +onlyGivenNames x2
          have h3 : Keeps 0x8000000 s x2 := (Keeps.foldl (Keeps.refl ..) fun _ _ hu4 => (by
                extract_lets -merge +onlyGivenNames x5
                clear_value x5
                exact (Keeps.ite hu4 (Keeps.step (startRow_keeps ..) rfl hu4))))
          clear_value x2
          exact (Keeps.step (setReg_keeps ..) rfl h3))))

theorem dpyStarts_keeps (s : State) : Keeps 0x8000000 s (dpyStarts s) := by
  unfold dpyStarts
  exact (Keeps.ite (Keeps.refl ..) (by
      extract_lets -merge +onlyGivenNames x1
      have h2 : Keeps 0x8000000 s x1 := (Keeps.step (startFinal_keeps ..) rfl (Keeps.step (startClears_keeps ..) rfl (Keeps.step (startRecovery_keeps ..) rfl (Keeps.refl ..))))
      clear_value x1
      exact (Keeps.ite h2 (Keeps.foldl h2 fun _ _ hu3 => (Keeps.step (startRegion_keeps ..) rfl hu3)))))

theorem endFinal_keeps (s : State) : Keeps 0x3000008001008 s (endFinal s) := by
  unfold endFinal
  exact (Keeps.ite (Keeps.raise 16 rfl rfl rfl rfl (Keeps.step (setDpy_keeps ..) rfl (Keeps.refl ..))) (Keeps.refl ..))

theorem endPhase_keeps (s : State) a1 : Keeps 0x8000000 s (endPhase s a1) := by
  unfold endPhase
  extract_lets -merge +onlyGivenNames x1
  try clear_value x1
  exact (Keeps.ite (Keeps.refl ..) (by
      extract_lets -merge +onlyGivenNames x2
      try clear_value x2
      exact (Keeps.ite (Keeps.step (setRow_keeps ..) rfl (Keeps.refl ..)) (Keeps.ite (Keeps.step (setRow_keeps ..) rfl (Keeps.refl ..)) (Keeps.step (setRow_keeps ..) rfl (Keeps.refl ..))))))

theorem endRecovery_keeps (s : State) : Keeps 0x3000008001008 s (endRecovery s) := by
  unfold endRecovery
  extract_lets -merge +onlyGivenNames x1
  clear_value x1
  exact (Keeps.ite (Keeps.raise 16 rfl rfl rfl rfl (Keeps.step (setDpy_keeps ..) rfl (Keeps.refl ..))) (Keeps.step (setDpy_keeps ..) rfl (Keeps.refl ..)))

theorem endRegion_keeps (s : State) a1 : Keeps 0x3000008001008 s (endRegion s a1) := by
  unfold endRegion
  extract_lets -merge +onlyGivenNames x1
  clear_value x1
  exact (Keeps.ite (Keeps.raise 16 rfl rfl rfl rfl (Keeps.step (setDpy_keeps ..) rfl (Keeps.step (setReg_keeps ..) rfl (Keeps.refl ..)))) (Keeps.refl ..))

theorem wantFinal_keeps (s : State) : Keeps 0x8000000 s (wantFinal s) := by
  unfold wantFinal
  exact (Keeps.ite (Keeps.step (setDpy_keeps ..) rfl (Keeps.refl ..)) (Keeps.refl ..))

theorem execDpyClrCnt_keeps a0 (s : State) : KeepsOut 0x600001800180a s (execDpyClrCnt a0 s) := by
  unfold execDpyClrCnt
  exact (KeepsOut.done (Keeps.keyedBit rfl (Keeps.refl ..) (fun _ hu1 => (Keeps.step (cleared_keeps ..) rfl (Keeps.step (setDpy_keeps ..) rfl hu1)))))

theorem execDpyRedraw_keeps a0 (s : State) : KeepsOut 0x600001800180a s (execDpyRedraw a0 s) := by
  unfold execDpyRedraw
  exact (KeepsOut.done (Keeps.keyedBit rfl (Keeps.refl ..) (fun _ hu1 => (Keeps.step (setDpy_keeps ..) rfl (Keeps.step (accepted_keeps ..) rfl hu1)))))

theorem takeRequest_keeps (s : State) a1 a2 : Keeps 0x8000000 s (takeRequest s a1 a2) := by
  unfold takeRequest
  extract_lets -merge +onlyGivenNames x1
  clear_value x1
  exact (by
    split
    · exact (Keeps.step (setReg_keeps ..) rfl (Keeps.refl ..))
    · exact (by
        extract_lets -merge +onlyGivenNames x2
        have h3 : Keeps 0x8000000 s x2 := (Keeps.ite (Keeps.step (setDpy_keeps ..) rfl (Keeps.refl ..)) (Keeps.refl ..))
        clear_value x2
        exact (Keeps.step (setReg_keeps ..) rfl h3)))

theorem execDpyReq_keeps a0 a1 (s : State) : KeepsOut 0x700001800180a s (execDpyReq a0 a1 s) := by
  unfold execDpyReq
  exact (KeepsOut.done (Keeps.written rfl (Keeps.refl ..) (fun _ hu1 => (by
      extract_lets -merge +onlyGivenNames x2
      clear_value x2
      exact (Keeps.ite (Keeps.step (answer_keeps ..) rfl (Keeps.raise 16 rfl rfl rfl rfl hu1)) (Keeps.step (takeRequest_keeps ..) rfl hu1))))))

theorem refreshBand_keeps (s : State) : Keeps 0x8000000 s (refreshBand s) := by
  unfold refreshBand
  extract_lets -merge +onlyGivenNames x1
  clear_value x1
  exact (Keeps.ite (Keeps.refl ..) (Keeps.step (takeRequest_keeps ..) rfl (Keeps.step (setDpy_keeps ..) rfl (Keeps.refl ..))))

theorem execPhaseFrame_keeps a0 a1 (s : State) : KeepsOut 0x3000008001048 s (execPhaseFrame a0 a1 s) := by
  unfold execPhaseFrame
  extract_lets -merge +onlyGivenNames x1
  have h2 : Keeps 0x3000008001048 s x1 := (Keeps.step (setDpy_keeps ..) rfl (Keeps.step (atTime_keeps ..) rfl (Keeps.refl ..)))
  clear_value x1
  exact (KeepsOut.ite (KeepsOut.done h2) (by
      extract_lets -merge +onlyGivenNames x3 x4
      clear_value x3
      have h5 : Keeps 0x3000008001048 s x4 := (Keeps.ite h2 (Keeps.foldl h2 fun _ _ hu6 => (Keeps.step (endPhase_keeps ..) rfl hu6)))
      clear_value x4
      extract_lets -merge +onlyGivenNames x7
      have h8 : Keeps 0x3000008001048 s x7 := (Keeps.step (endFinal_keeps ..) rfl (Keeps.foldl (Keeps.step (endRecovery_keeps ..) rfl h5) fun _ _ hu9 => (Keeps.step (endRegion_keeps ..) rfl hu9)))
      clear_value x7
      exact (KeepsOut.ite (KeepsOut.done (Keeps.step (setDpy_keeps ..) rfl h8)) (by
          extract_lets -merge +onlyGivenNames x10
          have h11 : Keeps 0x3000008001048 s x10 := (Keeps.step (dpyStarts_keeps ..) rfl (Keeps.step (refreshBand_keeps ..) rfl (Keeps.step (adoptRegions_keeps ..) rfl h8)))
          clear_value x10
          exact (KeepsOut.done (Keeps.step (setDpy_keeps ..) rfl h11))))))

end Sys2Proof.Machine
end

