-- ==== Sys2Proof/Laws/KeepsUpdate.lean ====
section
/-! SUPPORT. What each operation of FrameOps, ChangeOver, Recorder, Update can change: one lemma for each (Laws/Keeps.lean says what Keeps means).
The mask names the parts by Part.bit. -/

namespace Sys2Proof.Machine

open Sys2Proof

theorem closeCells_keeps (s : State) a1 : Keeps 0x4000 s (closeCells s a1) := by
  unfold closeCells
  exact (Keeps.foldl (Keeps.refl ..) fun _ _ hu1 => (Keeps.step (setSaf_keeps ..) rfl hu1))

theorem collectCommitted_keeps (s : State) a1 a2 : Keeps 0x80 s (collectCommitted s a1 a2) := by
  unfold collectCommitted
  extract_lets -merge +onlyGivenNames x1
  clear_value x1
  exact (Keeps.ite (Keeps.step (collectGot_keeps ..) rfl (Keeps.refl ..)) (Keeps.step (collectGot_keeps ..) rfl (Keeps.refl ..)))

theorem freezeStatus_keeps (s : State) a1 a2 : Keeps 0x80 s (freezeStatus s a1 a2) := by
  unfold freezeStatus
  extract_lets -merge +onlyGivenNames x1 x2
  clear_value x1 x2
  exact (Keeps.ite (by
      split
      · exact (Keeps.upd_sig (fun h => h) (.inr rfl) rfl (Keeps.refl ..))
      · exact (Keeps.refl ..)) (Keeps.ite (by
        extract_lets -merge +onlyGivenNames x3
        clear_value x3
        exact (Keeps.upd_sig (fun h => h) (.inr rfl) rfl (Keeps.refl ..))) (Keeps.refl ..)))

theorem collectStatus_keeps (s : State) a1 : Keeps 0x80 s (collectStatus s a1) := by
  unfold collectStatus
  exact (Keeps.foldl (Keeps.refl ..) fun _ _ hu1 => (Keeps.step (freezeStatus_keeps ..) rfl hu1))

theorem setOutput_keeps (s : State) a1 : Keeps 0x80 s (setOutput s a1) := by
  unfold setOutput
  exact (Keeps.upd_sig (fun h => h) (.inr rfl) rfl (Keeps.refl ..))

theorem endSafe_keeps (s : State) a1 : Keeps 0x100080 s (endSafe s a1) := by
  unfold endSafe
  extract_lets -merge +onlyGivenNames x1
  have h2 : Keeps 0x100080 s x1 := (Keeps.step (setOutput_keeps ..) rfl (Keeps.refl ..))
  clear_value x1
  exact (Keeps.upd_can rfl h2)

theorem outTet_keeps (s : State) a1 a2 a3 : Keeps 0x80 s (outTet s a1 a2 a3) := by
  unfold outTet
  exact (Keeps.step (setOutput_keeps ..) rfl (Keeps.refl ..))

theorem outAna_keeps (s : State) a1 a2 a3 : Keeps 0x80 s (outAna s a1 a2 a3) := by
  unfold outAna
  exact (Keeps.step (setOutput_keeps ..) rfl (Keeps.refl ..))

theorem takeSafe_keeps (s : State) a1 : Keeps 0x104080 s (takeSafe s a1) := by
  unfold takeSafe
  extract_lets -merge +onlyGivenNames x1 x2
  clear_value x1 x2
  exact (by
    split
    · exact (Keeps.ite (Keeps.step (outTet_keeps ..) rfl (Keeps.refl ..)) (Keeps.step (outAna_keeps ..) rfl (Keeps.refl ..)))
    · exact (by
        extract_lets -merge +onlyGivenNames x3
        clear_value x3
        exact (Keeps.step (outTet_keeps ..) rfl (Keeps.refl ..)))
    · exact (by
        split
        · exact (Keeps.refl ..)
        · exact (Keeps.step (outAna_keeps ..) rfl (Keeps.refl ..))
        · exact (Keeps.step (setOutput_keeps ..) rfl (Keeps.refl ..)))
    · exact (Keeps.step (closeCells_keeps ..) rfl (Keeps.ite (Keeps.step (outTet_keeps ..) rfl (Keeps.refl ..)) (Keeps.step (outAna_keeps ..) rfl (Keeps.refl ..))))
    · exact (by
        split
        · exact (Keeps.step (outTet_keeps ..) rfl (Keeps.refl ..))
        · exact (Keeps.step (outTet_keeps ..) rfl (Keeps.refl ..))
        · exact (Keeps.step (outTet_keeps ..) rfl (Keeps.refl ..))
        · exact (Keeps.upd_can rfl (Keeps.refl ..)))
    · exact (Keeps.step (closeCells_keeps ..) rfl (Keeps.ite (Keeps.step (outTet_keeps ..) rfl (Keeps.refl ..)) (Keeps.step (outAna_keeps ..) rfl (Keeps.refl ..))))
    · exact (Keeps.refl ..))

theorem enterReaction_keeps (s : State) a1 : Keeps 0x2000200105188 s (enterReaction s a1) := by
  unfold enterReaction
  extract_lets -merge +onlyGivenNames x1 x2
  clear_value x1 x2
  exact (Keeps.ite (Keeps.step (setPart_keeps ..) rfl (Keeps.refl ..)) (by
      extract_lets -merge +onlyGivenNames x3
      have h4 : Keeps 0x2000200105188 s x3 := (Keeps.step (setPart_keeps ..) rfl (Keeps.refl ..))
      clear_value x3
      extract_lets -merge +onlyGivenNames x5
      have h6 : Keeps 0x2000200105188 s x5 := (Keeps.raise 1 rfl rfl rfl rfl h4)
      clear_value x5
      exact (Keeps.ite (Keeps.foldl h6 fun _ _ hu7 => (Keeps.step (takeSafe_keeps ..) rfl hu7)) h6)))

theorem retainCommitted_keeps (s : State) a1 : Keeps 0x400 s (retainCommitted s a1) := by
  unfold retainCommitted
  extract_lets -merge +onlyGivenNames x1
  clear_value x1
  exact (Keeps.ite (Keeps.step (retChange_keeps ..) rfl (Keeps.refl ..)) (Keeps.refl ..))

theorem leaveReaction_keeps (s : State) a1 : Keeps 0x4100 s (leaveReaction s a1) := by
  unfold leaveReaction
  exact (Keeps.step (pendSins_keeps ..) rfl (Keeps.step (setPart_keeps ..) rfl (Keeps.refl ..)))

theorem loadBudgets_keeps (s : State) : Keeps 0x100 s (loadBudgets s) := by
  unfold loadBudgets
  exact (Keeps.foldl (Keeps.refl ..) fun _ _ hu1 => (Keeps.step (setPart_keeps ..) rfl hu1))

theorem BankRoles.ok_rotate (r : BankRoles) (h : r.ok = true) : r.rotate.ok = true := by
  simp only [BankRoles.ok, BankRoles.rotate, List.all_eq_true, List.contains_iff_mem, List.mem_cons, List.not_mem_nil, or_false] at *
  intro k hk
  rcases h k hk with h | h | h | h <;> simp [h]

theorem rotateBanks_keeps (s : State) : Keeps 0x440000080 s (rotateBanks s) := by
  unfold rotateBanks
  extract_lets g s1
  exact Keeps.wr rfl (Keeps.upd_sig (BankRoles.ok_rotate _) (.inl rfl) rfl (Keeps.refl ..))

theorem watchChanges_keeps before (s : State) : Keeps 0x2000400001008 s (watchChanges before s) := by
  unfold watchChanges
  refine Keeps.foldl (Keeps.refl ..) fun u w hu => ?_
  extract_lets a b
  exact Keeps.ite hu (Keeps.raise 2 rfl rfl rfl rfl (Keeps.setBit rfl hu))

theorem imageMode_keeps (s : State) a1 a2 a3 : Keeps 0x2000800001208 s (imageMode s a1 a2 a3) := by
  unfold imageMode
  extract_lets -merge +onlyGivenNames x1 x2
  clear_value x1 x2
  exact (Keeps.ite (Keeps.refl ..) (Keeps.raise 3 rfl rfl rfl rfl (Keeps.step (setLe_keeps ..) rfl (Keeps.refl ..))))

theorem newWriters_keeps (s : State) a1 : Keeps 0x104080 s (newWriters s a1) := by
  unfold newWriters
  exact (Keeps.foldl (Keeps.refl ..) fun _ _ hu1 => (Keeps.step (takeSafe_keeps ..) rfl hu1))

theorem unitsImage_keeps (s : State) a1 : Keeps 0x31c640f1c1188 s (unitsImage s a1) := by
  unfold unitsImage
  extract_lets -merge +onlyGivenNames x1
  have h2 : Keeps 0x31c640f1c1188 s x1 := (Keeps.step (canImage_keeps ..) rfl (Keeps.step (chainImage_keeps ..) rfl (Keeps.step (lioImage_keeps ..) rfl (Keeps.refl ..))))
  clear_value x1
  extract_lets -merge +onlyGivenNames x3
  have h4 : Keeps 0x31c640f1c1188 s x3 := (Keeps.step (peImage_keeps ..) rfl (Keeps.step (stationImage_keeps ..) rfl (Keeps.step (sviImage_keeps ..) rfl h2)))
  clear_value x3
  exact (Keeps.step (dpyTables_keeps ..) rfl (Keeps.ite h4 (Keeps.wrField rfl h4)))

theorem switchImage_keeps (s : State) a1 a2 : Keeps 0x631c6c0f1d57a8 s (switchImage s a1 a2) := by
  unfold switchImage
  extract_lets -merge +onlyGivenNames x1 x2 x3 x4 x5 x6 x7 x8
  clear_value x1 x2 x3 x5 x6 x7
  have h9 : Keeps 0x631c6c0f1d57a8 s x8 := (Keeps.upd_cfg_sig_sched_fbx (fun h => h) (.inr rfl) rfl (Keeps.refl ..))
  clear_value x8
  extract_lets -merge +onlyGivenNames x10
  have h11 : Keeps 0x631c6c0f1d57a8 s x10 := (Keeps.foldl h9 fun _ _ hu12 => (by
        extract_lets -merge +onlyGivenNames x13 x14
        clear_value x13 x14
        exact (Keeps.step (imageMode_keeps ..) rfl (Keeps.step (setLe_keeps ..) rfl hu12))))
  clear_value x10
  extract_lets -merge +onlyGivenNames x15
  have h16 : Keeps 0x631c6c0f1d57a8 s x15 := (Keeps.step (reconcileForces_keeps ..) rfl (Keeps.step (newWriters_keeps ..) rfl (Keeps.step (pendSins_keeps ..) rfl h11)))
  clear_value x15
  extract_lets -merge +onlyGivenNames x17 x18 x19 x20
  clear_value x17 x18 x19
  have h21 : Keeps 0x631c6c0f1d57a8 s x20 := (Keeps.wr rfl (Keeps.wr rfl (Keeps.wr rfl h16)))
  clear_value x20
  extract_lets -merge +onlyGivenNames x22
  have h23 : Keeps 0x631c6c0f1d57a8 s x22 := (Keeps.foldl h21 fun _ _ hu24 => (Keeps.wrOf (Reg.OLC_PARTMAPn_block ..) rfl hu24))
  clear_value x22
  extract_lets -merge +onlyGivenNames x25
  have h26 : Keeps 0x631c6c0f1d57a8 s x25 := (Keeps.step (unitsImage_keeps ..) rfl (Keeps.wr rfl h23))
  clear_value x25
  extract_lets -merge +onlyGivenNames x27
  have h28 : Keeps 0x631c6c0f1d57a8 s x27 := (Keeps.ite h26 (Keeps.raise 2 rfl rfl rfl rfl h26))
  clear_value x27
  exact (Keeps.step (loadBudgets_keeps ..) rfl (Keeps.step (collectStatus_keeps ..) rfl h28))

theorem execOlcCommit_keeps a0 (s : State) : KeepsOut 0x631c6c0f1dd7e8 s (execOlcCommit a0 s) := by
  unfold execOlcCommit
  extract_lets -merge +onlyGivenNames x1
  have h2 : Keeps 0x631c6c0f1dd7e8 s x1 := (Keeps.step (atTime_keeps ..) rfl (Keeps.refl ..))
  clear_value x1
  extract_lets -merge +onlyGivenNames x3
  clear_value x3
  exact (by
    split
    · exact (KeepsOut.done h2)
    · exact (KeepsOut.ite (KeepsOut.done h2) (KeepsOut.ite (KeepsOut.done (Keeps.step (autoDisarm_keeps ..) rfl h2)) (KeepsOut.ite (KeepsOut.done (Keeps.step (autoDisarm_keeps ..) rfl h2)) (by
              extract_lets -merge +onlyGivenNames x4
              have h5 : Keeps 0x631c6c0f1dd7e8 s x4 := (Keeps.step (switchImage_keeps ..) rfl h2)
              clear_value x4
              extract_lets -merge +onlyGivenNames x6
              have h7 : Keeps 0x631c6c0f1dd7e8 s x6 := (Keeps.step (setOlc_keeps ..) rfl h5)
              clear_value x6
              exact (KeepsOut.done (Keeps.raise 22 rfl rfl rfl rfl h7)))))))

theorem execRevertEffect_keeps a0 (s : State) : KeepsOut 0x631c6c0f1dd7e8 s (execRevertEffect a0 s) := by
  unfold execRevertEffect
  extract_lets -merge +onlyGivenNames x1
  have h2 : Keeps 0x631c6c0f1dd7e8 s x1 := (Keeps.step (atTime_keeps ..) rfl (Keeps.refl ..))
  clear_value x1
  exact (by
    split
    · exact (KeepsOut.done h2)
    · exact (KeepsOut.ite (KeepsOut.done h2) (by
          extract_lets -merge +onlyGivenNames x3
          have h4 : Keeps 0x631c6c0f1dd7e8 s x3 := (Keeps.step (switchImage_keeps ..) rfl h2)
          clear_value x3
          exact (KeepsOut.done (Keeps.raise 22 rfl rfl rfl rfl (Keeps.step (setOlc_keeps ..) rfl h4))))))

theorem recordsLost_keeps (s : State) : Keeps 0x2000000001008 s (recordsLost s) := by
  unfold recordsLost
  exact (by
    split
    · exact (Keeps.refl ..)
    · exact (by
        extract_lets -merge +onlyGivenNames x1 x2 x3
        clear_value x1 x2 x3
        exact (Keeps.step (record_keeps ..) rfl (Keeps.upd_rcd (by first | exact fun h => h | exact fun _ => Nat.zero_le _) rfl (Keeps.refl ..)))))

theorem recoverRecorder_keeps (s : State) : Keeps 0x2000000001008 s (recoverRecorder s) := by
  unfold recoverRecorder
  extract_lets -merge +onlyGivenNames x1 x2
  clear_value x2
  exact (by
    split
    · exact (by
        extract_lets -merge +onlyGivenNames x3 x4 x5 x6
        clear_value x4 x5
        have h7 : Keeps 0x2000000001008 s x6 := (Keeps.upd_rcd (by first | exact fun h => h | exact fun _ => Nat.zero_le _) rfl (Keeps.refl ..))
        clear_value x6
        exact (Keeps.ite h7 (Keeps.raise 17 rfl rfl rfl rfl h7)))
    · exact (by
        extract_lets -merge +onlyGivenNames x8 x9 x10 x11
        clear_value x8 x10
        have h12 : Keeps 0x2000000001008 s x11 := (Keeps.upd_rcd (by first | exact fun h => h | exact fun _ => Nat.zero_le _) rfl (Keeps.refl ..))
        clear_value x11
        exact (Keeps.step (recordBare_keeps ..) rfl h12)))

theorem writeHeader_buf (r : Recorder) : (writeHeader r).buf = r.buf := by
  unfold writeHeader
  extract_lets h
  split <;> rfl

theorem doClear_keeps (s : State) a1 a2 : Keeps 0x2000000001008 s (doClear s a1 a2) := by
  unfold doClear
  extract_lets -merge +onlyGivenNames x1 x2 x3
  clear_value x2
  have h4 : Keeps 0x2000000001008 s x3 := (Keeps.upd_rcd (by first | exact fun h => h | exact fun _ => Nat.zero_le _) rfl (Keeps.refl ..))
  clear_value x3
  extract_lets -merge +onlyGivenNames x5
  have h6 : Keeps 0x2000000001008 s x5 := (Keeps.step (record_keeps ..) rfl h4)
  clear_value x5
  exact (Keeps.setBit rfl (Keeps.upd_rcd (by first | exact fun _ => Nat.zero_le _ | exact fun h => by rw [writeHeader_buf]; exact h) rfl h6))

theorem execAlarmFlush_keeps (s : State) : KeepsOut 0x1000 s (execAlarmFlush s) := by
  unfold execAlarmFlush
  exact (KeepsOut.ite (KeepsOut.done (Keeps.step (startFlush_keeps ..) rfl (Keeps.refl ..))) (KeepsOut.done (Keeps.refl ..)))

theorem execFlushDone_keeps (s : State) : KeepsOut 0x2000008801008 s (execFlushDone s) := by
  unfold execFlushDone
  exact (KeepsOut.ite (KeepsOut.done (Keeps.refl ..)) (by
      extract_lets -merge +onlyGivenNames x1 x2 x3 x4
      clear_value x2
      have h5 : Keeps 0x2000008801008 s x4 := (Keeps.upd_rcd (by first | exact fun h => h | exact fun _ => Nat.zero_le _) rfl (Keeps.refl ..))
      clear_value x4
      extract_lets -merge +onlyGivenNames x6
      have h7 : Keeps 0x2000008801008 s x6 := (Keeps.wr rfl h5)
      clear_value x6
      extract_lets -merge +onlyGivenNames x8
      have h9 : Keeps 0x2000008801008 s x8 := (Keeps.ite (Keeps.raise 17 rfl rfl rfl rfl h7) h7)
      clear_value x8
      extract_lets -merge +onlyGivenNames x10
      have h11 : Keeps 0x2000008801008 s x10 := (Keeps.ite (Keeps.raise 17 rfl rfl rfl rfl h9) h9)
      clear_value x10
      extract_lets -merge +onlyGivenNames x12 x13
      clear_value x12
      have h14 : Keeps 0x2000008801008 s x13 := (Keeps.ite (Keeps.step (wantFinal_keeps ..) rfl (Keeps.upd_slot rfl h11)) h11)
      clear_value x13
      exact (by
        split
        · exact (KeepsOut.done (Keeps.step (doClear_keeps ..) rfl h14))
        · exact (KeepsOut.done h14))))

theorem execFlushPeriod_keeps (s : State) : KeepsOut 0x1000 s (execFlushPeriod s) := by
  unfold execFlushPeriod
  exact (KeepsOut.ite (KeepsOut.done (Keeps.step (startFlush_keeps ..) rfl (Keeps.refl ..))) (KeepsOut.done (Keeps.refl ..)))

theorem powerFailFlush_keeps (s : State) : Keeps 0x2000000001008 s (powerFailFlush s) := by
  unfold powerFailFlush
  extract_lets -merge +onlyGivenNames x1 x2
  have h3 : Keeps 0x2000000001008 s x2 := (Keeps.step (record_keeps ..) rfl (Keeps.upd_rcd (by first | exact fun h => h | exact fun _ => Nat.zero_le _) rfl (Keeps.refl ..)))
  clear_value x2
  exact (Keeps.upd_rcd (by first | exact fun h => h | exact fun _ => Nat.zero_le _) rfl h3)

theorem execRecFlush_keeps a0 (s : State) : KeepsOut 0x600001000180a s (execRecFlush a0 s) := by
  unfold execRecFlush
  exact (KeepsOut.done (Keeps.keyedBit rfl (Keeps.refl ..) (fun _ hu1 => (Keeps.step (startFlush_keeps ..) rfl (Keeps.step (accepted_keeps ..) rfl hu1)))))

theorem execRecRdW0_keeps (s : State) : KeepsOut 0x2000000001002 s (execRecRdW0 s) := by
  unfold execRecRdW0
  extract_lets -merge +onlyGivenNames x1 x2 x3 x4
  clear_value x1 x2
  have h5 : Keeps 0x2000000001002 s x4 := (Keeps.upd_rcd (by first | exact fun h => h | exact fun _ => Nat.zero_le _) rfl (Keeps.refl ..))
  clear_value x4
  extract_lets -merge +onlyGivenNames x6
  have h7 : Keeps 0x2000000001002 s x6 := (Keeps.foldl (Keeps.wr rfl h5) fun _ _ hu8 => (Keeps.wrOf (Reg.REC_RD_Wn_block ..) rfl hu8))
  clear_value x6
  exact (KeepsOut.done (Keeps.step (answer_keeps ..) rfl h7))

theorem execRecorderClear_keeps a0 a1 (s : State) : KeepsOut 0x200001000100a s (execRecorderClear a0 a1 s) := by
  unfold execRecorderClear
  extract_lets -merge +onlyGivenNames x1
  have h2 : Keeps 0x200001000100a s x1 := (Keeps.step (touch_keeps ..) rfl (Keeps.refl ..))
  clear_value x1
  extract_lets -merge +onlyGivenNames x3 x4
  have h5 : Keeps 0x200001000100a s x4 := (Keeps.upd_rcd (by first | exact fun h => h | exact fun _ => Nat.zero_le _) rfl h2)
  clear_value x4
  exact (KeepsOut.ite (by
      extract_lets -merge +onlyGivenNames x6
      have h7 : Keeps 0x200001000100a s x6 := (Keeps.step (startFlush_keeps ..) rfl h5)
      clear_value x6
      exact (KeepsOut.done (Keeps.upd_rcd (by first | exact fun h => h | exact fun _ => Nat.zero_le _) rfl h7))) (KeepsOut.done (Keeps.step (answer_keeps ..) rfl (Keeps.step (record_keeps ..) rfl h5))))

theorem execRecorderExport_keeps a0 a1 a2 (s : State) : KeepsOut 0x10000002 s (execRecorderExport a0 a1 a2 s) := by
  unfold execRecorderExport
  extract_lets -merge +onlyGivenNames x1
  have h2 : Keeps 0x10000002 s x1 := (Keeps.step (touch_keeps ..) rfl (Keeps.refl ..))
  clear_value x1
  exact (KeepsOut.ite (KeepsOut.done (Keeps.step (answer_keeps ..) rfl h2)) (KeepsOut.done (Keeps.step (answer_keeps ..) rfl h2)))

theorem execRecClrNonce_keeps a0 (s : State) : KeepsOut 0x200001000100a s (execRecClrNonce a0 s) := by
  unfold execRecClrNonce
  extract_lets -merge +onlyGivenNames u d
  have h : Keeps 0x200001000100a s d.2 :=
    Keeps.step (drawWord_keeps ..) rfl (Keeps.step (touch_keeps ..) rfl (Keeps.refl ..))
  exact KeepsOut.done (Keeps.step (answer_keeps ..) rfl (Keeps.wr rfl (Keeps.upd_rcd (fun h => h) rfl h)))

theorem setUpd_keeps (s : State) a1 : Keeps 0x20000 s (setUpd s a1) := by
  unfold setUpd
  exact (Keeps.upd_upd rfl (Keeps.refl ..))

theorem setStaging_keeps (s : State) a1 : Keeps 0x20000 s (setStaging s a1) := by
  unfold setStaging
  exact (Keeps.step (setUpd_keeps ..) rfl (Keeps.refl ..))

theorem acrossTick_keeps (s : State) : Keeps 0x62000 s (acrossTick s) := by
  unfold acrossTick
  exact (by
    split
    · exact (Keeps.ite (Keeps.step (leaveForRestart_keeps ..) rfl (Keeps.step (setUpd_keeps ..) rfl (Keeps.step (setStaging_keeps ..) rfl (Keeps.refl ..)))) (Keeps.refl ..))
    · exact (Keeps.refl ..))

theorem showCopiesMem_keeps (s : State) : Keeps 0x8000000000000 s (showCopiesMem s) := by
  unfold showCopiesMem
  extract_lets -merge +onlyGivenNames x1 x2
  clear_value x1 x2
  exact (Keeps.wr rfl (Keeps.refl ..))

theorem beginCopy_keeps (s : State) a1 a2 a3 : Keeps 0x8000000020000 s (beginCopy s a1 a2 a3) := by
  unfold beginCopy
  exact (Keeps.step (showCopiesMem_keeps ..) rfl (Keeps.step (setUpd_keeps ..) rfl (Keeps.refl ..)))

theorem putSlot_keeps (s : State) a1 a2 : Keeps 0x20000 s (putSlot s a1 a2) := by
  unfold putSlot
  exact (Keeps.step (setUpd_keeps ..) rfl (Keeps.refl ..))

theorem showSlots_keeps (s : State) : Keeps 0x8000000000000 s (showSlots s) := by
  unfold showSlots
  extract_lets -merge +onlyGivenNames x1
  clear_value x1
  exact (Keeps.wr rfl (Keeps.wr rfl (Keeps.wr rfl (Keeps.refl ..))))

theorem bootSlot_keeps (s : State) a1 : Keeps 0xa000100021008 s (bootSlot s a1) := by
  unfold bootSlot
  extract_lets -merge +onlyGivenNames x1 x2
  clear_value x1
  have h3 : Keeps 0xa000100021008 s x2 := (Keeps.step (putSlot_keeps ..) rfl (Keeps.refl ..))
  clear_value x2
  extract_lets -merge +onlyGivenNames x4
  have h5 : Keeps 0xa000100021008 s x4 := (Keeps.step (setUpd_keeps ..) rfl h3)
  clear_value x4
  extract_lets -merge +onlyGivenNames x6
  have h7 : Keeps 0xa000100021008 s x6 := (Keeps.ite (Keeps.step (recordBare_keeps ..) rfl h5) h5)
  clear_value x6
  exact (Keeps.step (showSlots_keeps ..) rfl (Keeps.wrField rfl (Keeps.wr rfl h7)))

theorem execAttestation_keeps a0 a1 (s : State) : KeepsOut 0x10000002 s (execAttestation a0 a1 s) := by
  unfold execAttestation
  extract_lets -merge +onlyGivenNames x1
  have h2 : Keeps 0x10000002 s x1 := (Keeps.step (touch_keeps ..) rfl (Keeps.refl ..))
  clear_value x1
  exact (KeepsOut.ite (by
      extract_lets -merge +onlyGivenNames x3
      clear_value x3
      exact (KeepsOut.done (Keeps.step (answer_keeps ..) rfl h2))) (KeepsOut.done (Keeps.step (answer_keeps ..) rfl h2)))

theorem execConfirmWindowExpiry_keeps a0 (s : State) : KeepsOut 0xa000000063048 s (execConfirmWindowExpiry a0 s) := by
  unfold execConfirmWindowExpiry
  extract_lets -merge +onlyGivenNames x1
  have h2 : Keeps 0xa000000063048 s x1 := (Keeps.step (atTime_keeps ..) rfl (Keeps.refl ..))
  clear_value x1
  exact (by
    split
    · exact (KeepsOut.ite (by
          extract_lets -merge +onlyGivenNames x3 x4
          clear_value x3
          have h5 : Keeps 0xa000000063048 s x4 := (Keeps.step (setUpd_keeps ..) rfl (Keeps.step (putSlot_keeps ..) rfl h2))
          clear_value x4
          exact (KeepsOut.done (Keeps.step (leaveForRestart_keeps ..) rfl (Keeps.raise 19 rfl rfl rfl rfl (Keeps.step (showSlots_keeps ..) rfl h5))))) (KeepsOut.done h2))
    · exact (KeepsOut.done h2))

theorem refuseUpd_keeps (s : State) a1 a2 : Keeps 0xa00000000100a s (refuseUpd s a1 a2) := by
  unfold refuseUpd
  exact (Keeps.step (refuse_keeps ..) rfl (Keeps.wrField rfl (Keeps.refl ..)))

theorem verifyStaged_keeps (s : State) : Keeps 0xa000000021008 s (verifyStaged s) := by
  unfold verifyStaged
  extract_lets -merge +onlyGivenNames x1 x2
  clear_value x1 x2
  exact (Keeps.ite (Keeps.step (setStaging_keeps ..) rfl (Keeps.refl ..)) (by
      extract_lets -merge +onlyGivenNames x3
      clear_value x3
      exact (Keeps.raise 19 rfl rfl rfl rfl (Keeps.wrField rfl (Keeps.step (setStaging_keeps ..) rfl (Keeps.refl ..))))))

theorem stageBlock_keeps (s : State) a1 a2 a3 : Keeps 0xa000000021008 s (stageBlock s a1 a2 a3) := by
  unfold stageBlock
  extract_lets -merge +onlyGivenNames x1
  have h2 : Keeps 0xa000000021008 s x1 := (Keeps.ite (Keeps.step (setStaging_keeps ..) rfl (Keeps.refl ..)) (Keeps.refl ..))
  clear_value x1
  extract_lets -merge +onlyGivenNames x3
  clear_value x3
  exact (Keeps.ite h2 (by
      extract_lets -merge +onlyGivenNames x4
      have h5 : Keeps 0xa000000021008 s x4 := (Keeps.step (setStaging_keeps ..) rfl h2)
      clear_value x4
      exact (Keeps.ite (Keeps.step (verifyStaged_keeps ..) rfl h5) h5)))

theorem execFwBlock_keeps a0 a1 a2 a3 (s : State) : KeepsOut 0xa00001002100e s (execFwBlock a0 a1 a2 a3 s) := by
  unfold execFwBlock
  extract_lets -merge +onlyGivenNames x1
  have h2 : Keeps 0xa00001002100e s x1 := (Keeps.step (touch_keeps ..) rfl (Keeps.refl ..))
  clear_value x1
  exact (KeepsOut.ite (KeepsOut.done (Keeps.step (refuseUpd_keeps ..) rfl h2)) (by
      extract_lets -merge +onlyGivenNames x3
      have h4 : Keeps 0xa00001002100e s x3 := (Keeps.step (stageBlock_keeps ..) rfl h2)
      clear_value x3
      exact (KeepsOut.ite (KeepsOut.done (Keeps.step (tokel_keeps ..) rfl h4)) (KeepsOut.done h4))))

theorem execFwConfirm_keeps a0 (s : State) : KeepsOut 0xa000000021048 s (execFwConfirm a0 s) := by
  unfold execFwConfirm
  extract_lets -merge +onlyGivenNames x1
  have h2 : Keeps 0xa000000021048 s x1 := (Keeps.step (atTime_keeps ..) rfl (Keeps.refl ..))
  clear_value x1
  extract_lets -merge +onlyGivenNames x3 x4
  clear_value x3 x4
  exact (KeepsOut.ite (by
      extract_lets -merge +onlyGivenNames x7 x8
      clear_value x7
      have h9 : Keeps 0xa000000021048 s x8 := (Keeps.step (putSlot_keeps ..) rfl (Keeps.step (putSlot_keeps ..) rfl h2))
      clear_value x8
      extract_lets -merge +onlyGivenNames x10
      have h11 : Keeps 0xa000000021048 s x10 := (Keeps.step (setUpd_keeps ..) rfl h9)
      clear_value x10
      exact (KeepsOut.done (Keeps.raise 19 rfl rfl rfl rfl (Keeps.step (showSlots_keeps ..) rfl h11)))) (KeepsOut.done h2))

theorem execLinkFwpkg_keeps a0 a1 a2 a3 (s : State) : KeepsOut 0xa00000002104c s (execLinkFwpkg a0 a1 a2 a3 s) := by
  unfold execLinkFwpkg
  extract_lets -merge +onlyGivenNames x1
  have h2 : Keeps 0xa00000002104c s x1 := (Keeps.step (atTime_keeps ..) rfl (Keeps.refl ..))
  clear_value x1
  extract_lets -merge +onlyGivenNames x3
  have h4 : Keeps 0xa00000002104c s x3 := (Keeps.step (stageBlock_keeps ..) rfl h2)
  clear_value x3
  exact (KeepsOut.ite (KeepsOut.done (Keeps.step (tokel_keeps ..) rfl h4)) (KeepsOut.done h4))

theorem installStaged_keeps (s : State) a1 : Keeps 0x2000000021008 s (installStaged s a1) := by
  unfold installStaged
  exact (Keeps.ite (Keeps.refl ..) (by
      extract_lets -merge +onlyGivenNames x1 x2
      clear_value x1
      have h3 : Keeps 0x2000000021008 s x2 := (Keeps.step (setStaging_keeps ..) rfl (Keeps.refl ..))
      clear_value x2
      exact (Keeps.ite (Keeps.step (putSlot_keeps ..) rfl h3) (Keeps.step (recordBare_keeps ..) rfl (Keeps.step (putSlot_keeps ..) rfl h3)))))

theorem execSlotmemRepair_keeps a0 (s : State) : KeepsOut 0x8000000020040 s (execSlotmemRepair a0 s) := by
  unfold execSlotmemRepair
  extract_lets -merge +onlyGivenNames x1
  have h2 : Keeps 0x8000000020040 s x1 := (Keeps.step (atTime_keeps ..) rfl (Keeps.refl ..))
  clear_value x1
  extract_lets -merge +onlyGivenNames x3 x4 x5
  clear_value x3 x4 x5
  exact (KeepsOut.ite (KeepsOut.done (Keeps.step (beginCopy_keeps ..) rfl h2)) (KeepsOut.done h2))

theorem execSlotmemWriteDone_keeps a0 (s : State) : KeepsOut 0xa000000021048 s (execSlotmemWriteDone a0 s) := by
  unfold execSlotmemWriteDone
  extract_lets -merge +onlyGivenNames x1
  have h2 : Keeps 0xa000000021048 s x1 := (Keeps.step (atTime_keeps ..) rfl (Keeps.refl ..))
  clear_value x1
  exact (by
    split
    · exact (KeepsOut.done h2)
    · exact (by
        extract_lets -merge +onlyGivenNames x3
        have h4 : Keeps 0xa000000021048 s x3 := (Keeps.step (setUpd_keeps ..) rfl h2)
        clear_value x3
        exact (KeepsOut.ite (KeepsOut.done (Keeps.raise 19 rfl rfl rfl rfl (Keeps.step (showCopiesMem_keeps ..) rfl h4))) (KeepsOut.done (Keeps.wrField rfl (Keeps.step (enterStage_keeps ..) rfl (Keeps.step (showCopiesMem_keeps ..) rfl h4)))))))

theorem recoverPackage_keeps (s : State) : Keeps 0xa000000023008 s (recoverPackage s) := by
  unfold recoverPackage
  extract_lets -merge +onlyGivenNames x1 x2 x3
  clear_value x1 x2
  have h4 : Keeps 0xa000000023008 s x3 := (Keeps.step (verifyStaged_keeps ..) rfl (Keeps.step (setStaging_keeps ..) rfl (Keeps.refl ..)))
  clear_value x3
  extract_lets -merge +onlyGivenNames x5
  have h6 : Keeps 0xa000000023008 s x5 := (Keeps.wrField rfl h4)
  clear_value x5
  exact (Keeps.ite (by
      extract_lets -merge +onlyGivenNames x7 x8 x9
      clear_value x7 x8
      have h10 : Keeps 0xa000000023008 s x9 := (Keeps.step (putSlot_keeps ..) rfl h6)
      clear_value x9
      exact (Keeps.setPair (.inr fun _ => rfl) rfl (Keeps.step (setUpd_keeps ..) rfl (Keeps.step (showSlots_keeps ..) rfl h10)))) (Keeps.step (setUpd_keeps ..) rfl h6))

theorem execTftpData_keeps a0 a1 (s : State) : KeepsOut 0xa000000023008 s (execTftpData a0 a1 s) := by
  unfold execTftpData
  exact (KeepsOut.ite (KeepsOut.done (Keeps.refl ..)) (by
      extract_lets -merge +onlyGivenNames x1
      have h2 : Keeps 0xa000000023008 s x1 := (Keeps.step (setStaging_keeps ..) rfl (Keeps.refl ..))
      clear_value x1
      extract_lets -merge +onlyGivenNames x3
      have h4 : Keeps 0xa000000023008 s x3 := (Keeps.step (setUpd_keeps ..) rfl (Keeps.addField rfl h2))
      clear_value x3
      exact (KeepsOut.ite (KeepsOut.done (Keeps.step (recoverPackage_keeps ..) rfl h4)) (KeepsOut.done h4))))

theorem execTftpWriteRequest_keeps a0 a1 (s : State) : KeepsOut 0x20000 s (execTftpWriteRequest a0 a1 s) := by
  unfold execTftpWriteRequest
  exact (KeepsOut.ite (KeepsOut.done (Keeps.step (setStaging_keeps ..) rfl (Keeps.step (setUpd_keeps ..) rfl (Keeps.refl ..)))) (KeepsOut.done (Keeps.refl ..)))

theorem trustResolves_keeps (s : State) : Keeps 0x8000000000000 s (trustResolves s) := by
  unfold trustResolves
  extract_lets -merge +onlyGivenNames x1 x2 x3
  clear_value x1 x2 x3
  exact (Keeps.ite (Keeps.wrField rfl (Keeps.refl ..)) (Keeps.refl ..))

theorem execTrustToken_keeps a0 a1 (s : State) : KeepsOut 0xa00001002100a s (execTrustToken a0 a1 s) := by
  unfold execTrustToken
  extract_lets -merge +onlyGivenNames x1
  have h2 : Keeps 0xa00001002100a s x1 := (Keeps.step (touch_keeps ..) rfl (Keeps.refl ..))
  clear_value x1
  exact (KeepsOut.ite (by
      extract_lets -merge +onlyGivenNames x3
      have h4 : Keeps 0xa00001002100a s x3 := (Keeps.step (setUpd_keeps ..) rfl h2)
      clear_value x3
      exact (KeepsOut.done (Keeps.raise 19 rfl rfl rfl rfl (Keeps.step (trustResolves_keeps ..) rfl (Keeps.wr rfl h4))))) (KeepsOut.done (Keeps.step (refuse_keeps ..) rfl h2)))

theorem Keeps.updCmd {M : Nat} {s t : State} {bit : Nat} {c : Cmd} {f : State → State}
    (hm : (0xE00001000180A &&& M) = 0xE00001000180A) (h : Keeps M s t) (hf : ∀ u, Keeps M s u → Keeps M s (f u)) :
    Keeps M s (updCmd t bit c f) := by
  unfold Machine.updCmd
  refine Keeps.written ?_ h fun u hu => ?_
  · have h1 : (0x600001000180A &&& 0xE00001000180A) = 0x600001000180A := rfl
    rw [← h1, Nat.and_assoc, hm]
  · exact Keeps.ite (Keeps.step (m := 0xE00001000180A) (t := u) (Keeps.wrField rfl (Keeps.mono (keyWrong_keeps ..) rfl)) hm hu)
      (Keeps.ite (hf u hu) hu)

theorem execUpdActivate_keeps a0 (s : State) : KeepsOut 0xe00001006380e s (execUpdActivate a0 s) := by
  unfold execUpdActivate
  exact (KeepsOut.done (Keeps.updCmd rfl (Keeps.refl ..) (fun _ hu1 => (by
      extract_lets -merge +onlyGivenNames x2 x3
      clear_value x2 x3
      exact (Keeps.ite (Keeps.step (refuseUpd_keeps ..) rfl hu1) (by
          extract_lets -merge +onlyGivenNames x4
          have h5 : Keeps 0xe00001006380e s x4 := (Keeps.step (setStaging_keeps ..) rfl (Keeps.step (accepted_keeps ..) rfl hu1))
          clear_value x4
          exact (Keeps.ite (Keeps.step (tokel_keeps ..) rfl (Keeps.step (setUpd_keeps ..) rfl h5)) (Keeps.step (leaveForRestart_keeps ..) rfl h5))))))))

theorem execUpdCfgGenLo_keeps (s : State) : KeepsOut 0x8000000000002 s (execUpdCfgGenLo s) := by
  unfold execUpdCfgGenLo
  extract_lets -merge +onlyGivenNames x1
  clear_value x1
  exact (KeepsOut.done (Keeps.step (answer_keeps ..) rfl (Keeps.wr rfl (Keeps.wr rfl (Keeps.refl ..)))))

theorem execUpdChoose_keeps a0 (s : State) : KeepsOut 0xe00001002180a s (execUpdChoose a0 s) := by
  unfold execUpdChoose
  exact (KeepsOut.done (Keeps.updCmd rfl (Keeps.refl ..) (fun _ hu1 => (Keeps.ite (Keeps.step (refuseUpd_keeps ..) rfl hu1) (Keeps.ite (Keeps.step (refuseUpd_keeps ..) rfl hu1) (by
          extract_lets -merge +onlyGivenNames x2 x3
          clear_value x2 x3
          exact (Keeps.step (beginCopy_keeps ..) rfl (Keeps.step (accepted_keeps ..) rfl hu1))))))))

theorem execUpdDieLo_keeps (s : State) : KeepsOut 0x8000000000002 s (execUpdDieLo s) := by
  unfold execUpdDieLo
  extract_lets -merge +onlyGivenNames x1
  clear_value x1
  exact (KeepsOut.done (Keeps.step (answer_keeps ..) rfl (Keeps.wr rfl (Keeps.wr rfl (Keeps.refl ..)))))

theorem execUpdDiscard_keeps a0 (s : State) : KeepsOut 0xe00001002180a s (execUpdDiscard a0 s) := by
  unfold execUpdDiscard
  exact (KeepsOut.done (Keeps.updCmd rfl (Keeps.refl ..) (fun _ hu1 => (Keeps.step (setStaging_keeps ..) rfl (Keeps.step (accepted_keeps ..) rfl hu1)))))

theorem execUpdRoll_keeps a0 (s : State) : KeepsOut 0xe00001002180a s (execUpdRoll a0 s) := by
  unfold execUpdRoll
  exact (KeepsOut.done (Keeps.updCmd rfl (Keeps.refl ..) (fun _ hu1 => (by
      extract_lets -merge +onlyGivenNames x2 x3
      clear_value x2
      have h4 : ∀ (u : State) y1, Keeps 0xe00001002180a s u → Keeps 0xe00001002180a s (x3 u y1) := fun u y1 hu5 => by
        unfold x3
        exact (Keeps.step (setUpd_keeps ..) rfl hu5)
      clear_value x3
      exact (Keeps.ite (Keeps.step (refuseUpd_keeps ..) rfl hu1) (Keeps.ite (Keeps.step (refuseUpd_keeps ..) rfl hu1) (Keeps.ite (Keeps.step (refuseUpd_keeps ..) rfl hu1) (Keeps.ite (Keeps.step (refuseUpd_keeps ..) rfl hu1) (Keeps.ite (h4 _ _ (Keeps.step (refuseUpd_keeps ..) rfl hu1)) (Keeps.ite (h4 _ _ (Keeps.step (refuseUpd_keeps ..) rfl hu1)) (Keeps.step (setUpd_keeps ..) rfl (Keeps.step (setStaging_keeps ..) rfl (Keeps.step (accepted_keeps ..) rfl hu1)))))))))))))

theorem execUpdateStep_keeps a0 a1 (s : State) : KeepsOut 0x200800002304e s (execUpdateStep a0 a1 s) := by
  unfold execUpdateStep
  extract_lets -merge +onlyGivenNames x1
  have h2 : Keeps 0x200800002304e s x1 := (Keeps.step (atTime_keeps ..) rfl (Keeps.refl ..))
  clear_value x1
  extract_lets -merge +onlyGivenNames x3
  clear_value x3
  exact (KeepsOut.ite (KeepsOut.done h2) (KeepsOut.ite (KeepsOut.done (Keeps.step (raiseA_keeps ..) rfl (Keeps.step (setUpd_keeps ..) rfl h2))) (by
        extract_lets -merge +onlyGivenNames x4
        have h5 : Keeps 0x200800002304e s x4 := (Keeps.step (raiseA_keeps ..) rfl (Keeps.step (setUpd_keeps ..) rfl h2))
        clear_value x4
        exact (by
          split
          · exact (KeepsOut.done (Keeps.step (tokel_keeps ..) rfl h5))
          · exact (KeepsOut.done (Keeps.step (askSwitch_keeps ..) rfl h5))
          · exact (KeepsOut.done h5)))))

end Sys2Proof.Machine
end

