-- ==== Sys2Proof/Laws/KeepsLogic.lean ====
section
/-! SUPPORT. What each operation of Frame, Health, Logic can change: one lemma for each (Laws/Keeps.lean says what Keeps means).
The mask names the parts by Part.bit. -/

namespace Sys2Proof.Machine

open Sys2Proof

theorem beginFrame_keeps (s : State) a1 : Keeps 0x2000000001d5c s (beginFrame s a1) := by
  unfold beginFrame
  extract_lets -merge +onlyGivenNames x1
  have h2 : Keeps 0x2000000001d5c s x1 := (Keeps.step (recordsLost_keeps ..) rfl (Keeps.refl ..))
  clear_value x1
  exact (Keeps.upd_sent_grid_sched_fbx_acc (by first | exact fun h => h | exact fun _ => Nat.le_of_ble_eq_true rfl) (Nat.le_refl _) (.inl rfl) rfl h2)

theorem commitLink_keeps (s : State) : Keeps 0x4 s (commitLink s) := by
  unfold commitLink
  extract_lets -merge +onlyGivenNames x1
  have h2 : Keeps 0x4 s x1 := by
    unfold x1
    exact (by
      split
      · exact (Keeps.step (tokel_keeps ..) rfl (Keeps.refl ..))
      · exact (Keeps.refl ..))
  try clear_value x1
  exact (Keeps.ite (by
      extract_lets -merge +onlyGivenNames x3
      have h4 : Keeps 0x4 s x3 := (Keeps.foldl h2 fun _ _ hu5 => (Keeps.step (tokel_keeps ..) rfl hu5))
      try clear_value x3
      exact (Keeps.ite (by
          split
          · exact (Keeps.step (tokel_keeps ..) rfl h4)
          · exact (Keeps.step (tokel_keeps ..) rfl h4)
          · exact (Keeps.step (tokel_keeps ..) rfl h4)
          · exact (Keeps.step (tokel_keeps ..) rfl h4)
          · exact h4) h4)) h2)

theorem commitUnits_keeps (s : State) : Keeps 0x20c1004307408 s (commitUnits s) := by
  unfold commitUnits
  extract_lets -merge +onlyGivenNames x1
  have h2 : Keeps 0x20c1004307408 s x1 := (Keeps.step (startWriteThrough_keeps ..) rfl (Keeps.refl ..))
  clear_value x1
  extract_lets -merge +onlyGivenNames x3 x4
  clear_value x3
  have h5 : Keeps 0x20c1004307408 s x4 := (Keeps.ite (Keeps.upd_fbx rfl h2) h2)
  clear_value x4
  exact (Keeps.step (canCommit_keeps ..) rfl (Keeps.step (commitPubs_keeps ..) rfl (Keeps.step (publishSafes_keeps ..) rfl (Keeps.step (raiseYield_keeps ..) rfl h5))))

theorem commonInstant_keeps (s : State) : Keeps 0x2000440041088 s (commonInstant s) := by
  unfold commonInstant
  extract_lets -merge +onlyGivenNames x1
  have h2 : Keeps 0x2000440041088 s x1 := (Keeps.step (rotateBanks_keeps ..) rfl (Keeps.step (latchAxs_keeps ..) rfl (Keeps.step (latchDos_keeps ..) rfl (Keeps.refl ..))))
  clear_value x1
  exact (Keeps.step (presentAis_keeps ..) rfl (Keeps.step (presentDis_keeps ..) rfl (Keeps.step (distributed_keeps ..) rfl h2)))

theorem countEngine_keeps (s : State) a1 : Keeps 0x108 s (countEngine s a1) := by
  unfold countEngine
  extract_lets -merge +onlyGivenNames x1 x2 x3 x4 x5
  clear_value x1 x2 x3 x4 x5
  exact (Keeps.upd_freeN_sched rfl (Keeps.refl ..))

theorem countService_keeps (s : State) : Keeps 0x400 s (countService s) := by
  unfold countService
  exact (Keeps.ite (by
      extract_lets -merge +onlyGivenNames x1
      clear_value x1
      exact (Keeps.upd_fbx rfl (Keeps.refl ..))) (Keeps.refl ..))

theorem debugStop_keeps a0 (s : State) a2 : Keeps 0x2000000001108 s (debugStop a0 s a2) := by
  unfold debugStop
  exact (Keeps.step (recordBare_keeps ..) rfl (Keeps.step (setClass_keeps ..) rfl (Keeps.refl ..)))

theorem endHandOver_keeps (s : State) : Keeps 0x2000 s (endHandOver s) := by
  unfold endHandOver
  exact (by
    split
    · exact (Keeps.ite (Keeps.setPair (.inr fun _ => rfl) rfl (Keeps.refl ..)) (Keeps.refl ..))
    · exact (Keeps.refl ..))

theorem releaseImage_keeps (s : State) a1 : Keeps 0x480 s (releaseImage s a1) := by
  unfold releaseImage
  extract_lets -merge +onlyGivenNames x1 x2
  have h3 : Keeps 0x480 s x2 := (Keeps.upd_sig (fun h => h) (.inr rfl) rfl (Keeps.refl ..))
  clear_value x2
  extract_lets -merge +onlyGivenNames x4 x5
  clear_value x4 x5
  exact (Keeps.foldl (Keeps.foldl h3 fun _ _ hu7 => (Keeps.step (collectCommitted_keeps ..) rfl hu7)) fun _ _ hu6 => (Keeps.step (retainCommitted_keeps ..) rfl hu6))

theorem execFrameCommit_keeps a0 (s : State) : KeepsOut 0x20c12043075dc s (execFrameCommit a0 s) := by
  unfold execFrameCommit
  extract_lets -merge +onlyGivenNames x1
  have h2 : Keeps 0x20c12043075dc s x1 := (Keeps.step (atTime_keeps ..) rfl (Keeps.refl ..))
  clear_value x1
  exact (KeepsOut.ite (KeepsOut.done (Keeps.refl ..)) (by
      extract_lets -merge +onlyGivenNames x3 x4 x5
      clear_value x3
      have h6 : Keeps 0x20c12043075dc s x5 := (Keeps.foldl (Keeps.upd_grid (by first | exact fun h => h | exact fun _ => Nat.le_of_ble_eq_true rfl) (Nat.le_refl _) (.inl rfl) rfl h2) fun _ _ hu7 => (Keeps.step (enterReaction_keeps ..) rfl hu7))
      clear_value x5
      extract_lets -merge +onlyGivenNames x8 x9 x10
      clear_value x8
      have h11 : Keeps 0x20c12043075dc s x10 := (Keeps.ite (Keeps.setPair (.inr fun _ => rfl) rfl (Keeps.step (commitLink_keeps ..) rfl (Keeps.step (commitUnits_keeps ..) rfl (Keeps.step (releaseImage_keeps ..) rfl h6)))) (Keeps.upd_sig (fun h => h) (.inr rfl) rfl h6))
      clear_value x10
      exact (KeepsOut.done h11)))

theorem startEngine_keeps (s : State) a1 a2 : Keeps 0x300 s (startEngine s a1 a2) := by
  unfold startEngine
  extract_lets -merge +onlyGivenNames x1 x2 x3 x4 x5 x6
  clear_value x1 x2 x3 x4 x5
  have h7 : Keeps 0x300 s x6 := (Keeps.step (setLe_keeps ..) rfl (Keeps.refl ..))
  clear_value x6
  exact (Keeps.step (startNext_keeps ..) rfl (Keeps.step (startNext_keeps ..) rfl h7))

theorem startCore_keeps (s : State) a1 : Keeps 0x400 s (startCore s a1) := by
  unfold startCore
  exact (Keeps.step (setAc_keeps ..) rfl (Keeps.refl ..))

theorem execFrameCompute_keeps a0 (s : State) : KeepsOut 0x2008000003758 s (execFrameCompute a0 s) := by
  unfold execFrameCompute
  extract_lets -merge +onlyGivenNames x1
  have h2 : Keeps 0x2008000003758 s x1 := (Keeps.step (atTime_keeps ..) rfl (Keeps.refl ..))
  clear_value x1
  exact (KeepsOut.ite (KeepsOut.done (Keeps.refl ..)) (by
      extract_lets -merge +onlyGivenNames x3 x4
      have h5 : Keeps 0x2008000003758 s x4 := (Keeps.step (alignClose_keeps ..) rfl (Keeps.upd_grid (by first | exact fun h => h | exact fun _ => Nat.le_of_ble_eq_true rfl) (Nat.le_refl _) (.inl rfl) rfl h2))
      clear_value x4
      exact (KeepsOut.ite (KeepsOut.done h5) (by
          extract_lets -merge +onlyGivenNames x6 x7
          clear_value x6
          have h8 : Keeps 0x2008000003758 s x7 := (Keeps.foldl h5 fun _ _ hu9 => (Keeps.step (setClass_keeps ..) rfl hu9))
          clear_value x7
          exact (KeepsOut.done (Keeps.foldl (Keeps.foldl h8 fun _ _ hu11 => (Keeps.step (startEngine_keeps ..) rfl hu11)) fun _ _ hu10 => (Keeps.step (startCore_keeps ..) rfl hu10)))))))

theorem frameRequests_keeps (s : State) : Keeps 0x6201880087f20e s (frameRequests s) := by
  unfold frameRequests
  exact (Keeps.step (acrossTick_keeps ..) rfl (Keeps.step (smmTick_keeps ..) rfl (Keeps.step (forceTick_keeps ..) rfl (Keeps.step (switchTick_keeps ..) rfl (Keeps.refl ..)))))

theorem slideWindows_keeps (s : State) : Keeps 0x800000000 s (slideWindows s) := by
  unfold slideWindows
  exact (Keeps.foldl (Keeps.refl ..) fun _ _ hu1 => (Keeps.ite hu1 (Keeps.wrFieldOf (Reg.LE_CMP_STAT_block ..) rfl hu1)))

theorem switchModes_keeps (s : State) : Keeps 0x2000800001208 s (switchModes s) := by
  unfold switchModes
  exact (Keeps.foldl (Keeps.refl ..) fun _ _ hu1 => (by
      split
      · exact (Keeps.ite (Keeps.raise 3 rfl rfl rfl rfl (Keeps.wrFieldOf (Reg.LE_CMP_STAT_block ..) rfl (Keeps.step (setLe_keeps ..) rfl hu1))) hu1)
      · exact hu1))

theorem freezeSafety_keeps (s : State) : Keeps 0x2010400005088 s (freezeSafety s) := by
  unfold freezeSafety
  extract_lets -merge +onlyGivenNames x1
  have h2 : Keeps 0x2010400005088 s x1 := (Keeps.foldl (Keeps.step (safChallenge_keeps ..) rfl (Keeps.refl ..)) fun _ _ hu3 => (Keeps.step (stcFreeze_keeps ..) rfl hu3))
  clear_value x1
  extract_lets -merge +onlyGivenNames x4
  have h5 : Keeps 0x2010400005088 s x4 := (Keeps.step (driveMonitors_keeps ..) rfl (Keeps.step (safInputs_keeps ..) rfl (Keeps.step (stcOverlay_keeps ..) rfl h2)))
  clear_value x4
  exact (Keeps.step (setSaf_keeps ..) rfl h5)

theorem freezeBuses_keeps (s : State) : Keeps 0x260040618108c s (freezeBuses s) := by
  unfold freezeBuses
  exact (Keeps.step (peFreeze_keeps ..) rfl (Keeps.step (gratuitousArp_keeps ..) rfl (Keeps.step (operateFreeze_keeps ..) rfl (Keeps.step (reportsFreeze_keeps ..) rfl (Keeps.step (canFreeze_keeps ..) rfl (Keeps.step (chainFreeze_keeps ..) rfl (Keeps.step (lioFaults_keeps ..) rfl (Keeps.refl ..))))))))

theorem sendDigest_keeps (s : State) : Keeps 0x4 s (sendDigest s) := by
  unfold sendDigest
  exact (Keeps.ite (Keeps.step (tokel_keeps ..) rfl (Keeps.refl ..)) (Keeps.refl ..))

theorem sendFmark_keeps (s : State) : Keeps 0x4 s (sendFmark s) := by
  unfold sendFmark
  exact (Keeps.foldl (Keeps.refl ..) fun _ _ hu1 => (Keeps.step (tokel_keeps ..) rfl hu1))

theorem freezeLink_keeps (s : State) : Keeps 0x200800002300c s (freezeLink s) := by
  unfold freezeLink
  extract_lets -merge +onlyGivenNames x1
  have h2 : Keeps 0x200800002300c s x1 := (Keeps.step (hallmarkCompare_keeps ..) rfl (Keeps.refl ..))
  clear_value x1
  extract_lets -merge +onlyGivenNames x3
  have h4 : Keeps 0x200800002300c s x3 := (Keeps.setPair (.inr fun _ => rfl) rfl h2)
  clear_value x3
  exact (Keeps.step (sendDigest_keeps ..) rfl (Keeps.step (sendFmark_keeps ..) rfl (Keeps.step (linkFreeze_keeps ..) rfl (Keeps.step (alignFreeze_keeps ..) rfl h4))))

theorem heartbeats_keeps (s : State) : Keeps 0x2000 s (heartbeats s) := by
  unfold heartbeats
  exact (Keeps.setPair (.inr fun _ => rfl) rfl (Keeps.refl ..))

theorem finalDue_keeps (s : State) : Keeps 0x8000000 s (finalDue s) := by
  unfold finalDue
  exact (Keeps.ite (Keeps.step (wantFinal_keeps ..) rfl (Keeps.refl ..)) (Keeps.refl ..))

theorem freezeFrame_keeps (s : State) a1 : Keeps 0x6a7b9ecfbfffde s (freezeFrame s a1) := by
  unfold freezeFrame
  extract_lets -merge +onlyGivenNames x1 x2
  clear_value x1
  have h3 : Keeps 0x6a7b9ecfbfffde s x2 := (Keeps.step (commonInstant_keeps ..) rfl (Keeps.step (endHandOver_keeps ..) rfl (Keeps.step (applyRole_keeps ..) rfl (Keeps.step (beginFrame_keeps ..) rfl (Keeps.refl ..)))))
  clear_value x2
  extract_lets -merge +onlyGivenNames x4
  have h5 : Keeps 0x6a7b9ecfbfffde s x4 := (Keeps.foldl (Keeps.step (countService_keeps ..) rfl h3) fun _ _ hu6 => (Keeps.step (swapFifo_keeps ..) rfl hu6))
  clear_value x4
  extract_lets -merge +onlyGivenNames x7
  have h8 : Keeps 0x6a7b9ecfbfffde s x7 := (Keeps.step (timFreeze_keeps ..) rfl (Keeps.step (frameRequests_keeps ..) rfl (Keeps.step (slideWindows_keeps ..) rfl (Keeps.step (switchModes_keeps ..) rfl h5))))
  clear_value x7
  extract_lets -merge +onlyGivenNames x9
  have h10 : Keeps 0x6a7b9ecfbfffde s x9 := (Keeps.step (freezeSafety_keeps ..) rfl (Keeps.foldl h8 fun _ _ hu11 => (Keeps.step (leaveReaction_keeps ..) rfl hu11)))
  clear_value x9
  extract_lets -merge +onlyGivenNames x12
  have h13 : Keeps 0x6a7b9ecfbfffde s x12 := (Keeps.step (freezeBuses_keeps ..) rfl (Keeps.step (collectStatus_keeps ..) rfl h10))
  clear_value x12
  extract_lets -merge +onlyGivenNames x14
  have h15 : Keeps 0x6a7b9ecfbfffde s x14 := (Keeps.step (freezeLink_keeps ..) rfl (Keeps.step (heartbeats_keeps ..) rfl h13))
  clear_value x14
  extract_lets -merge +onlyGivenNames x16
  have h17 : Keeps 0x6a7b9ecfbfffde s x16 := (Keeps.step (finalDue_keeps ..) rfl (Keeps.step (removalTick_keeps ..) rfl (Keeps.step (loadBudgets_keeps ..) rfl h15)))
  clear_value x16
  extract_lets -merge +onlyGivenNames x18 x19
  clear_value x18
  have h20 : Keeps 0x6a7b9ecfbfffde s x19 := (Keeps.ite (Keeps.upd_upd rfl h17) h17)
  clear_value x19
  exact (Keeps.step (watchChanges_keeps ..) rfl h20)

theorem execFrameFreeze_keeps a0 (s : State) : KeepsOut 0x6a7b9ecfbfffde s (execFrameFreeze a0 s) := by
  unfold execFrameFreeze
  extract_lets -merge +onlyGivenNames x1
  have h2 : Keeps 0x6a7b9ecfbfffde s x1 := (Keeps.step (atTime_keeps ..) rfl (Keeps.refl ..))
  clear_value x1
  exact (by
    split
    · exact (KeepsOut.done (Keeps.step (freezeFrame_keeps ..) rfl h2))
    · exact (KeepsOut.done (Keeps.refl ..)))

theorem idleStreams_keeps (s : State) a1 : Keeps 0x200 s (idleStreams s a1) := by
  unfold idleStreams
  extract_lets -merge +onlyGivenNames x1 x2
  clear_value x1 x2
  exact (Keeps.step (setLe_keeps ..) rfl (Keeps.refl ..))

theorem windowStop_keeps a0 a1 (s : State) a3 : Keeps 0x2000200001108 s (windowStop a0 a1 s a3) := by
  unfold windowStop
  extract_lets -merge +onlyGivenNames x1 x2
  clear_value x1
  have h3 : Keeps 0x2000200001108 s x2 := (Keeps.ite (Keeps.step (chargeClass_keeps ..) rfl (Keeps.refl ..)) (Keeps.refl ..))
  clear_value x2
  exact (Keeps.step (overrun_keeps ..) rfl h3)

theorem sealEngine_keeps a0 (s : State) a2 : Keeps 0x2000a00001308 s (sealEngine a0 s a2) := by
  unfold sealEngine
  extract_lets -merge +onlyGivenNames x1
  clear_value x1
  exact (by
    split
    · exact (by
        extract_lets -merge +onlyGivenNames x2
        have h3 : Keeps 0x2000a00001308 s x2 := (Keeps.wrOf (Reg.LE_LOAD_block ..) rfl (Keeps.step (idleStreams_keeps ..) rfl (Keeps.refl ..)))
        clear_value x2
        exact (Keeps.ite (by
            extract_lets -merge +onlyGivenNames x4
            have h5 : Keeps 0x2000a00001308 s x4 := (Keeps.foldl h3 fun _ _ hu6 => (Keeps.step (debugStop_keeps ..) rfl hu6))
            clear_value x4
            exact (Keeps.wrFieldOf (Reg.LE_DBG_CTRL_block ..) rfl (Keeps.step (setLe_keeps ..) rfl h5))) (Keeps.foldl (Keeps.foldl h3 fun _ _ hu8 => (Keeps.step (windowStop_keeps ..) rfl hu8)) fun _ _ hu7 => (Keeps.step (windowStop_keeps ..) rfl hu7)))))

theorem sealCore_keeps a0 (s : State) a2 : Keeps 0x2001200001508 s (sealCore a0 s a2) := by
  unfold sealCore
  extract_lets -merge +onlyGivenNames x1 x2 x3
  clear_value x1 x2
  have h4 : Keeps 0x2001200001508 s x3 := by
    unfold x3
    exact (by
      split
      · exact (Keeps.step (stopAc_keeps ..) rfl (Keeps.step (windowStop_keeps ..) rfl (Keeps.refl ..)))
      · exact (Keeps.refl ..))
  clear_value x3
  exact (Keeps.foldl (Keeps.step (setAc_keeps ..) rfl h4) fun _ _ hu5 => (Keeps.step (windowStop_keeps ..) rfl hu5))

theorem execFrameSeal_keeps a0 (s : State) : KeepsOut 0x2001a001037d8 s (execFrameSeal a0 s) := by
  unfold execFrameSeal
  extract_lets -merge +onlyGivenNames x1
  have h2 : Keeps 0x2001a001037d8 s x1 := (Keeps.step (atTime_keeps ..) rfl (Keeps.refl ..))
  clear_value x1
  exact (KeepsOut.ite (KeepsOut.done (Keeps.refl ..)) (by
      extract_lets -merge +onlyGivenNames x3 x4
      clear_value x3
      have h5 : Keeps 0x2001a001037d8 s x4 := (Keeps.foldl (Keeps.foldl h2 fun _ _ hu7 => (Keeps.step (sealEngine_keeps ..) rfl hu7)) fun _ _ hu6 => (Keeps.step (sealCore_keeps ..) rfl hu6))
      clear_value x4
      extract_lets -merge +onlyGivenNames x8
      have h9 : Keeps 0x2001a001037d8 s x8 := (Keeps.foldl h5 fun _ _ hu10 => (Keeps.step (countEngine_keeps ..) rfl hu10))
      clear_value x8
      extract_lets -merge +onlyGivenNames x11
      have h12 : Keeps 0x2001a001037d8 s x11 := (Keeps.setPair (.inr fun _ => rfl) rfl h9)
      clear_value x11
      extract_lets -merge +onlyGivenNames x13
      have h14 : Keeps 0x2001a001037d8 s x13 := (Keeps.foldl (Keeps.step (setOutput_keeps ..) rfl h12) fun _ _ hu15 => (Keeps.step (endSafe_keeps ..) rfl hu15))
      clear_value x13
      exact (KeepsOut.done (Keeps.upd_grid (by first | exact fun h => h | exact fun _ => Nat.le_of_ble_eq_true rfl) (Nat.le_refl _) (.inl rfl) rfl h14))))

theorem execPartResume_keeps a0 (s : State) : KeepsOut 0x600001000190a s (execPartResume a0 s) := by
  unfold execPartResume
  exact (KeepsOut.done (Keeps.keyedBit rfl (Keeps.refl ..) (fun _ hu1 => (by
      extract_lets -merge +onlyGivenNames x2
      clear_value x2
      exact (Keeps.ite (Keeps.step (refuse_keeps ..) rfl hu1) (by
          extract_lets -merge +onlyGivenNames x3
          have h4 : Keeps 0x600001000190a s x3 := (Keeps.step (accepted_keeps ..) rfl hu1)
          clear_value x3
          exact (Keeps.ite (Keeps.step (setPart_keeps ..) rfl h4) h4)))))))

theorem drawn_keeps (s : State) : Keeps 0x8 s (drawn s) := by
  unfold drawn
  exact (Keeps.upd_freeN rfl (Keeps.refl ..))

theorem setHlt_keeps (s : State) a1 : Keeps 0x400000 s (setHlt s a1) := by
  unfold setHlt
  exact (Keeps.upd_hlt rfl (Keeps.refl ..))

theorem dropToGuard_keeps (s : State) : Keeps 0x1200800044300e s (dropToGuard s) := by
  unfold dropToGuard
  extract_lets -merge +onlyGivenNames x1
  have h2 : Keeps 0x1200800044300e s x1 := (Keeps.raise 20 rfl rfl rfl rfl (Keeps.setBit rfl (Keeps.step (setHlt_keeps ..) rfl (Keeps.refl ..))))
  clear_value x1
  extract_lets -merge +onlyGivenNames x3
  have h4 : Keeps 0x1200800044300e s x3 := (Keeps.step (markLifeDrop_keeps ..) rfl h2)
  clear_value x3
  exact (Keeps.ite (by
      extract_lets -merge +onlyGivenNames x5
      have h6 : Keeps 0x1200800044300e s x5 := (Keeps.step (requestSwitchover_keeps ..) rfl h4)
      clear_value x5
      exact (Keeps.ite h6 (Keeps.step (leaveForRestart_keeps ..) rfl h6))) (Keeps.step (leaveForRestart_keeps ..) rfl h4))

theorem execDevClrCnt_keeps a0 (s : State) : KeepsOut 0x600001000180a s (execDevClrCnt a0 s) := by
  unfold execDevClrCnt
  exact (KeepsOut.done (Keeps.keyedBit rfl (Keeps.refl ..) (fun _ hu1 => (Keeps.step (cleared_keeps ..) rfl hu1))))

theorem execMonClrPeak_keeps a0 (s : State) : KeepsOut 0x1600001040180a s (execMonClrPeak a0 s) := by
  unfold execMonClrPeak
  exact (KeepsOut.done (Keeps.keyedBit rfl (Keeps.refl ..) (fun _ hu1 => (by
      extract_lets -merge +onlyGivenNames x2
      have h3 : Keeps 0x1600001040180a s x2 := (Keeps.step (setHlt_keeps ..) rfl hu1)
      clear_value x2
      extract_lets -merge +onlyGivenNames x4
      have h5 : Keeps 0x1600001040180a s x4 := (Keeps.zeroRegs (b := 20) (List.forall_mem_map.2 fun _ _ => Reg.MON_VEXTn_block ..) rfl (Keeps.zeroRegs (b := 20) (List.forall_mem_map.2 fun _ _ => Reg.MON_TPEAKn_block ..) rfl h3))
      clear_value x4
      exact (Keeps.step (cleared_keeps ..) rfl h5)))))

theorem setProc_keeps (s : State) a1 a2 : Keeps 0x10000000400000 s (setProc s a1 a2) := by
  unfold setProc
  exact (Keeps.wrOf (Reg.MON_PROCn_block ..) rfl (Keeps.step (setHlt_keeps ..) rfl (Keeps.refl ..)))

theorem execProcessMonitor_keeps a0 a1 (s : State) : KeepsOut 0x10000000400048 s (execProcessMonitor a0 a1 s) := by
  unfold execProcessMonitor
  extract_lets -merge +onlyGivenNames x1
  have h2 : Keeps 0x10000000400048 s x1 := (Keeps.step (atTime_keeps ..) rfl (Keeps.refl ..))
  clear_value x1
  exact (KeepsOut.done (Keeps.foldl h2 fun _ _ hu3 => (by
      extract_lets -merge +onlyGivenNames x4 x5 x6
      clear_value x4 x5 x6
      exact (Keeps.step (setProc_keeps ..) rfl (Keeps.step (drawn_keeps ..) rfl hu3)))))

theorem setTemp_keeps (s : State) a1 a2 : Keeps 0x400000 s (setTemp s a1 a2) := by
  unfold setTemp
  exact (Keeps.step (setHlt_keeps ..) rfl (Keeps.refl ..))

theorem showTemp_keeps (s : State) a1 : Keeps 0x10000000000000 s (showTemp s a1) := by
  unfold showTemp
  extract_lets -merge +onlyGivenNames x1 x2 x3
  clear_value x1 x2
  have h4 : Keeps 0x10000000000000 s x3 := (Keeps.wrOf (Reg.MON_TEMPn_block ..) rfl (Keeps.refl ..))
  clear_value x3
  exact (Keeps.wrOf (Reg.MON_TPEAKn_block ..) rfl h4)

theorem sampleTemp_keeps (s : State) a1 a2 a3 : Keeps 0x12000000401008 s (sampleTemp s a1 a2 a3) := by
  unfold sampleTemp
  extract_lets -merge +onlyGivenNames x1 x2 x3 x4
  clear_value x1 x2 x3
  have h5 : Keeps 0x12000000401008 s x4 := (Keeps.step (setTemp_keeps ..) rfl (Keeps.refl ..))
  clear_value x4
  extract_lets -merge +onlyGivenNames x6
  have h7 : Keeps 0x12000000401008 s x6 := (Keeps.ite (Keeps.raise 20 rfl rfl rfl rfl h5) (Keeps.ite (by
          split
          · exact (Keeps.step (conditionEnded_keeps ..) rfl h5)
          · exact h5) h5))
  clear_value x6
  exact (Keeps.step (showTemp_keeps ..) rfl (Keeps.ite (Keeps.raise 20 rfl rfl rfl rfl h7) h7))

theorem execTempSample_keeps a0 a1 (s : State) : KeepsOut 0x1200800044304e s (execTempSample a0 a1 s) := by
  unfold execTempSample
  extract_lets -merge +onlyGivenNames x1
  have h2 : Keeps 0x1200800044304e s x1 := (Keeps.step (atTime_keeps ..) rfl (Keeps.refl ..))
  clear_value x1
  extract_lets -merge +onlyGivenNames x3 x4
  clear_value x3
  have h5 : Keeps 0x1200800044304e s x4 := (Keeps.foldl h2 fun _ _ hu6 => (Keeps.step (sampleTemp_keeps ..) rfl hu6))
  clear_value x4
  extract_lets -merge +onlyGivenNames x7 x8 x9 x10 x11
  clear_value x7 x8 x9 x10
  have h12 : Keeps 0x1200800044304e s x11 := (Keeps.wrField rfl (Keeps.wrField rfl h5))
  clear_value x11
  extract_lets -merge +onlyGivenNames x13
  have h14 : Keeps 0x1200800044304e s x13 := (Keeps.wr rfl h12)
  clear_value x13
  extract_lets -merge +onlyGivenNames x15 x16
  clear_value x15
  have h17 : Keeps 0x1200800044304e s x16 := (Keeps.step (setHlt_keeps ..) rfl h14)
  clear_value x16
  extract_lets -merge +onlyGivenNames x18
  clear_value x18
  exact (KeepsOut.done (Keeps.ite (Keeps.step (dropToGuard_keeps ..) rfl h17) h17))

theorem trendOne_keeps (s : State) a1 a2 : Keeps 0x12000000401008 s (trendOne s a1 a2) := by
  unfold trendOne
  extract_lets -merge +onlyGivenNames x1
  clear_value x1
  exact (Keeps.ite (Keeps.refl ..) (by
      extract_lets -merge +onlyGivenNames x2 x3
      clear_value x2
      have h4 : Keeps 0x12000000401008 s x3 := (Keeps.step (setHlt_keeps ..) rfl (Keeps.step (drawn_keeps ..) rfl (Keeps.refl ..)))
      clear_value x3
      extract_lets -merge +onlyGivenNames x5 x6 x7
      clear_value x5 x6
      have h8 : Keeps 0x12000000401008 s x7 := (Keeps.step (setProc_keeps ..) rfl h4)
      clear_value x7
      extract_lets -merge +onlyGivenNames x9
      have h10 : Keeps 0x12000000401008 s x9 := (Keeps.ite (Keeps.raise 20 rfl rfl rfl rfl h8) h8)
      clear_value x9
      exact (Keeps.ite (Keeps.raise 20 rfl rfl rfl rfl h10) h10)))

theorem execTrendDay_keeps a0 (s : State) : KeepsOut 0x12000000401048 s (execTrendDay a0 s) := by
  unfold execTrendDay
  extract_lets -merge +onlyGivenNames x1
  have h2 : Keeps 0x12000000401048 s x1 := (Keeps.step (atTime_keeps ..) rfl (Keeps.refl ..))
  clear_value x1
  extract_lets -merge +onlyGivenNames x3 x4
  clear_value x3
  have h5 : Keeps 0x12000000401048 s x4 := (Keeps.step (setHlt_keeps ..) rfl h2)
  clear_value x4
  extract_lets -merge +onlyGivenNames x6
  have h7 : Keeps 0x12000000401048 s x6 := (Keeps.foldl h5 fun _ _ hu8 => (Keeps.step (trendOne_keeps ..) rfl hu8))
  clear_value x6
  extract_lets -merge +onlyGivenNames x9
  clear_value x9
  exact (KeepsOut.done (Keeps.wrField rfl h7))

theorem sampleVolt_keeps (s : State) a1 a2 : Keeps 0x12000000401008 s (sampleVolt s a1 a2) := by
  unfold sampleVolt
  extract_lets -merge +onlyGivenNames x1
  clear_value x1
  exact (by
    split
    · exact (by
        extract_lets -merge +onlyGivenNames x2 x3 x4 x5 x6 x7
        clear_value x2 x3 x4 x5 x6
        have h8 : Keeps 0x12000000401008 s x7 := (Keeps.step (setHlt_keeps ..) rfl (Keeps.refl ..))
        clear_value x7
        extract_lets -merge +onlyGivenNames x9
        have h10 : Keeps 0x12000000401008 s x9 := (Keeps.wrOf (Reg.MON_VEXTn_block ..) rfl (Keeps.wrOf (Reg.MON_VOLTn_block ..) rfl h8))
        clear_value x9
        exact (Keeps.ite (Keeps.raise 20 rfl rfl rfl rfl h10) (Keeps.ite (by
              split
              · exact (Keeps.step (conditionEnded_keeps ..) rfl h10)
              · exact h10) h10))))

theorem execVoltageSample_keeps a0 a1 (s : State) : KeepsOut 0x12000000441048 s (execVoltageSample a0 a1 s) := by
  unfold execVoltageSample
  extract_lets -merge +onlyGivenNames x1
  have h2 : Keeps 0x12000000441048 s x1 := (Keeps.step (atTime_keeps ..) rfl (Keeps.refl ..))
  clear_value x1
  extract_lets -merge +onlyGivenNames x3
  have h4 : Keeps 0x12000000441048 s x3 := (Keeps.foldl h2 fun _ _ hu5 => (Keeps.step (sampleVolt_keeps ..) rfl hu5))
  clear_value x3
  extract_lets -merge +onlyGivenNames x6 x7 x8
  clear_value x6 x7
  have h9 : Keeps 0x12000000441048 s x8 := (Keeps.upd_lio rfl h4)
  clear_value x8
  exact (KeepsOut.done (Keeps.wrField rfl h9))

theorem scrub_keeps (s : State) a1 a2 : Keeps 0x201880004730e s (scrub s a1 a2) := by
  unfold scrub
  extract_lets -merge +onlyGivenNames x1
  have h2 : Keeps 0x201880004730e s x1 := (Keeps.ite (Keeps.refl ..) (Keeps.step (eccCorrected_keeps ..) rfl (Keeps.addFieldOf (Reg.LE_ECC_CNT_block ..) rfl (Keeps.refl ..))))
  clear_value x1
  extract_lets -merge +onlyGivenNames x3
  have h4 : Keeps 0x201880004730e s x3 := (Keeps.ite h2 (Keeps.step (eccCorrected_keeps ..) rfl (Keeps.addFieldOf (Reg.LE_ECC_CNT_block ..) rfl h2)))
  clear_value x3
  exact (Keeps.ite (Keeps.step (windowEvent_keeps ..) rfl (Keeps.step (badWord_keeps ..) rfl h4)) h4)

theorem judgeTest_keeps (s : State) a1 a2 : Keeps 0x201880004730e s (judgeTest s a1 a2) := by
  unfold judgeTest
  extract_lets -merge +onlyGivenNames x1
  have h2 : Keeps 0x201880004730e s x1 := (Keeps.wrFieldOf (Reg.LE_CMP_STAT_block ..) rfl (Keeps.refl ..))
  clear_value x1
  exact (Keeps.ite h2 (Keeps.step (engineFailed_keeps ..) rfl (Keeps.raise 3 rfl rfl rfl rfl h2)))

theorem execBackgroundSelfTest_keeps a0 a1 (s : State) : KeepsOut 0x201880004730e s (execBackgroundSelfTest a0 a1 s) := by
  unfold execBackgroundSelfTest
  extract_lets -merge +onlyGivenNames x1
  clear_value x1
  exact (KeepsOut.ite (KeepsOut.done (Keeps.step (scrub_keeps ..) rfl (Keeps.step (judgeTest_keeps ..) rfl (Keeps.step (setLe_keeps ..) rfl (Keeps.refl ..))))) (KeepsOut.done (Keeps.refl ..)))

theorem execDebugHalt_keeps a0 a1 (s : State) : KeepsOut 0x6000010001a0a s (execDebugHalt a0 a1 s) := by
  unfold execDebugHalt
  exact (KeepsOut.ite (KeepsOut.done (Keeps.refl ..)) (KeepsOut.done (Keeps.written rfl (Keeps.refl ..) (fun _ hu1 => (Keeps.ite (Keeps.step (setLe_keeps ..) rfl hu1) hu1)))))

theorem resumeClock_keeps (s : State) a1 a2 : Keeps 0x100 s (resumeClock s a1 a2) := by
  unfold resumeClock
  extract_lets -merge +onlyGivenNames x1 x2 x3
  clear_value x1 x2
  have h4 : ∀ (u : State) y1, Keeps 0x100 s u → Keeps 0x100 s (x3 u y1) := fun u y1 hu5 => by
    unfold x3
    exact (by
      split
      · exact (Keeps.step (setClass_keeps ..) rfl hu5)
      · exact hu5)
  clear_value x3
  exact (h4 _ _ (h4 _ _ (Keeps.refl ..)))

theorem execDebugResume_keeps a0 a1 a2 (s : State) : KeepsOut 0x6000810001b4a s (execDebugResume a0 a1 a2 s) := by
  unfold execDebugResume
  exact (KeepsOut.ite (KeepsOut.done (Keeps.refl ..)) (KeepsOut.done (Keeps.written rfl (Keeps.refl ..) (fun _ hu1 => (Keeps.ite (by
          extract_lets -merge +onlyGivenNames x2
          have h3 : Keeps 0x6000810001b4a s x2 := (Keeps.step (resumeClock_keeps ..) rfl (Keeps.step (atTime_keeps ..) rfl hu1))
          clear_value x2
          exact (Keeps.wrFieldOf (Reg.LE_DBG_CTRL_block ..) rfl (Keeps.step (setLe_keeps ..) rfl h3))) hu1)))))

theorem execDebugStep_keeps a0 (s : State) : KeepsOut 0x2018c0004734e s (execDebugStep a0 s) := by
  unfold execDebugStep
  extract_lets -merge +onlyGivenNames x1
  clear_value x1
  exact (KeepsOut.ite (by
      extract_lets -merge +onlyGivenNames x2 x3
      clear_value x2
      have h4 : Keeps 0x2018c0004734e s x3 := (Keeps.step (setLe_keeps ..) rfl (Keeps.step (atTime_keeps ..) rfl (Keeps.refl ..)))
      clear_value x3
      extract_lets -merge +onlyGivenNames x5 x6 x7
      clear_value x5 x6 x7
      exact (KeepsOut.done (Keeps.step (haltEngine_keeps ..) rfl (Keeps.step (issueWord_keeps ..) rfl h4)))) (KeepsOut.done (Keeps.refl ..)))

theorem execDebugWrite_keeps a0 a1 (s : State) : KeepsOut 0x6000010001a0a s (execDebugWrite a0 a1 s) := by
  unfold execDebugWrite
  exact (KeepsOut.ite (KeepsOut.done (Keeps.refl ..)) (KeepsOut.done (Keeps.written rfl (Keeps.refl ..) (fun _ hu1 => (by
        extract_lets -merge +onlyGivenNames x2 x3 x4 x5
        clear_value x2 x3 x4 x5
        exact (Keeps.ite hu1 (by
            split
            · exact (by
                extract_lets -merge +onlyGivenNames x6
                clear_value x6
                exact (Keeps.step (setLe_keeps ..) rfl hu1))
            · exact (by
                extract_lets -merge +onlyGivenNames x7
                clear_value x7
                exact (Keeps.ite hu1 (Keeps.step (setLe_keeps ..) rfl hu1)))
            · exact hu1)))))))

theorem execFullSelfTest_keeps a0 a1 (s : State) : KeepsOut 0x201880004730e s (execFullSelfTest a0 a1 s) := by
  unfold execFullSelfTest
  extract_lets -merge +onlyGivenNames x1
  clear_value x1
  exact (KeepsOut.ite (by
      extract_lets -merge +onlyGivenNames x2
      have h3 : Keeps 0x201880004730e s x2 := (Keeps.step (setLe_keeps ..) rfl (Keeps.refl ..))
      clear_value x2
      extract_lets -merge +onlyGivenNames x4
      have h5 : Keeps 0x201880004730e s x4 := (Keeps.wrFieldOf (Reg.LE_CMP_STAT_block ..) rfl h3)
      clear_value x4
      extract_lets -merge +onlyGivenNames x6
      have h7 : Keeps 0x201880004730e s x6 := (Keeps.ite (Keeps.addFieldOf (Reg.LE_MISM_CNT_block ..) rfl h5) h5)
      clear_value x6
      exact (KeepsOut.done (Keeps.step (judgeTest_keeps ..) rfl h7))) (KeepsOut.done (Keeps.refl ..)))

theorem execLeAnd_keeps a0 (s : State) : KeepsOut 0x2018c0004734e s (execLeAnd a0 s) := by
  unfold execLeAnd
  exact (KeepsOut.done (Keeps.step (issue_keeps ..) rfl (Keeps.refl ..)))

theorem execLeAndn_keeps a0 (s : State) : KeepsOut 0x2018c0004734e s (execLeAndn a0 s) := by
  unfold execLeAndn
  exact (KeepsOut.done (Keeps.step (issue_keeps ..) rfl (Keeps.refl ..)))

theorem execLeBcl_keeps a0 (s : State) : KeepsOut 0x2018c0004734e s (execLeBcl a0 s) := by
  unfold execLeBcl
  exact (KeepsOut.done (Keeps.step (issue_keeps ..) rfl (Keeps.refl ..)))

theorem execLeBop_keeps a0 (s : State) : KeepsOut 0x2018c0004734e s (execLeBop a0 s) := by
  unfold execLeBop
  exact (KeepsOut.done (Keeps.step (issue_keeps ..) rfl (Keeps.refl ..)))

theorem execLeClrCnt_keeps a0 a1 (s : State) : KeepsOut 0x6000810001a0a s (execLeClrCnt a0 a1 s) := by
  unfold execLeClrCnt
  exact (KeepsOut.ite (KeepsOut.done (Keeps.refl ..)) (KeepsOut.done (Keeps.keyedBit rfl (Keeps.refl ..) (fun _ hu1 => (by
        extract_lets -merge +onlyGivenNames x2
        have h3 : Keeps 0x6000810001a0a s x2 := (Keeps.zeroRegs (b := 3) (List.forall_mem_cons.2 ⟨Reg.LE_FAULT_CNT_block .., (List.forall_mem_cons.2 ⟨Reg.LE_ECC_CNT_block .., (List.forall_mem_cons.2 ⟨Reg.LE_PEAKS_block .., (fun _ h => absurd h List.not_mem_nil)⟩)⟩)⟩) rfl hu1)
        clear_value x2
        exact (Keeps.step (cleared_keeps ..) rfl (Keeps.step (setLe_keeps ..) rfl h3)))))))

theorem execLeCtd_keeps a0 (s : State) : KeepsOut 0x2018c0004734e s (execLeCtd a0 s) := by
  unfold execLeCtd
  exact (KeepsOut.done (Keeps.step (issue_keeps ..) rfl (Keeps.refl ..)))

theorem execLeCtl_keeps a0 (s : State) : KeepsOut 0x2018c0004734e s (execLeCtl a0 s) := by
  unfold execLeCtl
  exact (KeepsOut.done (Keeps.step (issue_keeps ..) rfl (Keeps.refl ..)))

theorem execLeCtu_keeps a0 (s : State) : KeepsOut 0x2018c0004734e s (execLeCtu a0 s) := by
  unfold execLeCtu
  exact (KeepsOut.done (Keeps.step (issue_keeps ..) rfl (Keeps.refl ..)))

theorem execLeEnd_keeps a0 (s : State) : KeepsOut 0x2018c0004734e s (execLeEnd a0 s) := by
  unfold execLeEnd
  exact (KeepsOut.done (Keeps.step (issue_keeps ..) rfl (Keeps.refl ..)))

theorem execLeFedg_keeps a0 (s : State) : KeepsOut 0x2018c0004734e s (execLeFedg a0 s) := by
  unfold execLeFedg
  exact (KeepsOut.done (Keeps.step (issue_keeps ..) rfl (Keeps.refl ..)))

theorem execLeFrcd_keeps a0 (s : State) : KeepsOut 0x2018c0004734e s (execLeFrcd a0 s) := by
  unfold execLeFrcd
  exact (KeepsOut.done (Keeps.step (issue_keeps ..) rfl (Keeps.refl ..)))

theorem execLeIllegal_keeps a0 (s : State) : KeepsOut 0x2018c0004734e s (execLeIllegal a0 s) := by
  unfold execLeIllegal
  exact (KeepsOut.done (Keeps.step (issue_keeps ..) rfl (Keeps.refl ..)))

theorem execLeLd_keeps a0 (s : State) : KeepsOut 0x2018c0004734e s (execLeLd a0 s) := by
  unfold execLeLd
  exact (KeepsOut.done (Keeps.step (issue_keeps ..) rfl (Keeps.refl ..)))

theorem execLeLdl_keeps a0 (s : State) : KeepsOut 0x2018c0004734e s (execLeLdl a0 s) := by
  unfold execLeLdl
  exact (KeepsOut.done (Keeps.step (issue_keeps ..) rfl (Keeps.refl ..)))

theorem execLeLdn_keeps a0 (s : State) : KeepsOut 0x2018c0004734e s (execLeLdn a0 s) := by
  unfold execLeLdn
  exact (KeepsOut.done (Keeps.step (issue_keeps ..) rfl (Keeps.refl ..)))

theorem execLeOr_keeps a0 (s : State) : KeepsOut 0x2018c0004734e s (execLeOr a0 s) := by
  unfold execLeOr
  exact (KeepsOut.done (Keeps.step (issue_keeps ..) rfl (Keeps.refl ..)))

theorem execLeOrn_keeps a0 (s : State) : KeepsOut 0x2018c0004734e s (execLeOrn a0 s) := by
  unfold execLeOrn
  exact (KeepsOut.done (Keeps.step (issue_keeps ..) rfl (Keeps.refl ..)))

theorem execLeRedg_keeps a0 (s : State) : KeepsOut 0x2018c0004734e s (execLeRedg a0 s) := by
  unfold execLeRedg
  exact (KeepsOut.done (Keeps.step (issue_keeps ..) rfl (Keeps.refl ..)))

theorem execLeRst_keeps a0 (s : State) : KeepsOut 0x2018c0004734e s (execLeRst a0 s) := by
  unfold execLeRst
  exact (KeepsOut.done (Keeps.step (issue_keeps ..) rfl (Keeps.refl ..)))

theorem execLeSet_keeps a0 (s : State) : KeepsOut 0x2018c0004734e s (execLeSet a0 s) := by
  unfold execLeSet
  exact (KeepsOut.done (Keeps.step (issue_keeps ..) rfl (Keeps.refl ..)))

theorem execLeSkip_keeps a0 (s : State) : KeepsOut 0x2018c0004734e s (execLeSkip a0 s) := by
  unfold execLeSkip
  exact (KeepsOut.done (Keeps.step (issue_keeps ..) rfl (Keeps.refl ..)))

theorem execLeSt_keeps a0 (s : State) : KeepsOut 0x2018c0004734e s (execLeSt a0 s) := by
  unfold execLeSt
  exact (KeepsOut.done (Keeps.step (issue_keeps ..) rfl (Keeps.refl ..)))

theorem execLeStn_keeps a0 (s : State) : KeepsOut 0x2018c0004734e s (execLeStn a0 s) := by
  unfold execLeStn
  exact (KeepsOut.done (Keeps.step (issue_keeps ..) rfl (Keeps.refl ..)))

theorem execLeStro_keeps a0 (s : State) : KeepsOut 0x2018c0004734e s (execLeStro a0 s) := by
  unfold execLeStro
  exact (KeepsOut.done (Keeps.step (issue_keeps ..) rfl (Keeps.refl ..)))

theorem execLeTof_keeps a0 (s : State) : KeepsOut 0x2018c0004734e s (execLeTof a0 s) := by
  unfold execLeTof
  exact (KeepsOut.done (Keeps.step (issue_keeps ..) rfl (Keeps.refl ..)))

theorem execLeTon_keeps a0 (s : State) : KeepsOut 0x2018c0004734e s (execLeTon a0 s) := by
  unfold execLeTon
  exact (KeepsOut.done (Keeps.step (issue_keeps ..) rfl (Keeps.refl ..)))

theorem execLeTp_keeps a0 (s : State) : KeepsOut 0x2018c0004734e s (execLeTp a0 s) := by
  unfold execLeTp
  exact (KeepsOut.done (Keeps.step (issue_keeps ..) rfl (Keeps.refl ..)))

theorem execLeTstd_keeps a0 (s : State) : KeepsOut 0x2018c0004734e s (execLeTstd a0 s) := by
  unfold execLeTstd
  exact (KeepsOut.done (Keeps.step (issue_keeps ..) rfl (Keeps.refl ..)))

theorem execLeXor_keeps a0 (s : State) : KeepsOut 0x2018c0004734e s (execLeXor a0 s) := by
  unfold execLeXor
  exact (KeepsOut.done (Keeps.step (issue_keeps ..) rfl (Keeps.refl ..)))

theorem execLeXorn_keeps a0 (s : State) : KeepsOut 0x2018c0004734e s (execLeXorn a0 s) := by
  unfold execLeXorn
  exact (KeepsOut.done (Keeps.step (issue_keeps ..) rfl (Keeps.refl ..)))

theorem execModeRequest_keeps a0 a1 (s : State) : KeepsOut 0x6000810001a0a s (execModeRequest a0 a1 s) := by
  unfold execModeRequest
  exact (KeepsOut.ite (KeepsOut.done (Keeps.refl ..)) (by
      extract_lets -merge +onlyGivenNames x1
      clear_value x1
      exact (KeepsOut.done (Keeps.written rfl (Keeps.refl ..) (fun _ hu2 => (by
          extract_lets -merge +onlyGivenNames x3
          have h4 : ∀ (u : State) y1, Keeps 0x6000810001a0a s u → Keeps 0x6000810001a0a s (x3 u y1) := fun u y1 hu5 => by
            unfold x3
            exact (Keeps.wrFieldOf (Reg.LE_CMP_STAT_block ..) rfl hu5)
          clear_value x3
          exact (Keeps.ite (h4 _ _ (Keeps.step (keyWrong_keeps ..) rfl hu2)) (Keeps.ite (Keeps.step (refuse_keeps ..) rfl hu2) (by
                extract_lets -merge +onlyGivenNames x6 x7
                clear_value x6 x7
                exact (Keeps.ite (h4 _ _ (Keeps.step (refuse_keeps ..) rfl hu2)) (by
                    extract_lets -merge +onlyGivenNames x8 x9 x10
                    clear_value x8 x9
                    have h11 : Keeps 0x6000810001a0a s x10 := (Keeps.step (setLe_keeps ..) rfl hu2)
                    clear_value x10
                    exact (Keeps.step (accepted_keeps ..) rfl (Keeps.wrFieldOf (Reg.LE_CMP_STAT_block ..) rfl h11)))))))))))))

theorem execDebugOpen_keeps e c (s : State) : KeepsOut 0x6000810001a0a s (execDebugOpen e c s) := by
  unfold execDebugOpen
  refine KeepsOut.ite (KeepsOut.done (Keeps.refl ..)) ?_
  extract_lets reg
  refine KeepsOut.done (Keeps.written rfl (Keeps.refl ..) fun u hu => ?_)
  have hw : ∀ v, Keeps 0x6000810001a0a s (wr u reg v) := fun v => Keeps.wrOf (Reg.LE_DBG_CTRL_block e) rfl hu
  clear_value reg
  extract_lets -merge +onlyGivenNames old new isOpen
  clear_value old new isOpen
  refine Keeps.ite (Keeps.ite ?_ (Keeps.step (refuse_keeps ..) rfl hu)) (Keeps.ite ?_ (Keeps.step (settingWritten_keeps ..) rfl (hw _)))
  · exact Keeps.step (recordBare_keeps ..) rfl (Keeps.step (settingWritten_keeps ..) rfl (hw _))
  · exact Keeps.step (closeDebug_keeps ..) rfl (Keeps.step (settingWritten_keeps ..) rfl (hw _))

end Sys2Proof.Machine
end

