-- ==== Sys2Proof/Laws/KeepsStart.lean ====
section
/-! SUPPORT. What each operation of TimeBase, Slot, Start can change: one lemma for each (Laws/Keeps.lean says what Keeps means).
The mask names the parts by Part.bit. -/

namespace Sys2Proof.Machine

open Sys2Proof

theorem capStore_keeps (s : State) a1 a2 : Keeps 0x2000000201008 s (capStore s a1 a2) := by
  unfold capStore
  extract_lets -merge +onlyGivenNames x1 x2
  clear_value x1
  have h3 : ∀ (u : State) y1, Keeps 0x2000000201008 s u → Keeps 0x2000000201008 s (x2 u y1) := fun u y1 hu4 => by
    unfold x2
    exact (Keeps.step (setTim_keeps ..) rfl hu4)
  clear_value x2
  exact (Keeps.ite (h3 _ _ (Keeps.refl ..)) (by
      extract_lets -merge +onlyGivenNames x5
      have h6 : Keeps 0x2000000201008 s x5 := (h3 _ _ (Keeps.refl ..))
      clear_value x5
      exact (Keeps.ite (Keeps.step (recordBare_keeps ..) rfl h6) h6)))

theorem setDisagree_keeps (s : State) a1 : Keeps 0x2080000201008 s (setDisagree s a1) := by
  unfold setDisagree
  exact (Keeps.ite (Keeps.refl ..) (by
      extract_lets -merge +onlyGivenNames x1
      have h2 : Keeps 0x2080000201008 s x1 := (Keeps.raise 11 rfl rfl rfl rfl (Keeps.wrField rfl (Keeps.refl ..)))
      clear_value x1
      exact (Keeps.ite h2 (Keeps.step (setTim_keeps ..) rfl (Keeps.wrField rfl h2)))))

theorem voteMark_keeps (s : State) a1 : Keeps 0x20802033ff7c8 s (voteMark s a1) := by
  unfold voteMark
  exact (by
    split
    · exact (by
        extract_lets -merge +onlyGivenNames x1
        have h2 : Keeps 0x20802033ff7c8 s x1 := (Keeps.step (setTim_keeps ..) rfl (Keeps.wrField rfl (Keeps.wrField rfl (Keeps.refl ..))))
        clear_value x1
        extract_lets -merge +onlyGivenNames x3 x4
        clear_value x3
        have h5 : Keeps 0x20802033ff7c8 s x4 := (Keeps.ite h2 (Keeps.step (recordBare_keeps ..) rfl h2))
        clear_value x4
        exact (Keeps.ite (Keeps.step (selectBase_keeps ..) rfl h5) h5)))

theorem disagreeMark_keeps (s : State) a1 : Keeps 0x20802033ff7c8 s (disagreeMark s a1) := by
  unfold disagreeMark
  extract_lets -merge +onlyGivenNames x1 x2 x3
  clear_value x1 x2
  have h4 : Keeps 0x20802033ff7c8 s x3 := (Keeps.step (setTim_keeps ..) rfl (Keeps.refl ..))
  clear_value x3
  extract_lets -merge +onlyGivenNames x5
  have h6 : Keeps 0x20802033ff7c8 s x5 := (Keeps.ite (Keeps.step (setDisagree_keeps ..) rfl h4) (Keeps.ite (Keeps.step (setDisagree_keeps ..) rfl h4) h4))
  clear_value x5
  exact (Keeps.ite (Keeps.step (voteMark_keeps ..) rfl h6) h6)

theorem ptpAfter_keeps (s : State) a1 : Keeps 0x20802033ff7c8 s (ptpAfter s a1) := by
  unfold ptpAfter
  extract_lets -merge +onlyGivenNames x1
  have h2 : Keeps 0x20802033ff7c8 s x1 := (Keeps.step (timSelect_keeps ..) rfl (Keeps.step (timRefresh_keeps ..) rfl (Keeps.refl ..)))
  clear_value x1
  exact (Keeps.step (timRefresh_keeps ..) rfl (Keeps.ite (Keeps.step (followOfs_keeps ..) rfl h2) h2))

theorem ptpState_keeps (s : State) a1 a2 : Keeps 0x2080000201008 s (ptpState s a1 a2) := by
  unfold ptpState
  extract_lets -merge +onlyGivenNames x1 x2 x3
  clear_value x1 x2
  have h4 : Keeps 0x2080000201008 s x3 := (Keeps.step (setInst_keeps ..) rfl (Keeps.refl ..))
  clear_value x3
  exact (Keeps.ite h4 (Keeps.raise 11 rfl rfl rfl rfl h4))

theorem execAnnounceTimeout_keeps a0 a1 (s : State) : KeepsOut 0x20802033ff7c8 s (execAnnounceTimeout a0 a1 s) := by
  unfold execAnnounceTimeout
  extract_lets -merge +onlyGivenNames x1
  have h2 : Keeps 0x20802033ff7c8 s x1 := (Keeps.step (atTime_keeps ..) rfl (Keeps.refl ..))
  clear_value x1
  extract_lets -merge +onlyGivenNames x3
  clear_value x3
  exact (KeepsOut.ite (KeepsOut.done h2) (by
      extract_lets -merge +onlyGivenNames x4
      have h5 : Keeps 0x20802033ff7c8 s x4 := (Keeps.step (setInst_keeps ..) rfl h2)
      clear_value x4
      exact (KeepsOut.done (Keeps.step (ptpAfter_keeps ..) rfl (Keeps.ite h5 (Keeps.step (ptpState_keeps ..) rfl h5))))))

theorem execCaptureEvent_keeps a0 a1 a2 a3 (s : State) : KeepsOut 0x2000000201048 s (execCaptureEvent a0 a1 a2 a3 s) := by
  unfold execCaptureEvent
  extract_lets -merge +onlyGivenNames x1
  have h2 : Keeps 0x2000000201048 s x1 := (Keeps.step (atTime_keeps ..) rfl (Keeps.refl ..))
  clear_value x1
  exact (KeepsOut.done (Keeps.foldl h2 fun _ _ hu3 => (Keeps.ite (Keeps.step (capStore_keeps ..) rfl hu3) hu3)))

theorem saveHoldover_keeps (s : State) : Keeps 0x200000 s (saveHoldover s) := by
  unfold saveHoldover
  exact (Keeps.step (setTim_keeps ..) rfl (Keeps.refl ..))

theorem execHoldoverSave_keeps a0 (s : State) : KeepsOut 0x200040 s (execHoldoverSave a0 s) := by
  unfold execHoldoverSave
  exact (KeepsOut.done (Keeps.step (saveHoldover_keeps ..) rfl (Keeps.step (atTime_keeps ..) rfl (Keeps.refl ..))))

theorem irigState_keeps (s : State) a1 : Keeps 0x2080000001008 s (irigState s a1) := by
  unfold irigState
  extract_lets -merge +onlyGivenNames x1 x2
  clear_value x1
  have h3 : Keeps 0x2080000001008 s x2 := (Keeps.wrField rfl (Keeps.refl ..))
  clear_value x2
  exact (Keeps.ite h3 (Keeps.raise 11 rfl rfl rfl rfl h3))

theorem execIrigFrame_keeps a0 a1 (s : State) : KeepsOut 0x2080000201048 s (execIrigFrame a0 a1 s) := by
  unfold execIrigFrame
  extract_lets -merge +onlyGivenNames x1
  have h2 : Keeps 0x2080000201048 s x1 := (Keeps.step (atTime_keeps ..) rfl (Keeps.refl ..))
  clear_value x1
  exact (KeepsOut.ite (KeepsOut.done h2) (by
      extract_lets -merge +onlyGivenNames x3 x4 x5 x6 x7
      clear_value x3 x4 x5 x6
      have h8 : Keeps 0x2080000201048 s x7 := (Keeps.step (setTim_keeps ..) rfl (Keeps.addField rfl h2))
      clear_value x7
      extract_lets -merge +onlyGivenNames x9
      have h10 : Keeps 0x2080000201048 s x9 := (Keeps.wr rfl h8)
      clear_value x9
      extract_lets -merge +onlyGivenNames x11
      have h12 : Keeps 0x2080000201048 s x11 := (Keeps.ite (Keeps.step (irigState_keeps ..) rfl h10) (Keeps.ite (Keeps.step (irigState_keeps ..) rfl h10) h10))
      clear_value x11
      exact (KeepsOut.done (Keeps.step (timRefresh_keeps ..) rfl h12))))

theorem execIrigFrameMissing_keeps a0 (s : State) : KeepsOut 0x2080000201048 s (execIrigFrameMissing a0 s) := by
  unfold execIrigFrameMissing
  extract_lets -merge +onlyGivenNames x1
  have h2 : Keeps 0x2080000201048 s x1 := (Keeps.step (atTime_keeps ..) rfl (Keeps.refl ..))
  clear_value x1
  extract_lets -merge +onlyGivenNames x3
  have h4 : Keeps 0x2080000201048 s x3 := (Keeps.step (setTim_keeps ..) rfl h2)
  clear_value x3
  exact (KeepsOut.done (Keeps.step (timRefresh_keeps ..) rfl (Keeps.ite (Keeps.step (irigState_keeps ..) rfl h4) h4)))

theorem execLaunchFrame_keeps a0 a1 (s : State) : KeepsOut 0x80004200044 s (execLaunchFrame a0 a1 s) := by
  unfold execLaunchFrame
  extract_lets -merge +onlyGivenNames x1
  have h2 : Keeps 0x80004200044 s x1 := (Keeps.step (atTime_keeps ..) rfl (Keeps.refl ..))
  clear_value x1
  extract_lets -merge +onlyGivenNames x3
  clear_value x3
  exact (by
    split
    · exact (KeepsOut.done h2)
    · exact (KeepsOut.ite (KeepsOut.done h2) (by
          extract_lets -merge +onlyGivenNames x4
          have h5 : Keeps 0x80004200044 s x4 := (Keeps.step (setLaunchQ_keeps ..) rfl h2)
          clear_value x4
          exact (KeepsOut.ite (KeepsOut.done (Keeps.addField rfl h5)) (by
              extract_lets -merge +onlyGivenNames x6
              have h7 : Keeps 0x80004200044 s x6 := (Keeps.ite (Keeps.addField rfl h5) h5)
              clear_value x6
              exact (KeepsOut.done (Keeps.ite h7 (Keeps.ite (Keeps.step (ethSend_keeps ..) rfl h7) (Keeps.step (send_keeps ..) rfl h7)))))))))

theorem execLeapApply_keeps a0 (s : State) : KeepsOut 0x2080000201048 s (execLeapApply a0 s) := by
  unfold execLeapApply
  extract_lets -merge +onlyGivenNames x1
  have h2 : Keeps 0x2080000201048 s x1 := (Keeps.step (atTime_keeps ..) rfl (Keeps.refl ..))
  clear_value x1
  extract_lets -merge +onlyGivenNames x3
  clear_value x3
  exact (KeepsOut.ite (KeepsOut.done h2) (KeepsOut.ite (KeepsOut.done (Keeps.step (timRefresh_keeps ..) rfl (Keeps.step (setTim_keeps ..) rfl h2))) (KeepsOut.ite (KeepsOut.done (Keeps.step (timRefresh_keeps ..) rfl (Keeps.step (setTim_keeps ..) rfl h2))) (KeepsOut.done h2))))

theorem execPdelayReq_keeps a0 a1 (s : State) : KeepsOut 0x4000044 s (execPdelayReq a0 a1 s) := by
  unfold execPdelayReq
  extract_lets -merge +onlyGivenNames x1
  have h2 : Keeps 0x4000044 s x1 := (Keeps.step (atTime_keeps ..) rfl (Keeps.refl ..))
  clear_value x1
  exact (KeepsOut.ite (KeepsOut.done (Keeps.step (ethSend_keeps ..) rfl h2)) (KeepsOut.done h2))

theorem execPdelayResp_keeps a0 a1 a2 a3 (s : State) : KeepsOut 0x200040 s (execPdelayResp a0 a1 a2 a3 s) := by
  unfold execPdelayResp
  extract_lets -merge +onlyGivenNames x1
  have h2 : Keeps 0x200040 s x1 := (Keeps.step (atTime_keeps ..) rfl (Keeps.refl ..))
  clear_value x1
  extract_lets -merge +onlyGivenNames x3
  clear_value x3
  exact (KeepsOut.ite (KeepsOut.done h2) (KeepsOut.done (Keeps.step (setInst_keeps ..) rfl h2)))

theorem execPpsFall_keeps a0 (s : State) : KeepsOut 0x200040 s (execPpsFall a0 s) := by
  unfold execPpsFall
  extract_lets -merge +onlyGivenNames x1
  have h2 : Keeps 0x200040 s x1 := (Keeps.step (atTime_keeps ..) rfl (Keeps.refl ..))
  clear_value x1
  exact (KeepsOut.ite (KeepsOut.done (Keeps.step (setTim_keeps ..) rfl h2)) (KeepsOut.done h2))

theorem execPrefRevert_keeps a0 (s : State) : KeepsOut 0x20802033ff7c8 s (execPrefRevert a0 s) := by
  unfold execPrefRevert
  extract_lets -merge +onlyGivenNames x1
  have h2 : Keeps 0x20802033ff7c8 s x1 := (Keeps.step (atTime_keeps ..) rfl (Keeps.refl ..))
  clear_value x1
  extract_lets -merge +onlyGivenNames x3 x4
  clear_value x3 x4
  exact (KeepsOut.ite (KeepsOut.done (Keeps.step (timRefresh_keeps ..) rfl (Keeps.step (selectBase_keeps ..) rfl h2))) (KeepsOut.done h2))

theorem execPtpAnnounce_keeps a0 a1 a2 (s : State) : KeepsOut 0x20802033ff7c8 s (execPtpAnnounce a0 a1 a2 s) := by
  unfold execPtpAnnounce
  extract_lets -merge +onlyGivenNames x1
  have h2 : Keeps 0x20802033ff7c8 s x1 := (Keeps.step (atTime_keeps ..) rfl (Keeps.refl ..))
  clear_value x1
  extract_lets -merge +onlyGivenNames x3
  clear_value x3
  exact (KeepsOut.ite (KeepsOut.done h2) (KeepsOut.ite (by
        extract_lets -merge +onlyGivenNames x4
        have h5 : Keeps 0x20802033ff7c8 s x4 := (Keeps.step (setInst_keeps ..) rfl h2)
        clear_value x4
        exact (KeepsOut.done (Keeps.step (ptpAfter_keeps ..) rfl (Keeps.ite (Keeps.step (ptpState_keeps ..) rfl h5) h5)))) (KeepsOut.done h2)))

theorem execPtpSync_keeps a0 a1 a2 a3 a4 (s : State) : KeepsOut 0x20802033ff7c8 s (execPtpSync a0 a1 a2 a3 a4 s) := by
  unfold execPtpSync
  extract_lets -merge +onlyGivenNames x1
  have h2 : Keeps 0x20802033ff7c8 s x1 := (Keeps.step (atTime_keeps ..) rfl (Keeps.refl ..))
  clear_value x1
  extract_lets -merge +onlyGivenNames x3
  clear_value x3
  exact (KeepsOut.ite (KeepsOut.done h2) (by
      extract_lets -merge +onlyGivenNames x4 x5 x6
      clear_value x4 x5
      have h7 : Keeps 0x20802033ff7c8 s x6 := (Keeps.step (setInst_keeps ..) rfl h2)
      clear_value x6
      extract_lets -merge +onlyGivenNames x8
      clear_value x8
      exact (KeepsOut.done (Keeps.step (ptpAfter_keeps ..) rfl (Keeps.step (ptpState_keeps ..) rfl h7)))))

theorem execSecondMark_keeps a0 a1 (s : State) : KeepsOut 0x20802033ff7c8 s (execSecondMark a0 a1 s) := by
  unfold execSecondMark
  extract_lets -merge +onlyGivenNames x1
  have h2 : Keeps 0x20802033ff7c8 s x1 := (Keeps.step (atTime_keeps ..) rfl (Keeps.refl ..))
  clear_value x1
  extract_lets -merge +onlyGivenNames x3 x4
  clear_value x3
  have h5 : Keeps 0x20802033ff7c8 s x4 := (Keeps.wr rfl h2)
  clear_value x4
  extract_lets -merge +onlyGivenNames x6
  have h7 : Keeps 0x20802033ff7c8 s x6 := (Keeps.step (setTim_keeps ..) rfl h5)
  clear_value x6
  extract_lets -merge +onlyGivenNames x8
  have h9 : Keeps 0x20802033ff7c8 s x8 := (Keeps.wr rfl h7)
  clear_value x8
  extract_lets -merge +onlyGivenNames x10
  have h11 : Keeps 0x20802033ff7c8 s x10 := (Keeps.ite (Keeps.step (disagreeMark_keeps ..) rfl h9) (Keeps.step (setTim_keeps ..) rfl (Keeps.wrField rfl (Keeps.wrField rfl h9))))
  clear_value x10
  exact (KeepsOut.done (Keeps.step (timRefresh_keeps ..) rfl (Keeps.step (timSelect_keeps ..) rfl h11)))

theorem execSlewDone_keeps (s : State) : KeepsOut 0x2000200001048 s (execSlewDone s) := by
  unfold execSlewDone
  exact (KeepsOut.ite (KeepsOut.done (Keeps.raise 1 rfl rfl rfl rfl (Keeps.upd_grid (by first | exact fun h => h | exact fun _ => Nat.le_of_ble_eq_true rfl) (Nat.le_refl _) (.inr rfl) rfl (Keeps.refl ..)))) (KeepsOut.done (Keeps.refl ..)))

theorem execTimCapCfg_keeps a0 (s : State) : KeepsOut 0x600001020180a s (execTimCapCfg a0 s) := by
  unfold execTimCapCfg
  exact (KeepsOut.done (Keeps.written rfl (Keeps.refl ..) (fun _ hu1 => (by
      extract_lets -merge +onlyGivenNames x2 x3 x4 x5
      clear_value x2 x3 x4
      have h6 : Keeps 0x600001020180a s x5 := (Keeps.step (setTim_keeps ..) rfl hu1)
      clear_value x5
      exact (Keeps.step (settingWritten_keeps ..) rfl h6)))))

theorem execTimCapSlo_keeps (s : State) : KeepsOut 0x8000020000a s (execTimCapSlo s) := by
  unfold execTimCapSlo
  extract_lets -merge +onlyGivenNames x1 x2
  clear_value x1 x2
  exact (by
    split
    · exact (by
        extract_lets -merge +onlyGivenNames x3
        have h4 : Keeps 0x8000020000a s x3.2 := (Keeps.step (drawDWord_keeps ..) rfl (Keeps.refl ..))
        clear_value x3
        extract_lets -merge +onlyGivenNames x5
        have h6 : Keeps 0x8000020000a s x5 := (Keeps.wr rfl (Keeps.wr rfl h4))
        clear_value x5
        exact (KeepsOut.done (Keeps.step (answer_keeps ..) rfl h6)))
    · exact (by
        extract_lets -merge +onlyGivenNames x7 x8
        clear_value x7
        have h9 : Keeps 0x8000020000a s x8 := (Keeps.step (setTim_keeps ..) rfl (Keeps.refl ..))
        clear_value x8
        extract_lets -merge +onlyGivenNames x10
        have h11 : Keeps 0x8000020000a s x10 := (Keeps.wr rfl (Keeps.wr rfl h9))
        clear_value x10
        exact (KeepsOut.done (Keeps.step (answer_keeps ..) rfl h11))))

theorem execTimClrCnt_keeps a0 (s : State) : KeepsOut 0x608001020180a s (execTimClrCnt a0 s) := by
  unfold execTimClrCnt
  exact (KeepsOut.done (Keeps.keyedBit rfl (Keeps.refl ..) (fun _ hu1 => (by
      extract_lets -merge +onlyGivenNames x2
      have h3 : Keeps 0x608001020180a s x2 := (Keeps.step (setTim_keeps ..) rfl hu1)
      clear_value x2
      exact (Keeps.step (cleared_keeps ..) rfl (Keeps.wr rfl (Keeps.wrField rfl h3)))))))

theorem setSlot_keeps (s : State) a1 : Keeps 0x800000 s (setSlot s a1) := by
  unfold setSlot
  exact (Keeps.upd_slot rfl (Keeps.refl ..))

theorem execFeedChange_keeps a0 a1 a2 (s : State) : KeepsOut 0x2000100801048 s (execFeedChange a0 a1 a2 s) := by
  unfold execFeedChange
  extract_lets -merge +onlyGivenNames x1
  have h2 : Keeps 0x2000100801048 s x1 := (Keeps.step (atTime_keeps ..) rfl (Keeps.refl ..))
  clear_value x1
  extract_lets -merge +onlyGivenNames x3
  have h4 : Keeps 0x2000100801048 s x3 := (Keeps.step (setSlot_keeps ..) rfl h2)
  clear_value x3
  exact (KeepsOut.ite (KeepsOut.done h4) (KeepsOut.done (Keeps.raise 0 rfl rfl rfl rfl h4)))

theorem execLeverLatch_keeps a0 (s : State) : KeepsOut 0x800040 s (execLeverLatch a0 s) := by
  unfold execLeverLatch
  exact (KeepsOut.done (Keeps.step (setSlot_keeps ..) rfl (Keeps.step (atTime_keeps ..) rfl (Keeps.refl ..))))

theorem execLeverUnlatch_keeps a0 (s : State) : KeepsOut 0x200800084304e s (execLeverUnlatch a0 s) := by
  unfold execLeverUnlatch
  extract_lets -merge +onlyGivenNames x1
  have h2 : Keeps 0x200800084304e s x1 := (Keeps.step (atTime_keeps ..) rfl (Keeps.refl ..))
  clear_value x1
  extract_lets -merge +onlyGivenNames x3
  have h4 : Keeps 0x200800084304e s x3 := (Keeps.step (setSlot_keeps ..) rfl h2)
  clear_value x3
  exact (KeepsOut.ite (KeepsOut.done h4) (by
      split
      · exact (by
          extract_lets -merge +onlyGivenNames x5
          clear_value x5
          exact (KeepsOut.ite (KeepsOut.done (Keeps.step (setSlot_keeps ..) rfl (Keeps.step (refuseSwitch_keeps ..) rfl h4))) (KeepsOut.done (Keeps.step (setSlot_keeps ..) rfl (Keeps.step (startSwitch_keeps ..) rfl h4)))))
      · exact (KeepsOut.done (Keeps.step (removalTick_keeps ..) rfl (Keeps.setPair (.inr fun _ => rfl) rfl (Keeps.step (setSlot_keeps ..) rfl h4))))
      · exact (KeepsOut.done (Keeps.step (requestRole_keeps ..) rfl (Keeps.step (markLifeDrop_keeps ..) rfl (Keeps.step (setSlot_keeps ..) rfl h4))))))

theorem execPartnerPresence_keeps a0 a1 (s : State) : KeepsOut 0x2000000003048 s (execPartnerPresence a0 a1 s) := by
  unfold execPartnerPresence
  extract_lets -merge +onlyGivenNames x1
  have h2 : Keeps 0x2000000003048 s x1 := (Keeps.step (atTime_keeps ..) rfl (Keeps.refl ..))
  clear_value x1
  extract_lets -merge +onlyGivenNames x3
  have h4 : Keeps 0x2000000003048 s x3 := (Keeps.setPair (.inr fun _ => rfl) rfl h2)
  clear_value x3
  exact (KeepsOut.ite (KeepsOut.done h4) (by
      split
      · exact (KeepsOut.ite (KeepsOut.done h4) (KeepsOut.done (Keeps.step (requestRole_keeps ..) rfl h4)))
      · exact (KeepsOut.done (Keeps.step (decideJoin_keeps ..) rfl h4))
      · exact (KeepsOut.done h4)))

theorem powerFail_keeps (s : State) : Keeps 0x2000008a01408 s (powerFail s) := by
  unfold powerFail
  exact (Keeps.ite (Keeps.refl ..) (by
      extract_lets -merge +onlyGivenNames x1
      have h2 : Keeps 0x2000008a01408 s x1 := (Keeps.step (setSlot_keeps ..) rfl (Keeps.refl ..))
      clear_value x1
      extract_lets -merge +onlyGivenNames x3
      have h4 : Keeps 0x2000008a01408 s x3 := (Keeps.step (powerFailFlush_keeps ..) rfl (Keeps.step (saveHoldover_keeps ..) rfl h2))
      clear_value x3
      exact (Keeps.upd_fbx_dpy rfl h4)))

theorem execPowerFailWarning_keeps a0 (s : State) : KeepsOut 0x2000008a01448 s (execPowerFailWarning a0 s) := by
  unfold execPowerFailWarning
  extract_lets -merge +onlyGivenNames x1
  have h2 : Keeps 0x2000008a01448 s x1 := (Keeps.step (atTime_keeps ..) rfl (Keeps.refl ..))
  clear_value x1
  exact (KeepsOut.ite (KeepsOut.done (Keeps.step (powerFail_keeps ..) rfl h2)) (KeepsOut.done h2))

theorem execStrapsChanged_keeps a0 a1 a2 a3 (s : State) : KeepsOut 0x2000100801048 s (execStrapsChanged a0 a1 a2 a3 s) := by
  unfold execStrapsChanged
  extract_lets -merge +onlyGivenNames x1
  have h2 : Keeps 0x2000100801048 s x1 := (Keeps.step (atTime_keeps ..) rfl (Keeps.refl ..))
  clear_value x1
  extract_lets -merge +onlyGivenNames x3
  have h4 : Keeps 0x2000100801048 s x3 := (Keeps.step (setSlot_keeps ..) rfl h2)
  clear_value x3
  exact (KeepsOut.ite (KeepsOut.done h4) (KeepsOut.done (Keeps.raise 0 rfl rfl rfl rfl h4)))

theorem execUncontrolledRemoval_keeps a0 (s : State) : KeepsOut 0x2400008a43448 s (execUncontrolledRemoval a0 s) := by
  unfold execUncontrolledRemoval
  extract_lets -merge +onlyGivenNames x1
  have h2 : Keeps 0x2400008a43448 s x1 := (Keeps.step (atTime_keeps ..) rfl (Keeps.refl ..))
  clear_value x1
  exact (KeepsOut.ite (KeepsOut.done h2) (by
      extract_lets -merge +onlyGivenNames x3
      have h4 : Keeps 0x2400008a43448 s x3 := (Keeps.step (recordBare_keeps ..) rfl (Keeps.step (powerFail_keeps ..) rfl h2))
      clear_value x3
      exact (KeepsOut.done (Keeps.setPair (.inr fun _ => rfl) rfl (Keeps.step (setLife_keeps ..) rfl (Keeps.step (setSlot_keeps ..) rfl h4))))))

theorem startForces_keeps (s : State) a1 : Keeps 0x22000000011008 s (startForces s a1) := by
  unfold startForces
  exact (Keeps.ite (Keeps.step (dropSafetyForces_keeps ..) rfl (Keeps.refl ..)) (Keeps.upd_frc rfl (Keeps.refl ..)))

theorem applyImage_keeps (s : State) a1 a2 : Keeps 0x2b0c500f2717e8 s (applyImage s a1 a2) := by
  unfold applyImage
  extract_lets -merge +onlyGivenNames x1 x2
  clear_value x1
  have h3 : Keeps 0x2b0c500f2717e8 s x2 := (Keeps.step (setUpd_keeps ..) rfl (Keeps.upd_cfg rfl (Keeps.refl ..)))
  clear_value x2
  extract_lets -merge +onlyGivenNames x4
  have h5 : Keeps 0x2b0c500f2717e8 s x4 := (Keeps.wr rfl (Keeps.wrField rfl (Keeps.step (showCopiesMem_keeps ..) rfl h3)))
  clear_value x4
  extract_lets -merge +onlyGivenNames x6
  have h7 : Keeps 0x2b0c500f2717e8 s x6 := (Keeps.step (setUpd_keeps ..) rfl h5)
  clear_value x6
  extract_lets -merge +onlyGivenNames x8
  have h9 : Keeps 0x2b0c500f2717e8 s x8 := (Keeps.step (startForces_keeps ..) rfl (Keeps.step (restoreRun_keeps ..) rfl h7))
  clear_value x8
  extract_lets -merge +onlyGivenNames x10
  have h11 : Keeps 0x2b0c500f2717e8 s x10 := (Keeps.step (dpyTables_keeps ..) rfl (Keeps.step (timStart_keeps ..) rfl (Keeps.step (gseSubscribe_keeps ..) rfl (Keeps.step (sviSubscribe_keeps ..) rfl (Keeps.step (peStart_keeps ..) rfl h9)))))
  clear_value x10
  exact (Keeps.foldl h11 fun _ _ hu12 => (Keeps.step (diStart_keeps ..) rfl hu12))

theorem enterGuard_keeps (s : State) : Keeps 0xb400008043008 s (enterGuard s) := by
  unfold enterGuard
  extract_lets -merge +onlyGivenNames x1
  have h2 : Keeps 0xb400008043008 s x1 := (Keeps.step (recoverRecorder_keeps ..) rfl (Keeps.step (enterStage_keeps ..) rfl (Keeps.refl ..)))
  clear_value x1
  extract_lets -merge +onlyGivenNames x3
  have h4 : Keeps 0xb400008043008 s x3 := (Keeps.setPair (.inr fun _ => rfl) rfl h2)
  clear_value x3
  extract_lets -merge +onlyGivenNames x5
  have h6 : Keeps 0xb400008043008 s x5 := (Keeps.step (recordBare_keeps ..) rfl h4)
  clear_value x5
  exact (Keeps.step (dpyStart_keeps ..) rfl (Keeps.step (dpyTables_keeps ..) rfl (Keeps.ite h6 (Keeps.step (setLife_keeps ..) rfl h6))))

theorem readStraps_keeps (s : State) : Keeps 0xb400008843008 s (readStraps s) := by
  unfold readStraps
  extract_lets -merge +onlyGivenNames x1
  have h2 : Keeps 0xb400008843008 s x1 := (Keeps.step (setSlot_keeps ..) rfl (Keeps.refl ..))
  clear_value x1
  exact (Keeps.ite h2 (Keeps.step (enterGuard_keeps ..) rfl h2))

theorem carryOver_keeps (s : State) : Keeps 0x7FFFFFFFFFFFFE s (carryOver s) := by
  refine ⟨fun p hp => ?_, fun _ => ⟨rfl, rfl, Nat.zero_le _, Nat.zero_le _⟩⟩
  cases p with
  | pending => rfl
  | regs b =>
    intro hb
    have hall : ∀ c : Fin 23, (0x7FFFFFFFFFFFFE : Nat).testBit (32 + c.val) = true := by decide
    rw [Part.bit, hall ⟨b, Nat.lt_succ_of_le hb⟩] at hp
    cases hp
  | _ => exact absurd hp (by decide)

theorem flushOut_keeps (s : State) : Keeps 0x1000 s (flushOut s) :=
  Keeps.upd_rcd (fun _ => Nat.zero_le _) rfl (Keeps.refl ..)

theorem beginStart_keeps (s : State) a1 : Keeps 0x7ffffffffffffe s (beginStart s a1) := by
  unfold beginStart
  extract_lets -merge +onlyGivenNames x1
  have h2 : Keeps 0x7ffffffffffffe s x1 := (Keeps.step (carryOver_keeps ..) rfl (Keeps.ite (Keeps.refl ..) (Keeps.step (flushOut_keeps ..) rfl (Keeps.refl ..))))
  clear_value x1
  extract_lets -merge +onlyGivenNames x3 x4 x5 x6 x7 x8
  clear_value x3 x5 x6 x7
  have h9 : Keeps 0x7ffffffffffffe s x8 := (Keeps.upd_freeN_pair_upd_hlt_slot (.inr rfl) rfl h2)
  clear_value x8
  extract_lets -merge +onlyGivenNames x10
  have h11 : Keeps 0x7ffffffffffffe s x10 := (Keeps.wrField rfl (Keeps.wrField rfl h9))
  clear_value x10
  exact (Keeps.ite (Keeps.step (readStraps_keeps ..) rfl h11) h11)

theorem enterRecovery_keeps (s : State) : Keeps 0x8000000022000 s (enterRecovery s) := by
  unfold enterRecovery
  exact (Keeps.setPair (.inr fun _ => rfl) rfl (Keeps.step (setUpd_keeps ..) rfl (Keeps.step (enterStage_keeps ..) rfl (Keeps.refl ..))))

theorem restartCmd_keeps (s : State) a1 a2 : Keeps 0x600001806380a s (restartCmd s a1 a2) := by
  unfold restartCmd
  exact (Keeps.keyed rfl (Keeps.refl ..) (fun _ hu1 => (Keeps.ite hu1 (Keeps.ite (Keeps.step (refuse_keeps ..) rfl hu1) (Keeps.ite (Keeps.step (refuse_keeps ..) rfl hu1) (by
            extract_lets -merge +onlyGivenNames x2
            have h3 : Keeps 0x600001806380a s x2 := (Keeps.step (setUpd_keeps ..) rfl (Keeps.step (accepted_keeps ..) rfl hu1))
            clear_value x2
            exact (Keeps.step (leaveForRestart_keeps ..) rfl (Keeps.step (startFlush_keeps ..) rfl (Keeps.step (wantFinal_keeps ..) rfl h3)))))))))

theorem execColdRestart_keeps a0 (s : State) : KeepsOut 0x600001806380a s (execColdRestart a0 s) := by
  unfold execColdRestart
  exact (KeepsOut.done (Keeps.step (restartCmd_keeps ..) rfl (Keeps.refl ..)))

theorem execConfigureComplete_keeps a0 a1 (s : State) : KeepsOut 0x2b0c500f2737e8 s (execConfigureComplete a0 a1 s) := by
  unfold execConfigureComplete
  extract_lets -merge +onlyGivenNames x1
  have h2 : Keeps 0x2b0c500f2737e8 s x1 := (Keeps.step (atTime_keeps ..) rfl (Keeps.refl ..))
  clear_value x1
  exact (KeepsOut.ite (KeepsOut.done h2) (by
      extract_lets -merge +onlyGivenNames x3 x4 x5
      clear_value x3 x4 x5
      exact (KeepsOut.ite (KeepsOut.done (Keeps.step (stopStart_keeps ..) rfl h2)) (by
          extract_lets -merge +onlyGivenNames x6 x7
          clear_value x6
          have h8 : Keeps 0x2b0c500f2737e8 s x7 := (Keeps.ite (Keeps.ite (Keeps.step (recordBare_keeps ..) rfl h2) h2) h2)
          clear_value x7
          extract_lets -merge +onlyGivenNames x9
          clear_value x9
          exact (KeepsOut.ite (KeepsOut.done (Keeps.step (stopStart_keeps ..) rfl (Keeps.step (showCopiesMem_keeps ..) rfl h8))) (KeepsOut.ite (KeepsOut.done (Keeps.step (stopStart_keeps ..) rfl (Keeps.step (showCopiesMem_keeps ..) rfl h8))) (KeepsOut.ite (KeepsOut.done (Keeps.step (stopStart_keeps ..) rfl (Keeps.step (showCopiesMem_keeps ..) rfl h8))) (KeepsOut.done (Keeps.step (enterJoin_keeps ..) rfl (Keeps.step (applyImage_keeps ..) rfl h8))))))))))

theorem execCritCooldownEnd_keeps a0 (s : State) : KeepsOut 0x1a400000441048 s (execCritCooldownEnd a0 s) := by
  unfold execCritCooldownEnd
  extract_lets -merge +onlyGivenNames x1
  have h2 : Keeps 0x1a400000441048 s x1 := (Keeps.step (atTime_keeps ..) rfl (Keeps.refl ..))
  clear_value x1
  extract_lets -merge +onlyGivenNames x3
  clear_value x3
  exact (KeepsOut.ite (KeepsOut.done (Keeps.step (setLife_keeps ..) rfl (Keeps.step (enterStage_keeps ..) rfl (Keeps.wrField rfl (Keeps.step (setHlt_keeps ..) rfl h2))))) (KeepsOut.done h2))

theorem useStage1_keeps (s : State) a1 : Keeps 0x8004003020020 s (useStage1 s a1) := by
  unfold useStage1
  extract_lets -merge +onlyGivenNames x1 x2
  clear_value x1
  have h3 : Keeps 0x8004003020020 s x2 := (Keeps.step (setUpd_keeps ..) rfl (Keeps.upd_cfg rfl (Keeps.refl ..)))
  clear_value x2
  exact (Keeps.step (peGuard_keeps ..) rfl (Keeps.step (sviSubscribe_keeps ..) rfl (Keeps.wr rfl h3)))

theorem execGuardReady_keeps a0 (s : State) : KeepsOut 0xa004003023068 s (execGuardReady a0 s) := by
  unfold execGuardReady
  extract_lets -merge +onlyGivenNames x1
  have h2 : Keeps 0xa004003023068 s x1 := (Keeps.step (atTime_keeps ..) rfl (Keeps.refl ..))
  clear_value x1
  exact (KeepsOut.ite (KeepsOut.done h2) (by
      extract_lets -merge +onlyGivenNames x3 x4
      clear_value x3
      have h5 : Keeps 0xa004003023068 s x4 := (Keeps.ite (Keeps.step (recordBare_keeps ..) rfl h2) (Keeps.step (useStage1_keeps ..) rfl h2))
      clear_value x4
      exact (KeepsOut.ite (KeepsOut.done (Keeps.step (enterRecovery_keeps ..) rfl (Keeps.wrField rfl h5))) (KeepsOut.ite (KeepsOut.done h5) (KeepsOut.done (Keeps.step (enterStage_keeps ..) rfl h5))))))

theorem execHoldEnd_keeps a0 (s : State) : KeepsOut 0xb400008843048 s (execHoldEnd a0 s) := by
  unfold execHoldEnd
  extract_lets -merge +onlyGivenNames x1
  have h2 : Keeps 0xb400008843048 s x1 := (Keeps.step (atTime_keeps ..) rfl (Keeps.refl ..))
  clear_value x1
  exact (KeepsOut.ite (KeepsOut.done (Keeps.step (readStraps_keeps ..) rfl h2)) (KeepsOut.done h2))

theorem losePower_keeps (s : State) : Keeps 0x7ffffffffffffe s (losePower s) := by
  unfold losePower
  extract_lets -merge +onlyGivenNames x1 x2
  clear_value x1
  have h3 : Keeps 0x7ffffffffffffe s x2 := (Keeps.step (carryOver_keeps ..) rfl (Keeps.upd_upd rfl (Keeps.refl ..)))
  clear_value x2
  exact (Keeps.upd_pair_hlt_slot (.inr rfl) rfl h3)

theorem execHoldUpEnd_keeps a0 (s : State) : KeepsOut 0x7ffffffffffffe s (execHoldUpEnd a0 s) := by
  unfold execHoldUpEnd
  extract_lets -merge +onlyGivenNames x1
  have h2 : Keeps 0x7ffffffffffffe s x1 := (Keeps.step (atTime_keeps ..) rfl (Keeps.refl ..))
  clear_value x1
  exact (KeepsOut.ite (KeepsOut.done (Keeps.step (losePower_keeps ..) rfl h2)) (KeepsOut.done h2))

theorem skippedSlots_keeps (s : State) : Keeps 0x2000000001008 s (skippedSlots s) := by
  unfold skippedSlots
  exact (Keeps.foldl (Keeps.refl ..) fun _ _ hu1 => (by
      extract_lets -merge +onlyGivenNames x2
      try clear_value x2
      exact (Keeps.ite (Keeps.step (recordBare_keeps ..) rfl hu1) hu1)))

theorem execLoadComplete_keeps a0 a1 a2 (s : State) : KeepsOut 0xb000108023848 s (execLoadComplete a0 a1 a2 s) := by
  unfold execLoadComplete
  extract_lets -merge +onlyGivenNames x1
  have h2 : Keeps 0xb000108023848 s x1 := (Keeps.step (atTime_keeps ..) rfl (Keeps.refl ..))
  clear_value x1
  exact (KeepsOut.ite (KeepsOut.done h2) (by
      extract_lets -merge +onlyGivenNames x3
      have h4 : Keeps 0xb000108023848 s x3 := (Keeps.step (skippedSlots_keeps ..) rfl (Keeps.step (installStaged_keeps ..) rfl h2))
      clear_value x3
      exact (by
        split
        · exact (KeepsOut.done (Keeps.step (enterRecovery_keeps ..) rfl (Keeps.wrField rfl h4)))
        · exact (by
            extract_lets -merge +onlyGivenNames x5
            have h6 : Keeps 0xb000108023848 s x5 := (Keeps.step (dpyTables_keeps ..) rfl (Keeps.step (bootSlot_keeps ..) rfl h4))
            clear_value x5
            extract_lets -merge +onlyGivenNames x7 x8
            clear_value x7
            have h9 : Keeps 0xb000108023848 s x8 := (Keeps.upd_acc rfl h6)
            clear_value x8
            exact (KeepsOut.ite (KeepsOut.done (Keeps.step (stopStart_keeps ..) rfl h9)) (KeepsOut.done (Keeps.step (enterStage_keeps ..) rfl h9)))))))

theorem execModuleStart_keeps a0 (s : State) : KeepsOut 0x7ffffffffffffe s (execModuleStart a0 s) := by
  unfold execModuleStart
  extract_lets -merge +onlyGivenNames x1
  have h2 : Keeps 0x7ffffffffffffe s x1 := (Keeps.step (atTime_keeps ..) rfl (Keeps.refl ..))
  clear_value x1
  exact (by
    split
    · exact (KeepsOut.done (Keeps.step (beginStart_keeps ..) rfl h2))
    · exact (KeepsOut.done h2))

theorem execSafeStateRestart_keeps a0 (s : State) : KeepsOut 0x7ffffffffffffe s (execSafeStateRestart a0 s) := by
  unfold execSafeStateRestart
  extract_lets -merge +onlyGivenNames x1
  have h2 : Keeps 0x7ffffffffffffe s x1 := (Keeps.step (atTime_keeps ..) rfl (Keeps.refl ..))
  clear_value x1
  exact (KeepsOut.ite (KeepsOut.done (Keeps.step (beginStart_keeps ..) rfl h2)) (KeepsOut.done h2))

theorem execStrapRetry_keeps a0 (s : State) : KeepsOut 0xb400008843048 s (execStrapRetry a0 s) := by
  unfold execStrapRetry
  extract_lets -merge +onlyGivenNames x1
  have h2 : Keeps 0xb400008843048 s x1 := (Keeps.step (atTime_keeps ..) rfl (Keeps.refl ..))
  clear_value x1
  exact (KeepsOut.ite (KeepsOut.done (Keeps.step (readStraps_keeps ..) rfl h2)) (KeepsOut.done h2))

theorem execThermalTrip_keeps a0 (s : State) : KeepsOut 0x7ffffffffffffe s (execThermalTrip a0 s) := by
  unfold execThermalTrip
  extract_lets -merge +onlyGivenNames x1
  have h2 : Keeps 0x7ffffffffffffe s x1 := (Keeps.step (atTime_keeps ..) rfl (Keeps.refl ..))
  clear_value x1
  exact (KeepsOut.ite (KeepsOut.done (Keeps.step (setHlt_keeps ..) rfl (Keeps.step (losePower_keeps ..) rfl h2))) (KeepsOut.done h2))

theorem execWarmRestart_keeps a0 (s : State) : KeepsOut 0x600001806380a s (execWarmRestart a0 s) := by
  unfold execWarmRestart
  exact (KeepsOut.done (Keeps.step (restartCmd_keeps ..) rfl (Keeps.refl ..)))

end Sys2Proof.Machine
end

