-- ==== Sys2Proof/Laws/KeepsRegisters.lean ====
section
/-! SUPPORT. What each operation of Registers can change: one lemma for each (Laws/Keeps.lean says what Keeps means).
The mask names the parts by Part.bit. -/

namespace Sys2Proof.Machine

open Sys2Proof

theorem Keeps.readPair {M : Nat} {s t : State} {lo hi g : Nat} (h1 : M.testBit (32 + blockOf lo) = true)
    (h2 : M.testBit (32 + blockOf hi) = true) (hm : (0x2 &&& M) = 0x2) (k : Keeps M s t) : Keeps M s (readPair t lo hi g) :=
  Keeps.step (answer_keeps ..) hm (Keeps.wr h2 (Keeps.wr h1 k))

theorem readSerial_keeps (s : State) : Keeps 0x100000002 s (readSerial s) := by
  unfold readSerial
  exact (Keeps.readPair rfl rfl rfl (Keeps.refl ..))

theorem execDevSerLo_keeps (s : State) : KeepsOut 0x100000002 s (execDevSerLo s) := by
  unfold execDevSerLo
  exact (KeepsOut.done (Keeps.step (readSerial_keeps ..) rfl (Keeps.refl ..)))

theorem readUptime_keeps (s : State) : Keeps 0x100000002 s (readUptime s) := by
  unfold readUptime
  exact (Keeps.readPair rfl rfl rfl (Keeps.refl ..))

theorem execDevUptimeLo_keeps (s : State) : KeepsOut 0x100000002 s (execDevUptimeLo s) := by
  unfold execDevUptimeLo
  exact (KeepsOut.done (Keeps.step (readUptime_keeps ..) rfl (Keeps.refl ..)))

theorem execFrmFnumLo_keeps (s : State) : KeepsOut 0x200000002 s (execFrmFnumLo s) := by
  unfold execFrmFnumLo
  exact (KeepsOut.done (Keeps.readPair rfl rfl rfl (Keeps.refl ..)))

theorem execFrmSecLo_keeps (s : State) : KeepsOut 0x200000002 s (execFrmSecLo s) := by
  unfold execFrmSecLo
  extract_lets -merge +onlyGivenNames x1 x2
  clear_value x1 x2
  exact (KeepsOut.done (Keeps.readPair rfl rfl rfl (Keeps.wr rfl (Keeps.refl ..))))

theorem execI2cRead_keeps a0 (s : State) : KeepsOut 0x100000002 s (execI2cRead a0 s) := by
  unfold execI2cRead
  exact (KeepsOut.ite (KeepsOut.done (Keeps.step (readSerial_keeps ..) rfl (Keeps.refl ..))) (KeepsOut.ite (KeepsOut.done (Keeps.step (readUptime_keeps ..) rfl (Keeps.refl ..))) (by
        split
        · exact (KeepsOut.done (Keeps.step (answer_keeps ..) rfl (Keeps.refl ..)))
        · exact (KeepsOut.done (Keeps.step (answer_keeps ..) rfl (Keeps.refl ..))))))

theorem execPairHmLo_keeps (s : State) : KeepsOut 0x8000000002 s (execPairHmLo s) := by
  unfold execPairHmLo
  extract_lets -merge +onlyGivenNames x1
  clear_value x1
  exact (KeepsOut.done (Keeps.readPair rfl rfl rfl (Keeps.wr rfl (Keeps.wr rfl (Keeps.refl ..)))))

theorem execPairRoleSinceLo_keeps (s : State) : KeepsOut 0x8000000002 s (execPairRoleSinceLo s) := by
  unfold execPairRoleSinceLo
  exact (KeepsOut.done (Keeps.readPair rfl rfl rfl (Keeps.refl ..)))

theorem Keeps.readWithOf {M : Nat} {s t : State} {a aux b c : Nat} {v w : Word} (ha : blockOf a = b) (hx : blockOf aux = c)
    (h1 : M.testBit (32 + b) = true) (h2 : M.testBit (32 + c) = true) (hm : (0x2 &&& M) = 0x2) (k : Keeps M s t) :
    Keeps M s (readWith t a aux v w) := Keeps.step (answer_keeps ..) hm (Keeps.wrOf hx h2 (Keeps.wrOf ha h1 k))

theorem Keeps.readWith {M : Nat} {s t : State} {a aux : Nat} {v w : Word} (h1 : M.testBit (32 + blockOf a) = true)
    (h2 : M.testBit (32 + blockOf aux) = true) (hm : (0x2 &&& M) = 0x2) (k : Keeps M s t) : Keeps M s (readWith t a aux v w) :=
  Keeps.step (answer_keeps ..) hm (Keeps.wr h2 (Keeps.wr h1 k))

theorem execPeOutVal_keeps a0 (s : State) : KeepsOut 0x2000000002 s (execPeOutVal a0 s) := by
  unfold execPeOutVal
  exact (KeepsOut.ite (KeepsOut.done (Keeps.refl ..)) (KeepsOut.done (Keeps.readWithOf (Reg.PE_OUT_VAL_block ..) (Reg.PE_OUT_AUX_block ..) rfl rfl rfl (Keeps.refl ..))))

theorem execSigDirLo_keeps (s : State) : KeepsOut 0x400000002 s (execSigDirLo s) := by
  unfold execSigDirLo
  exact (KeepsOut.done (Keeps.readPair rfl rfl rfl (Keeps.refl ..)))

theorem execSigVal_keeps (s : State) : KeepsOut 0x400000002 s (execSigVal s) := by
  unfold execSigVal
  exact (KeepsOut.done (Keeps.readWith rfl rfl rfl (Keeps.refl ..)))

theorem execSviChVal_keeps (s : State) : KeepsOut 0x4000000002 s (execSviChVal s) := by
  unfold execSviChVal
  exact (KeepsOut.done (Keeps.readWith rfl rfl rfl (Keeps.refl ..)))

theorem execTimMonoLo_keeps (s : State) : KeepsOut 0x80000000002 s (execTimMonoLo s) := by
  unfold execTimMonoLo
  exact (KeepsOut.done (Keeps.readPair rfl rfl rfl (Keeps.refl ..)))

theorem execTimNowSlo_keeps (s : State) : KeepsOut 0x80000000002 s (execTimNowSlo s) := by
  unfold execTimNowSlo
  exact (KeepsOut.done (Keeps.readPair rfl rfl rfl (Keeps.wr rfl (Keeps.refl ..))))

theorem execTimPtpGmLo_keeps (s : State) : KeepsOut 0x80000000002 s (execTimPtpGmLo s) := by
  unfold execTimPtpGmLo
  exact (KeepsOut.done (Keeps.readPair rfl rfl rfl (Keeps.refl ..)))

theorem giveCode_keeps (s : State) a1 : Keeps 0x4000 s (giveCode s a1) := by
  unfold giveCode
  exact (Keeps.ite (Keeps.step (setSmm_keeps ..) rfl (Keeps.refl ..)) (Keeps.refl ..))

theorem execRegisterWrite_keeps {M : Nat} reg len c (s : State) (hm : (0x600001000580A &&& M) = 0x600001000580A)
    (hb : M.testBit (32 + blockOf reg) = true) : KeepsOut M s (execRegisterWrite reg len c s) := by
  have sub : ∀ {m : Nat}, (m &&& 0x600001000580A) = m → (m &&& M) = m := fun h => by
    rw [← h, Nat.and_assoc, hm]
  have hset : ∀ {u : State} {k : Word}, Keeps M s u → Keeps M s (writeSettings u reg k c) := fun h => by
    unfold writeSettings
    split
    · exact h
    · exact Keeps.step (settingWritten_keeps ..) (sub rfl) (Keeps.wr hb h)
  have hclr : ∀ {u : State} {k : Word}, Keeps M s u → Keeps M s (writeClears u reg k c) := fun h => by
    unfold writeClears
    split
    · exact h
    · exact Keeps.wr hb h
  unfold execRegisterWrite
  refine KeepsOut.ite (KeepsOut.done (Keeps.step (answer_keeps ..) (sub rfl) (Keeps.refl ..)))
    (KeepsOut.done (Keeps.written (sub rfl) (Keeps.refl ..) fun u hu => ?_))
  refine Keeps.ite (Keeps.step (answer_keeps ..) (sub rfl) hu) ?_
  split
  · exact hu
  · unfold writeRow
    exact Keeps.ite (Keeps.step (giveCode_keeps ..) (sub rfl) hu) (Keeps.ite hu (hclr (hset hu)))

end Sys2Proof.Machine
end

