-- ==== Sys2Proof/Laws/PerInstr.lean ====
section
/-! SUPPORT. For every row of the table: the hardware can receive a command of it (WellFormed rules no row out). -/

namespace Sys2Proof.Laws.Receivable

open Sys2Proof.Machine

/-- Some well-formed command is of the row of i. -/
def Statement (i : Instr) : Prop := ∃ j : Instr, j.wf = true ∧ j.ctorIdx = i.ctorIdx

theorem registerWrite (reg : Nat) (len : Nat) (c : Cmd) : Statement (.registerWrite reg len c) := ⟨(.registerWrite 0 4 c), rfl, rfl⟩
theorem frameFreeze (t : Nat) : Statement (.frameFreeze t) := ⟨(.frameFreeze t), rfl, rfl⟩
theorem frameCompute (t : Nat) : Statement (.frameCompute t) := ⟨(.frameCompute t), rfl, rfl⟩
theorem acSlotStart (core : Nat) (t : Nat) : Statement (.acSlotStart core t) := ⟨(.acSlotStart 0 t), rfl, rfl⟩
theorem classEnd (eng : Nat) (stream : Nat) (t : Nat) : Statement (.classEnd eng stream t) := ⟨(.classEnd 0 0 t), rfl, rfl⟩
theorem budgetExhausted (part : Nat) (t : Nat) : Statement (.budgetExhausted part t) := ⟨(.budgetExhausted 0 t), rfl, rfl⟩
theorem frameSeal (t : Nat) : Statement (.frameSeal t) := ⟨(.frameSeal t), rfl, rfl⟩
theorem frameCommit (t : Nat) : Statement (.frameCommit t) := ⟨(.frameCommit t), rfl, rfl⟩
theorem backgroundSelfTest (e : Nat) (r : TestReport) : Statement (.backgroundSelfTest e r) := ⟨(.backgroundSelfTest 0 r), rfl, rfl⟩
theorem fullSelfTest (e : Nat) (r : TestReport) : Statement (.fullSelfTest e r) := ⟨(.fullSelfTest 0 r), rfl, rfl⟩
theorem slewDone : Statement .slewDone := ⟨.slewDone, rfl, rfl⟩
theorem partResume (c : Cmd) : Statement (.partResume c) := ⟨(.partResume c), rfl, rfl⟩
theorem promptMinpulseEnd (key : Nat) (t : Nat) : Statement (.promptMinpulseEnd key t) := ⟨(.promptMinpulseEnd key t), rfl, rfl⟩
theorem leLd (st : LeStep) : Statement (.leLd st) := ⟨(.leLd { st with eng := 0, stream := 0 }), rfl, rfl⟩
theorem leLdn (st : LeStep) : Statement (.leLdn st) := ⟨(.leLdn { st with eng := 0, stream := 0 }), rfl, rfl⟩
theorem leLdl (st : LeStep) : Statement (.leLdl st) := ⟨(.leLdl { st with eng := 0, stream := 0 }), rfl, rfl⟩
theorem leAnd (st : LeStep) : Statement (.leAnd st) := ⟨(.leAnd { st with eng := 0, stream := 0 }), rfl, rfl⟩
theorem leAndn (st : LeStep) : Statement (.leAndn st) := ⟨(.leAndn { st with eng := 0, stream := 0 }), rfl, rfl⟩
theorem leOr (st : LeStep) : Statement (.leOr st) := ⟨(.leOr { st with eng := 0, stream := 0 }), rfl, rfl⟩
theorem leOrn (st : LeStep) : Statement (.leOrn st) := ⟨(.leOrn { st with eng := 0, stream := 0 }), rfl, rfl⟩
theorem leXor (st : LeStep) : Statement (.leXor st) := ⟨(.leXor { st with eng := 0, stream := 0 }), rfl, rfl⟩
theorem leXorn (st : LeStep) : Statement (.leXorn st) := ⟨(.leXorn { st with eng := 0, stream := 0 }), rfl, rfl⟩
theorem leBop (st : LeStep) : Statement (.leBop st) := ⟨(.leBop { st with eng := 0, stream := 0 }), rfl, rfl⟩
theorem leBcl (st : LeStep) : Statement (.leBcl st) := ⟨(.leBcl { st with eng := 0, stream := 0 }), rfl, rfl⟩
theorem leSt (st : LeStep) : Statement (.leSt st) := ⟨(.leSt { st with eng := 0, stream := 0 }), rfl, rfl⟩
theorem leStn (st : LeStep) : Statement (.leStn st) := ⟨(.leStn { st with eng := 0, stream := 0 }), rfl, rfl⟩
theorem leSet (st : LeStep) : Statement (.leSet st) := ⟨(.leSet { st with eng := 0, stream := 0 }), rfl, rfl⟩
theorem leRst (st : LeStep) : Statement (.leRst st) := ⟨(.leRst { st with eng := 0, stream := 0 }), rfl, rfl⟩
theorem leRedg (st : LeStep) : Statement (.leRedg st) := ⟨(.leRedg { st with eng := 0, stream := 0 }), rfl, rfl⟩
theorem leFedg (st : LeStep) : Statement (.leFedg st) := ⟨(.leFedg { st with eng := 0, stream := 0 }), rfl, rfl⟩
theorem leTon (st : LeStep) : Statement (.leTon st) := ⟨(.leTon { st with eng := 0, stream := 0 }), rfl, rfl⟩
theorem leTof (st : LeStep) : Statement (.leTof st) := ⟨(.leTof { st with eng := 0, stream := 0 }), rfl, rfl⟩
theorem leTp (st : LeStep) : Statement (.leTp st) := ⟨(.leTp { st with eng := 0, stream := 0 }), rfl, rfl⟩
theorem leCtu (st : LeStep) : Statement (.leCtu st) := ⟨(.leCtu { st with eng := 0, stream := 0 }), rfl, rfl⟩
theorem leCtd (st : LeStep) : Statement (.leCtd st) := ⟨(.leCtd { st with eng := 0, stream := 0 }), rfl, rfl⟩
theorem leCtl (st : LeStep) : Statement (.leCtl st) := ⟨(.leCtl { st with eng := 0, stream := 0 }), rfl, rfl⟩
theorem leTstd (st : LeStep) : Statement (.leTstd st) := ⟨(.leTstd { st with eng := 0, stream := 0 }), rfl, rfl⟩
theorem leStro (st : LeStep) : Statement (.leStro st) := ⟨(.leStro { st with eng := 0, stream := 0 }), rfl, rfl⟩
theorem leFrcd (st : LeStep) : Statement (.leFrcd st) := ⟨(.leFrcd { st with eng := 0, stream := 0 }), rfl, rfl⟩
theorem leSkip (st : LeStep) : Statement (.leSkip st) := ⟨(.leSkip { st with eng := 0, stream := 0 }), rfl, rfl⟩
theorem leEnd (st : LeStep) : Statement (.leEnd st) := ⟨(.leEnd { st with eng := 0, stream := 0 }), rfl, rfl⟩
theorem leIllegal (st : LeStep) : Statement (.leIllegal st) := ⟨(.leIllegal { st with eng := 0, stream := 0 }), rfl, rfl⟩
theorem modeRequest (e : Nat) (c : Cmd) : Statement (.modeRequest e c) := ⟨(.modeRequest 0 c), rfl, rfl⟩
theorem leClrCnt (e : Nat) (c : Cmd) : Statement (.leClrCnt e c) := ⟨(.leClrCnt 0 c), rfl, rfl⟩
theorem debugOpen (e : Nat) (c : Cmd) : Statement (.debugOpen e c) := ⟨(.debugOpen 0 c), rfl, rfl⟩
theorem debugHalt (e : Nat) (c : Cmd) : Statement (.debugHalt e c) := ⟨(.debugHalt 0 c), rfl, rfl⟩
theorem debugStep (st : LeStep) : Statement (.debugStep st) := ⟨(.debugStep { st with eng := 0, stream := 0 }), rfl, rfl⟩
theorem debugResume (e : Nat) (c : Cmd) (t : Nat) : Statement (.debugResume e c t) := ⟨(.debugResume 0 c t), rfl, rfl⟩
theorem debugWrite (e : Nat) (c : Cmd) : Statement (.debugWrite e c) := ⟨(.debugWrite 0 c), rfl, rfl⟩
theorem frameNow (core : Nat) : Statement (.frameNow core) := ⟨(.frameNow 0), rfl, rfl⟩
theorem taiFreeze (core : Nat) : Statement (.taiFreeze core) := ⟨(.taiFreeze 0), rfl, rfl⟩
theorem monoNow (core : Nat) : Statement (.monoNow core) := ⟨(.monoNow 0), rfl, rfl⟩
theorem sqRead (core : Nat) (ep : Nat) : Statement (.sqRead core ep) := ⟨(.sqRead 0 0), rfl, rfl⟩
theorem tgRead (core : Nat) (t : Nat) : Statement (.tgRead core t) := ⟨(.tgRead 0 t), rfl, rfl⟩
theorem tgReadStallEnd (core : Nat) (t : Nat) : Statement (.tgReadStallEnd core t) := ⟨(.tgReadStallEnd 0 t), rfl, rfl⟩
theorem tgDrop (core : Nat) : Statement (.tgDrop core) := ⟨(.tgDrop 0), rfl, rfl⟩
theorem recEvent (core : Nat) (sev : Nat) (ps : List Word) : Statement (.recEvent core sev ps) := ⟨(.recEvent 0 0 ps), rfl, rfl⟩
theorem hartReq (core : Nat) (ch : Nat) (cmd : Nat) (data : List Byte) (t : Nat) : Statement (.hartReq core ch cmd data t) := ⟨(.hartReq 0 0 0 data t), rfl, rfl⟩
theorem acStore (core : Nat) (op : AcOp) (raises : Option Nat) (addr : Nat) (t : Nat) : Statement (.acStore core op raises addr t) := ⟨(.acStore 0 op raises addr t), rfl, rfl⟩
theorem rollbackEnd (core : Nat) : Statement (.rollbackEnd core) := ⟨(.rollbackEnd 0), rfl, rfl⟩
theorem servicePreempt (core : Nat) (t : Nat) : Statement (.servicePreempt core t) := ⟨(.servicePreempt 0 t), rfl, rfl⟩
theorem fbxClrCnt (c : Cmd) : Statement (.fbxClrCnt c) := ⟨(.fbxClrCnt c), rfl, rfl⟩
theorem warmRestart (c : Cmd) : Statement (.warmRestart c) := ⟨(.warmRestart c), rfl, rfl⟩
theorem coldRestart (c : Cmd) : Statement (.coldRestart c) := ⟨(.coldRestart c), rfl, rfl⟩
theorem svMessage (m : SvMsg) (t : Nat) : Statement (.svMessage m t) := ⟨(.svMessage m t), rfl, rfl⟩
theorem sampleTick (env : List (Nat × PassEnv)) (t : Nat) : Statement (.sampleTick env t) := ⟨(.sampleTick env t), rfl, rfl⟩
theorem streamLossTimeout (k : Nat) (t : Nat) : Statement (.streamLossTimeout k t) := ⟨(.streamLossTimeout 0 t), rfl, rfl⟩
theorem streamErrorTimeout (k : Nat) (t : Nat) : Statement (.streamErrorTimeout k t) := ⟨(.streamErrorTimeout 0 t), rfl, rfl⟩
theorem sviClrCnt (c : Cmd) : Statement (.sviClrCnt c) := ⟨(.sviClrCnt c), rfl, rfl⟩
theorem pePassOverrun (e : Nat) (t : Nat) : Statement (.pePassOverrun e t) := ⟨(.pePassOverrun 0 t), rfl, rfl⟩
theorem pePostDeadline (e : Nat) (t : Nat) : Statement (.pePostDeadline e t) := ⟨(.pePostDeadline 0 t), rfl, rfl⟩
theorem peClrCnt (e : Nat) (c : Cmd) : Statement (.peClrCnt e c) := ⟨(.peClrCnt 0 c), rfl, rfl⟩
theorem olcLoad (session : Nat) (img : Image) (map : List MapEnt) (kib : Nat) : Statement (.olcLoad session img map kib) := ⟨(.olcLoad session img map kib), rfl, rfl⟩
theorem olcVerify (ok : Bool) (crc : Word) : Statement (.olcVerify ok crc) := ⟨(.olcVerify ok crc), rfl, rfl⟩
theorem olcArm (c : Cmd) : Statement (.olcArm c) := ⟨(.olcArm c), rfl, rfl⟩
theorem olcDisarm (c : Cmd) : Statement (.olcDisarm c) := ⟨(.olcDisarm c), rfl, rfl⟩
theorem olcAbort (c : Cmd) : Statement (.olcAbort c) := ⟨(.olcAbort c), rfl, rfl⟩
theorem olcRevert (c : Cmd) : Statement (.olcRevert c) := ⟨(.olcRevert c), rfl, rfl⟩
theorem olcAccept (c : Cmd) : Statement (.olcAccept c) := ⟨(.olcAccept c), rfl, rfl⟩
theorem olcCommit (t : Nat) : Statement (.olcCommit t) := ⟨(.olcCommit t), rfl, rfl⟩
theorem revertEffect (t : Nat) : Statement (.revertEffect t) := ⟨(.revertEffect t), rfl, rfl⟩
theorem olcWindowExpiry (t : Nat) : Statement (.olcWindowExpiry t) := ⟨(.olcWindowExpiry t), rfl, rfl⟩
theorem persistStepEnd (t : Nat) : Statement (.persistStepEnd t) := ⟨(.persistStepEnd t), rfl, rfl⟩
theorem forceSet (c : Cmd) : Statement (.forceSet c) := ⟨(.forceSet c), rfl, rfl⟩
theorem forceRelease (c : Cmd) : Statement (.forceRelease c) := ⟨(.forceRelease c), rfl, rfl⟩
theorem forceReleaseAll (c : Cmd) : Statement (.forceReleaseAll c) := ⟨(.forceReleaseAll c), rfl, rfl⟩
theorem forceEffect (t : Nat) : Statement (.forceEffect t) := ⟨(.forceEffect t), rfl, rfl⟩
theorem forceExpiry (t : Nat) : Statement (.forceExpiry t) := ⟨(.forceExpiry t), rfl, rfl⟩
theorem grantLineChange (l : ClaspLines) (t : Nat) : Statement (.grantLineChange l t) := ⟨(.grantLineChange l t), rfl, rfl⟩
theorem killLineChange (l : ClaspLines) (t : Nat) : Statement (.killLineChange l t) := ⟨(.killLineChange l t), rfl, rfl⟩
theorem killQualified (t : Nat) : Statement (.killQualified t) := ⟨(.killQualified t), rfl, rfl⟩
theorem claspFail (cause : Nat) (t : Nat) : Statement (.claspFail cause t) := ⟨(.claspFail cause t), rfl, rfl⟩
theorem claspFailClear (t : Nat) : Statement (.claspFailClear t) := ⟨(.claspFailClear t), rfl, rfl⟩
theorem takeover (gap : Nat) (t : Nat) : Statement (.takeover gap t) := ⟨(.takeover gap t), rfl, rfl⟩
theorem warmTakeover (gap : Nat) (t : Nat) : Statement (.warmTakeover gap t) := ⟨(.warmTakeover gap t), rfl, rfl⟩
theorem pairSwitch (c : Cmd) : Statement (.pairSwitch c) := ⟨(.pairSwitch c), rfl, rfl⟩
theorem switchoverEval (t : Nat) : Statement (.switchoverEval t) := ⟨(.switchoverEval t), rfl, rfl⟩
theorem pairRejoin (c : Cmd) : Statement (.pairRejoin c) := ⟨(.pairRejoin c), rfl, rfl⟩
theorem pairClrCnt (c : Cmd) : Statement (.pairClrCnt c) := ⟨(.pairClrCnt c), rfl, rfl⟩
theorem joinDecision (t : Nat) : Statement (.joinDecision t) := ⟨(.joinDecision t), rfl, rfl⟩
theorem joinWaitExpiry (t : Nat) : Statement (.joinWaitExpiry t) := ⟨(.joinWaitExpiry t), rfl, rfl⟩
theorem learnTimeout (t : Nat) : Statement (.learnTimeout t) := ⟨(.learnTimeout t), rfl, rfl⟩
theorem joinRetry (t : Nat) : Statement (.joinRetry t) := ⟨(.joinRetry t), rfl, rfl⟩
theorem reLearn (t : Nat) : Statement (.reLearn t) := ⟨(.reLearn t), rfl, rfl⟩
theorem detachWaitEnd (t : Nat) : Statement (.detachWaitEnd t) := ⟨(.detachWaitEnd t), rfl, rfl⟩
theorem linkUpCount (t : Nat) : Statement (.linkUpCount t) := ⟨(.linkUpCount t), rfl, rfl⟩
theorem tokelLinkLost (lane : Nat) (t : Nat) : Statement (.tokelLinkLost lane t) := ⟨(.tokelLinkLost 0 t), rfl, rfl⟩
theorem partnerPresence (present : Bool) (t : Nat) : Statement (.partnerPresence present t) := ⟨(.partnerPresence present t), rfl, rfl⟩
theorem linkFmark (m : Fmark) (t : Nat) : Statement (.linkFmark m t) := ⟨(.linkFmark m t), rfl, rfl⟩
theorem linkDigest (parts : List PartDigest) (t : Nat) : Statement (.linkDigest parts t) := ⟨(.linkDigest parts t), rfl, rfl⟩
theorem linkBlkreq (needs : List BlockNeed) (lag : List Nat) (t : Nat) : Statement (.linkBlkreq needs lag t) := ⟨(.linkBlkreq needs lag t), rfl, rfl⟩
theorem linkRepair (parts : List RepairPart) (t : Nat) : Statement (.linkRepair parts t) := ⟨(.linkRepair parts t), rfl, rfl⟩
theorem linkHallmark (hm : Hallmark) (t : Nat) : Statement (.linkHallmark hm t) := ⟨(.linkHallmark hm t), rfl, rfl⟩
theorem linkCtrl (m : Ctrl) (t : Nat) : Statement (.linkCtrl m t) := ⟨(.linkCtrl m t), rfl, rfl⟩
theorem linkSnap (m : Snap) (t : Nat) : Statement (.linkSnap m t) := ⟨(.linkSnap m t), rfl, rfl⟩
theorem linkBulk (m : Xfer) (t : Nat) : Statement (.linkBulk m t) := ⟨(.linkBulk m t), rfl, rfl⟩
theorem linkDelta (m : Xfer) (t : Nat) : Statement (.linkDelta m t) := ⟨(.linkDelta m t), rfl, rfl⟩
theorem linkDfinal (m : Xfer) (t : Nat) : Statement (.linkDfinal m t) := ⟨(.linkDfinal m t), rfl, rfl⟩
theorem linkFwpkg (b : List Byte) (first : Bool) (last : Bool) (t : Nat) : Statement (.linkFwpkg b first last t) := ⟨(.linkFwpkg b first last t), rfl, rfl⟩
theorem learnPhaseEnd (t : Nat) : Statement (.learnPhaseEnd t) := ⟨(.learnPhaseEnd t), rfl, rfl⟩
theorem gridDeviation (t : Nat) : Statement (.gridDeviation t) := ⟨(.gridDeviation t), rfl, rfl⟩
theorem doRelease (t : Nat) : Statement (.doRelease t) := ⟨(.doRelease t), rfl, rfl⟩
theorem crossFadeStep (t : Nat) : Statement (.crossFadeStep t) := ⟨(.crossFadeStep t), rfl, rfl⟩
theorem aoTakeoverDrive (t : Nat) : Statement (.aoTakeoverDrive t) := ⟨(.aoTakeoverDrive t), rfl, rfl⟩
theorem burdenSwitch (t : Nat) : Statement (.burdenSwitch t) := ⟨(.burdenSwitch t), rfl, rfl⟩
theorem updRoll (c : Cmd) : Statement (.updRoll c) := ⟨(.updRoll c), rfl, rfl⟩
theorem updateStep (fell : Bool) (t : Nat) : Statement (.updateStep fell t) := ⟨(.updateStep fell t), rfl, rfl⟩
theorem moduleSafeState (cause : Nat) (detail : Nat) (t : Nat) : Statement (.moduleSafeState cause detail t) := ⟨(.moduleSafeState cause detail t), rfl, rfl⟩
theorem safWdResp (c : Cmd) : Statement (.safWdResp c) := ⟨(.safWdResp c), rfl, rfl⟩
theorem safWdExpiry (t : Nat) : Statement (.safWdExpiry t) := ⟨(.safWdExpiry t), rfl, rfl⟩
theorem killPathTest (ok : Bool) (t : Nat) : Statement (.killPathTest ok t) := ⟨(.killPathTest ok t), rfl, rfl⟩
theorem discrepancyTimeout (i : Nat) (t : Nat) : Statement (.discrepancyTimeout i t) := ⟨(.discrepancyTimeout 0 t), rfl, rfl⟩
theorem singleCopyLoss (k : Nat) (t : Nat) : Statement (.singleCopyLoss k t) := ⟨(.singleCopyLoss k t), rfl, rfl⟩
theorem stcWatchdogExpiry (k : Nat) (t : Nat) : Statement (.stcWatchdogExpiry k t) := ⟨(.stcWatchdogExpiry 0 t), rfl, rfl⟩
theorem stcAck (c : Cmd) : Statement (.stcAck c) := ⟨(.stcAck c), rfl, rfl⟩
theorem safClrCnt (c : Cmd) : Statement (.safClrCnt c) := ⟨(.safClrCnt c), rfl, rfl⟩
theorem smmRequest (c : Cmd) : Statement (.smmRequest c) := ⟨(.smmRequest c), rfl, rfl⟩
theorem smmEnter (c : Cmd) : Statement (.smmEnter c) := ⟨(.smmEnter c), rfl, rfl⟩
theorem smmExit (c : Cmd) : Statement (.smmExit c) := ⟨(.smmExit c), rfl, rfl⟩
theorem smmCodeExpiry (t : Nat) : Statement (.smmCodeExpiry t) := ⟨(.smmCodeExpiry t), rfl, rfl⟩
theorem smmStart (t : Nat) : Statement (.smmStart t) := ⟨(.smmStart t), rfl, rfl⟩
theorem smmExpiry (t : Nat) : Statement (.smmExpiry t) := ⟨(.smmExpiry t), rfl, rfl⟩
theorem chainData (p : Nat) (i : Nat) (t : Nat) : Statement (.chainData p i t) := ⟨(.chainData 0 i t), rfl, rfl⟩
theorem chainResponse (p : Nat) (r : ChnResp) (t : Nat) : Statement (.chainResponse p r t) := ⟨(.chainResponse 0 r t), rfl, rfl⟩
theorem chainMiss (p : Nat) (t : Nat) : Statement (.chainMiss p t) := ⟨(.chainMiss 0 t), rfl, rfl⟩
theorem chainIdent (p : Nat) (n : Nat) (t : Nat) : Statement (.chainIdent p n t) := ⟨(.chainIdent 0 0 t), rfl, rfl⟩
theorem chainDelay (p : Nat) (n : Nat) (t : Nat) : Statement (.chainDelay p n t) := ⟨(.chainDelay 0 0 t), rfl, rfl⟩
theorem chainConfig (p : Nat) (n : Nat) (t : Nat) : Statement (.chainConfig p n t) := ⟨(.chainConfig 0 0 t), rfl, rfl⟩
theorem chainAssign (c : Cmd) (t : Nat) : Statement (.chainAssign c t) := ⟨(.chainAssign c t), rfl, rfl⟩
theorem chainProbe (p : Nat) (t : Nat) : Statement (.chainProbe p t) := ⟨(.chainProbe 0 t), rfl, rfl⟩
theorem strangerPoll (p : Nat) (t : Nat) : Statement (.strangerPoll p t) := ⟨(.strangerPoll 0 t), rfl, rfl⟩
theorem epochTimeout (p : Nat) (t : Nat) : Statement (.epochTimeout p t) := ⟨(.epochTimeout 0 t), rfl, rfl⟩
theorem chainUnblock (c : Cmd) : Statement (.chainUnblock c) := ⟨(.chainUnblock c), rfl, rfl⟩
theorem chnClrCnt (c : Cmd) : Statement (.chnClrCnt c) := ⟨(.chnClrCnt c), rfl, rfl⟩
theorem nodeHoldExpiry (p : Nat) (n : Nat) (t : Nat) : Statement (.nodeHoldExpiry p n t) := ⟨(.nodeHoldExpiry 0 0 t), rfl, rfl⟩
theorem diChange (n : Nat) (cur : Nat) (mv : Nat) (t : Nat) : Statement (.diChange n cur mv t) := ⟨(.diChange 0 cur mv t), rfl, rfl⟩
theorem debounceExpiry (n : Nat) (t : Nat) : Statement (.debounceExpiry n t) := ⟨(.debounceExpiry 0 t), rfl, rfl⟩
theorem doReadback (ch : Nat) (sense : Bool) (t : Nat) : Statement (.doReadback ch sense t) := ⟨(.doReadback 0 sense t), rfl, rfl⟩
theorem doOverload (ch : Nat) (t : Nat) : Statement (.doOverload ch t) := ⟨(.doOverload 0 t), rfl, rfl⟩
theorem groupOvercurrent (g : Nat) (t : Nat) : Statement (.groupOvercurrent g t) := ⟨(.groupOvercurrent 0 t), rfl, rfl⟩
theorem doRetry (group : Bool) (n : Nat) (persists : Bool) (t : Nat) : Statement (.doRetry group n persists t) := ⟨(.doRetry false 0 persists t), rfl, rfl⟩
theorem groupSupplyLow (g : Nat) (low : Bool) (t : Nat) : Statement (.groupSupplyLow g low t) := ⟨(.groupSupplyLow 0 low t), rfl, rfl⟩
theorem outputWatchdogExpiry (t : Nat) : Statement (.outputWatchdogExpiry t) := ⟨(.outputWatchdogExpiry t), rfl, rfl⟩
theorem adcSample (ch : Nat) (meas : Word) (head : Word) (conv : Bool) (t : Nat) : Statement (.adcSample ch meas head conv t) := ⟨(.adcSample 0 meas head conv t), rfl, rfl⟩
theorem conditionRecord (ch : Nat) (t : Nat) : Statement (.conditionRecord ch t) := ⟨(.conditionRecord 0 t), rfl, rfl⟩
theorem hartResponse (ch : Nat) (cmd : Nat) (bs : List Byte) (ok : Bool) (t : Nat) : Statement (.hartResponse ch cmd bs ok t) := ⟨(.hartResponse 0 0 bs ok t), rfl, rfl⟩
theorem hartTimeout (ch : Nat) (t : Nat) : Statement (.hartTimeout ch t) := ⟨(.hartTimeout 0 t), rfl, rfl⟩
theorem lioClrCnt (c : Cmd) : Statement (.lioClrCnt c) := ⟨(.lioClrCnt c), rfl, rfl⟩
theorem aioClrCnt (c : Cmd) : Statement (.aioClrCnt c) := ⟨(.aioClrCnt c), rfl, rfl⟩
theorem canFrameReceived (c : Nat) (f : CanFrame) : Statement (.canFrameReceived c f) := ⟨(.canFrameReceived 0 f), rfl, rfl⟩
theorem canRxTimeout (c : Nat) (n : Nat) (t : Nat) : Statement (.canRxTimeout c n t) := ⟨(.canRxTimeout 0 n t), rfl, rfl⟩
theorem canRxoW0 (c : Nat) (t : Nat) : Statement (.canRxoW0 c t) := ⟨(.canRxoW0 0 t), rfl, rfl⟩
theorem canRxoW19 (c : Nat) (t : Nat) : Statement (.canRxoW19 c t) := ⟨(.canRxoW19 0 t), rfl, rfl⟩
theorem canRxoSel (c : Nat) (k : Cmd) : Statement (.canRxoSel c k) := ⟨(.canRxoSel 0 k), rfl, rfl⟩
theorem canLockTimeout (c : Nat) (t : Nat) : Statement (.canLockTimeout c t) := ⟨(.canLockTimeout 0 t), rfl, rfl⟩
theorem canTxDone (c : Nat) (n : Nat) (t : Nat) : Statement (.canTxDone c n t) := ⟨(.canTxDone 0 n t), rfl, rfl⟩
theorem canTxError (c : Nat) (n : Nat) (lost : Bool) (t : Nat) : Statement (.canTxError c n lost t) := ⟨(.canTxError 0 n lost t), rfl, rfl⟩
theorem canTxLifetime (c : Nat) (n : Nat) (t : Nat) : Statement (.canTxLifetime c n t) := ⟨(.canTxLifetime 0 n t), rfl, rfl⟩
theorem canCancel (c : Nat) (k : Cmd) : Statement (.canCancel c k) := ⟨(.canCancel 0 k), rfl, rfl⟩
theorem busOffRecovery (c : Nat) (t : Nat) : Statement (.busOffRecovery c t) := ⟨(.busOffRecovery 0 t), rfl, rfl⟩
theorem canRecover (k : Cmd) : Statement (.canRecover k) := ⟨(.canRecover k), rfl, rfl⟩
theorem canClrCnt (k : Cmd) : Statement (.canClrCnt k) := ⟨(.canClrCnt k), rfl, rfl⟩
theorem ttTimeMark (c : Nat) (mark : Nat) (t : Nat) : Statement (.ttTimeMark c mark t) := ⟨(.ttTimeMark 0 mark t), rfl, rfl⟩
theorem ptpSync (i : Nat) (ofs : Int) (rel : Int) (lan : Bool) (t : Nat) : Statement (.ptpSync i ofs rel lan t) := ⟨(.ptpSync 0 ofs rel lan t), rfl, rfl⟩
theorem ptpAnnounce (i : Nat) (a : PtpAnn) (t : Nat) : Statement (.ptpAnnounce i a t) := ⟨(.ptpAnnounce 0 a t), rfl, rfl⟩
theorem announceTimeout (i : Nat) (t : Nat) : Statement (.announceTimeout i t) := ⟨(.announceTimeout 0 t), rfl, rfl⟩
theorem pdelayReq (port : Nat) (t : Nat) : Statement (.pdelayReq port t) := ⟨(.pdelayReq 0 t), rfl, rfl⟩
theorem secondMark (m : MarkMeas) (t : Nat) : Statement (.secondMark m t) := ⟨(.secondMark m t), rfl, rfl⟩
theorem prefRevert (t : Nat) : Statement (.prefRevert t) := ⟨(.prefRevert t), rfl, rfl⟩
theorem holdoverSave (t : Nat) : Statement (.holdoverSave t) := ⟨(.holdoverSave t), rfl, rfl⟩
theorem leapApply (t : Nat) : Statement (.leapApply t) := ⟨(.leapApply t), rfl, rfl⟩
theorem irigFrame (f : IrigFrame) (t : Nat) : Statement (.irigFrame f t) := ⟨(.irigFrame f t), rfl, rfl⟩
theorem ppsFall (t : Nat) : Statement (.ppsFall t) := ⟨(.ppsFall t), rfl, rfl⟩
theorem captureEvent (src : Nat) (idx : Nat) (deb : Bool) (stamp : Nat) : Statement (.captureEvent src idx deb stamp) := ⟨(.captureEvent src idx deb stamp), rfl, rfl⟩
theorem timCapSlo : Statement .timCapSlo := ⟨.timCapSlo, rfl, rfl⟩
theorem timCapCfg (c : Cmd) : Statement (.timCapCfg c) := ⟨(.timCapCfg c), rfl, rfl⟩
theorem timClrCnt (c : Cmd) : Statement (.timClrCnt c) := ⟨(.timClrCnt c), rfl, rfl⟩
theorem launchFrame (port : Nat) (t : Nat) : Statement (.launchFrame port t) := ⟨(.launchFrame 0 t), rfl, rfl⟩
theorem ethFrameRx (f : EthFrame) (t : Nat) : Statement (.ethFrameRx f t) := ⟨(.ethFrameRx f t), rfl, rfl⟩
theorem supervisionFrame (p : Nat) (t : Nat) : Statement (.supervisionFrame p t) := ⟨(.supervisionFrame 0 t), rfl, rfl⟩
theorem gooseRx (m : GooseMsg) (t : Nat) : Statement (.gooseRx m t) := ⟨(.gooseRx m t), rfl, rfl⟩
theorem gooseTalExpiry (k : Nat) (t : Nat) : Statement (.gooseTalExpiry k t) := ⟨(.gooseTalExpiry 0 t), rfl, rfl⟩
theorem gooseErrorTimeout (k : Nat) (t : Nat) : Statement (.gooseErrorTimeout k t) := ⟨(.gooseErrorTimeout 0 t), rfl, rfl⟩
theorem gooseRepeat (p : Nat) (t : Nat) : Statement (.gooseRepeat p t) := ⟨(.gooseRepeat 0 t), rfl, rfl⟩
theorem arpRequest (port : Nat) (ip : Nat) (t : Nat) : Statement (.arpRequest port ip t) := ⟨(.arpRequest 0 ip t), rfl, rfl⟩
theorem icmpEcho (port : Nat) (ip : Nat) (data : List Byte) (t : Nat) : Statement (.icmpEcho port ip data t) := ⟨(.icmpEcho 0 ip data t), rfl, rfl⟩
theorem mmsAssociate (a : Nat) (ip : Nat) (t : Nat) : Statement (.mmsAssociate a ip t) := ⟨(.mmsAssociate a ip t), rfl, rfl⟩
theorem mmsConclude (a : Nat) (t : Nat) : Statement (.mmsConclude a t) := ⟨(.mmsConclude a t), rfl, rfl⟩
theorem mmsAbort (a : Nat) (t : Nat) : Statement (.mmsAbort a t) := ⟨(.mmsAbort a t), rfl, rfl⟩
theorem getDirectory (a : Nat) (name : Nat) (t : Nat) : Statement (.getDirectory a name t) := ⟨(.getDirectory a name t), rfl, rfl⟩
theorem getDataValues (a : Nat) (name : Nat) (t : Nat) : Statement (.getDataValues a name t) := ⟨(.getDataValues a name t), rfl, rfl⟩
theorem setDataValues (a : Nat) (block : Nat) (attr : Nat) (val : Nat) (t : Nat) : Statement (.setDataValues a block attr val t) := ⟨(.setDataValues a block attr val t), rfl, rfl⟩
theorem mmsSelect (o : Nat) (a : Nat) (t : Nat) : Statement (.mmsSelect o a t) := ⟨(.mmsSelect o a t), rfl, rfl⟩
theorem selectTimeout (o : Nat) (t : Nat) : Statement (.selectTimeout o t) := ⟨(.selectTimeout o t), rfl, rfl⟩
theorem mmsOperate (o : Nat) (a : Nat) (ctl : Bool) (test : Bool) (raw : List Byte) (t : Nat) : Statement (.mmsOperate o a ctl test raw t) := ⟨(.mmsOperate o a ctl test raw t), rfl, rfl⟩
theorem operateTimeout (o : Nat) (t : Nat) : Statement (.operateTimeout o t) := ⟨(.operateTimeout o t), rfl, rfl⟩
theorem getFile (a : Nat) (n : Nat) (dat : Bool) (last : Bool) (t : Nat) : Statement (.getFile a n dat last t) := ⟨(.getFile a n dat last t), rfl, rfl⟩
theorem fileDirectory (a : Nat) (t : Nat) : Statement (.fileDirectory a t) := ⟨(.fileDirectory a t), rfl, rfl⟩
theorem deleteFile (a : Nat) (n : Nat) (session : Nat) (t : Nat) : Statement (.deleteFile a n session t) := ⟨(.deleteFile a n session t), rfl, rfl⟩
theorem ethClrCnt (c : Cmd) : Statement (.ethClrCnt c) := ⟨(.ethClrCnt c), rfl, rfl⟩
theorem gseClrCnt (c : Cmd) : Statement (.gseClrCnt c) := ⟨(.gseClrCnt c), rfl, rfl⟩
theorem sessionOpen (r : SessReq) (t : Nat) : Statement (.sessionOpen r t) := ⟨(.sessionOpen r t), rfl, rfl⟩
theorem sessionClose (id : Nat) (t : Nat) : Statement (.sessionClose id t) := ⟨(.sessionClose id t), rfl, rfl⟩
theorem sessionIdleTimeout (id : Nat) (t : Nat) : Statement (.sessionIdleTimeout id t) := ⟨(.sessionIdleTimeout id t), rfl, rfl⟩
theorem moduleStart (t : Nat) : Statement (.moduleStart t) := ⟨(.moduleStart t), rfl, rfl⟩
theorem holdEnd (t : Nat) : Statement (.holdEnd t) := ⟨(.holdEnd t), rfl, rfl⟩
theorem strapRetry (t : Nat) : Statement (.strapRetry t) := ⟨(.strapRetry t), rfl, rfl⟩
theorem guardReady (t : Nat) : Statement (.guardReady t) := ⟨(.guardReady t), rfl, rfl⟩
theorem loadComplete (failed : List Nat) (copyOk : Bool) (t : Nat) : Statement (.loadComplete failed copyOk t) := ⟨(.loadComplete failed copyOk t), rfl, rfl⟩
theorem configureComplete (fwd : Option (SlotCopy × SlotCopy)) (t : Nat) : Statement (.configureComplete fwd t) := ⟨(.configureComplete fwd t), rfl, rfl⟩
theorem slotmemRepair (t : Nat) : Statement (.slotmemRepair t) := ⟨(.slotmemRepair t), rfl, rfl⟩
theorem updChoose (c : Cmd) : Statement (.updChoose c) := ⟨(.updChoose c), rfl, rfl⟩
theorem fwBlock (session : Nat) (b : List Byte) (first : Bool) (last : Bool) : Statement (.fwBlock session b first last) := ⟨(.fwBlock session b first last), rfl, rfl⟩
theorem updActivate (c : Cmd) : Statement (.updActivate c) := ⟨(.updActivate c), rfl, rfl⟩
theorem updDiscard (c : Cmd) : Statement (.updDiscard c) := ⟨(.updDiscard c), rfl, rfl⟩
theorem fwConfirm (t : Nat) : Statement (.fwConfirm t) := ⟨(.fwConfirm t), rfl, rfl⟩
theorem confirmWindowExpiry (t : Nat) : Statement (.confirmWindowExpiry t) := ⟨(.confirmWindowExpiry t), rfl, rfl⟩
theorem tftpWriteRequest (name : List Byte) (mode : List Byte) : Statement (.tftpWriteRequest name mode) := ⟨(.tftpWriteRequest name mode), rfl, rfl⟩
theorem tftpData (block : Nat) (b : List Byte) : Statement (.tftpData block b) := ⟨(.tftpData block b), rfl, rfl⟩
theorem trustToken (session : Nat) (b : List Byte) : Statement (.trustToken session b) := ⟨(.trustToken session b), rfl, rfl⟩
theorem attestation (session : Nat) (nonce : List Byte) : Statement (.attestation session nonce) := ⟨(.attestation session nonce), rfl, rfl⟩
theorem accRegionWrite (reg : Nat) (c : Cmd) : Statement (.accRegionWrite reg c) := ⟨(.accRegionWrite 0 c), rfl, rfl⟩
theorem accBarrier (c : Cmd) (inflight : Bool) : Statement (.accBarrier c inflight) := ⟨(.accBarrier c inflight), rfl, rfl⟩
theorem barrierDrainEnd (inflight : Bool) : Statement (.barrierDrainEnd inflight) := ⟨(.barrierDrainEnd inflight), rfl, rfl⟩
theorem accClrCnt (c : Cmd) : Statement (.accClrCnt c) := ⟨(.accClrCnt c), rfl, rfl⟩
theorem flushPeriod : Statement .flushPeriod := ⟨.flushPeriod, rfl, rfl⟩
theorem alarmFlush : Statement .alarmFlush := ⟨.alarmFlush, rfl, rfl⟩
theorem recFlush (c : Cmd) : Statement (.recFlush c) := ⟨(.recFlush c), rfl, rfl⟩
theorem flushDone : Statement .flushDone := ⟨.flushDone, rfl, rfl⟩
theorem recorderClear (session : Nat) (req : List Byte) : Statement (.recorderClear session req) := ⟨(.recorderClear session req), rfl, rfl⟩
theorem recClrNonce (session : Nat) : Statement (.recClrNonce session) := ⟨(.recClrNonce session), rfl, rfl⟩
theorem recorderExport (session : Nat) (a : Word) (b : Word) : Statement (.recorderExport session a b) := ⟨(.recorderExport session a b), rfl, rfl⟩
theorem recRdW0 : Statement .recRdW0 := ⟨.recRdW0, rfl, rfl⟩
theorem dpyReq (c : Cmd) (buf : List Byte) : Statement (.dpyReq c buf) := ⟨(.dpyReq c buf), rfl, rfl⟩
theorem phaseFrame (temp : Int) (t : Nat) : Statement (.phaseFrame temp t) := ⟨(.phaseFrame temp t), rfl, rfl⟩
theorem dpyRedraw (c : Cmd) : Statement (.dpyRedraw c) := ⟨(.dpyRedraw c), rfl, rfl⟩
theorem dpyClrCnt (c : Cmd) : Statement (.dpyClrCnt c) := ⟨(.dpyClrCnt c), rfl, rfl⟩
theorem leverUnlatch (t : Nat) : Statement (.leverUnlatch t) := ⟨(.leverUnlatch t), rfl, rfl⟩
theorem uncontrolledRemoval (t : Nat) : Statement (.uncontrolledRemoval t) := ⟨(.uncontrolledRemoval t), rfl, rfl⟩
theorem feedChange (n : Nat) (ok : Bool) (t : Nat) : Statement (.feedChange n ok t) := ⟨(.feedChange 1 ok t), rfl, rfl⟩
theorem powerFailWarning (t : Nat) : Statement (.powerFailWarning t) := ⟨(.powerFailWarning t), rfl, rfl⟩
theorem holdUpEnd (t : Nat) : Statement (.holdUpEnd t) := ⟨(.holdUpEnd t), rfl, rfl⟩
theorem tempSample (vs : List Int) (t : Nat) : Statement (.tempSample vs t) := ⟨(.tempSample (List.replicate 12 0) t), rfl, rfl⟩
theorem critCooldownEnd (t : Nat) : Statement (.critCooldownEnd t) := ⟨(.critCooldownEnd t), rfl, rfl⟩
theorem thermalTrip (t : Nat) : Statement (.thermalTrip t) := ⟨(.thermalTrip t), rfl, rfl⟩
theorem voltageSample (mvs : List Nat) (t : Nat) : Statement (.voltageSample mvs t) := ⟨(.voltageSample (List.replicate 24 0) t), rfl, rfl⟩
theorem processMonitor (norm : List Nat) (t : Nat) : Statement (.processMonitor norm t) := ⟨(.processMonitor (List.replicate 16 0) t), rfl, rfl⟩
theorem trendDay (t : Nat) : Statement (.trendDay t) := ⟨(.trendDay t), rfl, rfl⟩
theorem i2cRead (ptr : Nat) : Statement (.i2cRead ptr) := ⟨(.i2cRead 0), rfl, rfl⟩
theorem devClrCnt (c : Cmd) : Statement (.devClrCnt c) := ⟨(.devClrCnt c), rfl, rfl⟩
theorem monClrPeak (c : Cmd) : Statement (.monClrPeak c) := ⟨(.monClrPeak c), rfl, rfl⟩
theorem frmSecLo : Statement .frmSecLo := ⟨.frmSecLo, rfl, rfl⟩
theorem frmFnumLo : Statement .frmFnumLo := ⟨.frmFnumLo, rfl, rfl⟩
theorem sigDirLo : Statement .sigDirLo := ⟨.sigDirLo, rfl, rfl⟩
theorem sigVal : Statement .sigVal := ⟨.sigVal, rfl, rfl⟩
theorem fbxRetGenLo : Statement .fbxRetGenLo := ⟨.fbxRetGenLo, rfl, rfl⟩
theorem sviChVal : Statement .sviChVal := ⟨.sviChVal, rfl, rfl⟩
theorem peOutVal (e : Nat) : Statement (.peOutVal e) := ⟨(.peOutVal 0), rfl, rfl⟩
theorem pairRoleSinceLo : Statement .pairRoleSinceLo := ⟨.pairRoleSinceLo, rfl, rfl⟩
theorem pairHmLo : Statement .pairHmLo := ⟨.pairHmLo, rfl, rfl⟩
theorem chnNodeSerlo : Statement .chnNodeSerlo := ⟨.chnNodeSerlo, rfl, rfl⟩
theorem chnStrSerlo : Statement .chnStrSerlo := ⟨.chnStrSerlo, rfl, rfl⟩
theorem timNowSlo : Statement .timNowSlo := ⟨.timNowSlo, rfl, rfl⟩
theorem timMonoLo : Statement .timMonoLo := ⟨.timMonoLo, rfl, rfl⟩
theorem timPtpGmLo : Statement .timPtpGmLo := ⟨.timPtpGmLo, rfl, rfl⟩
theorem updCfgGenLo : Statement .updCfgGenLo := ⟨.updCfgGenLo, rfl, rfl⟩
theorem updDieLo : Statement .updDieLo := ⟨.updDieLo, rfl, rfl⟩
theorem accViolAddrLo : Statement .accViolAddrLo := ⟨.accViolAddrLo, rfl, rfl⟩
theorem devSerLo : Statement .devSerLo := ⟨.devSerLo, rfl, rfl⟩
theorem devUptimeLo : Statement .devUptimeLo := ⟨.devUptimeLo, rfl, rfl⟩
theorem safeStateRestart (t : Nat) : Statement (.safeStateRestart t) := ⟨(.safeStateRestart t), rfl, rfl⟩
theorem retainedWriteDone (copyB : Bool) : Statement (.retainedWriteDone copyB) := ⟨(.retainedWriteDone copyB), rfl, rfl⟩
theorem slotmemWriteDone (t : Nat) : Statement (.slotmemWriteDone t) := ⟨(.slotmemWriteDone t), rfl, rfl⟩
theorem strapsChanged (side : Bool) (sideN : Bool) (cid : Nat) (t : Nat) : Statement (.strapsChanged side sideN cid t) := ⟨(.strapsChanged side sideN cid t), rfl, rfl⟩
theorem ethLinkChange (port : Nat) (up : Bool) (speed : Nat) (t : Nat) : Statement (.ethLinkChange port up speed t) := ⟨(.ethLinkChange 0 up speed t), rfl, rfl⟩
theorem irigFrameMissing (t : Nat) : Statement (.irigFrameMissing t) := ⟨(.irigFrameMissing t), rfl, rfl⟩
theorem pdelayResp (i : Nat) (lan : Bool) (dly : Nat) (t : Nat) : Statement (.pdelayResp i lan dly t) := ⟨(.pdelayResp 0 lan dly t), rfl, rfl⟩
theorem chainRequestHeard (p : Nat) (addr : Nat) (epoch : Nat) (cmd : Nat) (fnum : Nat) (len : Nat) (t : Nat) : Statement (.chainRequestHeard p addr epoch cmd fnum len t) := ⟨(.chainRequestHeard 0 0 0 0 fnum len t), rfl, rfl⟩
theorem canBusError (c : Nat) (dominant : Bool) (t : Nat) : Statement (.canBusError c dominant t) := ⟨(.canBusError 0 dominant t), rfl, rfl⟩
theorem canArbitrationStart (c : Nat) (n : Nat) (t : Nat) : Statement (.canArbitrationStart c n t) := ⟨(.canArbitrationStart 0 n t), rfl, rfl⟩
theorem leverLatch (t : Nat) : Statement (.leverLatch t) := ⟨(.leverLatch t), rfl, rfl⟩

end Sys2Proof.Laws.Receivable
end

