-- ==== Sys2Proof/Laws/State.lean ====
section
/-! SUPPORT. What each named update of the state leaves and what it sets: one lemma for each field, so that no proof unfolds a
record update. -/

namespace Sys2Proof.Machine

open Sys2Proof

@[simp] theorem wr_pending (s : State) (a : Nat) (v : Word) : (wr s a v).pending = s.pending := rfl
@[simp] theorem wr_resp (s : State) (a : Nat) (v : Word) : (wr s a v).resp = s.resp := rfl
@[simp] theorem wr_sent (s : State) (a : Nat) (v : Word) : (wr s a v).sent = s.sent := rfl
@[simp] theorem wr_freeN (s : State) (a : Nat) (v : Word) : (wr s a v).freeN = s.freeN := rfl
@[simp] theorem wr_cfg (s : State) (a : Nat) (v : Word) : (wr s a v).cfg = s.cfg := rfl
@[simp] theorem wr_grid (s : State) (a : Nat) (v : Word) : (wr s a v).grid = s.grid := rfl
@[simp] theorem wr_sig (s : State) (a : Nat) (v : Word) : (wr s a v).sig = s.sig := rfl
@[simp] theorem wr_sched (s : State) (a : Nat) (v : Word) : (wr s a v).sched = s.sched := rfl
@[simp] theorem wr_le (s : State) (a : Nat) (v : Word) : (wr s a v).le = s.le := rfl
@[simp] theorem wr_fbx (s : State) (a : Nat) (v : Word) : (wr s a v).fbx = s.fbx := rfl
@[simp] theorem wr_acc (s : State) (a : Nat) (v : Word) : (wr s a v).acc = s.acc := rfl
@[simp] theorem wr_rcd (s : State) (a : Nat) (v : Word) : (wr s a v).rcd = s.rcd := rfl
@[simp] theorem wr_pair (s : State) (a : Nat) (v : Word) : (wr s a v).pair = s.pair := rfl
@[simp] theorem wr_saf (s : State) (a : Nat) (v : Word) : (wr s a v).saf = s.saf := rfl
@[simp] theorem wr_olc (s : State) (a : Nat) (v : Word) : (wr s a v).olc = s.olc := rfl
@[simp] theorem wr_frc (s : State) (a : Nat) (v : Word) : (wr s a v).frc = s.frc := rfl
@[simp] theorem wr_upd (s : State) (a : Nat) (v : Word) : (wr s a v).upd = s.upd := rfl
@[simp] theorem wr_lio (s : State) (a : Nat) (v : Word) : (wr s a v).lio = s.lio := rfl
@[simp] theorem wr_chn (s : State) (a : Nat) (v : Word) : (wr s a v).chn = s.chn := rfl
@[simp] theorem wr_can (s : State) (a : Nat) (v : Word) : (wr s a v).can = s.can := rfl
@[simp] theorem wr_tim (s : State) (a : Nat) (v : Word) : (wr s a v).tim = s.tim := rfl
@[simp] theorem wr_hlt (s : State) (a : Nat) (v : Word) : (wr s a v).hlt = s.hlt := rfl
@[simp] theorem wr_slot (s : State) (a : Nat) (v : Word) : (wr s a v).slot = s.slot := rfl
@[simp] theorem wr_svi (s : State) (a : Nat) (v : Word) : (wr s a v).svi = s.svi := rfl
@[simp] theorem wr_pe (s : State) (a : Nat) (v : Word) : (wr s a v).pe = s.pe := rfl
@[simp] theorem wr_stn (s : State) (a : Nat) (v : Word) : (wr s a v).stn = s.stn := rfl
@[simp] theorem wr_dpy (s : State) (a : Nat) (v : Word) : (wr s a v).dpy = s.dpy := rfl
@[simp] theorem wr_sess (s : State) (a : Nat) (v : Word) : (wr s a v).sess = s.sess := rfl

@[simp] theorem atTime_pending (s : State) (t : Nat) : (atTime s t).pending = s.pending := rfl
@[simp] theorem atTime_resp (s : State) (t : Nat) : (atTime s t).resp = s.resp := rfl
@[simp] theorem atTime_sent (s : State) (t : Nat) : (atTime s t).sent = s.sent := rfl
@[simp] theorem atTime_freeN (s : State) (t : Nat) : (atTime s t).freeN = s.freeN := rfl
@[simp] theorem atTime_regs (s : State) (t : Nat) : (atTime s t).regs = s.regs := rfl
@[simp] theorem atTime_cfg (s : State) (t : Nat) : (atTime s t).cfg = s.cfg := rfl
@[simp] theorem atTime_sig (s : State) (t : Nat) : (atTime s t).sig = s.sig := rfl
@[simp] theorem atTime_sched (s : State) (t : Nat) : (atTime s t).sched = s.sched := rfl
@[simp] theorem atTime_le (s : State) (t : Nat) : (atTime s t).le = s.le := rfl
@[simp] theorem atTime_fbx (s : State) (t : Nat) : (atTime s t).fbx = s.fbx := rfl
@[simp] theorem atTime_acc (s : State) (t : Nat) : (atTime s t).acc = s.acc := rfl
@[simp] theorem atTime_rcd (s : State) (t : Nat) : (atTime s t).rcd = s.rcd := rfl
@[simp] theorem atTime_pair (s : State) (t : Nat) : (atTime s t).pair = s.pair := rfl
@[simp] theorem atTime_saf (s : State) (t : Nat) : (atTime s t).saf = s.saf := rfl
@[simp] theorem atTime_olc (s : State) (t : Nat) : (atTime s t).olc = s.olc := rfl
@[simp] theorem atTime_frc (s : State) (t : Nat) : (atTime s t).frc = s.frc := rfl
@[simp] theorem atTime_upd (s : State) (t : Nat) : (atTime s t).upd = s.upd := rfl
@[simp] theorem atTime_lio (s : State) (t : Nat) : (atTime s t).lio = s.lio := rfl
@[simp] theorem atTime_chn (s : State) (t : Nat) : (atTime s t).chn = s.chn := rfl
@[simp] theorem atTime_can (s : State) (t : Nat) : (atTime s t).can = s.can := rfl
@[simp] theorem atTime_tim (s : State) (t : Nat) : (atTime s t).tim = s.tim := rfl
@[simp] theorem atTime_hlt (s : State) (t : Nat) : (atTime s t).hlt = s.hlt := rfl
@[simp] theorem atTime_slot (s : State) (t : Nat) : (atTime s t).slot = s.slot := rfl
@[simp] theorem atTime_svi (s : State) (t : Nat) : (atTime s t).svi = s.svi := rfl
@[simp] theorem atTime_pe (s : State) (t : Nat) : (atTime s t).pe = s.pe := rfl
@[simp] theorem atTime_stn (s : State) (t : Nat) : (atTime s t).stn = s.stn := rfl
@[simp] theorem atTime_dpy (s : State) (t : Nat) : (atTime s t).dpy = s.dpy := rfl
@[simp] theorem atTime_sess (s : State) (t : Nat) : (atTime s t).sess = s.sess := rfl
@[simp] theorem rd_atTime (s : State) (t : Nat) (w : Nat) : rd (atTime s t) w = rd s w := rfl

@[simp] theorem answer_pending (s : State) (r : Resp) : (answer s r).pending = s.pending := rfl
@[simp] theorem answer_sent (s : State) (r : Resp) : (answer s r).sent = s.sent := rfl
@[simp] theorem answer_freeN (s : State) (r : Resp) : (answer s r).freeN = s.freeN := rfl
@[simp] theorem answer_regs (s : State) (r : Resp) : (answer s r).regs = s.regs := rfl
@[simp] theorem answer_cfg (s : State) (r : Resp) : (answer s r).cfg = s.cfg := rfl
@[simp] theorem answer_grid (s : State) (r : Resp) : (answer s r).grid = s.grid := rfl
@[simp] theorem answer_sig (s : State) (r : Resp) : (answer s r).sig = s.sig := rfl
@[simp] theorem answer_sched (s : State) (r : Resp) : (answer s r).sched = s.sched := rfl
@[simp] theorem answer_le (s : State) (r : Resp) : (answer s r).le = s.le := rfl
@[simp] theorem answer_fbx (s : State) (r : Resp) : (answer s r).fbx = s.fbx := rfl
@[simp] theorem answer_acc (s : State) (r : Resp) : (answer s r).acc = s.acc := rfl
@[simp] theorem answer_rcd (s : State) (r : Resp) : (answer s r).rcd = s.rcd := rfl
@[simp] theorem answer_pair (s : State) (r : Resp) : (answer s r).pair = s.pair := rfl
@[simp] theorem answer_saf (s : State) (r : Resp) : (answer s r).saf = s.saf := rfl
@[simp] theorem answer_olc (s : State) (r : Resp) : (answer s r).olc = s.olc := rfl
@[simp] theorem answer_frc (s : State) (r : Resp) : (answer s r).frc = s.frc := rfl
@[simp] theorem answer_upd (s : State) (r : Resp) : (answer s r).upd = s.upd := rfl
@[simp] theorem answer_lio (s : State) (r : Resp) : (answer s r).lio = s.lio := rfl
@[simp] theorem answer_chn (s : State) (r : Resp) : (answer s r).chn = s.chn := rfl
@[simp] theorem answer_can (s : State) (r : Resp) : (answer s r).can = s.can := rfl
@[simp] theorem answer_tim (s : State) (r : Resp) : (answer s r).tim = s.tim := rfl
@[simp] theorem answer_hlt (s : State) (r : Resp) : (answer s r).hlt = s.hlt := rfl
@[simp] theorem answer_slot (s : State) (r : Resp) : (answer s r).slot = s.slot := rfl
@[simp] theorem answer_svi (s : State) (r : Resp) : (answer s r).svi = s.svi := rfl
@[simp] theorem answer_pe (s : State) (r : Resp) : (answer s r).pe = s.pe := rfl
@[simp] theorem answer_stn (s : State) (r : Resp) : (answer s r).stn = s.stn := rfl
@[simp] theorem answer_dpy (s : State) (r : Resp) : (answer s r).dpy = s.dpy := rfl
@[simp] theorem answer_sess (s : State) (r : Resp) : (answer s r).sess = s.sess := rfl
@[simp] theorem rd_answer (s : State) (r : Resp) (w : Nat) : rd (answer s r) w = rd s w := rfl

@[simp] theorem touch_pending (s : State) (n : Nat) : (touch s n).pending = s.pending := rfl
@[simp] theorem touch_resp (s : State) (n : Nat) : (touch s n).resp = s.resp := rfl
@[simp] theorem touch_sent (s : State) (n : Nat) : (touch s n).sent = s.sent := rfl
@[simp] theorem touch_freeN (s : State) (n : Nat) : (touch s n).freeN = s.freeN := rfl
@[simp] theorem touch_regs (s : State) (n : Nat) : (touch s n).regs = s.regs := rfl
@[simp] theorem touch_cfg (s : State) (n : Nat) : (touch s n).cfg = s.cfg := rfl
@[simp] theorem touch_grid (s : State) (n : Nat) : (touch s n).grid = s.grid := rfl
@[simp] theorem touch_sig (s : State) (n : Nat) : (touch s n).sig = s.sig := rfl
@[simp] theorem touch_sched (s : State) (n : Nat) : (touch s n).sched = s.sched := rfl
@[simp] theorem touch_le (s : State) (n : Nat) : (touch s n).le = s.le := rfl
@[simp] theorem touch_fbx (s : State) (n : Nat) : (touch s n).fbx = s.fbx := rfl
@[simp] theorem touch_acc (s : State) (n : Nat) : (touch s n).acc = s.acc := rfl
@[simp] theorem touch_rcd (s : State) (n : Nat) : (touch s n).rcd = s.rcd := rfl
@[simp] theorem touch_pair (s : State) (n : Nat) : (touch s n).pair = s.pair := rfl
@[simp] theorem touch_saf (s : State) (n : Nat) : (touch s n).saf = s.saf := rfl
@[simp] theorem touch_olc (s : State) (n : Nat) : (touch s n).olc = s.olc := rfl
@[simp] theorem touch_frc (s : State) (n : Nat) : (touch s n).frc = s.frc := rfl
@[simp] theorem touch_upd (s : State) (n : Nat) : (touch s n).upd = s.upd := rfl
@[simp] theorem touch_lio (s : State) (n : Nat) : (touch s n).lio = s.lio := rfl
@[simp] theorem touch_chn (s : State) (n : Nat) : (touch s n).chn = s.chn := rfl
@[simp] theorem touch_can (s : State) (n : Nat) : (touch s n).can = s.can := rfl
@[simp] theorem touch_tim (s : State) (n : Nat) : (touch s n).tim = s.tim := rfl
@[simp] theorem touch_hlt (s : State) (n : Nat) : (touch s n).hlt = s.hlt := rfl
@[simp] theorem touch_slot (s : State) (n : Nat) : (touch s n).slot = s.slot := rfl
@[simp] theorem touch_svi (s : State) (n : Nat) : (touch s n).svi = s.svi := rfl
@[simp] theorem touch_pe (s : State) (n : Nat) : (touch s n).pe = s.pe := rfl
@[simp] theorem touch_stn (s : State) (n : Nat) : (touch s n).stn = s.stn := rfl
@[simp] theorem touch_dpy (s : State) (n : Nat) : (touch s n).dpy = s.dpy := rfl
@[simp] theorem rd_touch (s : State) (n : Nat) (w : Nat) : rd (touch s n) w = rd s w := rfl

@[simp] theorem drawWord_pending (s : State) : (drawWord s).2.pending = s.pending := rfl
@[simp] theorem drawWord_resp (s : State) : (drawWord s).2.resp = s.resp := rfl
@[simp] theorem drawWord_sent (s : State) : (drawWord s).2.sent = s.sent := rfl
@[simp] theorem drawWord_regs (s : State) : (drawWord s).2.regs = s.regs := rfl
@[simp] theorem drawWord_cfg (s : State) : (drawWord s).2.cfg = s.cfg := rfl
@[simp] theorem drawWord_grid (s : State) : (drawWord s).2.grid = s.grid := rfl
@[simp] theorem drawWord_sig (s : State) : (drawWord s).2.sig = s.sig := rfl
@[simp] theorem drawWord_sched (s : State) : (drawWord s).2.sched = s.sched := rfl
@[simp] theorem drawWord_le (s : State) : (drawWord s).2.le = s.le := rfl
@[simp] theorem drawWord_fbx (s : State) : (drawWord s).2.fbx = s.fbx := rfl
@[simp] theorem drawWord_acc (s : State) : (drawWord s).2.acc = s.acc := rfl
@[simp] theorem drawWord_rcd (s : State) : (drawWord s).2.rcd = s.rcd := rfl
@[simp] theorem drawWord_pair (s : State) : (drawWord s).2.pair = s.pair := rfl
@[simp] theorem drawWord_saf (s : State) : (drawWord s).2.saf = s.saf := rfl
@[simp] theorem drawWord_olc (s : State) : (drawWord s).2.olc = s.olc := rfl
@[simp] theorem drawWord_frc (s : State) : (drawWord s).2.frc = s.frc := rfl
@[simp] theorem drawWord_upd (s : State) : (drawWord s).2.upd = s.upd := rfl
@[simp] theorem drawWord_lio (s : State) : (drawWord s).2.lio = s.lio := rfl
@[simp] theorem drawWord_chn (s : State) : (drawWord s).2.chn = s.chn := rfl
@[simp] theorem drawWord_can (s : State) : (drawWord s).2.can = s.can := rfl
@[simp] theorem drawWord_tim (s : State) : (drawWord s).2.tim = s.tim := rfl
@[simp] theorem drawWord_hlt (s : State) : (drawWord s).2.hlt = s.hlt := rfl
@[simp] theorem drawWord_slot (s : State) : (drawWord s).2.slot = s.slot := rfl
@[simp] theorem drawWord_svi (s : State) : (drawWord s).2.svi = s.svi := rfl
@[simp] theorem drawWord_pe (s : State) : (drawWord s).2.pe = s.pe := rfl
@[simp] theorem drawWord_stn (s : State) : (drawWord s).2.stn = s.stn := rfl
@[simp] theorem drawWord_dpy (s : State) : (drawWord s).2.dpy = s.dpy := rfl
@[simp] theorem drawWord_sess (s : State) : (drawWord s).2.sess = s.sess := rfl
@[simp] theorem rd_drawWord (s : State) (w : Nat) : rd (drawWord s).2 w = rd s w := rfl

@[simp] theorem drawDWord_pending (s : State) : (drawDWord s).2.pending = s.pending := rfl
@[simp] theorem drawDWord_resp (s : State) : (drawDWord s).2.resp = s.resp := rfl
@[simp] theorem drawDWord_sent (s : State) : (drawDWord s).2.sent = s.sent := rfl
@[simp] theorem drawDWord_regs (s : State) : (drawDWord s).2.regs = s.regs := rfl
@[simp] theorem drawDWord_cfg (s : State) : (drawDWord s).2.cfg = s.cfg := rfl
@[simp] theorem drawDWord_grid (s : State) : (drawDWord s).2.grid = s.grid := rfl
@[simp] theorem drawDWord_sig (s : State) : (drawDWord s).2.sig = s.sig := rfl
@[simp] theorem drawDWord_sched (s : State) : (drawDWord s).2.sched = s.sched := rfl
@[simp] theorem drawDWord_le (s : State) : (drawDWord s).2.le = s.le := rfl
@[simp] theorem drawDWord_fbx (s : State) : (drawDWord s).2.fbx = s.fbx := rfl
@[simp] theorem drawDWord_acc (s : State) : (drawDWord s).2.acc = s.acc := rfl
@[simp] theorem drawDWord_rcd (s : State) : (drawDWord s).2.rcd = s.rcd := rfl
@[simp] theorem drawDWord_pair (s : State) : (drawDWord s).2.pair = s.pair := rfl
@[simp] theorem drawDWord_saf (s : State) : (drawDWord s).2.saf = s.saf := rfl
@[simp] theorem drawDWord_olc (s : State) : (drawDWord s).2.olc = s.olc := rfl
@[simp] theorem drawDWord_frc (s : State) : (drawDWord s).2.frc = s.frc := rfl
@[simp] theorem drawDWord_upd (s : State) : (drawDWord s).2.upd = s.upd := rfl
@[simp] theorem drawDWord_lio (s : State) : (drawDWord s).2.lio = s.lio := rfl
@[simp] theorem drawDWord_chn (s : State) : (drawDWord s).2.chn = s.chn := rfl
@[simp] theorem drawDWord_can (s : State) : (drawDWord s).2.can = s.can := rfl
@[simp] theorem drawDWord_tim (s : State) : (drawDWord s).2.tim = s.tim := rfl
@[simp] theorem drawDWord_hlt (s : State) : (drawDWord s).2.hlt = s.hlt := rfl
@[simp] theorem drawDWord_slot (s : State) : (drawDWord s).2.slot = s.slot := rfl
@[simp] theorem drawDWord_svi (s : State) : (drawDWord s).2.svi = s.svi := rfl
@[simp] theorem drawDWord_pe (s : State) : (drawDWord s).2.pe = s.pe := rfl
@[simp] theorem drawDWord_stn (s : State) : (drawDWord s).2.stn = s.stn := rfl
@[simp] theorem drawDWord_dpy (s : State) : (drawDWord s).2.dpy = s.dpy := rfl
@[simp] theorem drawDWord_sess (s : State) : (drawDWord s).2.sess = s.sess := rfl
@[simp] theorem rd_drawDWord (s : State) (w : Nat) : rd (drawDWord s).2 w = rd s w := rfl

@[simp] theorem setLe_pending (s : State) (e : Nat) (x : LeEngine) : (setLe s e x).pending = s.pending := rfl
@[simp] theorem setLe_resp (s : State) (e : Nat) (x : LeEngine) : (setLe s e x).resp = s.resp := rfl
@[simp] theorem setLe_sent (s : State) (e : Nat) (x : LeEngine) : (setLe s e x).sent = s.sent := rfl
@[simp] theorem setLe_freeN (s : State) (e : Nat) (x : LeEngine) : (setLe s e x).freeN = s.freeN := rfl
@[simp] theorem setLe_regs (s : State) (e : Nat) (x : LeEngine) : (setLe s e x).regs = s.regs := rfl
@[simp] theorem setLe_cfg (s : State) (e : Nat) (x : LeEngine) : (setLe s e x).cfg = s.cfg := rfl
@[simp] theorem setLe_grid (s : State) (e : Nat) (x : LeEngine) : (setLe s e x).grid = s.grid := rfl
@[simp] theorem setLe_sig (s : State) (e : Nat) (x : LeEngine) : (setLe s e x).sig = s.sig := rfl
@[simp] theorem setLe_sched (s : State) (e : Nat) (x : LeEngine) : (setLe s e x).sched = s.sched := rfl
@[simp] theorem setLe_fbx (s : State) (e : Nat) (x : LeEngine) : (setLe s e x).fbx = s.fbx := rfl
@[simp] theorem setLe_acc (s : State) (e : Nat) (x : LeEngine) : (setLe s e x).acc = s.acc := rfl
@[simp] theorem setLe_rcd (s : State) (e : Nat) (x : LeEngine) : (setLe s e x).rcd = s.rcd := rfl
@[simp] theorem setLe_pair (s : State) (e : Nat) (x : LeEngine) : (setLe s e x).pair = s.pair := rfl
@[simp] theorem setLe_saf (s : State) (e : Nat) (x : LeEngine) : (setLe s e x).saf = s.saf := rfl
@[simp] theorem setLe_olc (s : State) (e : Nat) (x : LeEngine) : (setLe s e x).olc = s.olc := rfl
@[simp] theorem setLe_frc (s : State) (e : Nat) (x : LeEngine) : (setLe s e x).frc = s.frc := rfl
@[simp] theorem setLe_upd (s : State) (e : Nat) (x : LeEngine) : (setLe s e x).upd = s.upd := rfl
@[simp] theorem setLe_lio (s : State) (e : Nat) (x : LeEngine) : (setLe s e x).lio = s.lio := rfl
@[simp] theorem setLe_chn (s : State) (e : Nat) (x : LeEngine) : (setLe s e x).chn = s.chn := rfl
@[simp] theorem setLe_can (s : State) (e : Nat) (x : LeEngine) : (setLe s e x).can = s.can := rfl
@[simp] theorem setLe_tim (s : State) (e : Nat) (x : LeEngine) : (setLe s e x).tim = s.tim := rfl
@[simp] theorem setLe_hlt (s : State) (e : Nat) (x : LeEngine) : (setLe s e x).hlt = s.hlt := rfl
@[simp] theorem setLe_slot (s : State) (e : Nat) (x : LeEngine) : (setLe s e x).slot = s.slot := rfl
@[simp] theorem setLe_svi (s : State) (e : Nat) (x : LeEngine) : (setLe s e x).svi = s.svi := rfl
@[simp] theorem setLe_pe (s : State) (e : Nat) (x : LeEngine) : (setLe s e x).pe = s.pe := rfl
@[simp] theorem setLe_stn (s : State) (e : Nat) (x : LeEngine) : (setLe s e x).stn = s.stn := rfl
@[simp] theorem setLe_dpy (s : State) (e : Nat) (x : LeEngine) : (setLe s e x).dpy = s.dpy := rfl
@[simp] theorem setLe_sess (s : State) (e : Nat) (x : LeEngine) : (setLe s e x).sess = s.sess := rfl
@[simp] theorem rd_setLe (s : State) (e : Nat) (x : LeEngine) (w : Nat) : rd (setLe s e x) w = rd s w := rfl

@[simp] theorem setAc_pending (s : State) (k : Nat) (x : AcCore) : (setAc s k x).pending = s.pending := rfl
@[simp] theorem setAc_resp (s : State) (k : Nat) (x : AcCore) : (setAc s k x).resp = s.resp := rfl
@[simp] theorem setAc_sent (s : State) (k : Nat) (x : AcCore) : (setAc s k x).sent = s.sent := rfl
@[simp] theorem setAc_freeN (s : State) (k : Nat) (x : AcCore) : (setAc s k x).freeN = s.freeN := rfl
@[simp] theorem setAc_regs (s : State) (k : Nat) (x : AcCore) : (setAc s k x).regs = s.regs := rfl
@[simp] theorem setAc_cfg (s : State) (k : Nat) (x : AcCore) : (setAc s k x).cfg = s.cfg := rfl
@[simp] theorem setAc_grid (s : State) (k : Nat) (x : AcCore) : (setAc s k x).grid = s.grid := rfl
@[simp] theorem setAc_sig (s : State) (k : Nat) (x : AcCore) : (setAc s k x).sig = s.sig := rfl
@[simp] theorem setAc_sched (s : State) (k : Nat) (x : AcCore) : (setAc s k x).sched = s.sched := rfl
@[simp] theorem setAc_le (s : State) (k : Nat) (x : AcCore) : (setAc s k x).le = s.le := rfl
@[simp] theorem setAc_acc (s : State) (k : Nat) (x : AcCore) : (setAc s k x).acc = s.acc := rfl
@[simp] theorem setAc_rcd (s : State) (k : Nat) (x : AcCore) : (setAc s k x).rcd = s.rcd := rfl
@[simp] theorem setAc_pair (s : State) (k : Nat) (x : AcCore) : (setAc s k x).pair = s.pair := rfl
@[simp] theorem setAc_saf (s : State) (k : Nat) (x : AcCore) : (setAc s k x).saf = s.saf := rfl
@[simp] theorem setAc_olc (s : State) (k : Nat) (x : AcCore) : (setAc s k x).olc = s.olc := rfl
@[simp] theorem setAc_frc (s : State) (k : Nat) (x : AcCore) : (setAc s k x).frc = s.frc := rfl
@[simp] theorem setAc_upd (s : State) (k : Nat) (x : AcCore) : (setAc s k x).upd = s.upd := rfl
@[simp] theorem setAc_lio (s : State) (k : Nat) (x : AcCore) : (setAc s k x).lio = s.lio := rfl
@[simp] theorem setAc_chn (s : State) (k : Nat) (x : AcCore) : (setAc s k x).chn = s.chn := rfl
@[simp] theorem setAc_can (s : State) (k : Nat) (x : AcCore) : (setAc s k x).can = s.can := rfl
@[simp] theorem setAc_tim (s : State) (k : Nat) (x : AcCore) : (setAc s k x).tim = s.tim := rfl
@[simp] theorem setAc_hlt (s : State) (k : Nat) (x : AcCore) : (setAc s k x).hlt = s.hlt := rfl
@[simp] theorem setAc_slot (s : State) (k : Nat) (x : AcCore) : (setAc s k x).slot = s.slot := rfl
@[simp] theorem setAc_svi (s : State) (k : Nat) (x : AcCore) : (setAc s k x).svi = s.svi := rfl
@[simp] theorem setAc_pe (s : State) (k : Nat) (x : AcCore) : (setAc s k x).pe = s.pe := rfl
@[simp] theorem setAc_stn (s : State) (k : Nat) (x : AcCore) : (setAc s k x).stn = s.stn := rfl
@[simp] theorem setAc_dpy (s : State) (k : Nat) (x : AcCore) : (setAc s k x).dpy = s.dpy := rfl
@[simp] theorem setAc_sess (s : State) (k : Nat) (x : AcCore) : (setAc s k x).sess = s.sess := rfl
@[simp] theorem rd_setAc (s : State) (k : Nat) (x : AcCore) (w : Nat) : rd (setAc s k x) w = rd s w := rfl

@[simp] theorem setPart_pending (s : State) (p : Nat) (x : PartState) : (setPart s p x).pending = s.pending := rfl
@[simp] theorem setPart_resp (s : State) (p : Nat) (x : PartState) : (setPart s p x).resp = s.resp := rfl
@[simp] theorem setPart_sent (s : State) (p : Nat) (x : PartState) : (setPart s p x).sent = s.sent := rfl
@[simp] theorem setPart_freeN (s : State) (p : Nat) (x : PartState) : (setPart s p x).freeN = s.freeN := rfl
@[simp] theorem setPart_regs (s : State) (p : Nat) (x : PartState) : (setPart s p x).regs = s.regs := rfl
@[simp] theorem setPart_cfg (s : State) (p : Nat) (x : PartState) : (setPart s p x).cfg = s.cfg := rfl
@[simp] theorem setPart_grid (s : State) (p : Nat) (x : PartState) : (setPart s p x).grid = s.grid := rfl
@[simp] theorem setPart_sig (s : State) (p : Nat) (x : PartState) : (setPart s p x).sig = s.sig := rfl
@[simp] theorem setPart_le (s : State) (p : Nat) (x : PartState) : (setPart s p x).le = s.le := rfl
@[simp] theorem setPart_fbx (s : State) (p : Nat) (x : PartState) : (setPart s p x).fbx = s.fbx := rfl
@[simp] theorem setPart_acc (s : State) (p : Nat) (x : PartState) : (setPart s p x).acc = s.acc := rfl
@[simp] theorem setPart_rcd (s : State) (p : Nat) (x : PartState) : (setPart s p x).rcd = s.rcd := rfl
@[simp] theorem setPart_pair (s : State) (p : Nat) (x : PartState) : (setPart s p x).pair = s.pair := rfl
@[simp] theorem setPart_saf (s : State) (p : Nat) (x : PartState) : (setPart s p x).saf = s.saf := rfl
@[simp] theorem setPart_olc (s : State) (p : Nat) (x : PartState) : (setPart s p x).olc = s.olc := rfl
@[simp] theorem setPart_frc (s : State) (p : Nat) (x : PartState) : (setPart s p x).frc = s.frc := rfl
@[simp] theorem setPart_upd (s : State) (p : Nat) (x : PartState) : (setPart s p x).upd = s.upd := rfl
@[simp] theorem setPart_lio (s : State) (p : Nat) (x : PartState) : (setPart s p x).lio = s.lio := rfl
@[simp] theorem setPart_chn (s : State) (p : Nat) (x : PartState) : (setPart s p x).chn = s.chn := rfl
@[simp] theorem setPart_can (s : State) (p : Nat) (x : PartState) : (setPart s p x).can = s.can := rfl
@[simp] theorem setPart_tim (s : State) (p : Nat) (x : PartState) : (setPart s p x).tim = s.tim := rfl
@[simp] theorem setPart_hlt (s : State) (p : Nat) (x : PartState) : (setPart s p x).hlt = s.hlt := rfl
@[simp] theorem setPart_slot (s : State) (p : Nat) (x : PartState) : (setPart s p x).slot = s.slot := rfl
@[simp] theorem setPart_svi (s : State) (p : Nat) (x : PartState) : (setPart s p x).svi = s.svi := rfl
@[simp] theorem setPart_pe (s : State) (p : Nat) (x : PartState) : (setPart s p x).pe = s.pe := rfl
@[simp] theorem setPart_stn (s : State) (p : Nat) (x : PartState) : (setPart s p x).stn = s.stn := rfl
@[simp] theorem setPart_dpy (s : State) (p : Nat) (x : PartState) : (setPart s p x).dpy = s.dpy := rfl
@[simp] theorem setPart_sess (s : State) (p : Nat) (x : PartState) : (setPart s p x).sess = s.sess := rfl
@[simp] theorem rd_setPart (s : State) (p : Nat) (x : PartState) (w : Nat) : rd (setPart s p x) w = rd s w := rfl

@[simp] theorem setClass_pending (s : State) (k : Nat) (x : ClassState) : (setClass s k x).pending = s.pending := rfl
@[simp] theorem setClass_resp (s : State) (k : Nat) (x : ClassState) : (setClass s k x).resp = s.resp := rfl
@[simp] theorem setClass_sent (s : State) (k : Nat) (x : ClassState) : (setClass s k x).sent = s.sent := rfl
@[simp] theorem setClass_freeN (s : State) (k : Nat) (x : ClassState) : (setClass s k x).freeN = s.freeN := rfl
@[simp] theorem setClass_regs (s : State) (k : Nat) (x : ClassState) : (setClass s k x).regs = s.regs := rfl
@[simp] theorem setClass_cfg (s : State) (k : Nat) (x : ClassState) : (setClass s k x).cfg = s.cfg := rfl
@[simp] theorem setClass_grid (s : State) (k : Nat) (x : ClassState) : (setClass s k x).grid = s.grid := rfl
@[simp] theorem setClass_sig (s : State) (k : Nat) (x : ClassState) : (setClass s k x).sig = s.sig := rfl
@[simp] theorem setClass_le (s : State) (k : Nat) (x : ClassState) : (setClass s k x).le = s.le := rfl
@[simp] theorem setClass_fbx (s : State) (k : Nat) (x : ClassState) : (setClass s k x).fbx = s.fbx := rfl
@[simp] theorem setClass_acc (s : State) (k : Nat) (x : ClassState) : (setClass s k x).acc = s.acc := rfl
@[simp] theorem setClass_rcd (s : State) (k : Nat) (x : ClassState) : (setClass s k x).rcd = s.rcd := rfl
@[simp] theorem setClass_pair (s : State) (k : Nat) (x : ClassState) : (setClass s k x).pair = s.pair := rfl
@[simp] theorem setClass_saf (s : State) (k : Nat) (x : ClassState) : (setClass s k x).saf = s.saf := rfl
@[simp] theorem setClass_olc (s : State) (k : Nat) (x : ClassState) : (setClass s k x).olc = s.olc := rfl
@[simp] theorem setClass_frc (s : State) (k : Nat) (x : ClassState) : (setClass s k x).frc = s.frc := rfl
@[simp] theorem setClass_upd (s : State) (k : Nat) (x : ClassState) : (setClass s k x).upd = s.upd := rfl
@[simp] theorem setClass_lio (s : State) (k : Nat) (x : ClassState) : (setClass s k x).lio = s.lio := rfl
@[simp] theorem setClass_chn (s : State) (k : Nat) (x : ClassState) : (setClass s k x).chn = s.chn := rfl
@[simp] theorem setClass_can (s : State) (k : Nat) (x : ClassState) : (setClass s k x).can = s.can := rfl
@[simp] theorem setClass_tim (s : State) (k : Nat) (x : ClassState) : (setClass s k x).tim = s.tim := rfl
@[simp] theorem setClass_hlt (s : State) (k : Nat) (x : ClassState) : (setClass s k x).hlt = s.hlt := rfl
@[simp] theorem setClass_slot (s : State) (k : Nat) (x : ClassState) : (setClass s k x).slot = s.slot := rfl
@[simp] theorem setClass_svi (s : State) (k : Nat) (x : ClassState) : (setClass s k x).svi = s.svi := rfl
@[simp] theorem setClass_pe (s : State) (k : Nat) (x : ClassState) : (setClass s k x).pe = s.pe := rfl
@[simp] theorem setClass_stn (s : State) (k : Nat) (x : ClassState) : (setClass s k x).stn = s.stn := rfl
@[simp] theorem setClass_dpy (s : State) (k : Nat) (x : ClassState) : (setClass s k x).dpy = s.dpy := rfl
@[simp] theorem setClass_sess (s : State) (k : Nat) (x : ClassState) : (setClass s k x).sess = s.sess := rfl
@[simp] theorem rd_setClass (s : State) (k : Nat) (x : ClassState) (w : Nat) : rd (setClass s k x) w = rd s w := rfl

@[simp] theorem setOutput_pending (s : State) (f : Bank → Bank) : (setOutput s f).pending = s.pending := rfl
@[simp] theorem setOutput_resp (s : State) (f : Bank → Bank) : (setOutput s f).resp = s.resp := rfl
@[simp] theorem setOutput_sent (s : State) (f : Bank → Bank) : (setOutput s f).sent = s.sent := rfl
@[simp] theorem setOutput_freeN (s : State) (f : Bank → Bank) : (setOutput s f).freeN = s.freeN := rfl
@[simp] theorem setOutput_regs (s : State) (f : Bank → Bank) : (setOutput s f).regs = s.regs := rfl
@[simp] theorem setOutput_cfg (s : State) (f : Bank → Bank) : (setOutput s f).cfg = s.cfg := rfl
@[simp] theorem setOutput_grid (s : State) (f : Bank → Bank) : (setOutput s f).grid = s.grid := rfl
@[simp] theorem setOutput_sched (s : State) (f : Bank → Bank) : (setOutput s f).sched = s.sched := rfl
@[simp] theorem setOutput_le (s : State) (f : Bank → Bank) : (setOutput s f).le = s.le := rfl
@[simp] theorem setOutput_fbx (s : State) (f : Bank → Bank) : (setOutput s f).fbx = s.fbx := rfl
@[simp] theorem setOutput_acc (s : State) (f : Bank → Bank) : (setOutput s f).acc = s.acc := rfl
@[simp] theorem setOutput_rcd (s : State) (f : Bank → Bank) : (setOutput s f).rcd = s.rcd := rfl
@[simp] theorem setOutput_pair (s : State) (f : Bank → Bank) : (setOutput s f).pair = s.pair := rfl
@[simp] theorem setOutput_saf (s : State) (f : Bank → Bank) : (setOutput s f).saf = s.saf := rfl
@[simp] theorem setOutput_olc (s : State) (f : Bank → Bank) : (setOutput s f).olc = s.olc := rfl
@[simp] theorem setOutput_frc (s : State) (f : Bank → Bank) : (setOutput s f).frc = s.frc := rfl
@[simp] theorem setOutput_upd (s : State) (f : Bank → Bank) : (setOutput s f).upd = s.upd := rfl
@[simp] theorem setOutput_lio (s : State) (f : Bank → Bank) : (setOutput s f).lio = s.lio := rfl
@[simp] theorem setOutput_chn (s : State) (f : Bank → Bank) : (setOutput s f).chn = s.chn := rfl
@[simp] theorem setOutput_can (s : State) (f : Bank → Bank) : (setOutput s f).can = s.can := rfl
@[simp] theorem setOutput_tim (s : State) (f : Bank → Bank) : (setOutput s f).tim = s.tim := rfl
@[simp] theorem setOutput_hlt (s : State) (f : Bank → Bank) : (setOutput s f).hlt = s.hlt := rfl
@[simp] theorem setOutput_slot (s : State) (f : Bank → Bank) : (setOutput s f).slot = s.slot := rfl
@[simp] theorem setOutput_svi (s : State) (f : Bank → Bank) : (setOutput s f).svi = s.svi := rfl
@[simp] theorem setOutput_pe (s : State) (f : Bank → Bank) : (setOutput s f).pe = s.pe := rfl
@[simp] theorem setOutput_stn (s : State) (f : Bank → Bank) : (setOutput s f).stn = s.stn := rfl
@[simp] theorem setOutput_dpy (s : State) (f : Bank → Bank) : (setOutput s f).dpy = s.dpy := rfl
@[simp] theorem setOutput_sess (s : State) (f : Bank → Bank) : (setOutput s f).sess = s.sess := rfl
@[simp] theorem rd_setOutput (s : State) (f : Bank → Bank) (w : Nat) : rd (setOutput s f) w = rd s w := rfl

@[simp] theorem setPair_pending (s : State) (f : PairState → PairState) : (setPair s f).pending = s.pending := rfl
@[simp] theorem setPair_resp (s : State) (f : PairState → PairState) : (setPair s f).resp = s.resp := rfl
@[simp] theorem setPair_sent (s : State) (f : PairState → PairState) : (setPair s f).sent = s.sent := rfl
@[simp] theorem setPair_freeN (s : State) (f : PairState → PairState) : (setPair s f).freeN = s.freeN := rfl
@[simp] theorem setPair_regs (s : State) (f : PairState → PairState) : (setPair s f).regs = s.regs := rfl
@[simp] theorem setPair_cfg (s : State) (f : PairState → PairState) : (setPair s f).cfg = s.cfg := rfl
@[simp] theorem setPair_grid (s : State) (f : PairState → PairState) : (setPair s f).grid = s.grid := rfl
@[simp] theorem setPair_sig (s : State) (f : PairState → PairState) : (setPair s f).sig = s.sig := rfl
@[simp] theorem setPair_sched (s : State) (f : PairState → PairState) : (setPair s f).sched = s.sched := rfl
@[simp] theorem setPair_le (s : State) (f : PairState → PairState) : (setPair s f).le = s.le := rfl
@[simp] theorem setPair_fbx (s : State) (f : PairState → PairState) : (setPair s f).fbx = s.fbx := rfl
@[simp] theorem setPair_acc (s : State) (f : PairState → PairState) : (setPair s f).acc = s.acc := rfl
@[simp] theorem setPair_rcd (s : State) (f : PairState → PairState) : (setPair s f).rcd = s.rcd := rfl
@[simp] theorem setPair_saf (s : State) (f : PairState → PairState) : (setPair s f).saf = s.saf := rfl
@[simp] theorem setPair_olc (s : State) (f : PairState → PairState) : (setPair s f).olc = s.olc := rfl
@[simp] theorem setPair_frc (s : State) (f : PairState → PairState) : (setPair s f).frc = s.frc := rfl
@[simp] theorem setPair_upd (s : State) (f : PairState → PairState) : (setPair s f).upd = s.upd := rfl
@[simp] theorem setPair_lio (s : State) (f : PairState → PairState) : (setPair s f).lio = s.lio := rfl
@[simp] theorem setPair_chn (s : State) (f : PairState → PairState) : (setPair s f).chn = s.chn := rfl
@[simp] theorem setPair_can (s : State) (f : PairState → PairState) : (setPair s f).can = s.can := rfl
@[simp] theorem setPair_tim (s : State) (f : PairState → PairState) : (setPair s f).tim = s.tim := rfl
@[simp] theorem setPair_hlt (s : State) (f : PairState → PairState) : (setPair s f).hlt = s.hlt := rfl
@[simp] theorem setPair_slot (s : State) (f : PairState → PairState) : (setPair s f).slot = s.slot := rfl
@[simp] theorem setPair_svi (s : State) (f : PairState → PairState) : (setPair s f).svi = s.svi := rfl
@[simp] theorem setPair_pe (s : State) (f : PairState → PairState) : (setPair s f).pe = s.pe := rfl
@[simp] theorem setPair_stn (s : State) (f : PairState → PairState) : (setPair s f).stn = s.stn := rfl
@[simp] theorem setPair_dpy (s : State) (f : PairState → PairState) : (setPair s f).dpy = s.dpy := rfl
@[simp] theorem setPair_sess (s : State) (f : PairState → PairState) : (setPair s f).sess = s.sess := rfl
@[simp] theorem rd_setPair (s : State) (f : PairState → PairState) (w : Nat) : rd (setPair s f) w = rd s w := rfl

@[simp] theorem setSaf_pending (s : State) (f : SafState → SafState) : (setSaf s f).pending = s.pending := rfl
@[simp] theorem setSaf_resp (s : State) (f : SafState → SafState) : (setSaf s f).resp = s.resp := rfl
@[simp] theorem setSaf_sent (s : State) (f : SafState → SafState) : (setSaf s f).sent = s.sent := rfl
@[simp] theorem setSaf_freeN (s : State) (f : SafState → SafState) : (setSaf s f).freeN = s.freeN := rfl
@[simp] theorem setSaf_regs (s : State) (f : SafState → SafState) : (setSaf s f).regs = s.regs := rfl
@[simp] theorem setSaf_cfg (s : State) (f : SafState → SafState) : (setSaf s f).cfg = s.cfg := rfl
@[simp] theorem setSaf_grid (s : State) (f : SafState → SafState) : (setSaf s f).grid = s.grid := rfl
@[simp] theorem setSaf_sig (s : State) (f : SafState → SafState) : (setSaf s f).sig = s.sig := rfl
@[simp] theorem setSaf_sched (s : State) (f : SafState → SafState) : (setSaf s f).sched = s.sched := rfl
@[simp] theorem setSaf_le (s : State) (f : SafState → SafState) : (setSaf s f).le = s.le := rfl
@[simp] theorem setSaf_fbx (s : State) (f : SafState → SafState) : (setSaf s f).fbx = s.fbx := rfl
@[simp] theorem setSaf_acc (s : State) (f : SafState → SafState) : (setSaf s f).acc = s.acc := rfl
@[simp] theorem setSaf_rcd (s : State) (f : SafState → SafState) : (setSaf s f).rcd = s.rcd := rfl
@[simp] theorem setSaf_pair (s : State) (f : SafState → SafState) : (setSaf s f).pair = s.pair := rfl
@[simp] theorem setSaf_olc (s : State) (f : SafState → SafState) : (setSaf s f).olc = s.olc := rfl
@[simp] theorem setSaf_frc (s : State) (f : SafState → SafState) : (setSaf s f).frc = s.frc := rfl
@[simp] theorem setSaf_upd (s : State) (f : SafState → SafState) : (setSaf s f).upd = s.upd := rfl
@[simp] theorem setSaf_lio (s : State) (f : SafState → SafState) : (setSaf s f).lio = s.lio := rfl
@[simp] theorem setSaf_chn (s : State) (f : SafState → SafState) : (setSaf s f).chn = s.chn := rfl
@[simp] theorem setSaf_can (s : State) (f : SafState → SafState) : (setSaf s f).can = s.can := rfl
@[simp] theorem setSaf_tim (s : State) (f : SafState → SafState) : (setSaf s f).tim = s.tim := rfl
@[simp] theorem setSaf_hlt (s : State) (f : SafState → SafState) : (setSaf s f).hlt = s.hlt := rfl
@[simp] theorem setSaf_slot (s : State) (f : SafState → SafState) : (setSaf s f).slot = s.slot := rfl
@[simp] theorem setSaf_svi (s : State) (f : SafState → SafState) : (setSaf s f).svi = s.svi := rfl
@[simp] theorem setSaf_pe (s : State) (f : SafState → SafState) : (setSaf s f).pe = s.pe := rfl
@[simp] theorem setSaf_stn (s : State) (f : SafState → SafState) : (setSaf s f).stn = s.stn := rfl
@[simp] theorem setSaf_dpy (s : State) (f : SafState → SafState) : (setSaf s f).dpy = s.dpy := rfl
@[simp] theorem setSaf_sess (s : State) (f : SafState → SafState) : (setSaf s f).sess = s.sess := rfl
@[simp] theorem rd_setSaf (s : State) (f : SafState → SafState) (w : Nat) : rd (setSaf s f) w = rd s w := rfl

@[simp] theorem setOlc_pending (s : State) (f : OlcState → OlcState) : (setOlc s f).pending = s.pending := rfl
@[simp] theorem setOlc_resp (s : State) (f : OlcState → OlcState) : (setOlc s f).resp = s.resp := rfl
@[simp] theorem setOlc_sent (s : State) (f : OlcState → OlcState) : (setOlc s f).sent = s.sent := rfl
@[simp] theorem setOlc_freeN (s : State) (f : OlcState → OlcState) : (setOlc s f).freeN = s.freeN := rfl
@[simp] theorem setOlc_regs (s : State) (f : OlcState → OlcState) : (setOlc s f).regs = s.regs := rfl
@[simp] theorem setOlc_cfg (s : State) (f : OlcState → OlcState) : (setOlc s f).cfg = s.cfg := rfl
@[simp] theorem setOlc_grid (s : State) (f : OlcState → OlcState) : (setOlc s f).grid = s.grid := rfl
@[simp] theorem setOlc_sig (s : State) (f : OlcState → OlcState) : (setOlc s f).sig = s.sig := rfl
@[simp] theorem setOlc_sched (s : State) (f : OlcState → OlcState) : (setOlc s f).sched = s.sched := rfl
@[simp] theorem setOlc_le (s : State) (f : OlcState → OlcState) : (setOlc s f).le = s.le := rfl
@[simp] theorem setOlc_fbx (s : State) (f : OlcState → OlcState) : (setOlc s f).fbx = s.fbx := rfl
@[simp] theorem setOlc_acc (s : State) (f : OlcState → OlcState) : (setOlc s f).acc = s.acc := rfl
@[simp] theorem setOlc_rcd (s : State) (f : OlcState → OlcState) : (setOlc s f).rcd = s.rcd := rfl
@[simp] theorem setOlc_pair (s : State) (f : OlcState → OlcState) : (setOlc s f).pair = s.pair := rfl
@[simp] theorem setOlc_saf (s : State) (f : OlcState → OlcState) : (setOlc s f).saf = s.saf := rfl
@[simp] theorem setOlc_frc (s : State) (f : OlcState → OlcState) : (setOlc s f).frc = s.frc := rfl
@[simp] theorem setOlc_upd (s : State) (f : OlcState → OlcState) : (setOlc s f).upd = s.upd := rfl
@[simp] theorem setOlc_lio (s : State) (f : OlcState → OlcState) : (setOlc s f).lio = s.lio := rfl
@[simp] theorem setOlc_chn (s : State) (f : OlcState → OlcState) : (setOlc s f).chn = s.chn := rfl
@[simp] theorem setOlc_can (s : State) (f : OlcState → OlcState) : (setOlc s f).can = s.can := rfl
@[simp] theorem setOlc_tim (s : State) (f : OlcState → OlcState) : (setOlc s f).tim = s.tim := rfl
@[simp] theorem setOlc_hlt (s : State) (f : OlcState → OlcState) : (setOlc s f).hlt = s.hlt := rfl
@[simp] theorem setOlc_slot (s : State) (f : OlcState → OlcState) : (setOlc s f).slot = s.slot := rfl
@[simp] theorem setOlc_svi (s : State) (f : OlcState → OlcState) : (setOlc s f).svi = s.svi := rfl
@[simp] theorem setOlc_pe (s : State) (f : OlcState → OlcState) : (setOlc s f).pe = s.pe := rfl
@[simp] theorem setOlc_stn (s : State) (f : OlcState → OlcState) : (setOlc s f).stn = s.stn := rfl
@[simp] theorem setOlc_dpy (s : State) (f : OlcState → OlcState) : (setOlc s f).dpy = s.dpy := rfl
@[simp] theorem setOlc_sess (s : State) (f : OlcState → OlcState) : (setOlc s f).sess = s.sess := rfl
@[simp] theorem rd_setOlc (s : State) (f : OlcState → OlcState) (w : Nat) : rd (setOlc s f) w = rd s w := rfl

@[simp] theorem setUpd_pending (s : State) (f : UpdState → UpdState) : (setUpd s f).pending = s.pending := rfl
@[simp] theorem setUpd_resp (s : State) (f : UpdState → UpdState) : (setUpd s f).resp = s.resp := rfl
@[simp] theorem setUpd_sent (s : State) (f : UpdState → UpdState) : (setUpd s f).sent = s.sent := rfl
@[simp] theorem setUpd_freeN (s : State) (f : UpdState → UpdState) : (setUpd s f).freeN = s.freeN := rfl
@[simp] theorem setUpd_regs (s : State) (f : UpdState → UpdState) : (setUpd s f).regs = s.regs := rfl
@[simp] theorem setUpd_cfg (s : State) (f : UpdState → UpdState) : (setUpd s f).cfg = s.cfg := rfl
@[simp] theorem setUpd_grid (s : State) (f : UpdState → UpdState) : (setUpd s f).grid = s.grid := rfl
@[simp] theorem setUpd_sig (s : State) (f : UpdState → UpdState) : (setUpd s f).sig = s.sig := rfl
@[simp] theorem setUpd_sched (s : State) (f : UpdState → UpdState) : (setUpd s f).sched = s.sched := rfl
@[simp] theorem setUpd_le (s : State) (f : UpdState → UpdState) : (setUpd s f).le = s.le := rfl
@[simp] theorem setUpd_fbx (s : State) (f : UpdState → UpdState) : (setUpd s f).fbx = s.fbx := rfl
@[simp] theorem setUpd_acc (s : State) (f : UpdState → UpdState) : (setUpd s f).acc = s.acc := rfl
@[simp] theorem setUpd_rcd (s : State) (f : UpdState → UpdState) : (setUpd s f).rcd = s.rcd := rfl
@[simp] theorem setUpd_pair (s : State) (f : UpdState → UpdState) : (setUpd s f).pair = s.pair := rfl
@[simp] theorem setUpd_saf (s : State) (f : UpdState → UpdState) : (setUpd s f).saf = s.saf := rfl
@[simp] theorem setUpd_olc (s : State) (f : UpdState → UpdState) : (setUpd s f).olc = s.olc := rfl
@[simp] theorem setUpd_frc (s : State) (f : UpdState → UpdState) : (setUpd s f).frc = s.frc := rfl
@[simp] theorem setUpd_lio (s : State) (f : UpdState → UpdState) : (setUpd s f).lio = s.lio := rfl
@[simp] theorem setUpd_chn (s : State) (f : UpdState → UpdState) : (setUpd s f).chn = s.chn := rfl
@[simp] theorem setUpd_can (s : State) (f : UpdState → UpdState) : (setUpd s f).can = s.can := rfl
@[simp] theorem setUpd_tim (s : State) (f : UpdState → UpdState) : (setUpd s f).tim = s.tim := rfl
@[simp] theorem setUpd_hlt (s : State) (f : UpdState → UpdState) : (setUpd s f).hlt = s.hlt := rfl
@[simp] theorem setUpd_slot (s : State) (f : UpdState → UpdState) : (setUpd s f).slot = s.slot := rfl
@[simp] theorem setUpd_svi (s : State) (f : UpdState → UpdState) : (setUpd s f).svi = s.svi := rfl
@[simp] theorem setUpd_pe (s : State) (f : UpdState → UpdState) : (setUpd s f).pe = s.pe := rfl
@[simp] theorem setUpd_stn (s : State) (f : UpdState → UpdState) : (setUpd s f).stn = s.stn := rfl
@[simp] theorem setUpd_dpy (s : State) (f : UpdState → UpdState) : (setUpd s f).dpy = s.dpy := rfl
@[simp] theorem setUpd_sess (s : State) (f : UpdState → UpdState) : (setUpd s f).sess = s.sess := rfl
@[simp] theorem rd_setUpd (s : State) (f : UpdState → UpdState) (w : Nat) : rd (setUpd s f) w = rd s w := rfl

@[simp] theorem setLio_pending (s : State) (f : LioState → LioState) : (setLio s f).pending = s.pending := rfl
@[simp] theorem setLio_resp (s : State) (f : LioState → LioState) : (setLio s f).resp = s.resp := rfl
@[simp] theorem setLio_sent (s : State) (f : LioState → LioState) : (setLio s f).sent = s.sent := rfl
@[simp] theorem setLio_freeN (s : State) (f : LioState → LioState) : (setLio s f).freeN = s.freeN := rfl
@[simp] theorem setLio_regs (s : State) (f : LioState → LioState) : (setLio s f).regs = s.regs := rfl
@[simp] theorem setLio_cfg (s : State) (f : LioState → LioState) : (setLio s f).cfg = s.cfg := rfl
@[simp] theorem setLio_grid (s : State) (f : LioState → LioState) : (setLio s f).grid = s.grid := rfl
@[simp] theorem setLio_sig (s : State) (f : LioState → LioState) : (setLio s f).sig = s.sig := rfl
@[simp] theorem setLio_sched (s : State) (f : LioState → LioState) : (setLio s f).sched = s.sched := rfl
@[simp] theorem setLio_le (s : State) (f : LioState → LioState) : (setLio s f).le = s.le := rfl
@[simp] theorem setLio_fbx (s : State) (f : LioState → LioState) : (setLio s f).fbx = s.fbx := rfl
@[simp] theorem setLio_acc (s : State) (f : LioState → LioState) : (setLio s f).acc = s.acc := rfl
@[simp] theorem setLio_rcd (s : State) (f : LioState → LioState) : (setLio s f).rcd = s.rcd := rfl
@[simp] theorem setLio_pair (s : State) (f : LioState → LioState) : (setLio s f).pair = s.pair := rfl
@[simp] theorem setLio_saf (s : State) (f : LioState → LioState) : (setLio s f).saf = s.saf := rfl
@[simp] theorem setLio_olc (s : State) (f : LioState → LioState) : (setLio s f).olc = s.olc := rfl
@[simp] theorem setLio_frc (s : State) (f : LioState → LioState) : (setLio s f).frc = s.frc := rfl
@[simp] theorem setLio_upd (s : State) (f : LioState → LioState) : (setLio s f).upd = s.upd := rfl
@[simp] theorem setLio_chn (s : State) (f : LioState → LioState) : (setLio s f).chn = s.chn := rfl
@[simp] theorem setLio_can (s : State) (f : LioState → LioState) : (setLio s f).can = s.can := rfl
@[simp] theorem setLio_tim (s : State) (f : LioState → LioState) : (setLio s f).tim = s.tim := rfl
@[simp] theorem setLio_hlt (s : State) (f : LioState → LioState) : (setLio s f).hlt = s.hlt := rfl
@[simp] theorem setLio_slot (s : State) (f : LioState → LioState) : (setLio s f).slot = s.slot := rfl
@[simp] theorem setLio_svi (s : State) (f : LioState → LioState) : (setLio s f).svi = s.svi := rfl
@[simp] theorem setLio_pe (s : State) (f : LioState → LioState) : (setLio s f).pe = s.pe := rfl
@[simp] theorem setLio_stn (s : State) (f : LioState → LioState) : (setLio s f).stn = s.stn := rfl
@[simp] theorem setLio_dpy (s : State) (f : LioState → LioState) : (setLio s f).dpy = s.dpy := rfl
@[simp] theorem setLio_sess (s : State) (f : LioState → LioState) : (setLio s f).sess = s.sess := rfl
@[simp] theorem rd_setLio (s : State) (f : LioState → LioState) (w : Nat) : rd (setLio s f) w = rd s w := rfl

@[simp] theorem setChn_pending (s : State) (f : ChnState → ChnState) : (setChn s f).pending = s.pending := rfl
@[simp] theorem setChn_resp (s : State) (f : ChnState → ChnState) : (setChn s f).resp = s.resp := rfl
@[simp] theorem setChn_sent (s : State) (f : ChnState → ChnState) : (setChn s f).sent = s.sent := rfl
@[simp] theorem setChn_freeN (s : State) (f : ChnState → ChnState) : (setChn s f).freeN = s.freeN := rfl
@[simp] theorem setChn_regs (s : State) (f : ChnState → ChnState) : (setChn s f).regs = s.regs := rfl
@[simp] theorem setChn_cfg (s : State) (f : ChnState → ChnState) : (setChn s f).cfg = s.cfg := rfl
@[simp] theorem setChn_grid (s : State) (f : ChnState → ChnState) : (setChn s f).grid = s.grid := rfl
@[simp] theorem setChn_sig (s : State) (f : ChnState → ChnState) : (setChn s f).sig = s.sig := rfl
@[simp] theorem setChn_sched (s : State) (f : ChnState → ChnState) : (setChn s f).sched = s.sched := rfl
@[simp] theorem setChn_le (s : State) (f : ChnState → ChnState) : (setChn s f).le = s.le := rfl
@[simp] theorem setChn_fbx (s : State) (f : ChnState → ChnState) : (setChn s f).fbx = s.fbx := rfl
@[simp] theorem setChn_acc (s : State) (f : ChnState → ChnState) : (setChn s f).acc = s.acc := rfl
@[simp] theorem setChn_rcd (s : State) (f : ChnState → ChnState) : (setChn s f).rcd = s.rcd := rfl
@[simp] theorem setChn_pair (s : State) (f : ChnState → ChnState) : (setChn s f).pair = s.pair := rfl
@[simp] theorem setChn_saf (s : State) (f : ChnState → ChnState) : (setChn s f).saf = s.saf := rfl
@[simp] theorem setChn_olc (s : State) (f : ChnState → ChnState) : (setChn s f).olc = s.olc := rfl
@[simp] theorem setChn_frc (s : State) (f : ChnState → ChnState) : (setChn s f).frc = s.frc := rfl
@[simp] theorem setChn_upd (s : State) (f : ChnState → ChnState) : (setChn s f).upd = s.upd := rfl
@[simp] theorem setChn_lio (s : State) (f : ChnState → ChnState) : (setChn s f).lio = s.lio := rfl
@[simp] theorem setChn_can (s : State) (f : ChnState → ChnState) : (setChn s f).can = s.can := rfl
@[simp] theorem setChn_tim (s : State) (f : ChnState → ChnState) : (setChn s f).tim = s.tim := rfl
@[simp] theorem setChn_hlt (s : State) (f : ChnState → ChnState) : (setChn s f).hlt = s.hlt := rfl
@[simp] theorem setChn_slot (s : State) (f : ChnState → ChnState) : (setChn s f).slot = s.slot := rfl
@[simp] theorem setChn_svi (s : State) (f : ChnState → ChnState) : (setChn s f).svi = s.svi := rfl
@[simp] theorem setChn_pe (s : State) (f : ChnState → ChnState) : (setChn s f).pe = s.pe := rfl
@[simp] theorem setChn_stn (s : State) (f : ChnState → ChnState) : (setChn s f).stn = s.stn := rfl
@[simp] theorem setChn_dpy (s : State) (f : ChnState → ChnState) : (setChn s f).dpy = s.dpy := rfl
@[simp] theorem setChn_sess (s : State) (f : ChnState → ChnState) : (setChn s f).sess = s.sess := rfl
@[simp] theorem rd_setChn (s : State) (f : ChnState → ChnState) (w : Nat) : rd (setChn s f) w = rd s w := rfl

@[simp] theorem setTim_pending (s : State) (f : TimState → TimState) : (setTim s f).pending = s.pending := rfl
@[simp] theorem setTim_resp (s : State) (f : TimState → TimState) : (setTim s f).resp = s.resp := rfl
@[simp] theorem setTim_sent (s : State) (f : TimState → TimState) : (setTim s f).sent = s.sent := rfl
@[simp] theorem setTim_freeN (s : State) (f : TimState → TimState) : (setTim s f).freeN = s.freeN := rfl
@[simp] theorem setTim_regs (s : State) (f : TimState → TimState) : (setTim s f).regs = s.regs := rfl
@[simp] theorem setTim_cfg (s : State) (f : TimState → TimState) : (setTim s f).cfg = s.cfg := rfl
@[simp] theorem setTim_grid (s : State) (f : TimState → TimState) : (setTim s f).grid = s.grid := rfl
@[simp] theorem setTim_sig (s : State) (f : TimState → TimState) : (setTim s f).sig = s.sig := rfl
@[simp] theorem setTim_sched (s : State) (f : TimState → TimState) : (setTim s f).sched = s.sched := rfl
@[simp] theorem setTim_le (s : State) (f : TimState → TimState) : (setTim s f).le = s.le := rfl
@[simp] theorem setTim_fbx (s : State) (f : TimState → TimState) : (setTim s f).fbx = s.fbx := rfl
@[simp] theorem setTim_acc (s : State) (f : TimState → TimState) : (setTim s f).acc = s.acc := rfl
@[simp] theorem setTim_rcd (s : State) (f : TimState → TimState) : (setTim s f).rcd = s.rcd := rfl
@[simp] theorem setTim_pair (s : State) (f : TimState → TimState) : (setTim s f).pair = s.pair := rfl
@[simp] theorem setTim_saf (s : State) (f : TimState → TimState) : (setTim s f).saf = s.saf := rfl
@[simp] theorem setTim_olc (s : State) (f : TimState → TimState) : (setTim s f).olc = s.olc := rfl
@[simp] theorem setTim_frc (s : State) (f : TimState → TimState) : (setTim s f).frc = s.frc := rfl
@[simp] theorem setTim_upd (s : State) (f : TimState → TimState) : (setTim s f).upd = s.upd := rfl
@[simp] theorem setTim_lio (s : State) (f : TimState → TimState) : (setTim s f).lio = s.lio := rfl
@[simp] theorem setTim_chn (s : State) (f : TimState → TimState) : (setTim s f).chn = s.chn := rfl
@[simp] theorem setTim_can (s : State) (f : TimState → TimState) : (setTim s f).can = s.can := rfl
@[simp] theorem setTim_hlt (s : State) (f : TimState → TimState) : (setTim s f).hlt = s.hlt := rfl
@[simp] theorem setTim_slot (s : State) (f : TimState → TimState) : (setTim s f).slot = s.slot := rfl
@[simp] theorem setTim_svi (s : State) (f : TimState → TimState) : (setTim s f).svi = s.svi := rfl
@[simp] theorem setTim_pe (s : State) (f : TimState → TimState) : (setTim s f).pe = s.pe := rfl
@[simp] theorem setTim_stn (s : State) (f : TimState → TimState) : (setTim s f).stn = s.stn := rfl
@[simp] theorem setTim_dpy (s : State) (f : TimState → TimState) : (setTim s f).dpy = s.dpy := rfl
@[simp] theorem setTim_sess (s : State) (f : TimState → TimState) : (setTim s f).sess = s.sess := rfl
@[simp] theorem rd_setTim (s : State) (f : TimState → TimState) (w : Nat) : rd (setTim s f) w = rd s w := rfl

@[simp] theorem setHlt_pending (s : State) (f : HltState → HltState) : (setHlt s f).pending = s.pending := rfl
@[simp] theorem setHlt_resp (s : State) (f : HltState → HltState) : (setHlt s f).resp = s.resp := rfl
@[simp] theorem setHlt_sent (s : State) (f : HltState → HltState) : (setHlt s f).sent = s.sent := rfl
@[simp] theorem setHlt_freeN (s : State) (f : HltState → HltState) : (setHlt s f).freeN = s.freeN := rfl
@[simp] theorem setHlt_regs (s : State) (f : HltState → HltState) : (setHlt s f).regs = s.regs := rfl
@[simp] theorem setHlt_cfg (s : State) (f : HltState → HltState) : (setHlt s f).cfg = s.cfg := rfl
@[simp] theorem setHlt_grid (s : State) (f : HltState → HltState) : (setHlt s f).grid = s.grid := rfl
@[simp] theorem setHlt_sig (s : State) (f : HltState → HltState) : (setHlt s f).sig = s.sig := rfl
@[simp] theorem setHlt_sched (s : State) (f : HltState → HltState) : (setHlt s f).sched = s.sched := rfl
@[simp] theorem setHlt_le (s : State) (f : HltState → HltState) : (setHlt s f).le = s.le := rfl
@[simp] theorem setHlt_fbx (s : State) (f : HltState → HltState) : (setHlt s f).fbx = s.fbx := rfl
@[simp] theorem setHlt_acc (s : State) (f : HltState → HltState) : (setHlt s f).acc = s.acc := rfl
@[simp] theorem setHlt_rcd (s : State) (f : HltState → HltState) : (setHlt s f).rcd = s.rcd := rfl
@[simp] theorem setHlt_pair (s : State) (f : HltState → HltState) : (setHlt s f).pair = s.pair := rfl
@[simp] theorem setHlt_saf (s : State) (f : HltState → HltState) : (setHlt s f).saf = s.saf := rfl
@[simp] theorem setHlt_olc (s : State) (f : HltState → HltState) : (setHlt s f).olc = s.olc := rfl
@[simp] theorem setHlt_frc (s : State) (f : HltState → HltState) : (setHlt s f).frc = s.frc := rfl
@[simp] theorem setHlt_upd (s : State) (f : HltState → HltState) : (setHlt s f).upd = s.upd := rfl
@[simp] theorem setHlt_lio (s : State) (f : HltState → HltState) : (setHlt s f).lio = s.lio := rfl
@[simp] theorem setHlt_chn (s : State) (f : HltState → HltState) : (setHlt s f).chn = s.chn := rfl
@[simp] theorem setHlt_can (s : State) (f : HltState → HltState) : (setHlt s f).can = s.can := rfl
@[simp] theorem setHlt_tim (s : State) (f : HltState → HltState) : (setHlt s f).tim = s.tim := rfl
@[simp] theorem setHlt_slot (s : State) (f : HltState → HltState) : (setHlt s f).slot = s.slot := rfl
@[simp] theorem setHlt_svi (s : State) (f : HltState → HltState) : (setHlt s f).svi = s.svi := rfl
@[simp] theorem setHlt_pe (s : State) (f : HltState → HltState) : (setHlt s f).pe = s.pe := rfl
@[simp] theorem setHlt_stn (s : State) (f : HltState → HltState) : (setHlt s f).stn = s.stn := rfl
@[simp] theorem setHlt_dpy (s : State) (f : HltState → HltState) : (setHlt s f).dpy = s.dpy := rfl
@[simp] theorem setHlt_sess (s : State) (f : HltState → HltState) : (setHlt s f).sess = s.sess := rfl
@[simp] theorem rd_setHlt (s : State) (f : HltState → HltState) (w : Nat) : rd (setHlt s f) w = rd s w := rfl

@[simp] theorem setSlot_pending (s : State) (f : SlotState → SlotState) : (setSlot s f).pending = s.pending := rfl
@[simp] theorem setSlot_resp (s : State) (f : SlotState → SlotState) : (setSlot s f).resp = s.resp := rfl
@[simp] theorem setSlot_sent (s : State) (f : SlotState → SlotState) : (setSlot s f).sent = s.sent := rfl
@[simp] theorem setSlot_freeN (s : State) (f : SlotState → SlotState) : (setSlot s f).freeN = s.freeN := rfl
@[simp] theorem setSlot_regs (s : State) (f : SlotState → SlotState) : (setSlot s f).regs = s.regs := rfl
@[simp] theorem setSlot_cfg (s : State) (f : SlotState → SlotState) : (setSlot s f).cfg = s.cfg := rfl
@[simp] theorem setSlot_grid (s : State) (f : SlotState → SlotState) : (setSlot s f).grid = s.grid := rfl
@[simp] theorem setSlot_sig (s : State) (f : SlotState → SlotState) : (setSlot s f).sig = s.sig := rfl
@[simp] theorem setSlot_sched (s : State) (f : SlotState → SlotState) : (setSlot s f).sched = s.sched := rfl
@[simp] theorem setSlot_le (s : State) (f : SlotState → SlotState) : (setSlot s f).le = s.le := rfl
@[simp] theorem setSlot_fbx (s : State) (f : SlotState → SlotState) : (setSlot s f).fbx = s.fbx := rfl
@[simp] theorem setSlot_acc (s : State) (f : SlotState → SlotState) : (setSlot s f).acc = s.acc := rfl
@[simp] theorem setSlot_rcd (s : State) (f : SlotState → SlotState) : (setSlot s f).rcd = s.rcd := rfl
@[simp] theorem setSlot_pair (s : State) (f : SlotState → SlotState) : (setSlot s f).pair = s.pair := rfl
@[simp] theorem setSlot_saf (s : State) (f : SlotState → SlotState) : (setSlot s f).saf = s.saf := rfl
@[simp] theorem setSlot_olc (s : State) (f : SlotState → SlotState) : (setSlot s f).olc = s.olc := rfl
@[simp] theorem setSlot_frc (s : State) (f : SlotState → SlotState) : (setSlot s f).frc = s.frc := rfl
@[simp] theorem setSlot_upd (s : State) (f : SlotState → SlotState) : (setSlot s f).upd = s.upd := rfl
@[simp] theorem setSlot_lio (s : State) (f : SlotState → SlotState) : (setSlot s f).lio = s.lio := rfl
@[simp] theorem setSlot_chn (s : State) (f : SlotState → SlotState) : (setSlot s f).chn = s.chn := rfl
@[simp] theorem setSlot_can (s : State) (f : SlotState → SlotState) : (setSlot s f).can = s.can := rfl
@[simp] theorem setSlot_tim (s : State) (f : SlotState → SlotState) : (setSlot s f).tim = s.tim := rfl
@[simp] theorem setSlot_hlt (s : State) (f : SlotState → SlotState) : (setSlot s f).hlt = s.hlt := rfl
@[simp] theorem setSlot_svi (s : State) (f : SlotState → SlotState) : (setSlot s f).svi = s.svi := rfl
@[simp] theorem setSlot_pe (s : State) (f : SlotState → SlotState) : (setSlot s f).pe = s.pe := rfl
@[simp] theorem setSlot_stn (s : State) (f : SlotState → SlotState) : (setSlot s f).stn = s.stn := rfl
@[simp] theorem setSlot_dpy (s : State) (f : SlotState → SlotState) : (setSlot s f).dpy = s.dpy := rfl
@[simp] theorem setSlot_sess (s : State) (f : SlotState → SlotState) : (setSlot s f).sess = s.sess := rfl
@[simp] theorem rd_setSlot (s : State) (f : SlotState → SlotState) (w : Nat) : rd (setSlot s f) w = rd s w := rfl

@[simp] theorem setSvi_pending (s : State) (f : SviState → SviState) : (setSvi s f).pending = s.pending := rfl
@[simp] theorem setSvi_resp (s : State) (f : SviState → SviState) : (setSvi s f).resp = s.resp := rfl
@[simp] theorem setSvi_sent (s : State) (f : SviState → SviState) : (setSvi s f).sent = s.sent := rfl
@[simp] theorem setSvi_freeN (s : State) (f : SviState → SviState) : (setSvi s f).freeN = s.freeN := rfl
@[simp] theorem setSvi_regs (s : State) (f : SviState → SviState) : (setSvi s f).regs = s.regs := rfl
@[simp] theorem setSvi_cfg (s : State) (f : SviState → SviState) : (setSvi s f).cfg = s.cfg := rfl
@[simp] theorem setSvi_grid (s : State) (f : SviState → SviState) : (setSvi s f).grid = s.grid := rfl
@[simp] theorem setSvi_sig (s : State) (f : SviState → SviState) : (setSvi s f).sig = s.sig := rfl
@[simp] theorem setSvi_sched (s : State) (f : SviState → SviState) : (setSvi s f).sched = s.sched := rfl
@[simp] theorem setSvi_le (s : State) (f : SviState → SviState) : (setSvi s f).le = s.le := rfl
@[simp] theorem setSvi_fbx (s : State) (f : SviState → SviState) : (setSvi s f).fbx = s.fbx := rfl
@[simp] theorem setSvi_acc (s : State) (f : SviState → SviState) : (setSvi s f).acc = s.acc := rfl
@[simp] theorem setSvi_rcd (s : State) (f : SviState → SviState) : (setSvi s f).rcd = s.rcd := rfl
@[simp] theorem setSvi_pair (s : State) (f : SviState → SviState) : (setSvi s f).pair = s.pair := rfl
@[simp] theorem setSvi_saf (s : State) (f : SviState → SviState) : (setSvi s f).saf = s.saf := rfl
@[simp] theorem setSvi_olc (s : State) (f : SviState → SviState) : (setSvi s f).olc = s.olc := rfl
@[simp] theorem setSvi_frc (s : State) (f : SviState → SviState) : (setSvi s f).frc = s.frc := rfl
@[simp] theorem setSvi_upd (s : State) (f : SviState → SviState) : (setSvi s f).upd = s.upd := rfl
@[simp] theorem setSvi_lio (s : State) (f : SviState → SviState) : (setSvi s f).lio = s.lio := rfl
@[simp] theorem setSvi_chn (s : State) (f : SviState → SviState) : (setSvi s f).chn = s.chn := rfl
@[simp] theorem setSvi_can (s : State) (f : SviState → SviState) : (setSvi s f).can = s.can := rfl
@[simp] theorem setSvi_tim (s : State) (f : SviState → SviState) : (setSvi s f).tim = s.tim := rfl
@[simp] theorem setSvi_hlt (s : State) (f : SviState → SviState) : (setSvi s f).hlt = s.hlt := rfl
@[simp] theorem setSvi_slot (s : State) (f : SviState → SviState) : (setSvi s f).slot = s.slot := rfl
@[simp] theorem setSvi_pe (s : State) (f : SviState → SviState) : (setSvi s f).pe = s.pe := rfl
@[simp] theorem setSvi_stn (s : State) (f : SviState → SviState) : (setSvi s f).stn = s.stn := rfl
@[simp] theorem setSvi_dpy (s : State) (f : SviState → SviState) : (setSvi s f).dpy = s.dpy := rfl
@[simp] theorem setSvi_sess (s : State) (f : SviState → SviState) : (setSvi s f).sess = s.sess := rfl
@[simp] theorem rd_setSvi (s : State) (f : SviState → SviState) (w : Nat) : rd (setSvi s f) w = rd s w := rfl

@[simp] theorem setPe_pending (s : State) (f : PeState → PeState) : (setPe s f).pending = s.pending := rfl
@[simp] theorem setPe_resp (s : State) (f : PeState → PeState) : (setPe s f).resp = s.resp := rfl
@[simp] theorem setPe_sent (s : State) (f : PeState → PeState) : (setPe s f).sent = s.sent := rfl
@[simp] theorem setPe_freeN (s : State) (f : PeState → PeState) : (setPe s f).freeN = s.freeN := rfl
@[simp] theorem setPe_regs (s : State) (f : PeState → PeState) : (setPe s f).regs = s.regs := rfl
@[simp] theorem setPe_cfg (s : State) (f : PeState → PeState) : (setPe s f).cfg = s.cfg := rfl
@[simp] theorem setPe_grid (s : State) (f : PeState → PeState) : (setPe s f).grid = s.grid := rfl
@[simp] theorem setPe_sig (s : State) (f : PeState → PeState) : (setPe s f).sig = s.sig := rfl
@[simp] theorem setPe_sched (s : State) (f : PeState → PeState) : (setPe s f).sched = s.sched := rfl
@[simp] theorem setPe_le (s : State) (f : PeState → PeState) : (setPe s f).le = s.le := rfl
@[simp] theorem setPe_fbx (s : State) (f : PeState → PeState) : (setPe s f).fbx = s.fbx := rfl
@[simp] theorem setPe_acc (s : State) (f : PeState → PeState) : (setPe s f).acc = s.acc := rfl
@[simp] theorem setPe_rcd (s : State) (f : PeState → PeState) : (setPe s f).rcd = s.rcd := rfl
@[simp] theorem setPe_pair (s : State) (f : PeState → PeState) : (setPe s f).pair = s.pair := rfl
@[simp] theorem setPe_saf (s : State) (f : PeState → PeState) : (setPe s f).saf = s.saf := rfl
@[simp] theorem setPe_olc (s : State) (f : PeState → PeState) : (setPe s f).olc = s.olc := rfl
@[simp] theorem setPe_frc (s : State) (f : PeState → PeState) : (setPe s f).frc = s.frc := rfl
@[simp] theorem setPe_upd (s : State) (f : PeState → PeState) : (setPe s f).upd = s.upd := rfl
@[simp] theorem setPe_lio (s : State) (f : PeState → PeState) : (setPe s f).lio = s.lio := rfl
@[simp] theorem setPe_chn (s : State) (f : PeState → PeState) : (setPe s f).chn = s.chn := rfl
@[simp] theorem setPe_can (s : State) (f : PeState → PeState) : (setPe s f).can = s.can := rfl
@[simp] theorem setPe_tim (s : State) (f : PeState → PeState) : (setPe s f).tim = s.tim := rfl
@[simp] theorem setPe_hlt (s : State) (f : PeState → PeState) : (setPe s f).hlt = s.hlt := rfl
@[simp] theorem setPe_slot (s : State) (f : PeState → PeState) : (setPe s f).slot = s.slot := rfl
@[simp] theorem setPe_svi (s : State) (f : PeState → PeState) : (setPe s f).svi = s.svi := rfl
@[simp] theorem setPe_stn (s : State) (f : PeState → PeState) : (setPe s f).stn = s.stn := rfl
@[simp] theorem setPe_dpy (s : State) (f : PeState → PeState) : (setPe s f).dpy = s.dpy := rfl
@[simp] theorem setPe_sess (s : State) (f : PeState → PeState) : (setPe s f).sess = s.sess := rfl
@[simp] theorem rd_setPe (s : State) (f : PeState → PeState) (w : Nat) : rd (setPe s f) w = rd s w := rfl

@[simp] theorem setStn_pending (s : State) (f : StnState → StnState) : (setStn s f).pending = s.pending := rfl
@[simp] theorem setStn_resp (s : State) (f : StnState → StnState) : (setStn s f).resp = s.resp := rfl
@[simp] theorem setStn_sent (s : State) (f : StnState → StnState) : (setStn s f).sent = s.sent := rfl
@[simp] theorem setStn_freeN (s : State) (f : StnState → StnState) : (setStn s f).freeN = s.freeN := rfl
@[simp] theorem setStn_regs (s : State) (f : StnState → StnState) : (setStn s f).regs = s.regs := rfl
@[simp] theorem setStn_cfg (s : State) (f : StnState → StnState) : (setStn s f).cfg = s.cfg := rfl
@[simp] theorem setStn_grid (s : State) (f : StnState → StnState) : (setStn s f).grid = s.grid := rfl
@[simp] theorem setStn_sig (s : State) (f : StnState → StnState) : (setStn s f).sig = s.sig := rfl
@[simp] theorem setStn_sched (s : State) (f : StnState → StnState) : (setStn s f).sched = s.sched := rfl
@[simp] theorem setStn_le (s : State) (f : StnState → StnState) : (setStn s f).le = s.le := rfl
@[simp] theorem setStn_fbx (s : State) (f : StnState → StnState) : (setStn s f).fbx = s.fbx := rfl
@[simp] theorem setStn_acc (s : State) (f : StnState → StnState) : (setStn s f).acc = s.acc := rfl
@[simp] theorem setStn_rcd (s : State) (f : StnState → StnState) : (setStn s f).rcd = s.rcd := rfl
@[simp] theorem setStn_pair (s : State) (f : StnState → StnState) : (setStn s f).pair = s.pair := rfl
@[simp] theorem setStn_saf (s : State) (f : StnState → StnState) : (setStn s f).saf = s.saf := rfl
@[simp] theorem setStn_olc (s : State) (f : StnState → StnState) : (setStn s f).olc = s.olc := rfl
@[simp] theorem setStn_frc (s : State) (f : StnState → StnState) : (setStn s f).frc = s.frc := rfl
@[simp] theorem setStn_upd (s : State) (f : StnState → StnState) : (setStn s f).upd = s.upd := rfl
@[simp] theorem setStn_lio (s : State) (f : StnState → StnState) : (setStn s f).lio = s.lio := rfl
@[simp] theorem setStn_chn (s : State) (f : StnState → StnState) : (setStn s f).chn = s.chn := rfl
@[simp] theorem setStn_can (s : State) (f : StnState → StnState) : (setStn s f).can = s.can := rfl
@[simp] theorem setStn_tim (s : State) (f : StnState → StnState) : (setStn s f).tim = s.tim := rfl
@[simp] theorem setStn_hlt (s : State) (f : StnState → StnState) : (setStn s f).hlt = s.hlt := rfl
@[simp] theorem setStn_slot (s : State) (f : StnState → StnState) : (setStn s f).slot = s.slot := rfl
@[simp] theorem setStn_svi (s : State) (f : StnState → StnState) : (setStn s f).svi = s.svi := rfl
@[simp] theorem setStn_pe (s : State) (f : StnState → StnState) : (setStn s f).pe = s.pe := rfl
@[simp] theorem setStn_dpy (s : State) (f : StnState → StnState) : (setStn s f).dpy = s.dpy := rfl
@[simp] theorem setStn_sess (s : State) (f : StnState → StnState) : (setStn s f).sess = s.sess := rfl
@[simp] theorem rd_setStn (s : State) (f : StnState → StnState) (w : Nat) : rd (setStn s f) w = rd s w := rfl

@[simp] theorem setDpy_pending (s : State) (f : DpyState → DpyState) : (setDpy s f).pending = s.pending := rfl
@[simp] theorem setDpy_resp (s : State) (f : DpyState → DpyState) : (setDpy s f).resp = s.resp := rfl
@[simp] theorem setDpy_sent (s : State) (f : DpyState → DpyState) : (setDpy s f).sent = s.sent := rfl
@[simp] theorem setDpy_freeN (s : State) (f : DpyState → DpyState) : (setDpy s f).freeN = s.freeN := rfl
@[simp] theorem setDpy_regs (s : State) (f : DpyState → DpyState) : (setDpy s f).regs = s.regs := rfl
@[simp] theorem setDpy_cfg (s : State) (f : DpyState → DpyState) : (setDpy s f).cfg = s.cfg := rfl
@[simp] theorem setDpy_grid (s : State) (f : DpyState → DpyState) : (setDpy s f).grid = s.grid := rfl
@[simp] theorem setDpy_sig (s : State) (f : DpyState → DpyState) : (setDpy s f).sig = s.sig := rfl
@[simp] theorem setDpy_sched (s : State) (f : DpyState → DpyState) : (setDpy s f).sched = s.sched := rfl
@[simp] theorem setDpy_le (s : State) (f : DpyState → DpyState) : (setDpy s f).le = s.le := rfl
@[simp] theorem setDpy_fbx (s : State) (f : DpyState → DpyState) : (setDpy s f).fbx = s.fbx := rfl
@[simp] theorem setDpy_acc (s : State) (f : DpyState → DpyState) : (setDpy s f).acc = s.acc := rfl
@[simp] theorem setDpy_rcd (s : State) (f : DpyState → DpyState) : (setDpy s f).rcd = s.rcd := rfl
@[simp] theorem setDpy_pair (s : State) (f : DpyState → DpyState) : (setDpy s f).pair = s.pair := rfl
@[simp] theorem setDpy_saf (s : State) (f : DpyState → DpyState) : (setDpy s f).saf = s.saf := rfl
@[simp] theorem setDpy_olc (s : State) (f : DpyState → DpyState) : (setDpy s f).olc = s.olc := rfl
@[simp] theorem setDpy_frc (s : State) (f : DpyState → DpyState) : (setDpy s f).frc = s.frc := rfl
@[simp] theorem setDpy_upd (s : State) (f : DpyState → DpyState) : (setDpy s f).upd = s.upd := rfl
@[simp] theorem setDpy_lio (s : State) (f : DpyState → DpyState) : (setDpy s f).lio = s.lio := rfl
@[simp] theorem setDpy_chn (s : State) (f : DpyState → DpyState) : (setDpy s f).chn = s.chn := rfl
@[simp] theorem setDpy_can (s : State) (f : DpyState → DpyState) : (setDpy s f).can = s.can := rfl
@[simp] theorem setDpy_tim (s : State) (f : DpyState → DpyState) : (setDpy s f).tim = s.tim := rfl
@[simp] theorem setDpy_hlt (s : State) (f : DpyState → DpyState) : (setDpy s f).hlt = s.hlt := rfl
@[simp] theorem setDpy_slot (s : State) (f : DpyState → DpyState) : (setDpy s f).slot = s.slot := rfl
@[simp] theorem setDpy_svi (s : State) (f : DpyState → DpyState) : (setDpy s f).svi = s.svi := rfl
@[simp] theorem setDpy_pe (s : State) (f : DpyState → DpyState) : (setDpy s f).pe = s.pe := rfl
@[simp] theorem setDpy_stn (s : State) (f : DpyState → DpyState) : (setDpy s f).stn = s.stn := rfl
@[simp] theorem setDpy_sess (s : State) (f : DpyState → DpyState) : (setDpy s f).sess = s.sess := rfl
@[simp] theorem rd_setDpy (s : State) (f : DpyState → DpyState) (w : Nat) : rd (setDpy s f) w = rd s w := rfl

@[simp] theorem setCan_pending (s : State) (c : Nat) (x : CanCtl) : (setCan s c x).pending = s.pending := rfl
@[simp] theorem setCan_resp (s : State) (c : Nat) (x : CanCtl) : (setCan s c x).resp = s.resp := rfl
@[simp] theorem setCan_sent (s : State) (c : Nat) (x : CanCtl) : (setCan s c x).sent = s.sent := rfl
@[simp] theorem setCan_freeN (s : State) (c : Nat) (x : CanCtl) : (setCan s c x).freeN = s.freeN := rfl
@[simp] theorem setCan_regs (s : State) (c : Nat) (x : CanCtl) : (setCan s c x).regs = s.regs := rfl
@[simp] theorem setCan_cfg (s : State) (c : Nat) (x : CanCtl) : (setCan s c x).cfg = s.cfg := rfl
@[simp] theorem setCan_grid (s : State) (c : Nat) (x : CanCtl) : (setCan s c x).grid = s.grid := rfl
@[simp] theorem setCan_sig (s : State) (c : Nat) (x : CanCtl) : (setCan s c x).sig = s.sig := rfl
@[simp] theorem setCan_sched (s : State) (c : Nat) (x : CanCtl) : (setCan s c x).sched = s.sched := rfl
@[simp] theorem setCan_le (s : State) (c : Nat) (x : CanCtl) : (setCan s c x).le = s.le := rfl
@[simp] theorem setCan_fbx (s : State) (c : Nat) (x : CanCtl) : (setCan s c x).fbx = s.fbx := rfl
@[simp] theorem setCan_acc (s : State) (c : Nat) (x : CanCtl) : (setCan s c x).acc = s.acc := rfl
@[simp] theorem setCan_rcd (s : State) (c : Nat) (x : CanCtl) : (setCan s c x).rcd = s.rcd := rfl
@[simp] theorem setCan_pair (s : State) (c : Nat) (x : CanCtl) : (setCan s c x).pair = s.pair := rfl
@[simp] theorem setCan_saf (s : State) (c : Nat) (x : CanCtl) : (setCan s c x).saf = s.saf := rfl
@[simp] theorem setCan_olc (s : State) (c : Nat) (x : CanCtl) : (setCan s c x).olc = s.olc := rfl
@[simp] theorem setCan_frc (s : State) (c : Nat) (x : CanCtl) : (setCan s c x).frc = s.frc := rfl
@[simp] theorem setCan_upd (s : State) (c : Nat) (x : CanCtl) : (setCan s c x).upd = s.upd := rfl
@[simp] theorem setCan_lio (s : State) (c : Nat) (x : CanCtl) : (setCan s c x).lio = s.lio := rfl
@[simp] theorem setCan_chn (s : State) (c : Nat) (x : CanCtl) : (setCan s c x).chn = s.chn := rfl
@[simp] theorem setCan_tim (s : State) (c : Nat) (x : CanCtl) : (setCan s c x).tim = s.tim := rfl
@[simp] theorem setCan_hlt (s : State) (c : Nat) (x : CanCtl) : (setCan s c x).hlt = s.hlt := rfl
@[simp] theorem setCan_slot (s : State) (c : Nat) (x : CanCtl) : (setCan s c x).slot = s.slot := rfl
@[simp] theorem setCan_svi (s : State) (c : Nat) (x : CanCtl) : (setCan s c x).svi = s.svi := rfl
@[simp] theorem setCan_pe (s : State) (c : Nat) (x : CanCtl) : (setCan s c x).pe = s.pe := rfl
@[simp] theorem setCan_stn (s : State) (c : Nat) (x : CanCtl) : (setCan s c x).stn = s.stn := rfl
@[simp] theorem setCan_dpy (s : State) (c : Nat) (x : CanCtl) : (setCan s c x).dpy = s.dpy := rfl
@[simp] theorem setCan_sess (s : State) (c : Nat) (x : CanCtl) : (setCan s c x).sess = s.sess := rfl
@[simp] theorem rd_setCan (s : State) (c : Nat) (x : CanCtl) (w : Nat) : rd (setCan s c x) w = rd s w := rfl

/-! ### What is set -/

@[simp] theorem answer_resp (s : State) (r : Resp) : (answer s r).resp = r := rfl
@[simp] theorem setPair_pair (s : State) (f : PairState → PairState) : (setPair s f).pair = f s.pair := rfl
@[simp] theorem setSaf_saf (s : State) (f : SafState → SafState) : (setSaf s f).saf = f s.saf := rfl
@[simp] theorem setOlc_olc (s : State) (f : OlcState → OlcState) : (setOlc s f).olc = f s.olc := rfl
@[simp] theorem setUpd_upd (s : State) (f : UpdState → UpdState) : (setUpd s f).upd = f s.upd := rfl
@[simp] theorem setLio_lio (s : State) (f : LioState → LioState) : (setLio s f).lio = f s.lio := rfl
@[simp] theorem setChn_chn (s : State) (f : ChnState → ChnState) : (setChn s f).chn = f s.chn := rfl
@[simp] theorem setTim_tim (s : State) (f : TimState → TimState) : (setTim s f).tim = f s.tim := rfl
@[simp] theorem setHlt_hlt (s : State) (f : HltState → HltState) : (setHlt s f).hlt = f s.hlt := rfl
@[simp] theorem setSlot_slot (s : State) (f : SlotState → SlotState) : (setSlot s f).slot = f s.slot := rfl
@[simp] theorem setSvi_svi (s : State) (f : SviState → SviState) : (setSvi s f).svi = f s.svi := rfl
@[simp] theorem setPe_pe (s : State) (f : PeState → PeState) : (setPe s f).pe = f s.pe := rfl
@[simp] theorem setStn_stn (s : State) (f : StnState → StnState) : (setStn s f).stn = f s.stn := rfl
@[simp] theorem setDpy_dpy (s : State) (f : DpyState → DpyState) : (setDpy s f).dpy = f s.dpy := rfl
@[simp] theorem atTime_now (s : State) (t : Nat) : (atTime s t).grid.now = max s.grid.now t := rfl
@[simp] theorem atTime_running (s : State) (t : Nat) : (atTime s t).grid.running = s.grid.running := rfl
@[simp] theorem atTime_phase (s : State) (t : Nat) : (atTime s t).grid.phase = s.grid.phase := rfl
@[simp] theorem atTime_frame (s : State) (t : Nat) : (atTime s t).grid.frame = s.grid.frame := rfl
@[simp] theorem atTime_freezes (s : State) (t : Nat) : (atTime s t).grid.freezes = s.grid.freezes := rfl
@[simp] theorem atTime_freezeAt (s : State) (t : Nat) : (atTime s t).grid.freezeAt = s.grid.freezeAt := rfl
@[simp] theorem atTime_tick (s : State) (t : Nat) : (atTime s t).grid.tick = s.grid.tick := rfl
@[simp] theorem atTime_neverSync (s : State) (t : Nat) : (atTime s t).grid.neverSync = s.grid.neverSync := rfl
@[simp] theorem atTime_slewing (s : State) (t : Nat) : (atTime s t).grid.slewing = s.grid.slewing := rfl
@[simp] theorem atTime_slewPpb (s : State) (t : Nat) : (atTime s t).grid.slewPpb = s.grid.slewPpb := rfl
@[simp] theorem atTime_gridOfs (s : State) (t : Nat) : (atTime s t).grid.gridOfs = s.grid.gridOfs := rfl

/-! ### Tables behind a name -/

@[simp] theorem leOf_setLe_same (s : State) (i : Nat) (x : LeEngine) : leOf (setLe s i x) i = x := tget_tset_same ..
theorem leOf_setLe (s : State) (i j : Nat) (x : LeEngine) : leOf (setLe s i x) j = if j = i then x else leOf s j := tget_tset ..
@[simp] theorem leOf_wr (s : State) (a : Nat) (v : Word) (w : Nat) : leOf (wr s a v) w = leOf s w := rfl
@[simp] theorem leOf_atTime (s : State) (t : Nat) (w : Nat) : leOf (atTime s t) w = leOf s w := rfl
@[simp] theorem leOf_answer (s : State) (r : Resp) (w : Nat) : leOf (answer s r) w = leOf s w := rfl
@[simp] theorem leOf_touch (s : State) (n : Nat) (w : Nat) : leOf (touch s n) w = leOf s w := rfl
@[simp] theorem leOf_drawWord (s : State) (w : Nat) : leOf (drawWord s).2 w = leOf s w := rfl
@[simp] theorem leOf_drawDWord (s : State) (w : Nat) : leOf (drawDWord s).2 w = leOf s w := rfl
@[simp] theorem leOf_setAc (s : State) (k : Nat) (x : AcCore) (w : Nat) : leOf (setAc s k x) w = leOf s w := rfl
@[simp] theorem leOf_setPart (s : State) (p : Nat) (x : PartState) (w : Nat) : leOf (setPart s p x) w = leOf s w := rfl
@[simp] theorem leOf_setClass (s : State) (k : Nat) (x : ClassState) (w : Nat) : leOf (setClass s k x) w = leOf s w := rfl
@[simp] theorem leOf_setOutput (s : State) (f : Bank → Bank) (w : Nat) : leOf (setOutput s f) w = leOf s w := rfl
@[simp] theorem leOf_setPair (s : State) (f : PairState → PairState) (w : Nat) : leOf (setPair s f) w = leOf s w := rfl
@[simp] theorem leOf_setSaf (s : State) (f : SafState → SafState) (w : Nat) : leOf (setSaf s f) w = leOf s w := rfl
@[simp] theorem leOf_setOlc (s : State) (f : OlcState → OlcState) (w : Nat) : leOf (setOlc s f) w = leOf s w := rfl
@[simp] theorem leOf_setUpd (s : State) (f : UpdState → UpdState) (w : Nat) : leOf (setUpd s f) w = leOf s w := rfl
@[simp] theorem leOf_setLio (s : State) (f : LioState → LioState) (w : Nat) : leOf (setLio s f) w = leOf s w := rfl
@[simp] theorem leOf_setChn (s : State) (f : ChnState → ChnState) (w : Nat) : leOf (setChn s f) w = leOf s w := rfl
@[simp] theorem leOf_setTim (s : State) (f : TimState → TimState) (w : Nat) : leOf (setTim s f) w = leOf s w := rfl
@[simp] theorem leOf_setHlt (s : State) (f : HltState → HltState) (w : Nat) : leOf (setHlt s f) w = leOf s w := rfl
@[simp] theorem leOf_setSlot (s : State) (f : SlotState → SlotState) (w : Nat) : leOf (setSlot s f) w = leOf s w := rfl
@[simp] theorem leOf_setSvi (s : State) (f : SviState → SviState) (w : Nat) : leOf (setSvi s f) w = leOf s w := rfl
@[simp] theorem leOf_setPe (s : State) (f : PeState → PeState) (w : Nat) : leOf (setPe s f) w = leOf s w := rfl
@[simp] theorem leOf_setStn (s : State) (f : StnState → StnState) (w : Nat) : leOf (setStn s f) w = leOf s w := rfl
@[simp] theorem leOf_setDpy (s : State) (f : DpyState → DpyState) (w : Nat) : leOf (setDpy s f) w = leOf s w := rfl
@[simp] theorem leOf_setCan (s : State) (c : Nat) (x : CanCtl) (w : Nat) : leOf (setCan s c x) w = leOf s w := rfl
@[simp] theorem acOf_setAc_same (s : State) (i : Nat) (x : AcCore) : acOf (setAc s i x) i = x := tget_tset_same ..
theorem acOf_setAc (s : State) (i j : Nat) (x : AcCore) : acOf (setAc s i x) j = if j = i then x else acOf s j := tget_tset ..
@[simp] theorem acOf_wr (s : State) (a : Nat) (v : Word) (w : Nat) : acOf (wr s a v) w = acOf s w := rfl
@[simp] theorem acOf_atTime (s : State) (t : Nat) (w : Nat) : acOf (atTime s t) w = acOf s w := rfl
@[simp] theorem acOf_answer (s : State) (r : Resp) (w : Nat) : acOf (answer s r) w = acOf s w := rfl
@[simp] theorem acOf_touch (s : State) (n : Nat) (w : Nat) : acOf (touch s n) w = acOf s w := rfl
@[simp] theorem acOf_drawWord (s : State) (w : Nat) : acOf (drawWord s).2 w = acOf s w := rfl
@[simp] theorem acOf_drawDWord (s : State) (w : Nat) : acOf (drawDWord s).2 w = acOf s w := rfl
@[simp] theorem acOf_setLe (s : State) (e : Nat) (x : LeEngine) (w : Nat) : acOf (setLe s e x) w = acOf s w := rfl
@[simp] theorem acOf_setPart (s : State) (p : Nat) (x : PartState) (w : Nat) : acOf (setPart s p x) w = acOf s w := rfl
@[simp] theorem acOf_setClass (s : State) (k : Nat) (x : ClassState) (w : Nat) : acOf (setClass s k x) w = acOf s w := rfl
@[simp] theorem acOf_setOutput (s : State) (f : Bank → Bank) (w : Nat) : acOf (setOutput s f) w = acOf s w := rfl
@[simp] theorem acOf_setPair (s : State) (f : PairState → PairState) (w : Nat) : acOf (setPair s f) w = acOf s w := rfl
@[simp] theorem acOf_setSaf (s : State) (f : SafState → SafState) (w : Nat) : acOf (setSaf s f) w = acOf s w := rfl
@[simp] theorem acOf_setOlc (s : State) (f : OlcState → OlcState) (w : Nat) : acOf (setOlc s f) w = acOf s w := rfl
@[simp] theorem acOf_setUpd (s : State) (f : UpdState → UpdState) (w : Nat) : acOf (setUpd s f) w = acOf s w := rfl
@[simp] theorem acOf_setLio (s : State) (f : LioState → LioState) (w : Nat) : acOf (setLio s f) w = acOf s w := rfl
@[simp] theorem acOf_setChn (s : State) (f : ChnState → ChnState) (w : Nat) : acOf (setChn s f) w = acOf s w := rfl
@[simp] theorem acOf_setTim (s : State) (f : TimState → TimState) (w : Nat) : acOf (setTim s f) w = acOf s w := rfl
@[simp] theorem acOf_setHlt (s : State) (f : HltState → HltState) (w : Nat) : acOf (setHlt s f) w = acOf s w := rfl
@[simp] theorem acOf_setSlot (s : State) (f : SlotState → SlotState) (w : Nat) : acOf (setSlot s f) w = acOf s w := rfl
@[simp] theorem acOf_setSvi (s : State) (f : SviState → SviState) (w : Nat) : acOf (setSvi s f) w = acOf s w := rfl
@[simp] theorem acOf_setPe (s : State) (f : PeState → PeState) (w : Nat) : acOf (setPe s f) w = acOf s w := rfl
@[simp] theorem acOf_setStn (s : State) (f : StnState → StnState) (w : Nat) : acOf (setStn s f) w = acOf s w := rfl
@[simp] theorem acOf_setDpy (s : State) (f : DpyState → DpyState) (w : Nat) : acOf (setDpy s f) w = acOf s w := rfl
@[simp] theorem acOf_setCan (s : State) (c : Nat) (x : CanCtl) (w : Nat) : acOf (setCan s c x) w = acOf s w := rfl
@[simp] theorem partOf_setPart_same (s : State) (i : Nat) (x : PartState) : partOf (setPart s i x) i = x := tget_tset_same ..
theorem partOf_setPart (s : State) (i j : Nat) (x : PartState) : partOf (setPart s i x) j = if j = i then x else partOf s j := tget_tset ..
@[simp] theorem partOf_wr (s : State) (a : Nat) (v : Word) (w : Nat) : partOf (wr s a v) w = partOf s w := rfl
@[simp] theorem partOf_atTime (s : State) (t : Nat) (w : Nat) : partOf (atTime s t) w = partOf s w := rfl
@[simp] theorem partOf_answer (s : State) (r : Resp) (w : Nat) : partOf (answer s r) w = partOf s w := rfl
@[simp] theorem partOf_touch (s : State) (n : Nat) (w : Nat) : partOf (touch s n) w = partOf s w := rfl
@[simp] theorem partOf_drawWord (s : State) (w : Nat) : partOf (drawWord s).2 w = partOf s w := rfl
@[simp] theorem partOf_drawDWord (s : State) (w : Nat) : partOf (drawDWord s).2 w = partOf s w := rfl
@[simp] theorem partOf_setLe (s : State) (e : Nat) (x : LeEngine) (w : Nat) : partOf (setLe s e x) w = partOf s w := rfl
@[simp] theorem partOf_setAc (s : State) (k : Nat) (x : AcCore) (w : Nat) : partOf (setAc s k x) w = partOf s w := rfl
@[simp] theorem partOf_setClass (s : State) (k : Nat) (x : ClassState) (w : Nat) : partOf (setClass s k x) w = partOf s w := rfl
@[simp] theorem partOf_setOutput (s : State) (f : Bank → Bank) (w : Nat) : partOf (setOutput s f) w = partOf s w := rfl
@[simp] theorem partOf_setPair (s : State) (f : PairState → PairState) (w : Nat) : partOf (setPair s f) w = partOf s w := rfl
@[simp] theorem partOf_setSaf (s : State) (f : SafState → SafState) (w : Nat) : partOf (setSaf s f) w = partOf s w := rfl
@[simp] theorem partOf_setOlc (s : State) (f : OlcState → OlcState) (w : Nat) : partOf (setOlc s f) w = partOf s w := rfl
@[simp] theorem partOf_setUpd (s : State) (f : UpdState → UpdState) (w : Nat) : partOf (setUpd s f) w = partOf s w := rfl
@[simp] theorem partOf_setLio (s : State) (f : LioState → LioState) (w : Nat) : partOf (setLio s f) w = partOf s w := rfl
@[simp] theorem partOf_setChn (s : State) (f : ChnState → ChnState) (w : Nat) : partOf (setChn s f) w = partOf s w := rfl
@[simp] theorem partOf_setTim (s : State) (f : TimState → TimState) (w : Nat) : partOf (setTim s f) w = partOf s w := rfl
@[simp] theorem partOf_setHlt (s : State) (f : HltState → HltState) (w : Nat) : partOf (setHlt s f) w = partOf s w := rfl
@[simp] theorem partOf_setSlot (s : State) (f : SlotState → SlotState) (w : Nat) : partOf (setSlot s f) w = partOf s w := rfl
@[simp] theorem partOf_setSvi (s : State) (f : SviState → SviState) (w : Nat) : partOf (setSvi s f) w = partOf s w := rfl
@[simp] theorem partOf_setPe (s : State) (f : PeState → PeState) (w : Nat) : partOf (setPe s f) w = partOf s w := rfl
@[simp] theorem partOf_setStn (s : State) (f : StnState → StnState) (w : Nat) : partOf (setStn s f) w = partOf s w := rfl
@[simp] theorem partOf_setDpy (s : State) (f : DpyState → DpyState) (w : Nat) : partOf (setDpy s f) w = partOf s w := rfl
@[simp] theorem partOf_setCan (s : State) (c : Nat) (x : CanCtl) (w : Nat) : partOf (setCan s c x) w = partOf s w := rfl
@[simp] theorem classOf_setClass_same (s : State) (i : Nat) (x : ClassState) : classOf (setClass s i x) i = x := tget_tset_same ..
theorem classOf_setClass (s : State) (i j : Nat) (x : ClassState) : classOf (setClass s i x) j = if j = i then x else classOf s j := tget_tset ..
@[simp] theorem classOf_wr (s : State) (a : Nat) (v : Word) (w : Nat) : classOf (wr s a v) w = classOf s w := rfl
@[simp] theorem classOf_atTime (s : State) (t : Nat) (w : Nat) : classOf (atTime s t) w = classOf s w := rfl
@[simp] theorem classOf_answer (s : State) (r : Resp) (w : Nat) : classOf (answer s r) w = classOf s w := rfl
@[simp] theorem classOf_touch (s : State) (n : Nat) (w : Nat) : classOf (touch s n) w = classOf s w := rfl
@[simp] theorem classOf_drawWord (s : State) (w : Nat) : classOf (drawWord s).2 w = classOf s w := rfl
@[simp] theorem classOf_drawDWord (s : State) (w : Nat) : classOf (drawDWord s).2 w = classOf s w := rfl
@[simp] theorem classOf_setLe (s : State) (e : Nat) (x : LeEngine) (w : Nat) : classOf (setLe s e x) w = classOf s w := rfl
@[simp] theorem classOf_setAc (s : State) (k : Nat) (x : AcCore) (w : Nat) : classOf (setAc s k x) w = classOf s w := rfl
@[simp] theorem classOf_setPart (s : State) (p : Nat) (x : PartState) (w : Nat) : classOf (setPart s p x) w = classOf s w := rfl
@[simp] theorem classOf_setOutput (s : State) (f : Bank → Bank) (w : Nat) : classOf (setOutput s f) w = classOf s w := rfl
@[simp] theorem classOf_setPair (s : State) (f : PairState → PairState) (w : Nat) : classOf (setPair s f) w = classOf s w := rfl
@[simp] theorem classOf_setSaf (s : State) (f : SafState → SafState) (w : Nat) : classOf (setSaf s f) w = classOf s w := rfl
@[simp] theorem classOf_setOlc (s : State) (f : OlcState → OlcState) (w : Nat) : classOf (setOlc s f) w = classOf s w := rfl
@[simp] theorem classOf_setUpd (s : State) (f : UpdState → UpdState) (w : Nat) : classOf (setUpd s f) w = classOf s w := rfl
@[simp] theorem classOf_setLio (s : State) (f : LioState → LioState) (w : Nat) : classOf (setLio s f) w = classOf s w := rfl
@[simp] theorem classOf_setChn (s : State) (f : ChnState → ChnState) (w : Nat) : classOf (setChn s f) w = classOf s w := rfl
@[simp] theorem classOf_setTim (s : State) (f : TimState → TimState) (w : Nat) : classOf (setTim s f) w = classOf s w := rfl
@[simp] theorem classOf_setHlt (s : State) (f : HltState → HltState) (w : Nat) : classOf (setHlt s f) w = classOf s w := rfl
@[simp] theorem classOf_setSlot (s : State) (f : SlotState → SlotState) (w : Nat) : classOf (setSlot s f) w = classOf s w := rfl
@[simp] theorem classOf_setSvi (s : State) (f : SviState → SviState) (w : Nat) : classOf (setSvi s f) w = classOf s w := rfl
@[simp] theorem classOf_setPe (s : State) (f : PeState → PeState) (w : Nat) : classOf (setPe s f) w = classOf s w := rfl
@[simp] theorem classOf_setStn (s : State) (f : StnState → StnState) (w : Nat) : classOf (setStn s f) w = classOf s w := rfl
@[simp] theorem classOf_setDpy (s : State) (f : DpyState → DpyState) (w : Nat) : classOf (setDpy s f) w = classOf s w := rfl
@[simp] theorem classOf_setCan (s : State) (c : Nat) (x : CanCtl) (w : Nat) : classOf (setCan s c x) w = classOf s w := rfl

end Sys2Proof.Machine
end

