-- ==== Sys2Proof/Laws/Records.lean ====
section
/-! SUPPORT. What a record, an event and the refusals leave: one lemma for each field, and the registers they write. -/

namespace Sys2Proof.Machine

open Sys2Proof

@[simp] theorem record_pending (s : State) (r : RecReq) : (record s r).pending = s.pending := (record_keeps ..).same .pending rfl
@[simp] theorem record_resp (s : State) (r : RecReq) : (record s r).resp = s.resp := (record_keeps ..).same .resp rfl
@[simp] theorem record_sent (s : State) (r : RecReq) : (record s r).sent = s.sent := (record_keeps ..).same .sent rfl
@[simp] theorem record_cfg (s : State) (r : RecReq) : (record s r).cfg = s.cfg := (record_keeps ..).same .cfg rfl
@[simp] theorem record_grid (s : State) (r : RecReq) : (record s r).grid = s.grid := (record_keeps ..).same .grid rfl
@[simp] theorem record_sig (s : State) (r : RecReq) : (record s r).sig = s.sig := (record_keeps ..).same .sig rfl
@[simp] theorem record_sched (s : State) (r : RecReq) : (record s r).sched = s.sched := (record_keeps ..).same .sched rfl
@[simp] theorem record_le (s : State) (r : RecReq) : (record s r).le = s.le := (record_keeps ..).same .le rfl
@[simp] theorem record_fbx (s : State) (r : RecReq) : (record s r).fbx = s.fbx := (record_keeps ..).same .fbx rfl
@[simp] theorem record_acc (s : State) (r : RecReq) : (record s r).acc = s.acc := (record_keeps ..).same .acc rfl
@[simp] theorem record_pair (s : State) (r : RecReq) : (record s r).pair = s.pair := (record_keeps ..).same .pair rfl
@[simp] theorem record_saf (s : State) (r : RecReq) : (record s r).saf = s.saf := (record_keeps ..).same .saf rfl
@[simp] theorem record_olc (s : State) (r : RecReq) : (record s r).olc = s.olc := (record_keeps ..).same .olc rfl
@[simp] theorem record_frc (s : State) (r : RecReq) : (record s r).frc = s.frc := (record_keeps ..).same .frc rfl
@[simp] theorem record_upd (s : State) (r : RecReq) : (record s r).upd = s.upd := (record_keeps ..).same .upd rfl
@[simp] theorem record_lio (s : State) (r : RecReq) : (record s r).lio = s.lio := (record_keeps ..).same .lio rfl
@[simp] theorem record_chn (s : State) (r : RecReq) : (record s r).chn = s.chn := (record_keeps ..).same .chn rfl
@[simp] theorem record_can (s : State) (r : RecReq) : (record s r).can = s.can := (record_keeps ..).same .can rfl
@[simp] theorem record_tim (s : State) (r : RecReq) : (record s r).tim = s.tim := (record_keeps ..).same .tim rfl
@[simp] theorem record_hlt (s : State) (r : RecReq) : (record s r).hlt = s.hlt := (record_keeps ..).same .hlt rfl
@[simp] theorem record_slot (s : State) (r : RecReq) : (record s r).slot = s.slot := (record_keeps ..).same .slot rfl
@[simp] theorem record_svi (s : State) (r : RecReq) : (record s r).svi = s.svi := (record_keeps ..).same .svi rfl
@[simp] theorem record_pe (s : State) (r : RecReq) : (record s r).pe = s.pe := (record_keeps ..).same .pe rfl
@[simp] theorem record_stn (s : State) (r : RecReq) : (record s r).stn = s.stn := (record_keeps ..).same .stn rfl
@[simp] theorem record_dpy (s : State) (r : RecReq) : (record s r).dpy = s.dpy := (record_keeps ..).same .dpy rfl
@[simp] theorem record_sess (s : State) (r : RecReq) : (record s r).sess = s.sess := (record_keeps ..).same .sess rfl

@[simp] theorem recordBare_pending (s : State) (k : Nat) (r : RecReq) : (recordBare s k r).pending = s.pending := (recordBare_keeps ..).same .pending rfl
@[simp] theorem recordBare_resp (s : State) (k : Nat) (r : RecReq) : (recordBare s k r).resp = s.resp := (recordBare_keeps ..).same .resp rfl
@[simp] theorem recordBare_sent (s : State) (k : Nat) (r : RecReq) : (recordBare s k r).sent = s.sent := (recordBare_keeps ..).same .sent rfl
@[simp] theorem recordBare_cfg (s : State) (k : Nat) (r : RecReq) : (recordBare s k r).cfg = s.cfg := (recordBare_keeps ..).same .cfg rfl
@[simp] theorem recordBare_grid (s : State) (k : Nat) (r : RecReq) : (recordBare s k r).grid = s.grid := (recordBare_keeps ..).same .grid rfl
@[simp] theorem recordBare_sig (s : State) (k : Nat) (r : RecReq) : (recordBare s k r).sig = s.sig := (recordBare_keeps ..).same .sig rfl
@[simp] theorem recordBare_sched (s : State) (k : Nat) (r : RecReq) : (recordBare s k r).sched = s.sched := (recordBare_keeps ..).same .sched rfl
@[simp] theorem recordBare_le (s : State) (k : Nat) (r : RecReq) : (recordBare s k r).le = s.le := (recordBare_keeps ..).same .le rfl
@[simp] theorem recordBare_fbx (s : State) (k : Nat) (r : RecReq) : (recordBare s k r).fbx = s.fbx := (recordBare_keeps ..).same .fbx rfl
@[simp] theorem recordBare_acc (s : State) (k : Nat) (r : RecReq) : (recordBare s k r).acc = s.acc := (recordBare_keeps ..).same .acc rfl
@[simp] theorem recordBare_pair (s : State) (k : Nat) (r : RecReq) : (recordBare s k r).pair = s.pair := (recordBare_keeps ..).same .pair rfl
@[simp] theorem recordBare_saf (s : State) (k : Nat) (r : RecReq) : (recordBare s k r).saf = s.saf := (recordBare_keeps ..).same .saf rfl
@[simp] theorem recordBare_olc (s : State) (k : Nat) (r : RecReq) : (recordBare s k r).olc = s.olc := (recordBare_keeps ..).same .olc rfl
@[simp] theorem recordBare_frc (s : State) (k : Nat) (r : RecReq) : (recordBare s k r).frc = s.frc := (recordBare_keeps ..).same .frc rfl
@[simp] theorem recordBare_upd (s : State) (k : Nat) (r : RecReq) : (recordBare s k r).upd = s.upd := (recordBare_keeps ..).same .upd rfl
@[simp] theorem recordBare_lio (s : State) (k : Nat) (r : RecReq) : (recordBare s k r).lio = s.lio := (recordBare_keeps ..).same .lio rfl
@[simp] theorem recordBare_chn (s : State) (k : Nat) (r : RecReq) : (recordBare s k r).chn = s.chn := (recordBare_keeps ..).same .chn rfl
@[simp] theorem recordBare_can (s : State) (k : Nat) (r : RecReq) : (recordBare s k r).can = s.can := (recordBare_keeps ..).same .can rfl
@[simp] theorem recordBare_tim (s : State) (k : Nat) (r : RecReq) : (recordBare s k r).tim = s.tim := (recordBare_keeps ..).same .tim rfl
@[simp] theorem recordBare_hlt (s : State) (k : Nat) (r : RecReq) : (recordBare s k r).hlt = s.hlt := (recordBare_keeps ..).same .hlt rfl
@[simp] theorem recordBare_slot (s : State) (k : Nat) (r : RecReq) : (recordBare s k r).slot = s.slot := (recordBare_keeps ..).same .slot rfl
@[simp] theorem recordBare_svi (s : State) (k : Nat) (r : RecReq) : (recordBare s k r).svi = s.svi := (recordBare_keeps ..).same .svi rfl
@[simp] theorem recordBare_pe (s : State) (k : Nat) (r : RecReq) : (recordBare s k r).pe = s.pe := (recordBare_keeps ..).same .pe rfl
@[simp] theorem recordBare_stn (s : State) (k : Nat) (r : RecReq) : (recordBare s k r).stn = s.stn := (recordBare_keeps ..).same .stn rfl
@[simp] theorem recordBare_dpy (s : State) (k : Nat) (r : RecReq) : (recordBare s k r).dpy = s.dpy := (recordBare_keeps ..).same .dpy rfl
@[simp] theorem recordBare_sess (s : State) (k : Nat) (r : RecReq) : (recordBare s k r).sess = s.sess := (recordBare_keeps ..).same .sess rfl

@[simp] theorem refuse_pending (s : State) (reg : Nat) (code : Option Nat) (n : Nat) (sev : Option Nat) : (refuse s reg code n sev).pending = s.pending := (refuse_keeps ..).same .pending rfl
@[simp] theorem refuse_sent (s : State) (reg : Nat) (code : Option Nat) (n : Nat) (sev : Option Nat) : (refuse s reg code n sev).sent = s.sent := (refuse_keeps ..).same .sent rfl
@[simp] theorem refuse_cfg (s : State) (reg : Nat) (code : Option Nat) (n : Nat) (sev : Option Nat) : (refuse s reg code n sev).cfg = s.cfg := (refuse_keeps ..).same .cfg rfl
@[simp] theorem refuse_grid (s : State) (reg : Nat) (code : Option Nat) (n : Nat) (sev : Option Nat) : (refuse s reg code n sev).grid = s.grid := (refuse_keeps ..).same .grid rfl
@[simp] theorem refuse_sig (s : State) (reg : Nat) (code : Option Nat) (n : Nat) (sev : Option Nat) : (refuse s reg code n sev).sig = s.sig := (refuse_keeps ..).same .sig rfl
@[simp] theorem refuse_sched (s : State) (reg : Nat) (code : Option Nat) (n : Nat) (sev : Option Nat) : (refuse s reg code n sev).sched = s.sched := (refuse_keeps ..).same .sched rfl
@[simp] theorem refuse_le (s : State) (reg : Nat) (code : Option Nat) (n : Nat) (sev : Option Nat) : (refuse s reg code n sev).le = s.le := (refuse_keeps ..).same .le rfl
@[simp] theorem refuse_fbx (s : State) (reg : Nat) (code : Option Nat) (n : Nat) (sev : Option Nat) : (refuse s reg code n sev).fbx = s.fbx := (refuse_keeps ..).same .fbx rfl
@[simp] theorem refuse_acc (s : State) (reg : Nat) (code : Option Nat) (n : Nat) (sev : Option Nat) : (refuse s reg code n sev).acc = s.acc := (refuse_keeps ..).same .acc rfl
@[simp] theorem refuse_pair (s : State) (reg : Nat) (code : Option Nat) (n : Nat) (sev : Option Nat) : (refuse s reg code n sev).pair = s.pair := (refuse_keeps ..).same .pair rfl
@[simp] theorem refuse_saf (s : State) (reg : Nat) (code : Option Nat) (n : Nat) (sev : Option Nat) : (refuse s reg code n sev).saf = s.saf := (refuse_keeps ..).same .saf rfl
@[simp] theorem refuse_olc (s : State) (reg : Nat) (code : Option Nat) (n : Nat) (sev : Option Nat) : (refuse s reg code n sev).olc = s.olc := (refuse_keeps ..).same .olc rfl
@[simp] theorem refuse_frc (s : State) (reg : Nat) (code : Option Nat) (n : Nat) (sev : Option Nat) : (refuse s reg code n sev).frc = s.frc := (refuse_keeps ..).same .frc rfl
@[simp] theorem refuse_upd (s : State) (reg : Nat) (code : Option Nat) (n : Nat) (sev : Option Nat) : (refuse s reg code n sev).upd = s.upd := (refuse_keeps ..).same .upd rfl
@[simp] theorem refuse_lio (s : State) (reg : Nat) (code : Option Nat) (n : Nat) (sev : Option Nat) : (refuse s reg code n sev).lio = s.lio := (refuse_keeps ..).same .lio rfl
@[simp] theorem refuse_chn (s : State) (reg : Nat) (code : Option Nat) (n : Nat) (sev : Option Nat) : (refuse s reg code n sev).chn = s.chn := (refuse_keeps ..).same .chn rfl
@[simp] theorem refuse_can (s : State) (reg : Nat) (code : Option Nat) (n : Nat) (sev : Option Nat) : (refuse s reg code n sev).can = s.can := (refuse_keeps ..).same .can rfl
@[simp] theorem refuse_tim (s : State) (reg : Nat) (code : Option Nat) (n : Nat) (sev : Option Nat) : (refuse s reg code n sev).tim = s.tim := (refuse_keeps ..).same .tim rfl
@[simp] theorem refuse_hlt (s : State) (reg : Nat) (code : Option Nat) (n : Nat) (sev : Option Nat) : (refuse s reg code n sev).hlt = s.hlt := (refuse_keeps ..).same .hlt rfl
@[simp] theorem refuse_slot (s : State) (reg : Nat) (code : Option Nat) (n : Nat) (sev : Option Nat) : (refuse s reg code n sev).slot = s.slot := (refuse_keeps ..).same .slot rfl
@[simp] theorem refuse_svi (s : State) (reg : Nat) (code : Option Nat) (n : Nat) (sev : Option Nat) : (refuse s reg code n sev).svi = s.svi := (refuse_keeps ..).same .svi rfl
@[simp] theorem refuse_pe (s : State) (reg : Nat) (code : Option Nat) (n : Nat) (sev : Option Nat) : (refuse s reg code n sev).pe = s.pe := (refuse_keeps ..).same .pe rfl
@[simp] theorem refuse_stn (s : State) (reg : Nat) (code : Option Nat) (n : Nat) (sev : Option Nat) : (refuse s reg code n sev).stn = s.stn := (refuse_keeps ..).same .stn rfl
@[simp] theorem refuse_dpy (s : State) (reg : Nat) (code : Option Nat) (n : Nat) (sev : Option Nat) : (refuse s reg code n sev).dpy = s.dpy := (refuse_keeps ..).same .dpy rfl
@[simp] theorem refuse_sess (s : State) (reg : Nat) (code : Option Nat) (n : Nat) (sev : Option Nat) : (refuse s reg code n sev).sess = s.sess := (refuse_keeps ..).same .sess rfl

@[simp] theorem keyWrong_pending (s : State) (reg : Nat) (v : Word) : (keyWrong s reg v).pending = s.pending := (keyWrong_keeps ..).same .pending rfl
@[simp] theorem keyWrong_sent (s : State) (reg : Nat) (v : Word) : (keyWrong s reg v).sent = s.sent := (keyWrong_keeps ..).same .sent rfl
@[simp] theorem keyWrong_cfg (s : State) (reg : Nat) (v : Word) : (keyWrong s reg v).cfg = s.cfg := (keyWrong_keeps ..).same .cfg rfl
@[simp] theorem keyWrong_grid (s : State) (reg : Nat) (v : Word) : (keyWrong s reg v).grid = s.grid := (keyWrong_keeps ..).same .grid rfl
@[simp] theorem keyWrong_sig (s : State) (reg : Nat) (v : Word) : (keyWrong s reg v).sig = s.sig := (keyWrong_keeps ..).same .sig rfl
@[simp] theorem keyWrong_sched (s : State) (reg : Nat) (v : Word) : (keyWrong s reg v).sched = s.sched := (keyWrong_keeps ..).same .sched rfl
@[simp] theorem keyWrong_le (s : State) (reg : Nat) (v : Word) : (keyWrong s reg v).le = s.le := (keyWrong_keeps ..).same .le rfl
@[simp] theorem keyWrong_fbx (s : State) (reg : Nat) (v : Word) : (keyWrong s reg v).fbx = s.fbx := (keyWrong_keeps ..).same .fbx rfl
@[simp] theorem keyWrong_acc (s : State) (reg : Nat) (v : Word) : (keyWrong s reg v).acc = s.acc := (keyWrong_keeps ..).same .acc rfl
@[simp] theorem keyWrong_pair (s : State) (reg : Nat) (v : Word) : (keyWrong s reg v).pair = s.pair := (keyWrong_keeps ..).same .pair rfl
@[simp] theorem keyWrong_saf (s : State) (reg : Nat) (v : Word) : (keyWrong s reg v).saf = s.saf := (keyWrong_keeps ..).same .saf rfl
@[simp] theorem keyWrong_olc (s : State) (reg : Nat) (v : Word) : (keyWrong s reg v).olc = s.olc := (keyWrong_keeps ..).same .olc rfl
@[simp] theorem keyWrong_frc (s : State) (reg : Nat) (v : Word) : (keyWrong s reg v).frc = s.frc := (keyWrong_keeps ..).same .frc rfl
@[simp] theorem keyWrong_upd (s : State) (reg : Nat) (v : Word) : (keyWrong s reg v).upd = s.upd := (keyWrong_keeps ..).same .upd rfl
@[simp] theorem keyWrong_lio (s : State) (reg : Nat) (v : Word) : (keyWrong s reg v).lio = s.lio := (keyWrong_keeps ..).same .lio rfl
@[simp] theorem keyWrong_chn (s : State) (reg : Nat) (v : Word) : (keyWrong s reg v).chn = s.chn := (keyWrong_keeps ..).same .chn rfl
@[simp] theorem keyWrong_can (s : State) (reg : Nat) (v : Word) : (keyWrong s reg v).can = s.can := (keyWrong_keeps ..).same .can rfl
@[simp] theorem keyWrong_tim (s : State) (reg : Nat) (v : Word) : (keyWrong s reg v).tim = s.tim := (keyWrong_keeps ..).same .tim rfl
@[simp] theorem keyWrong_hlt (s : State) (reg : Nat) (v : Word) : (keyWrong s reg v).hlt = s.hlt := (keyWrong_keeps ..).same .hlt rfl
@[simp] theorem keyWrong_slot (s : State) (reg : Nat) (v : Word) : (keyWrong s reg v).slot = s.slot := (keyWrong_keeps ..).same .slot rfl
@[simp] theorem keyWrong_svi (s : State) (reg : Nat) (v : Word) : (keyWrong s reg v).svi = s.svi := (keyWrong_keeps ..).same .svi rfl
@[simp] theorem keyWrong_pe (s : State) (reg : Nat) (v : Word) : (keyWrong s reg v).pe = s.pe := (keyWrong_keeps ..).same .pe rfl
@[simp] theorem keyWrong_stn (s : State) (reg : Nat) (v : Word) : (keyWrong s reg v).stn = s.stn := (keyWrong_keeps ..).same .stn rfl
@[simp] theorem keyWrong_dpy (s : State) (reg : Nat) (v : Word) : (keyWrong s reg v).dpy = s.dpy := (keyWrong_keeps ..).same .dpy rfl
@[simp] theorem keyWrong_sess (s : State) (reg : Nat) (v : Word) : (keyWrong s reg v).sess = s.sess := (keyWrong_keeps ..).same .sess rfl

@[simp] theorem accepted_pending (s : State) (reg : Nat) (c : Cmd) : (accepted s reg c).pending = s.pending := (accepted_keeps ..).same .pending rfl
@[simp] theorem accepted_resp (s : State) (reg : Nat) (c : Cmd) : (accepted s reg c).resp = s.resp := (accepted_keeps ..).same .resp rfl
@[simp] theorem accepted_sent (s : State) (reg : Nat) (c : Cmd) : (accepted s reg c).sent = s.sent := (accepted_keeps ..).same .sent rfl
@[simp] theorem accepted_cfg (s : State) (reg : Nat) (c : Cmd) : (accepted s reg c).cfg = s.cfg := (accepted_keeps ..).same .cfg rfl
@[simp] theorem accepted_grid (s : State) (reg : Nat) (c : Cmd) : (accepted s reg c).grid = s.grid := (accepted_keeps ..).same .grid rfl
@[simp] theorem accepted_sig (s : State) (reg : Nat) (c : Cmd) : (accepted s reg c).sig = s.sig := (accepted_keeps ..).same .sig rfl
@[simp] theorem accepted_sched (s : State) (reg : Nat) (c : Cmd) : (accepted s reg c).sched = s.sched := (accepted_keeps ..).same .sched rfl
@[simp] theorem accepted_le (s : State) (reg : Nat) (c : Cmd) : (accepted s reg c).le = s.le := (accepted_keeps ..).same .le rfl
@[simp] theorem accepted_fbx (s : State) (reg : Nat) (c : Cmd) : (accepted s reg c).fbx = s.fbx := (accepted_keeps ..).same .fbx rfl
@[simp] theorem accepted_acc (s : State) (reg : Nat) (c : Cmd) : (accepted s reg c).acc = s.acc := (accepted_keeps ..).same .acc rfl
@[simp] theorem accepted_pair (s : State) (reg : Nat) (c : Cmd) : (accepted s reg c).pair = s.pair := (accepted_keeps ..).same .pair rfl
@[simp] theorem accepted_saf (s : State) (reg : Nat) (c : Cmd) : (accepted s reg c).saf = s.saf := (accepted_keeps ..).same .saf rfl
@[simp] theorem accepted_olc (s : State) (reg : Nat) (c : Cmd) : (accepted s reg c).olc = s.olc := (accepted_keeps ..).same .olc rfl
@[simp] theorem accepted_frc (s : State) (reg : Nat) (c : Cmd) : (accepted s reg c).frc = s.frc := (accepted_keeps ..).same .frc rfl
@[simp] theorem accepted_upd (s : State) (reg : Nat) (c : Cmd) : (accepted s reg c).upd = s.upd := (accepted_keeps ..).same .upd rfl
@[simp] theorem accepted_lio (s : State) (reg : Nat) (c : Cmd) : (accepted s reg c).lio = s.lio := (accepted_keeps ..).same .lio rfl
@[simp] theorem accepted_chn (s : State) (reg : Nat) (c : Cmd) : (accepted s reg c).chn = s.chn := (accepted_keeps ..).same .chn rfl
@[simp] theorem accepted_can (s : State) (reg : Nat) (c : Cmd) : (accepted s reg c).can = s.can := (accepted_keeps ..).same .can rfl
@[simp] theorem accepted_tim (s : State) (reg : Nat) (c : Cmd) : (accepted s reg c).tim = s.tim := (accepted_keeps ..).same .tim rfl
@[simp] theorem accepted_hlt (s : State) (reg : Nat) (c : Cmd) : (accepted s reg c).hlt = s.hlt := (accepted_keeps ..).same .hlt rfl
@[simp] theorem accepted_slot (s : State) (reg : Nat) (c : Cmd) : (accepted s reg c).slot = s.slot := (accepted_keeps ..).same .slot rfl
@[simp] theorem accepted_svi (s : State) (reg : Nat) (c : Cmd) : (accepted s reg c).svi = s.svi := (accepted_keeps ..).same .svi rfl
@[simp] theorem accepted_pe (s : State) (reg : Nat) (c : Cmd) : (accepted s reg c).pe = s.pe := (accepted_keeps ..).same .pe rfl
@[simp] theorem accepted_stn (s : State) (reg : Nat) (c : Cmd) : (accepted s reg c).stn = s.stn := (accepted_keeps ..).same .stn rfl
@[simp] theorem accepted_dpy (s : State) (reg : Nat) (c : Cmd) : (accepted s reg c).dpy = s.dpy := (accepted_keeps ..).same .dpy rfl
@[simp] theorem accepted_sess (s : State) (reg : Nat) (c : Cmd) : (accepted s reg c).sess = s.sess := (accepted_keeps ..).same .sess rfl

@[simp] theorem cleared_pending (s : State) (reg n : Nat) : (cleared s reg n).pending = s.pending := (cleared_keeps ..).same .pending rfl
@[simp] theorem cleared_resp (s : State) (reg n : Nat) : (cleared s reg n).resp = s.resp := (cleared_keeps ..).same .resp rfl
@[simp] theorem cleared_sent (s : State) (reg n : Nat) : (cleared s reg n).sent = s.sent := (cleared_keeps ..).same .sent rfl
@[simp] theorem cleared_cfg (s : State) (reg n : Nat) : (cleared s reg n).cfg = s.cfg := (cleared_keeps ..).same .cfg rfl
@[simp] theorem cleared_grid (s : State) (reg n : Nat) : (cleared s reg n).grid = s.grid := (cleared_keeps ..).same .grid rfl
@[simp] theorem cleared_sig (s : State) (reg n : Nat) : (cleared s reg n).sig = s.sig := (cleared_keeps ..).same .sig rfl
@[simp] theorem cleared_sched (s : State) (reg n : Nat) : (cleared s reg n).sched = s.sched := (cleared_keeps ..).same .sched rfl
@[simp] theorem cleared_le (s : State) (reg n : Nat) : (cleared s reg n).le = s.le := (cleared_keeps ..).same .le rfl
@[simp] theorem cleared_fbx (s : State) (reg n : Nat) : (cleared s reg n).fbx = s.fbx := (cleared_keeps ..).same .fbx rfl
@[simp] theorem cleared_acc (s : State) (reg n : Nat) : (cleared s reg n).acc = s.acc := (cleared_keeps ..).same .acc rfl
@[simp] theorem cleared_pair (s : State) (reg n : Nat) : (cleared s reg n).pair = s.pair := (cleared_keeps ..).same .pair rfl
@[simp] theorem cleared_saf (s : State) (reg n : Nat) : (cleared s reg n).saf = s.saf := (cleared_keeps ..).same .saf rfl
@[simp] theorem cleared_olc (s : State) (reg n : Nat) : (cleared s reg n).olc = s.olc := (cleared_keeps ..).same .olc rfl
@[simp] theorem cleared_frc (s : State) (reg n : Nat) : (cleared s reg n).frc = s.frc := (cleared_keeps ..).same .frc rfl
@[simp] theorem cleared_upd (s : State) (reg n : Nat) : (cleared s reg n).upd = s.upd := (cleared_keeps ..).same .upd rfl
@[simp] theorem cleared_lio (s : State) (reg n : Nat) : (cleared s reg n).lio = s.lio := (cleared_keeps ..).same .lio rfl
@[simp] theorem cleared_chn (s : State) (reg n : Nat) : (cleared s reg n).chn = s.chn := (cleared_keeps ..).same .chn rfl
@[simp] theorem cleared_can (s : State) (reg n : Nat) : (cleared s reg n).can = s.can := (cleared_keeps ..).same .can rfl
@[simp] theorem cleared_tim (s : State) (reg n : Nat) : (cleared s reg n).tim = s.tim := (cleared_keeps ..).same .tim rfl
@[simp] theorem cleared_hlt (s : State) (reg n : Nat) : (cleared s reg n).hlt = s.hlt := (cleared_keeps ..).same .hlt rfl
@[simp] theorem cleared_slot (s : State) (reg n : Nat) : (cleared s reg n).slot = s.slot := (cleared_keeps ..).same .slot rfl
@[simp] theorem cleared_svi (s : State) (reg n : Nat) : (cleared s reg n).svi = s.svi := (cleared_keeps ..).same .svi rfl
@[simp] theorem cleared_pe (s : State) (reg n : Nat) : (cleared s reg n).pe = s.pe := (cleared_keeps ..).same .pe rfl
@[simp] theorem cleared_stn (s : State) (reg n : Nat) : (cleared s reg n).stn = s.stn := (cleared_keeps ..).same .stn rfl
@[simp] theorem cleared_dpy (s : State) (reg n : Nat) : (cleared s reg n).dpy = s.dpy := (cleared_keeps ..).same .dpy rfl
@[simp] theorem cleared_sess (s : State) (reg n : Nat) : (cleared s reg n).sess = s.sess := (cleared_keeps ..).same .sess rfl

@[simp] theorem settingWritten_pending (s : State) (reg : Nat) (old new : Word) (n : Nat) : (settingWritten s reg old new n).pending = s.pending := (settingWritten_keeps ..).same .pending rfl
@[simp] theorem settingWritten_resp (s : State) (reg : Nat) (old new : Word) (n : Nat) : (settingWritten s reg old new n).resp = s.resp := (settingWritten_keeps ..).same .resp rfl
@[simp] theorem settingWritten_sent (s : State) (reg : Nat) (old new : Word) (n : Nat) : (settingWritten s reg old new n).sent = s.sent := (settingWritten_keeps ..).same .sent rfl
@[simp] theorem settingWritten_cfg (s : State) (reg : Nat) (old new : Word) (n : Nat) : (settingWritten s reg old new n).cfg = s.cfg := (settingWritten_keeps ..).same .cfg rfl
@[simp] theorem settingWritten_grid (s : State) (reg : Nat) (old new : Word) (n : Nat) : (settingWritten s reg old new n).grid = s.grid := (settingWritten_keeps ..).same .grid rfl
@[simp] theorem settingWritten_sig (s : State) (reg : Nat) (old new : Word) (n : Nat) : (settingWritten s reg old new n).sig = s.sig := (settingWritten_keeps ..).same .sig rfl
@[simp] theorem settingWritten_sched (s : State) (reg : Nat) (old new : Word) (n : Nat) : (settingWritten s reg old new n).sched = s.sched := (settingWritten_keeps ..).same .sched rfl
@[simp] theorem settingWritten_le (s : State) (reg : Nat) (old new : Word) (n : Nat) : (settingWritten s reg old new n).le = s.le := (settingWritten_keeps ..).same .le rfl
@[simp] theorem settingWritten_fbx (s : State) (reg : Nat) (old new : Word) (n : Nat) : (settingWritten s reg old new n).fbx = s.fbx := (settingWritten_keeps ..).same .fbx rfl
@[simp] theorem settingWritten_acc (s : State) (reg : Nat) (old new : Word) (n : Nat) : (settingWritten s reg old new n).acc = s.acc := (settingWritten_keeps ..).same .acc rfl
@[simp] theorem settingWritten_pair (s : State) (reg : Nat) (old new : Word) (n : Nat) : (settingWritten s reg old new n).pair = s.pair := (settingWritten_keeps ..).same .pair rfl
@[simp] theorem settingWritten_saf (s : State) (reg : Nat) (old new : Word) (n : Nat) : (settingWritten s reg old new n).saf = s.saf := (settingWritten_keeps ..).same .saf rfl
@[simp] theorem settingWritten_olc (s : State) (reg : Nat) (old new : Word) (n : Nat) : (settingWritten s reg old new n).olc = s.olc := (settingWritten_keeps ..).same .olc rfl
@[simp] theorem settingWritten_frc (s : State) (reg : Nat) (old new : Word) (n : Nat) : (settingWritten s reg old new n).frc = s.frc := (settingWritten_keeps ..).same .frc rfl
@[simp] theorem settingWritten_upd (s : State) (reg : Nat) (old new : Word) (n : Nat) : (settingWritten s reg old new n).upd = s.upd := (settingWritten_keeps ..).same .upd rfl
@[simp] theorem settingWritten_lio (s : State) (reg : Nat) (old new : Word) (n : Nat) : (settingWritten s reg old new n).lio = s.lio := (settingWritten_keeps ..).same .lio rfl
@[simp] theorem settingWritten_chn (s : State) (reg : Nat) (old new : Word) (n : Nat) : (settingWritten s reg old new n).chn = s.chn := (settingWritten_keeps ..).same .chn rfl
@[simp] theorem settingWritten_can (s : State) (reg : Nat) (old new : Word) (n : Nat) : (settingWritten s reg old new n).can = s.can := (settingWritten_keeps ..).same .can rfl
@[simp] theorem settingWritten_tim (s : State) (reg : Nat) (old new : Word) (n : Nat) : (settingWritten s reg old new n).tim = s.tim := (settingWritten_keeps ..).same .tim rfl
@[simp] theorem settingWritten_hlt (s : State) (reg : Nat) (old new : Word) (n : Nat) : (settingWritten s reg old new n).hlt = s.hlt := (settingWritten_keeps ..).same .hlt rfl
@[simp] theorem settingWritten_slot (s : State) (reg : Nat) (old new : Word) (n : Nat) : (settingWritten s reg old new n).slot = s.slot := (settingWritten_keeps ..).same .slot rfl
@[simp] theorem settingWritten_svi (s : State) (reg : Nat) (old new : Word) (n : Nat) : (settingWritten s reg old new n).svi = s.svi := (settingWritten_keeps ..).same .svi rfl
@[simp] theorem settingWritten_pe (s : State) (reg : Nat) (old new : Word) (n : Nat) : (settingWritten s reg old new n).pe = s.pe := (settingWritten_keeps ..).same .pe rfl
@[simp] theorem settingWritten_stn (s : State) (reg : Nat) (old new : Word) (n : Nat) : (settingWritten s reg old new n).stn = s.stn := (settingWritten_keeps ..).same .stn rfl
@[simp] theorem settingWritten_dpy (s : State) (reg : Nat) (old new : Word) (n : Nat) : (settingWritten s reg old new n).dpy = s.dpy := (settingWritten_keeps ..).same .dpy rfl
@[simp] theorem settingWritten_sess (s : State) (reg : Nat) (old new : Word) (n : Nat) : (settingWritten s reg old new n).sess = s.sess := (settingWritten_keeps ..).same .sess rfl

@[simp] theorem conditionEnded_pending (s : State) (blk ev seq n : Nat) : (conditionEnded s blk ev seq n).pending = s.pending := (conditionEnded_keeps ..).same .pending rfl
@[simp] theorem conditionEnded_resp (s : State) (blk ev seq n : Nat) : (conditionEnded s blk ev seq n).resp = s.resp := (conditionEnded_keeps ..).same .resp rfl
@[simp] theorem conditionEnded_sent (s : State) (blk ev seq n : Nat) : (conditionEnded s blk ev seq n).sent = s.sent := (conditionEnded_keeps ..).same .sent rfl
@[simp] theorem conditionEnded_cfg (s : State) (blk ev seq n : Nat) : (conditionEnded s blk ev seq n).cfg = s.cfg := (conditionEnded_keeps ..).same .cfg rfl
@[simp] theorem conditionEnded_grid (s : State) (blk ev seq n : Nat) : (conditionEnded s blk ev seq n).grid = s.grid := (conditionEnded_keeps ..).same .grid rfl
@[simp] theorem conditionEnded_sig (s : State) (blk ev seq n : Nat) : (conditionEnded s blk ev seq n).sig = s.sig := (conditionEnded_keeps ..).same .sig rfl
@[simp] theorem conditionEnded_sched (s : State) (blk ev seq n : Nat) : (conditionEnded s blk ev seq n).sched = s.sched := (conditionEnded_keeps ..).same .sched rfl
@[simp] theorem conditionEnded_le (s : State) (blk ev seq n : Nat) : (conditionEnded s blk ev seq n).le = s.le := (conditionEnded_keeps ..).same .le rfl
@[simp] theorem conditionEnded_fbx (s : State) (blk ev seq n : Nat) : (conditionEnded s blk ev seq n).fbx = s.fbx := (conditionEnded_keeps ..).same .fbx rfl
@[simp] theorem conditionEnded_acc (s : State) (blk ev seq n : Nat) : (conditionEnded s blk ev seq n).acc = s.acc := (conditionEnded_keeps ..).same .acc rfl
@[simp] theorem conditionEnded_pair (s : State) (blk ev seq n : Nat) : (conditionEnded s blk ev seq n).pair = s.pair := (conditionEnded_keeps ..).same .pair rfl
@[simp] theorem conditionEnded_saf (s : State) (blk ev seq n : Nat) : (conditionEnded s blk ev seq n).saf = s.saf := (conditionEnded_keeps ..).same .saf rfl
@[simp] theorem conditionEnded_olc (s : State) (blk ev seq n : Nat) : (conditionEnded s blk ev seq n).olc = s.olc := (conditionEnded_keeps ..).same .olc rfl
@[simp] theorem conditionEnded_frc (s : State) (blk ev seq n : Nat) : (conditionEnded s blk ev seq n).frc = s.frc := (conditionEnded_keeps ..).same .frc rfl
@[simp] theorem conditionEnded_upd (s : State) (blk ev seq n : Nat) : (conditionEnded s blk ev seq n).upd = s.upd := (conditionEnded_keeps ..).same .upd rfl
@[simp] theorem conditionEnded_lio (s : State) (blk ev seq n : Nat) : (conditionEnded s blk ev seq n).lio = s.lio := (conditionEnded_keeps ..).same .lio rfl
@[simp] theorem conditionEnded_chn (s : State) (blk ev seq n : Nat) : (conditionEnded s blk ev seq n).chn = s.chn := (conditionEnded_keeps ..).same .chn rfl
@[simp] theorem conditionEnded_can (s : State) (blk ev seq n : Nat) : (conditionEnded s blk ev seq n).can = s.can := (conditionEnded_keeps ..).same .can rfl
@[simp] theorem conditionEnded_tim (s : State) (blk ev seq n : Nat) : (conditionEnded s blk ev seq n).tim = s.tim := (conditionEnded_keeps ..).same .tim rfl
@[simp] theorem conditionEnded_hlt (s : State) (blk ev seq n : Nat) : (conditionEnded s blk ev seq n).hlt = s.hlt := (conditionEnded_keeps ..).same .hlt rfl
@[simp] theorem conditionEnded_slot (s : State) (blk ev seq n : Nat) : (conditionEnded s blk ev seq n).slot = s.slot := (conditionEnded_keeps ..).same .slot rfl
@[simp] theorem conditionEnded_svi (s : State) (blk ev seq n : Nat) : (conditionEnded s blk ev seq n).svi = s.svi := (conditionEnded_keeps ..).same .svi rfl
@[simp] theorem conditionEnded_pe (s : State) (blk ev seq n : Nat) : (conditionEnded s blk ev seq n).pe = s.pe := (conditionEnded_keeps ..).same .pe rfl
@[simp] theorem conditionEnded_stn (s : State) (blk ev seq n : Nat) : (conditionEnded s blk ev seq n).stn = s.stn := (conditionEnded_keeps ..).same .stn rfl
@[simp] theorem conditionEnded_dpy (s : State) (blk ev seq n : Nat) : (conditionEnded s blk ev seq n).dpy = s.dpy := (conditionEnded_keeps ..).same .dpy rfl
@[simp] theorem conditionEnded_sess (s : State) (blk ev seq n : Nat) : (conditionEnded s blk ev seq n).sess = s.sess := (conditionEnded_keeps ..).same .sess rfl

@[simp] theorem raise_pending (s : State) (r : RecReq) (e : Nat) : (raise s r e).pending = s.pending := (record_keeps ..).same .pending rfl
@[simp] theorem raise_resp (s : State) (r : RecReq) (e : Nat) : (raise s r e).resp = s.resp := (record_keeps ..).same .resp rfl
@[simp] theorem raise_sent (s : State) (r : RecReq) (e : Nat) : (raise s r e).sent = s.sent := (record_keeps ..).same .sent rfl
@[simp] theorem raise_cfg (s : State) (r : RecReq) (e : Nat) : (raise s r e).cfg = s.cfg := (record_keeps ..).same .cfg rfl
@[simp] theorem raise_grid (s : State) (r : RecReq) (e : Nat) : (raise s r e).grid = s.grid := (record_keeps ..).same .grid rfl
@[simp] theorem raise_sig (s : State) (r : RecReq) (e : Nat) : (raise s r e).sig = s.sig := (record_keeps ..).same .sig rfl
@[simp] theorem raise_sched (s : State) (r : RecReq) (e : Nat) : (raise s r e).sched = s.sched := (record_keeps ..).same .sched rfl
@[simp] theorem raise_le (s : State) (r : RecReq) (e : Nat) : (raise s r e).le = s.le := (record_keeps ..).same .le rfl
@[simp] theorem raise_fbx (s : State) (r : RecReq) (e : Nat) : (raise s r e).fbx = s.fbx := (record_keeps ..).same .fbx rfl
@[simp] theorem raise_acc (s : State) (r : RecReq) (e : Nat) : (raise s r e).acc = s.acc := (record_keeps ..).same .acc rfl
@[simp] theorem raise_pair (s : State) (r : RecReq) (e : Nat) : (raise s r e).pair = s.pair := (record_keeps ..).same .pair rfl
@[simp] theorem raise_saf (s : State) (r : RecReq) (e : Nat) : (raise s r e).saf = s.saf := (record_keeps ..).same .saf rfl
@[simp] theorem raise_olc (s : State) (r : RecReq) (e : Nat) : (raise s r e).olc = s.olc := (record_keeps ..).same .olc rfl
@[simp] theorem raise_frc (s : State) (r : RecReq) (e : Nat) : (raise s r e).frc = s.frc := (record_keeps ..).same .frc rfl
@[simp] theorem raise_upd (s : State) (r : RecReq) (e : Nat) : (raise s r e).upd = s.upd := (record_keeps ..).same .upd rfl
@[simp] theorem raise_lio (s : State) (r : RecReq) (e : Nat) : (raise s r e).lio = s.lio := (record_keeps ..).same .lio rfl
@[simp] theorem raise_chn (s : State) (r : RecReq) (e : Nat) : (raise s r e).chn = s.chn := (record_keeps ..).same .chn rfl
@[simp] theorem raise_can (s : State) (r : RecReq) (e : Nat) : (raise s r e).can = s.can := (record_keeps ..).same .can rfl
@[simp] theorem raise_tim (s : State) (r : RecReq) (e : Nat) : (raise s r e).tim = s.tim := (record_keeps ..).same .tim rfl
@[simp] theorem raise_hlt (s : State) (r : RecReq) (e : Nat) : (raise s r e).hlt = s.hlt := (record_keeps ..).same .hlt rfl
@[simp] theorem raise_slot (s : State) (r : RecReq) (e : Nat) : (raise s r e).slot = s.slot := (record_keeps ..).same .slot rfl
@[simp] theorem raise_svi (s : State) (r : RecReq) (e : Nat) : (raise s r e).svi = s.svi := (record_keeps ..).same .svi rfl
@[simp] theorem raise_pe (s : State) (r : RecReq) (e : Nat) : (raise s r e).pe = s.pe := (record_keeps ..).same .pe rfl
@[simp] theorem raise_stn (s : State) (r : RecReq) (e : Nat) : (raise s r e).stn = s.stn := (record_keeps ..).same .stn rfl
@[simp] theorem raise_dpy (s : State) (r : RecReq) (e : Nat) : (raise s r e).dpy = s.dpy := (record_keeps ..).same .dpy rfl
@[simp] theorem raise_sess (s : State) (r : RecReq) (e : Nat) : (raise s r e).sess = s.sess := (record_keeps ..).same .sess rfl

/-- A record writes no register but REC_EVT_STAT, and that only when a record is discarded (R475). -/
theorem rd_record (s : State) (r : RecReq) (a : Nat) (h : a ≠ Reg.REC_EVT_STAT) : rd (record s r) a = rd s a := by
  unfold record enterRec discardRec acceptRec setBit
  split <;> split <;> first | rfl | (rw [rd_wr_other _ _ _ _ h]; rfl) | (show rd (wr _ _ _) a = _; rw [rd_wr_other _ _ _ _ h]; rfl)

theorem rd_recordBare (s : State) (k : Nat) (r : RecReq) (a : Nat) (h : a ≠ Reg.REC_EVT_STAT) : rd (recordBare s k r) a = rd s a := rd_record _ _ a h
theorem rd_refuse (s : State) (reg : Nat) (code : Option Nat) (n : Nat) (sev : Option Nat) (a : Nat) (h : a ≠ Reg.REC_EVT_STAT) : rd (refuse s reg code n sev) a = rd s a := rd_record _ _ a h
theorem rd_keyWrong (s : State) (reg : Nat) (v : Word) (a : Nat) (h : a ≠ Reg.REC_EVT_STAT) : rd (keyWrong s reg v) a = rd s a := rd_record _ _ a h
theorem rd_accepted (s : State) (reg : Nat) (c : Cmd) (a : Nat) (h : a ≠ Reg.REC_EVT_STAT) : rd (accepted s reg c) a = rd s a := rd_record _ _ a h
theorem rd_cleared (s : State) (reg n : Nat) (a : Nat) (h : a ≠ Reg.REC_EVT_STAT) : rd (cleared s reg n) a = rd s a := rd_record _ _ a h
theorem rd_settingWritten (s : State) (reg : Nat) (old new : Word) (n : Nat) (a : Nat) (h : a ≠ Reg.REC_EVT_STAT) : rd (settingWritten s reg old new n) a = rd s a := rd_record _ _ a h
theorem rd_conditionEnded (s : State) (blk ev seq n : Nat) (a : Nat) (h : a ≠ Reg.REC_EVT_STAT) : rd (conditionEnded s blk ev seq n) a = rd s a := rd_record _ _ a h

/-- An event writes its bit of the block's status register, and no other register but REC_EVT_STAT (R470, R475). -/
theorem rd_raise (s : State) (r : RecReq) (e a : Nat) (h : a ≠ Reg.REC_EVT_STAT) (h2 : a ≠ evtStat r.blk e) :
    rd (raise s r e) a = rd s a := by
  unfold raise setBit
  rw [rd_record _ _ _ h, rd_wr_other _ _ _ _ h2]

theorem rd_raise_evt (s : State) (r : RecReq) (e : Nat) (h : evtStat r.blk e ≠ Reg.REC_EVT_STAT) :
    rd (raise s r e) (evtStat r.blk e) = rd s (evtStat r.blk e) ||| BitVec.ofNat 32 (2 ^ r.ev) := by
  unfold raise setBit
  rw [rd_record _ _ _ h, rd_wr_same]
@[simp] theorem leOf_record (s : State) (r : RecReq) (w : Nat) : leOf (record s r) w = leOf s w := by unfold leOf; rw [record_le]
@[simp] theorem leOf_recordBare (s : State) (k : Nat) (r : RecReq) (w : Nat) : leOf (recordBare s k r) w = leOf s w := by unfold leOf; rw [recordBare_le]
@[simp] theorem leOf_refuse (s : State) (reg : Nat) (code : Option Nat) (n : Nat) (sev : Option Nat) (w : Nat) : leOf (refuse s reg code n sev) w = leOf s w := by unfold leOf; rw [refuse_le]
@[simp] theorem leOf_keyWrong (s : State) (reg : Nat) (v : Word) (w : Nat) : leOf (keyWrong s reg v) w = leOf s w := by unfold leOf; rw [keyWrong_le]
@[simp] theorem leOf_accepted (s : State) (reg : Nat) (c : Cmd) (w : Nat) : leOf (accepted s reg c) w = leOf s w := by unfold leOf; rw [accepted_le]
@[simp] theorem leOf_cleared (s : State) (reg n : Nat) (w : Nat) : leOf (cleared s reg n) w = leOf s w := by unfold leOf; rw [cleared_le]
@[simp] theorem leOf_settingWritten (s : State) (reg : Nat) (old new : Word) (n : Nat) (w : Nat) : leOf (settingWritten s reg old new n) w = leOf s w := by unfold leOf; rw [settingWritten_le]
@[simp] theorem leOf_conditionEnded (s : State) (blk ev seq n : Nat) (w : Nat) : leOf (conditionEnded s blk ev seq n) w = leOf s w := by unfold leOf; rw [conditionEnded_le]
@[simp] theorem leOf_raise (s : State) (r : RecReq) (e w : Nat) : leOf (raise s r e) w = leOf s w := by unfold leOf; rw [raise_le]
@[simp] theorem acOf_record (s : State) (r : RecReq) (w : Nat) : acOf (record s r) w = acOf s w := by unfold acOf; rw [record_fbx]
@[simp] theorem acOf_recordBare (s : State) (k : Nat) (r : RecReq) (w : Nat) : acOf (recordBare s k r) w = acOf s w := by unfold acOf; rw [recordBare_fbx]
@[simp] theorem acOf_refuse (s : State) (reg : Nat) (code : Option Nat) (n : Nat) (sev : Option Nat) (w : Nat) : acOf (refuse s reg code n sev) w = acOf s w := by unfold acOf; rw [refuse_fbx]
@[simp] theorem acOf_keyWrong (s : State) (reg : Nat) (v : Word) (w : Nat) : acOf (keyWrong s reg v) w = acOf s w := by unfold acOf; rw [keyWrong_fbx]
@[simp] theorem acOf_accepted (s : State) (reg : Nat) (c : Cmd) (w : Nat) : acOf (accepted s reg c) w = acOf s w := by unfold acOf; rw [accepted_fbx]
@[simp] theorem acOf_cleared (s : State) (reg n : Nat) (w : Nat) : acOf (cleared s reg n) w = acOf s w := by unfold acOf; rw [cleared_fbx]
@[simp] theorem acOf_settingWritten (s : State) (reg : Nat) (old new : Word) (n : Nat) (w : Nat) : acOf (settingWritten s reg old new n) w = acOf s w := by unfold acOf; rw [settingWritten_fbx]
@[simp] theorem acOf_conditionEnded (s : State) (blk ev seq n : Nat) (w : Nat) : acOf (conditionEnded s blk ev seq n) w = acOf s w := by unfold acOf; rw [conditionEnded_fbx]
@[simp] theorem acOf_raise (s : State) (r : RecReq) (e w : Nat) : acOf (raise s r e) w = acOf s w := by unfold acOf; rw [raise_fbx]
@[simp] theorem partOf_record (s : State) (r : RecReq) (w : Nat) : partOf (record s r) w = partOf s w := by unfold partOf; rw [record_sched]
@[simp] theorem partOf_recordBare (s : State) (k : Nat) (r : RecReq) (w : Nat) : partOf (recordBare s k r) w = partOf s w := by unfold partOf; rw [recordBare_sched]
@[simp] theorem partOf_refuse (s : State) (reg : Nat) (code : Option Nat) (n : Nat) (sev : Option Nat) (w : Nat) : partOf (refuse s reg code n sev) w = partOf s w := by unfold partOf; rw [refuse_sched]
@[simp] theorem partOf_keyWrong (s : State) (reg : Nat) (v : Word) (w : Nat) : partOf (keyWrong s reg v) w = partOf s w := by unfold partOf; rw [keyWrong_sched]
@[simp] theorem partOf_accepted (s : State) (reg : Nat) (c : Cmd) (w : Nat) : partOf (accepted s reg c) w = partOf s w := by unfold partOf; rw [accepted_sched]
@[simp] theorem partOf_cleared (s : State) (reg n : Nat) (w : Nat) : partOf (cleared s reg n) w = partOf s w := by unfold partOf; rw [cleared_sched]
@[simp] theorem partOf_settingWritten (s : State) (reg : Nat) (old new : Word) (n : Nat) (w : Nat) : partOf (settingWritten s reg old new n) w = partOf s w := by unfold partOf; rw [settingWritten_sched]
@[simp] theorem partOf_conditionEnded (s : State) (blk ev seq n : Nat) (w : Nat) : partOf (conditionEnded s blk ev seq n) w = partOf s w := by unfold partOf; rw [conditionEnded_sched]
@[simp] theorem partOf_raise (s : State) (r : RecReq) (e w : Nat) : partOf (raise s r e) w = partOf s w := by unfold partOf; rw [raise_sched]
@[simp] theorem classOf_record (s : State) (r : RecReq) (w : Nat) : classOf (record s r) w = classOf s w := by unfold classOf; rw [record_sched]
@[simp] theorem classOf_recordBare (s : State) (k : Nat) (r : RecReq) (w : Nat) : classOf (recordBare s k r) w = classOf s w := by unfold classOf; rw [recordBare_sched]
@[simp] theorem classOf_refuse (s : State) (reg : Nat) (code : Option Nat) (n : Nat) (sev : Option Nat) (w : Nat) : classOf (refuse s reg code n sev) w = classOf s w := by unfold classOf; rw [refuse_sched]
@[simp] theorem classOf_keyWrong (s : State) (reg : Nat) (v : Word) (w : Nat) : classOf (keyWrong s reg v) w = classOf s w := by unfold classOf; rw [keyWrong_sched]
@[simp] theorem classOf_accepted (s : State) (reg : Nat) (c : Cmd) (w : Nat) : classOf (accepted s reg c) w = classOf s w := by unfold classOf; rw [accepted_sched]
@[simp] theorem classOf_cleared (s : State) (reg n : Nat) (w : Nat) : classOf (cleared s reg n) w = classOf s w := by unfold classOf; rw [cleared_sched]
@[simp] theorem classOf_settingWritten (s : State) (reg : Nat) (old new : Word) (n : Nat) (w : Nat) : classOf (settingWritten s reg old new n) w = classOf s w := by unfold classOf; rw [settingWritten_sched]
@[simp] theorem classOf_conditionEnded (s : State) (blk ev seq n : Nat) (w : Nat) : classOf (conditionEnded s blk ev seq n) w = classOf s w := by unfold classOf; rw [conditionEnded_sched]
@[simp] theorem classOf_raise (s : State) (r : RecReq) (e w : Nat) : classOf (raise s r e) w = classOf s w := by unfold classOf; rw [raise_sched]

end Sys2Proof.Machine
end

