-- ==== Sys2Proof/Tests/Slice0.lean ====
section
/-! SUPPORT. Small tests: what WellFormed refuses, words of logic programs written out from the spec, worked values of the rules, and for
each statement states and operands that meet its hypotheses, clause by clause. -/

namespace Sys2Proof.Tests

open Sys2Proof Sys2Proof.Machine

set_option maxRecDepth 100000

/-! ### Helpers -/

/-- A command of SC over session 1. -/
def sc (v : Word) : Cmd := { session := 1, value := v }

/-- An open session of the engineer, and one of another role. -/
def engineer : Tbl (Option Session) := [(0, some { id := 1, role := 2 })]
def sessionOf (role : Nat) : Tbl (Option Session) := [(0, some { id := 1, role := role })]

/-- SC's writes pass the access decision (R457, R458). -/
theorem passes_sc (s : State) (reg : Nat) (v : Word) : passes s reg (sc v) := by
  have h : ∀ g, (!targetAllows s 4 g 0 .write) = false := fun g => by simp [targetAllows]
  have h2 : (hasInitiatorSet 0) = false := by decide
  have h3 : ∀ l : List Nat, l.find? (fun _ => false) = none := fun l => by induction l <;> simp_all
  simp [passes, firstRefused, sc, h, h2, h3]

theorem takes_sc (s : State) (reg bit : Nat) (v : Word) (h : field v 31 16 = 0x5A3C) (hb : flag v bit = true) : takes s reg bit (sc v) :=
  ⟨passes_sc s reg v, h, hb⟩

/-- A frame in the given phase. -/
def gridAt (phase : Nat) : Grid := { running := true, phase := phase, frame := 4800, freezes := 9, freezeAt := 2000000000, now := 2000000000, neverSync := false }

/-- A module in a role. -/
def inRole (r : Role) : State := { State.reset with grid := gridAt 1, pair := { role := r, granted := true } }

/-! ### Logic engines -/

/-- Engine 0, whose program 0 holds two words, with an accumulator and a stack. -/
def leS (w0 w1 : Word) (acc : Tetrad) (stack : List StackEnt) : State := { State.reset with
  grid := gridAt 1
  cfg := { le := [(0, { progs := [(0, { entry := 0, len := 9 })], windows := [(0, { base := 0, count := 8 })] })], dir := [(5, 0x1000000000000000)] }
  le := [(0, { pmem := [(0, w0), (1, w1)], s0 := { cls := some 0, progs := [0], acc := acc, accS := ~~~ acc, stack := stack, stackS := notStack stack } })] }

theorem leFetch_leS (w0 w1 : Word) (acc : Tetrad) (stack : List StackEnt) : LeFetch (leS w0 w1 acc stack) {} 0 := ⟨by decide, rfl, rfl, rfl, rfl, rfl⟩

theorem noHalt_leS (w0 w1 : Word) (acc : Tetrad) (stack : List StackEnt) : noHalt (leS w0 w1 acc stack) {} := by
  refine ⟨rfl, ?_⟩
  have h : rd (leS w0 w1 acc stack) (Reg.LE_DBG_CTRL 0) = 0 := rfl
  simp [haltCause, h, flag]

theorem leDecoded_leS {w0 w1 : Word} (acc : Tetrad) (stack : List StackEnt) {n : LeInsn} {opc : Nat} (h : leDecode w0 w1 = some n) (ho : leOpcode w0 = opc) (hw : insnWords n ≤ 8)
    (st : LeStep) (h1 : st.eng = 0) (h2 : st.stream = 0) (h3 : st.eccProg = 0 ∧ st.eccHist = 0) : LeDecoded (leS w0 w1 acc stack) st 0 n opc := by
  obtain ⟨eng, stream, time, ep, eh, up, live⟩ := st
  cases h1; cases h2; obtain ⟨rfl, rfl⟩ := h3
  exact { toLeFetch := ⟨(by decide : 0 < 8), rfl, rfl, rfl, rfl, rfl⟩, decoded := h, opcode := ho, shadow := fun _ => ⟨rfl, rfl⟩
          fits := fun _ => (by omega : 0 + insnWords n ≤ 8) }

theorem leReady_leS {w0 w1 : Word} (acc : Tetrad) (stack : List StackEnt) {n : LeInsn} {opc : Nat} (h : leDecode w0 w1 = some n) (ho : leOpcode w0 = opc)
    (hw : insnWords n ≤ 8) : LeReady (leS w0 w1 acc stack) {} 0 n opc :=
  { toLeDecoded := leDecoded_leS acc stack h ho hw {} rfl rfl ⟨rfl, rfl⟩, runs := noHalt_leS .., noUpset := rfl }

/-- Words of logic programs, written out from R70–R72: opcode 31:24, modifier 23:18, operand 17:0; a second word with TAG 0xFF. -/
theorem test_leWords : leDecode 0x01000005#32 0 = some (.ld false (.sig 5)) ∧ leDecode 0x7F000000#32 0 = some .fin ∧
    leDecode 0x38000005#32 0xFF000001#32 = some (.timer 0 5 false 1) ∧ leDecode 0x50040001#32 0 = some (.skip 1 1) ∧
    leDecode 0xFF000000#32 0 = none ∧ leDecode 0x50000000#32 0 = none := by decide

theorem test_hyps_LeLoadsAndOperators :
    LeReady (leS 0x01000005#32 0 2 []) {} 0 (.ld false (.sig 5)) 0x01 ∧ LeReady (leS 0x02000005#32 0 2 []) {} 0 (.ld true (.sig 5)) 0x02 ∧
    LeReady (leS 0x03000005#32 0 2 []) {} 0 (.ldl 5) 0x03 ∧ ({} : LeStep).live = none ∧
    LeReady (leS 0x10000005#32 0 2 []) {} 0 (.alu 0 (.sig 5)) 0x10 ∧ LeReady (leS 0x11000005#32 0 2 []) {} 0 (.alu 1 (.sig 5)) 0x11 ∧
    LeReady (leS 0x12000005#32 0 2 []) {} 0 (.alu 2 (.sig 5)) 0x12 ∧ LeReady (leS 0x13000005#32 0 2 []) {} 0 (.alu 3 (.sig 5)) 0x13 ∧
    LeReady (leS 0x14000005#32 0 2 []) {} 0 (.alu 4 (.sig 5)) 0x14 ∧ LeReady (leS 0x15000005#32 0 2 []) {} 0 (.alu 5 (.sig 5)) 0x15 := by
  refine ⟨?_, ?_, ?_, rfl, ?_, ?_, ?_, ?_, ?_, ?_⟩ <;> exact leReady_leS _ _ (by decide) (by decide) (by decide)

theorem test_hyps_LeBranchesAndStores :
    LeReady (leS 0x18000005#32 0 2 []) {} 0 (.bop 0 (.sig 5)) 0x18 ∧ (strm (leS 0x18000005#32 0 2 []) {}).stack.length < 16 ∧
    LeReady (leS 0x19000000#32 0 2 [{}]) {} 0 .bcl 0x19 ∧ (strm (leS 0x19000000#32 0 2 [{}]) {}).stack = {} :: [] ∧
    LeReady (leS 0x20000005#32 0 2 []) {} 0 (.st false 5) 0x20 ∧ mayStore (leS 0x20000005#32 0 2 []) 0 0 5 ∧
    LeReady (leS 0x21000005#32 0 2 []) {} 0 (.st true 5) 0x21 ∧ mayStore (leS 0x21000005#32 0 2 []) 0 0 5 ∧
    LeReady (leS 0x22000005#32 0 1 []) {} 0 (.setrst true 5) 0x22 ∧ mayStore (leS 0x22000005#32 0 1 []) 0 0 5 ∧
    LeReady (leS 0x23000005#32 0 0 []) {} 0 (.setrst false 5) 0x23 ∧ mayStore (leS 0x23000005#32 0 0 []) 0 0 5 := by
  refine ⟨leReady_leS _ _ (by decide) (by decide) (by decide), by decide, leReady_leS _ _ (by decide) (by decide) (by decide), by decide,
    leReady_leS _ _ (by decide) (by decide) (by decide), ?_, leReady_leS _ _ (by decide) (by decide) (by decide), ?_,
    leReady_leS _ _ (by decide) (by decide) (by decide), ?_, leReady_leS _ _ (by decide) (by decide) (by decide), ?_⟩ <;> unfold mayStore <;> decide

theorem test_hyps_LeCells :
    (∀ w0 w1, cellRoom (leS w0 w1 2 []) {} 0 7) ∧
    LeReady (leS 0x30000000#32 0xFF000007#32 2 []) {} 0 (.edge true false 7) 0x30 ∧
    LeReady (leS 0x31000000#32 0xFF000007#32 2 []) {} 0 (.edge false false 7) 0x31 ∧
    LeReady (leS 0x38000005#32 0xFF000007#32 2 []) {} 0 (.timer 0 5 false 7) 0x38 ∧
    LeReady (leS 0x39000005#32 0xFF000007#32 2 []) {} 0 (.timer 1 5 false 7) 0x39 ∧
    LeReady (leS 0x3A000000#32 0xFF000007#32 2 []) {} 0 (.timer 2 0 false 7) 0x3A ∧
    LeReady (leS 0x40000005#32 0xFF000007#32 2 []) {} 0 (.ctu 5 false 7) 0x40 ∧
    LeReady (leS 0x41000000#32 0xFF000007#32 2 []) {} 0 (.ctd false 7) 0x41 ∧
    LeReady (leS 0x42000005#32 0xFF000007#32 2 []) {} 0 (.ctl 5 7) 0x42 := by
  refine ⟨fun _ _ => ?_, ?_, ?_, ?_, ?_, ?_, ?_, ?_, ?_⟩
  · exact ⟨Nat.zero_le _, by show 7 < 0 + 8; decide, by show 0 < 8192; decide⟩
  all_goals exact leReady_leS _ _ (by decide) (by decide) (by decide)

theorem test_hyps_LeQualitySkipEnd :
    LeReady (leS 0x48000000#32 0 2 []) {} 0 (.tstd 0) 0x48 ∧ LeReady (leS 0x49000000#32 0 2 []) {} 0 .stro 0x49 ∧
    LeReady (leS 0x4A000000#32 0 2 []) {} 0 .frcd 0x4A ∧
    LeReady (leS 0x50000001#32 0 2 []) {} 0 (.skip 0 1) 0x50 ∧ skipCond 0 (strm (leS 0x50000001#32 0 2 []) {}).acc = true ∧
    (strm (leS 0x50000001#32 0 2 []) {}).pc + 1 + 1 ≤ lastWord (leS 0x50000001#32 0 2 []) 0 0 ∧
    skipCond 0 (strm (leS 0x50000001#32 0 1 []) {}).acc = false ∧
    LeReady (leS 0x7F000000#32 0 2 []) {} 0 .fin 0x7F ∧ (strm (leS 0x7F000000#32 0 2 []) {}).stack = [] := by
  refine ⟨?_, ?_, ?_, ?_, by decide, by decide, by decide, ?_, rfl⟩ <;> exact leReady_leS _ _ (by decide) (by decide) (by decide)

/-- A stack with all its entries in use. -/
def fullStack : List StackEnt := List.replicate 16 {}

/-- Engine 0 with a full write-back buffer. -/
def fullBuffer : State :=
  let s := leS 0x40000005#32 0xFF000007#32 2 []
  { s with le := [(0, { (leOf s 0) with s0 := { (leOf s 0).s0 with hbuf := (upto 8192).map fun i => (i + 100, some 0) } })] }

theorem test_hyps_LeStops_1 :
    leDecode (tget 0 (leOf (leS 0xFF000000#32 0 2 []) 0).pmem 0) (tget 0 (leOf (leS 0xFF000000#32 0 2 []) 0).pmem 1) = none ∧
    LeFetch (leS 0xFF000000#32 0 2 []) {} 0 ∧ noHalt (leS 0xFF000000#32 0 2 []) {} ∧
    LeReady (leS 0x18000005#32 0 2 fullStack) {} 0 (.bop 0 (.sig 5)) 0x18 ∧ (strm (leS 0x18000005#32 0 2 fullStack) {}).stack.length = 16 ∧
    LeReady (leS 0x19000000#32 0 2 []) {} 0 .bcl 0x19 ∧ (strm (leS 0x19000000#32 0 2 []) {}).stack = [] ∧
    LeReady (leS 0x7F000000#32 0 2 [{}]) {} 0 .fin 0x7F ∧ (strm (leS 0x7F000000#32 0 2 [{}]) {}).stack ≠ [] ∧
    LeReady (leS 0x20000006#32 0 2 []) {} 0 (.st false 6) (if false then 0x21 else 0x20) ∧ ¬ mayStore (leS 0x20000006#32 0 2 []) 0 0 6 ∧
    LeReady (leS 0x50000009#32 0 2 []) {} 0 (.skip 0 9) 0x50 ∧ lastWord (leS 0x50000009#32 0 2 []) 0 0 < 0 + 1 + 9 := by
  refine ⟨by decide, leFetch_leS .., noHalt_leS .., leReady_leS _ _ (by decide) (by decide) (by decide), by decide,
    leReady_leS _ _ (by decide) (by decide) (by decide), rfl, leReady_leS _ _ (by decide) (by decide) (by decide), by decide,
    leReady_leS _ _ (by decide) (by decide) (by decide), by unfold mayStore; decide, leReady_leS _ _ (by decide) (by decide) (by decide), by decide⟩

theorem test_hyps_LeStops_2 :
    LeReady (leS 0x40000005#32 0xFF000008#32 2 []) {} 0 (.ctu 5 false 8) 0x40 ∧
    (let win := (look (leCfg (leS 0x40000005#32 0xFF000008#32 2 []) 0).windows 0).getD {}
     ¬ (win.base ≤ 8 ∧ 8 < win.base + win.count)) ∧
    (strm (leS 0x40000005#32 0xFF000008#32 2 []) {}).cls = some 0 ∧ 0 ∉ (strm (leS 0x40000005#32 0xFF000008#32 2 []) {}).queue := by
  exact ⟨leReady_leS _ _ (by decide) (by decide) (by decide), by decide, rfl, by decide⟩

theorem test_hyps_LeStops_3 : LeReady fullBuffer {} 0 (.ctu 5 false 7) 0x40 ∧
    ¬ (tget none (strm fullBuffer {}).hbuf 7 ≠ none ∨ (strm fullBuffer {}).hbuf.length < 8192) := by
  have hm : ∀ n, tget none ((upto n).map fun i => (i + 100, (some 0 : Option Word))) 7 = none := by
    intro n
    have : ∀ l : List Nat, Tbl.read (fun _ => none) (l.map fun i => (i + 100, (some 0 : Option Word))) 7 = none := by
      intro l
      induction l with
      | nil => rfl
      | cons a l ih =>
        have : ¬ 7 = a + 100 := by omega
        simpa [Tbl.read, this] using ih
    exact this _
  refine ⟨?_, ?_⟩
  · exact { toLeDecoded := { toLeFetch := ⟨by decide, rfl, rfl, rfl, rfl, rfl⟩, decoded := by decide, opcode := by decide, shadow := fun _ => ⟨rfl, rfl⟩, fits := fun _ => by decide }
            runs := ⟨rfl, (noHalt_leS 0x40000005#32 0xFF000007#32 2 []).2⟩, noUpset := rfl }
  · have h1 : (strm fullBuffer {}).hbuf = (upto 8192).map fun i => (i + 100, (some 0 : Option Word)) := rfl
    rw [h1, hm]
    have h2 : ((upto 8192).map fun i => (i + 100, (some 0 : Option Word))).length = 8192 := by simp [upto]
    rw [h2]
    decide

theorem test_hyps_LeStops_4 : LeDecoded (leS 0x01000005#32 0 2 []) { upset := { acc := 1 } } 0 (.ld false (.sig 5)) 0x01 ∧
    noHalt (leS 0x01000005#32 0 2 []) { upset := { acc := 1 } } ∧ (leOf (leS 0x01000005#32 0 2 []) 0).split = false ∧
    0 ∉ (leOf (leS 0x01000005#32 0 2 []) 0).s1.queue ∧ (∀ f ∈ (leOf (leS 0x01000005#32 0 2 []) 0).events, 2399 < 4800 - f) := by
  exact ⟨leDecoded_leS _ _ (by decide) (by decide) (by decide) _ rfl rfl ⟨rfl, rfl⟩, noHalt_leS 0x01000005#32 0 2 [], rfl, by decide, by decide⟩

theorem test_hyps_LeSelfTestsAndModes :
    (let s : State := { State.reset with grid := gridAt 3 }
     s.grid.phase = 3 ∧ (leOf s 7).failed = false ∧ (leOf s 7).fullTest = false) ∧
    (let s : State := { State.reset with grid := gridAt 3, le := [(0, { fullTest := true, events := [4800] })] }
     s.grid.phase = 3 ∧ (leOf s 0).fullTest = true ∧ (leOf s 0).failed = false ∧ (leOf s 0).events.length = 1 ∧
       field (rd s (Reg.LE_CMP_STAT 0)) 27 25 ≠ 6) ∧
    (let s : State := { State.reset with grid := gridAt 3, sess := engineer, cfg := { le := [(0, {})] } }
     passes s (Reg.LE_MODE_REQ 0) (sc 0x5A3C0000) ∧ field (0x5A3C0000 : Word) 31 16 = 0x5A3C ∧ hasRole s 1 2 = true ∧ modeRefusal s 0 false ≠ 0) ∧
    (let s : State := { State.reset with grid := gridAt 3, sess := engineer, le := [(0, { split := true })] }
     passes s (Reg.LE_MODE_REQ 0) (sc 0x5A3C0000) ∧ hasRole s 1 2 = true ∧ modeRefusal s 0 false = 0) ∧
    takes State.reset (Reg.LE_CTRL 7) 0 (sc 0x5A3C0001) :=
  ⟨by decide, by decide, ⟨passes_sc .., by decide, by decide, by decide⟩, ⟨passes_sc .., by decide, by decide⟩, takes_sc _ _ _ _ (by decide) (by decide)⟩

/-- Engine 0 halted, with its debug session open on the accumulator or on a cell. -/
def halted (ctrl : Word) : State :=
  let s := leS 0x01000005#32 0 2 []
  wr { s with le := [(0, { (leOf s 0) with halt := true })] } (Reg.LE_DBG_CTRL 0) ctrl

theorem test_hyps_LeDebugger :
    (let s : State := { inRole .solo with sess := engineer }
     passes s (Reg.LE_DBG_CTRL 0) (sc 0x80000000) ∧ flag (0x80000000 : Word) 31 = true ∧ flag (rd s (Reg.LE_DBG_CTRL 0)) 31 = false ∧
       debugAllowed s 0 1 = true) ∧
    (passes (halted 0x80000000) (Reg.LE_DBG_CTRL 0) (sc 0) ∧ flag (0 : Word) 31 = false ∧
      flag (rd (halted 0x80000000) (Reg.LE_DBG_CTRL 0)) 31 = true) ∧
    (let s := wr (leS 0x01000005#32 0 2 []) (Reg.LE_DBG_CTRL 0) 0x80000000
     flag (rd s (Reg.LE_DBG_CTRL 0)) 31 = true ∧ (leOf s 0).halt = false) ∧
    LeDecoded (halted 0x80000000) {} 0 (.ld false (.sig 5)) 0x01 ∧ (leOf (halted 0x80000000) 0).halt = true ∧
    (leOf (halted 0x80000000) 0).s0.cls = some 0 ∧ (leOf (halted 0x80000000) 0).s1.cls = none ∧
    field (rd (halted 0x80000000) (Reg.LE_DBG_CTRL 0)) 23 22 = 0 ∧
    (field (rd (halted 0x80400000) (Reg.LE_DBG_CTRL 0)) 23 22 = 1 ∧ ((leOf (halted 0x80400000) 0).stream 0).cls = some 0 ∧
      (partCfg (halted 0x80400000) (classCfg (halted 0x80400000) 0).part).safety = false) :=
  ⟨⟨passes_sc .., by decide, by decide, by decide⟩, ⟨passes_sc .., by decide, by decide⟩, by decide,
    { toLeFetch := ⟨by decide, rfl, rfl, rfl, rfl, rfl⟩, decoded := by decide, opcode := by decide, shadow := fun _ => ⟨rfl, rfl⟩, fits := fun _ => by decide },
    rfl, rfl, rfl, by decide, by decide⟩


/-! ### Worked examples of the spec -/

/-- The words of the close interlock (Logic engines, worked example). -/
theorem test_interlock_words : leDecode 0x01003A10#32 0 = some (.ld false (.sig 0x3A10)) ∧ leDecode 0x18043A00#32 0 = some (.bop 1 (.sig 0x3A00)) ∧
    leDecode 0x12003A08#32 0 = some (.alu 2 (.sig 0x3A08)) ∧ leDecode 0x19000000#32 0 = some .bcl ∧ leDecode 0x20003A20#32 0 = some (.st false 0x3A20) ∧
    leDecode 0x3A0000F0#32 0xFF000141#32 = some (.timer 2 240 false 0x141) := by decide

/-- Both passes of the interlock in frame 7,200,100 (Checked execution, worked example). -/
theorem test_interlock_passes :
    (lePass false (.bop 1 (.sig 0x3A00)) { v := 0x1#4 } 0x2#4 []).stack = [{ acc := 0x2#4, op := 1 }] ∧
    (lePass false (.alu 2 (.sig 0x3A08)) { v := 0x5#4 } 0x1#4 []).acc = 0x5#4 ∧
    (lePass true (.alu 2 (.sig 0x3A08)) { v := 0xA#4 } 0xE#4 []).acc = 0xA#4 ∧
    (lePass false .bcl {} 0x5#4 [{ acc := 0x2#4, op := 1 }]).acc = 0x6#4 ∧ (lePass true .bcl {} 0xA#4 [{ acc := 0xD#4, op := 1 }]).acc = 0x9#4 ∧
    (lePass false (.timer 2 240 false 0x141) { cell := 0xE4000061 } 0x6#4 []).cell.map (·.2) = some 0xE4000062#32 ∧
    (lePass true (.timer 2 240 false 0x141) { cell := 0x1BFFFF9E } 0x9#4 []).cell.map (·.2) = some 0x1BFFFF9D#32 ∧
    (lePass true (.timer 2 240 false 0x141) { cell := 0x1BFFFF9E } 0x9#4 []).acc = 0x9#4 := by decide

/-- The transaction on CH2 (The chain field bus, worked example): 25,200 ns, its request ends at 12,200 ns. -/
theorem test_chain_transaction : occupancy 64 128 = 25200 ∧ reqEnd 4000 64 = 12200 := by decide

/-- The allotments of partition 12 (Frames, worked example). -/
theorem test_allotment :
    let s := fun n => { State.reset with
      grid := { frame := n }
      cfg := { parts := [(12, { margin := 10 })]
               classes := [(40, { part := 12, wcet := 18000 }), (41, { part := 12, engine := 9, period := 2, phase := 2, wcet := 60000 })] } }
    allotment (s 5000002) 12 = 85800 ∧ allotment (s 5000003) 12 = 19800 := by decide

/-- Object 37 of CAN1 over three frames with a lock (Cubicle CAN, worked example): B waits in the shadow, C replaces it, and the release
delivers C with LOST. -/
def lockS (b : Nat) (o : RxObj) : State :=
  { State.reset with cfg := { can := { ctls := [(1, { objs := [(37, { id := 0x2A1 })] })] } }, can := { ctls := [(1, { objs := [(37, o)], lock := some (37, b) })] } }
def canABC (n : Nat) : CanFrame := { id := 0x2A1, data := [BitVec.ofNat 8 n] }

theorem test_lock_shadow : (match exec (.canFrameReceived 1 (canABC 3)) (lockS 100000 { cur := some (canABC 1), shadow := some (canABC 2) }) with
    | .next u => ((rxObj u 1 37).cur, (rxObj u 1 37).shadow, (rxObj u 1 37).shadowLost)
    | _ => (none, none, false)) = (some (canABC 1), some (canABC 3), true) := by decide

theorem test_lock_release : (match exec (.canRxoW19 1 300000) (lockS 100000 { cur := some (canABC 1), isNew := true, shadow := some (canABC 3), shadowLost := true }) with
    | .next u => ((rxObj u 1 37).cur, (rxObj u 1 37).isNew, (rxObj u 1 37).lost)
    | _ => (none, false, false)) = (some (canABC 3), true, true) := by decide

/-- The cross-fade of AX3 at h = 24,000,000 (Pair alignment, worked example): step 25 stands at 933,333 ns after the second, and B drives 25 %. -/
theorem test_cross_fade : frameStart 24000002 + 4000 * 25 = 10000000933333 ∧
    (match exec (.crossFadeStep 10000000933333) { inRole .solo with
        cfg := { lio := { ax := [(3, { mode := 1 })] } }, pair := { role := .active, granted := true, ho := some { h := 24000000, outgoing := false, fade := 24 } } } with
      | .next u => (axOf u 3).pct
      | _ => 0) = 25 := by decide

/-- CRC-32C of R14 on "123456789" gives the published check value of that code. -/
theorem test_crc32c : crc32c [0x31, 0x32, 0x33, 0x34, 0x35, 0x36, 0x37, 0x38, 0x39] = 0xE3069283#32 := by decide
/-! ### Registers and frames -/

/-- A master other than SC, with no region that allows it. -/
def core0 (v : Word) : Cmd := { master := 0x80, value := v }

theorem test_hyps_RegisterWrites_1 : ((2 : Nat) ≠ 4 ∨ Reg.FRM_PART_SEL % 4 ≠ 0 ∨ inControlSpace Reg.FRM_PART_SEL = false) ∧ inControlSpace 0x41000000 = false ∧
    (0x40170000 % 4 = 0 ∧ inControlSpace 0x40170000 = true ∧ 0x17 ≤ blockOf 0x40170000) ∧
    (blockOf 0x4016FFFC < 0x17 ∧ inControlSpace 0x4016FFFC = true ∧ regRow 0x4016FFFC = none) ∧
    (regRow Reg.ACC_INI_BASE_LO).any (fun r => decide (r.access = .rwb)) = true ∧ ownCommand Reg.TIM_CAP_CFG = true ∧
    selectIgnored Reg.SIG_DIR_SEL 0x50000 = true ∧ selectIgnored Reg.SIG_DIR_SEL 0x4FFFF = false ∧
    (regRow Reg.SIG_DIR_SEL).any (fun r => decide (r.access ≠ .rwb)) = true ∧ ownCommand Reg.SIG_DIR_SEL = false ∧
    (regRow Reg.FRM_EVT_STAT).any (fun r => decide (r.access ≠ .rwb) && decide (r.rw = 0)) = true := by decide

theorem test_hyps_RegisterWrites_2 : firstRefused State.reset 4 Reg.FRM_PART_SEL 4 (core0 1).master .write = some (false, Reg.FRM_PART_SEL) ∧
    (Reg.FRM_PART_SEL % 4 = 0 ∧ inControlSpace Reg.FRM_PART_SEL = true) ∧ passes State.reset Reg.SAF_SMM_CODE (sc 7) :=
  ⟨by decide, by decide, passes_sc ..⟩

/-- Writing 1 clears an event status bit and no other (R9). -/
theorem test_w1c : (match exec (.registerWrite Reg.FRM_EVT_STAT 4 (sc 0x10)) (wr State.reset Reg.FRM_EVT_STAT 0x11) with
    | .next u => rd u Reg.FRM_EVT_STAT
    | _ => 0) = 1 := by decide

theorem test_hyps_CounterClears : (∀ reg, takes State.reset reg 0 (sc 0x5A3C0001)) ∧ (∀ reg, takes State.reset reg 2 (sc 0x5A3C0004)) ∧
    Tbl.rising State.reset.saf.stc = true ∧ Tbl.rising State.reset.chn.ports = true ∧ Tbl.rising State.reset.stn.ports = true ∧
    Tbl.rising State.reset.stn.pairs = true ∧ Tbl.rising [(0, ({} : TempState)), (11, {})] = true :=
  ⟨fun _ => takes_sc _ _ _ _ (by decide) (by decide), fun _ => takes_sc _ _ _ _ (by decide) (by decide), by decide⟩

/-- Frame 4800 running, in a phase, with the stage RUN. -/
def run (phase : Nat) : State := wrField { inRole .solo with grid := gridAt phase } Reg.UPD_STAT 31 29 5

theorem test_hyps_FrameFreezes : freezeDue (run 3) 2000416666 = some 4801 ∧ freezeDue (run 3) 2000416665 = none ∧
    (run 3).grid.neverSync = false := by decide

/-- R15: the first frames of a second. -/
theorem test_frame_starts : frameStart 1 = 416666 ∧ frameStart 2 = 833333 ∧ frameStart 3 = 1250000 ∧ frameStart 2400 = 1000000000 := by decide

/-- A core with one class due, at the frame's compute. -/
def coreCfg : Image := {
  classes := [(3, { part := 2, engine := 1, period := 0, wcet := 1000 })], parts := [(2, {})]
  fbx := { slots := [(1, [{ cls := 3, start := 100 }])], areas := [{ part := 2, lo := 0, hi := 64, kind := 2 }] }
  dir := [(5, 0x1004000000000000), (0x40005, 0x1004000000000000)] }

theorem test_hyps_FramePhases :
    ((run 0).grid.running = true ∧ (run 0).grid.phase = 0 ∧ (run 0).grid.freezeAt + 40000 ≤ 2000040000) ∧
    runsClasses (alignClose { atTime (run 0) 2000040000 with grid := { (atTime (run 0) 2000040000).grid with phase := 1 } }) = true ∧
    (let s : State := { run 0 with pair := {} }
     runsClasses (alignClose { atTime s 2000040000 with grid := { (atTime s 2000040000).grid with phase := 1 } }) = false) ∧
    ((∀ e, e < 8 → unfinishedLe (leOf (run 1) e) = ([], []) ∧ (leOf (run 1) e).halt = false) ∧
      (∀ k, k < 4 → (acOf (run 1) k).cls = none ∧ (acOf (run 1) k).used = [])) ∧
    (let s : State := { run 1 with cfg := coreCfg, fbx := { cores := [(1, { cls := some 3 })] } }
     (acOf s 1).cls = some 3 ∧ (acOf s 1).used = [] ∧ (∀ j, j < 4 → j ≠ 1 → (acOf s j).cls = none ∧ (acOf s j).used = []) ∧
       ∀ e, e < 8 → unfinishedLe (leOf s e) = ([], []) ∧ (leOf s e).halt = false) ∧
    (mayCommit (run 2) = true ∧ reactionsDue (run 2) = [] ∧ (run 2).frc.table = []) ∧
    (let s : State := { run 2 with pair := { role := .active } }
     mayCommit s = false) ∧
    (let s : State := { run 2 with sched := { parts := [(2, { reactDue := true })] } }
     2 ∈ reactionsDue s) := by decide

theorem test_hyps_ImageRotation : Tbl.rising ({ got := [(5, some { tet := 2 }), (0x40000, some {})] } : Collect).got = true ∧
    isBinary 0x3FFFF = true ∧ isBinary 0x40000 = false := by decide

theorem test_hyps_FrameCommands :
    (takes (inRole .solo) Reg.FRM_PART_CMD 0 (sc 0x5A3C0001) ∧ (partCfg (inRole .solo) 0).safety = false) ∧
    hasRole { inRole .solo with sess := engineer } 1 2 = true ∧ hasRole (inRole .solo) 1 2 = false ∧
    (let s : State := { State.reset with cfg := { parts := [(0, { safety := true })] } }
     (partCfg s 0).safety = true ∧ s.saf.smmOn = false) ∧
    (let s : State := { State.reset with grid := { gridAt 1 with slewing := true } }
     s.grid.slewing = true ∧ s.tim.ofs3 = 0) ∧
    (takes (inRole .solo) Reg.FBX_CMD 1 (sc 0x5A3C0002) ∧ flag (0x5A3C0002 : Word) 0 = false) ∧
    (takes (inRole .solo) Reg.FBX_CMD 0 (sc 0x5A3C0001) ∧ flag (0x5A3C0001 : Word) 1 = false) ∧
    (takes (inRole .solo) Reg.FBX_CMD 0 (sc 0x5A3C0003) ∧ flag (0x5A3C0003 : Word) 1 = true) ∧
    (let j : RetJob := { gen := 1, copies := [false, true] }
     j.copies = false :: [true] ∧ false ∉ [true]) ∧
    (let j : RetJob := { gen := 1, copies := [true] }
     j.copies = true :: [] ∧ true ∉ ([] : List Bool)) :=
  ⟨⟨takes_sc _ _ _ _ (by decide) (by decide), by decide⟩, by decide, by decide, by decide, by decide, ⟨takes_sc _ _ _ _ (by decide) (by decide), by decide⟩,
    ⟨takes_sc _ _ _ _ (by decide) (by decide), by decide⟩, ⟨takes_sc _ _ _ _ (by decide) (by decide), by decide⟩, by decide, by decide⟩


theorem test_hyps_ReadLockingRegisters :
    (let s : State := { State.reset with tim := { caps := [(0, { fifo := [1000000007] })] } }
     (tget ({} : CapUnit) s.tim.caps (field (rd s Reg.TIM_CAP_SEL) 5 0)).fifo = 1000000007 :: []) ∧
    (let s : State := { State.reset with can := { ctls := [(1, { lock := some (37, 5) })] } }
     (canCtl s 1).lock = some (37, 5) ∧ s.grid.now ≤ 5) := by decide

theorem test_hyps_InvariantKept : Inv (run 1) ∧ (match step (run 1) with | .next _ => true | _ => false) = true := by
  refine ⟨⟨?_, ?_, ?_, ?_⟩, ?_⟩ <;> decide

theorem test_hyps_RegisterFile : Tbl.wf regReset (run 1).regs = true ∧ (2399 : Nat) < 2400 := by decide
/-! ### Application cores, sampled values, phasor engines -/

/-- Core 1 in the compute phase. -/
def core1 (x : AcCore) : State := { run 1 with cfg := coreCfg, fbx := { cores := [(1, x)] }, sched := { classes := [(3, { st := .running, since := 2000040000 })] } }

theorem test_hyps_ClassesAndBudgets :
    (let s := core1 { used := [0] }
     s.grid.phase = 1 ∧ (acOf s 1).cls = none ∧ (acOf s 1).used = 0 :: [] ∧ (slotTable s 1)[0]? = some { cls := 3, start := 100 } ∧
       s.grid.freezeAt + 40000 + 100 ≤ 2000040100 ∧ (acOf s 1).prevEnd ≤ 2000040100) ∧
    ((acOf (core1 { cls := some 3 }) 1).cls = some 3 ∧ (acOf (core1 { cls := some 3 }) 1).stalled = false) ∧
    (let s := leS 0 0 2 []
     let s1 : State := { s with le := [(0, { s0 := { cls := some 0, hbuf := [(3, some 7)] } })] }
     (leOf s1 0).split = false ∧ (leOf s1 0).s0.cls = some 0 ∧ (leOf s1 0).s0.progs = [] ∧ 0 ∉ (leOf s1 0).s0.queue ∧
       Tbl.wf (fun _ => none) (leOf s1 0).s0.hbuf = true) ∧
    (let s := core1 { cls := some 3, journal := [(4, 9)] }
     budgetGone s 2 2000050000 = true ∧ (s.cfg.classes.filter fun d => decide (d.2.part = 2)) = [(3, classCfg s 3)] ∧ (classCfg s 3).engine < 4 ∧
       (classOf s 3).st = .running ∧ (acOf s (classCfg s 3).engine).cls = some 3) ∧
    (acOf (core1 { rolls := [{ part := 2 }] }) 1).rolls = { part := 2 } :: [] := by decide

theorem test_hyps_AcStores :
    (let s := core1 { cls := some 3 }
     s.grid.phase = 1 ∧ (acOf s 1).cls = some 3 ∧ (acOf s 1).stalled = false ∧ storeOk s 5 (classCfg s 3).part = true ∧ isBinary 5 = true ∧
       storeOk s 0x40005 (classCfg s 3).part = true ∧ isBinary 0x40005 = false ∧ storeOk s 6 (classCfg s 3).part = false ∧
       rollingBack s (classCfg s 3).part = false ∧ areaKind s (classCfg s 3).part 63 = some 2 ∧ (acOf s 1).journal.length < 8192) ∧
    (let s : State := { core1 { cls := some 3 } with acc := { ini := [(32, { base := 0, attr := 0xE0130000, mid := 0 })], tgt := [(0, { base := 0, attr := 0xE0130000, mid := 0 })] } }
     firstRefused s 0 (8 * 63) 8 ((1 + 1) * 128 + (classCfg s 3).part) .write = none ∧ areaKind s (classCfg s 3).part 63 = some 2) := by decide

theorem test_hyps_AcLibraryAndTelegrams :
    (let s := core1 { cls := some 3 }
     (acOf s 1).cls = some 3 ∧ (acOf s 1).stalled = false ∧ (acOf s 1).recs < 16 ∧ s.rcd.buf.length < 12288 ∧ dSq (dirEntry s 5) = false) ∧
    (let s : State := { core1 { cls := some 3 } with cfg := { coreCfg with dir := [(5, 0x1000080000000000)] } }
     dSq (dirEntry s 5) = true) ∧
    16 ≤ (acOf (core1 { cls := some 3, recs := 16 }) 1).recs ∧
    nextTgWord (acOf (core1 { cls := some 3, drain := { items := [{ part := 2, words := [7] }] } }) 1) 2 = some 7 ∧
    nextTgWord (acOf (core1 { cls := some 3, closed := true }) 1) 2 = none ∧ (acOf (core1 { cls := some 3, closed := true }) 1).closed = true ∧
    (acOf (core1 { cls := some 3 }) 1).closed = false ∧ 2000359999 < (core1 {}).grid.freezeAt + 360000 ∧
    (let s := core1 { cls := some 3, stalled := true, drain := { items := [{ part := 2, words := [7] }] } }
     (acOf s 1).stalled = true ∧ nextTgWord (acOf s 1) 2 = some 7) := by decide

/-- One subscription of format 1 with the stream that it feeds. -/
def svS (x : SvStream) : State := { run 1 with cfg := { sv := [(3, { format := 1, mac := 5, appid := 0x4000, svid := [65], confRev := 1, deadline := 4, lostms := 10 })] }, svi := { run := true, streams := [(3, some x)] } }

/-- A message of one ASDU, of sample 2 of second 2, that arrives in tick 9602. -/
def svAsdu : SvAsdu := { smpCnt := 2, confRev := 1, smpSynch := 2, chans := List.replicate 8 (1000, 0) }
def svMsg : SvMsg := { mac := 5, appid := 0x4000, svid := [65], asdus := [svAsdu] }

theorem test_hyps_SvStreams_1 : (svS {}).svi.run = true ∧ svMatch (svS {}) { svMsg with mac := 6 } = none ∧
    svMatch (svS {}) svMsg = some 3 ∧ svStream (svS {}) 3 = some {} ∧ svCause (svCfg (svS {}) 3) { svMsg with sim := true } ≠ 0 ∧
    svCause (svCfg (svS {}) 3) svMsg = 0 ∧ ({} : SvStream).anch = 0 ∧ svSynced svAsdu.smpSynch = true ∧ (svS {}).grid.neverSync = false ∧
    (let c := svCfg (svS {}) 3
     let arr := svArrival (svS {}) c 2000416667
     let n := svNearest (svRate c.format) arr svAsdu.smpCnt
     n ≤ arr + 1 ∧ 2000416667 < tickStart (svS {}) (svDeadline c n) ∧ tget none ({} : SvStream).ring (n % ringDepth (svS {})) = none) := by decide

/-- A received sample. -/
def slot (n : Nat) : SvSlot := { n := n, st := 0 }

theorem test_hyps_SvStreams_2 :
    (let s := svS { ring := [(132, some (slot 9604))] }
     tickAt s 2001875000 = 9609 ∧ (svCfg s 3).format ≠ 5 ∧ (svCfg s 3).deadline + 1 ≤ 9609 ∧ 9609 ≠ s.grid.tick ∧ (∀ e, e < 6 → (peEng s e).st = 0) ∧
       slotOf s [(132, some (slot 9604))] 9604 = some (slot 9604) ∧ (slot 9604).st = 0) ∧
    (let s := svS { ring := [(131, some (slot 9603)), (133, some (slot 9605))] }
     slotOf s [(131, some (slot 9603)), (133, some (slot 9605))] 9604 = none ∧
       slotOf s [(131, some (slot 9603)), (133, some (slot 9605))] (9604 - 1) = some (slot 9603) ∧
       slotOf s [(131, some (slot 9603)), (133, some (slot 9605))] (9604 + 1) = some (slot 9605)) ∧
    (let x : SvStream := { state := 1, since := 2000000000 }
     svStream (svS x) 3 = some x ∧ x.state = 1 ∧ x.since + (svCfg (svS x) 3).lostms * 1000000 ≤ 2010000000) ∧
    (let x : SvStream := { state := 2, errSince := some 2000000000 }
     x.state ≠ 5 ∧ 2000000000 + (svCfg (svS x) 3).lostms * 1000000 ≤ 2010000000) := by decide

theorem test_hyps_PhasorEngines :
    (let s : State := { run 1 with cfg := { pe := [(5, { descs := [(1, {}), (7, {})] })] }, pe := { engines := [(5, { st := 2, pass := some 7 })] } }
     (peEng s 5).pass = some 7 ∧ ((peEng s 5).ovrs.filter fun f => decide (s.grid.frame - f ≤ 2399)).length < 2 ∧ (peEng s 5).st = 2) ∧
    (let s : State := { run 1 with pe := { engines := [(5, { st := 2, pass := some 7, ovrs := [4800, 2401] })] } }
     2 ≤ ((peEng s 5).ovrs.filter fun f => decide (s.grid.frame - f ≤ 2399)).length) ∧
    (∀ e, takes State.reset (Reg.PE_CTRL e) 0 (sc 0x5A3C0001)) ∧ forceOf (run 1) 5 = none ∧ tover 0x2#4 = false ∧
    (let s : State := { run 1 with frc := { table := [(0, some { ep := 5 })] } }
     forceOf s 5 ≠ none) ∧
    (let s : State := { run 1 with sched := { prompts := [(9, some { ep := 5, till := 2000000000, tripOn := false })] } }
     tget none s.sched.prompts 9 = some { ep := 5, till := 2000000000, tripOn := false } ∧ btype (dirEntry s 5) ≠ 3) :=
  ⟨by decide, by decide, fun _ => takes_sc _ _ _ _ (by decide) (by decide), by decide, by decide, by decide, by decide⟩

/-! ### Forces, on-line change and the pair -/

/-- A leading module with one forceable endpoint, the engineer's session and given forces. -/
def frcS (phase : Nat) (f : FrcState) : State := { inRole .solo with grid := gridAt phase, sess := engineer, frc := f, cfg := { dir := [(5, 0x1000400000000000), (6, 0x2000400000000000)] } }

theorem test_hyps_Forces :
    (let s := wr (frcS 1 { table := [(0, some { ep := 6 })] }) Reg.FRC_REQ_EP 5
     takes s Reg.FRC_CMD 0 (sc 0x5A3C0001) ∧ hasRole s 1 2 = true ∧ s.pair.role = .solo ∧
       forceRefusal s { kind := 0, ep := field (rd s Reg.FRC_REQ_EP) 18 0, exp := field (rd s Reg.FRC_REQ_EXP) 26 0, session := 1, frame := 4800 } = 0) ∧
    (let s := wr (frcS 1 { table := [(0, some { ep := 6 })] }) Reg.FRC_REQ_EP 6
     takes s Reg.FRC_CMD 1 (sc 0x5A3C0002) ∧ forceRefusal s { kind := 1, ep := field (rd s Reg.FRC_REQ_EP) 18 0 } = 0) ∧
    (takes (frcS 1 {}) Reg.FRC_CMD 2 (sc 0x5A3C0004) ∧ forceRefusal (frcS 1 {}) { kind := 2 } = 0 ∧ hasRole (inRole .solo) 1 2 = false) ∧
    (let r : ForceReq := { kind := 0, ep := 6, frame := 4798, accepted := true }
     let s := frcS 0 { reqs := [r] }
     s.frc.reqs = [r] ∧ r.frame + 2 ≤ s.grid.frame ∧ dSafety (dirEntry s 6) = false ∧ forceIdx s 6 = none ∧ freeForce s = some 0 ∧
       s.grid.phase = 0 ∧ isSource s 6 = true) ∧
    (let r : ForceReq := { kind := 0, ep := 5, frame := 4798, accepted := true }
     let s := frcS 3 { reqs := [r] }
     r.frame + 2 ≤ s.grid.frame ∧ dSafety (dirEntry s 5) = false ∧ forceIdx s 5 = none ∧ freeForce s = some 0 ∧ s.grid.phase = 3 ∧
       isSource s 5 = false ∧ isBinary 5 = true) ∧
    (let r : ForceReq := { kind := 1, ep := 6, frame := 4798, accepted := true }
     let s := frcS 0 { reqs := [r], table := [(7, some { ep := 6 })] }
     forceIdx s r.ep = some 7 ∧ tget none s.frc.table 7 = some { ep := 6 } ∧ isSource s r.ep = true) ∧
    (let s := frcS 1 { table := [(7, some { ep := 6, till := some 4800 })] }
     s.frc.table = [(7, some { ep := 6, till := some 4800 })] ∧ 4800 ≤ s.grid.frame) :=
  ⟨⟨takes_sc _ _ _ _ (by decide) (by decide), by decide, by decide, by decide⟩, ⟨takes_sc _ _ _ _ (by decide) (by decide), by decide⟩,
    ⟨takes_sc _ _ _ _ (by decide) (by decide), by decide, by decide⟩, by decide, by decide, by decide, by decide⟩

/-- A leading module with a change in a stage. -/
def olcS (phase stage : Nat) (img : Image) : State := { inRole .solo with grid := gridAt phase, sess := engineer, olc := { stage := stage, shadow := some img, arm := 4800, windowEnd := 4800, revertAt := 4800 } }

theorem test_hyps_OlcPrepares :
    (let s := olcS 1 2 { id := 9 }
     olcMay s 1 = true ∧ s.olc.stage = 2 ∧ s.olc.shadow.map (·.id) = some (9 : Nat) ∧ s.upd.slotA.state ≠ 2 ∧ s.upd.slotB.state ≠ 2) ∧
    (olcMay { olcS 1 0 {} with sess := [] } 1 = false ∧ olcMay { olcS 1 0 {} with pair := { role := .standby } } 1 = false) ∧
    (let s := olcS 1 1 {}
     s.olc.shadow = some {} ∧ s.olc.stage = 1 ∧ verifyCode s {} true = 0 ∧ s.pair.role = .solo ∧ verifyCode s {} false ≠ 0) ∧
    (takes (olcS 1 2 {}) Reg.OLC_CMD 1 (sc 0x5A3C0002) ∧ olcMay (olcS 1 2 {}) 1 = true) ∧
    (let s := wr (olcS 1 2 {}) Reg.OLC_ARM_LO 5040
     takes s Reg.OLC_CMD 2 (sc 0x5A3C0004) ∧ olcMay s 1 = true ∧ armRefusal s {} (flag (0x5A3C0004 : Word) 6) = 0) ∧
    (let s := wr (olcS 1 2 {}) Reg.OLC_ARM_LO 5039
     armRefusal s {} (flag (0x5A3C0004 : Word) 6) ≠ 0) ∧
    (takes (olcS 1 3 {}) Reg.OLC_CMD 3 (sc 0x5A3C0008) ∧ takes (olcS 1 4 {}) Reg.OLC_CMD 4 (sc 0x5A3C0010) ∧
      takes (olcS 1 4 {}) Reg.OLC_CMD 5 (sc 0x5A3C0020)) ∧
    ((olcS 1 4 {}).olc.stage = 4 ∧ (olcS 1 4 {}).olc.windowEnd ≤ (olcS 1 4 {}).grid.frame) :=
  ⟨by decide, by decide, by decide, ⟨takes_sc _ _ _ _ (by decide) (by decide), by decide⟩, ⟨takes_sc _ _ _ _ (by decide) (by decide), by decide, by decide⟩,
    by decide, ⟨takes_sc _ _ _ _ (by decide) (by decide), takes_sc _ _ _ _ (by decide) (by decide), takes_sc _ _ _ _ (by decide) (by decide)⟩, by decide⟩

theorem test_hyps_OlcSwitches :
    (let s := olcS 0 3 {}
     s.olc.shadow = some {} ∧ s.grid.phase = 0 ∧ s.olc.arm = s.grid.frame ∧ touchesSafety s.cfg {} = false ∧ s.pair.role ≠ .standby) ∧
    ((olcS 0 5 {}).olc.stage = 5 ∧ (olcS 0 5 {}).olc.revertAt ≤ (olcS 0 5 {}).grid.frame) ∧
    (∀ k : Nat, let s : State := { inRole .solo with olc := { slotw := k } }
     s.pair.role.leads = true ∧ s.olc.slotw = k) :=
  ⟨by decide, by decide, fun _ => ⟨rfl, rfl⟩⟩

/-- A module of the pair. -/
def pairS (p : PairState) : State := { State.reset with grid := gridAt 1, pair := p, sess := engineer }

theorem test_hyps_ClaspAndPairCommands :
    (let p : PairState := { role := .standby, lines := { ready := true }, pgrantAt := 2000000000 }
     p.claspFail = false ∧ p.lines.granted = false ∧ p.lines.killed = false ∧ p.lines.pgrant = false ∧ p.pgrantAt + 420000 ≤ 2000420000 ∧
       p.sw = none) ∧
    (let p : PairState := { lines := { kill := true, killN := false }, killAt := some 2000000000 }
     p.killq = false ∧ p.lines.killed = true ∧ p.lines.granted = false ∧ p.next = none ∧ 1250000 ≤ 3 * (2000416667 - max 2000000000 p.grantLostAt)) ∧
    (let p : PairState := { lines := { grant := true, grantN := true } }
     p.claspFail = false ∧ p.lines.grant = p.lines.grantN) ∧
    (let p : PairState := { role := .solo, claspFail := true, claspFrame := 2400, lines := { grant := true, grantN := false } }
     p.claspFrame + 2400 ≤ (pairS p).grid.frame ∧ p.lines.granted = p.role.leads) ∧
    (takes (pairS {}) Reg.PAIR_CMD 1 (sc 0x5A3C0002) ∧ takes (pairS {}) Reg.PAIR_CMD 2 (sc 0x5A3C0004)) :=
  ⟨by decide, by decide, by decide, by decide, takes_sc _ _ _ _ (by decide) (by decide), takes_sc _ _ _ _ (by decide) (by decide)⟩

theorem test_hyps_TakeoversAndSwitchovers :
    (let s := pairS { role := .standby, granted := true, unplanned := true, grantAt := 1999950000 }
     s.pair.claspFail = false ∧ s.pair.grantAt + 50000 ≤ s.grid.freezeAt) ∧
    (let s := pairS { role := .active, partner := { role := 3, reported := true }, lastHm := [true] }
     takes s Reg.PAIR_CMD 0 (sc 0x5A3C0001) ∧ hasRole s 1 2 = true ∧ switchRefusal s 3 = 0) ∧
    switchRefusal (pairS { role := .solo }) 3 ≠ 0 ∧
    (let w : Switchover := { h := 4800, kind := 3, confirmed := true, start := 4797 }
     let s := pairS { role := .active, sw := some w, lines := { pgrant := true } }
     s.pair.sw = some w ∧ s.grid.frame = w.h ∧ s.grid.freezeAt + 100000 ≤ 2000100000 ∧ s.pair.lines.granted = false ∧ w.outgoing = true) ∧
    (let w : Switchover := { h := 4800, kind := 3, confirmed := true, outgoing := false, start := 4797 }
     let s := pairS { role := .standby, sw := some w, lines := { grant := true, grantN := false } }
     s.pair.claspFail = false ∧ s.pair.lines.granted = true ∧ s.pair.lines.pgrant = false ∧ w.outgoing = false) :=
  ⟨by decide, ⟨takes_sc _ _ _ _ (by decide) (by decide), by decide, by decide⟩, by decide, by decide, by decide⟩

/-- A module in JOIN. -/
def joinS (p : PairState) : State := wrField (pairS p) Reg.UPD_STAT 31 29 4

theorem test_hyps_JoinAndLoss :
    (let s := joinS {}
     stage s = 4 ∧ s.pair.role = .offline ∧ s.pair.learnFail < 3 ∧ s.pair.retryAt = none ∧ s.pair.rejoinAt = none ∧ s.slot.removal = false ∧
       s.pair.joinSince = none ∧ joinMismatch s = false) ∧
    (let s := joinS { joinSince := some 4800, partner := { role := 2, reported := true, sideB := true } }
     joinMismatch s = false ∧ s.pair.next = none) ∧
    (let s := joinS { joinSince := some 3600, granted := true }
     s.cfg.joinwait ≤ s.grid.frame - 3600 ∧ s.pair.partner.reported = false) ∧
    (let s : State := { pairS { role := .learning } with grid := { gridAt 1 with frame := 14401 } }
     s.pair.learn.start + 14400 < s.grid.frame) ∧
    ((pairS { role := .standby, lostAt := some 4792 }).grid.frame ≥ 4792 + 8) ∧
    (pairS { role := .detached, upFrames := 240 }).pair.next = none ∧ (pairS { gridBad := 24 }).pair.next = none := by decide

theorem test_hyps_LinkAlignment : (0 : Nat) < 4 ∧
    (let s : State := { pairS { role := .standby, align := { need := [{ part := 2 }] } } with grid := gridAt 0 }
     aligns s = true ∧ s.grid.phase = 0 ∧ 2000005000 ≤ s.grid.freezeAt + 5000 ∧ 2000038000 ≤ s.grid.freezeAt + 38000 ∧
       s.pair.align.need.any (fun n => decide (n.part = 2)) = true) ∧
    (let w : Switchover := { h := 4802, start := 4799 }
     (pairS { role := .active, sw := some w }).grid.frame ≤ w.start + 1 ∧ w.outgoing = true) ∧
    (let s : State := { pairS {} with olc := { stage := 2, asking := some 5040 } }
     s.olc.stage = 2 ∧ s.olc.asking = some 5040) := by decide

theorem test_hyps_LinkLearning : (∀ k : Nat, (pairS { role := .learning, learn := { phase := k, content := true, matched := 2 } }).pair.learn.phase = k ∧
    (pairS { role := .learning, learn := { phase := k, content := true, matched := 2 } }).pair.role = .learning) ∧
    (let x : Xfer := { frame := 4800, cells := [(0, 3, 7)] }
     x.cells = [(0, 3, 7)] ∧ x.recs = [] ∧ x.parts = [] ∧ x.shadow = none ∧ x.lagPart = none ∧ (pairS {}).grid.frame = x.frame) :=
  ⟨fun _ => ⟨rfl, rfl⟩, by decide⟩


/-! ### Local field I/O -/

/-- A solo module that drives one digital and one analogue output. -/
def lioS (l : LioState) (p : PairState) : State :=
  { State.reset with
    grid := { gridAt 1 with mono := 2000000000 }, lio := l, pair := p
    cfg := { dir := [(5, 0x3000000000000003), (6, 0x4000000000000002)], lio := { di := [(4, {})], ax := [(2, { mode := 1, hart := true })] } } }
def soloP : PairState := { role := .solo, granted := true }
def hoOut : HandOver := { h := 4796 }
def hoIn : HandOver := { h := 4796, outgoing := false }

theorem test_hyps_DigitalTerminals :
    (let s := lioS {} soloP
     diClass (diCfg s 4).wbrk (diOf s 4).cls 2000 11000 ≠ (diOf s 4).cls ∧ doEp s 3 = some 5 ∧ (drivesDo s 5 || doPrompt s 3 5) = true ∧
       false = doWanted s 3 5 ∧ true ≠ doWanted s 3 5 ∧ (doOf s 3).miss = 0 ∧ (doOf s 3).off = false ∧ (grpOf s 1).off = false ∧
       (grpOf s 1).low = false ∧ wdArmed s = true ∧ s.lio.wdHold = false ∧ lasts ((atTime s 2100000000).grid.mono - s.lio.wdAt) s.cfg.lio.wd = true) ∧
    (let s := lioS { di := [(4, { cls := 2, since := some 2000000000 })] } soloP
     (diOf s 4).since = some 2000000000 ∧ 2000000000 + (diCfg s 4).deb * 1000 ≤ 2001000000 ∧ (diOf s 4).cls = 2) ∧
    (let s := lioS { di := [(4, { cls := 1, since := some 2000000000 })] } soloP
     (diOf s 4).since = some 2000000000 ∧ (diOf s 4).cls ≠ 2) ∧
    (let s := lioS { dos := [(3, { miss := 1 })] } soloP
     true ≠ doWanted s 3 5 ∧ 1 ≤ (doOf s 3).miss ∧ (doOf s 3).rbRec = none ∧ (drivesDo s 5 || doPrompt s 3 5) = true) ∧
    (let s := lioS { dos := [(3, { off := true, retryAt := 4800 })], groups := [(1, { off := true, retryAt := 4800, low := true })] } soloP
     (doOf s 3).off = true ∧ (doOf s 3).retryAt ≤ s.grid.frame ∧ (grpOf s 1).off = true ∧ (grpOf s 1).retryAt ≤ s.grid.frame ∧
       (grpOf s 1).low = true) ∧
    (let s := lioS {} { ho := some hoOut }
     s.pair.ho = some hoOut ∧ hoOut.outgoing = true ∧ frameStart (hoOut.h + 2) + 100000 ≤ 2000000000) := by decide

theorem test_hyps_AnalogueTerminals :
    (let s := lioS { ax := [(2, { hiz := false })] } soloP
     (axCfg s 2).mode ≠ 0 ∧ axDriven s 2 = true ∧ axDriven (lioS {} soloP) 2 = false) ∧
    (let s := lioS { ax := [(2, { isOpen := true, since := 4560 })] } soloP
     (axOf s 2).isOpen = true ∧ (axOf s 2).recSeq = none ∧ (axCfg s 2).compt ≤ s.grid.frame - (axOf s 2).since) ∧
    (let s := lioS { ax := [(2, { isComp := true, since := 4560 })] } soloP
     (axOf s 2).isComp = true ∧ (axOf s 2).isOpen = false) ∧
    (let s := lioS {} { ho := some { hoOut with fade := 99 } }
     s.pair.ho = some { hoOut with fade := 99 } ∧ frameStart (hoOut.h + 2) + 4000 * 100 ≤ 2000000000 ∧ axOutput s 2 = true ∧ axOutput s 3 = false) ∧
    (let s := lioS { aoWait := true } { pgrantAt := 2000000000 }
     s.lio.aoWait = true ∧ s.pair.pgrantAt + 436667 ≤ 2000436667 ∧ axEp s 2 = some 6 ∧ axOutput s 2 = true) ∧
    120000 + frameStart (hoOut.h + 2) ≤ 2000000000 ∧ 20000 + frameStart (hoIn.h + 2) ≤ 2000000000 ∧
    (let p := { soloP with grantAt := 0 }
     let on := fun (x : AxState) => { lioS { ax := [(2, x)] } p with fbx := { cores := [(1, { cls := some 3 })] } }
     let r : HartReq := { cmd := 3 }
     (runningClass (on {}) 1).isSome = true ∧ (axCfg (on {}) 2).hart = true ∧ (axOf (on { queue := List.replicate 8 r }) 2).queue.length = 8 ∧
       (axOf (on { busy := some r }) 2).busy ≠ none ∧ (axOf (on { busy := some r }) 2).queue = [] ∧
       (axOf (on { busy := some r }) 2).busyAt + 256000000 ≤ 2000000000 ∧
       (axOf (on {}) 2).queue = [] ∧ (axOf (on {}) 2).busy = none ∧ hartSends (on {}) = true ∧ hartSuspended (on {}) 2 = false) := by decide

/-! ### Safety functions -/

/-- A module in RUN with given safety state and tables. -/
def safS (x : SafState) (c : SafCfg) : State := { run 1 with saf := x, cfg := { saf := c } }

theorem test_hyps_SafetyMonitor :
    ((safS {} {}).saf.safe = false ∧ stage (safS {} {}) ≠ 0) ∧ passes (safS {} {}) Reg.SAF_WD_RESP (sc 0x0000FFFF) ∧
    (let s := safS { respMiss := 3 } {}
     s.saf.safe = false ∧ 1 ≤ stage s ∧ 3 ≤ s.saf.respMiss) ∧
    ((run 3).grid.phase = 3 ∧ (run 3).saf.safe = false ∧ field (rd (wr (run 3) Reg.SAF_KPATH 7) Reg.SAF_KPATH) 15 0 ≠ 0) :=
  ⟨by decide, passes_sc _ _ _, by decide, by decide⟩

/-- A telegram of one cell, CONNID 7, SEQ 5, ON in its cell, with its CRC-32C (R293). -/
def pdu : List Byte := [7, 0, 0, 0, 5, 0, 0, 0, 0, 0, 0, 0, 0, 0, 0, 0, 1, 0, 0, 0, 2, 0, 0, 0, 184, 77, 55, 177]

theorem test_hyps_SafeInputsAndTelegrams :
    (let c : SinCfg := { mode := 2, dtime := 4 }
     let s := safS { sin := [(6, { dcount := 5 })] } { sins := [(6, c)] }
     look s.cfg.saf.sins 6 = some c ∧ c.mode ≠ 1 ∧ (tget {} s.saf.sin 6).faulty = false ∧ (tget {} s.saf.sin 6).agree = false ∧
       c.dtime < (tget {} s.saf.sin 6).dcount) ∧
    (let r : RxCfg := { connid := 7, prp := true }
     let rx := fun (y : StcState) => safS { stc := [(9, y)] } { rx := [(9, r)] }
     pdu.length = pduLen r.ntet ∧ pduCrcOk pdu = true ∧ ofLeBytes (pdu.take 4) = r.connid ∧ (pdu.getD 16 0).toNat = r.ntet ∧
       (pdu.getD 17 0).getLsbD 0 = false ∧ (tget {} (rx { base := some 4 }).saf.stc 9).base = some (4 : Nat) ∧
       (let d := (ofLeBytes ((pdu.drop 4).take 4) + 2 ^ 32 - 4) % 2 ^ 32; d ≠ 0 ∧ d ≤ r.seqwin) ∧
       (let d := (ofLeBytes ((pdu.drop 4).take 4) + 2 ^ 32 - (2 ^ 32 - 2396)) % 2 ^ 32; r.seqwin < d) ∧
       (let s := rx { copy := some { frame := 4798 } }
        (tget {} s.saf.stc 9).copy = some { frame := 4798 } ∧ 4798 + 2 ≤ s.grid.frame ∧ r.prp = true) ∧
       (let s := rx { safe := false, lastFrame := 4776 }
        look s.cfg.saf.rx 9 = some r ∧ (tget {} s.saf.stc 9).safe = false ∧ (tget {} s.saf.stc 9).lastFrame + r.wd ≤ s.grid.frame)) ∧
    (let s := { wr (safS { stc := [(9, { good := 3 })] } { rx := [(9, {})] }) Reg.SAF_STC_SEL 9 with sess := engineer }
     takes s Reg.SAF_STC_CMD 0 (sc 0x5A3C0001) ∧ 9 = field (rd s Reg.SAF_STC_SEL) 9 0 ∧ hasRole s 1 2 = true ∧
       (tget {} s.saf.stc 9).safe = true ∧ (tget {} s.saf.stc 9).good = 3) ∧
    (tget {} (safS {} {}).saf.stc 9).good ≠ 3 :=
  ⟨by decide, by decide, ⟨takes_sc _ _ _ _ (by decide) (by decide), by decide⟩, by decide⟩

/-- A module in a role with the engineer's session and maintenance mode in a stage. -/
def smmS (r : Role) (x : Smm) : State := { inRole r with saf := { smm := x }, sess := engineer }

theorem test_hyps_MaintenanceMode :
    passes (smmS .solo {}) Reg.SAF_SMM_CMD (sc 1) ∧
    (takes (smmS .solo {}) Reg.SAF_SMM_CMD 0 (sc 0x5A3C0101) ∧ smmRole (smmS .standby {}) = false ∧ smmRole (smmS .detached {}) = true ∧
      hasRole (inRole .solo) 1 2 = false ∧ hasRole (smmS .solo {}) 1 2 = true ∧ field (0x5A3C0101 : Word) 13 8 = 1 ∧
      32 < field (0x5A3C2101 : Word) 13 8 ∧ (smmS .solo { stage := 1 }).saf.smm.stage ≠ 0) ∧
    (let x : Smm := { stage := 1, session := 1, code := 123456, given := some 123456 }
     takes (smmS .active x) Reg.SAF_SMM_CMD 1 (sc 0x5A3C0002) ∧ smmRole (smmS .active x) = true ∧ hasRole (smmS .active x) 1 2 = true ∧
       x.given = some x.code ∧ (smmS .active x).grid.mono - x.codeAt ≤ 60000000000 ∧ smmRole (smmS .solo x) = true ∧
       ({ x with given := none } : Smm).given ≠ some x.code) ∧
    (takes (smmS .active { stage := 3 }) Reg.SAF_SMM_CMD 2 (sc 0x5A3C0004) ∧ (smmS .solo { stage := 3 }).pair.role ≠ .active) ∧
    60000000000 ≤ (atTime (smmS .solo { stage := 1 }) 62000000000).grid.mono - (smmS .solo { stage := 1 }).saf.smm.codeAt ∧
    (let x : Smm := { stage := 2, confirmed := true, startAt := some 4800 }
     let s := { smmS .solo x with grid := gridAt 0 }
     s.saf.smm.stage = 2 ∧ s.grid.phase = 0 ∧ s.saf.smm.startAt = some 4800 ∧ 4800 ≤ s.grid.frame) ∧
    (smmS .solo { stage := 3, till := 4800 }).saf.smm.till ≤ (smmS .solo { stage := 3 }).grid.frame :=
  ⟨passes_sc _ _ _, ⟨takes_sc _ _ _ _ (by decide) (by decide), by decide⟩, ⟨takes_sc _ _ _ _ (by decide) (by decide), by decide⟩,
    ⟨takes_sc _ _ _ _ (by decide) (by decide), by decide⟩, by decide, by decide, by decide⟩

/-! ### The chain and CAN -/

def chnNd : ChnNodeCfg := { vendor := 1, product := 2, segs := [(0, { inOfs := 4, inLen := 2 })] }
def chnEnt : ChnEnt := { node := 9, start := 40000 }

/-- A master with one port, one node in a given state and one schedule entry. -/
def chnS (q : ChnPort) : State :=
  { inRole .solo with
    cfg := { chn := [(1, { nodes := [(9, chnNd)], sched := [(0, chnEnt)] })], dir := [(5, 0x5000000000490008)] }, chn := { ports := [(1, q)] }, sess := engineer }

theorem test_hyps_ChainRequests : chnMaster (chnS {}) = true ∧
    (let s := chnS { epoch := some 3 }
     look (chnCfg s 1).sched 0 = some chnEnt ∧ (chnPort s 1).epoch ≠ none ∧ (chnNode s 1 chnEnt.node).st ≠ 5 ∧ (chnPort s 1).dup.st ≠ 1 ∧
       entDue chnEnt s.grid.frame = true ∧ s.grid.running = true ∧ s.chn.omitFrame ≠ some s.grid.frame ∧
       ({ s with chn := { s.chn with omitFrame := some 4800 } } : State).chn.omitFrame = some s.grid.frame ∧ chnEnt.start < 52000) ∧
    (let node := fun (x : ChnNode) => chnS { epoch := some 3, nodes := [(9, x)] }
     let free := fun (s : State) (len expect : Nat) => inFree s 1 (2000100000 - s.grid.freezeAt) (occupancy len expect)
     portOn (node {}) 1 = true ∧ isNode (node {}) 1 9 = true ∧ (chnNode (node {}) 1 9).step = 0 ∧ (chnNode (node {}) 1 9).st = 1 ∧
       free (node {}) 0 32 = true ∧ (chnNode (node { st := 2 }) 1 9).st = 2 ∧
       (chnNode (node { st := 2, step := 1 }) 1 9).step = 1 ∧ free (node {}) 0 0 = true ∧
       (let s := node { st := 2, step := 2 }
        (chnNode s 1 9).step = 2 ∧ (chnPort s 1).epoch ≠ none ∧ free s (configNow s 1 9).length 4 = true) ∧
       (let s := chnS { dup := { st := 1, addr := 9 } }
        (chnPort s 1).dup.st = 1 ∧ (chnPort s 1).req = none ∧ free s 2 0 = true)) ∧
    (let g : Stranger := { serial := 77, product := 2 }
     let s := wr (wr (chnS { epoch := some 3, strangers := [g] }) Reg.CHN_ASSIGN 12) Reg.CHN_PORT_SEL 1
     takes s Reg.CHN_CMD 0 (sc 0x5A3C0001) ∧ 1 = field (rd s Reg.CHN_PORT_SEL) 1 0 ∧
       (chnPort s 1).strangers[field (rd s Reg.CHN_STR_SEL) 3 0]? = some g ∧ hasRole s 1 2 = true ∧ s.pair.role.leads = true ∧
       field (rd s Reg.CHN_ASSIGN) 5 0 = 12 ∧ isNode s 1 12 = false ∧ (chnPort s 1).epoch ≠ none ∧
       inFree s 1 (2000000000 - s.grid.freezeAt + 100000) (occupancy 9 0) = true) ∧
    hasRole (inRole .solo) 1 2 = false :=
  ⟨by decide, by decide, by decide, ⟨takes_sc _ _ _ _ (by decide) (by decide), by decide⟩, by decide⟩

/-- A DATA request that waits for its response, and the response. -/
def dataReq : ChnReq := { addr := 9, epoch := 3, cmd := 0x10, fnum := 4800, sentAt := 2000042000 }

theorem test_hyps_ChainResponses :
    (let wait := fun (q : ChnReq) (x : ChnNode) => chnS { epoch := some 3, req := some q, nodes := [(9, x)] }
     let r : ChnResp := { kind := 1, addr := 9, epoch := 3, cmd := 0x10, fnum := 4800, sts := 0, data := [0x12, 0], sdAt := 2000042500, crcOk := true }
     let ident : List Byte := leBytes 4 1 ++ leBytes 4 2 ++ List.replicate 24 255
     (let s := wait dataReq { st := 4 }
      (chnPort s 1).req = some dataReq ∧ portOn s 1 = true ∧ accepts s 1 dataReq r = true ∧ bitOf r.sts 4 = false ∧ bitOf r.sts 1 = false ∧
        Tbl.rising (chnPort s 1).nodes = true ∧ (chnNode s 1 9).st = 4 ∧ (chnNode s 1 9).needAdmit = false ∧ s.cfg.saf.rx = [] ∧
        segInputs s 1 9 (nodeSeg s 1 9 0) = [(5, 0, 8)] ∧ accepts s 1 dataReq { r with sts := 0x10, data := [] } = true ∧
        accepts s 1 dataReq { r with epoch := 4 } = false) ∧
      (let q := { dataReq with cmd := 0x20 }
       accepts (wait q {}) 1 q { r with cmd := 0x20, data := ident } = true ∧ (chnNode (wait q {}) 1 9).st = 1 ∧
         (chnNode (wait q {}) 1 9).step = 0 ∧ (chnPort (wait q {}) 1).epoch ≠ none ∧ isNode (wait q {}) 1 9 = true) ∧
      (let q := { dataReq with cmd := 0x21 }
       let s := wait q { st := 2, step := 1, delays := 15, sum := 7500 }
       accepts s 1 q { r with cmd := 0x21, data := [], sdAt := 2000044000 } = true ∧ (chnNode s 1 9).step = 1 ∧ (chnNode s 1 9).delays = 15 ∧
         0 ≤ (chnNode s 1 9).sum + ((2000044000 : Int) - q.sentAt - 1500) ∧ (chnNode s 1 9).sum + ((2000044000 : Int) - q.sentAt - 1500) ≤ 16000) ∧
      (let q := { dataReq with cmd := 0x22 }
       let s := wait q { st := 2, step := 2 }
       accepts s 1 q { r with cmd := 0x22, data := [1, 2, 3, 4] } = true ∧ s.olc.stage ≠ 3 ∧ (chnNode s 1 9).step = 2 ∧ (chnNode s 1 9).st = 2)) ∧
    dataReq.sentAt + 2000 ≤ 2000044000 ∧
    (chnMaster (chnS { since := 4776 }) = true ∧ (chnPort (chnS { since := 4776 }) 1).epoch = none ∧ 4776 + 24 ≤ (chnS {}).grid.frame) ∧
    (let s := wr (wr (chnS { nodes := [(9, { st := 5 })] }) Reg.CHN_PORT_SEL 1) Reg.CHN_NODE_SEL 9
     takes s Reg.CHN_CMD 1 (sc 0x5A3C0002) ∧ 1 = field (rd s Reg.CHN_PORT_SEL) 1 0 ∧ 9 = field (rd s Reg.CHN_NODE_SEL) 5 0 ∧ (chnNode s 1 9).st = 5) ∧
    (let s := chnS { nodes := [(9, { held := some 4752 })] }
     (chnNode s 1 9).held = some 4752 ∧ 4752 + (nodeCfg s 1 9).hold ≤ s.grid.frame) ∧
    (let s := { chnS {} with pair := {} }
     chnMaster s = false ∧ portOn s 1 = true ∧ isNode s 1 9 = true) :=
  ⟨by decide, by decide, by decide, ⟨takes_sc _ _ _ _ (by decide) (by decide), by decide⟩, by decide, by decide⟩

/-- A leading module with CAN controller 1: one object, two buffers and a matrix. -/
def canS (q : CanCtl) : State :=
  { inRole .solo with
    cfg := { can := { ctls := [(1, { tt := true, refid := 0x700, objs := [(7, { id := 0x123, timeout := 48 })], bufs := [(2, { id := 0x55, cancel := true }), (3, {})]
                                     cells := [{ mark := 1, kind := 1, index := [2] }, { mark := 2, kind := 3, index := [7] }, { mark := 3 }] })] }
             dir := [(5, 0x7000000081D00000)] }
    can := { ctls := [(1, q)] } }
def canMsg : CanFrame := { id := 0x123, data := [0x02], stamp := 2000000000 }

theorem test_hyps_CanReception : canOn (canS {}) 1 = true ∧
    (let obj := fun (f : CanFrame) => (canCfg (canS {}) 1).objs.find? fun e => decide (e.2.id = f.id) && decide (e.2.ide = f.ide)
     canMsg.rtr = false ∧ isRef (canS {}) 1 canMsg = false ∧ obj canMsg = some (7, { id := 0x123, timeout := 48 }) ∧ canMsg.fd = false ∧
       canEps (canS {}) 7 1 7 = [5] ∧ canFormat (daddr (dirEntry (canS {}) 5)) = 2 ∧ canBit (daddr (dirEntry (canS {}) 5)) + 4 ≤ 8 * canMsg.data.length ∧
       isRef (canS {}) 1 { canMsg with fd := true } = false ∧ obj { canMsg with id := 0x124 } = none ∧
       isRef (canS {}) 1 { canMsg with id := 0x124 } = false) ∧
    ((canCtl (canS { lock := some (7, 1999000000) }) 1).lock = some (7, 1999000000) ∧ 1999000000 + 1000000 ≤ 2000000000) ∧
    (let s := canS { objs := [(7, { at0 := 4752 })] }
     (rxoCfg s 1 7).timeout ≠ 0 ∧ (rxObj s 1 7).timedOut = false ∧ (rxObj s 1 7).at0 + (rxoCfg s 1 7).timeout ≤ s.grid.frame) ∧
    passes (canS {}) (Reg.CAN_RXO_SEL 1) (sc 7) :=
  ⟨by decide, by decide, by decide, by decide, passes_sc _ _ _⟩

theorem test_hyps_CanTransmission :
    (let s := canS { bufs := [(2, { pend := some 9, held := some 10 })] }
     canNormal s = true ∧ (txBuf s 1 2).pend = some (9 : Nat) ∧ (canCtl s 1).busOff = false ∧ (txBuf s 1 2).due = false ∧ (canCtl s 1).tec + 8 ≤ 255 ∧
       canPassive (canCtl s 1) = false ∧ (txbCfg s 1 2).cancel = true ∧ (txBuf s 1 2).since + (txbCfg s 1 2).life ≤ s.grid.frame) ∧
    (let s := canS { tec := 248, bufs := [(2, { pend := some 9 })] }
     255 < (canCtl s 1).tec + 8 ∧ (canCtl s 1).busOff = false ∧ (txBuf s 1 2).due = false) ∧
    (let s := canS { bufs := [(2, { pend := some 9, due := true })] }
     (txBuf s 1 2).due = true ∧ (txBuf s 1 2).held = none ∧ (canCtl s 1).tec ≤ 255) ∧
    (let s := wr (canS { bufs := [(2, { pend := some 9, arb := true })] }) (Reg.CAN_TXB_SEL 1) 2
     takes s (Reg.CAN_TXB_CMD 1) 0 (sc 0x5A3C0001) ∧ 2 = field (rd s (Reg.CAN_TXB_SEL 1)) 5 0 ∧ (txBuf s 1 2).arb = true) ∧
    ((canCtl (canS { busOff := true }) 1).busOff = true ∧ (canCfg (canS { busOff := true }) 1).autorec = true) ∧
    takes (canS {}) Reg.CAN_CMD 1 (sc 0x5A3C0002) ∧
    (let cell := fun (h : Nat) => (canCfg (canS {}) 1).cells.find? (fun e => decide (e.cycle = (canCtl (canS {}) 1).cycle % max (canCfg (canS {}) 1).cycles 1) && decide (e.mark = h))
     (canCfg (canS {}) 1).tt = true ∧ (cell 1).map (·.index) = some [2] ∧ (cell 1).map (·.kind) = some (1 : Nat) ∧ (cell 2).map (·.kind) = some (3 : Nat) ∧
       (cell 3).map (·.kind) = some (0 : Nat) ∧ (canCtl (canS {}) 1).check = none ∧ canNormal (canS {}) = true) ∧
    (let s := canS { objs := [(7, { seq := 6 })], check := some (7, 6) }
     (canCtl s 1).check = some (7, (rxObj s 1 7).seq)) :=
  ⟨by decide, by decide, by decide, ⟨takes_sc _ _ _ _ (by decide) (by decide), by decide⟩, by decide, takes_sc _ _ _ _ (by decide) (by decide), by decide, by decide⟩

/-! ### Time, Ethernet, GOOSE, MMS and sessions -/

/-- A solo module with both PTP instances on and given instances. -/
def timS (x y : PtpInst) (tm : TimState) : State :=
  wrField { inRole .solo with tim := { tm with inst := [(0, x), (1, y)] }, cfg := { tim := { pref := true, irig := true, inst := [(0, { en := true }), (1, { en := true, pb := true })] } } }
    Reg.TIM_STAT 31 30 1
def gmGood : PtpAnn := { gm := 5, clockClass := 6 }

theorem test_hyps_PtpInstances :
    (let s := timS { parent := some gmGood, lastAnn := 1 } {} {}
     (ptpCfg s 0).en = true ∧ s.grid.neverSync = false ∧ (ptpInst s 0).parent ≠ none ∧ gmGood.domain = (ptpCfg s 0).domain ∧
       (ptpInst s 0).parent = some gmGood ∧ (ptpInst s 0).lastAnn + 3000000000 ≤ 3000000001 ∧
       ({ gmGood with domain := 3 } : PtpAnn).domain ≠ (ptpCfg s 0).domain ∧ gmGood.gm ≠ ({ gmGood with gm := 6 } : PtpAnn).gm ∧
       PtpAnn.better { gmGood with gm := 6 } gmGood = false ∧ PtpAnn.better { gmGood with gm := 4 } gmGood = true ∧
       0 / 2 = (if (ptpCfg s 0).pb then 1 else 0) ∧ 2 / 2 = (if (ptpCfg s 1).pb then 1 else 0)) ∧
    (ptpInst (timS { st := 2, lockRun := 8 } {} {}) 0).st = 2 ∧ (ptpInst (timS { lockRun := 7 } {} {}) 0).parent = none := by decide

theorem test_hyps_TimeMarks :
    (let x : PtpInst := { st := 2, parent := some gmGood, okSince := some 1000000000 }
     let s := timS x x { overN := 1 }
     ownSelection s = true ∧ healthyBase s 1 = true ∧ healthyBase s 2 = true ∧ 10000 < (10001 : Int).natAbs ∧ 1 ≤ s.tim.overN ∧
       s.grid.neverSync = false ∧ selBase s = 1 ∧ s.cfg.tim.revert ≠ 0 ∧ selectable s 2 = true ∧ (ptpInst s 1).okSince = some 1000000000 ∧
       1000000000 + s.cfg.tim.revert * 1000000000 ≤ 61000000000) ∧
    (let s := timS {} {} { leap61 := true, utc := 37 }
     utcSource s = none ∧ s.tim.leap61 = true ∧ ((86438 : Nat) - s.tim.utc) % 86400 = 1) ∧
    (let s := timS {} {} { leap59 := true, utc := 37 }
     utcSource s = none ∧ s.tim.leap61 = false ∧ s.tim.leap59 = true ∧ ((86436 : Nat) - s.tim.utc) % 86400 = 86399) ∧
    (let s := timS {} {} { irigRun := 2, irigSec := 9 }
     s.cfg.tim.irig = true ∧ 2 ≤ s.tim.irigRun ∧ ({ sec := 10 } : IrigFrame).sec = s.tim.irigSec + 1 ∧ ({ sec := 10 } : IrigFrame).tq ≤ 1000 ∧
       ¬ ({ tq := 1001 } : IrigFrame).tq ≤ 1000) ∧
    (irigValid (wrField (timS {} {} {}) Reg.TIM_IRIG_STAT 31 30 2) = true ∧ (timS {} {} {}).cfg.tim.ppsWidth * 1000000 ≤ 2010000000 % 1000000000) := by
  decide

theorem test_hyps_CaptureAndLaunch :
    (let u : CapUnit := { cfg := 0x80000005 }
     u.listens 8 5 false = true ∧ u.listens 8 6 false = false ∧ 16 ≤ (List.replicate 16 7).length) ∧
    (passes (inRole .solo) Reg.TIM_CAP_CFG (sc 5) ∧ 0 = capSel (inRole .solo)) ∧
    (let q := fun (x : LaunchEnt) (r : Role) => { inRole r with tim := { lq := [(4, { ents := [x] })] }, pair := { role := r, granted := decide (r = .solo) } }
     (launchQ (q { time := 2000000000, ctrl := true } .standby) 4).ents = [{ time := 2000000000, ctrl := true }] ∧
       (q { ctrl := true } .standby).pair.granted = false ∧ (q { ctrl := true } .solo).pair.granted = true ∧ gatesClosed (q { ctrl := true } .solo) = false) :=
  ⟨by decide, ⟨passes_sc _ _ _, by decide⟩, by decide⟩

/-- A subscription with two members, a publication and a member endpoint. -/
def gseS (x : GseSub) : State :=
  { run 1 with stn := { subs := [(4, some x)] }
               cfg := { stn := { subs := [(4, { mac := 5, appid := 0x10, gocb := [65], members := [0] })], pubs := [(2, { members := [0] })] }, dir := [(5, 0x9000000004000000)] } }
def gseMsg : GooseMsg := { mac := 5, appid := 0x10, gocb := [65], tal := 2000, vals := [.bool true] }

theorem test_hyps_EthernetAndGoose :
    (ethOn (run 1) 2 = true ∧ ethOn (run 1) 4 = true) ∧
    (let d : DupEnt := { src := 9, seq := 7, at0 := 1900000000 }
     let s := { run 1 with stn := { pairs := [(1, { dups := [d] })] } }
     d ∈ (ethPair s 1).dups ∧ d.src = 9 ∧ d.seq = 7 ∧ 2000000000 < d.at0 + 400000000) ∧
    (let s := { run 1 with stn := { pairs := [(1, { sec := 2 })] } }
     (ethPair s 1).dups = [] ∧ (ethPair s 1).single ≤ 0xFFFF ∧ (ethPair s 1).sec = 2000000000 / 1000000000 ∧ etypePasses 1 0x1234 = false ∧
       etypePasses 1 0x88BA = true ∧ 2 ∉ pairVids s 1) ∧
    (ethPort (run 1) 3).link ≠ true ∧ ownsIp (run 1) 4 0xC0A8FE01 = true ∧
    (let s := gseS { state := 2, first := false, st := 1, sq := 3, tal := 1000000000, lastAt := 1000000000 }
     (s.cfg.stn.subs.find? (fun g => decide (g.2.mac = gseMsg.mac) && decide (g.2.appid = gseMsg.appid) && decide (g.2.gocb = gseMsg.gocb) && decide (g.2.pb = gseMsg.pb))).isSome = true ∧
       (gseSub s 4).isSome = true ∧ (look s.cfg.stn.subs 4).isSome = true ∧
       gooseCause (gseSubCfg s 4) ((gseSub s 4).getD {}) { gseMsg with confRev := 2 } ≠ 0 ∧ (gseSubCfg s 4).safe = false ∧
       gooseCause (gseSubCfg s 4) ((gseSub s 4).getD {}) { gseMsg with st := 2 } = 0 ∧ subMember s 4 0 = [5] ∧
       ((gseSub s 4).map fun x => decide (x.lastAt + x.tal ≤ 2000000000)) = some true) ∧
    (let s := gseS { state := 2, errSince := some 0 }
     ((gseSub s 4).map fun x => decide (x.state ≠ 4) && decide (x.errSince = some 0)) = some true ∧ 0 + 2 * (gseSubCfg s 4).maxt ≤ s.grid.frame) ∧
    (let s := { gseS {} with stn := { pubs := [(2, { sent := true, nextAt := 4800 })] } }
     publishes s 2 = true ∧ (gsePub s 2).sent = true ∧ (gsePub s 2).nextAt ≤ s.grid.frame ∧ (launchQ s 0).ents.length < 512) := by decide

/-- A module that serves association 3, with one object of each model, a control block and a capture. -/
def mmsS (x : MmsObj) : State :=
  { run 1 with
    sess := engineer, pe := { caps := [{ seq := 8 }] }
    stn := { fip := true, assocs := [3], objs := [(6, x), (7, x)] }
    cfg := { stn := { allow := [0xC0A80001], objs := [(6, { model := 2 }), (7, {})], rcbs := [(1, {})], dirs := [(1, [2])], vals := [(2, 5)] }, dir := [(5, 0xC000000000000007)] } }

theorem test_hyps_MmsServices :
    (let s := mmsS {}
     serves s = true ∧ s.cfg.stn.allow.contains 0xC0A80001 = true ∧ s.stn.assocs.length < 16 ∧ s.stn.assocs.contains 4 = false ∧
       s.cfg.stn.allow.contains 0xC0A80002 = false ∧ serves (run 1) = false ∧ associated s 4 = false ∧ associated s 3 = true ∧
       look s.cfg.stn.dirs 1 = some [2] ∧ look s.cfg.stn.vals 2 = some 5 ∧ look s.cfg.stn.rcbs 1 = some {} ∧
       (tget ({} : Rcb) s.stn.rcbs 1).ena = none ∧ look s.cfg.stn.objs 6 = some { model := 2 } ∧ (mmsObj s 6).sel = none ∧
       executing s (mmsObj s 6) = false ∧ look s.cfg.stn.objs 7 = some {} ∧ mmsEps s 7 true = [5] ∧ captureOf s 8 = some { seq := 8 } ∧
       hasRole s 1 2 = true ∧ hasRole s 9 2 = false) ∧
    (let s := { mmsS {} with stn := { fip := true, assocs := [3], rcbs := [(1, { ena := some 4 })] } }
     (tget ({} : Rcb) s.stn.rcbs 1).ena = some 4 ∧ associated s 3 = true) ∧
    (let s := mmsS { sel := some (3, 2030000000) }
     executing s (mmsObj s 6) = false ∧ (mmsObj s 6).sel = some (3, 2030000000) ∧ (2000000000 : Nat) < 2030000000) ∧
    (let e : MmsExec := { on := 0, assoc := 3 }
     let s := mmsS { exec := some e }
     executing s (mmsObj s 7) = true ∧ (mmsObj s 7).exec = some e ∧ e.off = none ∧ ¬ e.on + 7200 ≤ s.grid.frame ∧ e.on + 7200 ≤ ({ s with grid := { s.grid with frame := 7200 } } : State).grid.frame) := by
  decide

theorem test_hyps_Sessions :
    (let s := { run 1 with upd := { trust := [(2, some { usage := 2 })] } }
     freeSlot s = some 0 ∧ sessionsOn s = true ∧ ((tget none s.upd.trust 2).any fun a => a.usage / 2 % 2 == 1) = true) ∧
    sessionsOn State.reset = false ∧
    (let x : Session := { id := 1, role := 2 }
     let s := { run 1 with sess := engineer, saf := { smm := { stage := 1, session := 1 } } }
     s.sess.find? (fun e => e.2.any fun y => decide (y.id = x.id)) = some (0, some x) ∧ s.saf.smm.session = x.id ∧ s.saf.smm.stage = 1 ∧
       x.idleAt + s.cfg.stn.idle * 1000000000 ≤ (atTime s 902000000000).grid.mono) := by decide

/-! ### Start, slot and monitors -/

/-- A module with power at a stage. -/
def stageS (k : Nat) (u : UpdState) (x : SlotState) : State :=
  wrField { inRole .offline with upd := { u with powerUp := false }, slot := { x with power := true } } Reg.UPD_STAT 31 29 k

theorem test_hyps_Starts :
    (startCause State.reset = some 0 ∧ State.reset.hlt.waiting = false) ∧
    (let s := { stageS 1 {} { nowSide := false, nowSideN := true } with hlt := { waiting := true }, pair := { restartDue := some 5 } }
     startCause s = some 5 ∧ s.hlt.waiting = true ∧ s.slot.nowSide ≠ s.slot.nowSideN) ∧
    (let s := { stageS 5 {} {} with saf := { safe := true, safeAt := 1000000000 } }
     s.saf.safe = true ∧ s.saf.safeHeld = false ∧ s.saf.safeAt + 100000000 ≤ (atTime s 3200000000).grid.mono ∧ s.pair.killq = false ∧
       s.slot.latched = true ∧ s.pair.role = .offline ∧ s.hlt.waiting = false) ∧
    (let s := stageS 0 {} {}
     s.slot.power = true ∧ stage s = 0 ∧ s.slot.nowSide ≠ s.slot.nowSideN ∧ s.slot.side = s.slot.sideN) ∧
    (stageS 0 {} { nowSideN := false }).slot.nowSide = (stageS 0 {} { nowSideN := false }).slot.nowSideN ∧
    (stageS 5 {} { failing := some 1 }).slot.failing.isSome = true := by decide

/-- A signed copy with an image ID, and the anchor that signs it. -/
def goodCopy : SlotCopy := { state := 1, gen := 2, imageId := 9, image := { id := 9 } }
def signer : Tbl (Option Anchor) := [(0, some { usage := 1 })]

theorem test_hyps_StartStages :
    (let s := stageS 1 {} {}
     stage s = 1 ∧ s.upd.s1Used = 0 ∧ s.slot.recButton = false ∧ s1Choice s = 0) ∧
    s1Choice (stageS 1 { copyA := { goodCopy with s1Image := 9 }, trust := signer } {}) = 1 ∧
    s1Choice (stageS 1 { copyB := { goodCopy with s1Image := 9 }, trust := signer } {}) = 2 ∧
    (let s := { stageS 1 {} {} with hlt := { waiting := true, cool := some 1 } }
     s.hlt.waiting = true ∧ s.hlt.cool = some 1 ∧ 1 + 60000000000 ≤ (atTime s 63000000000).grid.mono) ∧
    (let s := stageS 2 {} {}
     stage s = 2 ∧ field (rd s Reg.UPD_STAT) 28 26 = 0 ∧ bootChoice (installStaged s true) = none) ∧
    bootChoice (installStaged (stageS 2 { slotB := { state := 1 }, slotA := { state := 3 } } {}) true) = some true ∧
    (let s := stageS 3 { trust := signer, copyB := goodCopy } {}
     stage s = 3 ∧ ((ownAnchors s).any fun a => bitOf a.2.usage 0) = true ∧ copyChoice s s.upd.copyA s.upd.copyB = 2 ∧
       imageRules goodCopy.image = true ∧ goodCopy.image.fwmin ≤ (booted s).feat ∧ (booted s).feat < ({ goodCopy.image with fwmin := 1 } : Image).fwmin) ∧
    ((ownAnchors (stageS 3 {} {})).any fun a => bitOf a.2.usage 0) = false ∧ copyChoice (stageS 3 { trust := signer } {}) {} {} = 0 ∧
    copyChoice (stageS 3 { trust := signer } {}) goodCopy { goodCopy with sha := [1] } = 3 ∧
    copyChoice (stageS 3 { trust := signer } {}) goodCopy goodCopy = 1 ∧ imageRules { length := 62914561 } = false := by decide

theorem test_hyps_SlotEvents :
    (let s := { stageS 5 {} {} with pair := { role := .active, partner := { role := 3 } } }
     s.slot.power = true ∧ s.slot.failing = none ∧ s.slot.latched = true ∧ switchRefusal s 4 = 0 ∧
       switchRefusal { s with pair := { role := .active } } 4 ≠ 0) ∧
    ((stageS 5 {} {}).pair.role = .offline ∧ (inRole .standby).pair.role ≠ .active ∧ (inRole .standby).pair.next = none) ∧
    State.reset.slot.power = false := by decide

theorem test_hyps_Monitors :
    (validDies State.reset).length < 2 ∧
    (let x : TempState := { valid := true, crit := true, val := 1250, top := 3 }
     let s := { stageS 5 {} {} with hlt := { temps := [(0, x), (1, { x with crit := false })] } }
     2 ≤ (validDies s).length ∧ (tempOf s 0).crit = true ∧ s.hlt.waiting = false ∧ s.slot.power = true ∧ 1 ≤ stage s ∧ s.pair.role ≠ .active) ∧
    rd (wr State.reset (Reg.MON_PBASEn 3) 900) (Reg.MON_PBASEn 3) ≠ 0 ∧
    (procOf { State.reset with hlt := { procs := [(3, { sum := 900, cnt := 2 })] } } 3).cnt ≠ 0 := by decide

/-! ### Update, access rules, recorder and display -/

theorem test_hyps_FirmwarePackages :
    (hasRole (smmS .solo {}) 1 2 = true ∧ hasRole (inRole .solo) 1 2 = false) ∧
    ((stageS 6 { recovery := true } {}).upd.recovery = true ∧ (stageS 6 { recovery := true } {}).upd.tftpOpen = false) ∧
    (let s := stageS 6 { recovery := true, tftpOpen := true, tftpNext := 1 } {}
     s.upd.tftpOpen = true ∧ s.upd.tftpNext = 1) ∧ 512 ≤ (List.replicate 512 (0 : Byte)).length ∧ ([] : List Byte).length < 512 := by decide

/-- A module in RUN with the engineer's session and given update state. -/
def updS (r : Role) (u : UpdState) : State := { run 1 with pair := { role := r }, upd := { u with powerUp := false }, sess := engineer }

theorem test_hyps_Installation :
    (takes (updS .solo {}) Reg.UPD_CMD 3 (sc 0x5A3C0008) ∧ takes (updS .solo {}) Reg.UPD_CMD 1 (sc 0x5A3C0012) ∧
      takes (updS .active {}) Reg.UPD_CMD 2 (sc 0x5A3C0004)) ∧
    activateRefusal (updS .solo {}) 1 false true ≠ 0 ∧ activateRefusal (updS .solo { staging := { state := 2 } }) 1 false true = 0 ∧
    activateRefusal (updS .active { staging := { state := 2, partnerOk := true } }) 1 true true = 0 ∧
    (let s := { updS .active { staging := { state := 2 } } with pair := { role := .active, partner := { role := 3 } } }
     hasRole s 1 2 = true ∧ olcBusy s = false ∧ s.upd.staging.state = 2 ∧ s.upd.staging.slot.pcl = ownPcl s ∧ s.pair.partner.role = 3) ∧
    (updS .active { roll := 6 }).upd.roll = 6 ∧
    (let s := updS .solo { slotA := { state := 2 }, runFrames := 2400, confirmEnd := some 900000000000 }
     (booted s).state = 2 ∧ stage s = 5 ∧ failedSinceRun s = false ∧ 2400 ≤ s.upd.runFrames ∧ s.pair.role = .solo ∧
       (atTime s 2000000000).grid.mono ≤ 900000000000 ∧ 900000000000 ≤ (atTime s 902000000000).grid.mono) :=
  ⟨⟨takes_sc _ _ _ _ (by decide) (by decide), takes_sc _ _ _ _ (by decide) (by decide), takes_sc _ _ _ _ (by decide) (by decide)⟩,
    by decide, by decide, by decide, by decide, by decide, by decide⟩

theorem test_hyps_SlotMemoryAndTrust :
    (let s := updS .solo { used := 1, copyA := { goodCopy with gen := 3 }, copyB := goodCopy }
     s.pair.role.leads = true ∧ stage s = 5 ∧ s.upd.writing = none ∧ s.olc.slotw = 0 ∧ s.upd.used ≠ 0 ∧ s.upd.copyB.gen < s.upd.copyA.gen) ∧
    (updS .solo { writing := some (true, goodCopy, 0) }).upd.writing = some (true, goodCopy, 0) ∧
    (let s := wrField (updS .offline {}) Reg.UPD_STAT 28 26 2
     takes s Reg.UPD_CMD 6 (sc 0x5A3C0040) ∧ field (rd s Reg.UPD_STAT) 28 26 = 2 ∧ hasRole s 1 2 = true) ∧
    (takes (updS .offline {}) Reg.UPD_CMD 6 (sc 0x5A3C0040) ∧ field (rd (updS .offline {}) Reg.UPD_STAT) 28 26 ≠ 2) ∧
    hasRole { run 1 with sess := sessionOf 4 } 1 4 = true ∧ (updS .solo {}).upd.trust = [] ∧ hasRole (updS .solo {}) 1 4 = false ∧
    hasSession (updS .solo {}) 1 = true ∧ hasSession (run 1) 1 = false :=
  ⟨by decide, by decide, ⟨takes_sc _ _ _ _ (by decide) (by decide), by decide⟩, ⟨takes_sc _ _ _ _ (by decide) (by decide), by decide⟩, by decide⟩

theorem test_hyps_AccessRules :
    (passes (run 1) Reg.ACC_INI_MID (sc 1) ∧ Reg.ACC_INI_BASE_LO ≤ Reg.ACC_INI_MID ∧ Reg.ACC_INI_MID % 4 = 0) ∧
    (passes (run 1) Reg.ACC_TGT_BASE_LO (sc 1) ∧ Reg.ACC_TGT_BASE_LO ≤ Reg.ACC_TGT_MID ∧ Reg.ACC_TGT_BASE_LO % 4 = 0 ∧
      tgtKey (run 1) % 64 < 4 ∧ (run 1).acc.locked = false ∧ ({ run 1 with acc := { locked := true } } : State).acc.locked = true ∧
      4 ≤ tgtKey (wr (run 1) Reg.ACC_TGT_SEL 4) % 64) ∧
    (passes (run 1) Reg.ACC_BARRIER (sc 0x5A3C0100) ∧ field (0x5A3C0100 : Word) 31 16 = 0x5A3C ∧ field (0x5A3C0100 : Word) 9 8 ≠ 3 ∧
      (run 1).acc.drain = false ∧ Tbl.rising (run 1).acc.iniSh = true ∧ Tbl.rising (run 1).acc.tgtSh = true) ∧
    (let s := { run 1 with acc := { drain := true, held := [(1, 4)] } }
     s.acc.drain = true ∧ s.acc.held = (1, 4) :: [] ∧ Tbl.rising s.acc.iniSh = true) :=
  ⟨⟨passes_sc _ _ _, by decide⟩, ⟨passes_sc _ _ _, by decide⟩, ⟨passes_sc _ _ _, by decide⟩, by decide⟩

theorem test_hyps_RecorderFlushes :
    (let s := { run 1 with rcd := { buf := [{ sev := 2 }] } }
     s.rcd.flushing = false ∧ 96 ≤ s.grid.frame - s.rcd.lastFlushFrame ∧ 2 ≤ ({ sev := 2 } : Rec).sev ∧ { sev := 2 } ∈ s.rcd.buf) ∧
    takes (run 1) Reg.REC_CMD 0 (sc 0x5A3C0001) ∧
    (let s := { run 1 with rcd := { flushing := true, cause := 2, clearWaits := none } }
     s.rcd.flushing = true ∧ s.rcd.cause ≠ 4 ∧ fillsLocket s.rcd = false ∧ s.rcd.clearWaits = none ∧
       ({ s.rcd with clearWaits := some (1, 7) } : Recorder).clearWaits = some (1, 7)) ∧ hasSession (smmS .solo {}) 1 = true :=
  ⟨by decide, takes_sc _ _ _ _ (by decide) (by decide), by decide, by decide⟩

theorem test_clear_request_refused : clearRequestOk (run 1) 1 [] = false := by decide

/-- A display that works, with region 1 on rows 20 and 21. -/
def dpyS (d : DpyState) : State := { run 1 with dpy := { d with regions := [(1, (20, 21))] }, cfg := { dpy := { regions := [(1, (20, 21))] } } }

theorem test_hyps_DisplayDriver :
    (passes (dpyS {}) Reg.DPY_REQ (sc 1) ∧ (0x1 : Word).toNat % 8 ≠ 0 ∧ regionRows (dpyS {}) 1 ≠ [] ∧ regionRows (dpyS {}) 2 = []) ∧
    takes (dpyS {}) Reg.DPY_CMD 1 (sc 0x5A3C0002) ∧ stage State.reset = 0 ∧
    (let s := dpyS { rows := [(7, { st := 1, n := 4, done := 3 }), (8, { st := 2, n := 4, done := 3 }), (9, { st := 3, n := 9, done := 3 })] }
     stage s ≠ 0 ∧ s.dpy.stopped = false ∧ s.dpy.nodrive = false ∧ (-201 : Int) < -200 ∧ s.dpy.wait.contains 7 = false ∧
       (dpyRow s 7).st = 1 ∧ (dpyRow s 7).n ≤ (dpyRow s 7).done + 1 ∧ (dpyRow s 8).st = 2 ∧ (dpyRow s 8).n ≤ (dpyRow s 8).done + 1 ∧
       (dpyRow s 9).done + 1 < (dpyRow s 9).n ∧ (dpyRow s 6).st = 0) ∧
    (let s := dpyS { reqs := [(1, { cur := some [(20, [0])] })], shown := statusBand (atTime (run 1) 2000000000) }
     s.dpy.stopping = false ∧ rowsIdle s allRows = true ∧ rowsIdle s (regionRows s 1) = true ∧ s.dpy.wait = [] ∧ s.dpy.clear = [] ∧
       s.dpy.recov = [] ∧ s.dpy.final = 0 ∧ s.cfg.dpy.regions = s.dpy.regions ∧ statusBand (atTime s 2000000000) = s.dpy.shown ∧
       (dpyReg s 1).cur = some [(20, [0])] ∧ (dpyReg s 1).started = false ∧ (dpyReg s 0).cur = none ∧ (dpyReg s 2).cur = none) :=
  ⟨⟨passes_sc _ _ _, by decide⟩, takes_sc _ _ _ _ (by decide) (by decide), by decide, by decide, by decide⟩

/-! ### WellFormed -/

/-- A term with one operand out of its range, for each check: WellFormed refuses it. -/
theorem test_ill_formed_1 : (([
    .registerWrite (2 ^ 32) 4 {}, .registerWrite 0 3 {}, .acSlotStart 4 0, .classEnd 12 0 0, .classEnd 0 2 0, .budgetExhausted 128 0,
    .backgroundSelfTest 8 {}, .fullSelfTest 8 {}, .leLd { eng := 8 }, .leLd { stream := 2 }, .leLdn { eng := 8 }, .leLdn { stream := 2 },
    .leLdl { eng := 8 }, .leLdl { stream := 2 }, .leAnd { eng := 8 }, .leAnd { stream := 2 }, .leAndn { eng := 8 }, .leAndn { stream := 2 },
    .leOr { eng := 8 }, .leOr { stream := 2 }, .leOrn { eng := 8 }, .leOrn { stream := 2 }, .leXor { eng := 8 }, .leXor { stream := 2 }] : List Instr).all fun i => !i.wf) = true := by decide

theorem test_ill_formed_2 : (([
    .leXorn { eng := 8 }, .leXorn { stream := 2 }, .leBop { eng := 8 }, .leBop { stream := 2 }, .leBcl { eng := 8 }, .leBcl { stream := 2 },
    .leSt { eng := 8 }, .leSt { stream := 2 }, .leStn { eng := 8 }, .leStn { stream := 2 }, .leSet { eng := 8 }, .leSet { stream := 2 },
    .leRst { eng := 8 }, .leRst { stream := 2 }, .leRedg { eng := 8 }, .leRedg { stream := 2 }, .leFedg { eng := 8 }, .leFedg { stream := 2 },
    .leTon { eng := 8 }, .leTon { stream := 2 }, .leTof { eng := 8 }, .leTof { stream := 2 }, .leTp { eng := 8 }, .leTp { stream := 2 }] : List Instr).all fun i => !i.wf) = true := by decide

theorem test_ill_formed_3 : (([
    .leCtu { eng := 8 }, .leCtu { stream := 2 }, .leCtd { eng := 8 }, .leCtd { stream := 2 }, .leCtl { eng := 8 }, .leCtl { stream := 2 },
    .leTstd { eng := 8 }, .leTstd { stream := 2 }, .leStro { eng := 8 }, .leStro { stream := 2 }, .leFrcd { eng := 8 }, .leFrcd { stream := 2 },
    .leSkip { eng := 8 }, .leSkip { stream := 2 }, .leEnd { eng := 8 }, .leEnd { stream := 2 }, .leIllegal { eng := 8 }, .leIllegal { stream := 2 },
    .modeRequest 8 {}, .leClrCnt 8 {}, .debugOpen 8 {}, .debugHalt 8 {}, .debugStep { eng := 8 }, .debugStep { stream := 2 }] : List Instr).all fun i => !i.wf) = true := by decide

theorem test_ill_formed_4 : (([
    .debugResume 8 {} 0, .debugWrite 8 {}, .frameNow 4, .taiFreeze 4, .monoNow 4, .sqRead 4 0, .sqRead 0 0x50000, .tgRead 4 0, .tgReadStallEnd 4 0,
    .tgDrop 4, .recEvent 4 0 [], .recEvent 0 5 [], .hartReq 4 0 0 [] 0, .hartReq 0 8 0 [] 0, .hartReq 0 0 256 [] 0, .acStore 4 (.bin 0 0 0) none 0 0,
    .rollbackEnd 4, .servicePreempt 4 0, .streamLossTimeout 256 0, .streamErrorTimeout 256 0, .pePassOverrun 6 0, .pePostDeadline 6 0,
    .peClrCnt 6 {}, .tokelLinkLost 4 0] : List Instr).all fun i => !i.wf) = true := by decide

theorem test_ill_formed_5 : (([
    .discrepancyTimeout 512 0, .stcWatchdogExpiry 1024 0, .chainData 4 0 0, .chainResponse 4 {} 0, .chainMiss 4 0, .chainIdent 4 0 0,
    .chainIdent 0 64 0, .chainDelay 4 0 0, .chainDelay 0 64 0, .chainConfig 4 0 0, .chainConfig 0 64 0, .chainProbe 4 0, .strangerPoll 4 0,
    .epochTimeout 4 0, .nodeHoldExpiry 4 0 0, .nodeHoldExpiry 0 64 0, .diChange 32 0 0 0, .debounceExpiry 32 0, .doReadback 16 false 0,
    .doOverload 16 0, .groupOvercurrent 2 0, .doRetry true 2 false 0, .doRetry false 16 false 0, .groupSupplyLow 2 false 0] : List Instr).all fun i => !i.wf) = true := by decide

theorem test_ill_formed_6 : (([
    .adcSample 8 0 0 false 0, .conditionRecord 8 0, .hartResponse 8 0 [] false 0, .hartResponse 0 256 [] false 0, .hartTimeout 8 0,
    .canFrameReceived 2 {}, .canRxTimeout 2 0 0, .canRxoW0 2 0, .canRxoW19 2 0, .canRxoSel 2 {}, .canLockTimeout 2 0, .canTxDone 2 0 0,
    .canTxError 2 0 false 0, .canTxLifetime 2 0 0, .canCancel 2 {}, .busOffRecovery 2 0, .ttTimeMark 2 0 0, .ptpSync 2 0 0 false 0,
    .ptpAnnounce 2 {} 0, .announceTimeout 2 0, .pdelayReq 4 0, .launchFrame 8 0, .supervisionFrame 2 0, .gooseTalExpiry 512 0] : List Instr).all fun i => !i.wf) = true := by decide

theorem test_ill_formed_7 : (([
    .gooseErrorTimeout 512 0, .gooseRepeat 128 0, .arpRequest 5 0 0, .icmpEcho 5 0 [] 0, .accRegionWrite (2 ^ 32) {}, .feedChange 0 false 0,
    .feedChange 3 false 0, .tempSample (List.replicate 11 0) 0, .voltageSample (List.replicate 23 0) 0, .processMonitor (List.replicate 17 0) 0,
    .i2cRead 256, .peOutVal 6, .ethLinkChange 5 false 0 0, .pdelayResp 2 false 0 0, .chainRequestHeard 4 0 0 0 0 0 0,
    .chainRequestHeard 0 64 0 0 0 0 0, .chainRequestHeard 0 0 256 0 0 0 0, .chainRequestHeard 0 0 0 256 0 0 0, .canBusError 2 false 0,
    .canArbitrationStart 2 0 0] : List Instr).all fun i => !i.wf) = true := by decide
end Sys2Proof.Tests
end

section
/-! The register file (R6, R9) and the state after reset: what a canonical table holds, O5 and O2. -/

namespace Sys2Proof.Machine

open Sys2Proof

section Tables

variable {α : Type} {d : Nat → α}

/-- A table reads the default, or an entry of it. -/
theorem Tbl.read_eq_or_mem (d : Nat → α) (t : Tbl α) (k : Nat) : Tbl.read d t k = d k ∨ (k, Tbl.read d t k) ∈ t := by
  induction t with
  | nil => exact .inl rfl
  | cons e t ih =>
    obtain ⟨j, w⟩ := e
    by_cases hk : k = j
    · subst hk; simp [Tbl.read]
    · simpa [Tbl.read, hk] using ih

/-- In a table with rising keys every entry is what its key reads. -/
theorem Tbl.read_of_mem {t : Tbl α} {k : Nat} {v : α} (ht : t.Pairwise fun a b => a.1 < b.1) (h : (k, v) ∈ t) :
    Tbl.read d t k = v := by
  induction t with
  | nil => cases h
  | cons e t ih =>
    obtain ⟨j, w⟩ := e
    obtain ⟨first, rest⟩ := List.pairwise_cons.1 ht
    rcases List.mem_cons.1 h with h | h
    · cases h; simp [Tbl.read]
    · have hk : k ≠ j := Nat.ne_of_gt (first _ h)
      simpa [Tbl.read, hk] using ih rest h

variable [DecidableEq α]

/-- The entries of a canonical table are the keys that do not read the default, with what they read. -/
theorem Tbl.mem_iff_read {t : Tbl α} (ht : Tbl.wf d t = true) (e : Nat × α) :
    e ∈ t ↔ Tbl.read d t e.1 = e.2 ∧ e.2 ≠ d e.1 := by
  simp only [Tbl.wf, Bool.and_eq_true, Tbl.rising_iff, List.all_eq_true, decide_eq_true_eq] at ht
  obtain ⟨rising, noDefault⟩ := ht
  refine ⟨fun h => ⟨Tbl.read_of_mem rising h, noDefault e h⟩, fun ⟨hr, hd⟩ => ?_⟩
  rcases Tbl.read_eq_or_mem d t e.1 with h | h
  · exact absurd (hr.symm.trans h) hd
  · rwa [hr] at h

/-- Two canonical tables that read alike are equal: they hold the same entries in the same order. -/
theorem Tbl.ext_of_read {t u : Tbl α} (ht : Tbl.wf d t = true) (hu : Tbl.wf d u = true)
    (h : ∀ k, Tbl.read d t k = Tbl.read d u k) : t = u := by
  have sorted : ∀ {v : Tbl α}, Tbl.wf d v = true → v.Pairwise fun a b => a.1 < b.1 := fun hv =>
    (Tbl.rising_iff _).1 (Bool.and_eq_true_iff.1 hv).1
  have nodup : ∀ {v : Tbl α}, Tbl.wf d v = true → v.Nodup := fun hv =>
    (sorted hv).imp fun hlt heq => Nat.ne_of_lt hlt (congrArg Prod.fst heq)
  have perm : t.Perm u := (List.perm_ext_iff_of_nodup (nodup ht) (nodup hu)).2 fun e => by
    rw [Tbl.mem_iff_read ht, Tbl.mem_iff_read hu, h]
  exact perm.eq_of_pairwise (fun a b _ _ hab hba => absurd hab (Nat.lt_asymm hba)) (sorted ht) (sorted hu)

end Tables

/-- Settles O5: `Tbl.wf_write` for the form, `rd_wr` for the read back, `Tbl.ext_of_read` for the uniqueness. -/
theorem registerFile : Obligations.RegisterFile := fun s _ a b v =>
  ⟨Tbl.wf_write regReset s.regs a v, rd_wr s a b v, Tbl.ext_of_read⟩

/-- Settles O2: every part of the reset state stands at its default, so the register file and the buffer are empty. -/
theorem resetState : Obligations.ResetState :=
  ⟨⟨rfl, rfl, rfl, rfl, rfl, rfl, rfl, fun _ => rfl⟩, { regs := rfl, roles := by decide, phase := by decide, buf := by decide }⟩

end Sys2Proof.Machine
end

section
/-! The frame of every command: that each command ends, what each leaves of the state, and O3. -/

namespace Sys2Proof.Machine

open Sys2Proof

/-! ### Every command ends

A command that branches on a match has a lemma of its own; the branches of the others are conditions, or there are none. -/

/-- The command runs to its end: it answers a next state. -/
def Ends (o : Out) : Prop := ∃ u, o = .next u

theorem Ends.done (s : State) : Ends (done s) := ⟨s, rfl⟩

theorem Ends.ite {p : Prop} [Decidable p] {a b : Out} (ha : Ends a) (hb : Ends b) : Ends (if p then a else b) := by
  split <;> assumption

theorem execFrameFreeze_ends (t : Nat) (s : State) : Ends (execFrameFreeze t s) := by
  unfold execFrameFreeze
  extract_lets
  split <;> exact .done _

theorem execAcSlotStart_ends (core t : Nat) (s : State) : Ends (execAcSlotStart core t s) := by
  unfold execAcSlotStart
  extract_lets
  split
  · exact .done _
  · split
    · exact .done _
    · exact .ite (.ite (.done _) (.done _)) (.done _)

theorem execClassEnd_ends (eng stream t : Nat) (s : State) : Ends (execClassEnd eng stream t s) := by
  unfold execClassEnd
  refine .ite (.done _) ?_
  refine .ite ?_ ?_
  · extract_lets
    split
    · exact .done _
    · exact .ite (.done _) (.done _)
  · extract_lets
    split
    · exact .done _
    · exact .ite (.done _) (.done _)

theorem execPromptMinpulseEnd_ends (key t : Nat) (s : State) : Ends (execPromptMinpulseEnd key t s) := by
  unfold execPromptMinpulseEnd
  extract_lets
  split
  · exact .ite (.done _) (.done _)
  · exact .done _

theorem execFrameNow_ends (core : Nat) (s : State) : Ends (execFrameNow core s) := by
  unfold execFrameNow
  split <;> exact .done _

theorem execTaiFreeze_ends (core : Nat) (s : State) : Ends (execTaiFreeze core s) := by
  unfold execTaiFreeze
  split <;> exact .done _

theorem execMonoNow_ends (core : Nat) (s : State) : Ends (execMonoNow core s) := by
  unfold execMonoNow
  split <;> exact .done _

theorem execSqRead_ends (core ep : Nat) (s : State) : Ends (execSqRead core ep s) := by
  unfold execSqRead
  split
  · exact .done _
  · exact .ite (.done _) (.done _)

theorem execTgRead_ends (core t : Nat) (s : State) : Ends (execTgRead core t s) := by
  unfold execTgRead
  split <;> exact .done _

theorem execTgReadStallEnd_ends (core t : Nat) (s : State) : Ends (execTgReadStallEnd core t s) := by
  unfold execTgReadStallEnd
  extract_lets
  split
  · exact .done _
  · exact .ite (.done _) (.done _)

theorem execTgDrop_ends (core : Nat) (s : State) : Ends (execTgDrop core s) := by
  unfold execTgDrop
  split <;> exact .done _

theorem execRecEvent_ends (core sev : Nat) (ps : List Word) (s : State) : Ends (execRecEvent core sev ps s) := by
  unfold execRecEvent
  split
  · exact .done _
  · exact .ite (.done _) (.done _)

theorem execHartReq_ends (core ch cmd : Nat) (data : List Byte) (t : Nat) (s : State) :
    Ends (execHartReq core ch cmd data t s) := by
  unfold execHartReq
  extract_lets
  split
  · exact .done _
  · exact .ite (.done _) (.ite (.done _) (.done _))

theorem execAcStore_ends (core : Nat) (op : AcOp) (raises : Option Nat) (addr t : Nat) (s : State) :
    Ends (execAcStore core op raises addr t s) := by
  unfold execAcStore
  extract_lets
  split
  · exact .done _
  · refine .ite (.done _) ?_
    split
    · exact .ite (.done _) (.done _)
    · split
      · exact .ite (.done _) (.done _)
      · exact .ite (.done _) (.done _)
      · refine .ite (.done _) ?_
        split
        · exact .done _
        · exact .ite (.done _) (.done _)

theorem execRollbackEnd_ends (core : Nat) (s : State) : Ends (execRollbackEnd core s) := by
  unfold execRollbackEnd
  extract_lets
  split <;> exact .done _

theorem execSvMessage_ends (m : SvMsg) (t : Nat) (s : State) : Ends (execSvMessage m t s) := by
  unfold execSvMessage
  refine .ite (.done _) ?_
  split
  · exact .done _
  · split
    · exact .done _
    · exact .ite (.done _) (.done _)

theorem execStreamLossTimeout_ends (k t : Nat) (s : State) : Ends (execStreamLossTimeout k t s) := by
  unfold execStreamLossTimeout
  extract_lets
  split
  · exact .ite (.done _) (.done _)
  · exact .done _

theorem execStreamErrorTimeout_ends (k t : Nat) (s : State) : Ends (execStreamErrorTimeout k t s) := by
  unfold execStreamErrorTimeout
  extract_lets
  split
  · exact .ite (.done _) (.done _)
  · exact .done _

theorem execPePassOverrun_ends (e t : Nat) (s : State) : Ends (execPePassOverrun e t s) := by
  unfold execPePassOverrun
  extract_lets
  split
  · exact .done _
  · exact .ite (.done _) (.done _)

theorem execOlcVerify_ends (ok : Bool) (crc : Word) (s : State) : Ends (execOlcVerify ok crc s) := by
  unfold execOlcVerify
  split
  · exact .done _
  · refine .ite (.done _) ?_
    refine .ite (.done _) ?_
    extract_lets
    split <;> exact .done _

theorem execOlcCommit_ends (t : Nat) (s : State) : Ends (execOlcCommit t s) := by
  unfold execOlcCommit
  extract_lets
  split
  · exact .done _
  · exact .ite (.done _) (.ite (.done _) (.ite (.done _) (.done _)))

theorem execRevertEffect_ends (t : Nat) (s : State) : Ends (execRevertEffect t s) := by
  unfold execRevertEffect
  extract_lets
  split
  · exact .done _
  · exact .ite (.done _) (.done _)

theorem execKillQualified_ends (t : Nat) (s : State) : Ends (execKillQualified t s) := by
  unfold execKillQualified
  extract_lets
  split
  · exact .done _
  · exact .ite (.done _) (.done _)

theorem execSwitchoverEval_ends (t : Nat) (s : State) : Ends (execSwitchoverEval t s) := by
  unfold execSwitchoverEval
  extract_lets
  split
  · exact .done _
  · exact .ite (.done _) (.ite (.done _) (.done _))

theorem execJoinRetry_ends (t : Nat) (s : State) : Ends (execJoinRetry t s) := by
  unfold execJoinRetry
  extract_lets
  split
  · exact .ite (.done _) (.done _)
  · exact .done _

theorem execReLearn_ends (t : Nat) (s : State) : Ends (execReLearn t s) := by
  unfold execReLearn
  extract_lets
  split
  · exact .ite (.done _) (.done _)
  · exact .done _

theorem execDetachWaitEnd_ends (t : Nat) (s : State) : Ends (execDetachWaitEnd t s) := by
  unfold execDetachWaitEnd
  extract_lets
  split
  · exact .ite (.ite (.done _) (.done _)) (.done _)
  · exact .done _

theorem execPartnerPresence_ends (present : Bool) (t : Nat) (s : State) : Ends (execPartnerPresence present t s) := by
  unfold execPartnerPresence
  refine .ite (.done _) ?_
  split
  · exact .ite (.done _) (.done _)
  · exact .done _
  · exact .done _

theorem execLinkDelta_ends (m : Xfer) (t : Nat) (s : State) : Ends (execLinkDelta m t s) := by
  unfold execLinkDelta
  extract_lets
  split
  · exact .ite (.done _) (.ite (.done _) (.done _))
  · exact .ite (.done _) (.done _)

theorem execLearnPhaseEnd_ends (t : Nat) (s : State) : Ends (execLearnPhaseEnd t s) := by
  unfold execLearnPhaseEnd
  refine .ite (.ite (.done _) (.done _)) ?_
  refine .ite (.done _) ?_
  split
  · exact .ite (.done _) (.done _)
  · exact .ite (.done _) (.done _)
  · exact .ite (.done _) (.done _)
  · exact .ite (.done _) (.done _)
  · exact .ite (.done _) (.done _)
  · exact .done _

theorem execDoRelease_ends (t : Nat) (s : State) : Ends (execDoRelease t s) := by
  unfold execDoRelease
  extract_lets
  split
  · exact .ite (.done _) (.done _)
  · exact .done _

theorem execCrossFadeStep_ends (t : Nat) (s : State) : Ends (execCrossFadeStep t s) := by
  unfold execCrossFadeStep
  extract_lets
  split
  · exact .done _
  · exact .ite (.done _) (.ite (.done _) (.done _))

theorem execBurdenSwitch_ends (t : Nat) (s : State) : Ends (execBurdenSwitch t s) := by
  unfold execBurdenSwitch
  extract_lets
  split
  · exact .ite (.done _) (.ite (.done _) (.done _))
  · exact .done _

theorem execUpdateStep_ends (fell : Bool) (t : Nat) (s : State) : Ends (execUpdateStep fell t s) := by
  unfold execUpdateStep
  refine .ite (.done _) ?_
  refine .ite (.done _) ?_
  extract_lets
  split <;> exact .done _

theorem execDiscrepancyTimeout_ends (i t : Nat) (s : State) : Ends (execDiscrepancyTimeout i t s) := by
  unfold execDiscrepancyTimeout
  extract_lets
  split
  · exact .done _
  · exact .ite (.done _) (.done _)

theorem execSingleCopyLoss_ends (k t : Nat) (s : State) : Ends (execSingleCopyLoss k t s) := by
  unfold execSingleCopyLoss
  extract_lets
  split
  · exact .ite (.done _) (.done _)
  · exact .done _

theorem execStcWatchdogExpiry_ends (k t : Nat) (s : State) : Ends (execStcWatchdogExpiry k t s) := by
  unfold execStcWatchdogExpiry
  extract_lets
  split
  · exact .done _
  · exact .ite (.done _) (.done _)

theorem execChainData_ends (p i t : Nat) (s : State) : Ends (execChainData p i t s) := by
  unfold execChainData
  extract_lets
  split
  · exact .done _
  · exact .ite (.done _) (.ite (.done _) (.done _))

theorem execChainResponse_ends (p : Nat) (r : ChnResp) (t : Nat) (s : State) : Ends (execChainResponse p r t s) := by
  unfold execChainResponse
  refine .ite (.done _) ?_
  split
  · exact .done _
  · exact .ite (.ite (.done _) (.ite (.done _) (.done _))) (.ite (.done _) (.done _))

theorem execChainMiss_ends (p t : Nat) (s : State) : Ends (execChainMiss p t s) := by
  unfold execChainMiss
  extract_lets
  split
  · exact .done _
  · exact .ite (.done _) (.ite (.done _) (.ite (.done _) (.done _)))

theorem execNodeHoldExpiry_ends (p n t : Nat) (s : State) : Ends (execNodeHoldExpiry p n t s) := by
  unfold execNodeHoldExpiry
  extract_lets
  split
  · exact .ite (.done _) (.done _)
  · exact .done _

theorem execDebounceExpiry_ends (n t : Nat) (s : State) : Ends (execDebounceExpiry n t s) := by
  unfold execDebounceExpiry
  extract_lets
  split
  · exact .ite (.done _) (.done _)
  · exact .done _

theorem execDoReadback_ends (ch : Nat) (sense : Bool) (t : Nat) (s : State) : Ends (execDoReadback ch sense t s) := by
  unfold execDoReadback
  extract_lets
  split
  · exact .done _
  · refine .ite (.done _) ?_
    refine .ite (.done _) ?_
    refine .ite ?_ (.done _)
    split
    exact .done _

theorem execDoOverload_ends (ch t : Nat) (s : State) : Ends (execDoOverload ch t s) := by
  unfold execDoOverload
  refine .ite (.done _) ?_
  split
  exact .done _

theorem execGroupOvercurrent_ends (g t : Nat) (s : State) : Ends (execGroupOvercurrent g t s) := by
  unfold execGroupOvercurrent
  refine .ite (.done _) ?_
  split
  exact .done _

theorem execGroupSupplyLow_ends (g : Nat) (low : Bool) (t : Nat) (s : State) : Ends (execGroupSupplyLow g low t s) := by
  unfold execGroupSupplyLow
  refine .ite (.done _) ?_
  refine .ite ?_ (.done _)
  split
  exact .done _

theorem execHartResponse_ends (ch cmd : Nat) (bs : List Byte) (ok : Bool) (t : Nat) (s : State) :
    Ends (execHartResponse ch cmd bs ok t s) := by
  unfold execHartResponse
  refine .ite (.done _) ?_
  split
  · exact .done _
  · exact .ite (.done _) (.done _)

theorem execHartTimeout_ends (ch t : Nat) (s : State) : Ends (execHartTimeout ch t s) := by
  unfold execHartTimeout
  extract_lets
  split
  · exact .ite (.done _) (.done _)
  · exact .done _

theorem execCanFrameReceived_ends (c : Nat) (f : CanFrame) (s : State) : Ends (execCanFrameReceived c f s) := by
  unfold execCanFrameReceived
  refine .ite (.done _) ?_
  refine .ite (.done _) ?_
  extract_lets
  split <;> exact .ite (.done _) (.done _)

theorem execCanLockTimeout_ends (c t : Nat) (s : State) : Ends (execCanLockTimeout c t s) := by
  unfold execCanLockTimeout
  extract_lets
  split
  · exact .ite (.done _) (.done _)
  · exact .done _

theorem execCanTxDone_ends (c n t : Nat) (s : State) : Ends (execCanTxDone c n t s) := by
  unfold execCanTxDone
  extract_lets
  split
  · exact .done _
  · exact .ite (.done _) (.done _)

theorem execTtTimeMark_ends (c mark t : Nat) (s : State) : Ends (execTtTimeMark c mark t s) := by
  unfold execTtTimeMark
  refine .ite (.done _) ?_
  extract_lets
  split
  · exact .done _
  · split
    · exact .done _
    · exact .done _
    · exact .ite (.done _) (.done _)

theorem execTimCapSlo_ends (s : State) : Ends (execTimCapSlo s) := by
  unfold execTimCapSlo
  extract_lets
  split <;> exact .done _

theorem execLaunchFrame_ends (port t : Nat) (s : State) : Ends (execLaunchFrame port t s) := by
  unfold execLaunchFrame
  extract_lets
  split
  · exact .done _
  · exact .ite (.done _) (.ite (.done _) (.done _))

theorem execEthFrameRx_ends (f : EthFrame) (t : Nat) (s : State) : Ends (execEthFrameRx f t s) := by
  unfold execEthFrameRx
  refine .ite (.done _) ?_
  refine .ite (.done _) ?_
  refine .ite (.done _) ?_
  refine .ite (.done _) ?_
  extract_lets
  split
  · exact .done _
  · exact .ite (.done _) (.done _)

theorem execGooseRx_ends (m : GooseMsg) (t : Nat) (s : State) : Ends (execGooseRx m t s) := by
  unfold execGooseRx
  extract_lets
  split
  · exact .done _
  · split
    · exact .done _
    · exact .ite (.done _) (.ite (.done _) (.done _))

theorem execGooseTalExpiry_ends (k t : Nat) (s : State) : Ends (execGooseTalExpiry k t s) := by
  unfold execGooseTalExpiry
  extract_lets
  split
  · exact .ite (.done _) (.done _)
  · exact .done _

theorem execGooseErrorTimeout_ends (k t : Nat) (s : State) : Ends (execGooseErrorTimeout k t s) := by
  unfold execGooseErrorTimeout
  extract_lets
  split
  · exact .ite (.done _) (.done _)
  · exact .done _

theorem execOperateTimeout_ends (o t : Nat) (s : State) : Ends (execOperateTimeout o t s) := by
  unfold execOperateTimeout
  extract_lets
  split
  · exact .ite (.done _) (.done _)
  · exact .done _

theorem execSessionOpen_ends (r : SessReq) (t : Nat) (s : State) : Ends (execSessionOpen r t s) := by
  unfold execSessionOpen
  extract_lets
  split
  · exact .done _
  · exact .ite (.done _) (.done _)

theorem execModuleStart_ends (t : Nat) (s : State) : Ends (execModuleStart t s) := by
  unfold execModuleStart
  extract_lets
  split <;> exact .done _

theorem execLoadComplete_ends (failed : List Nat) (copyOk : Bool) (t : Nat) (s : State) :
    Ends (execLoadComplete failed copyOk t s) := by
  unfold execLoadComplete
  refine .ite (.done _) ?_
  extract_lets
  split
  · exact .done _
  · exact .ite (.done _) (.done _)

theorem execConfirmWindowExpiry_ends (t : Nat) (s : State) : Ends (execConfirmWindowExpiry t s) := by
  unfold execConfirmWindowExpiry
  extract_lets
  split
  · exact .ite (.done _) (.done _)
  · exact .done _

theorem execBarrierDrainEnd_ends (inflight : Bool) (s : State) : Ends (execBarrierDrainEnd inflight s) := by
  unfold execBarrierDrainEnd
  refine .ite (.done _) ?_
  split <;> exact .done _

theorem execFlushDone_ends (s : State) : Ends (execFlushDone s) := by
  unfold execFlushDone
  refine .ite (.done _) ?_
  extract_lets
  split <;> exact .done _

theorem execLeverUnlatch_ends (t : Nat) (s : State) : Ends (execLeverUnlatch t s) := by
  unfold execLeverUnlatch
  refine .ite (.done _) ?_
  split
  · exact .ite (.done _) (.done _)
  · exact .done _
  · exact .done _

theorem execI2cRead_ends (ptr : Nat) (s : State) : Ends (execI2cRead ptr s) := by
  unfold execI2cRead
  refine .ite (.done _) ?_
  refine .ite (.done _) ?_
  split <;> exact .done _

theorem execRetainedWriteDone_ends (copyB : Bool) (s : State) : Ends (execRetainedWriteDone copyB s) := by
  unfold execRetainedWriteDone
  split
  · exact .done _
  · split
    · exact .done _
    · exact .ite (.done _) (.done _)

theorem execSlotmemWriteDone_ends (t : Nat) (s : State) : Ends (execSlotmemWriteDone t s) := by
  unfold execSlotmemWriteDone
  extract_lets
  split
  · exact .done _
  · exact .ite (.done _) (.done _)

/-- Every command ends: no branch of any command faults or refuses. -/
theorem exec_ends : ∀ (c : Instr) (s : State), Ends (exec c s)
  | .registerWrite .., _ => .ite (.done _) (.done _)
  | .frameFreeze .., _ => execFrameFreeze_ends ..
  | .frameCompute .., _ => .ite (.done _) (.ite (.done _) (.done _))
  | .acSlotStart .., _ => execAcSlotStart_ends ..
  | .classEnd .., _ => execClassEnd_ends ..
  | .budgetExhausted .., _ => .ite (.done _) (.done _)
  | .frameSeal .., _ => .ite (.done _) (.done _)
  | .frameCommit .., _ => .ite (.done _) (.done _)
  | .backgroundSelfTest .., _ => .ite (.done _) (.done _)
  | .fullSelfTest .., _ => .ite (.done _) (.done _)
  | .slewDone, _ => .ite (.done _) (.done _)
  | .partResume .., _ => .done _
  | .promptMinpulseEnd .., _ => execPromptMinpulseEnd_ends ..
  | .leLd .., _ => .done _
  | .leLdn .., _ => .done _
  | .leLdl .., _ => .done _
  | .leAnd .., _ => .done _
  | .leAndn .., _ => .done _
  | .leOr .., _ => .done _
  | .leOrn .., _ => .done _
  | .leXor .., _ => .done _
  | .leXorn .., _ => .done _
  | .leBop .., _ => .done _
  | .leBcl .., _ => .done _
  | .leSt .., _ => .done _
  | .leStn .., _ => .done _
  | .leSet .., _ => .done _
  | .leRst .., _ => .done _
  | .leRedg .., _ => .done _
  | .leFedg .., _ => .done _
  | .leTon .., _ => .done _
  | .leTof .., _ => .done _
  | .leTp .., _ => .done _
  | .leCtu .., _ => .done _
  | .leCtd .., _ => .done _
  | .leCtl .., _ => .done _
  | .leTstd .., _ => .done _
  | .leStro .., _ => .done _
  | .leFrcd .., _ => .done _
  | .leSkip .., _ => .done _
  | .leEnd .., _ => .done _
  | .leIllegal .., _ => .done _
  | .modeRequest .., _ => .ite (.done _) (.done _)
  | .leClrCnt .., _ => .ite (.done _) (.done _)
  | .debugOpen .., _ => .ite (.done _) (.done _)
  | .debugHalt .., _ => .ite (.done _) (.done _)
  | .debugStep .., _ => .ite (.done _) (.done _)
  | .debugResume .., _ => .ite (.done _) (.done _)
  | .debugWrite .., _ => .ite (.done _) (.done _)
  | .frameNow .., _ => execFrameNow_ends ..
  | .taiFreeze .., _ => execTaiFreeze_ends ..
  | .monoNow .., _ => execMonoNow_ends ..
  | .sqRead .., _ => execSqRead_ends ..
  | .tgRead .., _ => execTgRead_ends ..
  | .tgReadStallEnd .., _ => execTgReadStallEnd_ends ..
  | .tgDrop .., _ => execTgDrop_ends ..
  | .recEvent .., _ => execRecEvent_ends ..
  | .hartReq .., _ => execHartReq_ends ..
  | .acStore .., _ => execAcStore_ends ..
  | .rollbackEnd .., _ => execRollbackEnd_ends ..
  | .servicePreempt .., _ => .ite (.done _) (.done _)
  | .fbxClrCnt .., _ => .done _
  | .warmRestart .., _ => .done _
  | .coldRestart .., _ => .done _
  | .svMessage .., _ => execSvMessage_ends ..
  | .sampleTick .., _ => .ite (.done _) (.done _)
  | .streamLossTimeout .., _ => execStreamLossTimeout_ends ..
  | .streamErrorTimeout .., _ => execStreamErrorTimeout_ends ..
  | .sviClrCnt .., _ => .done _
  | .pePassOverrun .., _ => execPePassOverrun_ends ..
  | .pePostDeadline .., _ => .ite (.done _) (.done _)
  | .peClrCnt .., _ => .done _
  | .olcLoad .., _ => .ite (.done _) (.ite (.done _) (.done _))
  | .olcVerify .., _ => execOlcVerify_ends ..
  | .olcArm .., _ => .done _
  | .olcDisarm .., _ => .done _
  | .olcAbort .., _ => .done _
  | .olcRevert .., _ => .done _
  | .olcAccept .., _ => .done _
  | .olcCommit .., _ => execOlcCommit_ends ..
  | .revertEffect .., _ => execRevertEffect_ends ..
  | .olcWindowExpiry .., _ => .ite (.done _) (.done _)
  | .persistStepEnd .., _ => .ite (.done _) (.done _)
  | .forceSet .., _ => .done _
  | .forceRelease .., _ => .done _
  | .forceReleaseAll .., _ => .done _
  | .forceEffect .., _ => .ite (.done _) (.ite (.done _) (.done _))
  | .forceExpiry .., _ => .done _
  | .grantLineChange .., _ => .done _
  | .killLineChange .., _ => .done _
  | .killQualified .., _ => execKillQualified_ends ..
  | .claspFail .., _ => .ite (.ite (.done _) (.done _)) (.done _)
  | .claspFailClear .., _ => .ite (.done _) (.done _)
  | .takeover .., _ => .ite (.done _) (.done _)
  | .warmTakeover .., _ => .ite (.done _) (.done _)
  | .pairSwitch .., _ => .done _
  | .switchoverEval .., _ => execSwitchoverEval_ends ..
  | .pairRejoin .., _ => .done _
  | .pairClrCnt .., _ => .done _
  | .joinDecision .., _ => .ite (.ite (.done _) (.done _)) (.done _)
  | .joinWaitExpiry .., _ => .done _
  | .learnTimeout .., _ => .ite (.done _) (.done _)
  | .joinRetry .., _ => execJoinRetry_ends ..
  | .reLearn .., _ => execReLearn_ends ..
  | .detachWaitEnd .., _ => execDetachWaitEnd_ends ..
  | .linkUpCount .., _ => .ite (.done _) (.done _)
  | .tokelLinkLost .., _ => .ite (.done _) (.done _)
  | .partnerPresence .., _ => execPartnerPresence_ends ..
  | .linkFmark .., _ => .ite (.done _) (.done _)
  | .linkDigest .., _ => .ite (.done _) (.ite (.done _) (.done _))
  | .linkBlkreq .., _ => .ite (.done _) (.done _)
  | .linkRepair .., _ => .ite (.done _) (.done _)
  | .linkHallmark .., _ => .done _
  | .linkCtrl .., _ => .done _
  | .linkSnap .., _ => .ite (.done _) (.done _)
  | .linkBulk .., _ => .ite (.done _) (.ite (.done _) (.done _))
  | .linkDelta .., _ => execLinkDelta_ends ..
  | .linkDfinal .., _ => .ite (.done _) (.done _)
  | .linkFwpkg .., _ => .ite (.done _) (.done _)
  | .learnPhaseEnd .., _ => execLearnPhaseEnd_ends ..
  | .gridDeviation .., _ => .ite (.done _) (.done _)
  | .doRelease .., _ => execDoRelease_ends ..
  | .crossFadeStep .., _ => execCrossFadeStep_ends ..
  | .aoTakeoverDrive .., _ => .ite (.done _) (.done _)
  | .burdenSwitch .., _ => execBurdenSwitch_ends ..
  | .updRoll .., _ => .done _
  | .updateStep .., _ => execUpdateStep_ends ..
  | .moduleSafeState .., _ => .ite (.done _) (.done _)
  | .safWdResp .., _ => .done _
  | .safWdExpiry .., _ => .ite (.done _) (.done _)
  | .killPathTest .., _ => .ite (.done _) (.ite (.done _) (.done _))
  | .discrepancyTimeout .., _ => execDiscrepancyTimeout_ends ..
  | .singleCopyLoss .., _ => execSingleCopyLoss_ends ..
  | .stcWatchdogExpiry .., _ => execStcWatchdogExpiry_ends ..
  | .stcAck .., _ => .done _
  | .safClrCnt .., _ => .done _
  | .smmRequest .., _ => .done _
  | .smmEnter .., _ => .done _
  | .smmExit .., _ => .done _
  | .smmCodeExpiry .., _ => .ite (.done _) (.done _)
  | .smmStart .., _ => .ite (.done _) (.done _)
  | .smmExpiry .., _ => .ite (.done _) (.done _)
  | .chainData .., _ => execChainData_ends ..
  | .chainResponse .., _ => execChainResponse_ends ..
  | .chainMiss .., _ => execChainMiss_ends ..
  | .chainIdent .., _ => .ite (.done _) (.done _)
  | .chainDelay .., _ => .ite (.done _) (.done _)
  | .chainConfig .., _ => .ite (.done _) (.done _)
  | .chainAssign .., _ => .done _
  | .chainProbe .., _ => .ite (.done _) (.done _)
  | .strangerPoll .., _ => .ite (.done _) (.done _)
  | .epochTimeout .., _ => .ite (.done _) (.done _)
  | .chainUnblock .., _ => .done _
  | .chnClrCnt .., _ => .done _
  | .nodeHoldExpiry .., _ => execNodeHoldExpiry_ends ..
  | .diChange .., _ => .ite (.done _) (.done _)
  | .debounceExpiry .., _ => execDebounceExpiry_ends ..
  | .doReadback .., _ => execDoReadback_ends ..
  | .doOverload .., _ => execDoOverload_ends ..
  | .groupOvercurrent .., _ => execGroupOvercurrent_ends ..
  | .doRetry .., _ => .ite (.ite (.done _) (.ite (.done _) (.done _))) (.ite (.done _) (.ite (.done _) (.done _)))
  | .groupSupplyLow .., _ => execGroupSupplyLow_ends ..
  | .outputWatchdogExpiry .., _ => .ite (.done _) (.done _)
  | .adcSample .., _ => .ite (.done _) (.done _)
  | .conditionRecord .., _ => .ite (.done _) (.done _)
  | .hartResponse .., _ => execHartResponse_ends ..
  | .hartTimeout .., _ => execHartTimeout_ends ..
  | .lioClrCnt .., _ => .done _
  | .aioClrCnt .., _ => .done _
  | .canFrameReceived .., _ => execCanFrameReceived_ends ..
  | .canRxTimeout .., _ => .ite (.done _) (.done _)
  | .canRxoW0 .., _ => .done _
  | .canRxoW19 .., _ => .done _
  | .canRxoSel .., _ => .done _
  | .canLockTimeout .., _ => execCanLockTimeout_ends ..
  | .canTxDone .., _ => execCanTxDone_ends ..
  | .canTxError .., _ => .ite (.done _) (.done _)
  | .canTxLifetime .., _ => .ite (.ite (.done _) (.done _)) (.done _)
  | .canCancel .., _ => .done _
  | .busOffRecovery .., _ => .ite (.done _) (.done _)
  | .canRecover .., _ => .done _
  | .canClrCnt .., _ => .done _
  | .ttTimeMark .., _ => execTtTimeMark_ends ..
  | .ptpSync .., _ => .ite (.done _) (.done _)
  | .ptpAnnounce .., _ => .ite (.done _) (.ite (.done _) (.done _))
  | .announceTimeout .., _ => .ite (.done _) (.done _)
  | .pdelayReq .., _ => .ite (.done _) (.done _)
  | .secondMark .., _ => .done _
  | .prefRevert .., _ => .ite (.done _) (.done _)
  | .holdoverSave .., _ => .done _
  | .leapApply .., _ => .ite (.done _) (.ite (.done _) (.ite (.done _) (.done _)))
  | .irigFrame .., _ => .ite (.done _) (.done _)
  | .ppsFall .., _ => .ite (.done _) (.done _)
  | .captureEvent .., _ => .done _
  | .timCapSlo, _ => execTimCapSlo_ends ..
  | .timCapCfg .., _ => .done _
  | .timClrCnt .., _ => .done _
  | .launchFrame .., _ => execLaunchFrame_ends ..
  | .ethFrameRx .., _ => execEthFrameRx_ends ..
  | .supervisionFrame .., _ => .ite (.done _) (.done _)
  | .gooseRx .., _ => execGooseRx_ends ..
  | .gooseTalExpiry .., _ => execGooseTalExpiry_ends ..
  | .gooseErrorTimeout .., _ => execGooseErrorTimeout_ends ..
  | .gooseRepeat .., _ => .ite (.done _) (.done _)
  | .arpRequest .., _ => .ite (.done _) (.done _)
  | .icmpEcho .., _ => .ite (.done _) (.done _)
  | .mmsAssociate .., _ => .ite (.done _) (.done _)
  | .mmsConclude .., _ => .done _
  | .mmsAbort .., _ => .done _
  | .getDirectory .., _ => .done _
  | .getDataValues .., _ => .done _
  | .setDataValues .., _ => .done _
  | .mmsSelect .., _ => .done _
  | .selectTimeout .., _ => .ite (.done _) (.done _)
  | .mmsOperate .., _ => .done _
  | .operateTimeout .., _ => execOperateTimeout_ends ..
  | .getFile .., _ => .done _
  | .fileDirectory .., _ => .done _
  | .deleteFile .., _ => .done _
  | .ethClrCnt .., _ => .done _
  | .gseClrCnt .., _ => .done _
  | .sessionOpen .., _ => execSessionOpen_ends ..
  | .sessionClose .., _ => .done _
  | .sessionIdleTimeout .., _ => .ite (.done _) (.done _)
  | .moduleStart .., _ => execModuleStart_ends ..
  | .holdEnd .., _ => .ite (.done _) (.done _)
  | .strapRetry .., _ => .ite (.done _) (.done _)
  | .guardReady .., _ => .ite (.done _) (.ite (.done _) (.ite (.done _) (.done _)))
  | .loadComplete .., _ => execLoadComplete_ends ..
  | .configureComplete .., _ => .ite (.done _) (.ite (.done _) (.ite (.done _) (.ite (.done _) (.ite (.done _) (.done _)))))
  | .slotmemRepair .., _ => .ite (.done _) (.done _)
  | .updChoose .., _ => .done _
  | .fwBlock .., _ => .ite (.done _) (.ite (.done _) (.done _))
  | .updActivate .., _ => .done _
  | .updDiscard .., _ => .done _
  | .fwConfirm .., _ => .ite (.done _) (.done _)
  | .confirmWindowExpiry .., _ => execConfirmWindowExpiry_ends ..
  | .tftpWriteRequest .., _ => .ite (.done _) (.done _)
  | .tftpData .., _ => .ite (.done _) (.ite (.done _) (.done _))
  | .trustToken .., _ => .ite (.done _) (.done _)
  | .attestation .., _ => .ite (.done _) (.done _)
  | .accRegionWrite .., _ => .done _
  | .accBarrier .., _ => .done _
  | .barrierDrainEnd .., _ => execBarrierDrainEnd_ends ..
  | .accClrCnt .., _ => .done _
  | .flushPeriod, _ => .ite (.done _) (.done _)
  | .alarmFlush, _ => .ite (.done _) (.done _)
  | .recFlush .., _ => .done _
  | .flushDone, _ => execFlushDone_ends ..
  | .recorderClear .., _ => .ite (.done _) (.done _)
  | .recClrNonce .., _ => .done _
  | .recorderExport .., _ => .ite (.done _) (.done _)
  | .recRdW0, _ => .done _
  | .dpyReq .., _ => .done _
  | .phaseFrame .., _ => .ite (.done _) (.ite (.done _) (.done _))
  | .dpyRedraw .., _ => .done _
  | .dpyClrCnt .., _ => .done _
  | .leverUnlatch .., _ => execLeverUnlatch_ends ..
  | .uncontrolledRemoval .., _ => .ite (.done _) (.done _)
  | .feedChange .., _ => .ite (.done _) (.done _)
  | .powerFailWarning .., _ => .ite (.done _) (.done _)
  | .holdUpEnd .., _ => .ite (.done _) (.done _)
  | .tempSample .., _ => .done _
  | .critCooldownEnd .., _ => .ite (.done _) (.done _)
  | .thermalTrip .., _ => .ite (.done _) (.done _)
  | .voltageSample .., _ => .done _
  | .processMonitor .., _ => .done _
  | .trendDay .., _ => .done _
  | .i2cRead .., _ => execI2cRead_ends ..
  | .devClrCnt .., _ => .done _
  | .monClrPeak .., _ => .done _
  | .frmSecLo, _ => .done _
  | .frmFnumLo, _ => .done _
  | .sigDirLo, _ => .done _
  | .sigVal, _ => .done _
  | .fbxRetGenLo, _ => .done _
  | .sviChVal, _ => .done _
  | .peOutVal .., _ => .ite (.done _) (.done _)
  | .pairRoleSinceLo, _ => .done _
  | .pairHmLo, _ => .done _
  | .chnNodeSerlo, _ => .done _
  | .chnStrSerlo, _ => .done _
  | .timNowSlo, _ => .done _
  | .timMonoLo, _ => .done _
  | .timPtpGmLo, _ => .done _
  | .updCfgGenLo, _ => .done _
  | .updDieLo, _ => .done _
  | .accViolAddrLo, _ => .done _
  | .devSerLo, _ => .done _
  | .devUptimeLo, _ => .done _
  | .safeStateRestart .., _ => .ite (.done _) (.done _)
  | .retainedWriteDone .., _ => execRetainedWriteDone_ends ..
  | .slotmemWriteDone .., _ => execSlotmemWriteDone_ends ..
  | .strapsChanged .., _ => .ite (.done _) (.done _)
  | .ethLinkChange .., _ => .ite (.done _) (.done _)
  | .irigFrameMissing .., _ => .done _
  | .pdelayResp .., _ => .ite (.done _) (.done _)
  | .chainRequestHeard .., _ => .ite (.done _) (.done _)
  | .canBusError .., _ => .ite (.done _) (.done _)
  | .canArbitrationStart .., _ => .ite (.done _) (.done _)
  | .leverLatch .., _ => .done _

/-! ### What each command keeps -/

/-- The mask of a list of parts has the bit of every block of registers in the list. -/
theorem regs_masked {l : List Part} {b : Nat} (h : Part.regs b ∈ l) : (maskParts l).testBit (32 + b) = true :=
  (testBit_maskParts_iff l _).2 ⟨_, h, rfl⟩

/-- A register write changes what an access may change, the presence code, and the block of its register. -/
theorem execRegisterWrite_keeps_row (reg len : Nat) (c : Cmd) (s : State) :
    KeepsOut (maskParts (touched (.registerWrite reg len c))) s (execRegisterWrite reg len c s) := by
  have row : touched (.registerWrite reg len c) = accessParts ++ [.saf] ++ [.regs (blockOf reg)] := rfl
  have fixed : maskParts (accessParts ++ [.saf]) = 0x600001000580A := rfl
  rw [row]
  exact execRegisterWrite_keeps reg len c s (fixed ▸ maskParts_sub fun _ => List.mem_append_left _) (regs_masked (by simp))

/-- Every command changes no part but those of its row, and keeps the invariant. -/
theorem exec_keeps : ∀ (c : Instr) (s : State), KeepsOut (maskParts (touched c)) s (exec c s)
  | .registerWrite .., _ => execRegisterWrite_keeps_row ..
  | .frameFreeze .., _ => execFrameFreeze_keeps ..
  | .frameCompute .., _ => execFrameCompute_keeps ..
  | .acSlotStart .., _ => execAcSlotStart_keeps ..
  | .classEnd .., _ => execClassEnd_keeps ..
  | .budgetExhausted .., _ => execBudgetExhausted_keeps ..
  | .frameSeal .., _ => execFrameSeal_keeps ..
  | .frameCommit .., _ => execFrameCommit_keeps ..
  | .backgroundSelfTest .., _ => execBackgroundSelfTest_keeps ..
  | .fullSelfTest .., _ => execFullSelfTest_keeps ..
  | .slewDone, _ => execSlewDone_keeps ..
  | .partResume .., _ => execPartResume_keeps ..
  | .promptMinpulseEnd .., _ => execPromptMinpulseEnd_keeps ..
  | .leLd .., _ => execLeLd_keeps ..
  | .leLdn .., _ => execLeLdn_keeps ..
  | .leLdl .., _ => execLeLdl_keeps ..
  | .leAnd .., _ => execLeAnd_keeps ..
  | .leAndn .., _ => execLeAndn_keeps ..
  | .leOr .., _ => execLeOr_keeps ..
  | .leOrn .., _ => execLeOrn_keeps ..
  | .leXor .., _ => execLeXor_keeps ..
  | .leXorn .., _ => execLeXorn_keeps ..
  | .leBop .., _ => execLeBop_keeps ..
  | .leBcl .., _ => execLeBcl_keeps ..
  | .leSt .., _ => execLeSt_keeps ..
  | .leStn .., _ => execLeStn_keeps ..
  | .leSet .., _ => execLeSet_keeps ..
  | .leRst .., _ => execLeRst_keeps ..
  | .leRedg .., _ => execLeRedg_keeps ..
  | .leFedg .., _ => execLeFedg_keeps ..
  | .leTon .., _ => execLeTon_keeps ..
  | .leTof .., _ => execLeTof_keeps ..
  | .leTp .., _ => execLeTp_keeps ..
  | .leCtu .., _ => execLeCtu_keeps ..
  | .leCtd .., _ => execLeCtd_keeps ..
  | .leCtl .., _ => execLeCtl_keeps ..
  | .leTstd .., _ => execLeTstd_keeps ..
  | .leStro .., _ => execLeStro_keeps ..
  | .leFrcd .., _ => execLeFrcd_keeps ..
  | .leSkip .., _ => execLeSkip_keeps ..
  | .leEnd .., _ => execLeEnd_keeps ..
  | .leIllegal .., _ => execLeIllegal_keeps ..
  | .modeRequest .., _ => execModeRequest_keeps ..
  | .leClrCnt .., _ => execLeClrCnt_keeps ..
  | .debugOpen .., _ => execDebugOpen_keeps ..
  | .debugHalt .., _ => execDebugHalt_keeps ..
  | .debugStep .., _ => execDebugStep_keeps ..
  | .debugResume .., _ => execDebugResume_keeps ..
  | .debugWrite .., _ => execDebugWrite_keeps ..
  | .frameNow .., _ => execFrameNow_keeps ..
  | .taiFreeze .., _ => execTaiFreeze_keeps ..
  | .monoNow .., _ => execMonoNow_keeps ..
  | .sqRead .., _ => execSqRead_keeps ..
  | .tgRead .., _ => execTgRead_keeps ..
  | .tgReadStallEnd .., _ => execTgReadStallEnd_keeps ..
  | .tgDrop .., _ => execTgDrop_keeps ..
  | .recEvent .., _ => execRecEvent_keeps ..
  | .hartReq .., _ => execHartReq_keeps ..
  | .acStore .., _ => execAcStore_keeps ..
  | .rollbackEnd .., _ => execRollbackEnd_keeps ..
  | .servicePreempt .., _ => execServicePreempt_keeps ..
  | .fbxClrCnt .., _ => execFbxClrCnt_keeps ..
  | .warmRestart .., _ => execWarmRestart_keeps ..
  | .coldRestart .., _ => execColdRestart_keeps ..
  | .svMessage .., _ => execSvMessage_keeps ..
  | .sampleTick .., _ => execSampleTick_keeps ..
  | .streamLossTimeout .., _ => execStreamLossTimeout_keeps ..
  | .streamErrorTimeout .., _ => execStreamErrorTimeout_keeps ..
  | .sviClrCnt .., _ => execSviClrCnt_keeps ..
  | .pePassOverrun .., _ => execPePassOverrun_keeps ..
  | .pePostDeadline .., _ => execPePostDeadline_keeps ..
  | .peClrCnt .., _ => execPeClrCnt_keeps ..
  | .olcLoad .., _ => execOlcLoad_keeps ..
  | .olcVerify .., _ => execOlcVerify_keeps ..
  | .olcArm .., _ => execOlcArm_keeps ..
  | .olcDisarm .., _ => execOlcDisarm_keeps ..
  | .olcAbort .., _ => execOlcAbort_keeps ..
  | .olcRevert .., _ => execOlcRevert_keeps ..
  | .olcAccept .., _ => execOlcAccept_keeps ..
  | .olcCommit .., _ => execOlcCommit_keeps ..
  | .revertEffect .., _ => execRevertEffect_keeps ..
  | .olcWindowExpiry .., _ => execOlcWindowExpiry_keeps ..
  | .persistStepEnd .., _ => execPersistStepEnd_keeps ..
  | .forceSet .., _ => execForceSet_keeps ..
  | .forceRelease .., _ => execForceRelease_keeps ..
  | .forceReleaseAll .., _ => execForceReleaseAll_keeps ..
  | .forceEffect .., _ => execForceEffect_keeps ..
  | .forceExpiry .., _ => execForceExpiry_keeps ..
  | .grantLineChange .., _ => execGrantLineChange_keeps ..
  | .killLineChange .., _ => execKillLineChange_keeps ..
  | .killQualified .., _ => execKillQualified_keeps ..
  | .claspFail .., _ => execClaspFail_keeps ..
  | .claspFailClear .., _ => execClaspFailClear_keeps ..
  | .takeover .., _ => execTakeover_keeps ..
  | .warmTakeover .., _ => execWarmTakeover_keeps ..
  | .pairSwitch .., _ => execPairSwitch_keeps ..
  | .switchoverEval .., _ => execSwitchoverEval_keeps ..
  | .pairRejoin .., _ => execPairRejoin_keeps ..
  | .pairClrCnt .., _ => execPairClrCnt_keeps ..
  | .joinDecision .., _ => execJoinDecision_keeps ..
  | .joinWaitExpiry .., _ => execJoinWaitExpiry_keeps ..
  | .learnTimeout .., _ => execLearnTimeout_keeps ..
  | .joinRetry .., _ => execJoinRetry_keeps ..
  | .reLearn .., _ => execReLearn_keeps ..
  | .detachWaitEnd .., _ => execDetachWaitEnd_keeps ..
  | .linkUpCount .., _ => execLinkUpCount_keeps ..
  | .tokelLinkLost .., _ => execTokelLinkLost_keeps ..
  | .partnerPresence .., _ => execPartnerPresence_keeps ..
  | .linkFmark .., _ => execLinkFmark_keeps ..
  | .linkDigest .., _ => execLinkDigest_keeps ..
  | .linkBlkreq .., _ => execLinkBlkreq_keeps ..
  | .linkRepair .., _ => execLinkRepair_keeps ..
  | .linkHallmark .., _ => execLinkHallmark_keeps ..
  | .linkCtrl .., _ => execLinkCtrl_keeps ..
  | .linkSnap .., _ => execLinkSnap_keeps ..
  | .linkBulk .., _ => execLinkBulk_keeps ..
  | .linkDelta .., _ => execLinkDelta_keeps ..
  | .linkDfinal .., _ => execLinkDfinal_keeps ..
  | .linkFwpkg .., _ => execLinkFwpkg_keeps ..
  | .learnPhaseEnd .., _ => execLearnPhaseEnd_keeps ..
  | .gridDeviation .., _ => execGridDeviation_keeps ..
  | .doRelease .., _ => execDoRelease_keeps ..
  | .crossFadeStep .., _ => execCrossFadeStep_keeps ..
  | .aoTakeoverDrive .., _ => execAoTakeoverDrive_keeps ..
  | .burdenSwitch .., _ => execBurdenSwitch_keeps ..
  | .updRoll .., _ => execUpdRoll_keeps ..
  | .updateStep .., _ => execUpdateStep_keeps ..
  | .moduleSafeState .., _ => execModuleSafeState_keeps ..
  | .safWdResp .., _ => execSafWdResp_keeps ..
  | .safWdExpiry .., _ => execSafWdExpiry_keeps ..
  | .killPathTest .., _ => execKillPathTest_keeps ..
  | .discrepancyTimeout .., _ => execDiscrepancyTimeout_keeps ..
  | .singleCopyLoss .., _ => execSingleCopyLoss_keeps ..
  | .stcWatchdogExpiry .., _ => execStcWatchdogExpiry_keeps ..
  | .stcAck .., _ => execStcAck_keeps ..
  | .safClrCnt .., _ => execSafClrCnt_keeps ..
  | .smmRequest .., _ => execSmmRequest_keeps ..
  | .smmEnter .., _ => execSmmEnter_keeps ..
  | .smmExit .., _ => execSmmExit_keeps ..
  | .smmCodeExpiry .., _ => execSmmCodeExpiry_keeps ..
  | .smmStart .., _ => execSmmStart_keeps ..
  | .smmExpiry .., _ => execSmmExpiry_keeps ..
  | .chainData .., _ => execChainData_keeps ..
  | .chainResponse .., _ => execChainResponse_keeps ..
  | .chainMiss .., _ => execChainMiss_keeps ..
  | .chainIdent .., _ => execChainIdent_keeps ..
  | .chainDelay .., _ => execChainDelay_keeps ..
  | .chainConfig .., _ => execChainConfig_keeps ..
  | .chainAssign .., _ => execChainAssign_keeps ..
  | .chainProbe .., _ => execChainProbe_keeps ..
  | .strangerPoll .., _ => execStrangerPoll_keeps ..
  | .epochTimeout .., _ => execEpochTimeout_keeps ..
  | .chainUnblock .., _ => execChainUnblock_keeps ..
  | .chnClrCnt .., _ => execChnClrCnt_keeps ..
  | .nodeHoldExpiry .., _ => execNodeHoldExpiry_keeps ..
  | .diChange .., _ => execDiChange_keeps ..
  | .debounceExpiry .., _ => execDebounceExpiry_keeps ..
  | .doReadback .., _ => execDoReadback_keeps ..
  | .doOverload .., _ => execDoOverload_keeps ..
  | .groupOvercurrent .., _ => execGroupOvercurrent_keeps ..
  | .doRetry .., _ => execDoRetry_keeps ..
  | .groupSupplyLow .., _ => execGroupSupplyLow_keeps ..
  | .outputWatchdogExpiry .., _ => execOutputWatchdogExpiry_keeps ..
  | .adcSample .., _ => execAdcSample_keeps ..
  | .conditionRecord .., _ => execConditionRecord_keeps ..
  | .hartResponse .., _ => execHartResponse_keeps ..
  | .hartTimeout .., _ => execHartTimeout_keeps ..
  | .lioClrCnt .., _ => execLioClrCnt_keeps ..
  | .aioClrCnt .., _ => execAioClrCnt_keeps ..
  | .canFrameReceived .., _ => execCanFrameReceived_keeps ..
  | .canRxTimeout .., _ => execCanRxTimeout_keeps ..
  | .canRxoW0 .., _ => execCanRxoW0_keeps ..
  | .canRxoW19 .., _ => execCanRxoW19_keeps ..
  | .canRxoSel .., _ => execCanRxoSel_keeps ..
  | .canLockTimeout .., _ => execCanLockTimeout_keeps ..
  | .canTxDone .., _ => execCanTxDone_keeps ..
  | .canTxError .., _ => execCanTxError_keeps ..
  | .canTxLifetime .., _ => execCanTxLifetime_keeps ..
  | .canCancel .., _ => execCanCancel_keeps ..
  | .busOffRecovery .., _ => execBusOffRecovery_keeps ..
  | .canRecover .., _ => execCanRecover_keeps ..
  | .canClrCnt .., _ => execCanClrCnt_keeps ..
  | .ttTimeMark .., _ => execTtTimeMark_keeps ..
  | .ptpSync .., _ => execPtpSync_keeps ..
  | .ptpAnnounce .., _ => execPtpAnnounce_keeps ..
  | .announceTimeout .., _ => execAnnounceTimeout_keeps ..
  | .pdelayReq .., _ => execPdelayReq_keeps ..
  | .secondMark .., _ => execSecondMark_keeps ..
  | .prefRevert .., _ => execPrefRevert_keeps ..
  | .holdoverSave .., _ => execHoldoverSave_keeps ..
  | .leapApply .., _ => execLeapApply_keeps ..
  | .irigFrame .., _ => execIrigFrame_keeps ..
  | .ppsFall .., _ => execPpsFall_keeps ..
  | .captureEvent .., _ => execCaptureEvent_keeps ..
  | .timCapSlo, _ => execTimCapSlo_keeps ..
  | .timCapCfg .., _ => execTimCapCfg_keeps ..
  | .timClrCnt .., _ => execTimClrCnt_keeps ..
  | .launchFrame .., _ => execLaunchFrame_keeps ..
  | .ethFrameRx .., _ => execEthFrameRx_keeps ..
  | .supervisionFrame .., _ => execSupervisionFrame_keeps ..
  | .gooseRx .., _ => execGooseRx_keeps ..
  | .gooseTalExpiry .., _ => execGooseTalExpiry_keeps ..
  | .gooseErrorTimeout .., _ => execGooseErrorTimeout_keeps ..
  | .gooseRepeat .., _ => execGooseRepeat_keeps ..
  | .arpRequest .., _ => execArpRequest_keeps ..
  | .icmpEcho .., _ => execIcmpEcho_keeps ..
  | .mmsAssociate .., _ => execMmsAssociate_keeps ..
  | .mmsConclude .., _ => execMmsConclude_keeps ..
  | .mmsAbort .., _ => execMmsAbort_keeps ..
  | .getDirectory .., _ => execGetDirectory_keeps ..
  | .getDataValues .., _ => execGetDataValues_keeps ..
  | .setDataValues .., _ => execSetDataValues_keeps ..
  | .mmsSelect .., _ => execMmsSelect_keeps ..
  | .selectTimeout .., _ => execSelectTimeout_keeps ..
  | .mmsOperate .., _ => execMmsOperate_keeps ..
  | .operateTimeout .., _ => execOperateTimeout_keeps ..
  | .getFile .., _ => execGetFile_keeps ..
  | .fileDirectory .., _ => execFileDirectory_keeps ..
  | .deleteFile .., _ => execDeleteFile_keeps ..
  | .ethClrCnt .., _ => execEthClrCnt_keeps ..
  | .gseClrCnt .., _ => execGseClrCnt_keeps ..
  | .sessionOpen .., _ => execSessionOpen_keeps ..
  | .sessionClose .., _ => execSessionClose_keeps ..
  | .sessionIdleTimeout .., _ => execSessionIdleTimeout_keeps ..
  | .moduleStart .., _ => execModuleStart_keeps ..
  | .holdEnd .., _ => execHoldEnd_keeps ..
  | .strapRetry .., _ => execStrapRetry_keeps ..
  | .guardReady .., _ => execGuardReady_keeps ..
  | .loadComplete .., _ => execLoadComplete_keeps ..
  | .configureComplete .., _ => execConfigureComplete_keeps ..
  | .slotmemRepair .., _ => execSlotmemRepair_keeps ..
  | .updChoose .., _ => execUpdChoose_keeps ..
  | .fwBlock .., _ => execFwBlock_keeps ..
  | .updActivate .., _ => execUpdActivate_keeps ..
  | .updDiscard .., _ => execUpdDiscard_keeps ..
  | .fwConfirm .., _ => execFwConfirm_keeps ..
  | .confirmWindowExpiry .., _ => execConfirmWindowExpiry_keeps ..
  | .tftpWriteRequest .., _ => execTftpWriteRequest_keeps ..
  | .tftpData .., _ => execTftpData_keeps ..
  | .trustToken .., _ => execTrustToken_keeps ..
  | .attestation .., _ => execAttestation_keeps ..
  | .accRegionWrite .., _ => execAccRegionWrite_keeps ..
  | .accBarrier .., _ => execAccBarrier_keeps ..
  | .barrierDrainEnd .., _ => execBarrierDrainEnd_keeps ..
  | .accClrCnt .., _ => execAccClrCnt_keeps ..
  | .flushPeriod, _ => execFlushPeriod_keeps ..
  | .alarmFlush, _ => execAlarmFlush_keeps ..
  | .recFlush .., _ => execRecFlush_keeps ..
  | .flushDone, _ => execFlushDone_keeps ..
  | .recorderClear .., _ => execRecorderClear_keeps ..
  | .recClrNonce .., _ => execRecClrNonce_keeps ..
  | .recorderExport .., _ => execRecorderExport_keeps ..
  | .recRdW0, _ => execRecRdW0_keeps ..
  | .dpyReq .., _ => execDpyReq_keeps ..
  | .phaseFrame .., _ => execPhaseFrame_keeps ..
  | .dpyRedraw .., _ => execDpyRedraw_keeps ..
  | .dpyClrCnt .., _ => execDpyClrCnt_keeps ..
  | .leverUnlatch .., _ => execLeverUnlatch_keeps ..
  | .uncontrolledRemoval .., _ => execUncontrolledRemoval_keeps ..
  | .feedChange .., _ => execFeedChange_keeps ..
  | .powerFailWarning .., _ => execPowerFailWarning_keeps ..
  | .holdUpEnd .., _ => execHoldUpEnd_keeps ..
  | .tempSample .., _ => execTempSample_keeps ..
  | .critCooldownEnd .., _ => execCritCooldownEnd_keeps ..
  | .thermalTrip .., _ => execThermalTrip_keeps ..
  | .voltageSample .., _ => execVoltageSample_keeps ..
  | .processMonitor .., _ => execProcessMonitor_keeps ..
  | .trendDay .., _ => execTrendDay_keeps ..
  | .i2cRead .., _ => execI2cRead_keeps ..
  | .devClrCnt .., _ => execDevClrCnt_keeps ..
  | .monClrPeak .., _ => execMonClrPeak_keeps ..
  | .frmSecLo, _ => execFrmSecLo_keeps ..
  | .frmFnumLo, _ => execFrmFnumLo_keeps ..
  | .sigDirLo, _ => execSigDirLo_keeps ..
  | .sigVal, _ => execSigVal_keeps ..
  | .fbxRetGenLo, _ => execFbxRetGenLo_keeps ..
  | .sviChVal, _ => execSviChVal_keeps ..
  | .peOutVal .., _ => execPeOutVal_keeps ..
  | .pairRoleSinceLo, _ => execPairRoleSinceLo_keeps ..
  | .pairHmLo, _ => execPairHmLo_keeps ..
  | .chnNodeSerlo, _ => execChnNodeSerlo_keeps ..
  | .chnStrSerlo, _ => execChnStrSerlo_keeps ..
  | .timNowSlo, _ => execTimNowSlo_keeps ..
  | .timMonoLo, _ => execTimMonoLo_keeps ..
  | .timPtpGmLo, _ => execTimPtpGmLo_keeps ..
  | .updCfgGenLo, _ => execUpdCfgGenLo_keeps ..
  | .updDieLo, _ => execUpdDieLo_keeps ..
  | .accViolAddrLo, _ => execAccViolAddrLo_keeps ..
  | .devSerLo, _ => execDevSerLo_keeps ..
  | .devUptimeLo, _ => execDevUptimeLo_keeps ..
  | .safeStateRestart .., _ => execSafeStateRestart_keeps ..
  | .retainedWriteDone .., _ => execRetainedWriteDone_keeps ..
  | .slotmemWriteDone .., _ => execSlotmemWriteDone_keeps ..
  | .strapsChanged .., _ => execStrapsChanged_keeps ..
  | .ethLinkChange .., _ => execEthLinkChange_keeps ..
  | .irigFrameMissing .., _ => execIrigFrameMissing_keeps ..
  | .pdelayResp .., _ => execPdelayResp_keeps ..
  | .chainRequestHeard .., _ => execChainRequestHeard_keeps ..
  | .canBusError .., _ => execCanBusError_keeps ..
  | .canArbitrationStart .., _ => execCanArbitrationStart_keeps ..
  | .leverLatch .., _ => execLeverLatch_keeps ..

/-- What Keeps says of a state, for the parts of a list. -/
theorem Keeps.onlyParts {l : List Part} {s t : State} (h : Keeps (maskParts l) s t) : onlyParts l s t :=
  fun p hp => h.same p (testBit_maskParts l p hp)

/-- Settles O3: every command ends in a next state, which `exec_keeps` compares with the state before. -/
theorem frameOfEveryCommand : Obligations.FrameOfEveryCommand := by
  intro c s
  obtain ⟨u, hu⟩ := exec_ends c s
  exact ⟨u, hu, ((exec_keeps c s).next u hu).onlyParts⟩

end Sys2Proof.Machine
end

section
/-! Register writes (R7–R12, R62, R303, R460, R470): O17. -/

namespace Sys2Proof.Machine

open Sys2Proof

/-! ### Reads after the shared updates -/

/-- A mask without bits clears nothing and takes nothing. -/
theorem and_not_none (w v : Word) : w &&& ~~~ (v &&& 0) = w := by
  rw [show v &&& (0 : Word) = 0#32 from BitVec.and_zero, BitVec.not_zero, BitVec.and_allOnes]

theorem take_none (w v : Word) : (w &&& ~~~ 0) ||| (v &&& 0) = w := by
  rw [show v &&& (0 : Word) = 0#32 from BitVec.and_zero, BitVec.or_zero]
  exact BitVec.and_allOnes

@[simp] theorem rd_writeClears (s : State) (a x : Nat) (m : Word) (c : Cmd) :
    rd (writeClears s a m c) x = if x = a then rd s a &&& ~~~ (c.value &&& m) else rd s x := by
  unfold writeClears
  split
  · next hm =>
    subst hm
    rw [and_not_none]
    split <;> simp_all
  · exact rd_wr ..

@[simp] theorem writeClears_rcd (s : State) (a : Nat) (m : Word) (c : Cmd) : (writeClears s a m c).rcd = s.rcd := by
  unfold writeClears
  split <;> rfl

theorem writeSettings_none (s : State) (a : Nat) (c : Cmd) : writeSettings s a 0 c = s := if_pos rfl

theorem writeSettings_some (s : State) (a : Nat) {m : Word} (c : Cmd) (hm : m ≠ 0) :
    writeSettings s a m c = settingWritten (wr s a ((rd s a &&& ~~~ m) ||| (c.value &&& m))) a (rd s a)
      ((rd s a &&& ~~~ m) ||| (c.value &&& m)) c.session := if_neg hm

theorem rd_writeSettings (s : State) (a x : Nat) (m : Word) (c : Cmd) (h : m = 0 ∨ x ≠ Reg.REC_EVT_STAT) :
    rd (writeSettings s a m c) x = if x = a then (rd s a &&& ~~~ m) ||| (c.value &&& m) else rd s x := by
  by_cases hm : m = 0
  · subst hm
    rw [writeSettings_none, take_none]
    split <;> simp_all
  · rw [writeSettings_some s a c hm, rd_settingWritten _ _ _ _ _ _ (h.resolve_left hm), rd_wr]

/-! ### What a record holds -/

/-- With room for info records a record is added to the buffer, whatever its severity (R475). -/
theorem record_buf (s : State) (r : RecReq) (h : s.rcd.buf.length < 12288) :
    (record s r).rcd.buf = s.rcd.buf ++ [recOf s r] := by
  have room : s.rcd.buf.length < 16384 := by omega
  unfold record enterRec
  split
  · rfl
  · rfl

/-- A record holds the parameters that its rule states, up to four. -/
theorem recOf_param (s : State) (r : RecReq) {i v : Nat} (hi : i < 4) (h : r.p[i]? = some (some v)) :
    (recOf s r).p[i]? = some (w32 v) := by
  simp [recOf, upto, hi, recParamAt, h]

theorem recorded_record (s : State) (r : RecReq) (l : List Nat) (hl : l.length ≤ 4) (hp : r.p = l.map some)
    (h : s.rcd.buf.length < 12288) : recorded s (record s r) (r.blk * 256 + r.ev) l := by
  refine ⟨recOf s r, record_buf s r h, rfl, fun i v hv => recOf_param s r ?_ ?_⟩
  · have := (List.getElem?_eq_some_iff.1 hv).1
    omega
  · simp [hp, hv]

/-- A setting is recorded with its old and its new word (R12, R470). -/
theorem recorded_settingWritten (s : State) (reg : Nat) (old new : Word) (n : Nat) (h : s.rcd.buf.length < 12288) :
    recorded s (settingWritten s reg old new n) (blockOf reg * 256 + 0x43) [offsetOf reg, old.toNat, new.toNat, n] :=
  recorded_record s _ [offsetOf reg, old.toNat, new.toNat, n] (Nat.le_refl 4) rfl h

/-- Only the recorder decides what was recorded. -/
theorem recorded.of_rcd {s t u v : State} {code : Nat} {l : List Nat} (h : recorded s u code l) (hs : s.rcd = t.rcd)
    (hu : u.rcd = v.rcd) : recorded t v code l := by
  unfold recorded at *
  rwa [← hs, ← hu]

/-! ### Accesses that pass, and accesses that are refused -/

theorem written_of_passes {s : State} {reg : Nat} {c : Cmd} (h : passes s reg c) (f : State → State) :
    written s reg c f = f (touch s c.session) := by
  have h' : firstRefused (touch s c.session) 4 reg 4 c.master .write = none := h
  simp only [written, guarded, h']

theorem written_of_refused {s : State} {reg a : Nat} {c : Cmd} {e : Bool}
    (h : firstRefused s 4 reg 4 c.master .write = some (e, a)) (f : State → State) :
    written s reg c f = answer (recordRefusal (touch s c.session) 4 a c.master .write e) .error := by
  have h' : firstRefused (touch s c.session) 4 reg 4 c.master .write = some (e, a) := h
  simp only [written, guarded, h']

/-- A refusal writes the two violation registers and notes the address; then the status bit is set, with a record or without
one (R460). -/
theorem recordRefusal_cases (s : State) (port addr m : Nat) (k : AccKind) (e : Bool) : ∃ t : State,
    t.regs = (bump (wr s Reg.ACC_VIOL_LAST (w32 (bit1 e 31 + k.code * 2 ^ 29 + port * 2 ^ 26 + m % 4096)))
      Reg.ACC_VIOL_CNT).regs ∧ t.acc.violAddr = addr ∧
    (recordRefusal s port addr m k e = setBit t Reg.ACC_EVT_STAT 0 ∨
      ∃ r : RecReq, r.blk = 0x12 ∧ r.ev = 0 ∧ recordRefusal s port addr m k e = raise t r) := by
  unfold recordRefusal
  by_cases h : s.acc.recorded.contains m = true
  · refine ⟨_, ?_, ?_, .inl (if_pos h)⟩ <;> rfl
  · refine ⟨_, ?_, ?_, .inr ⟨_, ?_, ?_, if_neg h⟩⟩ <;> rfl

/-- What a register reads after a refusal (R460). -/
theorem rd_recordRefusal (s : State) (port addr m : Nat) (k : AccKind) (e : Bool) (x : Nat) (hx : x ≠ Reg.REC_EVT_STAT) :
    rd (recordRefusal s port addr m k e) x =
      if x = Reg.ACC_EVT_STAT then rd s x ||| 1#32
      else if x = Reg.ACC_VIOL_CNT then w32 (satAdd 0xFFFFFFFF (rd s x).toNat 1)
      else if x = Reg.ACC_VIOL_LAST then w32 (bit1 e 31 + k.code * 2 ^ 29 + port * 2 ^ 26 + m % 4096)
      else rd s x := by
  obtain ⟨t, regs, -, marked⟩ := recordRefusal_cases s port addr m k e
  have noted : rd t x = if x = Reg.ACC_VIOL_CNT then w32 (satAdd 0xFFFFFFFF (rd s x).toNat 1)
      else if x = Reg.ACC_VIOL_LAST then w32 (bit1 e 31 + k.code * 2 ^ 29 + port * 2 ^ 26 + m % 4096) else rd s x := by
    have : rd t x = rd (bump _ _) x := congrArg (Tbl.read regReset · x) regs
    rw [this, bump, addReg, rd_wr, rd_wr_other _ Reg.ACC_VIOL_LAST Reg.ACC_VIOL_CNT _ (by decide), rd_wr]
    split
    · subst x; rfl
    · rfl
  by_cases he : x = Reg.ACC_EVT_STAT
  · subst x
    have was : rd t Reg.ACC_EVT_STAT = rd s Reg.ACC_EVT_STAT := noted
    rw [if_pos rfl, ← was]
    rcases marked with h | ⟨r, blk, ev, h⟩
    · rw [h]
      exact rd_wr_same t Reg.ACC_EVT_STAT _
    · have stat : evtStat r.blk 0 = Reg.ACC_EVT_STAT := by rw [blk]; rfl
      have bit : BitVec.ofNat 32 (2 ^ r.ev) = 1#32 := congrArg (fun k => BitVec.ofNat 32 (2 ^ k)) ev
      rw [h, ← bit, ← stat]
      exact rd_raise_evt t r 0 (stat ▸ hx)
  · rw [if_neg he, ← noted]
    rcases marked with h | ⟨r, blk, ev, h⟩
    · rw [h, setBit, rd_wr_other _ _ _ _ he]
    · have stat : evtStat r.blk 0 = Reg.ACC_EVT_STAT := by rw [blk]; rfl
      rw [h, rd_raise t r 0 x hx (stat ▸ he)]

theorem recordRefusal_violAddr (s : State) (port addr m : Nat) (k : AccKind) (e : Bool) :
    (recordRefusal s port addr m k e).acc.violAddr = addr := by
  obtain ⟨t, -, noted, h | ⟨r, -, -, h⟩⟩ := recordRefusal_cases s port addr m k e
  · rw [h]; exact noted
  · rw [h, raise_acc, noted]

/-! ### The register write -/

section RegisterWrite

variable {s : State} {reg : Nat} {c : Cmd}

/-- The write of a present aligned register goes through the access decision. -/
theorem exec_registerWrite_aligned (s : State) (c : Cmd) (h4 : reg % 4 = 0) (hin : inControlSpace reg = true) :
    exec (.registerWrite reg 4 c) s = .next (written s reg c fun t =>
      if 0x17 ≤ blockOf reg then answer t .error
      else match regRow reg with
        | none => t
        | some r => writeRow t reg r c) := by
  refine if_neg ?_
  simp [h4, hin]

theorem exec_registerWrite_malformed {len : Nat} (h : len ≠ 4 ∨ reg % 4 ≠ 0 ∨ inControlSpace reg = false) :
    exec (.registerWrite reg len c) s = .next (answer s .error) := if_pos h

theorem exec_registerWrite_absent (h4 : reg % 4 = 0) (hin : inControlSpace reg = true) (hp : passes s reg c)
    (hb : 0x17 ≤ blockOf reg) : exec (.registerWrite reg 4 c) s = .next (answer (touch s c.session) .error) := by
  rw [exec_registerWrite_aligned s c h4 hin, written_of_passes hp, if_pos hb]

theorem exec_registerWrite_unassigned (h4 : reg % 4 = 0) (hin : inControlSpace reg = true) (hp : passes s reg c)
    (hb : blockOf reg < 0x17) (hr : regRow reg = none) :
    exec (.registerWrite reg 4 c) s = .next (touch s c.session) := by
  rw [exec_registerWrite_aligned s c h4 hin, written_of_passes hp, if_neg (by omega), hr]

/-- Only the blocks of R537 have registers. -/
theorem blockOf_lt_of_regRow {r : RegRow} (h : regRow reg = some r) : blockOf reg < 0x17 := by
  refine Nat.not_le.1 fun hb => ?_
  obtain ⟨k, hk⟩ := Nat.exists_eq_add_of_le' hb
  have noRows : blockRows (blockOf reg) = [] := by rw [hk]; rfl
  simp [regRow, noRows] at h

theorem exec_registerWrite_row {r : RegRow} (h4 : reg % 4 = 0) (hin : inControlSpace reg = true) (hp : passes s reg c)
    (hr : regRow reg = some r) :
    exec (.registerWrite reg 4 c) s = .next (writeRow (touch s c.session) reg r c) := by
  have hb := blockOf_lt_of_regRow hr
  rw [exec_registerWrite_aligned s c h4 hin, written_of_passes hp, if_neg (by omega), hr]

theorem exec_registerWrite_refused {e : Bool} {a : Nat} (h4 : reg % 4 = 0) (hin : inControlSpace reg = true)
    (h : firstRefused s 4 reg 4 c.master .write = some (e, a)) : exec (.registerWrite reg 4 c) s =
      .next (answer (recordRefusal (touch s c.session) 4 a c.master .write e) .error) := by
  rw [exec_registerWrite_aligned s c h4 hin, written_of_refused h]

/-! ### What the write of a row does -/

theorem writeRow_smmCode (s : State) (r : RegRow) (c : Cmd) : writeRow s Reg.SAF_SMM_CODE r c = giveCode s c := if_pos rfl

theorem regRow_smmCode : (regRow Reg.SAF_SMM_CODE).map (·.access) = some .wo := by decide

theorem regRow_recEvtStat : (regRow Reg.REC_EVT_STAT).map (·.rw) = some 0 := by decide

/-- Shadowed registers, registers with a command of their own and ignored selects take nothing. -/
theorem writeRow_ignored (s : State) {r : RegRow} (hr : regRow reg = some r)
    (h : r.access = .rwb ∨ ownCommand reg = true ∨ selectIgnored reg c.value = true) : writeRow s reg r c = s := by
  have hcode : reg ≠ Reg.SAF_SMM_CODE := by
    rintro rfl
    have wo := regRow_smmCode
    rw [hr] at wo
    have access : r.access = .wo := Option.some.inj wo
    have own : ownCommand Reg.SAF_SMM_CODE = false := by decide
    have select : selectIgnored Reg.SAF_SMM_CODE c.value = false := rfl
    simp [access, own, select] at h
  rw [writeRow, if_neg hcode, if_pos h]

theorem writeRow_taken (s : State) {r : RegRow} (ha : r.access ≠ .rwb) (ho : ownCommand reg = false)
    (hs : selectIgnored reg c.value = false) (hcode : reg ≠ Reg.SAF_SMM_CODE) :
    writeRow s reg r c = writeClears (writeSettings s reg r.rw c) reg r.w1c c := by
  rw [writeRow, if_neg hcode, if_neg (by simp [ha, ho, hs])]

/-- A setting that is recorded does not stand in the recorder's own status register. -/
theorem rw_none_or_ne_recEvtStat {r : RegRow} (hr : regRow reg = some r) : r.rw = 0 ∨ reg ≠ Reg.REC_EVT_STAT := by
  by_cases h : reg = Reg.REC_EVT_STAT
  · subst h
    have mask := regRow_recEvtStat
    rw [hr] at mask
    exact .inl (Option.some.inj mask)
  · exact .inr h

/-- Read-write bits take the value, write-1-to-clear bits written as 1 become 0, every other bit stays (R8, R9). -/
theorem rd_rowWritten (s : State) {r : RegRow} (c : Cmd) (hr : regRow reg = some r) :
    rd (writeClears (writeSettings s reg r.rw c) reg r.w1c c) reg =
      ((rd s reg &&& ~~~ r.rw) ||| (c.value &&& r.rw)) &&& ~~~ (c.value &&& r.w1c) := by
  rw [rd_writeClears, if_pos rfl, rd_writeSettings _ _ _ _ _ (rw_none_or_ne_recEvtStat hr), if_pos rfl]

theorem onlyRegs_rowWritten (s : State) (reg : Nat) (m w : Word) (c : Cmd) :
    onlyRegs [reg, Reg.REC_EVT_STAT] s (writeClears (writeSettings s reg m c) reg w c) := by
  intro x hx
  obtain ⟨hreg, hrec⟩ : x ≠ reg ∧ x ≠ Reg.REC_EVT_STAT := by simpa using hx
  rw [rd_writeClears, if_neg hreg, rd_writeSettings _ _ _ _ _ (.inr hrec), if_neg hreg]

/-- Without Level X bits nothing is recorded. -/
theorem rowWritten_unrecorded (s : State) (reg : Nat) (w : Word) (c : Cmd) :
    (writeClears (writeSettings s reg 0 c) reg w c).rcd = s.rcd ∧
    onlyRegs [reg] s (writeClears (writeSettings s reg 0 c) reg w c) := by
  rw [writeSettings_none]
  refine ⟨writeClears_rcd .., fun x hx => ?_⟩
  rw [rd_writeClears, if_neg (by simpa using hx)]

theorem recorded_rowWritten (s : State) (reg : Nat) {m : Word} (w : Word) (c : Cmd) (hm : m ≠ 0)
    (h : s.rcd.buf.length < 12288) :
    recorded s (writeClears (writeSettings s reg m c) reg w c) (blockOf reg * 256 + 0x43)
      [offsetOf reg, (rd s reg).toNat, ((rd s reg &&& ~~~ m) ||| (c.value &&& m)).toNat, c.session] := by
  rw [writeSettings_some s reg c hm]
  exact (recorded_settingWritten (wr s reg _) reg _ _ c.session h).of_rcd rfl (writeClears_rcd ..).symm

/-! ### The presence code -/

/-- Only the session that asked for the presence code gives it back (R298, R303). -/
theorem giveCode_given (s : State) (c : Cmd) : (giveCode s c).saf.smm.given =
    if s.saf.smm.stage = 1 ∧ s.saf.smm.session = c.session then some (field c.value 19 0) else s.saf.smm.given := by
  unfold giveCode
  split <;> rfl

/-! ### Refusals -/

/-- A refused write leaves every register but those that report it (R460). -/
theorem onlyRegs_recordRefusal (s : State) (port addr m : Nat) (k : AccKind) (e : Bool) :
    onlyRegs [Reg.ACC_VIOL_CNT, Reg.ACC_VIOL_LAST, Reg.ACC_EVT_STAT, Reg.REC_EVT_STAT] s
      (recordRefusal s port addr m k e) := by
  intro x hx
  obtain ⟨hcnt, hlast, hevt, hrec⟩ :
      x ≠ Reg.ACC_VIOL_CNT ∧ x ≠ Reg.ACC_VIOL_LAST ∧ x ≠ Reg.ACC_EVT_STAT ∧ x ≠ Reg.REC_EVT_STAT := by simpa using hx
  rw [rd_recordRefusal _ _ _ _ _ _ _ hrec, if_neg hevt, if_neg hcnt, if_neg hlast]

theorem onlyParts_refused (s : State) (n addr m : Nat) (e : Bool) :
    onlyParts [.resp, .acc, .sess, .freeN, .rcd, .rACC, .rREC] s
      (answer (recordRefusal (touch s n) 4 addr m .write e) .error) :=
  Keeps.onlyParts (Keeps.step (answer_keeps ..) rfl (Keeps.step (recordRefusal_keeps ..) rfl
    (Keeps.step (touch_keeps ..) rfl (Keeps.refl ..))))

end RegisterWrite

/-- Settles O17: a write ends in one of five ways (malformed, absent, unassigned, a row, refused), and each leaves what the
lemmas about it say. -/
theorem registerWrites : Obligations.RegisterWrites := by
  intro s reg len c r e a
  refine ⟨fun h => ⟨_, exec_registerWrite_malformed h, rfl⟩, fun h4 hin => ⟨?absent, ?unassigned, ?ignored, ?row, ?refused⟩,
    ?code⟩
  case absent =>
    intro hp hb
    refine ⟨_, exec_registerWrite_absent h4 hin hp hb, rfl, fun _ _ => rfl, Keeps.onlyParts ?_⟩
    exact Keeps.step (answer_keeps ..) rfl (Keeps.step (touch_keeps ..) rfl (Keeps.refl ..))
  case unassigned =>
    intro hp hb hr
    exact ⟨_, exec_registerWrite_unassigned h4 hin hp hb hr, fun _ _ => rfl, Keeps.onlyParts (touch_keeps ..)⟩
  case ignored =>
    intro hp hr h
    refine ⟨_, exec_registerWrite_row h4 hin hp hr, ?_⟩
    rw [writeRow_ignored _ hr h]
    exact ⟨fun _ _ => rfl, Keeps.onlyParts (touch_keeps ..)⟩
  case row =>
    intro hp hr ha ho hs hcode
    refine ⟨_, exec_registerWrite_row h4 hin hp hr, ?_⟩
    rw [writeRow_taken _ ha ho hs hcode]
    refine ⟨rd_rowWritten _ c hr, onlyRegs_rowWritten (touch s c.session) _ _ _ _, fun hm => ?_, fun hm room => ?_⟩
    · rw [hm]
      exact rowWritten_unrecorded (touch s c.session) ..
    · exact recorded_rowWritten (touch s c.session) reg _ c hm room
  case refused =>
    intro h
    refine ⟨_, exec_registerWrite_refused h4 hin h, rfl, recordRefusal_violAddr .., ?_, ?_, ?_,
      onlyRegs_recordRefusal (touch s c.session) _ _ _ _ _, onlyParts_refused _ _ _ _ _⟩
    · exact rd_recordRefusal _ _ _ _ _ _ Reg.ACC_VIOL_CNT (by decide)
    · exact rd_recordRefusal _ _ _ _ _ _ Reg.ACC_VIOL_LAST (by decide)
    · have evt := rd_recordRefusal (touch s c.session) 4 a c.master .write e Reg.ACC_EVT_STAT (by decide)
      rw [if_pos rfl] at evt
      simp [flag, evt]
  case code =>
    intro hp
    obtain ⟨row, hrow, -⟩ := Option.map_eq_some_iff.1 regRow_smmCode
    refine ⟨_, exec_registerWrite_row (by decide) (by decide) hp hrow, ?_⟩
    rw [writeRow_smmCode]
    refine ⟨giveCode_given .., fun x _ => ?_, Keeps.onlyParts ?_⟩
    · unfold giveCode
      split <;> rfl
    · exact Keeps.step (giveCode_keeps ..) rfl (Keeps.step (touch_keeps ..) rfl (Keeps.refl ..))

end Sys2Proof.Machine
end

section
/-! Reads of the locking registers and windows (R9, R376, R397, R478, R532): O18. -/

namespace Sys2Proof.Machine

open Sys2Proof

/-! ### Latched registers -/

theorem onlyRegs_wr {l : List Nat} {s t : State} {a : Nat} {v : Word} (h : onlyRegs l s t) (ha : a ∈ l) :
    onlyRegs l s (wr t a v) := fun x hx => by
  rw [rd_wr_other _ _ _ _ fun (e : x = a) => hx (e ▸ ha), h x hx]

theorem onlyRegs_answer {l : List Nat} {s t : State} {r : Resp} (h : onlyRegs l s t) : onlyRegs l s (answer t r) := h

theorem onlyRegs_readPair {l : List Nat} {s t : State} {lo hi g : Nat} (h : onlyRegs l s t) (hlo : lo ∈ l) (hhi : hi ∈ l) :
    onlyRegs l s (readPair t lo hi g) := onlyRegs_wr (onlyRegs_wr h hlo) hhi

theorem rd_readPair (s : State) (lo hi g a : Nat) :
    rd (readPair s lo hi g) a = if a = hi then w32 (g / 2 ^ 32) else if a = lo then w32 g else rd s a := by
  rw [readPair, rd_answer, rd_wr, rd_wr]

theorem rd_readPair_other (s : State) (g : Nat) (lo hi : Nat) {a : Nat} (hlo : a ≠ lo) (hhi : a ≠ hi) :
    rd (readPair s lo hi g) a = rd s a := by
  rw [rd_readPair, if_neg hhi, if_neg hlo]

theorem rd_readWith (s : State) (a aux : Nat) (v w : Word) (x : Nat) :
    rd (readWith s a aux v w) x = if x = aux then w else if x = a then v else rd s x := by
  rw [readWith, rd_answer, rd_wr, rd_wr]

/-- A read of a register pair answers the low half and latches both halves (R9). -/
theorem locks_of_readPair {i : Instr} {s : State} {lo hi g : Nat} (he : exec i s = .next (readPair s lo hi g))
    (hne : lo ≠ hi) : locks i s lo hi g := by
  refine ⟨_, he, rfl, ?_, ?_, onlyRegs_readPair (fun _ _ => rfl) (by simp) (by simp)⟩
  · rw [rd_readPair, if_neg hne, if_pos rfl]
  · rw [rd_readPair, if_pos rfl]

/-- A read that latches a companion answers its own word (R9). -/
theorem locksWord_of_readWith {i : Instr} {s : State} {a aux : Nat} {v w : Word}
    (he : exec i s = .next (readWith s a aux v w)) (hne : a ≠ aux) : locksWord i s a aux v w := by
  refine ⟨_, he, rfl, ?_, ?_, onlyRegs_wr (onlyRegs_wr (fun _ _ => rfl) (by simp)) (by simp)⟩
  · rw [rd_readWith, if_neg hne, if_pos rfl]
  · rw [rd_readWith, if_pos rfl]

/-! ### Registers written one after the other -/

/-- Writes of registers change nothing but the register file. -/
theorem foldl_wr_regs (f : Nat → Nat) (g : Nat → Word) (l : List Nat) (s : State) :
    ∃ r, l.foldl (fun u i => wr u (f i) (g i)) s = { s with regs := r } := by
  induction l generalizing s with
  | nil => exact ⟨s.regs, rfl⟩
  | cons _ l ih => exact ih _

theorem foldl_wr_canCtl (f : Nat → Nat) (g : Nat → Word) (l : List Nat) (s : State) (d : Nat) :
    canCtl (l.foldl (fun u i => wr u (f i) (g i)) s) d = canCtl s d := by
  obtain ⟨r, h⟩ := foldl_wr_regs f g l s
  rw [h]
  rfl

theorem foldl_wr_rcd (f : Nat → Nat) (g : Nat → Word) (l : List Nat) (s : State) :
    (l.foldl (fun u i => wr u (f i) (g i)) s).rcd = s.rcd := by
  obtain ⟨r, h⟩ := foldl_wr_regs f g l s
  rw [h]

theorem rd_foldl_wr_other (f : Nat → Nat) (g : Nat → Word) (l : List Nat) (s : State) (a : Nat) (h : ∀ i ∈ l, a ≠ f i) :
    rd (l.foldl (fun u i => wr u (f i) (g i)) s) a = rd s a := by
  induction l generalizing s with
  | nil => rfl
  | cons i l ih =>
    obtain ⟨hi, hl⟩ := List.forall_mem_cons.1 h
    rw [List.foldl_cons, ih _ hl, rd_wr_other _ _ _ _ hi]

theorem onlyRegs_foldl_wr (f : Nat → Nat) (g : Nat → Word) (l : List Nat) (s : State) :
    onlyRegs (l.map f) s (l.foldl (fun u i => wr u (f i) (g i)) s) := fun a ha =>
  rd_foldl_wr_other f g l s a fun _ hi e => ha (e ▸ List.mem_map_of_mem hi)

/-- Writes of registers with different addresses are all read back. -/
theorem rd_foldl_wr_mem (f : Nat → Nat) (g : Nat → Word) (l : List Nat) (s : State) {i : Nat} (hi : i ∈ l)
    (hf : ∀ j ∈ l, f i = f j → i = j) : rd (l.foldl (fun u i => wr u (f i) (g i)) s) (f i) = g i := by
  induction l generalizing s with
  | nil => cases hi
  | cons j l ih =>
    obtain ⟨_, hl⟩ := List.forall_mem_cons.1 hf
    by_cases hil : i ∈ l
    · exact ih _ hil hl
    · obtain rfl : i = j := (List.mem_cons.1 hi).resolve_right hil
      rw [List.foldl_cons, rd_foldl_wr_other f g l _ _ fun k hk e => hil (hl k hk e ▸ hk), rd_wr_same]

/-! ### Parts of registers -/

/-- The low half of a word whose high half is k. -/
theorem field_low_half (k n : Nat) (hn : n < 2 ^ 16) : field (w32 (k * 2 ^ 16 + n)) 15 0 = n := by
  simp only [field, bitsOf, w32, BitVec.toNat_ofNat]
  omega

theorem field_lt {n : Nat} (w : BitVec n) (hi lo : Nat) : field w hi lo < 2 ^ (hi + 1 - lo) :=
  Nat.mod_lt _ (Nat.two_pow_pos _)

/-! ### Receive objects -/

@[simp] theorem canCtl_answer (s : State) (r : Resp) (d : Nat) : canCtl (answer s r) d = canCtl s d := rfl

@[simp] theorem canCtl_modCan_same (s : State) (c : Nat) (f : CanCtl → CanCtl) : canCtl (modCan s c f) c = f (canCtl s c) :=
  tget_tset_same ..

theorem canCtl_modCan_other (s : State) (f : CanCtl → CanCtl) {c d : Nat} (h : d ≠ c) :
    canCtl (modCan s c f) d = canCtl s d := tget_tset_other _ _ _ _ _ h

/-- An object when the read of its last word gives it back: a full shadow moves in (R362, R376). -/
def RxObj.released (x : RxObj) : RxObj :=
  match x.shadow with
  | some f => { x with cur := some f, isNew := true, lost := x.shadowLost, shadow := none, shadowLost := false }
  | none => { x with isNew := false, lost := false }

theorem endLock_unlocked {s : State} {c : Nat} (b : Bool) (h : (canCtl s c).lock = none) : endLock s c b = s := by
  unfold endLock
  rw [h]

theorem rxObj_unlock (s : State) (c m : Nat) : rxObj (modCan s c fun q => { q with lock := none }) c m = rxObj s c m := by
  simp [rxObj]

theorem endLock_release {s : State} {c n at0 : Nat} (h : (canCtl s c).lock = some (n, at0)) :
    endLock s c true = setObj (modCan s c fun q => { q with lock := none }) c n (rxObj s c n).released := by
  unfold endLock RxObj.released
  rw [h]
  simp only [rxObj_unlock, if_true] <;> rfl

theorem rxObj_setObj_same (s : State) (c n : Nat) (x : RxObj) : rxObj (setObj s c n x) c n = x := by
  simp [rxObj, setObj]

theorem rxObj_setObj_other (s : State) (c : Nat) (x : RxObj) {n m : Nat} (h : m ≠ n) :
    rxObj (setObj s c n x) c m = rxObj s c m := by
  simp [rxObj, setObj, tget_tset_other _ _ _ _ _ h]

theorem lock_endLock (s : State) (c : Nat) : (canCtl (endLock s c true) c).lock = none := by
  cases h : (canCtl s c).lock with
  | none => rw [endLock_unlocked true h, h]
  | some x => rw [endLock_release h]; simp [setObj]

theorem canCtl_endLock_other (s : State) {c d : Nat} (h : d ≠ c) : canCtl (endLock s c true) d = canCtl s d := by
  cases hl : (canCtl s c).lock with
  | none => rw [endLock_unlocked true hl]
  | some x => rw [endLock_release hl, setObj, canCtl_modCan_other _ _ h, canCtl_modCan_other _ _ h]

theorem rd_endLock (s : State) (c a : Nat) : rd (endLock s c true) a = rd s a := by
  cases h : (canCtl s c).lock with
  | none => rw [endLock_unlocked true h]
  | some x => rw [endLock_release h]; rfl

/-- The window of an object has 20 words. -/
theorem length_windowWords (x : RxObj) : (windowWords x).length = 20 := by
  unfold windowWords
  split <;> simp [upto]

/-- The state when a window is locked at its selected object: the lock, and the 20 words in the window's registers. -/
def lockedWindow (s : State) (c t : Nat) : State :=
  (upto 20).foldl (fun u i => wr u (Reg.CAN_RXO_W0 c + 4 * i) ((windowWords (rxObj s c (selObj s c))).getD i 0))
    (modCan (atTime s t) c fun q => { q with lock := some (selObj s c, t) })

theorem exec_canRxoW0 (s : State) (c t : Nat) : exec (.canRxoW0 c t) s =
    .next (answer (lockedWindow s c t) (.value ((windowWords (rxObj s c (selObj s c))).getD 0 0).toNat)) := rfl

theorem canCtl_lockedWindow (s : State) (c t : Nat) :
    canCtl (lockedWindow s c t) c = { canCtl s c with lock := some (selObj s c, t) } := by
  rw [lockedWindow, foldl_wr_canCtl, canCtl_modCan_same]
  rfl

theorem canCtl_lockedWindow_other (s : State) (t : Nat) {c d : Nat} (h : d ≠ c) :
    canCtl (lockedWindow s c t) d = canCtl s d := by
  rw [lockedWindow, foldl_wr_canCtl, canCtl_modCan_other _ _ h]
  rfl

theorem rd_lockedWindow (s : State) (c t : Nat) {i : Nat} (hi : i < 20) :
    rd (lockedWindow s c t) (Reg.CAN_RXO_W0 c + 4 * i) = (windowWords (rxObj s c (selObj s c))).getD i 0 :=
  rd_foldl_wr_mem (fun i => Reg.CAN_RXO_W0 c + 4 * i) _ _ _ (List.mem_range.2 hi) fun j _ h => by
    have : Reg.CAN_RXO_W0 c + 4 * i = Reg.CAN_RXO_W0 c + 4 * j := h
    omega

theorem onlyRegs_lockedWindow (s : State) (c t : Nat) :
    onlyRegs ((upto 20).map fun i => Reg.CAN_RXO_W0 c + 4 * i) s (lockedWindow s c t) :=
  onlyRegs_foldl_wr (fun i => Reg.CAN_RXO_W0 c + 4 * i) _ _ (modCan (atTime s t) c _)

/-! ### The recorder's window -/

/-- Word i of the record whose SEQ is selected; 0 where none is held (R478). -/
def selectedWord (s : State) (i : Nat) : Word :=
  match findRec s.rcd (rd s Reg.REC_RD_SEQ) with
  | some x => recWord x i
  | none => 0

/-- The state when the recorder's window has latched the selected record. -/
def latchedRecord (s : State) : State :=
  (upto 7).foldl (fun t i => wr t (Reg.REC_RD_Wn i) (selectedWord s (i + 1)))
    (wr { s with rcd := { s.rcd with rdMiss := (findRec s.rcd (rd s Reg.REC_RD_SEQ)).isNone } } Reg.REC_RD_W0 (selectedWord s 0))

theorem exec_recRdW0 (s : State) :
    exec .recRdW0 s = .next (answer (latchedRecord s) (.value (selectedWord s 0).toNat)) := rfl

theorem rcd_latchedRecord (s : State) :
    (latchedRecord s).rcd = { s.rcd with rdMiss := (findRec s.rcd (rd s Reg.REC_RD_SEQ)).isNone } :=
  foldl_wr_rcd ..

theorem rd_latchedRecord (s : State) {i : Nat} (hi : i < 7) :
    rd (latchedRecord s) (Reg.REC_RD_Wn i) = selectedWord s (i + 1) :=
  rd_foldl_wr_mem Reg.REC_RD_Wn _ _ _ (List.mem_range.2 hi) fun j hj h => by
    have := List.mem_range.1 hj
    simp only [Reg.REC_RD_Wn] at h
    omega

theorem rd_latchedRecord_first (s : State) : rd (latchedRecord s) Reg.REC_RD_W0 = selectedWord s 0 := by
  rw [latchedRecord, rd_foldl_wr_other Reg.REC_RD_Wn, rd_wr_same]
  intro i _
  simp only [Reg.REC_RD_W0, Reg.REC_RD_Wn]
  omega

theorem onlyRegs_latchedRecord (s : State) : onlyRegs (Reg.REC_RD_W0 :: (upto 7).map Reg.REC_RD_Wn) s (latchedRecord s) := by
  intro a ha
  obtain ⟨h0, hn⟩ := not_or.1 (mt List.mem_cons.2 ha)
  exact (onlyRegs_foldl_wr Reg.REC_RD_Wn _ _ _ a hn).trans (rd_wr_other _ Reg.REC_RD_W0 a _ h0)

/-! ### Pointer reads of the management bus -/

theorem exec_i2cRead {ptr a : Nat} {s : State} (h7 : ptr ≠ 0x07) (h11 : ptr ≠ 0x11) (ha : i2cReg ptr = some a) :
    exec (.i2cRead ptr) s = .next (answer s (.value (readReg s a).toNat)) := by
  show execI2cRead ptr s = _
  rw [execI2cRead, if_neg h7, if_neg h11, ha]
  rfl

theorem exec_i2cRead_unnamed {ptr : Nat} {s : State} (h7 : ptr ≠ 0x07) (h11 : ptr ≠ 0x11) (hn : i2cReg ptr = none) :
    exec (.i2cRead ptr) s = .next (answer s (.value 0xFFFFFFFF)) := by
  show execI2cRead ptr s = _
  rw [execI2cRead, if_neg h7, if_neg h11, hn]
  rfl

/-! ### The capture FIFO -/

theorem exec_timCapSlo_empty {s : State} (h : (tget {} s.tim.caps (capSel s)).fifo = []) : exec .timCapSlo s =
    .next (answer (wr (wr (drawDWord s).2 Reg.TIM_CAP_SHI (w32 (field (drawDWord s).1 47 32))) Reg.TIM_CAP_NS 0xFFFFFFFF#32)
      (.value (field (drawDWord s).1 31 0))) := by
  show execTimCapSlo s = _
  unfold execTimCapSlo
  simp only [h]
  rfl

theorem exec_timCapSlo_pop {s : State} {x : Nat} {xs : List Nat} (h : (tget {} s.tim.caps (capSel s)).fifo = x :: xs) :
    exec .timCapSlo s = .next (answer (wr (wr
      (setTim s fun t => { t with caps := tset {} t.caps (capSel s) { tget {} s.tim.caps (capSel s) with fifo := xs } })
      Reg.TIM_CAP_SHI (w32 (x / 1000000000 / 2 ^ 32 % 65536))) Reg.TIM_CAP_NS (w32 (x % 1000000000)))
      (.value (x / 1000000000 % 2 ^ 32))) := by
  show execTimCapSlo s = _
  unfold execTimCapSlo
  simp only [h]
  rfl

/-- Settles O18: `locks_of_readPair` and `locksWord_of_readWith` for the plain latches; the windows by what their writes read. -/
theorem readLockingRegisters : Obligations.ReadLockingRegisters := by
  intro s
  refine ⟨?pairs, ?words, ?frameSecond, ?hallmarks, ?sequencerTime, ?violation, ?capture, ?window, ?record, ?bus⟩
  case pairs =>
    refine ⟨?_, ?_, ?_, ?_, ?_, ?_, ?_, ?_, ?_, ?_, ?_, ?_⟩ <;> exact locks_of_readPair rfl (by decide)
  case words =>
    refine ⟨locksWord_of_readWith rfl (by decide), locksWord_of_readWith rfl (by decide), fun e he => ?_⟩
    exact locksWord_of_readWith (if_neg (by omega)) (by simp only [Reg.PE_OUT_VAL, Reg.PE_OUT_AUX]; omega)
  case frameSecond =>
    refine ⟨_, rfl, rfl, rd_readPair .., rd_readPair .., ?_,
      onlyRegs_readPair (onlyRegs_wr (fun _ _ => rfl) (by simp)) (by simp) (by simp)⟩
    rw [rd_readPair_other _ _ _ _ (by decide) (by decide), rd_wr_same]
    exact field_low_half _ _ (by omega)
  case hallmarks =>
    refine ⟨_, rfl, rfl, rd_readPair .., rd_readPair .., (rd_readPair ..).trans ?_, (rd_readPair ..).trans (rd_wr_same ..),
      onlyRegs_readPair (onlyRegs_wr (onlyRegs_wr (fun _ _ => rfl) (by simp)) (by simp)) (by simp) (by simp)⟩
    exact (rd_wr_other _ _ _ _ (by decide)).trans (rd_wr_same ..)
  case sequencerTime =>
    exact ⟨_, rfl, rfl, rd_readPair .., rd_readPair .., (rd_readPair ..).trans (rd_wr_same ..),
      onlyRegs_readPair (onlyRegs_wr (fun _ _ => rfl) (by simp)) (by simp) (by simp)⟩
  case violation =>
    refine ⟨_, rfl, rfl, ?_, rd_wr_same _ Reg.ACC_VIOL_ADDR_HI _,
      onlyRegs_wr (onlyRegs_wr (a := Reg.ACC_VIOL_ADDR_LO) (fun _ _ => rfl) (by simp)) (by simp)⟩
    exact (rd_wr_other _ Reg.ACC_VIOL_ADDR_HI _ _ (by decide)).trans (rd_wr_same ..)
  case capture =>
    intro k q
    have only : ∀ {t : State} {v w : Word} {r : Resp}, onlyRegs [Reg.TIM_CAP_SHI, Reg.TIM_CAP_NS] s t →
        onlyRegs [Reg.TIM_CAP_SHI, Reg.TIM_CAP_NS] s (answer (wr (wr t Reg.TIM_CAP_SHI v) Reg.TIM_CAP_NS w) r) := fun h =>
      onlyRegs_answer (onlyRegs_wr (onlyRegs_wr h (by simp)) (by simp))
    cases hq : q.fifo with
    | nil =>
      refine ⟨_, exec_timCapSlo_empty hq, nofun, fun _ => ⟨?_, ⟨_, field_lt .., rfl⟩, rfl⟩, only fun _ _ => rfl⟩
      rw [rd_answer, rd_wr_same]
    | cons x xs =>
      refine ⟨_, exec_timCapSlo_pop hq, fun y ys h => ?_, nofun, only fun _ _ => rfl⟩
      cases h
      refine ⟨rfl, ?_, ?_, tget_tset_same .., fun j hj => tget_tset_other _ _ _ _ _ hj⟩
      · rw [rd_answer, rd_wr_other _ _ _ _ (by decide), rd_wr_same]
      · rw [rd_answer, rd_wr_same]
  case window =>
    intro c t _ _
    refine ⟨?lock, ?release⟩
    case lock =>
      intro n
      refine ⟨_, exec_canRxoW0 s c t, ?_, fun d hd => ?_, fun m => ?_, ?_, fun i w hw => ?_,
        onlyRegs_answer (onlyRegs_lockedWindow s c t)⟩
      · rw [canCtl_answer, canCtl_lockedWindow]
      · rw [canCtl_answer, canCtl_lockedWindow_other s t hd]
      · rw [rxObj, canCtl_answer, canCtl_lockedWindow, rxObj]
      · rw [rd_answer, ← rd_lockedWindow s c t (i := 0) (by decide)]
        rfl
      · have hi : i < 20 := length_windowWords (rxObj s c n) ▸ (List.getElem?_eq_some_iff.1 hw).1
        rw [rd_answer, rd_lockedWindow s c t hi, List.getD_eq_getElem?_getD, hw, Option.getD_some]
    case release =>
      refine ⟨_, rfl, rfl, lock_endLock .., fun d hd => canCtl_endLock_other _ hd, fun a _ => rd_endLock (atTime s t) c a,
        fun n at0 h => ?_⟩
      have released := endLock_release (s := atTime s t) h
      refine ⟨?_, fun m hm => ?_⟩
      · exact (congrArg (rxObj · c n) released).trans (rxObj_setObj_same ..)
      · exact (congrArg (rxObj · c m) released).trans ((rxObj_setObj_other _ _ _ hm).trans (rxObj_unlock ..))
  case record =>
    refine ⟨_, exec_recRdW0 s, rfl, ?_, fun i hi => ?_, (answer_rcd ..).trans (rcd_latchedRecord s),
      onlyRegs_answer (onlyRegs_latchedRecord s)⟩
    · rw [rd_answer, rd_latchedRecord_first]
      rfl
    · rw [rd_answer, rd_latchedRecord s hi]
      rfl
  case bus =>
    intro ptr
    refine ⟨?_, ?_, ?_, ?_, ?_, ?_, ?_⟩
    · rintro rfl; exact locks_of_readPair rfl (by decide)
    · rintro rfl; exact locks_of_readPair rfl (by decide)
    · intro h h7 h11
      exact ⟨_, exec_i2cRead h7 h11 (if_pos h), rfl⟩
    · intro h h'
      refine ⟨_, exec_i2cRead (by omega) (by omega) ?_, rfl⟩
      rw [i2cReg, if_neg (by omega), if_pos ⟨h, h'⟩]
    · rintro rfl
      exact ⟨_, exec_i2cRead (by decide) (by decide) rfl, rfl⟩
    · rintro rfl
      exact ⟨_, exec_i2cRead (by decide) (by decide) rfl, rfl⟩
    · intro h hm h30 h31
      refine ⟨_, exec_i2cRead_unnamed (by omega) (by omega) ?_, rfl⟩
      rw [i2cReg, if_neg (by omega), if_neg hm, if_neg h30, if_neg h31]

end Sys2Proof.Machine
end

section
/-! The shadow pass of checked mode (R95–R98): O9. -/

namespace Sys2Proof.Machine

open Sys2Proof

/-! ### Complemented tetrads and the dual circuits -/

theorem tstate_not (a : Tetrad) : tstate (~~~ a) = 3 - tstate a := by
  revert a; decide

theorem tdoubt_not (a : Tetrad) : tdoubt (~~~ a) = !tdoubt a := by
  revert a; decide

theorem tover_not (a : Tetrad) : tover (~~~ a) = !tover a := by
  revert a; decide

theorem tstate_lt (a : Tetrad) : tstate a < 4 := Nat.mod_lt _ (by decide)

/-- The complement of a tetrad complements its state and both flags. -/
theorem not_mkTet {st : Nat} (h : st < 4) (d o : Bool) : ~~~ mkTet st d o = mkTet (3 - st) (!d) (!o) := by
  have all : ∀ st, st < 4 → ∀ d o, ~~~ mkTet st d o = mkTet (3 - st) (!d) (!o) := by decide
  exact all st h d o

theorem tnot_not (a : Tetrad) : tnot (~~~ a) = ~~~ tnot a := by
  revert a; decide

theorem dualAnd_not (a b : Tetrad) : dualAnd (~~~ a) (~~~ b) = ~~~ tand a b := by
  revert a b; decide

theorem dualOr_not (a b : Tetrad) : dualOr (~~~ a) (~~~ b) = ~~~ tor a b := by
  revert a b; decide

theorem dualXor_not (a b : Tetrad) : dualXor (~~~ a) (~~~ b) = ~~~ txor a b := by
  revert a b; decide

/-- Every operator's dual gives the complement on complemented operands (R96); a negated operator negates in both passes. -/
theorem dualOp_not (op : Nat) (a b : Tetrad) : dualOp op (~~~ a) (~~~ b) = ~~~ tetOp op a b := by
  match op with
  | 0 => exact dualAnd_not a b
  | 1 => simp only [dualOp, tetOp, tnot_not, dualAnd_not]
  | 2 => exact dualOr_not a b
  | 3 => simp only [dualOp, tetOp, tnot_not, dualOr_not]
  | 4 => exact dualXor_not a b
  | _ + 5 => simp only [dualOp, tetOp, tnot_not, dualXor_not]

theorem dualStro_not (a : Tetrad) : dualStro (~~~ a) = ~~~ stro a := by
  revert a; decide

theorem dualFrcd_not (a : Tetrad) : dualFrcd (~~~ a) = ~~~ frcd a := by
  revert a; decide

theorem dualTstd_not (sel : Nat) (a : Tetrad) : dualTstd sel (~~~ a) = ~~~ tstd sel a := by
  simp only [dualTstd, tstd]
  generalize decide (sel = 1) = only
  revert only a; decide

/-- The dual condition of SKIP decides as the primary's does (R96). -/
theorem dualSkipCond_not (sel : Nat) (a : Tetrad) : dualSkipCond sel (~~~ a) = skipCond sel a := by
  have state := tstate_lt a
  match sel with
  | 0 | 1 | 3 => simp only [dualSkipCond, skipCond, tstate_not, decide_eq_decide]; omega
  | 2 => revert a; decide
  | _ + 4 => simp only [dualSkipCond, skipCond, tdoubt_not, Bool.not_not]

/-! ### The shadow pass of an instruction -/

theorem period_inverted (e : PassIn) : e.inverted.period = e.period := rfl

theorem cellFault_inverted (e : PassIn) : cellFault e.inverted = cellFault e := rfl

/-- A cell instruction works on the same words in both passes and complements what it yields (R97). -/
theorem cellPass_shadow (e : PassIn) (acc : Tetrad) (stack : List StackEnt) (cell : Nat)
    (f : Nat → Word → Nat × Option Word) :
    cellPass true e.inverted (~~~ acc) (notStack stack) cell f = (cellPass false e acc stack cell f).recomplement := by
  have word : ~~~ e.inverted.cell = e.cell := BitVec.not_not
  have room : e.inverted.cellOk = e.cellOk := rfl
  have next : e.inverted.pc = e.pc := rfl
  simp only [cellPass, cellFault_inverted, word, room, next, BitVec.not_not, if_true, Bool.false_eq_true, if_false]
  split <;> simp [PassOut.recomplement, notStack, Function.comp_def]

/-- SET and RST: OFF triggers the shadow as ON triggers the primary pass, and an unknown accumulator stores the target's
complement with d clear (R96). -/
theorem setrst_shadow (on : Bool) (ep : Nat) (e : PassIn) (acc : Tetrad) (stack : List StackEnt) :
    lePass true (.setrst on ep) e.inverted (~~~ acc) (notStack stack) =
      (lePass false (.setrst on ep) e acc stack).recomplement := by
  have state := tstate_lt acc
  have hon : (3 - tstate acc = 1) = (tstate acc = 2) := by simp; omega
  have hoff : (3 - tstate acc = 2) = (tstate acc = 1) := by simp; omega
  simp only [lePass, PassOut.recomplement, PassIn.inverted, tstate_not, tdoubt_not, tover_not, hon, hoff,
    if_true, Bool.false_eq_true, if_false]
  split
  · cases on <;> cases e.storeOk <;> simp [notStack, not_mkTet]
  · split
    · simp [notStack]
    · cases e.storeOk <;> simp [notStack, not_mkTet, tstate_lt]

/-- The shadow pass of any instruction on complements gives the complement of what the primary pass gives (R95–R97). -/
theorem lePass_shadow (n : LeInsn) (e : PassIn) (acc : Tetrad) (stack : List StackEnt) :
    lePass true n e.inverted (~~~ acc) (notStack stack) = (lePass false n e acc stack).recomplement := by
  cases n with
  | ld neg _ => cases neg <;> simp [lePass, PassOut.recomplement, PassIn.inverted, notStack, tnot_not]
  | ldl _ => rfl
  | alu op _ => simp [lePass, PassOut.recomplement, PassIn.inverted, notStack, passOp, dualOp_not]
  | bop op _ =>
    by_cases full : stack.length = 16 <;> simp [lePass, PassOut.recomplement, PassIn.inverted, notStack, full]
  | bcl =>
    cases stack <;> simp [lePass, PassOut.recomplement, PassIn.inverted, notStack, passOp, dualOp_not]
  | st neg ep =>
    cases neg <;> cases h : e.storeOk <;> simp [lePass, PassOut.recomplement, PassIn.inverted, notStack, tnot_not, h]
  | setrst on ep => exact setrst_shadow on ep e acc stack
  | edge _ _ _ | timer _ _ _ _ | ctu _ _ _ | ctd _ _ | ctl _ _ => simp only [lePass, period_inverted, cellPass_shadow]
  | tstd sel => simp [lePass, PassOut.recomplement, PassIn.inverted, notStack, dualTstd_not]
  | stro => simp [lePass, PassOut.recomplement, PassIn.inverted, notStack, dualStro_not]
  | frcd => simp [lePass, PassOut.recomplement, PassIn.inverted, notStack, dualFrcd_not]
  | skip sel count =>
    simp only [lePass, dualSkipCond_not, if_true, Bool.false_eq_true, if_false]
    cases skipCond sel acc <;> by_cases beyond : e.last < e.pc + 1 + count <;>
      simp [PassOut.recomplement, PassIn.inverted, notStack, beyond]
  | fin => cases stack <;> simp [lePass, PassOut.recomplement, PassIn.inverted, notStack]

/-! ### The comparison -/

theorem recomplement_recomplement (r : PassOut) : r.recomplement.recomplement = r := by
  simp [PassOut.recomplement, Function.comp_def]

/-- A slot that nothing upsets leaves the shadow result as it is. -/
theorem upset_none (r : PassOut) : r.upset {} = r := by
  obtain ⟨acc, stack, store, cell, next, skips, fault⟩ := r
  cases stack <;> simp [PassOut.upset]

/-- A result compared with itself shows no difference (R98). -/
theorem passDiff_self (r : PassOut) : passDiff r r = none := by
  simp [passDiff]

/-- Settles O9: the shadow result is the complement of the primary's (`lePass_shadow`), so re-complemented it is the primary's. -/
theorem shadowAgrees : Obligations.ShadowAgrees := by
  intro n e acc stack
  rw [lePass_shadow, upset_none, recomplement_recomplement, passDiff_self]

end Sys2Proof.Machine
end

section
/-! Fields of registers (R8), and which registers and engines the shared updates change: what O15 and O16 need. -/

namespace Sys2Proof.Machine

open Sys2Proof

/-! ### Fields of words -/

theorem testBit_field {n : Nat} (w : BitVec n) (hi lo i : Nat) :
    (field w hi lo).testBit i = (decide (i < hi + 1 - lo) && w.getLsbD (lo + i)) := by
  rw [field, bitsOf, Nat.testBit_mod_two_pow, Nat.testBit_div_two_pow, BitVec.testBit_toNat, Nat.add_comm i lo]

theorem getLsbD_maskOf (hi lo : Nat) {i : Nat} (h : i < 32) : (maskOf hi lo).getLsbD i = decide (lo ≤ i ∧ i ≤ hi) := by
  rw [maskOf, BitVec.getLsbD_ofNat, Nat.testBit_mul_two_pow, Nat.testBit_two_pow_sub_one, Bool.eq_iff_iff]
  simp only [Bool.and_eq_true, decide_eq_true_eq]
  omega

/-- A bit of a word after a write of a field: from the value inside the field, from the word outside. -/
theorem getLsbD_putField (w : Word) (hi lo v : Nat) {i : Nat} (h : i < 32) :
    (putField w hi lo v).getLsbD i = if lo ≤ i ∧ i ≤ hi then v.testBit (i - lo) else w.getLsbD i := by
  rw [putField, BitVec.getLsbD_or, BitVec.getLsbD_and, BitVec.getLsbD_not, getLsbD_maskOf hi lo h, BitVec.getLsbD_ofNat,
    Nat.testBit_mul_two_pow, Nat.testBit_mod_two_pow]
  by_cases inside : lo ≤ i ∧ i ≤ hi
  · have width : i - lo < hi + 1 - lo := by omega
    simp [inside, width, h]
  · have noValue : (decide (lo ≤ i) && (decide (i - lo < hi + 1 - lo) && v.testBit (i - lo))) = false := by
      simp only [Bool.and_eq_false_iff, decide_eq_false_iff_not]
      omega
    rw [if_neg inside, noValue]
    simp [inside, h]

theorem field_putField_same (w : Word) {hi lo : Nat} (v : Nat) (hhi : hi < 32) :
    field (putField w hi lo v) hi lo = v % 2 ^ (hi + 1 - lo) := by
  refine Nat.eq_of_testBit_eq fun i => ?_
  rw [testBit_field, Nat.testBit_mod_two_pow]
  by_cases hi' : i < hi + 1 - lo
  · rw [getLsbD_putField w hi lo v (by omega), if_pos (by omega), Nat.add_sub_cancel_left]
  · simp [hi']

theorem field_putField_other (w : Word) {hi lo hi' lo' : Nat} (v : Nat) (hhi : hi' < 32) (h : hi' < lo ∨ hi < lo') :
    field (putField w hi lo v) hi' lo' = field w hi' lo' := by
  refine Nat.eq_of_testBit_eq fun i => ?_
  rw [testBit_field, testBit_field]
  by_cases inside : i < hi' + 1 - lo'
  · rw [getLsbD_putField w hi lo v (by omega), if_neg (by omega)]
  · simp [inside]

theorem flag_putFlag_same (w : Word) {i : Nat} (b : Bool) (h : i < 32) : flag (putFlag w i b) i = b := by
  rw [flag, putFlag, getLsbD_putField w i i _ h, if_pos ⟨Nat.le_refl i, Nat.le_refl i⟩, Nat.sub_self]
  cases b <;> rfl

/-! ### Fields of registers -/

theorem rd_wrField_same (s : State) (a hi lo v : Nat) : rd (wrField s a hi lo v) a = putField (rd s a) hi lo v :=
  rd_wr_same ..

theorem rd_wrField_other (s : State) {a b : Nat} (hi lo v : Nat) (h : b ≠ a) : rd (wrField s a hi lo v) b = rd s b :=
  rd_wr_other _ _ _ _ h

theorem field_wrField_same (s : State) (a : Nat) {hi : Nat} (lo v : Nat) (hhi : hi < 32) :
    field (rd (wrField s a hi lo v) a) hi lo = v % 2 ^ (hi + 1 - lo) := by
  rw [rd_wrField_same, field_putField_same _ _ hhi]

theorem field_wrField_other (s : State) (a : Nat) {hi lo hi' lo' : Nat} (v : Nat) (hhi : hi' < 32)
    (h : hi' < lo ∨ hi < lo') : field (rd (wrField s a hi lo v) a) hi' lo' = field (rd s a) hi' lo' := by
  rw [rd_wrField_same, field_putField_other _ _ hhi h]

/-- A counter in a field takes the sum, or stops at the field's ceiling. -/
theorem field_addField_same (s : State) (a : Nat) {hi : Nat} (lo k : Nat) (hhi : hi < 32) :
    field (rd (addField s a hi lo k) a) hi lo = satAdd (2 ^ (hi + 1 - lo) - 1) (field (rd s a) hi lo) k := by
  rw [addField, field_wrField_same _ _ _ _ hhi, satAdd]
  have := Nat.two_pow_pos (hi + 1 - lo)
  exact Nat.mod_eq_of_lt (by omega)

theorem rd_addField_other (s : State) {a b : Nat} (hi lo k : Nat) (h : b ≠ a) : rd (addField s a hi lo k) b = rd s b :=
  rd_wr_other _ _ _ _ h

theorem rd_zeroRegs (s : State) (l : List Nat) (a : Nat) : rd (zeroRegs s l) a = if a ∈ l then 0 else rd s a := by
  split
  · next h => exact rd_foldl_wr_mem id (fun _ => 0) l s h fun _ _ e => e
  · next h => exact rd_foldl_wr_other id (fun _ => 0) l s a fun _ hi e => h (e ▸ hi)

/-! ### Only these registers -/

theorem onlyRegs_refl (l : List Nat) (s : State) : onlyRegs l s s := fun _ _ => rfl

theorem onlyRegs_wrField {l : List Nat} {s t : State} {a hi lo v : Nat} (h : onlyRegs l s t) (ha : a ∈ l) :
    onlyRegs l s (wrField t a hi lo v) := onlyRegs_wr h ha

theorem onlyRegs_setLe {l : List Nat} {s t : State} (e : Nat) (x : LeEngine) (h : onlyRegs l s t) :
    onlyRegs l s (setLe t e x) := h

theorem onlyRegs_record {l : List Nat} {s t : State} (r : RecReq) (h : onlyRegs l s t) (ha : Reg.REC_EVT_STAT ∈ l) :
    onlyRegs l s (record t r) := fun a hl => by
  rw [rd_record _ _ _ fun (e : a = _) => hl (e ▸ ha), h a hl]

/-- The registers of a logic engine are none of the recorder's. -/
theorem ne_recEvtStat {a : Nat} (h : blockOf a = 3) : a ≠ Reg.REC_EVT_STAT := by
  rintro rfl
  exact absurd h (by decide)

/-! ### Engines and sessions -/

theorem leOf_setLe_other (s : State) {e f : Nat} (x : LeEngine) (h : f ≠ e) : leOf (setLe s e x) f = leOf s f := by
  rw [leOf_setLe, if_neg h]

@[simp] theorem leOf_wrField (s : State) (a hi lo v e : Nat) : leOf (wrField s a hi lo v) e = leOf s e := rfl

@[simp] theorem zeroRegs_le (s : State) (l : List Nat) : (zeroRegs s l).le = s.le := by
  obtain ⟨r, h⟩ := foldl_wr_regs id (fun _ => 0) l s
  exact (congrArg State.le h :)

/-- Traffic of a session leaves the roles of all sessions (R415). -/
@[simp] theorem hasRole_touch (s : State) (n session role : Nat) : hasRole (touch s n) session role = hasRole s session role := by
  simp only [hasRole, touch, List.any_map]
  refine congrArg (s.sess.any ·) (funext fun ⟨_, x⟩ => ?_)
  cases x with
  | none => rfl
  | some x => by_cases h : x.id = n <;> simp [h]

theorem keyed_of_takes {s : State} {reg bit : Nat} {c : Cmd} (h : takes s reg bit c) (f : State → State) :
    keyedBit s reg bit c f = f (touch s c.session) := by
  obtain ⟨pass, key, sel⟩ := h
  rw [keyedBit, keyed, written_of_passes pass, if_pos key, if_pos sel]

end Sys2Proof.Machine
end

section
/-! The self-tests, the mode requests and the counter clear of the logic engines (R101–R107, R93, R115): O15. -/

namespace Sys2Proof.Machine

open Sys2Proof

section Engine

variable {s : State} {e : Nat} {c : Cmd}

theorem cmpStat_ne_mismCnt (e : Nat) : Reg.LE_CMP_STAT e ≠ Reg.LE_MISM_CNT e := mt Nat.add_right_cancel (by decide)

/-! ### Self-tests -/

/-- A test that passes with its injection reported only shows so (R102). -/
theorem judgeTest_passed (s : State) (e : Nat) : judgeTest s e {} = wrField s (Reg.LE_CMP_STAT e) 30 30 1 := rfl

/-- A scrub that meets no error changes nothing (R65). -/
theorem scrub_clean (s : State) (e : Nat) : scrub s e {} = s := rfl

theorem exec_backgroundSelfTest_passed (he : e < 8) (hphase : s.grid.phase = 3) (alive : (leOf s e).failed = false)
    (idle : (leOf s e).fullTest = false) : exec (.backgroundSelfTest e {}) s = .next
      (wrField (setLe s e { leOf s e with segment := ((leOf s e).segment + 1) % 16 }) (Reg.LE_CMP_STAT e) 30 30 1) := by
  show execBackgroundSelfTest e {} s = _
  rw [execBackgroundSelfTest, if_pos ⟨hphase, he, by simp [alive], by simp [idle]⟩, scrub_clean, judgeTest_passed, done]

/-- The engine runs on after one mismatch in its window, which no memory word caused: a full test that passes finds it transient
(R102). -/
def loneMismatch (s : State) (e : Nat) : Bool :=
  !(leOf s e).failed && decide ((leOf s e).events.length = 1) && decide (field (rd s (Reg.LE_CMP_STAT e)) 27 25 ≠ 6)

/-- The state after a full test that passed (R101, R102). -/
def fullTestPassed (s : State) (e : Nat) : State :=
  let shown := wrField (setLe s e { leOf s e with fullTest := false }) (Reg.LE_CMP_STAT e) 29 28 1
  let counted := if loneMismatch s e then addField shown (Reg.LE_MISM_CNT e) 15 0 1 else shown
  wrField counted (Reg.LE_CMP_STAT e) 30 30 1

theorem exec_fullSelfTest_passed (he : e < 8) (hphase : s.grid.phase = 3) (due : (leOf s e).fullTest = true) :
    exec (.fullSelfTest e {}) s = .next (fullTestPassed s e) := by
  show execFullSelfTest e {} s = _
  rw [execFullSelfTest, if_pos ⟨hphase, he, due⟩]
  simp only [judgeTest_passed, fullTestPassed, loneMismatch, Bool.and_eq_true, decide_eq_true_eq, true_and, and_assoc,
    if_true, done]

theorem leOf_fullTestPassed (s : State) (e f : Nat) :
    leOf (fullTestPassed s e) f = if f = e then { leOf s e with fullTest := false } else leOf s f := by
  unfold fullTestPassed
  rw [leOf_wrField]
  split <;> exact leOf_setLe s e f _

theorem field_stest_fullTestPassed (s : State) (e : Nat) :
    field (rd (fullTestPassed s e) (Reg.LE_CMP_STAT e)) 29 28 = 1 := by
  unfold fullTestPassed
  rw [field_wrField_other _ _ _ (by decide) (.inl (by decide))]
  split
  · rw [rd_addField_other _ _ _ _ (cmpStat_ne_mismCnt e)]
    exact field_wrField_same _ _ 28 1 (by decide)
  · exact field_wrField_same _ _ 28 1 (by decide)

theorem onlyRegs_fullTestPassed (s : State) (e : Nat) :
    onlyRegs [Reg.LE_CMP_STAT e, Reg.LE_MISM_CNT e] s (fullTestPassed s e) := by
  have shown := onlyRegs_wrField (hi := 29) (lo := 28) (v := 1)
    (onlyRegs_setLe e { leOf s e with fullTest := false } (onlyRegs_refl [Reg.LE_CMP_STAT e, Reg.LE_MISM_CNT e] s))
    List.mem_cons_self
  refine onlyRegs_wrField ?_ List.mem_cons_self
  split
  · exact onlyRegs_wrField shown (by simp)
  · exact shown

theorem field_transient_fullTestPassed (h : loneMismatch s e = true) :
    field (rd (fullTestPassed s e) (Reg.LE_MISM_CNT e)) 15 0 =
      satAdd 0xFFFF (field (rd s (Reg.LE_MISM_CNT e)) 15 0) 1 := by
  have shown (t : State) (hi lo v : Nat) :
      rd (wrField t (Reg.LE_CMP_STAT e) hi lo v) (Reg.LE_MISM_CNT e) = rd t (Reg.LE_MISM_CNT e) :=
    rd_wrField_other _ _ _ _ (cmpStat_ne_mismCnt e).symm
  unfold fullTestPassed
  rw [shown, if_pos h]
  refine (field_addField_same _ _ _ _ (by decide)).trans ?_
  exact congrArg (fun w => satAdd 0xFFFF (field w 15 0) 1) (shown ..)

/-! ### Mode requests -/

theorem ite_le_of_le {p : Prop} [Decidable p] {a b n : Nat} (ha : a ≤ n) (hb : b ≤ n) : (if p then a else b) ≤ n := by
  split <;> assumption

/-- A cause of refusal fits the field that shows it (R107). -/
theorem modeRefusal_le (s : State) (e : Nat) (m : Bool) : modeRefusal s e m ≤ 6 :=
  ite_le_of_le (by decide) (ite_le_of_le (by decide) (ite_le_of_le (by decide) (ite_le_of_le (by decide) (ite_le_of_le (by decide)
    (ite_le_of_le (by decide) (by decide))))))

/-- The state after a mode request that nothing refuses (R106). -/
def modeRequested (s : State) (e : Nat) (c : Cmd) : State :=
  accepted (wrField (setLe s e { leOf s e with
      modePend := some (flag c.value 0, if s.grid.phase = 3 then s.grid.frame + 2 else s.grid.frame + 1) })
    (Reg.LE_CMP_STAT e) 24 24 1) (Reg.LE_MODE_REQ e) c

/-- The state after a mode request that is refused with a cause (R107). -/
def modeRefused (s : State) (e : Nat) (c : Cmd) (code : Nat) : State :=
  wrField (refuse s (Reg.LE_MODE_REQ e) (some code) c.session) (Reg.LE_CMP_STAT e) 23 20 code

/-- A mode request of the engineer with its key is refused with its cause, or pending (R106, R107). -/
theorem exec_modeRequest (he : e < 8) (hp : passes s (Reg.LE_MODE_REQ e) c) (key : field c.value 31 16 = 0x5A3C)
    (role : hasRole s c.session 2 = true) : exec (.modeRequest e c) s = .next
      (if modeRefusal s e (flag c.value 0) ≠ 0 then
        modeRefused (touch s c.session) e c (modeRefusal s e (flag c.value 0))
      else modeRequested (touch s c.session) e c) := by
  have same : modeRefusal (touch s c.session) e (flag c.value 0) = modeRefusal s e (flag c.value 0) := rfl
  have run : execModeRequest e c s = done (written s (Reg.LE_MODE_REQ e) c _) := if_neg (by omega)
  show execModeRequest e c s = _
  rw [run, written_of_passes hp]
  simp only [key, hasRole_touch, role, same, done, modeRefused, modeRequested, ne_eq, not_true_eq_false, Bool.not_true,
    Bool.false_eq_true, if_false]

theorem onlyRegs_modeRequested (s : State) (e : Nat) (c : Cmd) :
    onlyRegs [Reg.LE_CMP_STAT e, Reg.REC_EVT_STAT] s (modeRequested s e c) :=
  onlyRegs_record _ (onlyRegs_wrField (onlyRegs_refl _ s) List.mem_cons_self) (by simp)

theorem leOf_modeRequested_other (s : State) {e f : Nat} (c : Cmd) (h : f ≠ e) : leOf (modeRequested s e c) f = leOf s f := by
  rw [modeRequested, leOf_accepted, leOf_wrField, leOf_setLe_other _ _ h]

theorem field_pending_modeRequested (s : State) (e : Nat) (c : Cmd) :
    field (rd (modeRequested s e c) (Reg.LE_CMP_STAT e)) 24 24 = 1 := by
  rw [modeRequested, rd_accepted _ _ _ _ (ne_recEvtStat (Reg.LE_CMP_STAT_block e))]
  exact field_wrField_same _ _ 24 1 (by decide)

theorem onlyRegs_modeRefused (s : State) (e : Nat) (c : Cmd) (code : Nat) :
    onlyRegs [Reg.LE_CMP_STAT e, Reg.REC_EVT_STAT] s (modeRefused s e c code) :=
  onlyRegs_wrField (onlyRegs_answer (onlyRegs_record _ (onlyRegs_refl _ s) (by simp))) List.mem_cons_self

theorem field_cause_modeRefused (s : State) (e : Nat) (c : Cmd) {code : Nat} (h : code ≤ 6) :
    field (rd (modeRefused s e c code) (Reg.LE_CMP_STAT e)) 23 20 = code := by
  rw [modeRefused, field_wrField_same _ _ _ _ (by decide)]
  exact Nat.mod_eq_of_lt (by omega)

/-! ### The counter clear -/

/-- The state after LE_CTRL.CLR_CNT (R93, R115). -/
def leCountersCleared (s : State) (e session : Nat) : State :=
  let zeroed := zeroRegs s [Reg.LE_FAULT_CNT e, Reg.LE_ECC_CNT e, Reg.LE_PEAKS e]
  cleared (setLe zeroed e { leOf zeroed e with progFaults := [] }) (Reg.LE_CTRL e) session

theorem exec_leClrCnt (he : e < 8) (h : takes s (Reg.LE_CTRL e) 0 c) :
    exec (.leClrCnt e c) s = .next (leCountersCleared (touch s c.session) e c.session) := by
  show execLeClrCnt e c s = _
  rw [execLeClrCnt, if_neg (by omega), keyed_of_takes h]
  rfl

theorem rd_leCountersCleared (s : State) (e session : Nat) {a : Nat} (h : a ≠ Reg.REC_EVT_STAT) :
    rd (leCountersCleared s e session) a =
      if a ∈ [Reg.LE_FAULT_CNT e, Reg.LE_ECC_CNT e, Reg.LE_PEAKS e] then 0 else rd s a := by
  rw [leCountersCleared, rd_cleared _ _ _ _ h, rd_setLe, rd_zeroRegs]

theorem leOf_leCountersCleared (s : State) (e session f : Nat) :
    leOf (leCountersCleared s e session) f = if f = e then { leOf s e with progFaults := [] } else leOf s f := by
  have zeroed : ∀ (l : List Nat) (g : Nat), leOf (zeroRegs s l) g = leOf s g := fun l g =>
    congrArg (tget ({} : LeEngine) · g) (zeroRegs_le s l)
  rw [leCountersCleared, leOf_cleared, leOf_setLe, zeroed, zeroed]

end Engine

/-- Settles O15: each command ends in the state that its `exec_` lemma names, and the lemmas on that state give each clause. -/
theorem leSelfTestsAndModes : Obligations.LeSelfTestsAndModes := by
  refine ⟨fun s e he hphase => ⟨fun alive idle => ?background, fun due => ?full⟩,
    fun s e c he => ⟨fun hp key role free => ?pending, fun hp key role refused => ?refused, fun h => ?clear⟩⟩
  case background =>
    refine ⟨_, exec_backgroundSelfTest_passed he hphase alive idle, ?_, fun f hf => ?_, ?_, ?_, ?_⟩
    · rw [leOf_wrField, leOf_setLe_same]
    · rw [leOf_wrField, leOf_setLe_other _ _ hf]
    · exact field_wrField_same _ _ 30 1 (by decide)
    · exact onlyRegs_wrField (onlyRegs_setLe e _ (onlyRegs_refl _ s)) List.mem_cons_self
    · exact Keeps.onlyParts (Keeps.wrFieldOf (Reg.LE_CMP_STAT_block e) rfl (Keeps.mono (setLe_keeps ..) rfl))
  case full =>
    refine ⟨_, exec_fullSelfTest_passed he hphase due, ?_, fun f hf => ?_, field_stest_fullTestPassed s e,
      onlyRegs_fullTestPassed s e, fun alive lone kind => field_transient_fullTestPassed ?_⟩
    · rw [leOf_fullTestPassed, if_pos rfl]
    · rw [leOf_fullTestPassed, if_neg hf]
    · simp [loneMismatch, alive, lone, kind]
  case pending =>
    refine ⟨_, exec_modeRequest he hp key role, ?_⟩
    rw [if_neg (Decidable.not_not.2 free)]
    refine ⟨?_, fun f hf => leOf_modeRequested_other _ c hf, field_pending_modeRequested ..,
      onlyRegs_modeRequested (touch s c.session) e c⟩
    rw [modeRequested, leOf_accepted, leOf_wrField, leOf_setLe_same]
    rfl
  case refused =>
    refine ⟨_, exec_modeRequest he hp key role, ?_⟩
    rw [if_pos refused]
    exact ⟨refuse_le .., field_cause_modeRefused _ _ _ (modeRefusal_le ..), onlyRegs_modeRefused (touch s c.session) e c _⟩
  case clear =>
    refine ⟨_, exec_leClrCnt he h, ?_, ?_, ?_, ?_, fun f hf => ?_, fun a ha => ?_⟩
    · rw [rd_leCountersCleared _ _ _ (ne_recEvtStat (Reg.LE_FAULT_CNT_block e)), if_pos (by simp)]
    · rw [rd_leCountersCleared _ _ _ (ne_recEvtStat (Reg.LE_ECC_CNT_block e)), if_pos (by simp)]
    · rw [rd_leCountersCleared _ _ _ (ne_recEvtStat (Reg.LE_PEAKS_block e)), if_pos (by simp)]
    · rw [leOf_leCountersCleared, if_pos rfl, leOf_touch]
    · rw [leOf_leCountersCleared, if_neg hf, leOf_touch]
    · obtain ⟨fault, ecc, peaks, rec⟩ : a ≠ Reg.LE_FAULT_CNT e ∧ a ≠ Reg.LE_ECC_CNT e ∧ a ≠ Reg.LE_PEAKS e ∧
          a ≠ Reg.REC_EVT_STAT := by simpa using ha
      rw [rd_leCountersCleared _ _ _ rec, if_neg (by simp [fault, ecc, peaks]), rd_touch]

end Sys2Proof.Machine
end

section
/-! The debugger of a logic engine (R108–R111): O16. -/

namespace Sys2Proof.Machine

open Sys2Proof

/-! ### Streams of an engine -/

theorem stream_setStream (x : LeEngine) (i : Nat) (y : LeStream) : (x.setStream i y).stream i = y := by
  unfold LeEngine.setStream LeEngine.stream
  split <;> rfl

theorem split_setStream (x : LeEngine) (i : Nat) (y : LeStream) : (x.setStream i y).split = x.split := by
  unfold LeEngine.setStream
  split <;> rfl

/-- The stream of an issue depends on the engine alone (R105). -/
theorem issueStream_eq {s t : State} {st : LeStep} (h : (leOf t st.eng).split = (leOf s st.eng).split) :
    issueStream t st = issueStream s st := by
  rw [issueStream, issueStream, h]

section Session

variable {s : State} {e : Nat} {c : Cmd}

/-! ### Opening and closing -/

/-- LE_DBG_CTRL after a write of its stream and target fields (R115). -/
def debugFields (old value : Word) : Word :=
  putField (putField old 24 24 (field value 24 24)) 23 22 (field value 23 22)

/-- The state after a debug session has opened (R108). -/
def debugOpened (s : State) (e : Nat) (c : Cmd) : State :=
  let reg := Reg.LE_DBG_CTRL e
  let new := putFlag (debugFields (rd s reg) c.value) 31 true
  recordBare (settingWritten (wr s reg new) reg (rd s reg) new c.session) 3 { blk := 3, ev := 0, info := [e, 1, c.session] }

/-- The state after the write that closes a debug session (R108). -/
def debugClosed (s : State) (e : Nat) (c : Cmd) : State :=
  let reg := Reg.LE_DBG_CTRL e
  let new := debugFields (rd s reg) c.value
  closeDebug (settingWritten (wr s reg new) reg (rd s reg) (putFlag new 31 false) c.session) e

theorem debugAllowed_touch (s : State) (n e session : Nat) :
    debugAllowed (touch s n) e session = debugAllowed s e session := by
  unfold debugAllowed
  rw [hasRole_touch]
  rfl

theorem exec_debugOpen_opens (he : e < 8) (hp : passes s (Reg.LE_DBG_CTRL e) c) (set : flag c.value 31 = true)
    (closed : flag (rd s (Reg.LE_DBG_CTRL e)) 31 = false) (allowed : debugAllowed s e c.session = true) :
    exec (.debugOpen e c) s = .next (debugOpened (touch s c.session) e c) := by
  have run : execDebugOpen e c s = done (written s (Reg.LE_DBG_CTRL e) c _) := if_neg (by omega)
  show execDebugOpen e c s = _
  rw [run, written_of_passes hp]
  refine congrArg Host.Outcome.next ((if_pos ?_).trans (if_pos ?_))
  · rw [set, rd_touch, closed]; rfl
  · rw [debugAllowed_touch, allowed]

theorem exec_debugOpen_closes (he : e < 8) (hp : passes s (Reg.LE_DBG_CTRL e) c) (clear : flag c.value 31 = false)
    (isOpen : flag (rd s (Reg.LE_DBG_CTRL e)) 31 = true) :
    exec (.debugOpen e c) s = .next (debugClosed (touch s c.session) e c) := by
  have run : execDebugOpen e c s = done (written s (Reg.LE_DBG_CTRL e) c _) := if_neg (by omega)
  show execDebugOpen e c s = _
  rw [run, written_of_passes hp]
  refine congrArg Host.Outcome.next ((if_neg ?_).trans (if_pos ?_))
  · rw [clear]; exact Bool.false_ne_true
  · rw [clear, rd_touch, isOpen]; rfl

theorem rd_debugOpened (s : State) (e : Nat) (c : Cmd) : rd (debugOpened s e c) (Reg.LE_DBG_CTRL e) =
    putFlag (debugFields (rd s (Reg.LE_DBG_CTRL e)) c.value) 31 true := by
  have own := ne_recEvtStat (Reg.LE_DBG_CTRL_block e)
  rw [debugOpened, rd_recordBare _ _ _ _ own, rd_settingWritten _ _ _ _ _ _ own, rd_wr_same]

theorem onlyRegs_debugOpened (s : State) (e : Nat) (c : Cmd) :
    onlyRegs [Reg.LE_DBG_CTRL e, Reg.REC_EVT_STAT] s (debugOpened s e c) :=
  onlyRegs_record _ (onlyRegs_record _ (onlyRegs_wr (onlyRegs_refl _ s) List.mem_cons_self) (by simp)) (by simp)

theorem debugOpened_le (s : State) (e : Nat) (c : Cmd) : (debugOpened s e c).le = s.le := by
  rw [debugOpened, recordBare_le, settingWritten_le, wr_le]

theorem leOf_closeDebug (s : State) (e f : Nat) : leOf (closeDebug s e) f =
    if f = e then { leOf s e with halt := false, haltReq := false, passBp := false } else leOf s f := by
  rw [closeDebug, leOf_recordBare, leOf_wr, leOf_setLe]

theorem rd_closeDebug (s : State) (e : Nat) :
    rd (closeDebug s e) (Reg.LE_DBG_CTRL e) = rd s (Reg.LE_DBG_CTRL e) &&& 0x3FFFFFFF#32 := by
  rw [closeDebug, rd_recordBare _ _ _ _ (ne_recEvtStat (Reg.LE_DBG_CTRL_block e)), rd_wr_same, rd_setLe]

theorem onlyRegs_debugClosed (s : State) (e : Nat) (c : Cmd) :
    onlyRegs [Reg.LE_DBG_CTRL e, Reg.REC_EVT_STAT] s (debugClosed s e c) :=
  have written := onlyRegs_record _ (onlyRegs_wr (onlyRegs_refl _ s) List.mem_cons_self) (by simp)
  onlyRegs_record _ (onlyRegs_wr (onlyRegs_setLe e _ written) List.mem_cons_self) (by simp)

/-! ### Halt and resume -/

theorem exec_debugHalt (he : e < 8) (hp : passes s (Reg.LE_DBG_CTRL e) c) (isOpen : flag (rd s (Reg.LE_DBG_CTRL e)) 31 = true)
    (runs : (leOf s e).halt = false) :
    exec (.debugHalt e c) s = .next (setLe (touch s c.session) e { leOf s e with haltReq := true }) := by
  have run : execDebugHalt e c s = done (written s (Reg.LE_DBG_CTRL e) c _) := if_neg (by omega)
  show execDebugHalt e c s = _
  rw [run, written_of_passes hp, if_pos (by simp [isOpen, runs])]
  rfl

/-- With one class running, only its start moves on by the time halted (R111). -/
theorem resumeClock_one {k : Nat} (t : Nat) (h0 : (leOf s e).s0.cls = some k) (h1 : (leOf s e).s1.cls = none) :
    resumeClock s e t = setClass s k { classOf s k with since := (classOf s k).since + (t - (leOf s e).haltAt) } := by
  simp only [resumeClock, h0, h1]

theorem exec_debugResume (t : Nat) (he : e < 8) (hp : passes s (Reg.LE_DBG_CTRL e) c) (halted : (leOf s e).halt = true) :
    exec (.debugResume e c t) s = .next
      (let u := resumeClock (atTime (touch s c.session) t) e t
       wrField (setLe u e { leOf u e with halt := false, passBp := true }) (Reg.LE_DBG_CTRL e) 30 30 0) := by
  have run : execDebugResume e c t s = done (written s (Reg.LE_DBG_CTRL e) c _) := if_neg (by omega)
  show execDebugResume e c t s = _
  rw [run, written_of_passes hp, if_pos (show (leOf (touch s c.session) e).halt = true from halted)]
  rfl

/-! ### Writes -/

/-- The stream the debugger observes (R109). -/
def observed (s : State) (e : Nat) : Nat := if (leOf s e).split then field (rd s (Reg.LE_DBG_CTRL e)) 24 24 else 0

/-- The stream with the accumulator written in both passes (R110). -/
def LeStream.withAcc (x : LeStream) (v : Tetrad) : LeStream := { x with acc := v, accS := ~~~ v }

/-- The stream with a history cell written to its write-back buffer (R110). -/
def LeStream.withCell (x : LeStream) (cell : Nat) (v : Word) : LeStream := { x with hbuf := tset none x.hbuf cell (some v) }

/-- The engine e with its observed stream changed. -/
def withObserved (s : State) (e : Nat) (f : LeStream → LeStream) : State :=
  setLe s e ((leOf s e).setStream (observed s e) (f ((leOf s e).stream (observed s e))))

theorem stream_withObserved (s : State) (e : Nat) (f : LeStream → LeStream) :
    (leOf (withObserved s e f) e).stream (observed s e) = f ((leOf s e).stream (observed s e)) := by
  rw [withObserved, leOf_setLe_same, stream_setStream]

theorem leOf_withObserved_other (s : State) {e d : Nat} (f : LeStream → LeStream) (h : d ≠ e) :
    leOf (withObserved s e f) d = leOf s d := leOf_setLe_other _ _ h

theorem tget_withCell (x : LeStream) (cell : Nat) (v : Word) : tget none (x.withCell cell v).hbuf cell = some v :=
  tget_tset_same none x.hbuf cell (some v)

theorem acc_withCell (x : LeStream) (cell : Nat) (v : Word) : (x.withCell cell v).acc = x.acc := rfl

theorem exec_debugWrite_acc (he : e < 8) (hp : passes s (Reg.LE_DBG_WR e) c) (halted : (leOf s e).halt = true)
    (target : field (rd s (Reg.LE_DBG_CTRL e)) 23 22 = 0) : exec (.debugWrite e c) s = .next
      (withObserved (touch s c.session) e fun x => x.withAcc (BitVec.ofNat 4 (field c.value 3 0))) := by
  have run : execDebugWrite e c s = done (written s (Reg.LE_DBG_WR e) c _) := if_neg (by omega)
  show execDebugWrite e c s = _
  rw [run, written_of_passes hp]
  simp only [leOf_touch, rd_touch, halted, target, Bool.not_true, Bool.false_eq_true, if_false]
  rfl

theorem exec_debugWrite_cell {k : Nat} (he : e < 8) (hp : passes s (Reg.LE_DBG_WR e) c) (halted : (leOf s e).halt = true)
    (target : field (rd s (Reg.LE_DBG_CTRL e)) 23 22 = 1) (cls : ((leOf s e).stream (observed s e)).cls = some k)
    (allowed : (partCfg s (classCfg s k).part).safety = false ∨ s.saf.smmOn = true) : exec (.debugWrite e c) s = .next
      (withObserved (touch s c.session) e fun x => x.withCell (field (rd s (Reg.LE_CELL_SEL e)) 15 0) c.value) := by
  have run : execDebugWrite e c s = done (written s (Reg.LE_DBG_WR e) c _) := if_neg (by omega)
  have halted' : (leOf (touch s c.session) e).halt = true := halted
  have target' : field (rd (touch s c.session) (Reg.LE_DBG_CTRL e)) 23 22 = 1 := target
  have cls' : ((leOf (touch s c.session) e).stream (observed (touch s c.session) e)).cls = some k := cls
  have allowed' : ((partCfg (touch s c.session) (classCfg (touch s c.session) k).part).safety &&
      !(touch s c.session).saf.smmOn) = false := by
    rcases allowed with h | h
    · exact Bool.and_eq_false_iff.2 (.inl h)
    · exact Bool.and_eq_false_iff.2 (.inr (congrArg not h))
  rw [observed] at cls'
  show execDebugWrite e c s = _
  rw [run, written_of_passes hp]
  simp only [halted', target', Bool.not_true, Bool.false_eq_true, if_false]
  refine congrArg Host.Outcome.next (if_neg ?_)
  simp only [cls', allowed', Bool.false_eq_true, not_false_eq_true]

end Session

/-! ### One instruction -/

/-- What the primary pass of an issue yields (R72). -/
def primaryPass (s : State) (st : LeStep) (i p : Nat) (n : LeInsn) : PassOut :=
  lePass false n (passIn s (leOf s st.eng) st.eng i p n (opdValue s n st (leOf s st.eng).split).1)
    ((leOf s st.eng).stream i).acc ((leOf s st.eng).stream i).stack

/-- What the shadow pass of an issue yields (R95). -/
def shadowPass (s : State) (st : LeStep) (i p : Nat) (n : LeInsn) : PassOut :=
  (lePass true n (passIn s (leOf s st.eng) st.eng i p n (opdValue s n st (leOf s st.eng).split).1).inverted
    ((leOf s st.eng).stream i).accS ((leOf s st.eng).stream i).stackS).upset st.upset

/-- The shadow state of a stream is the complement of the primary's (R95). -/
def LeStream.complementary (x : LeStream) : Prop := x.accS = ~~~ x.acc ∧ x.stackS = notStack x.stack

section Issue

variable {s : State} {st : LeStep} {i p : Nat} {n : LeInsn}

/-- Without an upset the comparison of complementary passes reports nothing (R98). -/
theorem passDiff_of_complementary (h : ((leOf s st.eng).stream i).complementary) (noUpset : st.upset = {}) :
    passDiff (primaryPass s st i p n) (shadowPass s st i p n).recomplement = none := by
  obtain ⟨acc, stack⟩ := h
  rw [primaryPass, shadowPass, acc, stack, noUpset]
  exact shadowAgrees ..

/-- An instruction other than END without an upset and without a fault, whose next word belongs to the program, is released
(R99). -/
theorem runInsn_release (opc : Nat) (prog : ((leOf s st.eng).stream i).progs.head? = some p)
    (shadow : (leOf s st.eng).split = false → ((leOf s st.eng).stream i).complementary) (noUpset : st.upset = {})
    (noFault : (primaryPass s st i p n).fault = none) (notEnd : n ≠ .fin)
    (fits : (primaryPass s st i p n).next ≤ lastWord s st.eng p) :
    runInsn s st i n opc = release (divergence s st.eng (opdValue s n st (leOf s st.eng).split).2) st.eng i
      (leOf s st.eng).split (primaryPass s st i p n) (shadowPass s st i p n) (leSlots opc) := by
  obtain ⟨ps, progs⟩ : ∃ ps, ((leOf s st.eng).stream i).progs = p :: ps := by
    cases h : ((leOf s st.eng).stream i).progs with
    | nil => simp [h] at prog
    | cons q qs => rw [h] at prog; cases prog; exact ⟨qs, rfl⟩
  have agrees : (if (leOf s st.eng).split then none else
      passDiff (primaryPass s st i p n) (shadowPass s st i p n).recomplement) = none := by
    cases split : (leOf s st.eng).split with
    | true => rfl
    | false => exact passDiff_of_complementary (shadow split) noUpset
  have last : ¬ lastWord s st.eng p < (primaryPass s st i p n).next := Nat.not_lt.2 fits
  unfold primaryPass shadowPass at *
  simp only [lastWord] at last
  simp only [runInsn, progs]
  rw [agrees]
  simp only [noFault, if_neg notEnd]
  exact if_neg last

/-! ### What an issue leaves -/

/-- A stream after a slot has been released (R72, R99). -/
def LeStream.released (x : LeStream) (p q : PassOut) (cost : Nat) : LeStream :=
  { x with
    acc := p.acc
    accS := q.acc
    stack := p.stack
    stackS := q.stack
    pc := p.next
    slots := x.slots + cost
    frameSlots := x.frameSlots + cost
    stores := match p.store with
      | some (ep, v) => x.stores ++ [{ ep := ep, tet := v }]
      | none => x.stores
    hbuf := match p.cell with
      | some (c, w) => tset none x.hbuf c (some w)
      | none => x.hbuf }

theorem leOf_release (s : State) (e i : Nat) (split : Bool) (p q : PassOut) (cost f : Nat) :
    leOf (release s e i split p q cost) f =
      if f = e then (leOf s e).setStream i (((leOf s e).stream i).released p q cost) else leOf s f := by
  rw [← leOf_setLe]
  unfold release
  simp only
  split <;> rfl

theorem leOf_haltEngine (s : State) (e cause f : Nat) : leOf (haltEngine s e cause) f =
    if f = e then { leOf s e with halt := true, haltReq := false, haltAt := s.grid.now } else leOf s f := by
  rw [haltEngine, leOf_wrField, leOf_wrField, leOf_setLe]

theorem field_cause_haltEngine (s : State) (e : Nat) {cause : Nat} (h : cause < 4) :
    field (rd (haltEngine s e cause) (Reg.LE_DBG_CTRL e)) 26 25 = cause := by
  rw [haltEngine, field_wrField_same _ _ _ _ (by decide)]
  exact Nat.mod_eq_of_lt h

theorem field_halted_haltEngine (s : State) (e cause : Nat) :
    field (rd (haltEngine s e cause) (Reg.LE_DBG_CTRL e)) 30 30 = 1 := by
  rw [haltEngine, field_wrField_other _ _ _ (by decide) (.inr (by decide))]
  exact field_wrField_same _ _ 30 1 (by decide)

theorem strm_haltEngine (s : State) (st : LeStep) (cause : Nat) : strm (haltEngine s st.eng cause) st = strm s st := by
  have engine := leOf_haltEngine s st.eng cause st.eng
  rw [if_pos rfl] at engine
  have same : issueStream (haltEngine s st.eng cause) st = issueStream s st := issueStream_eq (by rw [engine])
  rw [strm, same, engine]
  rfl

theorem strm_release (s : State) (st : LeStep) (split : Bool) (p q : PassOut) (cost : Nat) :
    strm (release s st.eng (issueStream s st) split p q cost) st = (strm s st).released p q cost := by
  have engine := leOf_release s st.eng (issueStream s st) split p q cost st.eng
  rw [if_pos rfl] at engine
  have same : issueStream (release s st.eng (issueStream s st) split p q cost) st = issueStream s st :=
    issueStream_eq (by rw [engine, split_setStream])
  rw [strm, same, engine, stream_setStream, strm]

/-- The instruction at the address of the stream of an issue, if the words there are one (R70). -/
def insnAt (s : State) (st : LeStep) : Option LeInsn :=
  leDecode (tget 0 (leOf s st.eng).pmem (strm s st).pc) (tget 0 (leOf s st.eng).pmem ((strm s st).pc + 1))

/-- A good word that decodes runs as its instruction (R65, R70). -/
theorem issueWord_decoded (noEcc : st.eccProg = 0 ∧ st.eccHist = 0) (decoded : insnAt s st = some n) :
    issueWord s st (issueStream s st) none false =
      runInsn (wr s (Reg.LE_PC st.eng) (w32 (strm s st).pc)) st (issueStream s st) n
        (leOpcode (tget 0 (leOf s st.eng).pmem (strm s st).pc)) := by
  obtain ⟨prog, hist⟩ := noEcc
  unfold insnAt strm at decoded
  unfold issueWord
  simp only [prog, hist, decoded, Option.isSome_none, Bool.false_eq_true, false_and, or_self, if_false]
  simp [strm]

/-- The state that passes the halting word it stands at, at the time of the issue (R109). -/
def passing (s : State) (st : LeStep) : State :=
  setLe (atTime s st.time) st.eng { leOf s st.eng with passBp := false }

theorem leOf_passing (s : State) (st : LeStep) (f : Nat) : leOf (passing s st) f =
    if f = st.eng then { leOf s st.eng with passBp := false } else leOf s f := by
  rw [passing, leOf_setLe, leOf_atTime]

theorem split_passing (s : State) (st : LeStep) : (leOf (passing s st) st.eng).split = (leOf s st.eng).split := by
  rw [leOf_passing, if_pos rfl]

theorem pmem_passing (s : State) (st : LeStep) : (leOf (passing s st) st.eng).pmem = (leOf s st.eng).pmem := by
  rw [leOf_passing, if_pos rfl]

theorem issueStream_passing (s : State) (st : LeStep) : issueStream (passing s st) st = issueStream s st :=
  issueStream_eq (split_passing s st)

theorem strm_passing (s : State) (st : LeStep) : strm (passing s st) st = strm s st := by
  rw [strm, issueStream_passing, leOf_passing, if_pos rfl]
  rfl

theorem insnAt_passing (s : State) (st : LeStep) : insnAt (passing s st) st = insnAt s st := by
  rw [insnAt, pmem_passing, strm_passing, insnAt]

/-- The state in which a stepped instruction runs: its address is shown (R93). -/
def stepping (s : State) (st : LeStep) : State := wr (passing s st) (Reg.LE_PC st.eng) (w32 (strm s st).pc)

theorem LeFetch.canIssue (h : LeFetch s st p) : canIssue s st = true := by
  have prog := h.prog
  have running : ((leOf s st.eng).stream (issueStream s st)).progs ≠ [] := by
    intro none
    simp [strm, none] at prog
  simp [Machine.canIssue, h.eng, h.phase, h.alive, running]

/-- A step runs the instruction at the stream's address and halts with cause 3 (R109). -/
theorem exec_debugStep {opc : Nat} (h : LeDecoded s st p n opc) (halted : (leOf s st.eng).halt = true) :
    exec (.debugStep st) s =
      .next (haltEngine (runInsn (stepping s st) st (issueStream (stepping s st) st) n opc) st.eng 3) := by
  have decoded : insnAt (passing s st) st = some n := (insnAt_passing s st).trans h.decoded
  have word := issueWord_decoded h.noEcc decoded
  rw [pmem_passing, strm_passing, h.opcode] at word
  have run : execDebugStep st s = done (haltEngine
      (issueWord (passing s st) st (issueStream (passing s st) st) none (insnAt (passing s st) st).isNone) st.eng 3) :=
    if_pos (by rw [halted, h.canIssue]; rfl)
  show execDebugStep st s = _
  rw [run, decoded, Option.isNone_some, word]
  rfl

theorem leOf_stepping_other (s : State) (st : LeStep) {f : Nat} (h : f ≠ st.eng) : leOf (stepping s st) f = leOf s f := by
  rw [stepping, leOf_wr, leOf_passing, if_neg h]

theorem strm_stepping (s : State) (st : LeStep) : strm (stepping s st) st = strm s st := strm_passing s st

/-- A step at other registers and another time reads the same operands. -/
theorem opd_stepping (s : State) (st : LeStep) (o : LeOpd) : opd (stepping s st) o = opd s o := by
  cases o <;> rfl

/-- A load puts its operand into the accumulator and goes to the next word (R76). -/
theorem primaryPass_ld (s : State) (st : LeStep) (p : Nat) (o : LeOpd) :
    primaryPass s st (issueStream s st) p (.ld false o) =
      { acc := opd s o, stack := (strm s st).stack, next := (strm s st).pc + 1 } := by
  cases o <;> rfl

/-- Only a live load can diverge (R104). -/
theorem divergence_ld (s : State) (st : LeStep) (e : Nat) (o : LeOpd) (split : Bool) :
    divergence s e (opdValue s (.ld false o) st split).2 = s := rfl

/-- A load runs without a fault and without a mismatch, so its step releases it. -/
theorem runInsn_stepping_ld {o : LeOpd} {opc : Nat} (h : LeDecoded s st p (.ld false o) opc) (noUpset : st.upset = {}) :
    ∃ split q cost, runInsn (stepping s st) st (issueStream (stepping s st) st) (.ld false o) opc =
      release (stepping s st) st.eng (issueStream (stepping s st) st) split
        { acc := opd s o, stack := (strm s st).stack, next := (strm s st).pc + 1 } q cost := by
  have stream : (leOf (stepping s st) st.eng).stream (issueStream (stepping s st) st) = strm s st := strm_stepping s st
  have primary := primaryPass_ld (stepping s st) st p o
  rw [opd_stepping, strm_stepping] at primary
  have released := runInsn_release (s := stepping s st) (st := st) (i := issueStream (stepping s st) st) (p := p)
    (n := .ld false o) opc (by rw [stream]; exact h.prog)
    (fun checked => by rw [stream]; exact h.shadow ((split_passing s st).symm.trans checked))
    noUpset (by rw [primary]) LeInsn.noConfusion (by rw [primary]; exact h.fits LeInsn.noConfusion)
  rw [primary, divergence_ld] at released
  exact ⟨_, _, _, released⟩

end Issue

/-- Settles O16: each command ends in the state that its `exec_` lemma names; a step's load is `runInsn_stepping_ld`. -/
theorem leDebugger : Obligations.LeDebugger := by
  intro s st e p k t o c he
  refine ⟨fun hp set closed allowed => ?opens, fun hp clear isOpen => ?closes, fun hp isOpen runs => ?halt,
    fun ready halted noUpset => ?step, fun hp halted h0 h1 => ?resume, fun hp halted target => ?acc,
    fun hp halted target cls safe => ?cell⟩
  case opens =>
    refine ⟨_, exec_debugOpen_opens he hp set closed allowed, ?_, ?_, ?_, debugOpened_le ..,
      onlyRegs_debugOpened (touch s c.session) e c⟩
    · rw [rd_debugOpened, flag_putFlag_same _ _ (by decide)]
    · rw [rd_debugOpened, putFlag, debugFields, field_putField_other _ _ (by decide) (.inl (by decide)),
        field_putField_other _ _ (by decide) (.inr (by decide)), field_putField_same _ _ (by decide)]
      exact Nat.mod_eq_of_lt (field_lt ..)
    · rw [rd_debugOpened, putFlag, debugFields, field_putField_other _ _ (by decide) (.inl (by decide)),
        field_putField_same _ _ (by decide)]
      exact Nat.mod_eq_of_lt (field_lt ..)
  case closes =>
    refine ⟨_, exec_debugOpen_closes he hp clear isOpen, ?_, ?_, fun f hf => ?_,
      onlyRegs_debugClosed (touch s c.session) e c⟩
    · rw [debugClosed, rd_closeDebug, flag, BitVec.getLsbD_and]
      exact Bool.and_false _
    · rw [debugClosed, leOf_closeDebug, if_pos rfl, leOf_settingWritten, leOf_wr, leOf_touch]
    · rw [debugClosed, leOf_closeDebug, if_neg hf, leOf_settingWritten, leOf_wr, leOf_touch]
  case halt =>
    exact ⟨_, exec_debugHalt he hp isOpen runs, leOf_setLe_same .., fun f hf => leOf_setLe_other _ _ hf, fun _ _ => rfl⟩
  case step =>
    obtain ⟨split, q, cost, released⟩ := runInsn_stepping_ld ready noUpset
    refine ⟨_, exec_debugStep ready halted, ?_⟩
    rw [released]
    refine ⟨?_, ?_, ?_, field_cause_haltEngine _ _ (by decide), field_halted_haltEngine .., fun f hf => ?_⟩
    · rw [strm_haltEngine, strm_release]
      rfl
    · rw [strm_haltEngine, strm_release]
      rfl
    · rw [leOf_haltEngine, if_pos rfl]
    · rw [leOf_haltEngine, if_neg hf, leOf_release, if_neg hf, leOf_stepping_other _ _ hf]
  case resume =>
    refine ⟨_, exec_debugResume t he hp halted, ?_⟩
    have one := resumeClock_one (s := atTime (touch s c.session) t) t h0 h1
    simp only [one]
    refine ⟨?_, ?_, field_wrField_same _ _ 30 0 (by decide), onlyRegs_wrField (fun _ _ => rfl) List.mem_cons_self⟩
    · rw [leOf_wrField, leOf_setLe_same]
      rfl
    · exact congrArg ClassState.since (classOf_setClass_same ..)
  case acc =>
    have stream (f) : (leOf (withObserved (touch s c.session) e f) e).stream (observed s e) =
        f ((leOf s e).stream (observed s e)) := stream_withObserved (touch s c.session) e f
    refine ⟨_, exec_debugWrite_acc he hp halted target, ?_, ?_, fun f hf => leOf_withObserved_other _ _ hf, fun _ _ => rfl⟩
    · exact congrArg LeStream.acc (stream _)
    · exact congrArg LeStream.accS (stream _)
  case cell =>
    have stream (f) : (leOf (withObserved (touch s c.session) e f) e).stream (observed s e) =
        f ((leOf s e).stream (observed s e)) := stream_withObserved (touch s c.session) e f
    refine ⟨_, exec_debugWrite_cell he hp halted target cls safe, ?_, ?_, fun f hf => leOf_withObserved_other _ _ hf,
      fun _ _ => rfl⟩
    · exact (congrArg (fun x : LeStream => tget none x.hbuf (field (rd s (Reg.LE_CELL_SEL e)) 15 0)) (stream _)).trans
        (tget_withCell ..)
    · exact (congrArg LeStream.acc (stream _)).trans (acc_withCell ..)

end Sys2Proof.Machine
end

section
/-! The application cores: stores, writes with their journal, and the faults that stop a class (R53, R121–R128): O24. -/

namespace Sys2Proof.Machine

open Sys2Proof

/-! ### The running class -/

theorem runningClass_eq_some {s : State} {core k : Nat} : runningClass s core = some k ↔
    core < 4 ∧ s.grid.phase = 1 ∧ (acOf s core).stalled = false ∧ (acOf s core).cls = some k := by
  rw [runningClass]
  split <;> simp_all

theorem acOf_setAc_other (s : State) {core c : Nat} (x : AcCore) (h : c ≠ core) : acOf (setAc s core x) c = acOf s c := by
  rw [acOf_setAc, if_neg h]

/-! ### What the clock does not decide -/

@[simp] theorem classCfg_atTime (s : State) (t k : Nat) : classCfg (atTime s t) k = classCfg s k := rfl

@[simp] theorem storeOk_atTime (s : State) (t ep part : Nat) : storeOk (atTime s t) ep part = storeOk s ep part := rfl

@[simp] theorem rollingBack_atTime (s : State) (t part : Nat) : rollingBack (atTime s t) part = rollingBack s part := rfl

@[simp] theorem areaKind_atTime (s : State) (t part a : Nat) : areaKind (atTime s t) part a = areaKind s part a := rfl

@[simp] theorem firstRefused_atTime (s : State) (t port addr len m : Nat) (k : AccKind) :
    firstRefused (atTime s t) port addr len m k = firstRefused s port addr len m k := rfl

/-! ### A class that is stopped -/

@[simp] theorem startFlush_fbx (s : State) (cause : Nat) : (startFlush s cause).fbx = s.fbx := (startFlush_keeps ..).same .fbx rfl

@[simp] theorem startFlush_sched (s : State) (cause : Nat) : (startFlush s cause).sched = s.sched :=
  (startFlush_keeps ..).same .sched rfl

@[simp] theorem rd_startFlush (s : State) (cause a : Nat) : rd (startFlush s cause) a = rd s a := by
  unfold startFlush
  split <;> rfl

section Charge

variable (s : State) (k t : Nat) (st : RunState)

@[simp] theorem chargeClass_fbx : (chargeClass s k t st).fbx = s.fbx := rfl

@[simp] theorem rd_chargeClass (a : Nat) : rd (chargeClass s k t st) a = rd s a := rfl

/-- The class that leaves its engine is in the state that it leaves in. -/
theorem classOf_chargeClass_same : (classOf (chargeClass s k t st) k).st = st :=
  congrArg ClassState.st (classOf_setClass_same s k _)

/-- Charging a class takes from the budget of its partition, and leaves the reaction that is due. -/
theorem reactDue_chargeClass (p : Nat) : (partOf (chargeClass s k t st) p).reactDue = (partOf s p).reactDue := by
  unfold chargeClass spend
  rw [partOf_setPart]
  split
  · next same =>
    subst same
    rfl
  · rfl

end Charge

section Core

variable {s : State} {core k : Nat}

/-- A stopped class leaves its core, and its stores are dropped (R125). -/
theorem acOf_stopAc_same (t : Nat) (h : (acOf s core).cls = some k) :
    (acOf (stopAc s core t) core).cls = none ∧ (acOf (stopAc s core t) core).stores = [] := by
  simp only [stopAc, h, acOf_raise, wrField, acOf_wr]
  exact ⟨congrArg AcCore.cls (acOf_setAc_same s core _), congrArg AcCore.stores (acOf_setAc_same s core _)⟩

/-- The words that a stopped class wrote stand until the rollback ends (R125). -/
theorem mem_stopAc (t : Nat) (h : (acOf s core).cls = some k) : (stopAc s core t).fbx.mem = s.fbx.mem := by
  simp only [stopAc, h, raise_fbx, wrField, wr_fbx]
  rfl

/-- Stopping a class writes the journal status of its core and the event statuses of its block and of the recorder. -/
theorem rd_stopAc {a : Nat} (t : Nat) (h : (acOf s core).cls = some k) (hj : a ≠ Reg.FBX_JRNL_STATn core)
    (he : a ≠ Reg.FBX_EVT_STAT) (hr : a ≠ Reg.REC_EVT_STAT) : rd (stopAc s core t) a = rd s a := by
  simp only [stopAc, h]
  refine (rd_raise _ _ _ _ hr ?_).trans (rd_wrField_other _ _ _ _ hj)
  exact he

/-! ### A fault of a core -/

/-- The state after a fault is counted and shown (R126). -/
def faultShown (s : State) (core k cause addr : Nat) : State :=
  wr (wr (bump s Reg.FBX_FAULT_CNT) Reg.FBX_FAULT_LAST
    (w32 (cause * 2 ^ 28 + core * 2 ^ 26 + (classCfg s k).part * 2 ^ 16 + k))) Reg.FBX_FAULT_ADDR (w32 addr)

/-- A fault ends with the class stopped. Before, it is shown and its partition's reaction falls due; the core, memory and every
other register but the event statuses stand as they did. -/
theorem acFault_cases (cause addr t : Nat) (h : (acOf s core).cls = some k) : ∃ v,
    acFault s core cause addr t = stopAc (chargeClass v k t .stopped) core t ∧ acOf v core = acOf s core ∧
    v.fbx.mem = s.fbx.mem ∧ (partOf v (classCfg s k).part).reactDue = true ∧
    ∀ a, a ≠ Reg.FBX_EVT_STAT → a ≠ Reg.REC_EVT_STAT → rd v a = rd (faultShown s core k cause addr) a := by
  unfold acFault
  extract_lets -merge +onlyGivenNames x
  split
  · next idle => exact absurd (h.symm.trans idle) (Option.some_ne_none k)
  · next j running =>
    obtain rfl : j = k := Option.some.inj (running.symm.trans h)
    extract_lets -merge +onlyGivenNames n part counted shown again fbx noted event reported reacting
    have isShown : shown = faultShown s core j cause addr := rfl
    have keeps : shown.fbx = s.fbx := (wr_fbx ..).trans ((wr_fbx ..).trans (wr_fbx ..))
    clear_value shown again
    have cores : noted.fbx.cores = s.fbx.cores := by rw [← keeps]
    have mem : noted.fbx.mem = s.fbx.mem := by rw [← keeps]
    have regs : noted.regs = (faultShown s core j cause addr).regs := by rw [← isShown]
    clear_value noted
    have sameFbx : reported.fbx = noted.fbx := by
      unfold reported
      split
      · rfl
      · exact record_fbx ..
    have sameRegs (a) (he : a ≠ Reg.FBX_EVT_STAT) (hr : a ≠ Reg.REC_EVT_STAT) : rd reported a = rd noted a := by
      unfold reported
      split
      · exact rd_wr_other _ _ _ _ he
      · exact (rd_record _ _ _ hr).trans (rd_wr_other _ _ _ _ he)
    clear_value reported
    refine ⟨reacting, rfl, ?_, ?_, ?_, fun a he hr => ?_⟩
    · rw [acOf, startFlush_fbx]
      exact congrArg (tget {} · core) ((congrArg Fbx.cores sameFbx).trans cores)
    · rw [startFlush_fbx]
      exact (congrArg Fbx.mem sameFbx).trans mem
    · rw [partOf, startFlush_sched]
      exact congrArg PartState.reactDue (partOf_setPart_same ..)
    · rw [rd_startFlush]
      exact (sameRegs a he hr).trans (congrArg (Tbl.read regReset · a) regs)

/-- What a fault of class k on a core leaves: the class is stopped without its stores, its partition's reaction is due, the
fault is shown and counted, and memory and images stand as they were (R122, R126). -/
structure FaultStops (s u : State) (core k cause addr : Nat) : Prop where
  idle : (acOf u core).cls = none
  dropped : (acOf u core).stores = []
  stopped : (classOf u k).st = .stopped
  reacts : (partOf u (classCfg s k).part).reactDue = true
  last : rd u Reg.FBX_FAULT_LAST = w32 (cause * 2 ^ 28 + core * 2 ^ 26 + (classCfg s k).part * 2 ^ 16 + k)
  address : rd u Reg.FBX_FAULT_ADDR = w32 addr
  count : rd u Reg.FBX_FAULT_CNT = w32 (satAdd 0xFFFFFFFF (rd s Reg.FBX_FAULT_CNT).toNat 1)
  mem : u.fbx.mem = s.fbx.mem
  sig : u.sig = s.sig

/-- The registers of a fault are no journal status. -/
theorem ne_jrnlStat {a : Nat} (core : Nat) (h : a < Reg.FBX_JRNL_STATn 0) : a ≠ Reg.FBX_JRNL_STATn core :=
  Nat.ne_of_lt (Nat.lt_of_lt_of_le h (Nat.le_add_right ..))

theorem acFault_stops (cause addr t : Nat) (h : (acOf s core).cls = some k) :
    FaultStops s (acFault s core cause addr t) core k cause addr := by
  have sig := (acFault_keeps s core cause addr t).same .sig rfl
  obtain ⟨v, eq, cores, mem, due, regs⟩ := acFault_cases cause addr t h
  have running : (acOf (chargeClass v k t .stopped) core).cls = some k := (congrArg AcCore.cls cores).trans h
  have sched := (stopAc_keeps (chargeClass v k t .stopped) core t).same .sched rfl
  obtain ⟨idle, dropped⟩ := acOf_stopAc_same t running
  have shown {a : Nat} (hj : a < Reg.FBX_JRNL_STATn 0) (he : a ≠ Reg.FBX_EVT_STAT) (hr : a ≠ Reg.REC_EVT_STAT) :
      rd (acFault s core cause addr t) a = rd (faultShown s core k cause addr) a := by
    rw [eq, rd_stopAc t running (ne_jrnlStat core hj) he hr, rd_chargeClass, regs a he hr]
  exact {
    sig
    idle := by rw [eq, idle]
    dropped := by rw [eq, dropped]
    stopped := by
      rw [eq, classOf, sched]
      exact classOf_chargeClass_same ..
    reacts := by
      rw [eq, partOf, sched]
      exact (reactDue_chargeClass ..).trans due
    last := by
      rw [shown (by decide) (by decide) (by decide), faultShown, rd_wr_other _ _ _ _ (by decide), rd_wr_same]
    address := by rw [shown (by decide) (by decide) (by decide), faultShown, rd_wr_same]
    count := by
      rw [shown (by decide) (by decide) (by decide), faultShown, rd_wr_other _ _ _ _ (by decide),
        rd_wr_other _ _ _ _ (by decide)]
      exact rd_wr_same ..
    mem := by rw [eq, mem_stopAc t running, chargeClass_fbx, mem] }

/-- What a fault leaves is told from the state that it meets by the settings, the fault counter, memory and images alone. -/
theorem FaultStops.of_same {u v : State} {cause addr : Nat} (h : FaultStops v u core k cause addr) (hcfg : v.cfg = s.cfg)
    (hcnt : rd v Reg.FBX_FAULT_CNT = rd s Reg.FBX_FAULT_CNT) (hmem : v.fbx.mem = s.fbx.mem) (hsig : v.sig = s.sig) :
    FaultStops s u core k cause addr := by
  have cfg : classCfg v k = classCfg s k := by rw [classCfg, hcfg, classCfg]
  obtain ⟨idle, dropped, stopped, reacts, last, address, count, mem, sig⟩ := h
  exact ⟨idle, dropped, stopped, cfg ▸ reacts, cfg ▸ last, address, hcnt ▸ count, mem.trans hmem, sig.trans hsig⟩

/-! ### Stores -/

/-- The core with one more store held for the seal (R122, R125). -/
def AcCore.holding (x : AcCore) (v : StoreVal) : AcCore := { x with stores := x.stores ++ [v] }

theorem exec_acStore (core : Nat) (op : AcOp) (raises : Option Nat) (addr t : Nat) (s : State) :
    exec (.acStore core op raises addr t) s = execAcStore core op raises addr t s := by
  rfl

theorem exec_acStore_bin {ep : Nat} (v : Tetrad) (q : Qual) (addr t : Nat) (run : runningClass s core = some k)
    (ok : storeOk s ep (classCfg s k).part = true) (bin : isBinary ep = true) :
    exec (.acStore core (.bin ep v q) none addr t) s =
      .next (setAc (atTime s t) core ((acOf s core).holding { ep := ep, tet := v, qual := q })) := by
  obtain ⟨hcore, hphase, awake, hcls⟩ := runningClass_eq_some.1 run
  simp [exec_acStore, execAcStore, hcls, awake, hphase, Nat.not_le.2 hcore, ok, bin, done, AcCore.holding]

theorem exec_acStore_ana {ep : Nat} (w : Word) (q : Qual) (addr t : Nat) (run : runningClass s core = some k)
    (ok : storeOk s ep (classCfg s k).part = true) (ana : isBinary ep = false) :
    exec (.acStore core (.ana ep w q) none addr t) s =
      .next (setAc (atTime s t) core ((acOf s core).holding { ep := ep, val := w, qual := q })) := by
  obtain ⟨hcore, hphase, awake, hcls⟩ := runningClass_eq_some.1 run
  simp [exec_acStore, execAcStore, hcls, awake, hphase, Nat.not_le.2 hcore, ok, ana, done, AcCore.holding]

/-- A store that the directory does not allow is reported and stops the class (R53, R126). -/
theorem exec_acStore_rejected {ep : Nat} (v : Tetrad) (q : Qual) (addr t : Nat) (run : runningClass s core = some k)
    (no : storeOk s ep (classCfg s k).part = false) : exec (.acStore core (.bin ep v q) none addr t) s = .next
      (acFault (storeRejected (atTime s t) ((1 + core) * 128 + (classCfg s k).part) (classCfg s k).part ep) core 4 addr t) := by
  obtain ⟨hcore, hphase, awake, hcls⟩ := runningClass_eq_some.1 run
  simp [exec_acStore, execAcStore, hcls, awake, hphase, Nat.not_le.2 hcore, no, done]

theorem exec_acStore_raised {cause : Nat} (op : AcOp) (addr t : Nat) (run : runningClass s core = some k)
    (own : cause = 1 ∨ cause = 2 ∨ cause = 7) :
    exec (.acStore core op (some cause) addr t) s = .next (acFault (atTime s t) core cause addr t) := by
  obtain ⟨hcore, hphase, awake, hcls⟩ := runningClass_eq_some.1 run
  simp [exec_acStore, execAcStore, hcls, awake, hphase, Nat.not_le.2 hcore, own, done]

theorem exec_acStore_mem {a : Nat} (d : DWord) (addr t : Nat) (run : runningClass s core = some k)
    (allowed : firstRefused s 0 (8 * a) 8 ((1 + core) * 128 + (classCfg s k).part) .write = none)
    (still : rollingBack s (classCfg s k).part = false) : exec (.acStore core (.mem (8 * a) d) none addr t) s =
      .next (memWrite (atTime s t) core (classCfg s k).part a d addr t) := by
  obtain ⟨hcore, hphase, awake, hcls⟩ := runningClass_eq_some.1 run
  simp [exec_acStore, execAcStore, hcls, awake, hphase, Nat.not_le.2 hcore, allowed, still, done]

/-! ### Writes of partition memory -/

/-- The core with a word of an undo area journaled at its first write in the run (R125). -/
def AcCore.journaled (x : AcCore) (a : Nat) (old : DWord) : AcCore :=
  { x with journal := if (x.journal.lookup a).isNone then x.journal ++ [(a, old)] else x.journal }

/-- The state after the write of a word of an undo area. -/
def undoWritten (s : State) (core a : Nat) (v : DWord) : State :=
  let x := (acOf s core).journaled a (tget 0 s.fbx.mem a)
  let journaled := setAc s core x
  peakField { journaled with fbx := { journaled.fbx with mem := tset 0 journaled.fbx.mem a v } } (Reg.FBX_JRNL_STATn core) 29 16
    x.journal.length

theorem memWrite_undo {part a : Nat} (v : DWord) (addr t : Nat) (kind : areaKind s part a = some 2)
    (room : (acOf s core).journal.length < 8192) : memWrite s core part a v addr t = undoWritten s core a v := by
  rw [memWrite, kind]
  extract_lets -merge +onlyGivenNames two fresh ret
  rw [if_neg (by simp [room]), if_neg (by simp)]
  rfl

theorem mem_undoWritten (s : State) (core a : Nat) (v : DWord) :
    (undoWritten s core a v).fbx.mem = tset 0 s.fbx.mem a v := by
  rw [undoWritten, peakField, wrField, wr_fbx]
  rfl

theorem acOf_undoWritten (s : State) (core a : Nat) (v : DWord) :
    acOf (undoWritten s core a v) core = (acOf s core).journaled a (tget 0 s.fbx.mem a) := by
  rw [undoWritten, peakField, wrField, acOf_wr]
  exact acOf_setAc_same ..

theorem onlyRegs_undoWritten (s : State) (core a : Nat) (v : DWord) :
    onlyRegs [Reg.FBX_JRNL_STATn core] s (undoWritten s core a v) :=
  onlyRegs_wrField (fun _ _ => rfl) List.mem_cons_self

theorem undoWritten_keeps (s : State) (core a : Nat) (v : DWord) : Keeps (maskParts [.fbx, .rFBX]) s (undoWritten s core a v) :=
  Keeps.peakFieldOf (Reg.FBX_JRNL_STATn_block ..) rfl (Keeps.upd_fbx rfl (Keeps.step (setAc_keeps ..) rfl (Keeps.refl ..)))

theorem acOf_storeRejected (s : State) (master part ep c : Nat) : acOf (storeRejected s master part ep) c = acOf s c := by
  have fbx : (storeRejected s master part ep).fbx = s.fbx := (storeRejected_keeps ..).same .fbx rfl
  rw [acOf, fbx, acOf]

/-- A rejected store leaves what a fault of the class is told from (R53). -/
theorem FaultStops.of_storeRejected {u : State} {master part ep cause addr : Nat}
    (h : FaultStops (storeRejected s master part ep) u core k cause addr) : FaultStops s u core k cause addr := by
  have same {p : Part} (hp : (0x2000400001008 : Nat).testBit p.bit = false) : p.same s (storeRejected s master part ep) :=
    (storeRejected_keeps ..).same p hp
  exact h.of_same (same (p := .cfg) rfl) (same (p := .rFBX) rfl (by decide) _ rfl)
    (congrArg Fbx.mem (same (p := .fbx) rfl)) (same (p := .sig) rfl)

end Core

/-- Settles O24: the five ends of the command, by the lemma about each; a fault leaves what `FaultStops` names. -/
theorem acStores : Obligations.AcStores := by
  intro s core k ep a addr t cause v w d q hcore hphase hcls awake
  have run : runningClass s core = some k := runningClass_eq_some.2 ⟨hcore, hphase, awake, hcls⟩
  have held (x : AcCore) : onlyParts [.grid, .fbx] s (setAc (atTime s t) core x) :=
    Keeps.onlyParts (Keeps.step (setAc_keeps ..) rfl (Keeps.step (atTime_keeps ..) rfl (Keeps.refl ..)))
  refine ⟨fun ok bin => ?binary, fun ok ana => ?analogue, fun allowed still kind room => ?write, fun no => ?rejected,
    fun own => ?raised⟩
  case binary =>
    exact ⟨_, exec_acStore_bin v q addr t run ok bin, acOf_setAc_same .., fun c hc => acOf_setAc_other _ _ hc, held _⟩
  case analogue =>
    exact ⟨_, exec_acStore_ana w q addr t run ok ana, acOf_setAc_same .., fun c hc => acOf_setAc_other _ _ hc, held _⟩
  case write =>
    refine ⟨_, exec_acStore_mem d addr t run allowed still, ?_⟩
    rw [memWrite_undo (s := atTime s t) d addr t kind room]
    refine ⟨?_, fun b hb => ?_, ?_, ?_, onlyRegs_undoWritten (atTime s t) core a d, ?_⟩
    · rw [mem_undoWritten, tget_tset_same]
    · rw [mem_undoWritten, tget_tset_other _ _ _ _ _ hb, atTime_fbx]
    · rw [acOf_undoWritten]
      rfl
    · rw [acOf_undoWritten]
      rfl
    · exact Keeps.onlyParts (Keeps.step (undoWritten_keeps ..) rfl (Keeps.step (atTime_keeps ..) rfl (Keeps.refl ..)))
  case rejected =>
    refine ⟨_, exec_acStore_rejected v q addr t run no, ?_⟩
    have stops := acFault_stops 4 addr t (core := core) (k := k)
      (s := storeRejected (atTime s t) ((1 + core) * 128 + (classCfg s k).part) (classCfg s k).part ep)
      (by rw [acOf_storeRejected, acOf_atTime, hcls])
    obtain ⟨idle, dropped, stopped, reacts, last, address, count, mem, sig⟩ := stops.of_storeRejected
    exact ⟨idle, dropped, stopped, reacts, last, address, count, mem, sig⟩
  case raised =>
    refine ⟨_, exec_acStore_raised _ addr t run own, ?_⟩
    obtain ⟨idle, dropped, stopped, reacts, last, address, count, mem, sig⟩ :=
      acFault_stops cause addr t (s := atTime s t) hcls
    exact ⟨idle, dropped, stopped, reacts, last, address, count, mem, sig⟩

end Sys2Proof.Machine
end

section
/-! The library calls of an application core and its telegram FIFO (R123, R134–R137): O25. -/

namespace Sys2Proof.Machine

open Sys2Proof

section Core

variable {s : State} {core k : Nat}

/-! ### Library calls -/

theorem exec_frameNow (run : runningClass s core = some k) :
    exec (.frameNow core) s = .next (answer s (.value s.grid.frame)) := by
  show execFrameNow core s = _
  simp only [execFrameNow, run, done]

theorem exec_taiFreeze (run : runningClass s core = some k) : exec (.taiFreeze core) s = .next (answer s
    (.values [s.grid.freezeAt / 1000000000, s.grid.freezeAt % 1000000000, (rd s Reg.TIM_TQ).toNat])) := by
  show execTaiFreeze core s = _
  simp only [execTaiFreeze, run, done]

theorem exec_monoNow (run : runningClass s core = some k) :
    exec (.monoNow core) s = .next (answer s (.value s.grid.mono)) := by
  show execMonoNow core s = _
  simp only [execMonoNow, run, done]

theorem exec_sqRead {ep : Nat} (run : runningClass s core = some k) (sq : dSq (dirEntry s ep) = true) :
    exec (.sqRead core ep) s = .next (answer s (.value (frozenSq s ep).toNat)) := by
  show execSqRead core ep s = _
  simp only [execSqRead, run, if_pos sq, done]

/-- The side quality of an entry that has none is a fresh value (R54). -/
theorem exec_sqRead_free {ep : Nat} (run : runningClass s core = some k) (sq : dSq (dirEntry s ep) = false) :
    exec (.sqRead core ep) s = .next (answer (drawWord s).2 (.value ((drawWord s).1.toNat % 65536))) := by
  show execSqRead core ep s = _
  simp only [execSqRead, run, if_neg (Bool.eq_false_iff.1 sq), done]

/-! ### Records of a class -/

/-- The core with one more record counted in the run (R123). -/
def AcCore.counted (x : AcCore) : AcCore := { x with recs := x.recs + 1 }

/-- The record that REC_EVENT asks for: the class's severity, partition and words (R123). -/
def classEvent (part sev : Nat) (ps : List Word) : RecReq :=
  { blk := 4, ev := 0, sev := some sev, part := part, p := (upto 4).map fun i => some ((ps[i]?).getD 0).toNat }

theorem exec_recEvent {sev : Nat} (ps : List Word) (run : runningClass s core = some k) (few : (acOf s core).recs < 16)
    (info : sev ≤ 1) : exec (.recEvent core sev ps) s =
      .next (recordBare (setAc s core (acOf s core).counted) 1 (classEvent (classCfg s k).part sev ps)) := by
  show execRecEvent core sev ps s = _
  simp only [execRecEvent, run, if_pos (And.intro few info), done]
  rfl

theorem exec_recEvent_excess (sev : Nat) (ps : List Word) (run : runningClass s core = some k)
    (many : 16 ≤ (acOf s core).recs) : exec (.recEvent core sev ps) s = .next (setAc s core (acOf s core).counted) := by
  show execRecEvent core sev ps s = _
  simp only [execRecEvent, run, if_neg fun h : _ ∧ _ => Nat.not_lt.2 many h.1, done]
  rfl

/-- With room in the buffer a record is not discarded, and no register tells of it (R475). -/
theorem regs_record (s : State) (r : RecReq) (room : s.rcd.buf.length < 12288) : (record s r).regs = s.regs := by
  have alarm : s.rcd.buf.length < 16384 := Nat.lt_trans room (by decide)
  unfold record enterRec
  split <;> rfl

/-- The words of the class stand in the record as they are (R123, R472). -/
theorem recOf_words (s : State) {r : RecReq} {ps : List Word} (h : r.p = (upto 4).map fun i => some ((ps[i]?).getD 0).toNat) :
    (recOf s r).p = (List.range 4).map fun i => (ps[i]?).getD 0 := by
  refine List.map_congr_left fun i hi => ?_
  have param : r.p[i]? = some (some ((ps[i]?).getD 0).toNat) := by
    simp [h, upto, List.mem_range.1 hi]
  rw [recParamAt, param]
  exact BitVec.ofNat_toNat ..

/-- A list of parts needs no block of registers that is unchanged. -/
theorem onlyParts_of_regs {l : List Part} {b : Nat} {s u : State} (h : onlyParts (.regs b :: l) s u) (regs : u.regs = s.regs) :
    onlyParts l s u := by
  intro p hp
  by_cases same : p = .regs b
  · subst same
    exact fun _ a _ => congrArg (Tbl.read regReset · a) regs
  · exact h p (by simp [same, hp])

/-! ### The telegram FIFO -/

/-- The core once a word of a partition's telegrams is read. -/
def AcCore.tgTaken (x : AcCore) (part : Nat) (w : DWord) : AcCore :=
  { x with stalled := false, cursors := tmod ({} : TgCursor) x.cursors part (·.step w) }

theorem cursor_tgTaken (x : AcCore) (part : Nat) (w : DWord) :
    tget ({} : TgCursor) (x.tgTaken part w).cursors part = (tget {} x.cursors part).step w :=
  tget_tmod_same ({} : TgCursor) _ _ fun c => c.step w

/-- The cursor past the rest of its telegram (R136). -/
def TgCursor.dropped (c : TgCursor) : TgCursor := { taken := c.taken + c.left, left := 0 }

theorem tgReadAt_word {part : Nat} {w : DWord} (t : Nat) (next : nextTgWord (acOf s core) part = some w) :
    tgReadAt s core part t = answer (setAc s core ((acOf s core).tgTaken part w)) (.value w.toNat) := by
  simp only [tgReadAt, next]
  rfl

theorem tgReadAt_marker {part t : Nat} (spent : nextTgWord (acOf s core) part = none)
    (ended : (acOf s core).closed = true ∨ s.grid.freezeAt + 360000 ≤ t) : tgReadAt s core part t =
      answer (setAc s core { acOf s core with stalled := false }) (.value (endMarker part).toNat) := by
  simp only [tgReadAt, spent]
  exact if_pos (by simpa using ended)

theorem tgReadAt_stall {part t : Nat} (spent : nextTgWord (acOf s core) part = none) (opened : (acOf s core).closed = false)
    (early : t < s.grid.freezeAt + 360000) : tgReadAt s core part t =
      answer (setAc s core { acOf s core with stalled := true }) .stall := by
  simp only [tgReadAt, spent]
  exact if_neg (by simp [opened, early])

theorem exec_tgRead (t : Nat) (run : runningClass s core = some k) :
    exec (.tgRead core t) s = .next (tgReadAt (atTime s t) core (classCfg s k).part t) := by
  show execTgRead core t s = _
  simp only [execTgRead, run, done]

theorem exec_tgReadStallEnd (t : Nat) (hcore : core < 4) (hcls : (acOf s core).cls = some k)
    (stalled : (acOf s core).stalled = true) :
    exec (.tgReadStallEnd core t) s = .next (tgReadAt (atTime s t) core (classCfg s k).part t) := by
  show execTgReadStallEnd core t s = _
  simp only [execTgReadStallEnd, hcls, if_pos (And.intro hcore stalled), done]

theorem exec_tgDrop (run : runningClass s core = some k) : exec (.tgDrop core) s = .next (setAc s core { acOf s core with
    cursors := tmod ({} : TgCursor) (acOf s core).cursors (classCfg s k).part (·.dropped) }) := by
  show execTgDrop core s = _
  simp only [execTgDrop, run, done]
  rfl

/-- An answer to a core at an instant: the core is as it was set, no other core is touched, and no part but the clock, the
answer and the cores. -/
theorem answered (s : State) (core t : Nat) (x : AcCore) (r : Resp) :
    acOf (answer (setAc (atTime s t) core x) r) core = x ∧
    (∀ c, c ≠ core → acOf (answer (setAc (atTime s t) core x) r) c = acOf s c) ∧
    onlyParts [.resp, .grid, .fbx] s (answer (setAc (atTime s t) core x) r) :=
  ⟨acOf_setAc_same .., fun _ hc => acOf_setAc_other _ _ hc, Keeps.onlyParts (Keeps.step (answer_keeps ..) rfl
    (Keeps.step (setAc_keeps ..) rfl (Keeps.step (atTime_keeps ..) rfl (Keeps.refl ..))))⟩

/-- What a read of a word leaves: the word is answered, the core runs on, and its cursor has passed the word (R136). -/
theorem answered_word (s : State) (core part t : Nat) (w : DWord) :
    let u := answer (setAc (atTime s t) core ((acOf s core).tgTaken part w)) (.value w.toNat)
    u.resp = .value w.toNat ∧ (acOf u core).stalled = false ∧
    tget ({} : TgCursor) (acOf u core).cursors part = (tget ({} : TgCursor) (acOf s core).cursors part).step w ∧
    (acOf u core).drain = (acOf s core).drain ∧ (∀ c, c ≠ core → acOf u c = acOf s c) ∧ onlyParts [.resp, .grid, .fbx] s u := by
  intro u
  obtain ⟨same, others, parts⟩ := answered s core t ((acOf s core).tgTaken part w) (.value w.toNat)
  exact ⟨rfl, by rw [same]; rfl, by rw [same, cursor_tgTaken], by rw [same]; rfl, others, parts⟩

end Core

/-- Settles O25: each call ends in the state that its lemma names; a read of the FIFO finds a word, the end or nothing yet. -/
theorem acLibraryAndTelegrams : Obligations.AcLibraryAndTelegrams := by
  refine ⟨fun s core k ep sev ps hcore hphase hcls awake => ?library, fun s core k t w hcore hphase hcls => ?telegrams⟩
  case library =>
    have run : runningClass s core = some k := runningClass_eq_some.2 ⟨hcore, hphase, awake, hcls⟩
    refine ⟨⟨_, exec_frameNow run, rfl⟩, ⟨_, exec_taiFreeze run, rfl⟩, ⟨_, exec_monoNow run, rfl⟩,
      fun sq => ⟨_, exec_sqRead run sq, rfl⟩, fun sq => ?free, fun few info room => ?recorded, fun many => ?excess⟩
    case free =>
      exact ⟨_, exec_sqRead_free run sq, ⟨_, Nat.mod_lt _ (by decide), rfl⟩, Keeps.onlyParts
        (Keeps.step (answer_keeps ..) rfl (Keeps.step (drawWord_keeps ..) rfl (Keeps.refl ..)))⟩
    case recorded =>
      refine ⟨_, exec_recEvent ps run few info, ⟨_, record_buf _ _ room, rfl, rfl, rfl, recOf_words _ rfl⟩, ?_,
        onlyParts_of_regs (b := 17) (Keeps.onlyParts ?_) (regs_record _ _ room)⟩
      · rw [acOf_recordBare, acOf_setAc_same]
        rfl
      · exact Keeps.step (recordBare_keeps ..) rfl (Keeps.step (setAc_keeps ..) rfl (Keeps.refl ..))
    case excess =>
      exact ⟨_, exec_recEvent_excess sev ps run many, Keeps.onlyParts (setAc_keeps ..)⟩
  case telegrams =>
    have running (awake : (acOf s core).stalled = false) : runningClass s core = some k :=
      runningClass_eq_some.2 ⟨hcore, hphase, awake, hcls⟩
    refine ⟨fun awake next => ?word, fun awake spent ended => ?marker, fun awake spent opened early => ?stall,
      fun stalled next => ?ends, fun awake => ?drop⟩
    case word =>
      refine ⟨_, exec_tgRead t (running awake), ?_⟩
      rw [tgReadAt_word (s := atTime s t) t next]
      exact answered_word ..
    case marker =>
      refine ⟨_, exec_tgRead t (running awake), ?_⟩
      rw [tgReadAt_marker (s := atTime s t) spent ended]
      obtain ⟨same, others⟩ :=
        answered s core t { acOf s core with stalled := false } (.value (endMarker (classCfg s k).part).toNat)
      exact ⟨rfl, same.trans (by rw [← awake]), others⟩
    case stall =>
      refine ⟨_, exec_tgRead t (running awake), ?_⟩
      rw [tgReadAt_stall (s := atTime s t) spent opened early]
      exact ⟨rfl, answered ..⟩
    case ends =>
      refine ⟨_, exec_tgReadStallEnd t hcore hcls stalled, ?_⟩
      rw [tgReadAt_word (s := atTime s t) t next]
      exact answered_word ..
    case drop =>
      refine ⟨_, exec_tgDrop (running awake), ?_, ?_, fun c hc => acOf_setAc_other _ _ hc, ?_⟩
      · rw [acOf_setAc_same]
        exact tget_tmod_same ..
      · rw [acOf_setAc_same]
      · exact Keeps.onlyParts (Keeps.step (setAc_keeps ..) rfl (Keeps.refl ..))

end Sys2Proof.Machine
end

section
/-! The streams of the sampled-value ingress: messages, the sample tick, timeouts and the counter clear (R145–R160): O26. -/

namespace Sys2Proof.Machine

open Sys2Proof

/-! ### Streams -/

@[simp] theorem svStream_atTime (s : State) (t k : Nat) : svStream (atTime s t) k = svStream s k := rfl

@[simp] theorem svCfg_atTime (s : State) (t k : Nat) : svCfg (atTime s t) k = svCfg s k := by
  rw [svCfg, atTime_cfg, svCfg]

@[simp] theorem svMatch_atTime (s : State) (t : Nat) (m : SvMsg) : svMatch (atTime s t) m = svMatch s m := rfl

theorem svStream_setStream (s : State) (k : Nat) (x : SvStream) (j : Nat) :
    svStream (setStream s k x) j = if j = k then some x else svStream s j :=
  tget_tset none s.svi.streams k j (some x)

theorem svStream_setStream_same (s : State) (k : Nat) (x : SvStream) : svStream (setStream s k x) k = some x :=
  tget_tset_same none s.svi.streams k (some x)

theorem svStream_setStream_other (s : State) {k j : Nat} (x : SvStream) (h : j ≠ k) :
    svStream (setStream s k x) j = svStream s j :=
  tget_tset_other none s.svi.streams k j (some x) h

/-- The streams are a matter of the ingress alone. -/
theorem svStream_congr {s u : State} (h : u.svi = s.svi) (k : Nat) : svStream u k = svStream s k :=
  congrArg (fun v : SviState => tget none v.streams k) h

/-- The table of streams with one entry holds that stream. -/
theorem svStream_single {s : State} {k : Nat} {x : SvStream} (h : s.svi.streams = [(k, some x)]) : svStream s k = some x := by
  rw [svStream, h]
  exact if_pos rfl

/-- A change of every entry of a table shows in what the table reads. -/
theorem tget_map {α : Type} (f : α → α) (l : Tbl (Option α)) (k : Nat) :
    tget none (l.map fun e => (e.1, e.2.map f)) k = (tget none l k).map f := by
  induction l with
  | nil => rfl
  | cons e l ih =>
    simp only [tget, List.map_cons, Tbl.read] at ih ⊢
    split
    · rfl
    · exact ih

/-! ### Event bits -/

/-- An event of the ingress shows its bit in SVI_EVT_STAT (R470). -/
theorem flag_raise_svi (s : State) (info : List Nat) {i : Nat} (h : i < 32) :
    flag (rd (raise s { blk := 6, ev := i, info := info }) Reg.SVI_EVT_STAT) i = true := by
  have set := rd_raise_evt s { blk := 6, ev := i, info := info } 0 (show Reg.SVI_EVT_STAT ≠ Reg.REC_EVT_STAT by decide)
  rw [show Reg.SVI_EVT_STAT = evtStat 6 0 from rfl, set, flag, BitVec.getLsbD_or, BitVec.getLsbD_ofNat, Nat.testBit_two_pow_self]
  simp [h]

/-- A lost source shows in the block of the signals, not in that of the ingress (R43). -/
theorem rd_sviEvt_loseSource (s : State) (eps : List Nat) (t : Nat) :
    rd (loseSource s eps t) Reg.SVI_EVT_STAT = rd s Reg.SVI_EVT_STAT :=
  (loseSource_keeps s eps t).same .rSVI rfl (by decide) _ rfl

/-! ### A stream enters a state (R155) -/

/-- The stream in a state: the state that it leaves ends its time there. -/
def SvStream.entered (x : SvStream) (st t : Nat) : SvStream := if x.state = st then x else { x with state := st, since := t }

theorem svi_svEnter (s : State) (k : Nat) (x : SvStream) (st t : Nat) :
    (svEnter s k x st t).svi = (setStream s k (x.entered st t)).svi := by
  unfold svEnter SvStream.entered
  split
  · rfl
  · extract_lets -merge +onlyGivenNames moved sig unlost
    have same : unlost.svi = moved.svi := by
      unfold unlost
      split <;> rfl
    have lost (r : RecReq) (eps : List Nat) : (loseSource (raise unlost r) eps t).svi = unlost.svi :=
      ((loseSource_keeps ..).same .svi rfl).trans (raise_svi ..)
    refine Eq.trans ?_ same
    split
    · exact raise_svi ..
    · exact lost ..
    · exact raise_svi ..
    · split
      · rfl
      · exact raise_svi ..
    · rfl

theorem svStream_svEnter (s : State) (k : Nat) (x : SvStream) (st t j : Nat) :
    svStream (svEnter s k x st t) j = if j = k then some (x.entered st t) else svStream s j :=
  (svStream_congr (svi_svEnter s k x st t) j).trans (svStream_setStream ..)

theorem flag_svEnter_lost (s : State) (k : Nat) {x : SvStream} (t : Nat) (h : x.state ≠ 4) :
    flag (rd (svEnter s k x 4 t) Reg.SVI_EVT_STAT) 3 = true := by
  simp only [svEnter, if_neg h, rd_sviEvt_loseSource]
  exact flag_raise_svi _ _ (by decide)

theorem flag_svEnter_error (s : State) (k : Nat) {x : SvStream} (t : Nat) (h : x.state ≠ 5) :
    flag (rd (svEnter s k x 5 t) Reg.SVI_EVT_STAT) 4 = true := by
  simp only [svEnter, if_neg h]
  exact flag_raise_svi _ _ (by decide)

/-! ### Messages (R145–R150) -/

theorem exec_svMessage (m : SvMsg) (t : Nat) (s : State) : exec (.svMessage m t) s = execSvMessage m t s := by
  rfl

section Message

variable {s : State} {m : SvMsg} {k t : Nat} {x : SvStream}

theorem exec_svMessage_unmatched (run : s.svi.run = true) (unmatched : svMatch s m = none) :
    exec (.svMessage m t) s = .next (bump (atTime s t) Reg.SVI_DROP_CNT) := by
  simp [exec_svMessage, execSvMessage, run, unmatched, done]

theorem exec_svMessage_faulty (run : s.svi.run = true) (hit : svMatch s m = some k) (hx : svStream s k = some x)
    (faulty : svCause (svCfg s k) m ≠ 0) : exec (.svMessage m t) s = .next (bump (setStream (atTime s t) k
      { x with err := svCause (svCfg s k) m, errSince := some (x.errSince.getD t) }) Reg.SVI_FMT_CNT) := by
  simp [exec_svMessage, execSvMessage, run, hit, hx, faulty, done]

/-- The state in which a message without a cause is counted (R145, R160). -/
def svCounted (s : State) (k : Nat) (x : SvStream) : State :=
  setSvi (setStream s k { x with errSince := none }) fun v => { v with rxSec := v.rxSec + 1 }

theorem exec_svMessage_sound (run : s.svi.run = true) (hit : svMatch s m = some k) (hx : svStream s k = some x)
    (sound : svCause (svCfg s k) m = 0) : exec (.svMessage m t) s = .next
      (m.asdus.foldl (fun u a => svPlace u k t a) (svAnchoring (svCounted (atTime s t) k x) k m t)) := by
  simp [exec_svMessage, execSvMessage, run, hit, hx, sound, done, svCounted]

/-- A synchronised sample leaves a stream that is not anchored as it is (R148, R157). -/
theorem svAnchoring_synced {a : SvAsdu} (hx : svStream s k = some x) (one : m.asdus = [a]) (free : x.anch = 0)
    (synced : svSynced a.smpSynch = true) (once : s.grid.neverSync = false) : svAnchoring s k m t = s := by
  simp [svAnchoring, hx, one, synced, once, free]

/-- The slot that a received sample fills (R149). -/
def SvAsdu.slot (a : SvAsdu) (c : SvCfg) (n t : Nat) : SvSlot :=
  { n := n, at0 := t, st := 0, synch := a.smpSynch, chans := a.chans.zipIdx.map fun p => svChan c (svSynced a.smpSynch) p.2 p.1 }

/-- The stream with a sample placed at slot i, after a lag (R149, R150). -/
def SvStream.placed (x : SvStream) (a : SvAsdu) (i : Nat) (z : SvSlot) (lag : Nat) : SvStream :=
  { x with
    lates := 0, ring := tset none x.ring i (some z), lastSynch := a.smpSynch, lastCnt := a.smpCnt
    lag := lag, lagPeak := max x.lagPeak lag }

theorem SvStream.ring_placed_same (x : SvStream) (a : SvAsdu) (i : Nat) (z : SvSlot) (lag : Nat) :
    tget none (x.placed a i z lag).ring i = some z := tget_tset_same none x.ring i (some z)

theorem SvStream.ring_placed_other (x : SvStream) (a : SvAsdu) {i j : Nat} (z : SvSlot) (lag : Nat) (h : j ≠ i) :
    tget none (x.placed a i z lag).ring j = tget none x.ring j := tget_tset_other none x.ring i j (some z) h

/-- A sample that is neither early nor late, and whose slot holds no received sample of its number, is placed (R147–R150). -/
theorem svPlace_timely {a : SvAsdu} {n : Nat} (hx : svStream s k = some x) (free : x.anch = 0)
    (hn : n = svNearest (svRate (svCfg s k).format) (svArrival s (svCfg s k) t) a.smpCnt)
    (notEarly : n ≤ svArrival s (svCfg s k) t + 1) (notLate : t < tickStart s (svDeadline (svCfg s k) n))
    (vacant : ∀ z, tget none x.ring (n % ringDepth s) = some z → z.n = n → z.st ≠ 0) :
    svPlace s k t a = setStream s k (x.placed a (n % ringDepth s) (a.slot (svCfg s k) n t)
      (min 0xFFFF ((t - svInstant s (svCfg s k) n) / 1000))) := by
  have fresh : (tget none x.ring (n % ringDepth s)).any (fun z => decide (z.n = n) && decide (z.st = 0)) = false := by
    simpa [Option.any_eq_false] using vacant
  simp only [svPlace, hx, if_pos free, ← hn, if_neg (Nat.not_lt.2 notEarly), if_neg (Nat.not_le.2 notLate), fresh]
  rfl

end Message

/-! ### Releases (R151, R152) -/

section Release

variable {s : State} {k n : Nat} {x : SvStream}

/-- The stream that shows a received sample: a gap ends (R151). -/
def SvStream.shows (x : SvStream) (z : SvSlot) : SvStream :=
  { x with inGap := false, runlen := satAdd 0xFFFF x.runlen 1, unsync := !svSynced z.synch, shown := some z }

theorem svRelease_received {z : SvSlot} (t : Nat) (hx : svStream s k = some x) (first : x.first ≤ n)
    (native : (svCfg s k).format ≠ 5) (hz : slotOf s x.ring n = some z) (received : z.st = 0) :
    svRelease s k n t = svEnter s k (x.shows z) 2 t := by
  simp only [svRelease, hx, if_neg (Nat.not_lt.2 first), hz, if_pos received, if_pos native]
  rfl

/-- The stream that shows an interpolated sample, which fills its slot (R151, R152). -/
def SvStream.bridged (x : SvStream) (i : Nat) (z : SvSlot) : SvStream :=
  { x with
    ring := tset none x.ring i (some z), interp := satAdd 0xFFFFFFFF x.interp 1, runlen := satAdd 0xFFFF x.runlen 1
    shown := some z }

theorem SvStream.ring_bridged (x : SvStream) (i : Nat) (z : SvSlot) : tget none (x.bridged i z).ring i = some z :=
  tget_tset_same none x.ring i (some z)

theorem svRelease_interpolated {a b : SvSlot} (t : Nat) (hx : svStream s k = some x) (first : x.first ≤ n)
    (native : (svCfg s k).format ≠ 5) (missing : slotOf s x.ring n = none) (before : slotOf s x.ring (n - 1) = some a)
    (after : slotOf s x.ring (n + 1) = some b) (ha : a.st = 0) (hb : b.st = 0) (hn : n ≠ 0) :
    svRelease s k n t = raise (setStream s k (x.bridged (n % ringDepth s) (interpSlot n a b)))
      { blk := 6, ev := 0, info := [k, n] } := by
  simp only [svRelease, hx, if_neg (Nat.not_lt.2 first), missing, before, after, if_pos (And.intro ha (And.intro hb hn)),
    if_pos native]
  rfl

end Release

/-! ### The sample tick (R153, R164) -/

@[simp] theorem svi_svMaps (s : State) : (svMaps s).svi = s.svi := (svMaps_keeps s).same .svi rfl

/-- The maps of the streams leave the event status of the ingress. -/
theorem rd_sviEvt_svMaps (s : State) : rd (svMaps s) Reg.SVI_EVT_STAT = rd s Reg.SVI_EVT_STAT := by
  refine (rd_wrField_other _ _ _ _ (by decide)).trans (rd_foldl_wr_other _ _ _ _ _ fun i _ e => ?_)
  simp only [Reg.SVI_EVT_STAT, Reg.SVI_OKMAPn] at e
  omega

/-- The count of messages of a full second (R160) leaves the streams and the event status, as do the maps. -/
theorem sviTick_single {s : State} {k : Nat} {y : Option SvStream} (j t : Nat) (run : s.svi.run = true)
    (one : s.svi.streams = [(k, y)]) (i : Nat) :
    svStream (sviTick s j t).1 i = svStream (svTick s k j t).1 i ∧
    rd (sviTick s j t).1 Reg.SVI_EVT_STAT = rd (svTick s k j t).1 Reg.SVI_EVT_STAT := by
  simp only [sviTick, run, one, Bool.not_true, Bool.false_eq_true, if_false, List.foldl_cons, List.foldl_nil, rd_sviEvt_svMaps,
    svStream_congr (svi_svMaps _)]
  split
  · exact ⟨rfl, rd_wr_other _ _ _ _ (by decide)⟩
  · exact ⟨rfl, rfl⟩

theorem svTick_native {s : State} {k j : Nat} (t : Nat) (native : (svCfg s k).format ≠ 5) (due : (svCfg s k).deadline + 1 ≤ j) :
    (svTick s k j t).1 = svRelease s k (j - (svCfg s k).deadline - 1) t := by
  simp only [svTick, if_neg native, if_pos due]

theorem peEng_congr {s u : State} (h : u.pe = s.pe) (e : Nat) : peEng u e = peEng s e := by
  rw [peEng, h, peEng]

/-- An engine that is not configured makes no pass (R164). -/
theorem peTick_idle {s : State} {e : Nat} (j : Nat) (v : PassEnv) (t : Nat) (idle : (peEng s e).st = 0) : peTick s e j v t = s := by
  have running : (peEng s e).st ≠ 3 := by omega
  simp only [peTick, if_neg running, if_pos idle]

theorem foldl_peTick_idle {s : State} (j t : Nat) (env : Nat → PassEnv) (l : List Nat) (idle : ∀ e ∈ l, (peEng s e).st = 0) :
    l.foldl (fun u e => peTick u e j (env e) t) s = s := by
  induction l with
  | nil => rfl
  | cons e l ih =>
    obtain ⟨first, rest⟩ := List.forall_mem_cons.1 idle
    rw [List.foldl_cons, peTick_idle j _ t first, ih rest]

/-- The state in which tick j begins at t. -/
def atTick (s : State) (j t : Nat) : State :=
  { atTime s t with grid := { (atTime s t).grid with tick := j }, freeN := s.freeN + 1 }

/-- With idle engines a new tick is the releases of the ingress alone (R16, R151, R164). -/
theorem exec_sampleTick_idle {s : State} {t : Nat} (env : List (Nat × PassEnv)) (new : tickAt s t ≠ s.grid.tick)
    (idle : ∀ e, e < 6 → (peEng s e).st = 0) :
    exec (.sampleTick env t) s = .next (sviTick (atTick s (tickAt s t) t) (tickAt s t) t).1 := by
  have same (e : Nat) : peEng (sviTick (atTick s (tickAt s t) t) (tickAt s t) t).1 e = peEng s e :=
    peEng_congr (s := s) ((sviTick_keeps (atTick s (tickAt s t) t) (tickAt s t) t).same .pe rfl) e
  show execSampleTick env t s = _
  refine (if_neg fun old => new old.1).trans (congrArg done ?_)
  exact foldl_peTick_idle _ t _ _ fun e he => (same e).symm ▸ idle e (List.mem_range.1 he)

/-- A tick with one native stream and idle engines: the release of the sample whose turn it is decides the streams and the event
status (R151–R153). -/
theorem sampleTick_native {s : State} {k t : Nat} {y : Option SvStream} (env : List (Nat × PassEnv)) (run : s.svi.run = true)
    (one : s.svi.streams = [(k, y)]) (native : (svCfg s k).format ≠ 5) (due : (svCfg s k).deadline + 1 ≤ tickAt s t)
    (new : tickAt s t ≠ s.grid.tick) (idle : ∀ e, e < 6 → (peEng s e).st = 0) :
    completes (.sampleTick env t) s fun u => u.grid.tick = tickAt s t ∧
      let v := svRelease (atTick s (tickAt s t) t) k (tickAt s t - (svCfg s k).deadline - 1) t
      (∀ i, svStream u i = svStream v i) ∧ rd u Reg.SVI_EVT_STAT = rd v Reg.SVI_EVT_STAT := by
  have released := sviTick_single (s := atTick s (tickAt s t) t) (tickAt s t) t run one
  rw [svTick_native (s := atTick s (tickAt s t) t) t native due] at released
  exact ⟨_, exec_sampleTick_idle env new idle, congrArg Grid.tick ((sviTick_keeps ..).same .grid rfl :),
    fun i => (released i).1, (released k).2⟩

/-! ### Timeouts (R155) -/

section Timeout

variable {s : State} {k t : Nat} {x : SvStream}

theorem exec_streamLossTimeout_due (hx : svStream s k = some x) (waits : x.state = 1 ∨ x.state = 3)
    (due : x.since + (svCfg s k).lostms * 1000000 ≤ t) :
    exec (.streamLossTimeout k t) s = .next (svEnter (atTime s t) k x 4 t) := by
  show execStreamLossTimeout k t s = _
  simp only [execStreamLossTimeout, svStream_atTime, svCfg_atTime, hx, waits, due, and_self, if_true, done]

theorem exec_streamErrorTimeout_due {e : Nat} (hx : svStream s k = some x) (sound : x.state ≠ 5) (since : x.errSince = some e)
    (due : e + (svCfg s k).lostms * 1000000 ≤ t) :
    exec (.streamErrorTimeout k t) s = .next (svEnter (atTime s t) k x 5 t) := by
  have persists : (x.errSince.any fun e => decide (e + (svCfg s k).lostms * 1000000 ≤ t)) = true := by
    rwa [since, Option.any_some, decide_eq_true_iff]
  show execStreamErrorTimeout k t s = _
  simp only [execStreamErrorTimeout, svStream_atTime, svCfg_atTime, hx]
  rw [if_pos ⟨sound, persists⟩, done]

end Timeout

/-! ### The counter clear (R160) -/

/-- A stream whose counters are cleared. -/
def SvStream.countersCleared (x : SvStream) : SvStream :=
  { x with miss := 0, interp := 0, gaps := 0, late := 0, early := 0, dup := 0, anchors := 0, lagPeak := 0 }

/-- The state after SVI_CMD.CLR_CNT (R160). -/
def sviCountersCleared (s : State) (session : Nat) : State :=
  let streams := setSvi s fun v => { v with rxSec := 0, streams := v.streams.map fun e => (e.1, e.2.map (·.countersCleared)) }
  cleared (zeroRegs streams [Reg.SVI_RX_CNT, Reg.SVI_DROP_CNT, Reg.SVI_FMT_CNT]) Reg.SVI_CMD session

theorem exec_sviClrCnt {s : State} {c : Cmd} (h : takes s Reg.SVI_CMD 0 c) :
    exec (.sviClrCnt c) s = .next (sviCountersCleared (touch s c.session) c.session) := by
  show execSviClrCnt c s = _
  rw [execSviClrCnt, keyed_of_takes h]
  rfl

theorem svi_sviCountersCleared (s : State) (session : Nat) : (sviCountersCleared s session).svi =
    { s.svi with rxSec := 0, streams := s.svi.streams.map fun e => (e.1, e.2.map (·.countersCleared)) } := by
  obtain ⟨r, h⟩ := foldl_wr_regs id (fun _ => 0) [Reg.SVI_RX_CNT, Reg.SVI_DROP_CNT, Reg.SVI_FMT_CNT]
    (setSvi s fun v => { v with rxSec := 0, streams := v.streams.map fun e => (e.1, e.2.map (·.countersCleared)) })
  exact (cleared_svi ..).trans (congrArg State.svi h :)

theorem rd_sviCountersCleared (s : State) (session : Nat) {a : Nat} (h : a ≠ Reg.REC_EVT_STAT) :
    rd (sviCountersCleared s session) a =
      if a ∈ [Reg.SVI_RX_CNT, Reg.SVI_DROP_CNT, Reg.SVI_FMT_CNT] then 0 else rd s a := by
  rw [sviCountersCleared, rd_cleared _ _ _ _ h, rd_zeroRegs, rd_setSvi]

theorem onlyRegs_sviCountersCleared (s : State) (session : Nat) : onlyRegs
    [Reg.SVI_RX_CNT, Reg.SVI_DROP_CNT, Reg.SVI_FMT_CNT, Reg.REC_EVT_STAT] s (sviCountersCleared s session) := by
  intro a ha
  simp only [List.mem_cons, List.not_mem_nil, or_false, not_or] at ha
  obtain ⟨rx, drop, fmt, rec⟩ := ha
  rw [rd_sviCountersCleared s session rec, if_neg (by simp [rx, drop, fmt])]

/-- Settles O26: each command ends in the state that its `exec_` lemma names; a tick is decided by its one release. -/
theorem svStreams : Obligations.SvStreams := by
  refine ⟨fun s m k t x a run => ⟨fun unmatched => ?dropped, fun hit hx faulty => ?faulty, ?placed⟩,
    fun s k t x z a b run one native due first new idle =>
      ⟨fun hz received => ?received, fun missing before after ha hb hn => ?interpolated⟩,
    fun s k t e x c => ⟨fun hx waits due => ?lost, fun hx sound since due => ?error, fun h => ?clear⟩⟩
  case dropped =>
    exact ⟨_, exec_svMessage_unmatched run unmatched, rd_wr_same .., Keeps.onlyParts
      (Keeps.bump rfl (Keeps.step (atTime_keeps ..) rfl (Keeps.refl ..)))⟩
  case faulty =>
    exact ⟨_, exec_svMessage_faulty run hit hx faulty, svStream_setStream_same .., fun j hj => svStream_setStream_other _ _ hj,
      rd_wr_same .., onlyRegs_wr (fun _ _ => rfl) List.mem_cons_self⟩
  case placed =>
    intro c arr n hit hx sound oneAsdu free synced once notEarly notLate vacant
    have counted : svStream (svCounted (atTime s t) k x) k = some { x with errSince := none } := svStream_setStream_same ..
    have put : svPlace (svCounted (atTime s t) k x) k t a = setStream (svCounted (atTime s t) k x) k
        (({ x with errSince := none } : SvStream).placed a (n % ringDepth s) (a.slot c n t)
          (min 0xFFFF ((t - svInstant s c n) / 1000))) :=
      svPlace_timely counted free rfl notEarly notLate vacant
    refine ⟨_, exec_svMessage_sound run hit hx sound, ?_⟩
    rw [svAnchoring_synced counted oneAsdu free synced once, oneAsdu, List.foldl_cons, List.foldl_nil, put]
    refine ⟨_, a.slot c n t, svStream_setStream_same .., SvStream.ring_placed_same .., rfl, rfl, rfl, rfl, ?_,
      fun i hi => SvStream.ring_placed_other _ _ _ _ hi, rfl, rfl, fun j hj => ?_, rfl, Keeps.onlyParts ?_⟩
    · rw [SvAsdu.slot, synced]
    · exact (svStream_setStream_other _ _ hj).trans (svStream_setStream_other (atTime s t) _ hj)
    · exact Keeps.step (setStream_keeps ..) rfl (Keeps.step (setSvi_keeps ..) rfl (Keeps.step (setStream_keeps ..) rfl
        (Keeps.step (atTime_keeps ..) rfl (Keeps.refl ..))))
  case received =>
    obtain ⟨u, step, tick, streams, -⟩ := sampleTick_native [] run one native due new idle
    rw [svRelease_received (s := atTick s (tickAt s t) t) t (svStream_single one) first native hz received] at streams
    refine ⟨u, step, tick, (x.shows z).entered 2 t, ?_, ?_⟩
    · rw [streams, svStream_svEnter, if_pos rfl]
    · unfold SvStream.entered
      split
      · next ok => exact ⟨ok, rfl, rfl, rfl, rfl, rfl⟩
      · exact ⟨rfl, rfl, rfl, rfl, rfl, rfl⟩
  case interpolated =>
    obtain ⟨u, step, tick, streams, status⟩ := sampleTick_native [] run one native due new idle
    rw [svRelease_interpolated (s := atTick s (tickAt s t) t) t (svStream_single one) first native missing before after ha hb hn]
      at streams status
    refine ⟨u, step, tick, ?_, x.bridged _ _, ?_, rfl, rfl, rfl, SvStream.ring_bridged ..⟩
    · rw [status]
      exact flag_raise_svi _ _ (by decide)
    · rw [streams, svStream_congr (raise_svi ..), svStream_setStream_same]
      rfl
  case lost =>
    have leaves : x.state ≠ 4 := by omega
    refine ⟨_, exec_streamLossTimeout_due hx waits due, ?_, flag_svEnter_lost _ _ _ leaves, fun j hj => ?_⟩
    · rw [svStream_svEnter, if_pos rfl, SvStream.entered, if_neg leaves]
    · rw [svStream_svEnter, if_neg hj, svStream_atTime]
  case error =>
    refine ⟨_, exec_streamErrorTimeout_due hx sound since due, ?_, flag_svEnter_error _ _ _ sound, fun j hj => ?_⟩
    · rw [svStream_svEnter, if_pos rfl, SvStream.entered, if_neg sound]
    · rw [svStream_svEnter, if_neg hj, svStream_atTime]
  case clear =>
    have zero {a : Nat} (ha : a ∈ [Reg.SVI_RX_CNT, Reg.SVI_DROP_CNT, Reg.SVI_FMT_CNT]) (hr : a ≠ Reg.REC_EVT_STAT) :
        rd (sviCountersCleared (touch s c.session) c.session) a = 0 := by
      rw [rd_sviCountersCleared _ _ hr, if_pos ha]
    have svi := svi_sviCountersCleared (touch s c.session) c.session
    refine ⟨_, exec_sviClrCnt h, zero (by simp) (by decide), zero (by simp) (by decide), zero (by simp) (by decide),
      by rw [svi], fun j => ?_, onlyRegs_sviCountersCleared (touch s c.session) c.session⟩
    rw [svStream, svi]
    exact tget_map ..

end Sys2Proof.Machine
end

section
/-! The supervision of the phasor engines, their counter clear and the prompt routes (R58, R59, R167, R197, R200): O27. -/

namespace Sys2Proof.Machine

open Sys2Proof

/-! ### Engines and elements -/

theorem peEng_setEng_same (s : State) (e : Nat) (x : PeEngine) : peEng (setEng s e x) e = x :=
  tget_tset_same ({} : PeEngine) s.pe.engines e x

theorem peEng_setEng_other (s : State) {e f : Nat} (x : PeEngine) (h : f ≠ e) : peEng (setEng s e x) f = peEng s f :=
  tget_tset_other ({} : PeEngine) s.pe.engines e f x h

theorem elemOf_congr {s u : State} {e : Nat} (h : (peEng u e).elems = (peEng s e).elems) (k : Nat) :
    elemOf u e k = elemOf s e k := by
  rw [elemOf, h, elemOf]

theorem elemOf_setElem_same (s : State) (e k : Nat) (y : ElemState) : elemOf (setElem s e k y) e k = y := by
  rw [elemOf, setElem, peEng_setEng_same]
  exact tget_tset_same ..

theorem elemOf_setElem_other (s : State) {e k i : Nat} (y : ElemState) (h : i ≠ k) :
    elemOf (setElem s e k y) e i = elemOf s e i := by
  rw [elemOf, setElem, peEng_setEng_same]
  exact tget_tset_other _ _ _ _ _ h

/-- Of the engines only e differs, and of it only the elements. -/
structure OnlyElems (e : Nat) (s u : State) : Prop where
  own : ∃ l, peEng u e = { peEng s e with elems := l }
  others : ∀ f, f ≠ e → peEng u f = peEng s f

section Elements

variable {s t u : State} {e : Nat}

theorem OnlyElems.refl (e : Nat) (s : State) : OnlyElems e s s := ⟨⟨_, rfl⟩, fun _ _ => rfl⟩

theorem OnlyElems.of_pe (h : OnlyElems e s t) (pe : u.pe = t.pe) : OnlyElems e s u :=
  ⟨(peEng_congr pe e).symm ▸ h.own, fun f hf => (peEng_congr pe f).trans (h.others f hf)⟩

theorem OnlyElems.setElem (h : OnlyElems e s t) (k : Nat) (y : ElemState) : OnlyElems e s (setElem t e k y) := by
  obtain ⟨⟨l, own⟩, others⟩ := h
  refine ⟨⟨tset {} l k y, ?_⟩, fun f hf => (peEng_setEng_other t _ hf).trans (others f hf)⟩
  rw [Machine.setElem, peEng_setEng_same, own]

theorem OnlyElems.foldl {α : Type} {g : State → α → State} (l : List α) (h : OnlyElems e s t)
    (step : ∀ u y, OnlyElems e s u → OnlyElems e s (g u y)) : OnlyElems e s (l.foldl g t) := by
  induction l generalizing t with
  | nil => exact h
  | cons y l ih => exact ih (step t y h)

end Elements

/-! ### Event bits -/

/-- An event of any block but the recorder's shows its bit in the block's status register (R470). -/
theorem flag_raise (s : State) {b i : Nat} (info : List Nat) (stamp : Option Nat) (e : Nat) (known : b ≤ 22) (other : b ≠ 17)
    (h : i < 32) : flag (rd (raise s { blk := b, ev := i, info := info, stamp := stamp } e) (evtStat b e)) i = true := by
  have apart : evtStat b e ≠ Reg.REC_EVT_STAT := ne_of_apply_ne blockOf (by rw [evtStat_block b e known]; exact other)
  have set := rd_raise_evt s { blk := b, ev := i, info := info, stamp := stamp } e apart
  rw [set, flag, BitVec.getLsbD_or, BitVec.getLsbD_ofNat, Nat.testBit_two_pow_self]
  simp [h]

/-- What leaves the block of the phasor engines leaves their event status. -/
theorem rd_peEvt_of_keeps {m : Nat} {s u : State} (h : Keeps m s u) (free : m.testBit 37 = false) (e : Nat) :
    rd u (Reg.PE_EVT_STAT e) = rd s (Reg.PE_EVT_STAT e) :=
  h.same .rPE free (by decide) _ (Reg.PE_EVT_STAT_block e)

/-! ### Failures (R190, R197) -/

/-- The end of an assertion leaves the engines. -/
theorem foldl_endPrompt_keeps (s : State) (keys : List Nat) : Keeps 0x40100 s (keys.foldl endPrompt s) :=
  Keeps.foldl (Keeps.refl ..) fun _ key hu => Keeps.step (endPrompt_keeps _ key) rfl hu

/-- Engine e has failed with a cause, and the other engines stand as they were (R197). -/
structure EngineFailed (s : State) (e cause : Nat) (u : State) : Prop where
  st : (peEng u e).st = 3
  cause : (peEng u e).cause = cause
  pass : (peEng u e).pass = none
  event : flag (rd u (Reg.PE_EVT_STAT e)) 7 = true
  others : ∀ f, f ≠ e → peEng u f = peEng s f

theorem EngineFailed.of_keeps {m : Nat} {s t u : State} {e cause : Nat} (h : EngineFailed s e cause t) (k : Keeps m t u)
    (pe : m.testBit 25 = false) (events : m.testBit 37 = false) : EngineFailed s e cause u := by
  have same := peEng_congr (k.same .pe pe :)
  exact ⟨(same e).symm ▸ h.st, (same e).symm ▸ h.cause, (same e).symm ▸ h.pass,
    (rd_peEvt_of_keeps k events e).symm ▸ h.event, fun f hf => (same f).trans (h.others f hf)⟩

/-- A running engine fails: what follows the event, from the flush to the switchover, touches no engine (R190, R197). -/
theorem engineFailed_peFail {s : State} {e : Nat} (cause t : Nat) (running : (peEng s e).st = 2) :
    EngineFailed s e cause (peFail s e cause t) := by
  unfold peFail
  extract_lets -merge +onlyGivenNames x
  rw [if_neg (by rw [running]; decide)]
  extract_lets -merge +onlyGivenNames unready _ failed keys flushed _ posted
  have elems : OnlyElems e s unready := OnlyElems.foldl _ (OnlyElems.refl e s) fun u k hu =>
    (hu.setElem k _).of_pe ((readyEvent_keeps ..).same .pe rfl)
  have ended := peEng_congr (s := failed) ((foldl_endPrompt_keeps failed keys).same .pe rfl)
  have raised : EngineFailed s e cause (raise (keys.foldl endPrompt failed) { blk := 5, ev := 7, info := [e, cause] } e) := by
    have own : peEng failed e = { peEng unready e with st := 3, cause := cause, pass := none } := peEng_setEng_same ..
    have same (f : Nat) := (peEng_congr (raise_pe (keys.foldl endPrompt failed)
      { blk := 5, ev := 7, info := [e, cause] } e) f).trans (ended f)
    refine ⟨?_, ?_, ?_, flag_raise _ _ none e (by decide) (by decide) (by decide), fun f hf => ?_⟩
    · rw [same, own]
    · rw [same, own]
    · rw [same, own]
    · rw [same, peEng_setEng_other _ _ hf, elems.others f hf]
  have posts : EngineFailed s e cause posted :=
    raised.of_keeps (m := 0x2000400021088) (Keeps.step (pePost_keeps ..) rfl (Keeps.upd_upd rfl
      (Keeps.mono (startFlush_keeps ..) rfl))) rfl rfl
  split
  · exact posts.of_keeps (requestSwitchover_keeps ..) rfl rfl
  · exact posts.of_keeps (requestSwitchover_keeps ..) rfl rfl
  · exact posts
  · exact posts.of_keeps (leaveForRestart_keeps ..) rfl rfl

theorem exec_pePostDeadline_standing {s : State} {e k : Nat} (t : Nat) (standing : (peEng s e).pass = some k) :
    exec (.pePostDeadline e t) s = .next (peFail (atTime s t) e 0 t) :=
  if_pos (congrArg Option.isSome standing)

/-! ### Overruns (R167) -/

/-- The overruns of an engine within the last 2,400 frames. -/
def recentOverruns (s : State) (e : Nat) : List Nat := (peEng s e).ovrs.filter fun f => decide (s.grid.frame - f ≤ 2399)

/-- The elements of an engine from slot k on. -/
def slotsFrom (s : State) (e k : Nat) : List Nat := (peSlots s e).filter fun i => decide (k ≤ i)

/-- The state with the elements from slot k on skipped. -/
def skippedFrom (s : State) (e k : Nat) : State := (slotsFrom s e k).foldl (fun u i => peSkip u e i (peEng s e).tick) s

/-- The state in which an overrun at slot k is counted and recorded. -/
def peOverrun (s : State) (e k : Nat) : State :=
  let y := peEng (skippedFrom s e k) e
  raise (setEng (skippedFrom s e k) e { y with
      pass := none, ovrs := s.grid.frame :: y.ovrs.filter fun f => decide (s.grid.frame - f ≤ 2399)
      ovrCnt := satAdd 0xFFFF y.ovrCnt 1, skips := satAdd 0xFFFF y.skips (slotsFrom s e k).length })
    { blk := 5, ev := 0, info := [e, k, (slotsFrom s e k).length] } e

section Overrun

variable (s : State) (e k : Nat)

theorem skipped_peSkip_same (j : Nat) : (elemOf (peSkip s e k j) e k).skipped = true := by
  rw [peSkip, elemOf_setElem_same]

theorem elemOf_peSkip_other (j : Nat) {i : Nat} (h : i ≠ k) : elemOf (peSkip s e k j) e i = elemOf s e i :=
  elemOf_setElem_other _ _ h

theorem skipped_foldl_peSkip (j : Nat) (l : List Nat) (i : Nat) (h : i ∈ l ∨ (elemOf s e i).skipped = true) :
    (elemOf (l.foldl (fun u i => peSkip u e i j) s) e i).skipped = true := by
  induction l generalizing s with
  | nil => exact h.resolve_left List.not_mem_nil
  | cons k l ih =>
    refine ih _ ?_
    by_cases first : i = k
    · exact .inr (first ▸ skipped_peSkip_same ..)
    · rw [elemOf_peSkip_other _ _ _ _ first]
      exact h.imp_left fun mem => (List.mem_cons.1 mem).resolve_left first

theorem onlyElems_skippedFrom : OnlyElems e s (skippedFrom s e k) :=
  OnlyElems.foldl _ (OnlyElems.refl e s) fun _ i hu => hu.setElem i _

theorem peEng_peOverrun_same : ∃ l, peEng (peOverrun s e k) e = { peEng s e with
    elems := l, pass := none, ovrs := s.grid.frame :: recentOverruns s e, ovrCnt := satAdd 0xFFFF (peEng s e).ovrCnt 1
    skips := satAdd 0xFFFF (peEng s e).skips (slotsFrom s e k).length } := by
  obtain ⟨l, own⟩ := (onlyElems_skippedFrom s e k).own
  refine ⟨l, ?_⟩
  rw [peOverrun, peEng_congr (raise_pe ..), peEng_setEng_same, own]
  rfl

theorem peEng_peOverrun_other {f : Nat} (h : f ≠ e) : peEng (peOverrun s e k) f = peEng s f := by
  rw [peOverrun, peEng_congr (raise_pe ..), peEng_setEng_other _ _ h, (onlyElems_skippedFrom s e k).others f h]

theorem skipped_peOverrun {i : Nat} (h : i ∈ slotsFrom s e k) : (elemOf (peOverrun s e k) e i).skipped = true := by
  have same : (peEng (peOverrun s e k) e).elems = (peEng (skippedFrom s e k) e).elems := by
    rw [peOverrun, peEng_congr (raise_pe ..), peEng_setEng_same]
  rw [elemOf_congr same]
  exact skipped_foldl_peSkip _ _ _ _ _ (.inl h)

theorem flag_peOverrun : flag (rd (peOverrun s e k) (Reg.PE_EVT_STAT e)) 0 = true :=
  flag_raise _ _ none e (by decide) (by decide) (by decide)

variable {s e k}

/-- A stopped pass is counted; if that is the third overrun within 2,400 frames the engine fails, else it posts (R167). -/
theorem exec_pePassOverrun_standing (t : Nat) (standing : (peEng s e).pass = some k) :
    exec (.pePassOverrun e t) s = if 3 ≤ (s.grid.frame :: recentOverruns s e).length
      then .next (peFail (peOverrun (atTime s t) e k) e 1 t) else .next (pePost (peOverrun (atTime s t) e k) e t) := by
  obtain ⟨l, own⟩ := (onlyElems_skippedFrom (atTime s t) e k).own
  have same : (peEng (skippedFrom (atTime s t) e k) e).ovrs = (peEng s e).ovrs := by
    rw [own]
    rfl
  have standing' : (peEng (atTime s t) e).pass = some k := standing
  rw [recentOverruns, ← same]
  show execPePassOverrun e t s = _
  simp only [execPePassOverrun, standing']
  rfl

theorem exec_pePassOverrun_few (t : Nat) (standing : (peEng s e).pass = some k) (few : (recentOverruns s e).length < 2) :
    exec (.pePassOverrun e t) s = .next (pePost (peOverrun (atTime s t) e k) e t) :=
  (exec_pePassOverrun_standing t standing).trans (if_neg (Nat.not_le.2 (Nat.succ_lt_succ few)))

theorem exec_pePassOverrun_third (t : Nat) (standing : (peEng s e).pass = some k) (many : 2 ≤ (recentOverruns s e).length) :
    exec (.pePassOverrun e t) s = .next (peFail (peOverrun (atTime s t) e k) e 1 t) :=
  (exec_pePassOverrun_standing t standing).trans (if_pos (Nat.succ_le_succ many))

end Overrun

/-! ### The counter clear (R200) -/

/-- The state after PE_CTRL.CLR_CNT (R200). -/
def peCountersCleared (s : State) (e session : Nat) : State :=
  cleared (setEng s e { peEng s e with peaks := [], ovrCnt := 0, skips := 0, eccRing := 0, eccLocal := 0 }) (Reg.PE_CTRL e) session

theorem exec_peClrCnt {s : State} {e : Nat} {c : Cmd} (h : takes s (Reg.PE_CTRL e) 0 c) :
    exec (.peClrCnt e c) s = .next (peCountersCleared (touch s c.session) e c.session) :=
  congrArg done (keyed_of_takes h _)

/-! ### Prompt routes (R58, R59) -/

section Prompt

variable {s : State} {e r ep key t : Nat} {v : Tetrad} {h : PromptHold}

/-- A forced endpoint holds the route back (R59). -/
theorem fireRoute_forced (forced : forceOf s ep ≠ none) :
    fireRoute s e r ep v = raise s { blk := 1, ev := 5, info := [ep, e, r] } :=
  if_pos (by rw [Option.isSome_iff_ne_none.2 forced, Bool.true_or])

/-- The assertion of a route that fires now: it holds for the minimum pulse, rounded up to whole ns (R58). -/
def firedHold (s : State) (e ep : Nat) : PromptHold :=
  { ep := ep, pe := e, till := s.grid.now + (s.cfg.minpulse * 1250000 + 2) / 3, tripOn := true }

/-- The state in which a fired route asserts its endpoint. -/
def promptAsserted (s : State) (e r ep : Nat) : State :=
  { s with sched := { s.sched with prompts := tset none s.sched.prompts (routeKey e r) (some (firedHold s e ep)) } }

/-- The state in which a fired route is counted and recorded on the frame (R58). -/
def routeCounted (s : State) (e r ep : Nat) : State :=
  raise (bump (promptAsserted s e r ep) Reg.FRM_PROMPT_CNT) { blk := 1, ev := 4, info := [ep, e, r], stamp := some s.grid.now }

/-- The state in which a fired route is recorded on its engine too. -/
def routeFired (s : State) (e r ep : Nat) : State :=
  raise (routeCounted s e r ep) { blk := 5, ev := 3, info := [e, r, ep], stamp := some s.grid.now } e

/-- Neither a force nor the override flag holds the route back (R58, R59). -/
theorem fireRoute_free (free : forceOf s ep = none) (plain : tover v = false) :
    fireRoute s e r ep v = promptPub (routeFired s e r ep) ep :=
  if_neg (by simp [free, plain])

/-- The engine's record and the publication leave the registers of the frame. -/
theorem rd_frm_fireRoute (free : forceOf s ep = none) (plain : tover v = false) {a : Nat} (frm : blockOf a = 1) :
    rd (fireRoute s e r ep v) a = rd (routeCounted s e r ep) a := by
  rw [fireRoute_free free plain, (promptPub_keeps ..).same .rFRM rfl (by decide) a frm]
  exact rd_raise _ _ _ _ (ne_of_apply_ne blockOf (by rw [frm]; decide))
    (ne_of_apply_ne blockOf (by rw [frm, evtStat_block 5 e (by decide)]; decide))

theorem rd_promptCnt_fireRoute (free : forceOf s ep = none) (plain : tover v = false) :
    rd (fireRoute s e r ep v) Reg.FRM_PROMPT_CNT = w32 (satAdd 0xFFFFFFFF (rd s Reg.FRM_PROMPT_CNT).toNat 1) := by
  rw [rd_frm_fireRoute free plain rfl, routeCounted, rd_raise _ _ _ Reg.FRM_PROMPT_CNT (by decide) (ne_of_beq_false rfl)]
  exact rd_wr_same ..

theorem flag_fired_fireRoute (free : forceOf s ep = none) (plain : tover v = false) :
    flag (rd (fireRoute s e r ep v) Reg.FRM_EVT_STAT) 4 = true := by
  rw [rd_frm_fireRoute free plain rfl]
  exact flag_raise _ _ _ 0 (by decide) (by decide) (by decide)

theorem sched_fireRoute (free : forceOf s ep = none) (plain : tover v = false) :
    (fireRoute s e r ep v).sched = (promptAsserted s e r ep).sched := by
  rw [fireRoute_free free plain, (promptPub_keeps ..).same .sched rfl, routeFired, raise_sched, routeCounted, raise_sched]
  rfl

theorem sig_fireRoute : (fireRoute s e r ep v).sig = s.sig := (fireRoute_keeps ..).same .sig rfl

theorem exec_promptMinpulseEnd_due (held : tget none s.sched.prompts key = some h) (off : h.tripOn = false) (due : h.till ≤ t) :
    exec (.promptMinpulseEnd key t) s = .next (endPrompt (atTime s t) key) := by
  show execPromptMinpulseEnd key t s = _
  simp only [execPromptMinpulseEnd, atTime_sched, held, off, due, Bool.not_false, and_self, if_true, done]

/-- The state in which an assertion is gone. -/
def promptReleased (s : State) (key : Nat) : State :=
  { s with sched := { s.sched with prompts := tset none s.sched.prompts key none } }

theorem endPrompt_held (held : tget none s.sched.prompts key = some h) : endPrompt s key =
    if btype (dirEntry s h.ep) = 3 ∧ !promptOn (promptReleased s key) h.ep then
      setDo (promptReleased s key) (daddr (dirEntry s h.ep) % 16)
        { doOf (promptReleased s key) (daddr (dirEntry s h.ep) % 16) with tail := true }
    else promptReleased s key := by
  simp only [endPrompt, held]
  rfl

theorem sched_endPrompt (held : tget none s.sched.prompts key = some h) :
    (endPrompt s key).sched = (promptReleased s key).sched := by
  rw [endPrompt_held held]
  split
  · rfl
  · rfl

/-- The end of an assertion that drives no terminal changes the assertions alone. -/
theorem endPrompt_remote (held : tget none s.sched.prompts key = some h) (remote : btype (dirEntry s h.ep) ≠ 3) :
    endPrompt s key = promptReleased s key := by
  rw [endPrompt_held held]
  exact if_neg fun terminal => remote terminal.1

end Prompt

/-- Settles O27: each command ends in the state that its `exec_` lemma names; a failure leaves what `EngineFailed` names. -/
theorem phasorEngines : Obligations.PhasorEngines := by
  refine ⟨fun s e k t c _ => ⟨fun standing few => ?counted, fun standing many running => ?third,
      fun standing running => ?deadline, fun h => ?clear⟩,
    fun s e r ep key t v h => ⟨fun free plain => ?fires, fun forced => ?forced, fun held off due => ?ends⟩⟩
  case counted =>
    obtain ⟨l, own⟩ := peEng_peOverrun_same (atTime s t) e k
    have posts := pePost_keeps (peOverrun (atTime s t) e k) e t
    have same := peEng_congr (posts.same .pe rfl :)
    have counted := (same e).trans own
    refine ⟨_, exec_pePassOverrun_few t standing few, (congrArg PeEngine.pass counted :), (congrArg PeEngine.ovrs counted :),
      (congrArg PeEngine.ovrCnt counted :), (congrArg PeEngine.skips counted :), (congrArg PeEngine.st counted :),
      fun i hi => ?_, ?_, fun f hf => ?_⟩
    · rw [elemOf_congr (congrArg PeEngine.elems (same e))]
      exact skipped_peOverrun (atTime s t) e k hi
    · rw [rd_peEvt_of_keeps posts rfl]
      exact flag_peOverrun ..
    · exact (same f).trans (peEng_peOverrun_other (atTime s t) e k hf)
  case third =>
    obtain ⟨l, own⟩ := peEng_peOverrun_same (atTime s t) e k
    have running' : (peEng (peOverrun (atTime s t) e k) e).st = 2 := by
      rw [own]
      exact running
    obtain ⟨st, cause, pass, event, others⟩ := engineFailed_peFail 1 t running'
    exact ⟨_, exec_pePassOverrun_third t standing many, st, cause, pass, event,
      fun f hf => (others f hf).trans (peEng_peOverrun_other (atTime s t) e k hf)⟩
  case deadline =>
    obtain ⟨st, cause, pass, event, others⟩ := engineFailed_peFail (s := atTime s t) 0 t running
    exact ⟨_, exec_pePostDeadline_standing t standing, st, cause, pass, event, others⟩
  case clear =>
    have same (f : Nat) : peEng (peCountersCleared (touch s c.session) e c.session) f = _ := peEng_congr (cleared_pe ..) f
    refine ⟨_, exec_peClrCnt h, (same e).trans (peEng_setEng_same ..), fun f hf => (same f).trans (peEng_setEng_other _ _ hf),
      onlyRegs_record _ (onlyRegs_refl _ s) List.mem_cons_self⟩
  case fires =>
    refine ⟨?_, rd_promptCnt_fireRoute free plain, flag_fired_fireRoute free plain, sig_fireRoute⟩
    rw [sched_fireRoute free plain]
    exact tget_tset_same none s.sched.prompts (routeKey e r) (some (firedHold s e ep))
  case forced =>
    refine ⟨?_, ?_, sig_fireRoute⟩
    · rw [fireRoute_forced forced, raise_sched]
    · rw [fireRoute_forced forced]
      exact flag_raise s _ none 0 (by decide) (by decide) (by decide)
  case ends =>
    have held' : tget none (atTime s t).sched.prompts key = some h := held
    refine ⟨_, exec_promptMinpulseEnd_due held off due, ?_, fun j hj => ?_, ?_, fun remote => ?_⟩
    · rw [sched_endPrompt held']
      exact tget_tset_same none s.sched.prompts key none
    · rw [sched_endPrompt held']
      exact tget_tset_other none s.sched.prompts key j none hj
    · exact Keeps.onlyParts (Keeps.step (endPrompt_keeps ..) rfl (Keeps.mono (atTime_keeps ..) rfl))
    · rw [endPrompt_remote held' remote]
      exact Keeps.onlyParts (Keeps.upd_sched rfl (Keeps.mono (atTime_keeps ..) rfl))

end Sys2Proof.Machine
end

section
/-! Force requests, their effect, release and expiry (R217–R222, R226): O28. -/

namespace Sys2Proof.Machine

open Sys2Proof

/-! ### Event bits and refusals -/

theorem flag_or_bit (w : Word) {i : Nat} (h : i < 32) : flag (w ||| BitVec.ofNat 32 (2 ^ i)) i = true := by
  rw [flag, BitVec.getLsbD_or, BitVec.getLsbD_ofNat, Nat.testBit_two_pow_self]
  simp [h]

theorem flag_setBit (s : State) (a : Nat) {i : Nat} (h : i < 32) : flag (rd (setBit s a i) a) i = true := by
  rw [setBit, rd_wr_same, flag_or_bit _ h]

theorem rd_setBit_other (s : State) {a b : Nat} (i : Nat) (h : b ≠ a) : rd (setBit s a i) b = rd s b :=
  rd_wr_other _ _ _ _ h

/-- A refusal that shows its code in a field of a status register, and its event. -/
theorem field_shown_refuse (s : State) {stat evt hi lo code : Nat} (i reg n : Nat) (cause : Option Nat)
    (notRec : stat ≠ Reg.REC_EVT_STAT) (apart : stat ≠ evt) (hhi : hi < 32) (fits : code < 2 ^ (hi + 1 - lo)) :
    field (rd (refuse (setBit (wrField s stat hi lo code) evt i) reg cause n) stat) hi lo = code := by
  rw [rd_refuse _ _ _ _ _ _ notRec, rd_setBit_other _ _ apart, field_wrField_same _ _ _ _ hhi, Nat.mod_eq_of_lt fits]

theorem flag_shown_refuse (s : State) {evt i : Nat} (reg n : Nat) (cause : Option Nat) (notRec : evt ≠ Reg.REC_EVT_STAT)
    (h : i < 32) : flag (rd (refuse (setBit s evt i) reg cause n) evt) i = true := by
  rw [rd_refuse _ _ _ _ _ _ notRec, flag_setBit _ _ h]

theorem field_refuse_refuseForce (s : State) {code : Nat} (n : Nat) (h : code < 16) :
    field (rd (refuseForce s code n) Reg.FRC_STAT) 27 24 = code :=
  field_shown_refuse s 2 Reg.FRC_CMD n _ (by decide) (by decide) (by decide) h

theorem flag_refused_refuseForce (s : State) (code n : Nat) : flag (rd (refuseForce s code n) Reg.FRC_EVT_STAT) 2 = true :=
  flag_shown_refuse _ Reg.FRC_CMD n _ (by decide) (by decide)

/-! ### Requests (R217, R219, R222) -/

section Request

variable {s : State} {c : Cmd} {k : Nat} {r : ForceReq}

/-- The request that the FRC_REQ registers hold, of a kind: 0 set, 1 release, 2 release all (R226). -/
def stagedReq (s : State) (c : Cmd) (k : Nat) : ForceReq :=
  { kind := k, ep := field (rd s Reg.FRC_REQ_EP) 18 0, val := rd s Reg.FRC_REQ_VAL, exp := field (rd s Reg.FRC_REQ_EXP) 26 0
    session := c.session, frame := s.grid.frame }

/-- A request that waits for its frame (R219). -/
def forceWaiting (s : State) (r : ForceReq) : State := { s with frc := { s.frc with reqs := s.frc.reqs ++ [r] } }

theorem forceCmd_of_takes (h : takes s Reg.FRC_CMD k c) :
    forceCmd s k k c = requestForce (touch s c.session) c (stagedReq s c k) := by
  obtain ⟨pass, key, sel⟩ := h
  rw [forceCmd, written_of_passes pass, if_neg (Decidable.not_not.2 key), if_neg (by simp [sel])]
  rfl

theorem asksPartner_solo (solo : s.pair.role = .solo) : asksPartner s = false := by
  simp [asksPartner, solo]

/-- A module that leads alone asks nobody: a request that no rule refuses is accepted at once (R219). -/
theorem requestForce_solo (role : hasRole s c.session 2 = true) (solo : s.pair.role = .solo) (ok : forceRefusal s r = 0) :
    requestForce s c r = accepted (forceWaiting s { r with asked := false, accepted := true }) Reg.FRC_CMD c := by
  have may : ¬ ((!hasRole s c.session 2) = true ∨
      ¬ (s.pair.role = .active ∨ s.pair.role = .solo ∨ s.pair.role = .detached)) := by simp [role, solo]
  rw [requestForce, if_neg may, if_neg (Decidable.not_not.2 ok), asksPartner_solo solo]
  rfl

/-- Without the engineer role every request is refused with code 6 (R222). -/
theorem requestForce_unentitled (role : hasRole s c.session 2 = false) : requestForce s c r = refuseForce s 6 c.session :=
  if_pos (.inl (by simp [role]))

theorem forceCmd_waits (h : takes s Reg.FRC_CMD k c) (role : hasRole s c.session 2 = true) (solo : s.pair.role = .solo)
    (ok : forceRefusal s (stagedReq s c k) = 0) : forceCmd s k k c =
      accepted (forceWaiting (touch s c.session) { stagedReq s c k with accepted := true }) Reg.FRC_CMD c := by
  rw [forceCmd_of_takes h]
  exact requestForce_solo (by rw [hasRole_touch, role]) solo ok

theorem forceCmd_denied (h : takes s Reg.FRC_CMD k c) (role : hasRole s c.session 2 = false) :
    forceCmd s k k c = refuseForce (touch s c.session) 6 c.session := by
  rw [forceCmd_of_takes h]
  exact requestForce_unentitled (by rw [hasRole_touch, role])

/-- What an accepted request of any kind leaves: it waits, and only the recorder may tell of it. -/
theorem completes_waits {i : Instr} (run : exec i s = .next (forceCmd s k k c)) (h : takes s Reg.FRC_CMD k c)
    (role : hasRole s c.session 2 = true) (solo : s.pair.role = .solo) (ok : forceRefusal s (stagedReq s c k) = 0) :
    completes i s fun u => u.frc.reqs = s.frc.reqs ++ [{ stagedReq s c k with accepted := true }] ∧
      u.frc.table = s.frc.table ∧ onlyRegs [Reg.REC_EVT_STAT] s u := by
  refine ⟨_, run.trans (congrArg _ (forceCmd_waits h role solo ok)), ?_, ?_,
    onlyRegs_record _ (fun _ _ => rfl) List.mem_cons_self⟩
  · rw [accepted_frc]
    rfl
  · rw [accepted_frc]
    rfl

/-- What a denied request of any kind leaves: the forces as they were, and the cause shown. -/
theorem completes_denied {i : Instr} (run : exec i s = .next (forceCmd s k k c)) (h : takes s Reg.FRC_CMD k c)
    (role : hasRole s c.session 2 = false) : completes i s fun u => u.frc = s.frc ∧
      field (rd u Reg.FRC_STAT) 27 24 = 6 ∧ flag (rd u Reg.FRC_EVT_STAT) 2 = true ∧ u.resp = .refused 6 :=
  ⟨_, run.trans (congrArg _ (forceCmd_denied h role)), (refuseForce_keeps ..).same .frc rfl,
    field_refuse_refuseForce _ _ (by decide), flag_refused_refuseForce .., rfl⟩

end Request

/-! ### The force table (R217) -/

section Effect

variable {s : State} {ep i n t : Nat} {f : Force} {r : ForceReq}

/-- Entry i of the table holds f, or is free. -/
def withEntry (s : State) (i : Nat) (f : Option Force) : State :=
  { s with frc := { s.frc with table := tset none s.frc.table i f } }

/-- The entry forces the endpoint. -/
def entryForces (ep : Nat) (e : Nat × Option Force) : Bool :=
  match e.2 with
  | some f => decide (f.ep = ep)
  | none => false

theorem entryForces_some : entryForces ep (i, some f) = true ↔ f.ep = ep := decide_eq_true_iff

theorem forceIdx_eq_find (s : State) (ep : Nat) : forceIdx s ep = (s.frc.table.find? (entryForces ep)).map (·.1) := rfl

theorem forceOf_eq_find (s : State) (ep : Nat) : forceOf s ep = (s.frc.table.find? (entryForces ep)).bind (·.2) := rfl

theorem find_eq_none_of_forceIdx (h : forceIdx s ep = none) : s.frc.table.find? (entryForces ep) = none := by
  rw [forceIdx_eq_find] at h
  exact Option.map_eq_none_iff.1 h

theorem forceOf_eq_none_of_forceIdx (h : forceIdx s ep = none) : forceOf s ep = none := by
  rw [forceOf_eq_find, find_eq_none_of_forceIdx h]
  rfl

/-- The first force on an endpoint is the force of it. -/
theorem forceOf_withEntry (free : forceIdx s ep = none) (on : f.ep = ep) : forceOf (withEntry s i (some f)) ep = some f := by
  have others : ∀ e ∈ s.frc.table, entryForces ep e ≠ true := List.find?_eq_none.1 (find_eq_none_of_forceIdx free)
  have placed : tset none s.frc.table i (some f) = Tbl.place i (some f) s.frc.table := by
    rw [tset, Tbl.write, if_neg (Option.some_ne_none f)]
  have own : (i, some f) ∈ tset none s.frc.table i (some f) := by
    have held := tget_tset_same none s.frc.table i (some f)
    rcases Tbl.read_eq_or_mem (fun _ => none) (tset none s.frc.table i (some f)) i with h | h
    · exact absurd (held.symm.trans h) (Option.some_ne_none f)
    · rwa [← tget, held] at h
  have found : ((tset none s.frc.table i (some f)).find? (entryForces ep)).isSome :=
    List.find?_isSome.2 ⟨_, own, entryForces_some.2 on⟩
  obtain ⟨e, he⟩ := Option.isSome_iff_exists.1 found
  have mem := List.mem_of_find?_eq_some he
  rw [placed] at mem
  rcases Tbl.mem_place _ _ _ _ mem with rfl | old
  · rw [forceOf_eq_find]
    exact congrArg (Option.bind · (·.2)) he
  · exact absurd (List.find?_some he) (others e old)

/-! ### What a change of the table does (R218–R221) -/

/-- Out of the commit phase, and for a source, nothing is committed again (R218). -/
theorem recommit_of_not_commit (h : s.grid.phase ≠ 3 ∨ isSource s ep = true) : recommit s ep = s := if_pos h

@[simp] theorem committed_collectGot (s : State) (ep : Nat) (g : Got) :
    (collectGot s ep g).sig.committed = s.sig.committed := by
  unfold collectGot
  split <;> rfl

/-- At the commit a binary internal or sink endpoint is committed with its force (R218, R219). -/
theorem committed_recommit (commit : s.grid.phase = 3) (sink : isSource s ep = false) (bin : isBinary ep = true) :
    tget 0x7#4 (recommit s ep).sig.committed.bin ep = forcedOutBin s ep := by
  have again : ¬ (s.grid.phase ≠ 3 ∨ isSource s ep = true) := by simp [commit, sink]
  simp only [recommit, if_neg again, if_pos bin, committed_collectGot, tget_tset_same]

theorem forcedOutBin_of_forced (forced : forceOf s ep = some f) (sink : isSource s ep = false) :
    forcedOutBin s ep = forcedTet f := by
  simp only [forcedOutBin, forced, sink]
  rfl

/-- The change of entry i that concerns the endpoint, with its event (R217, R220). -/
def entryChanged (s : State) (i : Nat) (f : Option Force) (ep bit session : Nat) (old new : Word) : State :=
  forceRecord (recommit (withEntry s i f) ep) bit session ep old new

section Change

variable (s : State) (i : Nat) (e : Option Force) (ep bit session : Nat) (old new : Word)

theorem frc_entryChanged : (entryChanged s i e ep bit session old new).frc =
    { s.frc with table := tset none s.frc.table i e } := by
  rw [entryChanged, (forceRecord_keeps ..).same .frc rfl, (recommit_keeps ..).same .frc rfl]
  rfl

theorem sig_entryChanged : (entryChanged s i e ep bit session old new).sig = (recommit (withEntry s i e) ep).sig :=
  (forceRecord_keeps ..).same .sig rfl

variable {s ep} in
theorem sig_entryChanged_source (source : isSource s ep = true) :
    (entryChanged s i e ep bit session old new).sig = s.sig := by
  have still : recommit (withEntry s i e) ep = withEntry s i e := recommit_of_not_commit (.inr source)
  rw [sig_entryChanged, still]
  rfl

variable {s ep} in
/-- A new force on a binary endpoint that is no source is committed at once (R218, R219). -/
theorem committed_entryChanged (commit : s.grid.phase = 3) (sink : isSource s ep = false) (bin : isBinary ep = true)
    (free : forceIdx s ep = none) (on : f.ep = ep) :
    tget 0x7#4 (entryChanged s i (some f) ep bit session old new).sig.committed.bin ep = forcedTet f := by
  have sink' : isSource (withEntry s i (some f)) ep = false := sink
  rw [sig_entryChanged, committed_recommit (s := withEntry s i (some f)) commit sink' bin,
    forcedOutBin_of_forced (forceOf_withEntry free on) sink']

theorem rd_lastLo_entryChanged : rd (entryChanged s i e ep bit session old new) Reg.FRC_LAST_LO = w32 s.grid.frame := by
  have other : Reg.FRC_LAST_LO ≠ evtStat 0x15 0 := by decide
  rw [entryChanged, forceRecord, rd_raise _ _ _ _ (by decide) other, rd_wr_same, (recommit_keeps ..).same .grid rfl]
  rfl

variable {bit} in
theorem flag_entryChanged (h : bit < 32) :
    flag (rd (entryChanged s i e ep bit session old new) Reg.FRC_EVT_STAT) bit = true :=
  flag_raise _ _ none 0 (by decide) (by decide) h

/-- The entry is as it was set, and every other is as it was (R217). -/
theorem table_entryChanged : tget none (entryChanged s i e ep bit session old new).frc.table i = e ∧
    ∀ j, j ≠ i → tget none (entryChanged s i e ep bit session old new).frc.table j = tget none s.frc.table j := by
  rw [frc_entryChanged]
  exact ⟨tget_tset_same none s.frc.table i e, fun j hj => tget_tset_other none s.frc.table i j e hj⟩

end Change

/-- The force that a request sets on an endpoint that is not one of safety (R217, R221). -/
def requestedForce (s : State) (r : ForceReq) : Force :=
  { ep := r.ep, val := r.val, session := r.session, till := if r.exp = 0 then none else some (s.grid.frame + r.exp) }

/-- A new force takes the lowest free entry (R217). -/
theorem putForce_new (plain : dSafety (dirEntry s r.ep) = false) (new : forceIdx s r.ep = none) (free : freeForce s = some i) :
    putForce s r = entryChanged s i (some (requestedForce s r)) r.ep 0 r.session 0 r.val := by
  have entry : ((forceIdx s r.ep).orElse fun _ => freeForce s) = some i := by
    simp only [new, Option.orElse, free]
  have exp : (if r.exp = 0 ∧ dSafety (dirEntry s r.ep) = true then maxForce else r.exp) = r.exp := if_neg (by simp [plain])
  simp only [putForce, entry, exp, forceOf_eq_none_of_forceIdx new]
  rfl

/-- A force ends by leaving its entry free (R217, R219). -/
theorem dropForce_held (bit session : Nat) (held : tget none s.frc.table i = some f) :
    dropForce s i bit session = entryChanged s i none f.ep bit session f.val 0 := by
  simp only [dropForce, held]
  rfl

theorem applyForce_set {atFreeze : Bool} (kind : r.kind = 0) (here : isSource s r.ep = atFreeze) :
    applyForce s atFreeze r = putForce s r := by
  simp only [applyForce, kind, here, decide_true, if_true]

theorem applyForce_release {atFreeze : Bool} (kind : r.kind = 1) (here : isSource s r.ep = atFreeze)
    (idx : forceIdx s r.ep = some i) : applyForce s atFreeze r = dropForce s i 1 r.session := by
  simp only [applyForce, kind, here, idx, decide_true, if_true]

/-! ### The commands -/

section Due

variable (t : Nat) (one : s.frc.reqs = [r]) (ok : r.accepted = true) (due : r.frame + 2 ≤ s.grid.frame)

include one ok due

/-- The one accepted request whose frame has come is due (R219). -/
theorem dueReqs_one :
    ((atTime s t).frc.reqs.filter fun q => q.accepted && decide (q.frame + 2 ≤ (atTime s t).grid.frame)) = [r] := by
  simp [one, ok, due, atTime]

/-- At the freeze the due request takes effect, if its endpoint is a source (R219). -/
theorem exec_forceEffect_freeze (freeze : s.grid.phase = 0) :
    exec (.forceEffect t) s = .next (applyForce (atTime s t) true r) := by
  show execForceEffect t s = _
  simp only [execForceEffect, dueReqs_one t one ok due]
  exact if_pos freeze

/-- At the commit the due request takes effect, if its endpoint is no source, and waits no longer (R219). -/
theorem exec_forceEffect_commit (commit : s.grid.phase = 3) (reqs : (applyForce (atTime s t) false r).frc.reqs = [r]) :
    exec (.forceEffect t) s = .next { applyForce (atTime s t) false r with
      frc := { (applyForce (atTime s t) false r).frc with reqs := [] } } := by
  have phase : (atTime s t).grid.phase = 3 := commit
  have rest : ([r].filter fun q => !(q.accepted && decide (q.frame + 2 ≤ (atTime s t).grid.frame))) = [] := by
    simp [ok, due, atTime]
  show execForceEffect t s = _
  simp only [execForceEffect, dueReqs_one t one ok due, phase, List.foldl_cons, List.foldl_nil, reqs, rest]
  rfl

end Due

/-- The one force of the table, past its last frame, is released (R221). -/
theorem exec_forceExpiry_due (t : Nat) (one : s.frc.table = [(i, some f)]) (expires : f.till = some n)
    (due : n ≤ s.grid.frame) :
    exec (.forceExpiry t) s = .next (entryChanged (atTime s t) i none f.ep 3 0 f.val 0) := by
  have all : forcesOf (atTime s t) = [(i, f)] := by simp [forcesOf, one]
  have held : tget none (atTime s t).frc.table i = some f := by simp [one, tget, Tbl.read]
  show execForceExpiry t s = _
  simp only [execForceExpiry, all, List.foldl_cons, List.foldl_nil, expires]
  rw [if_pos (show n ≤ (atTime s t).grid.frame from due), dropForce_held 3 0 held, done]

theorem tset_only_none (i : Nat) (f : Option Force) : tset none [(i, f)] i none = [] := by
  simp [tset, Tbl.write, Tbl.drop]

end Effect

/-- Settles O28: a request waits or is denied whatever its kind; an effect is one entry of the table with its record. -/
theorem forces : Obligations.Forces := by
  refine ⟨fun s c => ⟨completes_waits rfl, completes_waits rfl, completes_waits rfl, completes_denied rfl,
    completes_denied rfl, completes_denied rfl⟩, fun s r i t n f => ⟨?source, ?sink, ?release, ?expiry⟩⟩
  case source =>
    intro one ok due kind plain new free freeze source
    have put := (applyForce_set (s := atTime s t) kind source).trans (putForce_new (s := atTime s t) plain new free)
    obtain ⟨own, others⟩ := table_entryChanged (atTime s t) i (some (requestedForce (atTime s t) r)) r.ep 0 r.session 0 r.val
    exact ⟨_, (exec_forceEffect_freeze t one ok due freeze).trans (congrArg _ put), own, others,
      flag_entryChanged _ _ _ _ _ _ _ (by decide), rd_lastLo_entryChanged ..,
      sig_entryChanged_source (s := atTime s t) _ _ _ _ _ _ source⟩
  case sink =>
    intro one ok due kind plain new free commit sink bin
    have put := (applyForce_set (s := atTime s t) kind sink).trans (putForce_new (s := atTime s t) plain new free)
    obtain ⟨own, others⟩ := table_entryChanged (atTime s t) i (some (requestedForce (atTime s t) r)) r.ep 0 r.session 0 r.val
    have reqs : (applyForce (atTime s t) false r).frc.reqs = [r] := by rw [put, frc_entryChanged]; exact one
    refine ⟨_, exec_forceEffect_commit t one ok due commit reqs, ?_⟩
    rw [put]
    exact ⟨own, others, committed_entryChanged (s := atTime s t) _ _ _ _ _ commit sink bin new rfl, rfl,
      flag_entryChanged _ _ _ _ _ _ _ (by decide)⟩
  case release =>
    intro one ok due kind idx held freeze source
    have drop := (applyForce_release (s := atTime s t) kind source idx).trans (dropForce_held (s := atTime s t) 1 r.session held)
    obtain ⟨own, others⟩ := table_entryChanged (atTime s t) i none f.ep 1 r.session f.val 0
    exact ⟨_, (exec_forceEffect_freeze t one ok due freeze).trans (congrArg _ drop), own, others,
      flag_entryChanged _ _ _ _ _ _ _ (by decide)⟩
  case expiry =>
    intro one expires due
    refine ⟨_, exec_forceExpiry_due t one expires due, ?_, flag_entryChanged _ _ _ _ _ _ _ (by decide), ?_⟩
    · rw [frc_entryChanged, atTime_frc, one, tset_only_none]
    · rw [frc_entryChanged, atTime_frc]

end Sys2Proof.Machine
end

section
/-! Preparing an on-line change, its window and its end (R201–R207, R213, R214): O29. -/

namespace Sys2Proof.Machine

open Sys2Proof

/-! ### What is shared by the commands of a change -/

/-- An event of the block of on-line change shows its bit. -/
theorem flag_raise_olc (s : State) {r : RecReq} (blk : r.blk = 0x16) (h : r.ev < 32) :
    flag (rd (raise s r) Reg.OLC_EVT_STAT) r.ev = true := by
  have stat : evtStat r.blk 0 = Reg.OLC_EVT_STAT := by rw [blk]; rfl
  rw [← stat, rd_raise_evt s r 0 (by rw [stat]; decide), flag_or_bit _ h]

@[simp] theorem olc_refuseOlc (s : State) (code n : Nat) : (refuseOlc s code n).olc = s.olc := (refuseOlc_keeps ..).same .olc rfl

theorem field_refuse_refuseOlc (s : State) {code : Nat} (n : Nat) (h : code < 16) :
    field (rd (refuseOlc s code n) Reg.OLC_STAT) 23 20 = code :=
  field_shown_refuse s 5 Reg.OLC_CMD n _ (by decide) (by decide) (by decide) h

theorem flag_refused_refuseOlc (s : State) (code n : Nat) : flag (rd (refuseOlc s code n) Reg.OLC_EVT_STAT) 5 = true :=
  flag_shown_refuse _ Reg.OLC_CMD n _ (by decide) (by decide)

@[simp] theorem olcMay_touch (s : State) (n session : Nat) : olcMay (touch s n) session = olcMay s session := by
  rw [olcMay, hasRole_touch]
  rfl

theorem olcCmd_of_takes {s : State} {bit : Nat} {c : Cmd} (h : takes s Reg.OLC_CMD bit c) (may : olcMay s c.session = true)
    (f : State → State) : olcCmd s bit c f = f (touch s c.session) := by
  obtain ⟨pass, key, sel⟩ := h
  rw [olcCmd, written_of_passes pass, if_neg (Decidable.not_not.2 key), if_neg (by simp [sel]),
    if_neg (by simp [may])]

/-! ### Loading and verifying (R201–R203, R207) -/

section Load

variable {s : State} {session kib : Nat} {img : Image} {map : List MapEnt} {ok : Bool} {crc : Word}

/-- The state with an image and its mapping table in the shadow bank, not verified yet (R201). -/
def olcLoading (s : State) (img : Image) (map : List MapEnt) (kib : Nat) : State :=
  setOlc s fun o => { o with
    stage := 1, shadow := some img, map := map, kib := kib, verified := false, partnerOk := false, asking := none }

theorem exec_olcLoad_taken (may : olcMay s session = true)
    (free : s.olc.stage = 0 ∨ s.olc.stage = 2 ∧ s.olc.shadow.map (·.id) = some img.id) (a : s.upd.slotA.state ≠ 2)
    (b : s.upd.slotB.state ≠ 2) :
    exec (.olcLoad session img map kib) s = .next (olcLoading (touch s session) img map kib) := by
  have idle : ¬ (s.olc.stage = 1 ∨ s.olc.stage = 3 ∨ s.olc.stage = 4 ∨ s.olc.stage = 5 ∨
      (decide (s.upd.slotA.state = 2) || decide (s.upd.slotB.state = 2)) = true ∨
      s.olc.stage = 2 ∧ s.olc.shadow.map (·.id) ≠ some img.id) := by
    rcases free with h | ⟨h, same⟩ <;> simp_all
  show execOlcLoad session img map kib s = _
  rw [execOlcLoad, olcMay_touch, if_neg (by simp [may])]
  exact if_neg idle

theorem exec_olcLoad_denied (no : olcMay s session = false) :
    exec (.olcLoad session img map kib) s = .next (refuseOlc (touch s session) 10 session) := by
  show execOlcLoad session img map kib s = _
  rw [execOlcLoad, olcMay_touch, if_pos (by simp [no]), done]

/-- A cause of refusal fits the field that shows it (R225). -/
theorem verifyCode_lt (s : State) (img : Image) (ok : Bool) : verifyCode s img ok < 16 :=
  Nat.lt_of_le_of_lt (ite_le_of_le (by decide) (ite_le_of_le (by decide) (ite_le_of_le (by decide)
    (ite_le_of_le (Nat.le_refl 9) (by decide))))) (by decide)

/-- The checks of the image have passed; its CRC is known (R203). -/
def olcVerified (s : State) (crc : Word) : State := setOlc s fun o => { o with verified := true, crc := crc }

/-- A module that leads alone is PREPARED at once (R203). -/
theorem exec_olcVerify_solo (loaded : s.olc.shadow = some img) (stage : s.olc.stage = 1) (passes : verifyCode s img ok = 0)
    (solo : s.pair.role = .solo) : exec (.olcVerify ok crc) s = .next (olcPrepared (olcVerified s crc)) := by
  show execOlcVerify ok crc s = _
  simp only [execOlcVerify, loaded, stage, passes, solo]
  rfl

theorem olc_olcPrepared (s : State) : (olcPrepared s).olc = { s.olc with stage := 2, partnerOk := true } := raise_olc ..

/-- The shadow bank is empty again (R201). -/
def olcDiscarded (s : State) : State := setOlc s fun o => { o with stage := 0, shadow := none, map := [] }

theorem exec_olcVerify_fails (loaded : s.olc.shadow = some img) (stage : s.olc.stage = 1) (fails : verifyCode s img ok ≠ 0) :
    exec (.olcVerify ok crc) s = .next (refuseOlc (olcDiscarded s) (verifyCode s img ok) 0) := by
  show execOlcVerify ok crc s = _
  simp only [execOlcVerify, loaded, stage, if_pos fails]
  rfl

end Load

/-! ### The commands of OLC_CMD (R204–R207, R213, R214) -/

section Command

variable {s : State} {img : Image} {c : Cmd}

theorem exec_olcAbort_prepared (h : takes s Reg.OLC_CMD 1 c) (may : olcMay s c.session = true) (stage : s.olc.stage = 2) :
    exec (.olcAbort c) s = .next (tokel (setOlc (accepted (touch s c.session) Reg.OLC_CMD c) fun o =>
      { o with stage := 0, shadow := none, map := [], partnerOk := false }) 0x30 [7]) := by
  show execOlcAbort c s = _
  rw [execOlcAbort, olcCmd_of_takes h may, if_pos (show (touch s c.session).olc.stage = 2 from stage), done]

theorem armRefusal_lt (s : State) (img : Image) (relforce : Bool) : armRefusal s img relforce < 16 :=
  Nat.lt_of_le_of_lt (ite_le_of_le (by decide) (ite_le_of_le (by decide) (ite_le_of_le (by decide)
    (ite_le_of_le (Nat.le_refl 8) (by decide))))) (by decide)

theorem exec_olcArm_solo (h : takes s Reg.OLC_CMD 2 c) (may : olcMay s c.session = true) (stage : s.olc.stage = 2)
    (loaded : s.olc.shadow = some img) (solo : s.pair.role = .solo) (ok : armRefusal s img (flag c.value 6) = 0) :
    exec (.olcArm c) s =
      .next (olcArmed (accepted (touch s c.session) Reg.OLC_CMD c) (armFrame s) (flag c.value 6)) := by
  have ok' : armRefusal (touch s c.session) img (flag c.value 6) = 0 := ok
  show execOlcArm c s = _
  rw [execOlcArm, olcCmd_of_takes h may]
  simp only [touch_olc, touch_pair, stage, loaded, solo, ok']
  rfl

theorem exec_olcArm_refused (h : takes s Reg.OLC_CMD 2 c) (may : olcMay s c.session = true) (stage : s.olc.stage = 2)
    (loaded : s.olc.shadow = some img) (no : armRefusal s img (flag c.value 6) ≠ 0) :
    exec (.olcArm c) s = .next (refuseOlc (touch s c.session) (armRefusal s img (flag c.value 6)) c.session) := by
  have no' : armRefusal (touch s c.session) img (flag c.value 6) ≠ 0 := no
  show execOlcArm c s = _
  rw [execOlcArm, olcCmd_of_takes h may]
  simp only [touch_olc, stage, loaded, if_pos no']
  rfl

/-- The state after DISARM (R206). -/
def olcDisarmed (s : State) (c : Cmd) : State :=
  tokel (raise (setOlc (accepted s Reg.OLC_CMD c) fun o => { o with stage := 2 })
    { blk := 0x16, ev := 1, sev := some 1 }) 0x30 [6]

theorem olc_olcDisarmed (s : State) (c : Cmd) : (olcDisarmed s c).olc = { s.olc with stage := 2 } :=
  (raise_olc ..).trans (congrArg (fun o : OlcState => { o with stage := 2 }) (accepted_olc ..))

theorem exec_olcDisarm_armed (h : takes s Reg.OLC_CMD 3 c) (may : olcMay s c.session = true) (stage : s.olc.stage = 3) :
    exec (.olcDisarm c) s = .next (olcDisarmed (touch s c.session) c) := by
  show execOlcDisarm c s = _
  rw [execOlcDisarm, olcCmd_of_takes h may, if_pos (show (touch s c.session).olc.stage = 3 from stage), done, olcDisarmed]

theorem exec_olcRevert_window (h : takes s Reg.OLC_CMD 4 c) (may : olcMay s c.session = true) (stage : s.olc.stage = 4) :
    exec (.olcRevert c) s = .next
      (tokel (olcRevertAt (accepted (touch s c.session) Reg.OLC_CMD c) s.grid.frame) 0x30 [8, s.grid.frame]) := by
  show execOlcRevert c s = _
  rw [execOlcRevert, olcCmd_of_takes h may, if_pos (show (touch s c.session).olc.stage = 4 from stage), done, touch_grid]

theorem exec_olcRevert_refused (h : takes s Reg.OLC_CMD 4 c) (may : olcMay s c.session = true) (stage : s.olc.stage ≠ 4) :
    exec (.olcRevert c) s = .next (refuseOlc (touch s c.session) 12 c.session) := by
  show execOlcRevert c s = _
  rw [execOlcRevert, olcCmd_of_takes h may, if_neg (show ¬ (touch s c.session).olc.stage = 4 from stage), done]

theorem exec_olcAccept_window (h : takes s Reg.OLC_CMD 5 c) (may : olcMay s c.session = true) (stage : s.olc.stage = 4) :
    exec (.olcAccept c) s = .next (tokel (windowEnds (accepted (touch s c.session) Reg.OLC_CMD c)) 0x30 [9]) := by
  show execOlcAccept c s = _
  rw [execOlcAccept, olcCmd_of_takes h may, if_pos (show (touch s c.session).olc.stage = 4 from stage), done]

theorem exec_olcWindowExpiry_due (t : Nat) (stage : s.olc.stage = 4) (due : s.olc.windowEnd ≤ s.grid.frame) :
    exec (.olcWindowExpiry t) s = .next (windowEnds (atTime s t)) :=
  if_pos ⟨stage, due⟩

theorem olc_windowEnds (s : State) :
    (windowEnds s).olc = { s.olc with stage := 0, shadow := none, map := [], partnerOk := false } := raise_olc ..

theorem cfg_windowEnds (s : State) : (windowEnds s).cfg = s.cfg := raise_cfg ..

end Command

/-- Settles O29: each command ends in the state that its `exec_` lemma names, where every refusal is one of `refuseOlc`. -/
theorem olcPrepares : Obligations.OlcPrepares := by
  refine ⟨fun s session kib img map ok crc c => ⟨fun may free a b => ?load, fun no => ?denied,
      fun loaded stage passes solo => ?verify, fun loaded stage fails => ?fails, fun h may stage => ?abort⟩,
    fun s img t c => ⟨fun h may stage loaded solo ok => ?arm, fun h may stage loaded no => ?refused,
      fun h may stage => ?disarm, fun h may stage => ?revert, fun h may stage => ?outside, fun h may stage => ?accept,
      fun stage due => ?expiry⟩⟩
  case load =>
    exact ⟨_, exec_olcLoad_taken may free a b, rfl, rfl, rfl, rfl, Keeps.onlyParts
      (Keeps.step (setOlc_keeps ..) rfl (Keeps.step (touch_keeps ..) rfl (Keeps.refl ..)))⟩
  case denied =>
    exact ⟨_, exec_olcLoad_denied no, olc_refuseOlc .., field_refuse_refuseOlc _ _ (by decide), flag_refused_refuseOlc ..⟩
  case verify =>
    have olc := olc_olcPrepared (olcVerified s crc)
    exact ⟨_, exec_olcVerify_solo loaded stage passes solo, congrArg OlcState.stage olc, congrArg OlcState.verified olc,
      congrArg OlcState.crc olc, (congrArg OlcState.shadow olc).trans loaded, flag_raise_olc _ rfl (by decide)⟩
  case fails =>
    have olc := olc_refuseOlc (olcDiscarded s) (verifyCode s img ok) 0
    exact ⟨_, exec_olcVerify_fails loaded stage fails, congrArg OlcState.stage olc, congrArg OlcState.shadow olc,
      field_refuse_refuseOlc _ _ (verifyCode_lt ..)⟩
  case abort =>
    exact ⟨_, exec_olcAbort_prepared h may stage, rfl, rfl, rfl, accepted_cfg ..⟩
  case arm =>
    exact ⟨_, exec_olcArm_solo h may stage loaded solo ok, rfl, rfl, rfl,
      (congrArg OlcState.shadow (accepted_olc ..)).trans loaded⟩
  case refused =>
    exact ⟨_, exec_olcArm_refused h may stage loaded no, olc_refuseOlc .., field_refuse_refuseOlc _ _ (armRefusal_lt ..)⟩
  case disarm =>
    exact ⟨_, exec_olcDisarm_armed h may stage, olc_olcDisarmed (touch s c.session) c, flag_raise_olc _ rfl (by decide)⟩
  case revert =>
    exact ⟨_, exec_olcRevert_window h may stage, congrArg
      (fun o : OlcState => { o with stage := 5, revertAt := s.grid.frame + 24 }) (accepted_olc ..)⟩
  case outside =>
    exact ⟨_, exec_olcRevert_refused h may stage, olc_refuseOlc .., field_refuse_refuseOlc _ _ (by decide)⟩
  case accept =>
    have olc := olc_windowEnds (accepted (touch s c.session) Reg.OLC_CMD c)
    exact ⟨_, exec_olcAccept_window h may stage, congrArg OlcState.stage olc, congrArg OlcState.shadow olc,
      (cfg_windowEnds _).trans (accepted_cfg ..), flag_raise_olc _ rfl (by decide)⟩
  case expiry =>
    have olc := olc_windowEnds (atTime s t)
    exact ⟨_, exec_olcWindowExpiry_due t stage due, congrArg OlcState.stage olc, congrArg OlcState.shadow olc,
      cfg_windowEnds _, flag_raise_olc _ rfl (by decide)⟩

end Sys2Proof.Machine
end

section
/-! The switch of configurations, its reversal and its persistence (R205, R209–R213, R215): O30. -/

namespace Sys2Proof.Machine

open Sys2Proof

/-! ### The image and the engines (R205, R209) -/

section Switch

variable (s : State) (new : Image) (m : List MapEnt)

/-- The new image is in force, and partitions, partition memory and banks have followed it (R205, R209, R212). -/
def imageInForce : State :=
  { s with
    cfg := new
    sched := { s.sched with parts := s.sched.parts.map fun p => if (replacedParts s.cfg new).contains p.1 then
      (p.1, { p.2 with react := false, safe := false, reactDue := false, resumeAt := none, overruns := [] }) else p }
    fbx := { s.fbx with mem := mappedWords s m s.cfg new }
    sig := { s.sig with
      working := s.sig.working.without (epChanged s.cfg new), output := s.sig.output.without (epChanged s.cfg new)
      committed := s.sig.committed.without (epChanged s.cfg new)
      coll := { s.sig.coll with got := s.sig.coll.got.filter fun e => !epChanged s.cfg new e.1 } } }

/-- Engine e of u takes its programs of the new image, with the mapped cells of s (R205, R209). -/
def engineSwitched (u : State) (e : Nat) : State :=
  imageMode (setLe u e { leOf u e with
    hist := mappedCells s m e, pmem := tsetAll 0 [] ((look new.le e).getD {}).pmem, progFaults := [], progSlots := [] })
    s.cfg new e

/-- All engines have switched. -/
def enginesSwitched : State := (upto 8).foldl (engineSwitched s new m) (imageInForce s new m)

variable {s new m}

theorem hist_imageMode (u : State) (old : Image) (e f : Nat) : (leOf (imageMode u old new e) f).hist = (leOf u f).hist := by
  unfold imageMode
  extract_lets
  split
  · rfl
  · rw [leOf_raise, leOf_setLe]
    split
    · next same => rw [same]
    · rfl

theorem hist_engineSwitched (u : State) (e f : Nat) :
    (leOf (engineSwitched s new m u e) f).hist = if f = e then mappedCells s m e else (leOf u f).hist := by
  rw [engineSwitched, hist_imageMode, leOf_setLe]
  split <;> rfl

/-- An engine that has switched keeps its cells while the others switch. -/
theorem hist_foldl_engineSwitched (l : List Nat) (u : State) {e : Nat} (h : e ∈ l ∨ (leOf u e).hist = mappedCells s m e) :
    (leOf (l.foldl (engineSwitched s new m) u) e).hist = mappedCells s m e := by
  induction l generalizing u with
  | nil => exact h.resolve_left List.not_mem_nil
  | cons f l ih =>
    refine ih _ ?_
    rw [hist_engineSwitched]
    by_cases own : e = f
    · exact .inr (by rw [if_pos own, own])
    · rw [if_neg own]
      exact h.imp_left fun mem => (List.mem_cons.1 mem).resolve_left own

theorem engineSwitched_keeps (u : State) (e : Nat) : Keeps 0x2000800001208 u (engineSwitched s new m u e) :=
  Keeps.step (imageMode_keeps ..) rfl (Keeps.mono (setLe_keeps ..) rfl)

theorem enginesSwitched_keeps : Keeps 0x2000800001208 (imageInForce s new m) (enginesSwitched s new m) :=
  Keeps.foldl (Keeps.refl ..) fun _ _ h => Keeps.step (engineSwitched_keeps ..) rfl h

/-- What follows the engines in the switch leaves the image, the engines and the partition memory. -/
theorem switchImage_keeps_engines : Keeps 0x631c6c0f1d5188 (enginesSwitched s new m) (switchImage s new m) := by
  have forces : Keeps 0x631c6c0f1d5188 (enginesSwitched s new m)
      (reconcileForces (newWriters (pendSins (enginesSwitched s new m) (replacedParts s.cfg new)) s.cfg) s.cfg new) :=
    Keeps.step (reconcileForces_keeps ..) rfl (Keeps.step (newWriters_keeps ..) rfl (Keeps.mono (pendSins_keeps ..) rfl))
  refine Keeps.step (loadBudgets_keeps ..) rfl (Keeps.step (collectStatus_keeps ..) rfl
    (Keeps.ite ?_ (Keeps.raise 2 rfl rfl rfl rfl ?_)))
  all_goals
    refine Keeps.step (unitsImage_keeps ..) rfl (Keeps.wr rfl
      (Keeps.foldl (Keeps.wr rfl (Keeps.wr rfl (Keeps.wr rfl forces))) fun _ _ h => ?_))
    exact Keeps.wrOf (Reg.OLC_PARTMAPn_block ..) rfl h

theorem cfg_switchImage : (switchImage s new m).cfg = new :=
  (switchImage_keeps_engines.same .cfg rfl).trans (enginesSwitched_keeps.same .cfg rfl)

theorem mem_switchImage : (switchImage s new m).fbx.mem = mappedWords s m s.cfg new :=
  congrArg Fbx.mem ((switchImage_keeps_engines.same .fbx rfl).trans (enginesSwitched_keeps.same .fbx rfl))

theorem hist_switchImage {e : Nat} (he : e < 8) : (leOf (switchImage s new m) e).hist = mappedCells s m e := by
  have le : (switchImage s new m).le = (enginesSwitched s new m).le := switchImage_keeps_engines.same .le rfl
  rw [leOf, le]
  exact hist_foldl_engineSwitched _ _ (.inl (List.mem_range.2 he))

end Switch

/-! ### The commit and the revert (R205, R213) -/

section Commit

variable {s : State} {img : Image}

/-- A switch has ended, with what it makes of the change and with its event (R205, R213). -/
def switchEnded (s : State) (img : Image) (m : List MapEnt) (f : OlcState → OlcState) (ev : Nat) : State :=
  raise (setOlc (switchImage s img m) f) { blk := 0x16, ev := ev }

section Ended

variable (s : State) (img : Image) (m : List MapEnt) (f : OlcState → OlcState) {ev : Nat}

theorem cfg_switchEnded : (switchEnded s img m f ev).cfg = img := by
  rw [switchEnded, raise_cfg, setOlc_cfg, cfg_switchImage]

theorem olc_switchEnded : (switchEnded s img m f ev).olc = f (switchImage s img m).olc := raise_olc ..

theorem hist_switchEnded {e : Nat} (he : e < 8) : (leOf (switchEnded s img m f ev) e).hist = mappedCells s m e := by
  rw [switchEnded, leOf_raise, leOf_setOlc, hist_switchImage he]

theorem mem_switchEnded : (switchEnded s img m f ev).fbx.mem = mappedWords s m s.cfg img := by
  rw [switchEnded, raise_fbx, setOlc_fbx, mem_switchImage]

theorem flag_switchEnded (h : ev < 32) : flag (rd (switchEnded s img m f ev) Reg.OLC_EVT_STAT) ev = true :=
  flag_raise_olc _ rfl h

end Ended

/-- The change has committed: the window is open, and the old image waits in the shadow bank (R201, R205). -/
def changeCommitted (s : State) (img : Image) : State :=
  switchEnded s img s.olc.map (fun o => { o with
    stage := 4, shadow := some s.cfg, windowEnd := s.grid.frame + field (rd s Reg.OLC_REVWIN) 11 0 * 2400, slotw := 1 }) 2

theorem exec_olcCommit_armed (t : Nat) (loaded : s.olc.shadow = some img) (freeze : s.grid.phase = 0) (stage : s.olc.stage = 3)
    (armed : s.olc.arm = s.grid.frame) (plain : touchesSafety s.cfg img = false) (role : s.pair.role ≠ .standby) :
    exec (.olcCommit t) s = .next (changeCommitted (atTime s t) img) := by
  have due : ¬ ((atTime s t).olc.stage ≠ 3 ∨ (atTime s t).grid.frame ≠ (atTime s t).olc.arm ∨
      (atTime s t).grid.phase ≠ 0) := by
    simp [atTime, stage, armed, freeze]
  have loaded' : (atTime s t).olc.shadow = some img := loaded
  show execOlcCommit t s = _
  simp only [execOlcCommit, loaded']
  rw [if_neg due, if_neg (by simp [plain]), if_neg (by simp [role])]
  rfl

/-- The change is reverted: its other image is in force again, and nothing waits in the shadow bank (R213). -/
def changeReverted (s : State) (img : Image) : State :=
  switchEnded s img (s.olc.map.map MapEnt.inverse) (fun o => { o with stage := 0, shadow := none, map := [], slotw := 1 }) 3

theorem exec_revertEffect_due (t : Nat) (loaded : s.olc.shadow = some img) (freeze : s.grid.phase = 0) (stage : s.olc.stage = 5)
    (due : s.olc.revertAt ≤ s.grid.frame) : exec (.revertEffect t) s = .next (changeReverted (atTime s t) img) := by
  have due' : ¬ ((atTime s t).olc.stage ≠ 5 ∨ (atTime s t).grid.frame < (atTime s t).olc.revertAt ∨
      (atTime s t).grid.phase ≠ 0) := by
    simp [atTime, stage, due, freeze]
  have loaded' : (atTime s t).olc.shadow = some img := loaded
  show execRevertEffect t s = _
  simp only [execRevertEffect, loaded']
  rw [if_neg due']
  rfl

end Commit

/-! ### Persisting (R215) -/

section Persist

variable {s : State}

theorem exec_persistStepEnd_leads (t : Nat) (leads : s.pair.role.leads = true) :
    exec (.persistStepEnd t) s = .next (persistStep (atTime s t)) :=
  if_neg fun h => Bool.eq_false_iff.1 h.2 leads

/-- Step k of R215 has ended. -/
def persistStepped (s : State) (k : Nat) : State := setOlc s fun o => { o with slotw := k }

theorem persistStep_one (step : s.olc.slotw = 1) : persistStep s =
    persistStepped (showCopies { s with fbx := { s.fbx with copyA := fullCopy s, changed := [] } }) 2 := by
  simp [persistStep, step, persistStepped]

theorem persistStep_two (step : s.olc.slotw = 2) (leads : s.pair.role.leads = true) : persistStep s =
    tokel (persistStepped { s with upd := { s.upd with copyA := nextSlotCopy s } } 3) 0x30 [10, 2] := by
  simp [persistStep, step, leads, persistStepped]

theorem persistStep_three (step : s.olc.slotw = 3) : persistStep s =
    persistStepped (showCopies { s with fbx := { s.fbx with copyB := fullCopy s } }) 4 := by
  simp [persistStep, step, persistStepped]

theorem persistStep_four (step : s.olc.slotw = 4) (leads : s.pair.role.leads = true) : persistStep s =
    raise (tokel (persistStepped { s with upd := { s.upd with copyB := s.upd.copyA } } 5) 0x30 [10, 4])
      { blk := 0x16, ev := 6 } := by
  simp [persistStep, step, leads, persistStepped]

end Persist

/-- Settles O30: the commit and the revert are each a `switchEnded`, whose lemmas tell what the switch leaves; each step of the
persistence is its `persistStep_` lemma. -/
theorem olcSwitches : Obligations.OlcSwitches := by
  refine ⟨fun s img t loaded freeze => ⟨fun stage armed plain role => ?commit, fun stage due => ?revert⟩,
    fun s t leads => ⟨fun step => ?one, fun step => ?two, fun step => ?three, fun step => ?four⟩⟩
  case commit =>
    have olc : (changeCommitted (atTime s t) img).olc = _ := olc_switchEnded ..
    exact ⟨_, exec_olcCommit_armed t loaded freeze stage armed plain role, cfg_switchEnded .., congrArg OlcState.stage olc,
      congrArg OlcState.shadow olc, congrArg OlcState.slotw olc, congrArg OlcState.windowEnd olc,
      flag_switchEnded _ _ _ _ (by decide), fun e he => hist_switchEnded _ _ _ _ he, mem_switchEnded ..⟩
  case revert =>
    have olc : (changeReverted (atTime s t) img).olc = _ := olc_switchEnded ..
    exact ⟨_, exec_revertEffect_due t loaded freeze stage due, cfg_switchEnded .., congrArg OlcState.stage olc,
      congrArg OlcState.shadow olc, flag_switchEnded _ _ _ _ (by decide), fun e he => hist_switchEnded _ _ _ _ he⟩
  case one =>
    exact ⟨_, (exec_persistStepEnd_leads t leads).trans (congrArg _ (persistStep_one step)), rfl, rfl, rfl, rfl⟩
  case two =>
    exact ⟨_, (exec_persistStepEnd_leads t leads).trans (congrArg _ (persistStep_two step leads)), rfl, rfl, rfl, rfl⟩
  case three =>
    exact ⟨_, (exec_persistStepEnd_leads t leads).trans (congrArg _ (persistStep_three step)), rfl, rfl, rfl, rfl⟩
  case four =>
    exact ⟨_, (exec_persistStepEnd_leads t leads).trans (congrArg _ (persistStep_four step leads)),
      (congrArg UpdState.copyB (raise_upd ..) :), (congrArg UpdState.copyA (raise_upd ..) :),
      (congrArg OlcState.slotw (raise_olc ..) :), flag_raise_olc _ rfl (by decide)⟩

end Sys2Proof.Machine
end

section
/-! The pair's shared steps: its events, its keyed commands, changes of role and switchovers refused (R227, R229, R241, R249):
what O31 and O32 need. -/

namespace Sys2Proof.Machine

open Sys2Proof

/-! ### Events and commands of the block -/

/-- An event of the pair's block shows its bit. -/
theorem flag_raise_pair (s : State) {r : RecReq} (blk : r.blk = 7) (h : r.ev < 32) :
    flag (rd (raise s r) Reg.PAIR_EVT_STAT) r.ev = true := by
  have stat : evtStat r.blk 0 = Reg.PAIR_EVT_STAT := by rw [blk]; rfl
  rw [← stat, rd_raise_evt s r 0 (by rw [stat]; decide), flag_or_bit _ h]

/-- What leaves the pair's block leaves its registers. -/
theorem rd_pair_of_keeps {m a : Nat} {s u : State} (h : Keeps m s u) (free : m.testBit 39 = false) (pair : blockOf a = 7) :
    rd u a = rd s a :=
  h.same .rPAIR free (by decide) a pair

/-- A command of PAIR_CMD with its key and its bit runs (R249). -/
theorem pairKeyed_of_takes {s : State} {bit : Nat} {c : Cmd} (h : takes s Reg.PAIR_CMD bit c) (f : State → State) :
    pairKeyed s c (fun t => if !flag c.value bit then t else f t) = f (touch s c.session) := by
  obtain ⟨pass, key, sel⟩ := h
  rw [pairKeyed, written_of_passes pass, if_pos key, sel]
  rfl

@[simp] theorem switchRefusal_touch (s : State) (n kind : Nat) : switchRefusal (touch s n) kind = switchRefusal s kind := rfl

/-! ### Changes of role (R229) -/

/-- The pair of a module that takes a role as of frame n; now is the present frame (R227, R229). -/
def PairState.taking (p : PairState) (r : Role) (n now : Nat) : PairState :=
  { p with
    role := r, since := n, hmCompared := false
    learnFail := if r = .standby then 0 else p.learnFail
    learn := if r = .learning then { phase := 1, start := now } else { p.learn with running := false }
    lostAt := none
    lines := { p.lines with ready := decide (r = .standby ∨ r = .learning ∨ r = .detached), yield := false } }

/-- The state in which the pair has taken a role, with its event (R229). -/
def roleTaken (s : State) (r : Role) (cause n : Nat) : State :=
  raise (setPair s fun p => p.taking r n s.grid.frame)
    { blk := 7, ev := 0, info := [s.pair.role.code, r.code, cause], stamp := some s.grid.freezeAt }

section TakeRole

variable {s : State} {r : Role} (cause n : Nat)

/-- What a change of role brings with it touches neither the pair nor its registers. -/
theorem takeRoleAt_keeps_roleTaken (new : s.pair.role ≠ r) :
    Keeps 0x4a400800069208 (roleTaken s r cause n) (takeRoleAt s r cause n) := by
  unfold takeRoleAt
  extract_lets -merge +onlyGivenNames old
  rw [if_neg new]
  extract_lets -merge +onlyGivenNames pair taken disarmed closed
  have disarmed_keeps : Keeps 0x4a400800069208 taken disarmed := Keeps.ite (Keeps.mono (autoDisarm_keeps ..) rfl) (Keeps.refl ..)
  have closed_keeps : Keeps 0x4a400800069208 taken closed :=
    Keeps.ite (Keeps.step (closeDebugAll_keeps ..) rfl disarmed_keeps) disarmed_keeps
  exact Keeps.ite (Keeps.step (reachRun_keeps ..) rfl closed_keeps)
    (Keeps.ite (Keeps.step (lifeOnOffline_keeps ..) rfl closed_keeps) closed_keeps)

theorem pair_takeRoleAt (new : s.pair.role ≠ r) : (takeRoleAt s r cause n).pair = s.pair.taking r n s.grid.frame :=
  ((takeRoleAt_keeps_roleTaken cause n new).same .pair rfl).trans (raise_pair ..)

theorem rd_pair_takeRoleAt (new : s.pair.role ≠ r) {a : Nat} (pair : blockOf a = 7) (evt : a ≠ Reg.PAIR_EVT_STAT) :
    rd (takeRoleAt s r cause n) a = rd s a := by
  rw [rd_pair_of_keeps (takeRoleAt_keeps_roleTaken cause n new) rfl pair, roleTaken,
    rd_raise _ _ _ _ (ne_of_apply_ne blockOf (by rw [pair]; decide)) evt, rd_setPair]

end TakeRole

/-- A change of role that nothing else waits with is due at the next boundary (R229). -/
theorem requestRole_free {s : State} (free : s.pair.next = none) (r : Role) (cause : Nat) :
    requestRole s r cause = setPair s fun p => { p with next := some (r, cause) } := by
  rw [requestRole, free]

/-! ### Refused switchovers (R241) -/

/-- A cause of refusal fits the field that shows it (R241). -/
theorem switchRefusal_lt (s : State) (kind : Nat) : switchRefusal s kind < 16 :=
  Nat.lt_of_le_of_lt (ite_le_of_le (by decide) (ite_le_of_le (Nat.le_refl 9) (ite_le_of_le (by decide) (ite_le_of_le (by decide)
    (ite_le_of_le (by decide) (ite_le_of_le (by decide) (ite_le_of_le (by decide) (by decide)))))))) (by decide)

theorem pair_refuseSwitch (s : State) (code n : Nat) : (refuseSwitch s code n).pair = s.pair :=
  (refuseSwitch_keeps ..).same .pair rfl

theorem field_cause_refuseSwitch (s : State) {code : Nat} (n : Nat) (h : code < 16) :
    field (rd (refuseSwitch s code n) Reg.PAIR_STAT) 19 16 = code :=
  field_shown_refuse s 3 Reg.PAIR_CMD n _ (by decide) (by decide) (by decide) h

theorem flag_refused_refuseSwitch (s : State) (code n : Nat) :
    flag (rd (refuseSwitch s code n) Reg.PAIR_EVT_STAT) 3 = true :=
  flag_shown_refuse _ Reg.PAIR_CMD n _ (by decide) (by decide)

end Sys2Proof.Machine
end

section
/-! The clasp lines, their failure, KILL and the keyed commands REJOIN and CLR_CNT (R232, R236, R243–R245, R249, R277): O31. -/

namespace Sys2Proof.Machine

open Sys2Proof

/-! ### A failed clasp (R243, R245) -/

section Fail

variable (s : State) {cause : Nat}

theorem pair_failClasp : (failClasp s cause).pair = { s.pair with claspFail := true, claspFrame := s.grid.frame } := raise_pair ..

theorem field_cause_failClasp (h : cause < 16) : field (rd (failClasp s cause) Reg.PAIR_CLASP_STAT) 31 28 = cause := by
  rw [failClasp, rd_raise _ _ _ Reg.PAIR_CLASP_STAT (by decide) (ne_of_beq_false rfl), addField,
    field_wrField_other _ _ _ (by decide) (.inr (by decide)), field_wrField_same _ _ _ _ (by decide)]
  exact Nat.mod_eq_of_lt h

theorem flag_failed_failClasp : flag (rd (failClasp s cause) Reg.PAIR_EVT_STAT) 6 = true :=
  flag_raise_pair (r := { blk := 7, ev := 6, sev := some 2, info := [cause] }) _ rfl (show 6 < 32 by decide)

variable {s}

theorem exec_claspFail_agreeing (t : Nat) (ok : s.pair.claspFail = false) (agree : s.pair.lines.grant = s.pair.lines.grantN) :
    exec (.claspFail 2 t) s = .next (failClasp (atTime s t) 2) := by
  have holds : claspCondition (atTime s t) 2 t = true := decide_eq_true agree
  show execClaspFail 2 t s = _
  rw [execClaspFail, if_pos holds, if_neg (by rw [atTime_pair, ok]; decide), done]

/-- The clasp is sound again, and the module holds the grant as the line has it (R245). -/
def claspCleared (s : State) : State :=
  raise (setPair s fun p => { p with claspFail := false, granted := s.pair.lines.granted }) { blk := 7, ev := 7 }

theorem exec_claspFailClear_due (t : Nat) (failed : s.pair.claspFail = true) (due : s.pair.claspFrame + 2400 ≤ s.grid.frame)
    (fits : s.pair.lines.granted = s.pair.role.leads) : exec (.claspFailClear t) s = .next (claspCleared (atTime s t)) :=
  if_pos ⟨failed, due, fits⟩

end Fail

/-! ### The lines (R236) -/

section Lines

variable {s : State} {l : ClaspLines} {t : Nat}

/-- The lines of the clasp as they now stand, beside those that the module drives itself. -/
def PairLines.seen (p : PairLines) (l : ClaspLines) : PairLines :=
  { p with grant := l.grant, grantN := l.grantN, kill := l.kill, killN := l.killN, pgrant := l.pgrant }

/-- The state in which a change of the lines is noted and not judged yet. -/
def linesNoted (s : State) (l : ClaspLines) (t : Nat) : State :=
  setPair (atTime s t) fun p => { p with
    lines := p.lines.seen l, pgrantAt := if l.pgrant = p.lines.pgrant then p.pgrantAt else t }

/-- The state in which KILL, if it now stands, has started its wait at instant t (R236). -/
def killNoted (s : State) (l : ClaspLines) (t : Nat) : State :=
  if (s.pair.lines.seen l).killed then setPair (linesNoted s l t) fun p => { p with killAt := some t } else linesNoted s l t

/-- On a sound clasp with neither KILL nor GRANT before, the new lines fail it when GRANT meets PGRANT, and gain the grant when
it stands alone (R236, R243). -/
theorem seeLines_fresh (ok : s.pair.claspFail = false) (k : s.pair.lines.killed = false) (g : s.pair.lines.granted = false) :
    seeLines s l t = if (s.pair.lines.seen l).granted && l.pgrant then failClasp (killNoted s l t) 4
      else if (s.pair.lines.seen l).granted then grantGained (killNoted s l t) t else killNoted s l t := by
  unfold seeLines
  extract_lets -merge +onlyGivenNames u p old new noted
  have killed : p.lines.killed = false := k
  have granted : p.lines.granted = false := g
  rw [if_neg (show ¬ p.claspFail = true from Bool.eq_false_iff.1 ok)]
  simp only [killed, granted, Bool.not_false, Bool.and_true, Bool.false_and, Bool.false_eq_true, if_false]
  rfl

section Change

variable (ok : s.pair.claspFail = false) (k : s.pair.lines.killed = false) (g : s.pair.lines.granted = false)

include ok k g

theorem seeLines_both (kill : (s.pair.lines.seen l).killed = false) (grant : (s.pair.lines.seen l).granted = true)
    (pgrant : l.pgrant = true) : seeLines s l t = failClasp (linesNoted s l t) 4 := by
  rw [seeLines_fresh ok k g, killNoted, kill, grant, pgrant]
  rfl

theorem seeLines_gained (kill : (s.pair.lines.seen l).killed = false) (grant : (s.pair.lines.seen l).granted = true)
    (pgrant : l.pgrant = false) : seeLines s l t = grantGained (linesNoted s l t) t := by
  rw [seeLines_fresh ok k g, killNoted, kill, grant, pgrant]
  rfl

theorem seeLines_killed (kill : (s.pair.lines.seen l).killed = true) (grant : (s.pair.lines.seen l).granted = false) :
    seeLines s l t = setPair (linesNoted s l t) fun p => { p with killAt := some t } := by
  rw [seeLines_fresh ok k g, killNoted, kill, grant]
  rfl

end Change

/-- The grant is held unplanned from instant t on (R236). -/
def unplannedGrant (s : State) (t : Nat) : State :=
  setPair s fun p => { p with granted := true, grantAt := t, unplanned := true, grantLatch := true }

/-- A standby with READY up, PGRANT low for more than a frame and no handover frame announced gains the grant unplanned
(R236). -/
theorem grantGained_unplanned (role : s.pair.role = .standby) (ready : s.pair.lines.ready = true)
    (low : s.pair.pgrantAt + 420000 ≤ t) (free : s.pair.sw = none) : grantGained s t = onGrant (unplannedGrant s t) t := by
  have frame : lasts (t - s.pair.pgrantAt) 1 = true := decide_eq_true (by omega)
  simp only [grantGained, ready, frame, role, atHandover, free, Bool.or_true, Bool.and_self, if_true,
    Bool.false_eq_true, if_false]
  rfl

theorem pair_onGrant (s : State) (t : Nat) : (onGrant s t).pair = s.pair := (onGrant_keeps ..).same .pair rfl

theorem sig_onGrant (s : State) (t : Nat) : (onGrant s t).sig = s.sig := (onGrant_keeps ..).same .sig rfl

theorem exec_grantLineChange_unplanned (ok : s.pair.claspFail = false) (role : s.pair.role = .standby)
    (g : s.pair.lines.granted = false) (k : s.pair.lines.killed = false) (low : s.pair.lines.pgrant = false)
    (ready : s.pair.lines.ready = true) (long : s.pair.pgrantAt + 420000 ≤ t) (free : s.pair.sw = none)
    (kill : (s.pair.lines.seen l).killed = false) (grant : (s.pair.lines.seen l).granted = true) (pgrant : l.pgrant = false) :
    exec (.grantLineChange l t) s = .next (onGrant (unplannedGrant (linesNoted s l t) t) t) := by
  have noted : (linesNoted s l t).pair.pgrantAt = s.pair.pgrantAt := if_pos (pgrant.trans low.symm)
  have gained := grantGained_unplanned (s := linesNoted s l t) role ready (noted.symm ▸ long) free
  exact congrArg Host.Outcome.next ((seeLines_gained ok k g kill grant pgrant).trans gained)

end Lines

/-! ### KILL (R236) -/

section Kill

variable {s : State} {t k : Nat}

/-- The state in which a kill state is qualified: gates closed, heartbeats stopped, counted and recorded, the recorder flushing
(R236). -/
def killTaken (s : State) : State :=
  startFlush (raise (addField (setPair s fun p => { p with killq := true, gatesOff := true, hbStopped := true, sw := none })
    Reg.PAIR_KILL_CNT 31 16 1) { blk := 7, ev := 4 }) 3

theorem pair_killTaken (s : State) :
    (killTaken s).pair = { s.pair with killq := true, gatesOff := true, hbStopped := true, sw := none } :=
  ((startFlush_keeps ..).same .pair rfl).trans (raise_pair ..)

theorem field_count_killTaken (s : State) : field (rd (killTaken s) Reg.PAIR_KILL_CNT) 31 16 =
    satAdd 0xFFFF (field (rd s Reg.PAIR_KILL_CNT) 31 16) 1 := by
  rw [killTaken, rd_startFlush, rd_raise _ _ _ Reg.PAIR_KILL_CNT (by decide) (ne_of_beq_false rfl)]
  exact field_addField_same _ _ _ _ (by decide)

theorem flag_killTaken (s : State) : flag (rd (killTaken s) Reg.PAIR_EVT_STAT) 4 = true := by
  rw [killTaken, rd_startFlush]
  exact flag_raise_pair _ rfl (by decide)

/-- A kill state that has lasted a frame without the grant is qualified, and leads to OFFLINE (R229, R236). -/
theorem exec_killQualified_due (ok : s.pair.claspFail = false) (since : s.pair.killAt = some k) (new : s.pair.killq = false)
    (kill : s.pair.lines.killed = true) (g : s.pair.lines.granted = false) (free : s.pair.next = none)
    (frame : 1250000 ≤ 3 * (t - max k s.pair.grantLostAt)) : exec (.killQualified t) s =
      .next (setPair (killTaken (atTime s t)) fun p => { p with next := some (.offline, 14) }) := by
  have long : lasts (t - max k s.pair.grantLostAt) 1 = true := decide_eq_true ((Nat.one_mul _).symm ▸ frame)
  have run : exec (.killQualified t) s = .next (requestRole (killTaken (atTime s t)) .offline 14) := by
    show execKillQualified t s = _
    simp only [execKillQualified, atTime_pair, since]
    exact if_pos ⟨by rw [ok]; rfl, by rw [new]; rfl, kill, by rw [g]; rfl, long⟩
  have free' : (killTaken (atTime s t)).pair.next = none := (congrArg PairState.next (pair_killTaken _)).trans free
  rw [run, requestRole_free free']

end Kill

/-! ### PAIR_CMD.REJOIN and CLR_CNT (R232, R249, R277) -/

section Command

variable {s : State} {c : Cmd}

/-- The state after REJOIN was accepted: failed attempts and the mismatch bit are gone (R232). -/
def rejoinTaken (s : State) (c : Cmd) : State :=
  wrField (setPair (accepted s Reg.PAIR_CMD c) fun p => { p with learnFail := 0 }) Reg.PAIR_HM_STAT 29 29 0

theorem pair_rejoinTaken (s : State) (c : Cmd) : (rejoinTaken s c).pair = { s.pair with learnFail := 0 } :=
  congrArg (fun p : PairState => { p with learnFail := 0 }) (accepted_pair ..)

theorem field_mismatch_rejoinTaken (s : State) (c : Cmd) : field (rd (rejoinTaken s c) Reg.PAIR_HM_STAT) 29 29 = 0 :=
  field_wrField_same _ _ 29 0 (by decide)

/-- A standby re-learns (R232, R263). -/
theorem exec_pairRejoin_standby (h : takes s Reg.PAIR_CMD 1 c) (role : s.pair.role = .standby) :
    exec (.pairRejoin c) s = .next (reLearn (rejoinTaken (touch s c.session) c) 7) := by
  show execPairRejoin c s = _
  rw [execPairRejoin, pairKeyed_of_takes h]
  simp only [touch_pair, role]
  rfl

/-- A module that leads alone has nothing to join. -/
theorem exec_pairRejoin_solo (h : takes s Reg.PAIR_CMD 1 c) (role : s.pair.role = .solo) :
    exec (.pairRejoin c) s = .next (rejoinTaken (touch s c.session) c) := by
  show execPairRejoin c s = _
  rw [execPairRejoin, pairKeyed_of_takes h]
  simp only [touch_pair, role]
  rfl

/-- A re-learn leads to OFFLINE at the next boundary, and to JOIN in the frame after (R263). -/
theorem reLearn_free {s : State} (free : s.pair.next = none) (cause : Nat) : reLearn s cause =
    setPair s fun p => { p with next := some (.offline, cause), rejoinAt := some (s.grid.frame + 2) } := by
  rw [reLearn, requestRole_free free]
  rfl

/-- The state after CLR_CNT (R249, R277). -/
def pairCountersCleared (s : State) (session : Nat) : State :=
  cleared (wrField (zeroRegs s [Reg.PAIR_SW_CNT, Reg.PAIR_GAP_MAX, Reg.PAIR_KILL_CNT, Reg.PAIR_LINK_CNT, Reg.PAIR_ALIGN_CNT,
    Reg.PAIR_HM_CNT]) Reg.PAIR_CLASP_STAT 15 0 0) Reg.PAIR_CMD session

theorem exec_pairClrCnt (h : takes s Reg.PAIR_CMD 2 c) :
    exec (.pairClrCnt c) s = .next (pairCountersCleared (touch s c.session) c.session) := by
  show execPairClrCnt c s = _
  rw [execPairClrCnt, pairKeyed_of_takes h, done, pairCountersCleared]

theorem rd_pairCountersCleared (s : State) (session : Nat) {a : Nat} (rec : a ≠ Reg.REC_EVT_STAT)
    (clasp : a ≠ Reg.PAIR_CLASP_STAT) : rd (pairCountersCleared s session) a =
      if a ∈ [Reg.PAIR_SW_CNT, Reg.PAIR_GAP_MAX, Reg.PAIR_KILL_CNT, Reg.PAIR_LINK_CNT, Reg.PAIR_ALIGN_CNT, Reg.PAIR_HM_CNT]
      then 0 else rd s a := by
  rw [pairCountersCleared, rd_cleared _ _ _ _ rec, rd_wrField_other _ _ _ _ clasp, rd_zeroRegs]

/-- Of the clasp's status only the count of failures is cleared (R249). -/
theorem rd_claspStat_pairCountersCleared (s : State) (session : Nat) :
    rd (pairCountersCleared s session) Reg.PAIR_CLASP_STAT = putField (rd s Reg.PAIR_CLASP_STAT) 15 0 0 := by
  rw [pairCountersCleared, rd_cleared _ _ _ Reg.PAIR_CLASP_STAT (by decide), rd_wrField_same, rd_zeroRegs, if_neg (by decide)]

theorem onlyRegs_pairCountersCleared (s : State) (session : Nat) : onlyRegs [Reg.PAIR_SW_CNT, Reg.PAIR_GAP_MAX,
    Reg.PAIR_KILL_CNT, Reg.PAIR_LINK_CNT, Reg.PAIR_ALIGN_CNT, Reg.PAIR_HM_CNT, Reg.PAIR_CLASP_STAT, Reg.REC_EVT_STAT] s
    (pairCountersCleared s session) := by
  intro a ha
  simp only [List.mem_cons, List.not_mem_nil, or_false, not_or] at ha
  obtain ⟨sw, gap, kill, link, align, hm, clasp, rec⟩ := ha
  rw [rd_pairCountersCleared s session rec clasp, if_neg (by simp [sw, gap, kill, link, align, hm])]

end Command

/-- Settles O31: a change of the lines is judged by one of the `seeLines_` lemmas, and every other command ends in the state that
its `exec_` lemma names. -/
theorem claspAndPairCommands : Obligations.ClaspAndPairCommands := by
  refine ⟨fun s l t k => ⟨?unplanned, ?both, ?kill, ?qualified, fun ok agree => ?agree, fun failed due fits => ?clear⟩,
    fun s c => ⟨fun h role free => ?standby, fun h role => ?solo, fun h => ?counters⟩⟩
  case unplanned =>
    rintro ok role g k low ready long free rfl
    have pair := pair_onGrant (unplannedGrant (linesNoted s { grant := true, grantN := false } t) t) t
    exact ⟨_, exec_grantLineChange_unplanned ok role g k low ready long free rfl rfl rfl, congrArg PairState.granted pair,
      congrArg PairState.unplanned pair, congrArg PairState.grantAt pair, congrArg PairState.grantLatch pair,
      (congrArg PairState.role pair).trans role, sig_onGrant ..⟩
  case both =>
    rintro ok k g rfl
    have pair := pair_failClasp (linesNoted s { grant := true, grantN := false, pgrant := true } t) (cause := 4)
    exact ⟨_, congrArg Host.Outcome.next (seeLines_both ok k g rfl rfl rfl), congrArg PairState.claspFail pair,
      congrArg PairState.claspFrame pair, field_cause_failClasp _ (by decide), (congrArg PairState.granted pair :),
      flag_failed_failClasp _⟩
  case kill =>
    rintro ok k g rfl
    exact ⟨_, congrArg Host.Outcome.next (seeLines_killed ok k g rfl rfl), rfl, rfl, rfl⟩
  case qualified =>
    intro ok since new kill g free frame
    have pair := pair_killTaken (atTime s t)
    exact ⟨_, exec_killQualified_due ok since new kill g free frame, congrArg PairState.killq pair,
      congrArg PairState.gatesOff pair, congrArg PairState.hbStopped pair, rfl, field_count_killTaken (atTime s t),
      flag_killTaken _⟩
  case agree =>
    have pair := pair_failClasp (atTime s t) (cause := 2)
    exact ⟨_, exec_claspFail_agreeing t ok agree, congrArg PairState.claspFail pair, congrArg PairState.claspFrame pair,
      field_cause_failClasp _ (by decide), flag_failed_failClasp _⟩
  case clear =>
    exact ⟨_, exec_claspFailClear_due t failed due fits, raise_pair .., flag_raise_pair _ rfl (by decide)⟩
  case standby =>
    have pair := pair_rejoinTaken (touch s c.session) c
    have frame : (rejoinTaken (touch s c.session) c).grid.frame = s.grid.frame := congrArg Grid.frame (accepted_grid ..)
    refine ⟨_, (exec_pairRejoin_standby h role).trans (congrArg _ (reLearn_free ((congrArg PairState.next pair).trans free) 7)),
      ?_, field_mismatch_rejoinTaken (touch s c.session) c⟩
    rw [setPair_pair, pair, frame, touch_pair]
  case solo =>
    exact ⟨_, exec_pairRejoin_solo h role, pair_rejoinTaken ..⟩
  case counters =>
    have zero {a : Nat} (mem : a ∈ [Reg.PAIR_SW_CNT, Reg.PAIR_GAP_MAX, Reg.PAIR_KILL_CNT, Reg.PAIR_LINK_CNT,
        Reg.PAIR_ALIGN_CNT, Reg.PAIR_HM_CNT]) (rec : a ≠ Reg.REC_EVT_STAT) (clasp : a ≠ Reg.PAIR_CLASP_STAT) :
        rd (pairCountersCleared (touch s c.session) c.session) a = 0 := by
      rw [rd_pairCountersCleared _ _ rec clasp, if_pos mem]
    have clasp := rd_claspStat_pairCountersCleared (touch s c.session) c.session
    refine ⟨_, exec_pairClrCnt h, zero (by simp) (by decide) (by decide), zero (by simp) (by decide) (by decide),
      zero (by simp) (by decide) (by decide), zero (by simp) (by decide) (by decide), zero (by simp) (by decide) (by decide),
      zero (by simp) (by decide) (by decide), ?_, ?_, onlyRegs_pairCountersCleared (touch s c.session) c.session⟩
    · rw [clasp, field_putField_same _ _ (by decide), Nat.zero_mod]
    · rw [clasp, field_putField_other _ _ (by decide) (.inr (by decide)), rd_touch]

end Sys2Proof.Machine
end

section
/-! Takeovers, warm takeovers and the steps of a switchover (R229, R237, R240, R241, R249): O32. -/

namespace Sys2Proof.Machine

open Sys2Proof

/-! ### Lead (R268, R405)

What the outputs and buses do when the lead comes or goes touches neither the pair nor its registers. -/

theorem pair_onLead (s : State) (h : Nat) : (onLead s h).pair = s.pair := (onLead_keeps ..).same .pair rfl

theorem sig_onLead (s : State) (h : Nat) : (onLead s h).sig = s.sig := (onLead_keeps ..).same .sig rfl

theorem rd_pair_onLead (s : State) (h : Nat) {a : Nat} (pair : blockOf a = 7) : rd (onLead s h) a = rd s a :=
  rd_pair_of_keeps (onLead_keeps ..) rfl pair

theorem pair_onYieldLead (s : State) (h : Nat) : (onYieldLead s h).pair = s.pair := (onYieldLead_keeps ..).same .pair rfl

/-! ### The count of a takeover (R237) -/

section Count

variable (s : State) (kind gap : Nat)

theorem pair_countTakeover : (countTakeover s kind gap).pair = s.pair := (countTakeover_keeps ..).same .pair rfl

theorem sig_countTakeover : (countTakeover s kind gap).sig = s.sig := (countTakeover_keeps ..).same .sig rfl

theorem rd_lastSw_countTakeover :
    rd (countTakeover s kind gap) Reg.PAIR_LAST_SW = w32 (kind * 2 ^ 29 + min gap (2 ^ 18 - 1)) := by
  rw [countTakeover, rd_raise _ _ _ Reg.PAIR_LAST_SW (by decide) (ne_of_beq_false rfl), peakField,
    rd_wrField_other _ _ _ _ (by decide), rd_addField_other _ _ _ _ (by decide), showSwitch, rd_wr_same,
    show bit1 false 28 = 0 from rfl, Nat.add_zero]

theorem field_count_countTakeover : field (rd (countTakeover s kind gap) Reg.PAIR_SW_CNT) 31 16 =
    satAdd 0xFFFF (field (rd s Reg.PAIR_SW_CNT) 31 16) 1 := by
  rw [countTakeover, rd_raise _ _ _ Reg.PAIR_SW_CNT (by decide) (ne_of_beq_false rfl), peakField,
    rd_wrField_other _ _ _ _ (by decide)]
  refine (field_addField_same _ _ _ _ (by decide)).trans (congrArg (fun w => satAdd 0xFFFF (field w 31 16) 1) ?_)
  exact rd_wr_other _ _ _ _ (by decide)

theorem flag_countTakeover : flag (rd (countTakeover s kind gap) Reg.PAIR_EVT_STAT) 1 = true :=
  flag_raise_pair (r := { blk := 7, ev := 1, info := [kind, gap] }) _ rfl (show 1 < 32 by decide)

end Count

/-! ### Takeovers (R229, R237) -/

section Takeover

variable {s : State} {gap t : Nat}

/-- The sealed image goes to the distribute role, and nothing else of the pair is under way (R237). -/
def imageReleased (s : State) : State :=
  setPair { s with sig := { s.sig with distribute := s.sig.committed } } fun p =>
    { p with unplanned := false, sw := none, next := none }

/-- Every partition that lagged is recorded (R273). -/
def lagRecorded (s : State) (lag : List Nat) : State :=
  lag.foldl (fun u q => recordBare u 3 { blk := 7, ev := 0, part := q, info := [q] }) s

theorem lagRecorded_keeps (s : State) (lag : List Nat) : Keeps 0x2000000001008 s (lagRecorded s lag) :=
  Keeps.foldl (Keeps.refl ..) fun _ _ h => Keeps.step (recordBare_keeps ..) rfl h

/-- The standby has become ACTIVE on the sealed image, and partitions that lagged are recorded (R237, R273). -/
def standbyLeads (s : State) : State := lagRecorded (takeRole (imageReleased s) .active 8) s.pair.align.lag

theorem pair_standbyLeads (role : s.pair.role = .standby) :
    (standbyLeads s).pair = (imageReleased s).pair.taking .active s.grid.frame s.grid.frame :=
  ((lagRecorded_keeps ..).same .pair rfl).trans
    (pair_takeRoleAt (s := imageReleased s) 8 s.grid.frame (by simp [imageReleased, role]))

theorem sig_standbyLeads (s : State) : (standbyLeads s).sig = { s.sig with distribute := s.sig.committed } :=
  ((lagRecorded_keeps ..).same .sig rfl).trans ((takeRole_keeps ..).same .sig rfl)

theorem rd_pair_standbyLeads (role : s.pair.role = .standby) {a : Nat} (pair : blockOf a = 7) (evt : a ≠ Reg.PAIR_EVT_STAT) :
    rd (standbyLeads s) a = rd s a :=
  (rd_pair_of_keeps (lagRecorded_keeps ..) rfl pair).trans
    (rd_pair_takeRoleAt (s := imageReleased s) 8 s.grid.frame (by simp [imageReleased, role]) pair evt)

theorem exec_takeover_unplanned (grant : s.pair.granted = true) (ok : s.pair.claspFail = false)
    (role : s.pair.role = .standby) (unplanned : s.pair.unplanned = true) (due : s.pair.grantAt + 50000 ≤ s.grid.freezeAt) :
    exec (.takeover gap t) s = .next (onLead (countTakeover (standbyLeads (atTime s t)) 1 gap) s.grid.frame) :=
  if_pos ⟨role, grant, unplanned, by rw [atTime_pair, ok]; rfl, due⟩

/-- A module that did not follow has started warm in its place (R229, R131). -/
def warmStarted (s : State) : State := setPair (warmInPlace s) fun p => { p with next := none, rejoinAt := none }

theorem pair_warmStarted (s : State) : (warmStarted s).pair = { s.pair with next := none, rejoinAt := none } :=
  congrArg (fun p : PairState => { p with next := none, rejoinAt := none }) ((warmInPlace_keeps ..).same .pair rfl)

theorem pair_takeRole_warmStarted (new : s.pair.role ≠ .active) : (takeRole (warmStarted s) .active 4).pair =
    (warmStarted s).pair.taking .active (warmStarted s).grid.frame (warmStarted s).grid.frame :=
  pair_takeRoleAt 4 _ (by rw [pair_warmStarted]; exact new)

theorem pair_reachRun (s : State) : (reachRun s).pair = s.pair := (reachRun_keeps ..).same .pair rfl

theorem exec_warmTakeover_granted (grant : s.pair.granted = true) (ok : s.pair.claspFail = false)
    (role : s.pair.role = .learning ∨ s.pair.role = .detached) : exec (.warmTakeover gap t) s = .next
      (onLead (countTakeover (reachRun (takeRole (warmStarted (atTime s t)) .active 4)) 6 gap) (atTime s t).grid.frame) :=
  if_pos ⟨role, grant, by rw [atTime_pair, ok]; rfl⟩

end Takeover

/-! ### PAIR_CMD.SWITCH (R240, R241) -/

section Command

variable {s : State} {c : Cmd}

/-- The state after SWITCH was accepted: the frame of the handover is named to the partner (R240). -/
def switchStarted (s : State) (c : Cmd) : State := startSwitch (accepted s Reg.PAIR_CMD c) 3 false

theorem pair_switchStarted (s : State) (c : Cmd) : (switchStarted s c).pair =
    { s.pair with sw := some { h := s.grid.frame + 3, kind := 3, start := s.grid.frame } } := by
  have frame : (accepted s Reg.PAIR_CMD c).grid.frame = s.grid.frame := congrArg Grid.frame (accepted_grid ..)
  have pair := accepted_pair s Reg.PAIR_CMD c
  rw [← pair, ← frame]
  rfl

theorem sent_switchStarted (s : State) (c : Cmd) : (switchStarted s c).sent =
    s.sent ++ [{ bus := 0, kind := 0x30, data := [1, s.grid.frame + 3, 3] }] := by
  have frame : (accepted s Reg.PAIR_CMD c).grid.frame = s.grid.frame := congrArg Grid.frame (accepted_grid ..)
  have sent := accepted_sent s Reg.PAIR_CMD c
  rw [← sent, ← frame]
  rfl

theorem exec_pairSwitch_taken (h : takes s Reg.PAIR_CMD 0 c) (may : hasRole s c.session 2 = true)
    (free : switchRefusal s 3 = 0) : exec (.pairSwitch c) s = .next (switchStarted (touch s c.session) c) := by
  show execPairSwitch c s = _
  rw [execPairSwitch, pairKeyed_of_takes h, hasRole_touch, switchRefusal_touch, if_neg (by rw [may]; decide),
    if_neg (not_not_intro free), done, switchStarted]

theorem exec_pairSwitch_refused (h : takes s Reg.PAIR_CMD 0 c) (may : hasRole s c.session 2 = true)
    (no : switchRefusal s 3 ≠ 0) :
    exec (.pairSwitch c) s = .next (refuseSwitch (touch s c.session) (switchRefusal s 3) c.session) := by
  show execPairSwitch c s = _
  rw [execPairSwitch, pairKeyed_of_takes h, hasRole_touch, switchRefusal_touch, if_neg (by rw [may]; decide), if_pos no, done]

end Command

/-! ### The evaluation of a switchover (R240) -/

section Eval

variable {s : State} {w : Switchover} {t : Nat}

/-- The grant has moved as the switchover wants it: away from the outgoing module, to the incoming one (R240, step 5). -/
def grantMoved (l : PairLines) (outgoing : Bool) : Bool :=
  if outgoing then !l.granted && l.pgrant else l.granted && !l.pgrant

/-- 100 µs after the freeze of frame h the switchover is completed or ends without the move (R240, step 5). -/
theorem exec_switchoverEval_due (under : s.pair.sw = some w) (frame : s.grid.frame = w.h) (due : s.grid.freezeAt + 100000 ≤ t) :
    exec (.switchoverEval t) s = .next
      (if grantMoved s.pair.lines w.outgoing && !s.pair.claspFail && w.confirmed then completeSwitch (atTime s t) w
      else abortSwitch (atTime s t) (if w.kind = 2 ∧ s.pair.partner.role ≠ 3 then 1 else 3)) := by
  have now : ¬ (s.grid.frame ≠ w.h ∨ t < s.grid.freezeAt + 100000) := by omega
  show execSwitchoverEval t s = _
  simp only [execSwitchoverEval, atTime_pair, under]
  rw [atTime_frame, atTime_freezeAt, if_neg now]
  exact (apply_ite done ..).symm

theorem exec_switchoverEval_moved (under : s.pair.sw = some w) (frame : s.grid.frame = w.h)
    (due : s.grid.freezeAt + 100000 ≤ t) (confirmed : w.confirmed = true) (ok : s.pair.claspFail = false)
    (moved : grantMoved s.pair.lines w.outgoing = true) :
    exec (.switchoverEval t) s = .next (completeSwitch (atTime s t) w) :=
  (exec_switchoverEval_due under frame due).trans (congrArg _ (if_pos (by simp [moved, ok, confirmed])))

/-- The pair after the move was seen: its hand-over begins (R240, step 6). -/
def PairState.switched (p : PairState) (w : Switchover) : PairState :=
  { p with sw := none, next := none, ho := some { h := w.h, outgoing := w.outgoing }, lines := { p.lines with yield := false } }

/-- The state after the move was seen: the switchover is shown, counted and recorded (R240, step 6). -/
def switchSeen (s : State) (w : Switchover) : State :=
  raise (addField (showSwitch (setPair s fun p => p.switched w) w.kind 0 w.outgoing) Reg.PAIR_SW_CNT 15 0 1)
    { blk := 7, ev := 2, info := [w.kind], stamp := some s.grid.freezeAt }

theorem pair_switchSeen (s : State) (w : Switchover) : (switchSeen s w).pair = s.pair.switched w := raise_pair ..

theorem grid_switchSeen (s : State) (w : Switchover) : (switchSeen s w).grid = s.grid := by
  rw [switchSeen, raise_grid, addField, wrField, wr_grid, showSwitch, wr_grid, setPair_grid]

/-- The outgoing module of a planned switchover becomes STANDBY (R240, step 6). -/
theorem completeSwitch_outgoing (out : w.outgoing = true) (planned : w.kind = 3) :
    completeSwitch s w = onYieldLead (takeRoleAt (switchSeen s w) .standby 9 w.h) w.h :=
  (if_pos out).trans (if_pos planned)

/-- The incoming module becomes ACTIVE (R240, step 6). -/
theorem completeSwitch_incoming (inc : w.outgoing = false) :
    completeSwitch s w = onLead (takeRoleAt (switchSeen s w) .active 9 w.h) (w.h + 1) :=
  if_neg (Bool.eq_false_iff.1 inc)

theorem pair_takeRoleAt_switchSeen {r : Role} (new : s.pair.role ≠ r) :
    (takeRoleAt (switchSeen s w) r 9 w.h).pair = (s.pair.switched w).taking r w.h s.grid.frame := by
  rw [pair_takeRoleAt 9 w.h (by rw [pair_switchSeen]; exact new), pair_switchSeen, grid_switchSeen]

/-- A switchover that ends without the move leaves the role, and YIELD drops (R240, step 5). -/
theorem pair_abortSwitch (s : State) (code : Nat) : (abortSwitch s code).pair =
    { s.pair with sw := none, lines := { s.pair.lines with yield := false } } := by
  unfold abortSwitch
  extract_lets -merge +onlyGivenNames lever slot unlatched
  have same : unlatched.pair = s.pair := (apply_ite State.pair ..).trans (ite_self _)
  rw [pair_refuseSwitch, setPair_pair, same]

end Eval

/-- Settles O32: a takeover and a warm one end in a counted lead, whose lemmas tell what it leaves; a switchover is completed or
ends without its move as `exec_switchoverEval_due` decides. -/
theorem takeoversAndSwitchovers : Obligations.TakeoversAndSwitchovers := by
  refine ⟨fun s gap t grant ok => ⟨fun role unplanned due => ?takeover, fun role => ?warm⟩,
    fun s c w t => ⟨fun h may free => ?switch, fun h may no => ?refused,
      fun under frame due confirmed ok out planned role lost other => ?outgoing,
      fun under frame due confirmed ok inc role gained other => ?incoming,
      fun under frame due planned out held => ?unmoved⟩⟩
  case takeover =>
    have role' : (atTime s t).pair.role = .standby := role
    have pair := (pair_onLead _ s.grid.frame).trans ((pair_countTakeover _ 1 gap).trans (pair_standbyLeads role'))
    have sig := (sig_onLead _ s.grid.frame).trans ((sig_countTakeover _ 1 gap).trans (sig_standbyLeads (atTime s t)))
    refine ⟨_, exec_takeover_unplanned grant ok role unplanned due, congrArg PairState.role pair, congrArg PairState.since pair,
      congrArg PairState.unplanned pair, congrArg Signals.distribute sig, (congrArg Signals.committed sig :), ?_, ?_, ?_⟩
    · rw [rd_pair_onLead _ _ rfl, field_count_countTakeover, rd_pair_standbyLeads role' rfl (by decide), rd_atTime]
    · rw [rd_pair_onLead _ _ rfl, rd_lastSw_countTakeover, Nat.one_mul]
    · rw [rd_pair_onLead _ _ rfl, flag_countTakeover]
  case warm =>
    have new : (atTime s t).pair.role ≠ .active := by
      rcases role with h | h <;> simp [h]
    have pair := (pair_onLead _ s.grid.frame).trans ((pair_countTakeover _ 6 gap).trans
      ((pair_reachRun _).trans (pair_takeRole_warmStarted new)))
    refine ⟨_, exec_warmTakeover_granted grant ok role, congrArg PairState.role pair,
      (congrArg PairState.next pair).trans (congrArg PairState.next (pair_warmStarted (atTime s t))), ?_, ?_⟩
    · rw [rd_pair_onLead _ _ rfl, rd_lastSw_countTakeover]
    · rw [rd_pair_onLead _ _ rfl, flag_countTakeover]
  case switch =>
    exact ⟨_, exec_pairSwitch_taken h may free, pair_switchStarted .., sent_switchStarted ..⟩
  case refused =>
    exact ⟨_, exec_pairSwitch_refused h may no, pair_refuseSwitch .., field_cause_refuseSwitch _ _ (switchRefusal_lt s 3),
      flag_refused_refuseSwitch ..⟩
  case outgoing =>
    have run := exec_switchoverEval_moved under frame due confirmed ok (by simp [grantMoved, out, lost, other])
    rw [completeSwitch_outgoing out planned] at run
    have pair := (pair_onYieldLead _ w.h).trans
      (pair_takeRoleAt_switchSeen (s := atTime s t) (w := w) (r := .standby) (by simp [role]))
    exact ⟨_, run, congrArg PairState.role pair, congrArg PairState.since pair, congrArg PairState.sw pair,
      (congrArg PairState.ho pair).trans (congrArg (fun b => some ({ h := w.h, outgoing := b } : HandOver)) out),
      congrArg (fun p => p.lines.yield) pair⟩
  case incoming =>
    have run := exec_switchoverEval_moved under frame due confirmed ok (by simp [grantMoved, inc, gained, other])
    rw [completeSwitch_incoming inc] at run
    have pair := (pair_onLead _ (w.h + 1)).trans
      (pair_takeRoleAt_switchSeen (s := atTime s t) (w := w) (r := .active) (by simp [role]))
    exact ⟨_, run, congrArg PairState.role pair, congrArg PairState.since pair, congrArg PairState.sw pair,
      (congrArg PairState.ho pair).trans (congrArg (fun b => some ({ h := w.h, outgoing := b } : HandOver)) inc)⟩
  case unmoved =>
    have still : (grantMoved s.pair.lines w.outgoing && !s.pair.claspFail && w.confirmed) = false := by
      simp [grantMoved, out, held]
    have run := exec_switchoverEval_due under frame due
    rw [still, if_neg (by decide), if_neg (by simp [planned])] at run
    exact ⟨_, run, pair_abortSwitch .., field_cause_refuseSwitch _ _ (by decide)⟩

end Sys2Proof.Machine
end

section
/-! What the alignment and the learning over the Tokel link share (R257, R264): events of the second event register and received
bytes. -/

namespace Sys2Proof.Machine

open Sys2Proof

/-! ### The second event register (R277, R470) -/

@[simp] theorem raiseA_pair (s : State) (bit : Nat) (info : List Nat) (sev : Option Nat) :
    (raiseA s bit info sev).pair = s.pair := (raiseA_keeps ..).same .pair rfl

@[simp] theorem raiseA_grid (s : State) (bit : Nat) (info : List Nat) (sev : Option Nat) :
    (raiseA s bit info sev).grid = s.grid := (raiseA_keeps ..).same .grid rfl

theorem rd_raiseA (s : State) (bit : Nat) (info : List Nat) (sev : Option Nat) {a : Nat} (rec : a ≠ Reg.REC_EVT_STAT)
    (evt : a ≠ Reg.PAIR_AEVT_STAT) : rd (raiseA s bit info sev) a = rd s a := by
  rw [raiseA, rd_record _ _ _ rec, setBit, rd_wr_other _ _ _ _ evt]

theorem flag_raiseA (s : State) {bit : Nat} (info : List Nat) (sev : Option Nat) (h : bit < 32) :
    flag (rd (raiseA s bit info sev) Reg.PAIR_AEVT_STAT) bit = true := by
  rw [raiseA, rd_record _ _ Reg.PAIR_AEVT_STAT (by decide), setBit, rd_wr_same, flag_or_bit _ h]

end Sys2Proof.Machine
end

section
/-! The Tokel link in the align phase and its control messages (R252, R255–R261, R539): O34. -/

namespace Sys2Proof.Machine

open Sys2Proof

/-! ### The partner's report (R206, R229, R230) -/

/-- The pair when a report of the partner has come in. -/
def PairState.reported (p : PairState) (r : PartnerReport) : PairState :=
  { p with partner := { p.partner with
    role := r.role, inJoin := r.inJoin, reported := true, image := r.image, pcl := r.pcl, sideB := r.sideB } }

/-- What judging a report leaves of what an FMARK brings: the grid, the partner, the lanes and the delay of the link. -/
structure LinkSame (s u : State) : Prop where
  grid : u.grid = s.grid
  partner : u.pair.partner = s.pair.partner
  lanes : u.pair.lanesIn = s.pair.lanesIn
  delay : rd u Reg.PAIR_LINK_DLY = rd s Reg.PAIR_LINK_DLY

namespace LinkSame

variable {s u v : State}

theorem refl (s : State) : LinkSame s s := ⟨rfl, rfl, rfl, rfl⟩

theorem trans (h : LinkSame s u) (k : LinkSame u v) : LinkSame s v :=
  ⟨k.grid.trans h.grid, k.partner.trans h.partner, k.lanes.trans h.lanes, k.delay.trans h.delay⟩

theorem ite {c : Prop} [Decidable c] (h : LinkSame s u) (k : LinkSame s v) : LinkSame s (if c then u else v) := by
  split <;> assumption

/-- What leaves the grid, the pair and the pair's registers. -/
theorem of_keeps {m : Nat} (h : Keeps m s u) (grid : m.testBit 6 = false) (pair : m.testBit 13 = false)
    (regs : m.testBit 39 = false) : LinkSame s u where
  grid := h.same .grid grid
  partner := congrArg PairState.partner (h.same .pair pair)
  lanes := congrArg PairState.lanesIn (h.same .pair pair)
  delay := rd_pair_of_keeps h regs rfl

theorem raise (s : State) {r : RecReq} (blk : r.blk = 7) : LinkSame s (raise s r) where
  grid := raise_grid ..
  partner := congrArg PairState.partner (raise_pair ..)
  lanes := congrArg PairState.lanesIn (raise_pair ..)
  delay := rd_raise _ _ _ Reg.PAIR_LINK_DLY (by decide) (by rw [blk]; decide)

theorem raiseA (s : State) {bit : Nat} (info : List Nat) (sev : Option Nat) : LinkSame s (raiseA s bit info sev) where
  grid := raiseA_grid ..
  partner := congrArg PairState.partner (raiseA_pair ..)
  lanes := congrArg PairState.lanesIn (raiseA_pair ..)
  delay := rd_raiseA _ _ _ _ (a := Reg.PAIR_LINK_DLY) (by decide) (by decide)

theorem autoDisarm (s : State) (cause : Nat) : LinkSame s (autoDisarm s cause) :=
  of_keeps (autoDisarm_keeps ..) rfl rfl rfl

theorem requestRole (s : State) (r : Role) (cause : Nat) : LinkSame s (requestRole s r cause) := by
  unfold Machine.requestRole
  split
  · exact refl s
  · exact ⟨rfl, rfl, rfl, rfl⟩

theorem reLearn (s : State) (cause : Nat) : LinkSame s (reLearn s cause) :=
  (requestRole s .offline cause).trans ⟨rfl, rfl, rfl, rfl⟩

theorem decideJoin (s : State) : LinkSame s (decideJoin s) := by
  unfold Machine.decideJoin
  extract_lets -merge +onlyGivenNames p
  have held : LinkSame s (setPair s fun x => { x with joinHeld := true, lines := { x.lines with ready := false } }) :=
    ⟨rfl, rfl, rfl, rfl⟩
  have mismatch (r : RecReq) := held.trans (of_keeps (recordBare_keeps _ 2 r) rfl rfl rfl)
  exact ite (refl s) (ite (ite (refl s) (mismatch _)) (ite (requestRole ..) (ite (requestRole ..) (refl s))))

theorem reported (h : LinkSame s u) (r : PartnerReport) :
    LinkSame (setPair s (·.reported r)) (setPair u (·.reported r)) where
  grid := h.grid
  partner := by simp only [setPair_pair, PairState.reported, h.partner]
  lanes := h.lanes
  delay := h.delay

end LinkSame

/-- A report changes what it says of the partner, and nothing else that an FMARK brings. -/
theorem linkSame_partnerReported (s : State) (r : PartnerReport) :
    LinkSame (setPair s (·.reported r)) (partnerReported s r) := by
  unfold partnerReported
  extract_lets -merge +onlyGivenNames old report returned disarmed
  have returned_same : LinkSame report returned := .ite (.raise _ rfl) (.refl _)
  have disarmed_same : LinkSame report disarmed := .ite (returned_same.trans (.autoDisarm ..)) returned_same
  refine disarmed_same.trans ?_
  split
  · exact .ite (.requestRole ..) (.refl _)
  · exact .ite (.requestRole ..) (.refl _)
  · exact .decideJoin _
  · exact .ite (.reLearn ..) (.refl _)

/-! ### FMARK (R252, R254) -/

section Fmark

variable {s : State} {m : Fmark} {t : Nat}

/-- A module in JOIN has taken the frame number of a partner that leads (R254). -/
def frameAdopted (s : State) (m : Fmark) : State :=
  if decide (stage s = 4) && decide (s.pair.role = .offline) && (decide (m.report.role = 1) || decide (m.report.role = 2))
    && decide (s.grid.frame ≠ m.frame) then relabel s m.frame else s

/-- The lanes of this frame once an FMARK has come in on one (R252). -/
def lanesWith (p : PairState) (lane : Nat) : List Nat := if p.lanesIn.contains lane then p.lanesIn else lane :: p.lanesIn

theorem mem_lanesWith (p : PairState) (lane : Nat) : lane ∈ lanesWith p lane := by
  unfold lanesWith
  split
  · next h => exact List.contains_iff_mem.1 h
  · exact List.mem_cons_self ..

/-- What an FMARK says but for its report, taken into the state (R252). -/
def fmarkTaken (s : State) (m : Fmark) : State :=
  let u := wr (wr (setPair s fun p => { p with
    lanesIn := lanesWith p m.lane
    partner := { p.partner with base := m.base, olc := m.olc, health := m.health, fmarkFrame := some m.frame } })
    Reg.PAIR_LINK_DLY (w32 (m.delay % 65536))) Reg.PAIR_GRID_OFS (i32 m.ofs)
  { u with grid := { u.grid with gridOfs := m.ofs } }

/-- The link is up once all four lanes have their FMARK (R252). -/
def linkRisen (s : State) : State :=
  if s.pair.lanesIn.length = 4 ∧ s.pair.linkUp = false then raiseA (setPair s fun p => { p with linkUp := true }) 5 [] else s

theorem exec_linkFmark (lane : m.lane < 4) : exec (.linkFmark m t) s =
    .next (partnerReported (linkRisen (fmarkTaken (frameAdopted (atTime s t) m) m)) m.report) :=
  if_neg (Nat.not_le.2 lane)

theorem linkSame_linkRisen (s : State) : LinkSame s (linkRisen s) := by
  have up : LinkSame s (setPair s fun p => { p with linkUp := true }) := ⟨rfl, rfl, rfl, rfl⟩
  exact .ite (up.trans (.raiseA _ [] none)) (.refl s)

/-- The state with all that an FMARK says, its report included, and nothing judged yet. -/
def fmarkSeen (s : State) (m : Fmark) : State := setPair (fmarkTaken s m) (·.reported m.report)

/-- What an FMARK says stands when its report has been judged. -/
theorem linkSame_fmarkSeen (s : State) (m : Fmark) :
    LinkSame (fmarkSeen s m) (partnerReported (linkRisen (fmarkTaken s m)) m.report) :=
  ((linkSame_linkRisen (fmarkTaken s m)).reported m.report).trans (linkSame_partnerReported ..)

/-- The partner as an FMARK shows it (R252). -/
def Partner.marked (q : Partner) (m : Fmark) : Partner :=
  { q with
    role := m.report.role, inJoin := m.report.inJoin, reported := true, image := m.report.image, pcl := m.report.pcl
    sideB := m.report.sideB, base := m.base, olc := m.olc, health := m.health, fmarkFrame := some m.frame }

theorem partner_fmarkSeen (s : State) (m : Fmark) : (fmarkSeen s m).pair.partner = s.pair.partner.marked m := rfl

theorem lanesIn_fmarkSeen (s : State) (m : Fmark) : (fmarkSeen s m).pair.lanesIn = lanesWith s.pair m.lane := rfl

theorem gridOfs_fmarkSeen (s : State) (m : Fmark) : (fmarkSeen s m).grid.gridOfs = m.ofs := rfl

theorem rd_delay_fmarkSeen (s : State) (m : Fmark) : rd (fmarkSeen s m) Reg.PAIR_LINK_DLY = w32 (m.delay % 65536) :=
  (rd_wr_other _ _ _ _ (by decide)).trans (rd_wr_same ..)

end Fmark

/-! ### Digests (R255–R257) -/

section Digest

variable {s : State} {t : Nat}

@[simp] theorem aligns_atTime (s : State) (t : Nat) : aligns (atTime s t) = aligns s := rfl

/-- The digests do not depend on the clock. -/
@[simp] theorem digestOf_atTime (s : State) (t p : Nat) : digestOf (atTime s t) p = digestOf s p := rfl

/-- What differs between the digests of two modules, partition by partition (R256). -/
def digestNeeds (mine theirs : List PartDigest) : List BlockNeed :=
  (mine.filterMap fun m => (theirs.find? fun q => decide (q.part = m.part)).map fun q => (m, q)).filterMap fun mq =>
    if mq.1.d = mq.2.d ∧ mq.1.t = mq.2.t then none else some (needOf mq.1 mq.2)

/-- A list of digests names each partition with one digest, so the digest found for a partition is its own. -/
theorem find?_digestOf (s : State) (ps : List Nat) {p : Nat} {q : PartDigest}
    (found : (ps.map (digestOf s)).find? (fun q => decide (q.part = p)) = some q) : q = digestOf s p := by
  obtain ⟨k, -, rfl⟩ := List.mem_map.1 (List.mem_of_find?_eq_some found)
  have part : k = p := of_decide_eq_true (List.find?_some found :)
  rw [part]

/-- Equal digests leave nothing to ask. -/
theorem digestNeeds_self (s : State) (ps : List Nat) : digestNeeds (ps.map (digestOf s)) (ps.map (digestOf s)) = [] := by
  refine List.filterMap_eq_nil_iff.2 fun mq hmq => ?_
  obtain ⟨m, hm, found⟩ := List.mem_filterMap.1 hmq
  obtain ⟨p, -, rfl⟩ := List.mem_map.1 hm
  obtain ⟨q, hq, rfl⟩ := Option.map_eq_some_iff.1 found
  rw [find?_digestOf s ps hq]
  exact if_pos ⟨rfl, rfl⟩

/-- The digests of the active equal one's own: they are noted, and no BLKREQ is sent. -/
theorem exec_linkDigest_own (al : aligns s = true) (phase : s.grid.phase = 0) (due : t ≤ s.grid.freezeAt + 5000) :
    exec (.linkDigest ((partNums s).map (digestOf s)) t) s =
      .next (setAlign (atTime s t) fun a => { a with digestIn := true, need := [], lag := [] }) := by
  have early : ¬ (aligns (atTime s t) = false ∨ (atTime s t).grid.phase ≠ 0 ∨ (atTime s t).grid.freezeAt + 5000 < t) := by
    simp [al, phase, due]
  have none : digestNeeds ((partNums (atTime s t)).map (digestOf (atTime s t))) ((partNums s).map (digestOf s)) = [] :=
    digestNeeds_self s (partNums s)
  show execLinkDigest _ t s = _
  unfold execLinkDigest
  extract_lets -merge +onlyGivenNames u mine needs r s1
  have empty : needs = [] := none
  rw [if_neg early]
  simp only [s1, r, empty]
  rfl

end Digest

/-! ### Repairs (R256) -/

section Repair

variable {s : State} {r : SrcRec} {part t : Nat}

theorem sig_repairRec_binary (bin : isBinary r.ep = true) : (repairRec s r).sig.working =
    { s.sig.working with bin := tset 0x7#4 s.sig.working.bin r.ep r.tet, sq := tset qualNever s.sig.working.sq r.ep r.sq } :=
  if_pos bin

theorem pair_repairRec (s : State) (r : SrcRec) : (repairRec s r).pair = s.pair := (repairRec_keeps ..).same .pair rfl

/-- A repair of one record that was asked for is taken into the working bank. -/
theorem exec_linkRepair_asked (al : aligns s = true) (phase : s.grid.phase = 0) (due : t ≤ s.grid.freezeAt + 38000)
    (asked : s.pair.align.need.any (fun n => decide (n.part = part)) = true) :
    exec (.linkRepair [{ part := part, recs := [r] }] t) s =
      .next (setAlign (repairRec (atTime s t) r) fun a => { a with repaired := a.repaired ++ [part] }) := by
  have early : ¬ (aligns (atTime s t) = false ∨ (atTime s t).grid.phase ≠ 0 ∨ (atTime s t).grid.freezeAt + 38000 < t) := by
    simp [al, phase, due]
  exact (if_neg early).trans (congrArg Host.Outcome.next (if_pos asked))

end Repair

/-! ### CTRL (R539) -/

section Ctrl

variable {s : State} {t : Nat}

/-- The partner's answer in time confirms the switchover (R240). -/
theorem switchAnswered_confirmed {w : Switchover} (under : s.pair.sw = some w) (out : w.outgoing = true)
    (due : s.grid.frame ≤ w.start + 1) :
    switchAnswered s w.h true = setPair s fun p => { p with sw := some { w with confirmed := true } } := by
  simp only [switchAnswered, under]
  rw [if_pos ⟨out, trivial⟩, if_pos ⟨trivial, due⟩]

/-- The partner's confirmation of the frame asked for arms the change (R204). -/
theorem exec_linkCtrl_olcArmed {n : Nat} (shadow : s.olc.stage = 2) (asking : s.olc.asking = some n) :
    exec (.linkCtrl (.olcArmed n) t) s = .next (olcArmed (atTime s t) n s.olc.relforce) :=
  congrArg Host.Outcome.next (if_pos ⟨shadow, asking⟩)

end Ctrl

/-- Settles O34: the `exec_` lemmas name the states in which messages end, and what an FMARK says stands when its report has been
judged, by `linkSame_fmarkSeen`. -/
theorem linkAlignment : Obligations.LinkAlignment := by
  refine ⟨fun s m t ep needs lag r part hm => ⟨fun lane => ?fmark, fun al phase due => ?digest, fun role => ?blkreq,
    fun al phase due asked bin => ?repair, ?hallmark⟩,
    fun s w n t => ⟨fun under out due => ?confirmed, fun shadow asking => ?armed, ?restart⟩⟩
  case fmark =>
    have same := linkSame_fmarkSeen (frameAdopted (atTime s t) m) m
    have partner := same.partner.trans (partner_fmarkSeen ..)
    refine ⟨_, exec_linkFmark lane, congrArg Partner.role partner, congrArg Partner.image partner,
      congrArg Partner.base partner, congrArg Partner.olc partner, congrArg Partner.health partner,
      congrArg Partner.fmarkFrame partner, ?_, (congrArg Grid.gridOfs same.grid).trans (gridOfs_fmarkSeen ..),
      same.delay.trans (rd_delay_fmarkSeen ..)⟩
    rw [same.lanes, lanesIn_fmarkSeen]
    exact mem_lanesWith ..
  case digest =>
    exact ⟨_, exec_linkDigest_own al phase due, rfl, rfl⟩
  case blkreq =>
    exact ⟨_, if_neg (Decidable.not_not.2 role), rfl, rfl, _, rfl⟩
  case repair =>
    have working := sig_repairRec_binary (s := atTime s t) bin
    refine ⟨_, exec_linkRepair_asked al phase due asked, ?_, ?_, fun other => ?_, ?_⟩
    · exact (congrArg (fun b : Bank => tget 0x7#4 b.bin r.ep) working).trans (tget_tset_same ..)
    · exact (congrArg (fun b : Bank => tget qualNever b.sq r.ep) working).trans (tget_tset_same ..)
    · exact (congrArg (fun b : Bank => tget 0x7#4 b.bin ep) working).trans (tget_tset_other _ _ _ _ _ other)
    · exact congrArg (fun p : PairState => p.align.repaired ++ [part]) (pair_repairRec (atTime s t) r)
  case hallmark =>
    exact ⟨_, rfl, rfl, Keeps.onlyParts (Keeps.setPair (.inr fun _ => rfl) rfl (Keeps.mono (atTime_keeps s t) rfl))⟩
  case confirmed =>
    exact ⟨_, congrArg Host.Outcome.next (switchAnswered_confirmed (s := atTime s t) under out due), rfl,
      Keeps.onlyParts (Keeps.setPair (.inr fun _ => rfl) rfl (Keeps.mono (atTime_keeps s t) rfl))⟩
  case armed =>
    exact ⟨_, exec_linkCtrl_olcArmed shadow asking, rfl,
      Keeps.onlyParts (Keeps.step (olcArmed_keeps ..) rfl (Keeps.mono (atTime_keeps s t) rfl))⟩
  case restart =>
    exact ⟨_, rfl, rfl, Keeps.onlyParts (Keeps.upd_upd rfl (Keeps.mono (atTime_keeps s t) rfl))⟩

end Sys2Proof.Machine
end

section
/-! Learning over the Tokel link: the snapshot, transferred state and the end of a phase (R257, R264): O35. -/

namespace Sys2Proof.Machine

open Sys2Proof

/-! ### The snapshot (R264) -/

section Snapshot

variable {s : State} {t : Nat}

/-- The copy that a snapshot makes in both retained copies (R264). -/
def snapCopy (s : State) (m : Snap) : RetCopy :=
  { gen := m.gen, image := s.cfg.id, hashes := imageHashes s.cfg, marker := if m.last then 1 else 2
    content := tsetAll 0 s.fbx.copyA.content m.content }

/-- The state that has taken a snapshot's copies, forces and maintenance mode (R264). -/
def snapTaken (s : State) (m : Snap) : State :=
  setSaf (showCopies { s with
    fbx := { s.fbx with copyA := snapCopy s m, copyB := snapCopy s m }, frc := { s.frc with table := m.forces } })
    fun x => { x with smmOn := m.smmOn, smm := m.smm }

theorem exec_linkSnap_learning (m : Snap) (role : s.pair.role = .learning) (phase : s.pair.learn.phase = 1) :
    exec (.linkSnap m t) s = .next (learnBytes (setLearn (snapTaken (atTime s t) m) fun l =>
      { l with snapDone := l.snapDone || m.last }) m.bytes) :=
  if_neg (show ¬ (s.pair.role ≠ .learning ∨ s.pair.learn.phase ≠ 1) by simp [role, phase])

end Snapshot

/-! ### Transferred state (R257, R264) -/

section Transfer

variable {s : State} {x : Xfer} {t e c : Nat} {w : Word}

/-- The state in which a history cell of an engine holds a word. -/
def cellTaken (s : State) (e c : Nat) (w : Word) : State :=
  setLe s e { leOf s e with hist := tset 0 (leOf s e).hist c w }

/-- The state in which transferred words stand in the memory of the partitions. -/
def wordsTaken (s : State) (ws : List (Nat × DWord)) : State :=
  { s with fbx := { s.fbx with mem := tsetAll 0 s.fbx.mem ws } }

theorem leOf_cellTaken (s : State) (e c k : Nat) (w : Word) : leOf (cellTaken s e c w) k =
    if k = e then { leOf s e with hist := tset 0 (leOf s e).hist c w } else leOf s k := leOf_setLe ..

@[simp] theorem leOf_wordsTaken (s : State) (ws : List (Nat × DWord)) (k : Nat) : leOf (wordsTaken s ws) k = leOf s k := rfl
@[simp] theorem leOf_setLearn (s : State) (f : Learning → Learning) (k : Nat) : leOf (setLearn s f) k = leOf s k := rfl
@[simp] theorem leOf_learnBytes (s : State) (n k : Nat) : leOf (learnBytes s n) k = leOf s k := rfl

@[simp] theorem learnBytes_fbx (s : State) (n : Nat) : (learnBytes s n).fbx = s.fbx := rfl
@[simp] theorem learnBytes_sig (s : State) (n : Nat) : (learnBytes s n).sig = s.sig := rfl
@[simp] theorem setLearn_fbx (s : State) (f : Learning → Learning) : (setLearn s f).fbx = s.fbx := rfl
@[simp] theorem setLearn_sig (s : State) (f : Learning → Learning) : (setLearn s f).sig = s.sig := rfl

theorem kib_learnBytes (s : State) (n : Nat) : (learnBytes s n).pair.learn.kib = s.pair.learn.kib + n := rfl

/-- A transfer of one history cell and of words changes nothing else but the safety functions. -/
theorem applyXfer_cell (s : State) (cells : x.cells = [(e, c, w)]) (recs : x.recs = []) (parts : x.parts = [])
    (shadow : x.shadow = none) : ∃ f, applyXfer s x = setSaf (wordsTaken (cellTaken s e c w) x.words) f := by
  simp only [applyXfer, cells, recs, parts, shadow, List.foldl_cons, List.foldl_nil]
  exact ⟨_, rfl⟩

/-- A command that applies a transfer gives its cell, its words and its bytes, and leaves the other engines and the signals. -/
theorem gives_of_applyXfer {i : Instr} {f : Learning → Learning}
    (run : exec i s = .next (learnBytes (setLearn (applyXfer (atTime s t) x) f) x.bytes)) (counts : ∀ l, (f l).kib = l.kib)
    (cells : x.cells = [(e, c, w)]) (recs : x.recs = []) (parts : x.parts = []) (shadow : x.shadow = none) :
    completes i s fun u => tget 0 (leOf u e).hist c = w ∧ (∀ f, f ≠ e → leOf u f = leOf s f) ∧
      u.fbx.mem = tsetAll 0 s.fbx.mem x.words ∧ u.sig = s.sig ∧ u.pair.learn.kib = s.pair.learn.kib + x.bytes := by
  obtain ⟨g, applied⟩ := applyXfer_cell (atTime s t) cells recs parts shadow
  rw [applied] at run
  refine ⟨_, run, ?cell, fun k other => ?others, ?words, ?signals, ?bytes⟩
  case cell => simp [leOf_cellTaken]
  case others => simp [leOf_cellTaken, other]
  case words => simp [wordsTaken, cellTaken]
  case signals => simp [wordsTaken, cellTaken]
  case bytes => simp [kib_learnBytes, setLearn, counts, wordsTaken, cellTaken]

section Run

variable (role : s.pair.role = .learning)

include role

theorem exec_linkBulk_learning (phase : s.pair.learn.phase = 2) : exec (.linkBulk x t) s =
    .next (learnBytes (setLearn (applyXfer (atTime s t) x) fun l => { l with content := l.content || x.last }) x.bytes) :=
  if_pos ⟨role, phase⟩

theorem exec_linkDelta_learning (phase : s.pair.learn.phase = 3) (whole : x.lagPart = none) : exec (.linkDelta x t) s =
    .next (learnBytes (setLearn (applyXfer (atTime s t) x) fun l => { l with content := l.content || x.last }) x.bytes) := by
  show execLinkDelta x t s = _
  simp only [execLinkDelta, whole]
  exact if_pos ⟨role, phase⟩

theorem exec_linkDfinal_learning (phase : s.pair.learn.phase = 4) (frame : s.grid.frame = x.frame) :
    exec (.linkDfinal x t) s = .next (learnBytes (setLearn (applyXfer (atTime s t) x) fun l =>
      { l with content := true, running := true, finalFrame := x.frame }) x.bytes) :=
  if_pos ⟨role, phase, .inl frame⟩

end Run

end Transfer

/-! ### The end of a phase (R264) -/

section Phase

variable {s : State} {t : Nat}

/-- Learning in the phase that follows (R264). -/
def phaseAdvanced (s : State) : State := setLearn s fun l => { l with phase := l.phase + 1, content := false }

/-- A learning module leaves BULK once its content is complete. -/
theorem exec_learnPhaseEnd_bulk (role : s.pair.role = .learning) (phase : s.pair.learn.phase = 2)
    (complete : s.pair.learn.content = true) : exec (.learnPhaseEnd t) s = .next (phaseAdvanced (atTime s t)) := by
  show execLearnPhaseEnd t s = _
  simp [execLearnPhaseEnd, role, phase, complete, phaseAdvanced, done]

/-- A learning module whose hallmark matched twice asks to become STANDBY (R264). -/
theorem exec_learnPhaseEnd_verify (role : s.pair.role = .learning) (phase : s.pair.learn.phase = 5)
    (matched : 2 ≤ s.pair.learn.matched) : exec (.learnPhaseEnd t) s =
      .next (requestRole (raiseA (phaseAdvanced (atTime s t)) 6 []) .standby 3) := by
  show execLearnPhaseEnd t s = _
  simp [execLearnPhaseEnd, role, phase, matched, phaseAdvanced, done]

end Phase

/-- Settles O35: every command ends in the state that its `exec_` lemma names; BULK, DELTA and DFINAL give the transferred state
by `gives_of_applyXfer`. -/
theorem linkLearning : Obligations.LinkLearning := by
  intro s sn x t e c w role
  refine ⟨fun phase => ?snap, fun phase => ?bulk, fun phase whole => ?delta, fun phase frame => ?dfinal,
    fun phase frame => ?running, fun phase complete => ?next, fun phase matched free => ?learned⟩
  case snap =>
    exact ⟨_, exec_linkSnap_learning sn role phase, rfl, rfl, rfl, rfl, rfl, rfl, rfl⟩
  case bulk =>
    exact gives_of_applyXfer (exec_linkBulk_learning role phase) fun _ => rfl
  case delta =>
    exact gives_of_applyXfer (exec_linkDelta_learning role phase whole) fun _ => rfl
  case dfinal =>
    exact gives_of_applyXfer (exec_linkDfinal_learning role phase frame) fun _ => rfl
  case running =>
    exact ⟨_, exec_linkDfinal_learning role phase frame, rfl, rfl, rfl⟩
  case next =>
    refine ⟨_, exec_learnPhaseEnd_bulk role phase complete, ?_,
      Keeps.onlyParts (Keeps.step (setLearn_keeps ..) rfl (Keeps.mono (atTime_keeps s t) rfl))⟩
    exact congrArg (fun n => { s.pair.learn with phase := n + 1, content := false }) phase
  case learned =>
    have pair := raiseA_pair (phaseAdvanced (atTime s t)) 6 [] none
    have run := exec_learnPhaseEnd_verify (t := t) role phase matched
    rw [requestRole_free ((congrArg PairState.next pair).trans free)] at run
    refine ⟨_, run, ?_, rfl, flag_raiseA _ [] none (by decide)⟩
    exact (congrArg (fun p : PairState => p.learn.phase) pair).trans (congrArg (· + 1) phase)

end Sys2Proof.Machine
end

section
/-! The safety monitor: the module safe state, the response of SC and the test of the gates (R282–R284): O38. -/

namespace Sys2Proof.Machine

open Sys2Proof

/-! ### Events and registers of the block -/

/-- An event of the safety functions' block shows its bit. -/
theorem flag_raise_saf (s : State) {r : RecReq} {i : Nat} (blk : r.blk = 8) (ev : r.ev = i) (h : i < 32) :
    flag (rd (raise s r) Reg.SAF_EVT_STAT) i = true := by
  have stat : evtStat r.blk 0 = Reg.SAF_EVT_STAT := by rw [blk]; rfl
  rw [← stat, rd_raise_evt s r 0 (by rw [stat]; decide), ev, flag_or_bit _ h]

/-- An event of the block writes none of its registers but the event status. -/
theorem rd_raise_saf (s : State) {r : RecReq} (blk : r.blk = 8) {a : Nat} (saf : blockOf a = 8) (evt : a ≠ Reg.SAF_EVT_STAT) :
    rd (raise s r) a = rd s a :=
  rd_raise _ _ _ _ (ne_of_apply_ne blockOf (by rw [saf]; decide)) (by rw [blk]; exact evt)

/-- What leaves the block leaves its registers. -/
theorem rd_saf_of_keeps {m a : Nat} {s u : State} (h : Keeps m s u) (free : m.testBit 40 = false) (saf : blockOf a = 8) :
    rd u a = rd s a :=
  h.same .rSAF free (by decide) a saf

/-! ### Flushes (R476) -/

theorem flushing_startFlush (s : State) (cause : Nat) : (startFlush s cause).rcd.flushing = true := by
  unfold startFlush
  split
  · assumption
  · rfl

theorem flushing_enterRec (s : State) (r : Rec) : (enterRec s r).rcd.flushing = s.rcd.flushing := by
  unfold enterRec
  split <;> split <;> rfl

theorem flushing_raise (s : State) (r : RecReq) (e : Nat) : (raise s r e).rcd.flushing = s.rcd.flushing :=
  flushing_enterRec ..

/-- A change of the life contact leaves a flush running. -/
theorem flushing_setLife (s : State) (on : Bool) : (setLife s on).rcd.flushing = s.rcd.flushing := by
  unfold setLife
  split
  · rfl
  · exact flushing_raise ..

/-! ### The module safe state (R284) -/

/-- Whatever waits, a module that is asked to leave service goes to OFFLINE at the next boundary (R229). -/
theorem next_requestRole_offline (s : State) (cause : Nat) :
    ∃ k, (requestRole s .offline cause).pair.next = some (.offline, k) := by
  unfold requestRole
  split
  · next k waits => exact ⟨k, waits⟩
  · exact ⟨cause, rfl⟩

section Enter

variable {s : State} {cause detail t : Nat}

/-- The state that shows the cause and the frame of the module safe state, with its event (R284). -/
def safeShown (s : State) (cause detail : Nat) : State :=
  raise (wr (wr (setSaf { s with freeN := s.freeN + 1 } fun x =>
      { x with safe := true, safeAt := s.grid.mono, safeHeld := s.pair.role.leads })
    Reg.SAF_CAUSE (w32 (cause * 2 ^ 28 + detail % 256))) Reg.SAF_SAFE_FNUM (w32 s.grid.frame))
    { blk := 8, ev := 0, sev := some 3, info := [cause, s.grid.frame] }

/-- The state in which the recorder is flushed and the life contact has dropped besides. -/
def safeFlushed (s : State) (cause detail : Nat) : State := setLife (startFlush (safeShown s cause detail) 3) false

theorem moduleSafe_normal (normal : s.saf.safe = false) : moduleSafe s (some cause) detail =
    setPair (requestRole (safeFlushed s cause detail) .offline 15) fun p =>
      { p with hbStopped := true, restartDue := some 4 } :=
  if_neg (by simp [normal])

theorem moduleSafe_keeps_safeShown (normal : s.saf.safe = false) :
    Keeps 0x2400000043008 (safeShown s cause detail) (moduleSafe s (some cause) detail) := by
  rw [moduleSafe_normal normal]
  exact Keeps.setPair (.inr fun _ => rfl) rfl (Keeps.step (requestRole_keeps ..) rfl (Keeps.step (setLife_keeps ..) rfl
    (Keeps.mono (startFlush_keeps ..) rfl)))

theorem rd_saf_moduleSafe (normal : s.saf.safe = false) {a : Nat} (saf : blockOf a = 8) (notCause : a ≠ Reg.SAF_CAUSE)
    (notFrame : a ≠ Reg.SAF_SAFE_FNUM) (notEvt : a ≠ Reg.SAF_EVT_STAT) : rd (moduleSafe s (some cause) detail) a = rd s a := by
  rw [rd_saf_of_keeps (moduleSafe_keeps_safeShown normal) rfl saf, safeShown, rd_raise_saf _ rfl saf notEvt,
    rd_wr_other _ _ _ _ notFrame, rd_wr_other _ _ _ _ notCause]
  rfl

/-- What R284 asks of the state u in which a module in the state s has entered the module safe state. -/
structure EntersSafe (s u : State) (cause detail : Nat) : Prop where
  safe : u.saf.safe = true
  held : u.saf.safeHeld = s.pair.role.leads
  cause : rd u Reg.SAF_CAUSE = w32 (cause * 2 ^ 28 + detail % 256)
  frame : rd u Reg.SAF_SAFE_FNUM = w32 s.grid.frame
  event : flag (rd u Reg.SAF_EVT_STAT) 0 = true
  heartbeats : u.pair.hbStopped = true
  restart : u.pair.restartDue = some 4
  offline : ∃ k, u.pair.next = some (.offline, k)
  role : u.pair.role = s.pair.role
  flush : u.rcd.flushing = true
  signals : u.sig = s.sig

/-- The parts of R284 as one statement. -/
theorem EntersSafe.all {u : State} (h : EntersSafe s u cause detail) : u.saf.safe = true ∧
    u.saf.safeHeld = s.pair.role.leads ∧ rd u Reg.SAF_CAUSE = w32 (cause * 2 ^ 28 + detail % 256) ∧
    rd u Reg.SAF_SAFE_FNUM = w32 s.grid.frame ∧ flag (rd u Reg.SAF_EVT_STAT) 0 = true ∧ u.pair.hbStopped = true ∧
    u.pair.restartDue = some 4 ∧ (∃ k, u.pair.next = some (.offline, k)) ∧ u.pair.role = s.pair.role ∧
    u.rcd.flushing = true ∧ u.sig = s.sig :=
  ⟨h.safe, h.held, h.cause, h.frame, h.event, h.heartbeats, h.restart, h.offline, h.role, h.flush, h.signals⟩

theorem EntersSafe.of_keeps {m : Nat} {u v : State} (h : EntersSafe v u cause detail) (k : Keeps m s v)
    (grid : m.testBit 6 = false) (sig : m.testBit 7 = false) (pair : m.testBit 13 = false) : EntersSafe s u cause detail := by
  have frame : v.grid = s.grid := k.same .grid grid
  have signals : v.sig = s.sig := k.same .sig sig
  have role : v.pair = s.pair := k.same .pair pair
  exact { h with
    held := role ▸ h.held
    frame := frame ▸ h.frame
    role := role ▸ h.role
    signals := signals ▸ h.signals }

theorem entersSafe_moduleSafe (normal : s.saf.safe = false) :
    EntersSafe s (moduleSafe s (some cause) detail) cause detail := by
  have shown := moduleSafe_keeps_safeShown (cause := cause) (detail := detail) normal
  have saf := (shown.same .saf rfl).trans (raise_saf ..)
  have step := moduleSafe_normal (cause := cause) (detail := detail) normal
  have flushed : (requestRole (safeFlushed s cause detail) .offline 15).rcd = (safeFlushed s cause detail).rcd :=
    (requestRole_keeps ..).same .rcd rfl
  exact {
    safe := congrArg SafState.safe saf
    held := congrArg SafState.safeHeld saf
    cause := by
      rw [rd_saf_of_keeps shown rfl (by decide), safeShown, rd_raise_saf _ rfl (by decide) (by decide),
        rd_wr_other _ _ _ _ (by decide), rd_wr_same]
    frame := by
      rw [rd_saf_of_keeps shown rfl (by decide), safeShown, rd_raise_saf _ rfl (by decide) (by decide), rd_wr_same]
    event := by
      rw [rd_saf_of_keeps shown rfl (by decide)]
      exact flag_raise_saf _ rfl rfl (by decide)
    heartbeats := by rw [step]; rfl
    restart := by rw [step]; rfl
    offline := by
      rw [step]
      exact next_requestRole_offline ..
    role := (moduleSafe_keeps ..).same .role rfl
    flush := by
      rw [step]
      exact (congrArg Recorder.flushing flushed).trans ((flushing_setLife ..).trans (flushing_startFlush ..))
    signals := (moduleSafe_keeps ..).same .sig rfl }

/-! ### Failed checks and missing responses (R282, R283) -/

/-- The state in which a failed clock or rail is shown (R282). -/
def checkShown (s : State) (cause detail : Nat) : State :=
  if cause = 3 then setBit s Reg.SAF_CLK_STAT (detail % 16)
  else if cause = 4 then setBit s Reg.SAF_VOLT_STAT (detail % 8) else s

theorem checkShown_keeps (s : State) (cause detail : Nat) : Keeps 0x10000000000 s (checkShown s cause detail) :=
  Keeps.ite (Keeps.setBit rfl (Keeps.refl ..)) (Keeps.ite (Keeps.setBit rfl (Keeps.refl ..)) (Keeps.refl ..))

theorem exec_moduleSafeState_failed (started : stage s ≠ 0) (low : 1 ≤ cause) (high : cause ≤ 7) :
    exec (.moduleSafeState cause detail t) s = .next (moduleSafe (checkShown (atTime s t) cause detail) (some cause) detail) :=
  if_neg (show ¬ (stage s = 0 ∨ cause = 0 ∨ 7 < cause) by omega)

theorem flag_clock_checkShown (s : State) (detail : Nat) :
    flag (rd (checkShown s 3 detail) Reg.SAF_CLK_STAT) (detail % 16) = true :=
  flag_setBit _ _ (by omega)

theorem flag_rail_checkShown (s : State) (detail : Nat) :
    flag (rd (checkShown s 4 detail) Reg.SAF_VOLT_STAT) (detail % 8) = true :=
  flag_setBit _ _ (by omega)

theorem exec_safWdExpiry_third (started : 1 ≤ stage s) (missed : 3 ≤ s.saf.respMiss) :
    exec (.safWdExpiry t) s = .next (moduleSafe (atTime s t) (some 6)) :=
  if_pos ⟨missed, started⟩

end Enter

/-! ### The response of SC (R283) -/

/-- The state in which a response is judged by the challenge: the challenge itself and its complement are correct. -/
def responseJudged (s : State) (v : Word) : State :=
  if field v 31 16 = field (rd s Reg.SAF_WD_CHAL) 15 0 ∧ field v 15 0 = 0xFFFF - field (rd s Reg.SAF_WD_CHAL) 15 0
  then setSaf s fun x => { x with respOk := true } else setSaf s fun x => { x with respSeen := true }

theorem exec_safWdResp_passes {s : State} {c : Cmd} (pass : passes s Reg.SAF_WD_RESP c) :
    exec (.safWdResp c) s = .next (responseJudged (touch s c.session) c.value) :=
  congrArg Host.Outcome.next (written_of_passes pass _)

theorem saf_responseJudged (s : State) (v : Word) : (responseJudged s v).saf =
    if field v 31 16 = field (rd s Reg.SAF_WD_CHAL) 15 0 ∧ field v 15 0 = 0xFFFF - field (rd s Reg.SAF_WD_CHAL) 15 0
    then { s.saf with respOk := true } else { s.saf with respSeen := true } :=
  apply_ite State.saf ..

theorem onlyRegs_responseJudged (s : State) (v : Word) : onlyRegs [] s (responseJudged s v) := by
  unfold responseJudged
  split <;> exact fun _ _ => rfl

/-! ### The test of the gates (R282) -/

section KillPath

variable {s : State} {t : Nat}

/-- The word of SAF_KPATH with its result, the gate tested and the count of tests. -/
def pathWord (ok : Bool) (gate count : Nat) : Word := w32 (bit1 ok 31 + gate * 2 ^ 30 + count)

section Word

variable {gate count : Nat} (ok : Bool) (one : gate ≤ 1) (fits : count ≤ 65535)

theorem bit1_result : bit1 ok 31 = if ok then 2 ^ 31 else 0 := rfl

include one fits

theorem toNat_pathWord : (pathWord ok gate count).toNat = bit1 ok 31 + gate * 2 ^ 30 + count := by
  have bit := bit1_result ok
  rw [pathWord, w32, BitVec.toNat_ofNat]
  split at bit <;> exact Nat.mod_eq_of_lt (by omega)

theorem flag_result_pathWord : flag (pathWord ok gate count) 31 = ok := by
  have bit := bit1_result ok
  rw [flag, BitVec.getLsbD, toNat_pathWord ok one fits, Nat.testBit_eq_decide_div_mod_eq]
  cases ok with
  | true => exact decide_eq_true (by simp only [if_true] at bit; omega)
  | false => exact decide_eq_false (by simp only [Bool.false_eq_true, if_false] at bit; omega)

theorem field_gate_pathWord : field (pathWord ok gate count) 30 30 = gate := by
  have bit := bit1_result ok
  rw [field, bitsOf, toNat_pathWord ok one fits]
  split at bit <;> omega

theorem field_count_pathWord : field (pathWord ok gate count) 15 0 = count := by
  have bit := bit1_result ok
  rw [field, bitsOf, toNat_pathWord ok one fits]
  split at bit <;> omega

end Word

/-- The gate that the next test takes: the first one at first, then the other one than before. -/
def nextGate (w : Word) : Nat := if field w 15 0 = 0 then 0 else 1 - field w 30 30

theorem nextGate_le (w : Word) : nextGate w ≤ 1 := ite_le_of_le (by decide) (Nat.sub_le ..)

/-- The state that shows a test of the gates. -/
def gateTested (s : State) (ok : Bool) : State :=
  wr s Reg.SAF_KPATH (pathWord ok (nextGate (rd s Reg.SAF_KPATH)) (min 65535 (field (rd s Reg.SAF_KPATH) 15 0 + 1)))

theorem gateTested_keeps (s : State) (ok : Bool) : Keeps 0x10000000000 s (gateTested s ok) := Keeps.wr rfl (Keeps.refl ..)

theorem saf_gateTested (s : State) (ok : Bool) : (gateTested s ok).saf = s.saf := wr_saf ..

theorem flag_result_gateTested (s : State) (ok : Bool) : flag (rd (gateTested s ok) Reg.SAF_KPATH) 31 = ok := by
  rw [gateTested, rd_wr_same, flag_result_pathWord ok (nextGate_le _) (Nat.min_le_left ..)]

theorem field_count_gateTested (s : State) (ok : Bool) : field (rd (gateTested s ok) Reg.SAF_KPATH) 15 0 =
    min 65535 (field (rd s Reg.SAF_KPATH) 15 0 + 1) := by
  rw [gateTested, rd_wr_same, field_count_pathWord ok (nextGate_le _) (Nat.min_le_left ..)]

/-- After the first test the gates take turns. -/
theorem field_gate_gateTested (ok : Bool) (before : field (rd s Reg.SAF_KPATH) 15 0 ≠ 0) :
    field (rd (gateTested s ok) Reg.SAF_KPATH) 30 30 = 1 - field (rd s Reg.SAF_KPATH) 30 30 := by
  rw [gateTested, rd_wr_same, field_gate_pathWord ok (nextGate_le _) (Nat.min_le_left ..), nextGate, if_neg before]

theorem exec_killPathTest_passed (guard : s.grid.phase = 3) :
    exec (.killPathTest true t) s = .next (gateTested (atTime s t) true) :=
  if_neg (not_not_intro guard)

theorem exec_killPathTest_failed (guard : s.grid.phase = 3) :
    exec (.killPathTest false t) s = .next (moduleSafe (gateTested (atTime s t) false) (some 5)) :=
  if_neg (not_not_intro guard)

end KillPath

/-- Settles O38: whatever leads to the module safe state, `entersSafe_moduleSafe` says what R284 asks of it; the other commands end
in the state that their `exec_` lemma names. -/
theorem safetyMonitor : Obligations.SafetyMonitor := by
  intro s cause detail t c
  refine ⟨fun normal started low high => ?check, fun pass => ?response, fun normal started missed => ?missing,
    fun guard => ?passed, fun guard normal => ?failed⟩
  case check =>
    have shows := checkShown_keeps (atTime s t) cause detail
    have normal' : (checkShown (atTime s t) cause detail).saf.safe = false :=
      (congrArg SafState.safe (shows.same .saf rfl)).trans normal
    refine ⟨_, exec_moduleSafeState_failed started low high,
      ((entersSafe_moduleSafe normal').of_keeps shows rfl rfl rfl).all, ?_, ?_⟩
    · rintro rfl
      rw [rd_saf_moduleSafe normal' (by decide) (by decide) (by decide) (by decide)]
      exact flag_clock_checkShown ..
    · rintro rfl
      rw [rd_saf_moduleSafe normal' (by decide) (by decide) (by decide) (by decide)]
      exact flag_rail_checkShown ..
  case response =>
    exact ⟨_, exec_safWdResp_passes pass, onlyRegs_responseJudged (touch s c.session) c.value,
      saf_responseJudged (touch s c.session) c.value⟩
  case missing =>
    exact ⟨_, exec_safWdExpiry_third started missed, (entersSafe_moduleSafe (s := atTime s t) normal).all⟩
  case passed =>
    have count := field_count_gateTested (atTime s t) true
    have gate := field_gate_gateTested (s := atTime s t) true
    rw [rd_atTime] at count gate
    exact ⟨_, exec_killPathTest_passed guard, flag_result_gateTested .., count, gate, saf_gateTested ..,
      onlyRegs_wr (s := s) (t := atTime s t) (fun _ _ => rfl) List.mem_cons_self⟩
  case failed =>
    have normal' : (gateTested (atTime s t) false).saf.safe = false :=
      (congrArg SafState.safe (saf_gateTested (atTime s t) false)).trans normal
    refine ⟨_, exec_killPathTest_failed guard,
      ((entersSafe_moduleSafe normal').of_keeps (gateTested_keeps ..) rfl rfl rfl).all, ?_⟩
    rw [rd_saf_moduleSafe normal' (by decide) (by decide) (by decide) (by decide)]
    exact flag_result_gateTested ..

end Sys2Proof.Machine
end

section
/-! Safety inputs, safe telegrams received and their connections (R286–R289, R293–R297, R301): O39. -/

namespace Sys2Proof.Machine

open Sys2Proof

/-! ### The frozen values of endpoints -/

theorem bin_overFrozen (s : State) (ep : Nat) (v : Tetrad) (e : Nat) :
    tget 0x7#4 (overFrozen s ep v).sig.working.bin e = if e = ep then v else tget 0x7#4 s.sig.working.bin e :=
  tget_tset ..

/-! ### Safety inputs (R286–R289) -/

section Input

variable {s : State} {i t : Nat} {c : SinCfg}

/-- Only the discrepancy test makes an entry FAULTY or clears it. -/
theorem faulty_proofStep (x : SinState) (v : Tetrad) (gone : Bool) : (proofStep x v gone).faulty = x.faulty := by
  unfold proofStep
  split
  · split
    · split <;> rfl
    · rfl
  · split
    · rfl
    · split <;> rfl
  · split <;> rfl

/-- An entry whose disagreement has lasted DTIME: FAULTY, and its start-up test goes on with BAD:d in mode 3. -/
def SinState.latched (x : SinState) (mode : Nat) : SinState :=
  if mode = 3 then proofStep { x with faulty := true } 0x7#4 false else { x with faulty := true }

theorem faulty_latched (x : SinState) (mode : Nat) : (x.latched mode).faulty = true := by
  unfold SinState.latched
  split
  · exact faulty_proofStep ..
  · rfl

/-- What a FAULTY entry gives its endpoints. -/
def SinState.faultyOut (x : SinState) (mode : Nat) : Tetrad := if mode = 3 then proofOut (x.latched mode) 0x7#4 else 0x7#4

/-- The state that holds an entry's state. -/
def withSin (s : State) (i : Nat) (x : SinState) : State := setSaf s fun w => { w with sin := tset {} w.sin i x }

theorem sin_withSin (s : State) (i : Nat) (x : SinState) (j : Nat) :
    tget {} (withSin s i x).saf.sin j = if j = i then x else tget {} s.saf.sin j := tget_tset ..

/-- The state in which entry i is FAULTY and its two endpoints are overwritten. -/
def discrepancyLatched (s : State) (i : Nat) (c : SinCfg) : State :=
  let x := tget {} s.saf.sin i
  overFrozen (overFrozen (withSin s i (x.latched c.mode)) c.epA (x.faultyOut c.mode)) c.epB (x.faultyOut c.mode)

theorem sin_discrepancyLatched (s : State) (i : Nat) (c : SinCfg) (j : Nat) :
    tget {} (discrepancyLatched s i c).saf.sin j =
      if j = i then (tget {} s.saf.sin i).latched c.mode else tget {} s.saf.sin j :=
  sin_withSin ..

theorem bin_discrepancyLatched (s : State) (i : Nat) (c : SinCfg) (ep : Nat) :
    tget 0x7#4 (discrepancyLatched s i c).sig.working.bin ep =
      if ep = c.epA ∨ ep = c.epB then (tget {} s.saf.sin i).faultyOut c.mode else tget 0x7#4 s.sig.working.bin ep := by
  rw [discrepancyLatched, bin_overFrozen, bin_overFrozen]
  by_cases a : ep = c.epA <;> by_cases b : ep = c.epB <;> simp [a, b, withSin]

theorem cfg_discrepancyLatched (s : State) (i : Nat) (c : SinCfg) : (discrepancyLatched s i c).cfg = s.cfg := rfl

/-- A FAULTY entry shows BAD:d as its status (R289). -/
theorem sinStatus_faulty (cfg : look s.cfg.saf.sins i = some c) (faulty : (tget {} s.saf.sin i).faulty = true) :
    sinStatus s i = 0x7#4 := by
  simp only [sinStatus, cfg, faulty, if_true]

theorem exec_discrepancyTimeout_due (cfg : look s.cfg.saf.sins i = some c) (pair : c.mode ≠ 1)
    (sound : (tget {} s.saf.sin i).faulty = false) (apart : (tget {} s.saf.sin i).agree = false)
    (long : c.dtime < (tget {} s.saf.sin i).dcount) : exec (.discrepancyTimeout i t) s =
      .next (raise (discrepancyLatched (atTime s t) i c) { blk := 8, ev := 3, info := [i] }) := by
  show execDiscrepancyTimeout i t s = _
  simp only [execDiscrepancyTimeout, atTime_cfg, cfg]
  exact if_pos ⟨pair, by simp [sound], by simp [apart], long⟩

end Input

/-! ### Telegrams received (R293, R295, R296) -/

section Telegram

variable {s : State} {k lan b t : Nat} {bs : List Byte} {r : RxCfg} {q : StcCopy}

/-- The state that holds a connection's state. -/
def withStc (s : State) (k : Nat) (y : StcState) : State := setSaf s fun z => { z with stc := tset {} z.stc k y }

theorem stc_withStc_same (s : State) (k : Nat) (y : StcState) : tget {} (withStc s k y).saf.stc k = y := tget_tset_same ..

theorem stc_withStc_other (s : State) (y : StcState) {k j : Nat} (h : j ≠ k) :
    tget {} (withStc s k y).saf.stc j = tget {} s.saf.stc j := tget_tset_other _ _ _ _ _ h

/-- The sequence number of a telegram. -/
def pduSeq (bs : List Byte) : Nat := ofLeBytes ((bs.drop 4).take 4)

/-- How far a telegram's sequence number lies beyond a base. -/
def pduAhead (bs : List Byte) (b : Nat) : Nat := (pduSeq bs + 2 ^ 32 - b) % 2 ^ 32

/-- A connection that has accepted a telegram of frame n (R295). -/
def StcState.taking (y : StcState) (r : RxCfg) (lan n : Nat) (bs : List Byte) : StcState :=
  { y with
    base := some (pduSeq bs), seq := pduSeq bs, got := true, fresh := true, lastFrame := n
    pos0 := if r.posgrp % 2 = 1 then pduPos bs 0 else y.pos0
    pos1 := if r.posgrp / 2 % 2 = 1 then pduPos bs 1 else y.pos1
    copy := some { bytes := bs, lan := lan, frame := n, second := false } }

/-- A connection that has discarded a telegram (R295). -/
def StcState.discarding (y : StcState) : StcState := { y with discards := satAdd 0xFFFF y.discards 1, bad := true }

theorem stcDiscard_eq (s : State) (k : Nat) : stcDiscard s k = withStc s k (tget {} s.saf.stc k).discarding := rfl

/-- A telegram that the connection expects and that carries no time of the base: its sequence number decides (R295). -/
structure TelegramExpected (s : State) (k lan : Nat) (bs : List Byte) (r : RxCfg) (b : Nat) : Prop where
  cfg : look s.cfg.saf.rx k = some r
  telegram : ¬ (lan = 2 ∧ ofLeBytes (bs.take 4) = 0)
  length : bs.length = pduLen r.ntet
  crc : pduCrcOk bs = true
  id : ofLeBytes (bs.take 4) = r.connid
  cells : (bs.getD 16 0).toNat = r.ntet
  untimed : (bs.getD 17 0).getLsbD 0 = false
  base : (tget {} s.saf.stc k).base = some b
  new : pduAhead bs b ≠ 0

theorem safTelegram_expected (h : TelegramExpected s k lan bs r b) : safTelegram s k lan bs t =
    if r.seqwin < pduAhead bs b then stcDiscard s k
    else withStc (collectCells s r bs t) k ((tget {} s.saf.stc k).taking r lan s.grid.frame bs) := by
  have sound : ¬ (bs.length ≠ pduLen r.ntet ∨ pduCrcOk bs = false ∨ ofLeBytes (bs.take 4) ≠ r.connid ∨
      (bs.getD 16 0).toNat ≠ r.ntet) := by
    rintro (no | no | no | no)
    · exact no h.length
    · exact absurd h.crc (by simp [no])
    · exact no h.id
    · exact no h.cells
  simp only [safTelegram, h.cfg, h.base, h.untimed, Bool.false_and]
  rw [if_neg h.telegram, if_neg sound]
  refine (if_neg h.new).trans ?_
  by_cases beyond : r.seqwin < pduAhead bs b
  · exact (if_pos (.inl beyond)).trans (if_pos beyond).symm
  · exact (if_neg fun no => no.elim beyond Bool.false_ne_true).trans (if_neg beyond).symm

theorem saf_collectCells (s : State) (r : RxCfg) (bs : List Byte) (t : Nat) : (collectCells s r bs t).saf = s.saf :=
  (collectCells_keeps ..).same .saf rfl

theorem exec_singleCopyLoss_due (cfg : look s.cfg.saf.rx k = some r) (copy : (tget {} s.saf.stc k).copy = some q)
    (prp : r.prp = true) (alone : q.second = false) (due : q.frame + 2 ≤ s.grid.frame) :
    exec (.singleCopyLoss k t) s = .next (withStc (atTime s t) k { tget {} s.saf.stc k with
      losses := satAdd 0xFFFF (tget {} s.saf.stc k).losses 1, copy := some { q with second := true } }) := by
  show execSingleCopyLoss k t s = _
  simp only [execSingleCopyLoss, atTime_cfg, atTime_saf, cfg, copy]
  exact if_pos ⟨prp, by simp [alone], due⟩

theorem withStc_keeps (s : State) (k : Nat) (y : StcState) : Keeps 0x4000 s (withStc s k y) := setSaf_keeps ..

end Telegram

/-! ### The safe state of a connection (R297, R301) -/

section Safe

variable {s : State} {k t : Nat} {r : RxCfg} {c : Cmd}

/-- The endpoint reads OFF:d in the values frozen. -/
def offDoubt (s : State) (ep : Nat) : Prop := tget 0x7#4 s.sig.working.bin ep = 0x5#4

/-- The endpoints of a list, overwritten with OFF:d. -/
def overlayCells (s : State) (l : List Nat) : State := l.foldl (fun u ep => overFrozen u ep 0x5#4) s

/-- The endpoints of a connection, overwritten while it is in its safe state. -/
def overlayOne (s : State) (e : Nat × RxCfg) : State :=
  if (tget {} s.saf.stc e.1).safe then overlayCells s e.2.cells else s

theorem stcOverlay_eq_foldl (s : State) : stcOverlay s = s.cfg.saf.rx.foldl overlayOne s := rfl

theorem overlayCells_keeps (s : State) (l : List Nat) : Keeps 0x80 s (overlayCells s l) :=
  Keeps.foldl (Keeps.refl ..) fun _ _ h => Keeps.step (overFrozen_keeps ..) rfl h

theorem overlayOne_keeps (s : State) (e : Nat × RxCfg) : Keeps 0x80 s (overlayOne s e) :=
  Keeps.ite (overlayCells_keeps ..) (Keeps.refl ..)

theorem offDoubt_overlayCells {ep : Nat} (l : List Nat) (h : ep ∈ l ∨ offDoubt s ep) : offDoubt (overlayCells s l) ep := by
  induction l generalizing s with
  | nil => exact h.resolve_left List.not_mem_nil
  | cons e l ih =>
    have written : offDoubt (overFrozen s e 0x5#4) ep ↔ ep = e ∨ offDoubt s ep := by
      rw [offDoubt, bin_overFrozen]
      by_cases same : ep = e <;> simp [same, offDoubt]
    refine ih ?_
    rw [List.mem_cons] at h
    rw [written]
    rcases h with (same | mem) | off
    · exact .inr (.inl same)
    · exact .inl mem
    · exact .inr (.inr off)

/-- What an endpoint of a connection in its safe state reads stays so while the others are overwritten. -/
theorem offDoubt_foldl_overlayOne {ep : Nat} (l : List (Nat × RxCfg))
    (h : (∃ e ∈ l, (tget {} s.saf.stc e.1).safe = true ∧ ep ∈ e.2.cells) ∨ offDoubt s ep) :
    offDoubt (l.foldl overlayOne s) ep := by
  induction l generalizing s with
  | nil => exact h.resolve_left fun ⟨_, mem, _⟩ => List.not_mem_nil mem
  | cons e l ih =>
    have saf : (overlayOne s e).saf = s.saf := (overlayOne_keeps s e).same .saf rfl
    have stays (off : offDoubt s ep) : offDoubt (overlayOne s e) ep := by
      unfold overlayOne
      split
      · exact offDoubt_overlayCells _ (.inr off)
      · exact off
    refine ih ?_
    rw [saf]
    rcases h with ⟨d, mem, safe, cell⟩ | off
    · rcases List.mem_cons.1 mem with rfl | mem
      · refine .inr ?_
        rw [overlayOne, if_pos safe]
        exact offDoubt_overlayCells _ (.inl cell)
      · exact .inl ⟨d, mem, safe, cell⟩
    · exact .inr (stays off)

theorem mem_of_look {α : Type} {l : List (Nat × α)} {k : Nat} {v : α} (h : look l k = some v) : (k, v) ∈ l := by
  obtain ⟨before, after, eq, -⟩ := List.lookup_eq_some_iff.1 h
  simp [eq]

/-- Every endpoint of a connection in its safe state reads OFF:d (R297). -/
theorem offDoubt_stcOverlay {ep : Nat} (cfg : look s.cfg.saf.rx k = some r) (safe : (tget {} s.saf.stc k).safe = true)
    (cell : ep ∈ r.cells) : offDoubt (stcOverlay s) ep := by
  rw [stcOverlay_eq_foldl]
  exact offDoubt_foldl_overlayOne _ (.inl ⟨(k, r), mem_of_look cfg, safe, cell⟩)

/-- A connection that enters its safe state with a cause: 1 watchdog, 2 a difference (R297). -/
def StcState.entering (y : StcState) (cause : Nat) : StcState :=
  { y with
    safe := true, cause := cause, good := 0, acked := false, base := none, differ := false, got := false, bad := false
    copy := none }

theorem saf_stcSafe (s : State) (k cause : Nat) :
    (stcSafe s k cause).saf = (withStc s k ((tget {} s.saf.stc k).entering cause)).saf := raise_saf ..

theorem cfg_stcSafe (s : State) (k cause : Nat) : (stcSafe s k cause).cfg = s.cfg := (stcSafe_keeps ..).same .cfg rfl

theorem stc_stcSafe_same (s : State) (k cause : Nat) :
    tget {} (stcSafe s k cause).saf.stc k = (tget {} s.saf.stc k).entering cause := by
  rw [saf_stcSafe, stc_withStc_same]

theorem stc_stcSafe_other (s : State) (cause : Nat) {k j : Nat} (h : j ≠ k) :
    tget {} (stcSafe s k cause).saf.stc j = tget {} s.saf.stc j := by
  rw [saf_stcSafe, stc_withStc_other _ _ h]

theorem saf_stcOverlay (s : State) : (stcOverlay s).saf = s.saf := (stcOverlay_keeps s).same .saf rfl

/-- The cause with which a connection without telegrams enters its safe state (R301). -/
def StcState.watchdogCause (y : StcState) : Nat := if y.differ then 2 else 1

theorem exec_stcWatchdogExpiry_due (cfg : look s.cfg.saf.rx k = some r) (runs : (tget {} s.saf.stc k).safe = false)
    (due : (tget {} s.saf.stc k).lastFrame + r.wd ≤ s.grid.frame) : exec (.stcWatchdogExpiry k t) s =
      .next (stcOverlay (stcSafe (atTime s t) k (tget {} s.saf.stc k).watchdogCause)) := by
  show execStcWatchdogExpiry k t s = _
  simp only [execStcWatchdogExpiry, atTime_cfg, atTime_saf, cfg]
  exact if_pos ⟨by simp [runs], due⟩

/-! ### The acknowledgement (R297) -/

/-- The state after ACK of connection k. -/
def stcAcked (s : State) (k : Nat) (c : Cmd) : State :=
  accepted (withStc s k { tget {} s.saf.stc k with acked := true }) Reg.SAF_STC_CMD c

theorem saf_stcAcked (s : State) (k : Nat) (c : Cmd) :
    (stcAcked s k c).saf = (withStc s k { tget {} s.saf.stc k with acked := true }).saf := accepted_saf ..

theorem exec_stcAck_taken (h : takes s Reg.SAF_STC_CMD 0 c) (sel : k = field (rd s Reg.SAF_STC_SEL) 9 0)
    (may : hasRole s c.session 1 = true ∨ hasRole s c.session 2 = true) (cfg : look s.cfg.saf.rx k = some r)
    (safe : (tget {} s.saf.stc k).safe = true) (good : (tget {} s.saf.stc k).good = 3) :
    exec (.stcAck c) s = .next (stcAcked (touch s c.session) k c) := by
  subst sel
  show execStcAck c s = _
  rw [execStcAck, keyed_of_takes h]
  exact congrArg Host.Outcome.next (if_pos (by simp [may, cfg, safe, good]))

theorem exec_stcAck_early (h : takes s Reg.SAF_STC_CMD 0 c) (sel : k = field (rd s Reg.SAF_STC_SEL) 9 0)
    (few : (tget {} s.saf.stc k).good ≠ 3) :
    exec (.stcAck c) s = .next (refuse (touch s c.session) Reg.SAF_STC_CMD none c.session) := by
  subst sel
  show execStcAck c s = _
  rw [execStcAck, keyed_of_takes h]
  exact congrArg Host.Outcome.next (if_neg (by simp [few]))

end Safe

/-- Settles O39: every command ends in the state that its `exec_` lemma names, a telegram in the one of `safTelegram_expected`;
`offDoubt_stcOverlay` says what the endpoints of a connection in its safe state read. -/
theorem safeInputsAndTelegrams : Obligations.SafeInputsAndTelegrams := by
  intro s i k t lan b bs c r q m
  refine ⟨fun cfg pair sound apart long => ?discrepancy,
    fun cfg telegram length crc id cells untimed base new => ?telegram, fun cfg copy prp alone due => ?single,
    fun cfg runs due => ?watchdog, fun h sel => ⟨fun may cfg safe good => ?acked, fun few => ?early⟩⟩
  case discrepancy =>
    have saf := raise_saf (discrepancyLatched (atTime s t) i c) { blk := 8, ev := 3, info := [i] } 0
    have sig := raise_sig (discrepancyLatched (atTime s t) i c) { blk := 8, ev := 3, info := [i] } 0
    have faulty : (tget {} (discrepancyLatched (atTime s t) i c).saf.sin i).faulty = true := by
      rw [sin_discrepancyLatched, if_pos rfl, faulty_latched]
    refine ⟨_, exec_discrepancyTimeout_due cfg pair sound apart long, ?_, ?_, fun mode => ⟨?_, ?_⟩, fun ep a b => ?_,
      flag_raise_saf _ rfl rfl (by decide), fun j other => ?_⟩
    · rw [saf, faulty]
    · refine sinStatus_faulty (c := c) ?_ (by rw [saf, faulty])
      rw [raise_cfg, cfg_discrepancyLatched, atTime_cfg, cfg]
    · rw [sig, bin_discrepancyLatched, if_pos (.inl rfl), SinState.faultyOut, if_neg (by omega)]
    · rw [sig, bin_discrepancyLatched, if_pos (.inr rfl), SinState.faultyOut, if_neg (by omega)]
    · rw [sig, bin_discrepancyLatched, if_neg (by simp [a, b]), atTime_sig]
    · rw [saf, sin_discrepancyLatched, if_neg other, atTime_saf]
  case telegram =>
    have expected : TelegramExpected s k lan bs r b := ⟨cfg, telegram, length, crc, id, cells, untimed, base, new⟩
    rw [safTelegram_expected expected]
    refine ⟨fun within => ?_, fun beyond => ?_, fun j other => ?_⟩
    · rw [if_neg (show ¬ r.seqwin < pduAhead bs b from Nat.not_lt.2 within), stc_withStc_same]
      exact ⟨rfl, rfl, rfl, rfl, rfl⟩
    · rw [if_pos (show r.seqwin < pduAhead bs b from beyond), stcDiscard_eq, stc_withStc_same]
      exact ⟨rfl, rfl⟩
    · split
      · rw [stcDiscard_eq, stc_withStc_other _ _ other]
      · rw [stc_withStc_other _ _ other, saf_collectCells]
  case single =>
    exact ⟨_, exec_singleCopyLoss_due cfg copy prp alone due, stc_withStc_same .., fun j other => stc_withStc_other _ _ other,
      Keeps.onlyParts (Keeps.step (withStc_keeps ..) rfl (Keeps.mono (atTime_keeps s t) rfl))⟩
  case watchdog =>
    have same := stc_stcSafe_same (atTime s t) k (tget {} s.saf.stc k).watchdogCause
    have saf := saf_stcOverlay (stcSafe (atTime s t) k (tget {} s.saf.stc k).watchdogCause)
    refine ⟨_, exec_stcWatchdogExpiry_due cfg runs due, ?_, ?_, ?_, ?_, fun ep cell => ?_, ?_, fun j other => ?_⟩
    · rw [saf, same]; rfl
    · rw [saf, same]; rfl
    · rw [saf, same]; rfl
    · rw [saf, same]; rfl
    · refine offDoubt_stcOverlay (r := r) ?_ (by rw [same]; rfl) cell
      rw [cfg_stcSafe, atTime_cfg, cfg]
    · rw [rd_saf_of_keeps (stcOverlay_keeps _) rfl (by decide)]
      exact flag_raise_saf _ rfl rfl (by decide)
    · rw [saf, stc_stcSafe_other _ _ other, atTime_saf]
  case acked =>
    have saf := saf_stcAcked (touch s m.session) k m
    refine ⟨_, exec_stcAck_taken h sel may cfg safe good, ?_, onlyRegs_record _ (fun _ _ => rfl) List.mem_cons_self,
      fun j other => ?_⟩
    · rw [saf, stc_withStc_same, touch_saf]
    · rw [saf, stc_withStc_other _ _ other, touch_saf]
  case early =>
    exact ⟨_, exec_stcAck_early h sel few, ⟨_, rfl⟩, refuse_saf ..⟩

end Sys2Proof.Machine
end

section
/-! Safety maintenance mode: request, entry, exit and expiry (R298, R299, R539): O40. -/

namespace Sys2Proof.Machine

open Sys2Proof

/-! ### Commands of SAF_SMM_CMD and their refusals (R298) -/

section Command

variable {s : State} {c : Cmd}

theorem smmCmd_of_takes {bit : Nat} (h : takes s Reg.SAF_SMM_CMD bit c) (f : State → State) :
    smmCmd s bit c f = f (touch s c.session) := by
  obtain ⟨pass, key, sel⟩ := h
  rw [smmCmd, written_of_passes pass, if_neg (not_not_intro key), if_pos sel]

/-- The state that shows a KEY field that is wrong as a refusal with code 6. -/
def smmKeyRefused (s : State) (v : Word) : State := wrField (keyWrong s Reg.SAF_SMM_CMD v) Reg.SAF_SMM_STAT 29 26 6

theorem smmCmd_keyWrong (pass : passes s Reg.SAF_SMM_CMD c) (wrong : field c.value 31 16 ≠ 0x5A3C) (bit : Nat)
    (f : State → State) : smmCmd s bit c f = smmKeyRefused (touch s c.session) c.value := by
  rw [smmCmd, written_of_passes pass, if_pos wrong, smmKeyRefused]

theorem field_refuse_refuseSmm (s : State) {code : Nat} (n : Nat) (h : code < 16) :
    field (rd (refuseSmm s code n) Reg.SAF_SMM_STAT) 29 26 = code := by
  rw [refuseSmm, rd_refuse _ _ _ _ _ Reg.SAF_SMM_STAT (by decide), field_wrField_same _ _ _ _ (by decide)]
  exact Nat.mod_eq_of_lt h

theorem onlyRegs_refuseSmm (s : State) (code n : Nat) :
    onlyRegs [Reg.SAF_SMM_STAT, Reg.REC_EVT_STAT] s (refuseSmm s code n) :=
  onlyRegs_answer (onlyRegs_record _ (onlyRegs_wrField (onlyRegs_refl _ s) List.mem_cons_self)
    (List.mem_cons_of_mem _ List.mem_cons_self))

/-- What a refused command of the mode leaves: the mode as it was, and its code shown. -/
theorem completes_refuseSmm {i : Instr} {n : Nat} (run : exec i s = .next (refuseSmm (touch s c.session) n c.session))
    (fits : n < 16) : completes i s fun u => u.resp = .refused n ∧ field (rd u Reg.SAF_SMM_STAT) 29 26 = n ∧
      u.saf = s.saf ∧ onlyRegs [Reg.SAF_SMM_STAT, Reg.REC_EVT_STAT] s u :=
  ⟨_, run, rfl, field_refuse_refuseSmm _ _ fits, (refuseSmm_keeps ..).same .saf rfl,
    onlyRegs_refuseSmm (touch s c.session) n c.session⟩

/-! ### REQUEST (R298) -/

/-- The state after REQUEST, in which a fresh code is shown to the session. -/
def smmCodeShown (s : State) (c : Cmd) : State :=
  accepted (setSmm (drawWord s).2 fun _ =>
    { stage := 1, session := c.session, dur := field c.value 13 8, code := (drawWord s).1.toNat % 1000000
      codeAt := s.grid.mono }) Reg.SAF_SMM_CMD c

theorem saf_smmCodeShown (s : State) (c : Cmd) : (smmCodeShown s c).saf =
    { s.saf with smm :=
        { stage := 1, session := c.session, dur := field c.value 13 8, code := (drawWord s).1.toNat % 1000000
          codeAt := s.grid.mono } } :=
  accepted_saf ..

section Request

variable (h : takes s Reg.SAF_SMM_CMD 0 c)

include h

theorem exec_smmRequest_role (role : smmRole s = false) :
    exec (.smmRequest c) s = .next (refuseSmm (touch s c.session) 1 c.session) := by
  have role' : smmRole (touch s c.session) = false := role
  show execSmmRequest c s = _
  rw [execSmmRequest, smmCmd_of_takes h]
  exact congrArg Host.Outcome.next (if_pos (by simp [role']))

theorem exec_smmRequest_unentitled (role : smmRole s = true) (may : hasRole s c.session 2 = false) :
    exec (.smmRequest c) s = .next (refuseSmm (touch s c.session) 2 c.session) := by
  have role' : smmRole (touch s c.session) = true := role
  show execSmmRequest c s = _
  rw [execSmmRequest, smmCmd_of_takes h]
  exact congrArg Host.Outcome.next ((if_neg (by simp [role'])).trans (if_pos (by simp [may])))

variable (role : smmRole s = true) (may : hasRole s c.session 2 = true)

include role may

theorem exec_smmRequest_entitled : exec (.smmRequest c) s = .next (
    if s.saf.smm.stage ≠ 0 then refuseSmm (touch s c.session) 7 c.session
    else if field c.value 13 8 = 0 ∨ 32 < field c.value 13 8 then refuseSmm (touch s c.session) 5 c.session
    else smmCodeShown (touch s c.session) c) := by
  have role' : smmRole (touch s c.session) = true := role
  show execSmmRequest c s = _
  rw [execSmmRequest, smmCmd_of_takes h]
  exact congrArg Host.Outcome.next ((if_neg (by simp [role'])).trans (if_neg (by simp [may])))

theorem exec_smmRequest_busy (busy : s.saf.smm.stage ≠ 0) :
    exec (.smmRequest c) s = .next (refuseSmm (touch s c.session) 7 c.session) := by
  rw [exec_smmRequest_entitled h role may, if_pos busy]

theorem exec_smmRequest_duration (idle : s.saf.smm.stage = 0)
    (dur : field c.value 13 8 = 0 ∨ 32 < field c.value 13 8) :
    exec (.smmRequest c) s = .next (refuseSmm (touch s c.session) 5 c.session) := by
  rw [exec_smmRequest_entitled h role may, if_neg (not_not_intro idle), if_pos dur]

theorem exec_smmRequest_taken (idle : s.saf.smm.stage = 0) (low : 1 ≤ field c.value 13 8) (high : field c.value 13 8 ≤ 32) :
    exec (.smmRequest c) s = .next (smmCodeShown (touch s c.session) c) := by
  rw [exec_smmRequest_entitled h role may, if_neg (not_not_intro idle), if_neg (by omega)]

end Request

/-! ### ENTER (R298, R539) -/

/-- The session returns the code it was shown, within 60 s. -/
def codeReturned (s : State) (session : Nat) : Prop :=
  s.saf.smm.stage = 1 ∧ s.saf.smm.session = session ∧ s.saf.smm.given = some s.saf.smm.code ∧
    s.grid.mono - s.saf.smm.codeAt ≤ 60000000000

/-- The state after ENTER: the mode starts some frames later, on the partner's consent where it is asked. -/
def smmEntering (s : State) (c : Cmd) (consent : Bool) (frames : Nat) : State :=
  setSmm (accepted s Reg.SAF_SMM_CMD c) fun y =>
    { y with stage := 2, askedAt := s.grid.frame, confirmed := consent, startAt := some (s.grid.frame + frames) }

theorem smm_smmEntering (s : State) (c : Cmd) (consent : Bool) (frames : Nat) : (smmEntering s c consent frames).saf.smm =
    { s.saf.smm with stage := 2, askedAt := s.grid.frame, confirmed := consent, startAt := some (s.grid.frame + frames) } :=
  congrArg (fun x : SafState => { x.smm with
    stage := 2, askedAt := s.grid.frame, confirmed := consent, startAt := some (s.grid.frame + frames) }) (accepted_saf ..)

theorem sent_smmEntering (s : State) (c : Cmd) (consent : Bool) (frames : Nat) :
    (smmEntering s c consent frames).sent = s.sent := accepted_sent ..

/-- The state after ENTER on an ACTIVE module, which asks a partner that follows (R539). -/
def smmEnteringPair (s : State) (c : Cmd) : State :=
  if asksPartner s then
    tokel (smmEntering s c (!asksPartner s) 2) 0x30 [11, s.saf.smm.session, s.saf.smm.dur, s.grid.frame]
  else smmEntering s c (!asksPartner s) 2

theorem saf_smmEnteringPair (s : State) (c : Cmd) :
    (smmEnteringPair s c).saf = (smmEntering s c (!asksPartner s) 2).saf := by
  unfold smmEnteringPair
  split <;> rfl

theorem sent_smmEnteringPair (s : State) (c : Cmd) : (smmEnteringPair s c).sent = if asksPartner s
    then s.sent ++ [{ bus := 0, kind := 0x30, data := [11, s.saf.smm.session, s.saf.smm.dur, s.grid.frame] }] else s.sent := by
  have sent := sent_smmEntering s c (!asksPartner s) 2
  unfold smmEnteringPair
  split
  · exact congrArg (· ++ _) sent
  · exact sent

section Enter

variable (h : takes s Reg.SAF_SMM_CMD 1 c) (role : smmRole s = true) (may : hasRole s c.session 2 = true)

include h role may

theorem exec_smmEnter_wrong (wrong : ¬ codeReturned s c.session) :
    exec (.smmEnter c) s = .next (refuseSmm (touch s c.session) 3 c.session) := by
  have role' : smmRole (touch s c.session) = true := role
  have bad : s.saf.smm.stage ≠ 1 ∨ s.saf.smm.session ≠ c.session ∨ s.saf.smm.given ≠ some s.saf.smm.code ∨
      60000000000 < s.grid.mono - s.saf.smm.codeAt := by
    rw [codeReturned, Decidable.not_and_iff_not_or_not, Decidable.not_and_iff_not_or_not, Decidable.not_and_iff_not_or_not,
      Nat.not_le] at wrong
    exact wrong
  show execSmmEnter c s = _
  rw [execSmmEnter, smmCmd_of_takes h]
  exact congrArg Host.Outcome.next ((if_neg (by simp [role'])).trans ((if_neg (by simp [may])).trans (if_pos bad)))

theorem exec_smmEnter_returned (right : codeReturned s c.session) : exec (.smmEnter c) s = .next (
    if s.pair.role = .active then smmEnteringPair (touch s c.session) c
    else smmEntering (touch s c.session) c true 1) := by
  have role' : smmRole (touch s c.session) = true := role
  have good : ¬ (s.saf.smm.stage ≠ 1 ∨ s.saf.smm.session ≠ c.session ∨ s.saf.smm.given ≠ some s.saf.smm.code ∨
      60000000000 < s.grid.mono - s.saf.smm.codeAt) := by
    obtain ⟨shown, session, given, soon⟩ := right
    rintro (no | no | no | late)
    · exact no shown
    · exact no session
    · exact no given
    · exact Nat.not_lt.2 soon late
  show execSmmEnter c s = _
  rw [execSmmEnter, smmCmd_of_takes h]
  exact congrArg Host.Outcome.next ((if_neg (by simp [role'])).trans ((if_neg (by simp [may])).trans (if_neg good)))

end Enter

/-! ### EXIT (R298, R539) -/

/-- The state in which the mode will end some frames later. -/
def smmLeaving (s : State) (frames : Nat) : State := setSmm s fun x => { x with endAt := some (s.grid.frame + frames) }

theorem leaveSmm_active (force : s.saf.smm.stage = 3) (role : s.pair.role = .active) : leaveSmm s =
    tokel (smmLeaving s 2) 0x30 [12, s.grid.frame] := by
  simp only [leaveSmm, force]
  exact if_pos role

theorem leaveSmm_alone (force : s.saf.smm.stage = 3) (role : s.pair.role ≠ .active) : leaveSmm s = smmLeaving s 1 := by
  simp only [leaveSmm, force]
  exact if_neg role

theorem leaveSmm_before (before : s.saf.smm.stage = 1 ∨ s.saf.smm.stage = 2) : leaveSmm s = setSmm s fun _ => {} := by
  rcases before with stage | stage <;> simp only [leaveSmm, stage]

theorem saf_smmLeaving_accepted (s : State) (c : Cmd) (frames : Nat) :
    (smmLeaving (accepted s Reg.SAF_SMM_CMD c) frames).saf =
      { s.saf with smm := { s.saf.smm with endAt := some (s.grid.frame + frames) } } := by
  rw [smmLeaving, setSmm, setSaf_saf, accepted_saf, accepted_grid]

section Exit

variable (h : takes s Reg.SAF_SMM_CMD 2 c)

include h

theorem exec_smmExit_taken : exec (.smmExit c) s = .next (leaveSmm (accepted (touch s c.session) Reg.SAF_SMM_CMD c)) :=
  congrArg Host.Outcome.next (smmCmd_of_takes h _)

theorem exec_smmExit_active (force : s.saf.smm.stage = 3) (role : s.pair.role = .active) : exec (.smmExit c) s =
    .next (tokel (smmLeaving (accepted (touch s c.session) Reg.SAF_SMM_CMD c) 2) 0x30 [12, s.grid.frame]) := by
  rw [exec_smmExit_taken h, leaveSmm_active (by rw [accepted_saf, touch_saf, force]) (by rw [accepted_pair, touch_pair, role]),
    accepted_grid, touch_grid]

theorem exec_smmExit_alone (force : s.saf.smm.stage = 3) (role : s.pair.role ≠ .active) :
    exec (.smmExit c) s = .next (smmLeaving (accepted (touch s c.session) Reg.SAF_SMM_CMD c) 1) := by
  rw [exec_smmExit_taken h, leaveSmm_alone (by rw [accepted_saf, touch_saf, force]) (by rwa [accepted_pair, touch_pair])]

theorem exec_smmExit_before (before : s.saf.smm.stage = 1 ∨ s.saf.smm.stage = 2) :
    exec (.smmExit c) s = .next (setSmm (accepted (touch s c.session) Reg.SAF_SMM_CMD c) fun _ => {}) := by
  rw [exec_smmExit_taken h, leaveSmm_before (by rwa [accepted_saf, touch_saf])]

end Exit

end Command

/-! ### The code's expiry and the start of the mode (R298, R539) -/

section Time

variable {s : State} {t f : Nat}

theorem exec_smmCodeExpiry_due (shown : s.saf.smm.stage = 1)
    (late : 60000000000 ≤ (atTime s t).grid.mono - s.saf.smm.codeAt) :
    exec (.smmCodeExpiry t) s = .next (setSmm (atTime s t) fun _ => {}) :=
  if_pos ⟨shown, late⟩

/-- The state in which the mode is in force for its duration, with its event. -/
def smmStarted (s : State) : State :=
  raise (setSaf s fun y => { y with
      smmOn := true, smm := { s.saf.smm with stage := 3, till := s.grid.frame + s.saf.smm.dur * 2160000 } })
    { blk := 8, ev := 6, info := [s.saf.smm.session, 1] }

theorem exec_smmStart_due (entered : s.saf.smm.stage = 2) (consent : s.saf.smm.confirmed = true) (freeze : s.grid.phase = 0)
    (start : s.saf.smm.startAt = some f) (due : f ≤ s.grid.frame) :
    exec (.smmStart t) s = .next (smmStarted (atTime s t)) := by
  have reached : (s.saf.smm.startAt.any fun f => decide (f ≤ s.grid.frame)) = true := by simp [start, due]
  exact if_pos ⟨entered, consent, freeze, reached⟩

theorem onlyRegs_smmStarted (s : State) : onlyRegs [Reg.SAF_EVT_STAT, Reg.REC_EVT_STAT] s (smmStarted s) :=
  onlyRegs_record _ (onlyRegs_wr (t := setSaf s _) (onlyRegs_refl _ s) List.mem_cons_self)
    (List.mem_cons_of_mem _ List.mem_cons_self)

end Time

/-! ### The end of the mode (R299) -/

section End

variable {s : State} {t : Nat}

/-- The entry of the force table forces a safety endpoint. -/
def safetyForce (s : State) (e : Nat × Option Force) : Bool := e.2.any fun f => dSafety (dirEntry s f.ep)

/-- The state in which entry i is gone from the force table, with its event. -/
def forceDropped (s : State) (i : Nat) (f : Force) : State :=
  raise (wr { s with frc := { s.frc with table := tset none s.frc.table i none } } Reg.FRC_LAST_LO (w32 s.grid.frame))
    { blk := 0x15, ev := 1, info := [f.session, f.ep, f.val.toNat] }

theorem table_forceDropped (s : State) (i : Nat) (f : Force) : (forceDropped s i f).frc.table = s.frc.table.drop i := by
  rw [forceDropped, raise_frc, wr_frc, tset, Tbl.write, if_pos rfl]

theorem cfg_forceDropped (s : State) (i : Nat) (f : Force) : (forceDropped s i f).cfg = s.cfg := raise_cfg ..

/-- An entry is dropped from the force table when it forces a safety endpoint. -/
def dropOne (s : State) (e : Nat × Option Force) : State :=
  match e.2 with
  | some f => if dSafety (dirEntry s f.ep) then forceDropped s e.1 f else s
  | none => s

theorem dropSafetyForces_eq_foldl (s : State) : dropSafetyForces s = s.frc.table.foldl dropOne s := rfl

theorem table_dropOne (s : State) (e : Nat × Option Force) : (dropOne s e).frc.table =
    if safetyForce s e then s.frc.table.drop e.1 else s.frc.table := by
  rcases e with ⟨i, _ | f⟩
  · rfl
  · rw [← table_forceDropped s i f]
    exact apply_ite (fun u : State => u.frc.table) ..

theorem cfg_dropOne (s : State) (e : Nat × Option Force) : (dropOne s e).cfg = s.cfg := by
  rcases e with ⟨i, _ | f⟩
  · rfl
  · simp only [dropOne]
    split
    · exact cfg_forceDropped ..
    · rfl

theorem safetyForce_congr {u : State} (cfg : u.cfg = s.cfg) (e : Nat × Option Force) : safetyForce u e = safetyForce s e := by
  simp only [safetyForce, dirEntry, cfg]

theorem mem_table_dropOne {d e : Nat × Option Force} (mem : e ∈ (dropOne s d).frc.table) :
    e ∈ s.frc.table ∧ (e = d → safetyForce s e = false) := by
  rw [table_dropOne] at mem
  split at mem
  · obtain ⟨held, key⟩ := List.mem_filter.1 mem
    refine ⟨held, ?_⟩
    rintro rfl
    simp at key
  · next plain =>
    refine ⟨mem, ?_⟩
    rintro rfl
    exact Bool.eq_false_iff.2 plain

/-- What the table still holds was there before, and of the entries gone through only those that force no safety endpoint. -/
theorem mem_table_foldl_dropOne {e : Nat × Option Force} (l : List (Nat × Option Force))
    (mem : e ∈ (l.foldl dropOne s).frc.table) : e ∈ s.frc.table ∧ (e ∈ l → safetyForce s e = false) := by
  induction l generalizing s with
  | nil => exact ⟨mem, fun no => absurd no List.not_mem_nil⟩
  | cons d l ih =>
    obtain ⟨left, rest⟩ := ih mem
    obtain ⟨held, plain⟩ := mem_table_dropOne left
    rw [safetyForce_congr (cfg_dropOne s d)] at rest
    exact ⟨held, fun mem => (List.mem_cons.1 mem).elim plain rest⟩

theorem safetyForce_dropSafetyForces {e : Nat × Option Force} (mem : e ∈ (dropSafetyForces s).frc.table) :
    safetyForce s e = false := by
  rw [dropSafetyForces_eq_foldl] at mem
  obtain ⟨held, plain⟩ := mem_table_foldl_dropOne s.frc.table mem
  exact plain held

/-- The state in which the mode has ended, with its event, before what ends with it. -/
def smmEnded (s : State) : State :=
  raise (setSaf s fun x => { x with smmOn := false, smm := {} }) { blk := 8, ev := 6, info := [s.saf.smm.session, 0] }

/-- With the mode end debug sessions and an armed change, which hold no force. -/
theorem endSmm_keeps_forces (s : State) : Keeps 0x42000800009208 (dropSafetyForces (smmEnded s)) (endSmm s) := by
  unfold endSmm
  extract_lets -merge +onlyGivenNames ended dropped closed
  have closed_keeps : Keeps 0x42000800009208 dropped closed :=
    Keeps.foldl (Keeps.refl ..) fun _ _ h => Keeps.ite (Keeps.step (closeDebug_keeps ..) rfl h) h
  split
  · exact Keeps.ite (Keeps.step (autoDisarm_keeps ..) rfl closed_keeps) closed_keeps
  · exact closed_keeps

theorem endSmm_keeps_smmEnded (s : State) : Keeps 0x62000800019208 (smmEnded s) (endSmm s) :=
  Keeps.step (endSmm_keeps_forces s) rfl (Keeps.mono (dropSafetyForces_keeps ..) rfl)

theorem saf_endSmm (s : State) : (endSmm s).saf = { s.saf with smmOn := false, smm := {} } :=
  ((endSmm_keeps_smmEnded s).same .saf rfl).trans (raise_saf ..)

theorem flag_endSmm (s : State) : flag (rd (endSmm s) Reg.SAF_EVT_STAT) 6 = true := by
  rw [rd_saf_of_keeps (endSmm_keeps_smmEnded s) rfl (by decide)]
  exact flag_raise_saf _ rfl rfl (by decide)

/-- Outside the mode no safety endpoint is forced (R299). -/
theorem safetyForce_endSmm {e : Nat × Option Force} (mem : e ∈ (endSmm s).frc.table) : safetyForce (endSmm s) e = false := by
  have forces : (endSmm s).frc = (dropSafetyForces (smmEnded s)).frc := (endSmm_keeps_forces s).same .frc rfl
  rw [safetyForce_congr ((endSmm_keeps_smmEnded s).same .cfg rfl)]
  exact safetyForce_dropSafetyForces (forces ▸ mem)

theorem exec_smmExpiry_due (force : s.saf.smm.stage = 3) (due : s.saf.smm.till ≤ s.grid.frame) :
    exec (.smmExpiry t) s = .next (endSmm (atTime s t)) :=
  if_pos ⟨force, due⟩

end End

/-- Settles O40: a refused command leaves what `completes_refuseSmm` says, and every other one ends in the state that its `exec_`
lemma names; `safetyForce_endSmm` says that no safety force outlives the mode. -/
theorem maintenanceMode : Obligations.MaintenanceMode := by
  intro s t f c
  refine ⟨fun pass wrong => ?key, fun h => ⟨fun role => ?role, fun role may => ?unentitled, fun role may =>
      ⟨fun busy => ?busy, fun idle dur => ?duration, fun idle low high => ?requested⟩⟩,
    fun h role may => ⟨fun wrong => ?wrong, fun right active => ?pair, fun right alone => ?alone⟩,
    fun h => ⟨fun force active => ?leavePair, fun force alone => ?leaveAlone, fun before => ?drop⟩,
    fun shown late => ?codeExpiry, fun entered consent freeze start due => ?start, fun force due => ?expiry⟩
  case key =>
    exact ⟨_, congrArg Host.Outcome.next (smmCmd_keyWrong pass wrong ..), field_wrField_same _ _ 26 6 (by decide),
      keyWrong_saf ..⟩
  case role => exact completes_refuseSmm (exec_smmRequest_role h role) (by decide)
  case unentitled => exact completes_refuseSmm (exec_smmRequest_unentitled h role may) (by decide)
  case busy => exact completes_refuseSmm (exec_smmRequest_busy h role may busy) (by decide)
  case duration => exact completes_refuseSmm (exec_smmRequest_duration h role may idle dur) (by decide)
  case requested =>
    have saf := saf_smmCodeShown (touch s c.session) c
    exact ⟨_, exec_smmRequest_taken h role may idle low high,
      ⟨_, Nat.mod_lt _ (by decide), congrArg SafState.smm saf⟩, (congrArg SafState.smmOn saf :),
      onlyRegs_record _ (fun _ _ => rfl) List.mem_cons_self⟩
  case wrong => exact completes_refuseSmm (exec_smmEnter_wrong h role may wrong) (by decide)
  case pair =>
    have run := exec_smmEnter_returned h role may right
    rw [if_pos active] at run
    exact ⟨_, run, (congrArg SafState.smm (saf_smmEnteringPair ..)).trans (smm_smmEntering (touch s c.session) ..),
      sent_smmEnteringPair (touch s c.session) c⟩
  case alone =>
    have run := exec_smmEnter_returned h role may right
    rw [if_neg alone] at run
    exact ⟨_, run, smm_smmEntering (touch s c.session) .., sent_smmEntering (touch s c.session) ..⟩
  case leavePair =>
    have saf := saf_smmLeaving_accepted (touch s c.session) c 2
    exact ⟨_, exec_smmExit_active h force active, congrArg SafState.smm saf, (congrArg SafState.smmOn saf :),
      congrArg (· ++ _) (accepted_sent ..)⟩
  case leaveAlone =>
    exact ⟨_, exec_smmExit_alone h force alone, congrArg SafState.smm (saf_smmLeaving_accepted (touch s c.session) c 1)⟩
  case drop =>
    exact ⟨_, exec_smmExit_before h before, rfl⟩
  case codeExpiry =>
    exact ⟨_, exec_smmCodeExpiry_due shown late, rfl,
      Keeps.onlyParts (Keeps.step (setSmm_keeps ..) rfl (Keeps.mono (atTime_keeps s t) rfl))⟩
  case start =>
    exact ⟨_, exec_smmStart_due entered consent freeze start due, raise_saf .., flag_raise_saf _ rfl rfl (by decide),
      onlyRegs_smmStarted (atTime s t)⟩
  case expiry =>
    refine ⟨_, exec_smmExpiry_due force due, saf_endSmm (atTime s t), flag_endSmm _, fun e mem g held => ?_⟩
    have plain := safetyForce_endSmm mem
    rwa [safetyForce, held, Option.any_some] at plain

end Sys2Proof.Machine
end

section
/-! One step of the block and the requests of the chain master (R307, R314–R318, R321–R323, R327): O1 and O41. -/

namespace Sys2Proof.Machine

open Sys2Proof

/-- Settles O1: `step` reads the queue, and both of its branches are the statement's two clauses. -/
theorem stepRunsFront : Obligations.StepRunsFront := by
  refine ⟨fun c s => rfl, fun s idle => ?_⟩
  unfold step
  rw [idle]

/-! ### What a record leaves -/

/-- A record writes the register file, draws a free value and enters the recorder: nothing else (R468–R475). -/
theorem record_rest (s : State) (q : RecReq) : ∃ r n b, record s q = { s with regs := r, freeN := n, rcd := b } := by
  unfold record enterRec discardRec acceptRec setBit
  split <;> split <;> exact ⟨_, _, _, rfl⟩

/-! ### Ports and nodes -/

@[simp] theorem chnPort_setPort_same (s : State) (p : Nat) (x : ChnPort) : chnPort (setPort s p x) p = x := tget_tset_same ..

theorem chnPort_setPort_other (s : State) (x : ChnPort) {p o : Nat} (h : o ≠ p) : chnPort (setPort s p x) o = chnPort s o :=
  tget_tset_other _ _ _ _ _ h

theorem chnPort_congr {s u : State} (h : u.chn = s.chn) (p : Nat) : chnPort u p = chnPort s p := by
  unfold chnPort
  rw [h]

theorem chnNode_congr {s u : State} {p : Nat} (h : (chnPort u p).nodes = (chnPort s p).nodes) (n : Nat) :
    chnNode u p n = chnNode s p n := by
  unfold chnNode
  rw [h]

theorem length_leBytes (n v : Nat) : (leBytes n v).length = n := by
  induction n generalizing v with
  | zero => rfl
  | succ n ih => exact congrArg (· + 1) (ih _)

/-! ### Requests (R307, R310) -/

/-- A request has gone out on a port from a state, which waits for its response; no node and no other port has changed. -/
structure Requests (s u : State) (p t addr cmd ent : Nat) (payload : List Byte) : Prop where
  sent : u.sent = s.sent ++
    [{ bus := 1, kind := p, data := (reqBytes s addr ((chnPort s p).epoch.getD 0) cmd payload).map (·.toNat) }]
  waits : (chnPort u p).req = some
    { addr := addr, epoch := (chnPort s p).epoch.getD 0, cmd := cmd, fnum := s.grid.frame % 2 ^ 24
      sentAt := reqEnd t payload.length, ent := ent }
  nodes : ∀ m, chnNode u p m = chnNode s p m
  others : ∀ o, o ≠ p → chnPort u o = chnPort s o

theorem Requests.all {s u : State} {p t addr cmd ent : Nat} {payload : List Byte} (h : Requests s u p t addr cmd ent payload) :
    u.sent = s.sent ++
      [{ bus := 1, kind := p, data := (reqBytes s addr ((chnPort s p).epoch.getD 0) cmd payload).map (·.toNat) }] ∧
    (chnPort u p).req = some
      { addr := addr, epoch := (chnPort s p).epoch.getD 0, cmd := cmd, fnum := s.grid.frame % 2 ^ 24
        sentAt := reqEnd t payload.length, ent := ent } ∧
    (∀ m, chnNode u p m = chnNode s p m) ∧ ∀ o, o ≠ p → chnPort u o = chnPort s o :=
  ⟨h.sent, h.waits, h.nodes, h.others⟩

theorem requests_sendReq (s : State) (p addr cmd : Nat) (payload : List Byte) (t ent : Nat) :
    Requests s (sendReq s p addr cmd payload t ent) p t addr cmd ent payload where
  sent := rfl
  waits := congrArg ChnPort.req (chnPort_setPort_same ..)
  nodes := chnNode_congr (congrArg ChnPort.nodes (chnPort_setPort_same ..) :)
  others := fun _ other => chnPort_setPort_other _ _ other

/-- What a request brings does not depend on what else is held: only on what was sent, the frame and the chain's ports. -/
theorem Requests.of_same {s v u : State} {p t addr cmd ent : Nat} {payload : List Byte}
    (h : Requests v u p t addr cmd ent payload) (sent : v.sent = s.sent) (frame : v.grid.frame = s.grid.frame)
    (epoch : (chnPort v p).epoch = (chnPort s p).epoch) (nodes : (chnPort v p).nodes = (chnPort s p).nodes)
    (others : ∀ o, o ≠ p → chnPort v o = chnPort s o) : Requests s u p t addr cmd ent payload where
  sent := by
    have bytes : reqBytes v addr ((chnPort v p).epoch.getD 0) cmd payload =
        reqBytes s addr ((chnPort s p).epoch.getD 0) cmd payload := by
      unfold reqBytes
      rw [epoch, frame]
    rw [h.sent, sent, bytes]
  waits := by rw [h.waits, epoch, frame]
  nodes := fun m => (h.nodes m).trans (chnNode_congr nodes m)
  others := fun o other => (h.others o other).trans (others o other)

theorem requests_atTime {s u : State} {p t t' addr cmd ent : Nat} {payload : List Byte}
    (h : Requests (atTime s t') u p t addr cmd ent payload) : Requests s u p t addr cmd ent payload :=
  h.of_same rfl rfl rfl rfl fun _ _ => rfl

section Request

variable {s : State} {p n t : Nat}

/-- A master sends in free time what fits into it. -/
theorem sendFree_fits {addr cmd expect : Nat} {payload : List Byte} (master : chnMaster s = true) (on : portOn s p = true)
    (fits : inFree s p (t - s.grid.freezeAt) (occupancy payload.length expect) = true) :
    sendFree s p addr cmd payload expect t = sendReq s p addr cmd payload t :=
  if_pos (by rw [master, on, fits]; rfl)

/-- A command that sends a request completes with it, and changes only the clock, the chain and what was sent. -/
theorem completes_sendReq {j : Instr} {addr cmd ent : Nat} {payload : List Byte}
    (run : exec j s = .next (sendReq (atTime s t) p addr cmd payload t ent)) : completes j s fun u =>
      (u.sent = s.sent ++
        [{ bus := 1, kind := p, data := (reqBytes s addr ((chnPort s p).epoch.getD 0) cmd payload).map (·.toNat) }] ∧
      (chnPort u p).req = some
        { addr := addr, epoch := (chnPort s p).epoch.getD 0, cmd := cmd, fnum := s.grid.frame % 2 ^ 24
          sentAt := reqEnd t payload.length, ent := ent } ∧
      (∀ m, chnNode u p m = chnNode s p m) ∧ ∀ o, o ≠ p → chnPort u o = chnPort s o) ∧
      onlyParts [.grid, .chn, .sent] s u :=
  ⟨_, run, (requests_atTime (requests_sendReq ..)).all,
    Keeps.onlyParts (Keeps.step (sendReq_keeps ..) rfl (Keeps.mono (atTime_keeps s t) rfl))⟩

/-! ### DATA (R315, R317, R321, R327) -/

/-- An entry whose transaction starts in the present frame. -/
structure EntryStarts (s : State) (p i : Nat) (e : ChnEnt) : Prop where
  master : chnMaster s = true
  ent : look (chnCfg s p).sched i = some e
  epoch : (chnPort s p).epoch ≠ none
  notDup : (chnNode s p e.node).st ≠ 5
  notProbed : ¬ ((chnPort s p).dup.st = 1 ∧ (chnPort s p).dup.addr = e.node)
  due : entDue e s.grid.frame = true
  running : s.grid.running = true

theorem exec_chainData_starts {i : Nat} {e : ChnEnt} (h : EntryStarts s p i e) : exec (.chainData p i t) s = .next (
    if s.chn.omitFrame = some s.grid.frame ∧ e.start < 52000 then setBit (atTime s t) Reg.CHN_EVT_STAT 7
    else sendReq (atTime s t) p e.node (0x10 + e.seg) (outPayload s p e.node (nodeSeg s p e.node e.seg)) t i) := by
  have runs : ¬ ((!chnMaster s) = true ∨ (chnPort s p).epoch = none ∨
      (decide ((chnNode s p e.node).st = 5) || (decide ((chnPort s p).dup.st = 1) && decide ((chnPort s p).dup.addr = e.node))) = true ∨
      (!entDue e s.grid.frame) = true ∨ (!s.grid.running) = true) := by
    have probed := h.notProbed
    simp only [h.master, h.epoch, h.notDup, h.due, h.running, Bool.not_true, decide_false, Bool.false_or, Bool.and_eq_true,
      decide_eq_true_eq, Bool.false_eq_true, or_false, false_or]
    exact probed
  have ent : look (chnCfg (atTime s t) p).sched i = some e := h.ent
  show execChainData p i t s = _
  simp only [execChainData, ent]
  refine (if_neg runs).trans ?_
  exact (apply_ite Host.Outcome.next ..).symm

/-! ### Free time (R314, R321–R323) -/

theorem exec_chainIdent_admits (master : chnMaster s = true) (on : portOn s p = true) (node : isNode s p n = true)
    (step : (chnNode s p n).step = 0) (st : (chnNode s p n).st = 1 ∨ (chnNode s p n).st = 2)
    (fits : inFree s p (t - s.grid.freezeAt) (occupancy 0 32) = true) :
    exec (.chainIdent p n t) s = .next (sendReq (atTime s t) p n 0x20 [] t) := by
  refine (if_pos ⟨node, .inl ⟨step, ?_⟩⟩).trans (congrArg Host.Outcome.next (sendFree_fits master on fits))
  exact st.imp_right .inl

theorem exec_chainDelay_admits (master : chnMaster s = true) (on : portOn s p = true) (node : isNode s p n = true)
    (st : (chnNode s p n).st = 2) (step : (chnNode s p n).step = 1)
    (fits : inFree s p (t - s.grid.freezeAt) (occupancy 0 0) = true) :
    exec (.chainDelay p n t) s = .next (sendReq (atTime s t) p n 0x21 [] t) :=
  (if_pos ⟨node, st, step⟩).trans (congrArg Host.Outcome.next (sendFree_fits master on fits))

theorem exec_chainConfig_admits (master : chnMaster s = true) (on : portOn s p = true) (node : isNode s p n = true)
    (st : (chnNode s p n).st = 2) (step : (chnNode s p n).step = 2) (epoch : (chnPort s p).epoch ≠ none)
    (fits : inFree s p (t - s.grid.freezeAt) (occupancy (configNow s p n).length 4) = true) :
    exec (.chainConfig p n t) s = .next (sendReq (atTime s t) p n 0x22 (configNow s p n) t) :=
  (if_pos ⟨node, epoch, .inl ⟨st, step⟩⟩).trans (congrArg Host.Outcome.next (sendFree_fits master on fits))

theorem exec_chainProbe_probing (master : chnMaster s = true) (on : portOn s p = true) (probing : (chnPort s p).dup.st = 1)
    (idle : (chnPort s p).req = none) (fits : inFree s p (t - s.grid.freezeAt) (occupancy 2 0) = true) :
    exec (.chainProbe p t) s = .next (sendReq (atTime s t) p (chnPort s p).dup.addr 0x24
      [BitVec.ofNat 8 (chnPort s p).dup.bit, BitVec.ofNat 8 (chnPort s p).dup.v] t) :=
  (if_pos ⟨probing, idle⟩).trans (congrArg Host.Outcome.next (sendFree_fits master on fits))

/-- The strangers that a poll leaves: those that answered one of the last three (R322). -/
def ChnPort.polled (q : ChnPort) : List Stranger :=
  (q.strangers.map fun y => { y with polls := y.polls + 1 }).filter fun y => decide (y.polls ≤ 3)

/-- The state whose port has counted a poll. -/
def strangersPolled (s : State) (p : Nat) : State := setPort s p { chnPort s p with strangers := (chnPort s p).polled }

theorem exec_strangerPoll_fits (master : chnMaster s = true) (on : portOn s p = true)
    (fits : inFree s p (t - s.grid.freezeAt) (occupancy 0 32) = true) :
    exec (.strangerPoll p t) s = .next (sendReq (strangersPolled (atTime s t) p) p 63 0x20 [] t) := by
  refine (if_neg ?_).trans (congrArg Host.Outcome.next (sendFree_fits (s := strangersPolled (atTime s t) p) master on fits))
  have master' : chnMaster (atTime s t) = true := master
  have on' : portOn (atTime s t) p = true := on
  simp [master', on']

theorem requests_strangersPolled (s : State) (p t : Nat) :
    Requests s (sendReq (strangersPolled s p) p 63 0x20 [] t) p t 63 0x20 0 [] :=
  (requests_sendReq ..).of_same rfl rfl (congrArg ChnPort.epoch (chnPort_setPort_same ..) :)
    (congrArg ChnPort.nodes (chnPort_setPort_same ..) :) fun _ other => chnPort_setPort_other _ _ other

theorem strangers_strangersPolled (s : State) (p t : Nat) :
    (chnPort (sendReq (strangersPolled s p) p 63 0x20 [] t) p).strangers = (chnPort s p).polled := by
  refine (congrArg ChnPort.strangers (chnPort_setPort_same ..)).trans ?_
  exact congrArg ChnPort.strangers (chnPort_setPort_same ..)

/-! ### CHN_CMD.ASSIGN (R322) -/

/-- An ASSIGN command whose selects name a stranger. -/
structure Assigns (s : State) (p : Nat) (c : Cmd) (g : Stranger) : Prop where
  takes : takes s Reg.CHN_CMD 0 c
  port : p = field (rd s Reg.CHN_PORT_SEL) 1 0
  stranger : (chnPort s p).strangers[field (rd s Reg.CHN_STR_SEL) 3 0]? = some g

/-- The state in which an ASSIGN was accepted. -/
def assignTaken (s : State) (c : Cmd) : State := accepted (touch s c.session) Reg.CHN_CMD c

/-- Traffic and an accepted command leave what a master judges its free time by. -/
theorem assignTaken_rest (s : State) (c : Cmd) : ∃ r n b l, assignTaken s c = { s with regs := r, freeN := n, rcd := b, sess := l } := by
  obtain ⟨r, n, b, eq⟩ := record_rest (touch s c.session)
    { blk := blockOf Reg.CHN_CMD, ev := 0x44, p := [some (offsetOf Reg.CHN_CMD), some c.value.toNat, some c.session] }
  exact ⟨r, n, b, _, eq⟩

/-- The payload of ASSIGN: the stranger's serial and its new address. -/
def assignPayload (s : State) (g : Stranger) : List Byte := leBytes 8 g.serial ++ leBytes 1 (field (rd s Reg.CHN_ASSIGN) 5 0)

theorem length_assignPayload (s : State) (g : Stranger) : (assignPayload s g).length = 9 := by
  rw [assignPayload, List.length_append, length_leBytes, length_leBytes]

/-- The address that CHN_ASSIGN names is one that a stranger may be given. -/
def assignable (s : State) (p : Nat) : Prop :=
  isNode s p (field (rd s Reg.CHN_ASSIGN) 5 0) = false ∧ field (rd s Reg.CHN_ASSIGN) 5 0 ≠ 0 ∧
    field (rd s Reg.CHN_ASSIGN) 5 0 ≠ 63

variable {c : Cmd} {g : Stranger}

theorem exec_chainAssign_taken (h : Assigns s p c g) (master : chnMaster s = true) (on : portOn s p = true)
    (role : hasRole s c.session 2 = true) (leads : s.pair.role.leads = true) (may : assignable s p)
    (epoch : (chnPort s p).epoch ≠ none) (fits : inFree s p (t - s.grid.freezeAt) (occupancy 9 0) = true) :
    exec (.chainAssign c t) s = .next (sendReq (assignTaken (atTime s t) c) p 63 0x23 (assignPayload s g) t) := by
  obtain ⟨take, rfl, stranger⟩ := h
  obtain ⟨noNode, notZero, notAll⟩ := may
  have take' : takes (atTime s t) Reg.CHN_CMD 0 c := take
  have stranger' : (chnPort (touch (atTime s t) c.session) (field (rd s Reg.CHN_PORT_SEL) 1 0)).strangers[
    field (rd s Reg.CHN_STR_SEL) 3 0]? = some g := stranger
  have role' : hasRole (atTime s t) c.session 2 = true := role
  have noNode' : isNode (touch (atTime s t) c.session) (field (rd s Reg.CHN_PORT_SEL) 1 0)
    (field (rd s Reg.CHN_ASSIGN) 5 0) = false := noNode
  have epoch' : (chnPort (touch (atTime s t) c.session) (field (rd s Reg.CHN_PORT_SEL) 1 0)).epoch ≠ none := epoch
  show execChainAssign c t s = _
  refine congrArg Host.Outcome.next ((keyed_of_takes take' _).trans ?_)
  simp only [rd_touch, rd_atTime, stranger']
  refine (if_neg (by simp [role', leads, noNode', notZero, notAll, epoch'])).trans ?_
  obtain ⟨_, _, _, _, rest⟩ := assignTaken_rest (atTime s t) c
  refine sendFree_fits (s := assignTaken (atTime s t) c) ?_ ?_ ?_ <;> rw [rest]
  · exact master
  · exact on
  · rw [← length_assignPayload s g] at fits
    exact fits

theorem exec_chainAssign_refused (h : Assigns s p c g) (role : hasRole s c.session 2 = false) :
    exec (.chainAssign c t) s = .next (refuse (touch (atTime s t) c.session) Reg.CHN_CMD none c.session) := by
  obtain ⟨take, rfl, stranger⟩ := h
  have take' : takes (atTime s t) Reg.CHN_CMD 0 c := take
  have stranger' : (chnPort (touch (atTime s t) c.session) (field (rd s Reg.CHN_PORT_SEL) 1 0)).strangers[
    field (rd s Reg.CHN_STR_SEL) 3 0]? = some g := stranger
  have role' : hasRole (atTime s t) c.session 2 = false := role
  show execChainAssign c t s = _
  refine congrArg Host.Outcome.next ((keyed_of_takes take' _).trans ?_)
  simp only [rd_touch, rd_atTime, stranger']
  exact if_pos (.inl (by simp [role']))

theorem requests_assignTaken (s : State) (c : Cmd) (p t : Nat) (g : Stranger) :
    Requests s (sendReq (assignTaken s c) p 63 0x23 (assignPayload s g) t) p t 63 0x23 0 (assignPayload s g) := by
  obtain ⟨_, _, _, _, rest⟩ := assignTaken_rest s c
  rw [rest]
  exact (requests_sendReq ..).of_same rfl rfl rfl rfl fun _ _ => rfl

end Request

/-- Settles O41: every command sends the request that its `exec_` lemma names, which `requests_sendReq` describes, but for the
entry omitted in the takeover frame and the refused ASSIGN. -/
theorem chainRequests : Obligations.ChainRequests := by
  intro s p n i t e c g q x out sends free master
  refine ⟨fun ent epoch notDup notProbed due running => ?data, fun on =>
    ⟨fun node step st fits => ?ident, fun node st step fits => ?delay, fun node st step epoch fits => ?config,
      fun probing idle fits => ?probe, fun fits => ?poll, fun take port stranger =>
        ⟨fun role leads noNode notZero notAll epoch fits => ?assign, fun role => ?refused⟩⟩⟩
  case data =>
    have run := exec_chainData_starts (t := t) ⟨master, ent, epoch, notDup, notProbed, due, running⟩
    refine ⟨fun sends => ?_, fun omitted early => ?_⟩
    · rw [if_neg sends] at run
      exact completes_sendReq run
    · rw [if_pos ⟨omitted, early⟩] at run
      exact ⟨_, run, flag_setBit _ _ (by decide), rfl, rfl, onlyRegs_wr (fun _ _ => rfl) List.mem_cons_self⟩
  case ident =>
    exact completes_sendReq (exec_chainIdent_admits master on node step st fits)
  case delay =>
    exact completes_sendReq (exec_chainDelay_admits master on node st step fits)
  case config =>
    exact completes_sendReq (exec_chainConfig_admits master on node st step epoch fits)
  case probe =>
    exact completes_sendReq (exec_chainProbe_probing master on probing idle fits)
  case poll =>
    exact ⟨_, exec_strangerPoll_fits master on fits, (requests_atTime (requests_strangersPolled ..)).all,
      Keeps.onlyParts (Keeps.step (sendReq_keeps ..) rfl (Keeps.step (setPort_keeps ..) rfl (Keeps.mono (atTime_keeps s t) rfl))),
      strangers_strangersPolled ..⟩
  case assign =>
    exact ⟨_, exec_chainAssign_taken ⟨take, port, stranger⟩ master on role leads ⟨noNode, notZero, notAll⟩ epoch fits,
      (requests_atTime (requests_assignTaken (atTime s t) c p t g)).all⟩
  case refused =>
    exact ⟨_, exec_chainAssign_refused ⟨take, port, stranger⟩ role, ⟨_, rfl⟩, refuse_chn .., refuse_sent ..⟩

end Sys2Proof.Machine
end

section
/-! What a response, a miss and the times of the chain bring (R310, R314, R317, R319–R323, R325–R327): O42. -/

namespace Sys2Proof.Machine

open Sys2Proof

/-! ### Tables -/

section Tables

variable {α : Type} {d : α}

/-- A key that is not in the list reads the default. -/
theorem tget_of_not_mem {t : Tbl α} {k : Nat} (h : k ∉ t.map Prod.fst) : tget d t k = d := by
  induction t with
  | nil => rfl
  | cons e t ih =>
    rw [List.map_cons, List.mem_cons, not_or] at h
    simpa [tget, Tbl.read, h.1] using ih h.2

variable [DecidableEq α]

/-- A write keeps the keys rising. -/
theorem Tbl.rising_tset {t : Tbl α} (h : Tbl.rising t = true) (k : Nat) (v : α) : Tbl.rising (tset d t k v) = true := by
  unfold tset Tbl.write
  split
  · rw [Tbl.rising_iff] at h ⊢
    exact h.filter _
  · exact Tbl.rising_place _ _ _ h

/-- Writing the images of a list with rising keys: a key of the list reads its image, every other one what it read before. -/
theorem tget_foldl_tset (f : Nat → α → α) {t : Tbl α} (h : t.Pairwise fun a b => a.1 < b.1) (a : Tbl α) (k : Nat) :
    tget d (t.foldl (fun a e => tset d a e.1 (f e.1 e.2)) a) k =
      if k ∈ t.map Prod.fst then f k (tget d t k) else tget d a k := by
  induction t generalizing a with
  | nil => rfl
  | cons e t ih =>
    obtain ⟨first, rest⟩ := List.pairwise_cons.1 h
    rw [List.foldl_cons, ih rest, tget_tset]
    by_cases key : k = e.1
    · have absent : k ∉ t.map Prod.fst := fun mem => by
        obtain ⟨y, inside, eq⟩ := List.mem_map.1 mem
        have := first y inside
        omega
      rw [if_neg absent, if_pos key, if_pos (by simp [key])]
      simp [key, tget, Tbl.read]
    · simp only [List.map_cons, List.mem_cons, key, false_or, if_false, tget, Tbl.read]

/-- A map that keeps the default is read key by key. -/
theorem tget_tmapAll {f : Nat → α → α} {t : Tbl α} (h : Tbl.rising t = true) {k : Nat} (keeps : f k d = d) :
    tget d (tmapAll d f t) k = f k (tget d t k) := by
  rw [tmapAll, tget_foldl_tset f ((Tbl.rising_iff t).1 h)]
  split
  · rfl
  · next absent =>
    rw [tget_of_not_mem absent]
    exact keeps.symm

end Tables

/-! ### Registers and events that stay -/

theorem rd_of_keeps {m a : Nat} {s u : State} (h : Keeps m s u) (free : m.testBit (32 + blockOf a) = false)
    (known : blockOf a ≤ 22) : rd u a = rd s a :=
  h.same (.regs (blockOf a)) free known a rfl

/-- A status bit once set stays set when another event is raised (R470). -/
theorem flag_raise_mono {s : State} {a i : Nat} (r : RecReq) (e : Nat) (notRec : a ≠ Reg.REC_EVT_STAT)
    (set : flag (rd s a) i = true) : flag (rd (raise s r e) a) i = true := by
  by_cases own : a = evtStat r.blk e
  · subst own
    rw [rd_raise_evt _ _ _ notRec, flag, BitVec.getLsbD_or]
    exact Bool.or_eq_true_iff.2 (.inl set)
  · rw [rd_raise _ _ _ _ notRec own, set]

theorem flag_raise_chn (s : State) {r : RecReq} {i : Nat} (blk : r.blk = 0xC) (ev : r.ev = i) (h : i < 32) :
    flag (rd (raise s r) Reg.CHN_EVT_STAT) i = true := by
  have stat : evtStat r.blk 0 = Reg.CHN_EVT_STAT := by rw [blk]; rfl
  rw [← stat, rd_raise_evt _ _ _ (by rw [stat]; decide), ← ev, flag_or_bit _ (ev ▸ h)]

/-! ### Nodes and ports -/

@[simp] theorem chnNode_setNode_same (s : State) (p n : Nat) (x : ChnNode) : chnNode (setNode s p n x) p n = x := by
  rw [chnNode, setNode, chnPort_setPort_same, tget_tset_same]

theorem chnNode_setNode_other (s : State) (p : Nat) (x : ChnNode) {n m : Nat} (h : m ≠ n) :
    chnNode (setNode s p n x) p m = chnNode s p m := by
  rw [chnNode, setNode, chnPort_setPort_same, tget_tset_other _ _ _ _ _ h]
  rfl

theorem chnPort_setNode_same (s : State) (p n : Nat) (x : ChnNode) :
    chnPort (setNode s p n x) p = { chnPort s p with nodes := tset {} (chnPort s p).nodes n x } := chnPort_setPort_same ..

theorem chnNode_setPort_same (s : State) {p : Nat} {x : ChnPort} (h : x.nodes = (chnPort s p).nodes) (n : Nat) :
    chnNode (setPort s p x) p n = chnNode s p n :=
  chnNode_congr (by rw [chnPort_setPort_same, h]) n

theorem chnNode_of_chn {s u : State} (h : u.chn = s.chn) (p n : Nat) : chnNode u p n = chnNode s p n := by
  rw [chnNode, chnPort_congr h]
  rfl

/-- No node of the port but n has changed, and no other port. -/
structure OnlyNode (p n : Nat) (s u : State) : Prop where
  nodes : ∀ m, m ≠ n → chnNode u p m = chnNode s p m
  ports : ∀ o, o ≠ p → chnPort u o = chnPort s o

namespace OnlyNode

variable {p n : Nat} {s u v : State}

theorem all (h : OnlyNode p n s u) : (∀ m, m ≠ n → chnNode u p m = chnNode s p m) ∧ ∀ o, o ≠ p → chnPort u o = chnPort s o :=
  ⟨h.nodes, h.ports⟩

theorem of_chn (h : OnlyNode p n s u) (same : v.chn = u.chn) : OnlyNode p n s v where
  nodes m other := (chnNode_of_chn same p m).trans (h.nodes m other)
  ports o other := (chnPort_congr same o).trans (h.ports o other)

theorem refl (p n : Nat) (s : State) : OnlyNode p n s s := ⟨fun _ _ => rfl, fun _ _ => rfl⟩

theorem trans (h : OnlyNode p n s u) (k : OnlyNode p n u v) : OnlyNode p n s v where
  nodes m other := (k.nodes m other).trans (h.nodes m other)
  ports o other := (k.ports o other).trans (h.ports o other)

theorem setNode (h : OnlyNode p n s u) (x : ChnNode) : OnlyNode p n s (setNode u p n x) where
  nodes m other := (chnNode_setNode_other _ _ _ other).trans (h.nodes m other)
  ports o other := (chnPort_setPort_other _ _ other).trans (h.ports o other)

theorem setPort (h : OnlyNode p n s u) {x : ChnPort} (same : x.nodes = (chnPort u p).nodes) : OnlyNode p n s (setPort u p x) where
  nodes m other := (chnNode_setPort_same _ same m).trans (h.nodes m other)
  ports o other := (chnPort_setPort_other _ _ other).trans (h.ports o other)

end OnlyNode

section Response

variable {s : State} {p n t : Nat} {r : ChnResp} {q : ChnReq}

/-! ### Misses (R320, R321) -/

/-- A node that has missed a segment. -/
def ChnNode.missing (x : ChnNode) (seg : Nat) : ChnNode :=
  { x with
    miss := satAdd 0xFFFF x.miss 1, consec := satAdd 0xFF x.consec 1
    missed := if x.missed.contains seg then x.missed else seg :: x.missed }

/-- A port that has counted a miss. -/
def ChnPort.missing (q : ChnPort) : ChnPort := { q with miss := satAdd 0xFFFFFFFF q.miss 1 }

/-- The state whose node has counted a miss. -/
def nodeMissing (s : State) (p n seg : Nat) : State := setNode s p n ((chnNode s p n).missing seg)

/-- The state whose node and port have counted a miss, with its event. -/
def missNoted (s : State) (p n seg : Nat) : State :=
  setBit (setPort (nodeMissing s p n seg) p (chnPort (nodeMissing s p n seg) p).missing) Reg.CHN_EVT_STAT 0

theorem chnPort_missNoted (s : State) (p n seg : Nat) :
    chnPort (missNoted s p n seg) p = (chnPort (nodeMissing s p n seg) p).missing := chnPort_setPort_same ..

theorem chnNode_missNoted (s : State) (p n seg : Nat) : chnNode (missNoted s p n seg) p n = (chnNode s p n).missing seg := by
  have nodes : (chnPort (missNoted s p n seg) p).nodes = (chnPort (nodeMissing s p n seg) p).nodes :=
    (congrArg ChnPort.nodes (chnPort_missNoted s p n seg) :)
  rw [chnNode_congr nodes, nodeMissing, chnNode_setNode_same]

theorem req_missNoted (s : State) (p n seg : Nat) : (chnPort (missNoted s p n seg) p).req = (chnPort s p).req := by
  rw [chnPort_missNoted, nodeMissing, chnPort_setNode_same]
  rfl

theorem miss_missNoted (s : State) (p n seg : Nat) :
    (chnPort (missNoted s p n seg) p).miss = satAdd 0xFFFFFFFF (chnPort s p).miss 1 := by
  rw [chnPort_missNoted, nodeMissing, chnPort_setNode_same]
  rfl

theorem onlyNode_missNoted (s : State) (p n seg : Nat) : OnlyNode p n s (missNoted s p n seg) := by
  refine OnlyNode.of_chn (u := setPort (nodeMissing s p n seg) p (chnPort (nodeMissing s p n seg) p).missing) ?_ rfl
  exact ((OnlyNode.refl p n s).setNode _).setPort rfl

/-- A node that is lost has its state, and its other fields as before. -/
theorem chnNode_nodeLost (s : State) (p n : Nat) : chnNode (nodeLost s p n) p n = { chnNode s p n with st := 4 } :=
  (chnNode_of_chn (raise_chn ..) p n).trans (chnNode_setNode_same ..)

theorem loseSource_chn (s : State) (l : List Nat) (t : Nat) : (loseSource s l t).chn = s.chn :=
  (loseSource_keeps ..).same .chn rfl

theorem OnlyNode.nodeLost {u : State} (h : OnlyNode p n s u) : OnlyNode p n s (nodeLost u p n) :=
  ((h.of_chn (loseSource_chn u (nodeInputs u p n) u.grid.now)).setNode _).of_chn (raise_chn ..)

theorem chnPort_nodeLost (s : State) (p n : Nat) : chnPort (nodeLost s p n) p =
    { chnPort s p with nodes := tset {} (chnPort s p).nodes n { chnNode s p n with st := 4 } } := by
  have port := chnPort_congr (loseSource_chn s (nodeInputs s p n) s.grid.now) p
  rw [nodeLost, chnPort_congr (raise_chn ..), chnPort_setNode_same, port]

theorem flag_nodeLost {i : Nat} (set : flag (rd s Reg.CHN_EVT_STAT) i = true) :
    flag (rd (nodeLost s p n) Reg.CHN_EVT_STAT) i = true := by
  refine flag_raise_mono _ _ (by decide) ?_
  have keeps : Keeps 0x2000400081088 s
      (setNode (loseSource s (nodeInputs s p n) s.grid.now) p n { chnNode s p n with st := 4 }) :=
    Keeps.step (setNode_keeps ..) rfl (Keeps.mono (loseSource_keeps ..) rfl)
  rwa [rd_of_keeps keeps rfl (by decide)]

/-- A miss collects the segment's inputs as held and is recorded; then the node may be lost (R321). -/
theorem chainMissed_cases (s : State) (p n seg : Nat) : ∃ u, Keeps 0x2000000001088 (missNoted s p n seg) u ∧
    chainMissed s p n seg = if (chnNode s p n).st = 3 ∧ (nodeCfg s p n).lostn ≤ satAdd 0xFF (chnNode s p n).consec 1
      then nodeLost u p n else u :=
  ⟨_, Keeps.step (record_keeps ..) rfl (Keeps.foldl (Keeps.refl ..) fun _ _ h => Keeps.ite
    (Keeps.step (collectGot_keeps ..) rfl h) (Keeps.step (collectGot_keeps ..) rfl h)), rfl⟩

/-- What a miss leaves: the node and its port have counted it, and a node that was OK is lost after LOSTN in a row. -/
structure Missed (s u : State) (p n seg : Nat) : Prop where
  node : chnNode u p n = { (chnNode s p n).missing seg with
    st := if (chnNode s p n).st = 3 ∧ (nodeCfg s p n).lostn ≤ satAdd 0xFF (chnNode s p n).consec 1 then 4 else (chnNode s p n).st }
  req : (chnPort u p).req = (chnPort s p).req
  count : (chnPort u p).miss = satAdd 0xFFFFFFFF (chnPort s p).miss 1
  shown : flag (rd u Reg.CHN_EVT_STAT) 0 = true
  others : OnlyNode p n s u

theorem missed_chainMissed (s : State) (p n seg : Nat) : Missed s (chainMissed s p n seg) p n seg := by
  obtain ⟨u, keeps, eq⟩ := chainMissed_cases s p n seg
  have chn : u.chn = (missNoted s p n seg).chn := keeps.same .chn rfl
  have node : chnNode u p n = (chnNode s p n).missing seg := (chnNode_of_chn chn p n).trans (chnNode_missNoted ..)
  have shown : flag (rd u Reg.CHN_EVT_STAT) 0 = true := by
    rw [rd_of_keeps keeps rfl (by decide)]
    exact flag_setBit _ _ (by decide)
  have others := (onlyNode_missNoted s p n seg).of_chn chn
  have req : (chnPort u p).req = (chnPort s p).req := (congrArg ChnPort.req (chnPort_congr chn p)).trans (req_missNoted ..)
  have count := (congrArg ChnPort.miss (chnPort_congr chn p)).trans (miss_missNoted s p n seg)
  rw [eq]
  by_cases lost : (chnNode s p n).st = 3 ∧ (nodeCfg s p n).lostn ≤ satAdd 0xFF (chnNode s p n).consec 1
  · have port := chnPort_nodeLost u p n
    rw [if_pos lost]
    exact ⟨by rw [chnNode_nodeLost, node, if_pos lost], by rw [port, req], by rw [port, count], flag_nodeLost shown, others.nodeLost⟩
  · rw [if_neg lost]
    exact ⟨by rw [node, if_neg lost]; rfl, req, count, shown, others⟩

theorem exec_chainMiss_data (waits : (chnPort s p).req = some q) (due : q.sentAt + 2000 ≤ t) (low : 0x10 ≤ q.cmd)
    (high : q.cmd ≤ 0x17) : exec (.chainMiss p t) s =
      .next (chainMissed (setPort (atTime s t) p { chnPort s p with req := none }) p q.addr (q.cmd - 0x10)) := by
  have waits' : (chnPort (atTime s t) p).req = some q := waits
  show execChainMiss p t s = _
  simp only [execChainMiss, waits']
  exact (if_neg (by omega)).trans (if_pos ⟨low, high⟩)

/-! ### Values collected (R23) -/

/-- What has been collected for the image that an instant belongs to. -/
def collectedFor (s u : State) (t : Nat) : Collect := if t < nextFreeze s then u.sig.coll else u.sig.next

theorem got_collectGot (s : State) (ep : Nat) (g : Got) : tget none (collectedFor s (collectGot s ep g) g.stamp).got ep = some g := by
  by_cases now : g.stamp < nextFreeze s
  · rw [collectedFor, if_pos now, collectGot, if_pos now]
    exact tget_tset_same none s.sig.coll.got ep (some g)
  · rw [collectedFor, if_neg now, collectGot, if_neg now]
    exact tget_tset_same none s.sig.next.got ep (some g)

theorem collectedFor_congr {s s' u u' : State} (grid : s'.grid = s.grid) (sig : u'.sig = u.sig) (t : Nat) :
    collectedFor s' u' t = collectedFor s u t := by
  unfold collectedFor nextFreeze
  rw [grid, sig]

theorem got_collectOwn (s : State) (ep : Nat) (v : Tetrad) (t : Nat) :
    tget none (collectedFor s (collectOwn s ep v t) t).got ep = some { tet := v, qual := Config.sideQual v.toNat, stamp := t } := by
  have grid : (sourceBack s ep).grid = s.grid := (sourceBack_keeps ..).same .grid rfl
  rw [← collectedFor_congr grid (u := collectOwn s ep v t) rfl]
  exact got_collectGot (sourceBack s ep) ep _

/-! ### Duplicate addresses (R323) -/

/-- A suspicion of a duplicate address changes no port but in its procedure. -/
structure DupOnly (p : Nat) (s u : State) : Prop where
  port : ∃ d, chnPort u p = { chnPort s p with dup := d }
  ports : ∀ o, o ≠ p → chnPort u o = chnPort s o

namespace DupOnly

variable {u v : State}

theorem refl (p : Nat) (s : State) : DupOnly p s s := ⟨⟨_, rfl⟩, fun _ _ => rfl⟩

theorem trans (h : DupOnly p s u) (k : DupOnly p u v) : DupOnly p s v := by
  obtain ⟨⟨d, hd⟩, ho⟩ := h
  obtain ⟨⟨e, he⟩, hp⟩ := k
  exact ⟨⟨e, by rw [he, hd]⟩, fun o other => (hp o other).trans (ho o other)⟩

theorem node (h : DupOnly p s u) (m : Nat) : chnNode u p m = chnNode s p m := by
  obtain ⟨⟨d, hd⟩, -⟩ := h
  exact chnNode_congr (by rw [hd]) m

theorem req (h : DupOnly p s u) : (chnPort u p).req = (chnPort s p).req := by
  obtain ⟨⟨d, hd⟩, -⟩ := h
  rw [hd]

theorem crc (h : DupOnly p s u) : (chnPort u p).crc = (chnPort s p).crc := by
  obtain ⟨⟨d, hd⟩, -⟩ := h
  rw [hd]

theorem dupSuspect (s : State) (p n : Nat) : DupOnly p s (dupSuspect s p n) := by
  unfold Machine.dupSuspect
  extract_lets port
  split
  · exact ⟨⟨_, chnPort_setPort_same ..⟩, fun o other => chnPort_setPort_other _ _ other⟩
  · exact refl p s

theorem foldl {f : State → Nat → State} (l : List Nat) (h : DupOnly p s u) (step : ∀ v k, DupOnly p v (f v k)) :
    DupOnly p s (l.foldl f u) := by
  induction l generalizing u with
  | nil => exact h
  | cons k l ih => exact ih (h.trans (step u k))

end DupOnly

theorem OnlyNode.dupOnly {u v : State} (h : OnlyNode p n s u) (k : DupOnly p u v) : OnlyNode p n s v :=
  ⟨fun m other => (k.node m).trans (h.nodes m other), fun o other => (k.ports o other).trans (h.ports o other)⟩

/-! ### Responses out of place and failed CRCs (R310, R323) -/

/-- A node whose response failed its CRC; other: another node of the port has answered in this frame. -/
def ChnNode.crcBad (x : ChnNode) (other : Bool) : ChnNode :=
  { x with
    crc := satAdd 0xFFFF x.crc 1
    crcRun := if other then x.crcRun + 1 else x.crcRun
    crcOpen := if other then x.crcOpen else x.crcOpen + 1 }

/-- The state whose port has counted a failed CRC. -/
def portCrcBad (s : State) (p : Nat) : State := setPort s p { chnPort s p with crc := satAdd 0xFFFF (chnPort s p).crc 1 }

theorem chnPort_portCrcBad (s : State) (p : Nat) :
    chnPort (portCrcBad s p) p = { chnPort s p with crc := satAdd 0xFFFF (chnPort s p).crc 1 } := chnPort_setPort_same ..

theorem chnNode_portCrcBad (s : State) (p m : Nat) : chnNode (portCrcBad s p) p m = chnNode s p m :=
  chnNode_setPort_same s (x := { chnPort s p with crc := satAdd 0xFFFF (chnPort s p).crc 1 }) rfl m

theorem onlyNode_portCrcBad (s : State) (p n : Nat) : OnlyNode p n s (portCrcBad s p) := (OnlyNode.refl p n s).setPort rfl

/-- A failed CRC is counted by the node; a suspicion of a duplicate address may follow. -/
theorem dupOnly_crcFailed (s : State) (p n : Nat) : ∃ other,
    DupOnly p (setNode s p n ((chnNode s p n).crcBad other)) (crcFailed s p n) := ⟨_, DupOnly.dupSuspect ..⟩

theorem crcFailed_leaves (s : State) (p n : Nat) : (chnPort (crcFailed s p n) p).crc = (chnPort s p).crc ∧
    (chnNode (crcFailed s p n) p n).crc = satAdd 0xFFFF (chnNode s p n).crc 1 ∧
    (chnNode (crcFailed s p n) p n).st = (chnNode s p n).st ∧ OnlyNode p n s (crcFailed s p n) := by
  obtain ⟨other, suspect⟩ := dupOnly_crcFailed s p n
  rw [suspect.crc, suspect.node, chnPort_setNode_same, chnNode_setNode_same]
  exact ⟨rfl, rfl, rfl, ((OnlyNode.refl ..).setNode _).dupOnly suspect⟩

section Waiting

variable (waits : (chnPort s p).req = some q) (on : portOn s p = true)

include waits on

theorem exec_chainResponse_crc (bad : r.crcOk = false) (single : q.addr ≠ 63) (noProbe : q.cmd ≠ 0x24) :
    exec (.chainResponse p r t) s = .next (crcFailed (portCrcBad (atTime s t) p) p q.addr) := by
  have waits' : (chnPort (atTime s t) p).req = some q := waits
  have on' : portOn (atTime s t) p = true := on
  show execChainResponse p r t s = _
  simp only [execChainResponse, waits', on', bad, single, noProbe, Bool.not_true, Bool.false_eq_true, if_false, Bool.not_false,
    if_true]
  rw [← waits']
  rfl

theorem exec_chainResponse_refused (sound : r.crcOk = true) (no : accepts s p q r = false) : exec (.chainResponse p r t) s =
    .next (setPort (atTime s t) p { chnPort s p with malformed := satAdd 0xFFFF (chnPort s p).malformed 1 }) := by
  have waits' : (chnPort (atTime s t) p).req = some q := waits
  have on' : portOn (atTime s t) p = true := on
  have no' : accepts (atTime s t) p q r = false := no
  show execChainResponse p r t s = _
  simp only [execChainResponse, waits', on', sound, no', Bool.not_true, Bool.false_eq_true, if_false]
  rw [← waits']
  rfl

theorem exec_chainResponse_accepted (sound : r.crcOk = true) (yes : accepts s p q r = true) :
    exec (.chainResponse p r t) s = .next (takeResponse (atTime s t) p q r t) := by
  have waits' : (chnPort (atTime s t) p).req = some q := waits
  have on' : portOn (atTime s t) p = true := on
  have yes' : accepts (atTime s t) p q r = true := yes
  show execChainResponse p r t s = _
  simp only [execChainResponse, waits', on', sound, yes', Bool.not_true, Bool.false_eq_true, if_false, if_true]
  rfl

end Waiting

/-- The state whose port waits for no response. -/
def reqClosed (s : State) (p : Nat) : State := setPort s p { chnPort s p with req := none }

theorem chnPort_reqClosed (s : State) (p : Nat) : chnPort (reqClosed s p) p = { chnPort s p with req := none } :=
  chnPort_setPort_same ..

theorem chnNode_reqClosed (s : State) (p m : Nat) : chnNode (reqClosed s p) p m = chnNode s p m :=
  chnNode_setPort_same s (x := { chnPort s p with req := none }) rfl m

theorem onlyNode_reqClosed (s : State) (p n : Nat) : OnlyNode p n s (reqClosed s p) := (OnlyNode.refl p n s).setPort rfl

theorem takeResponse_data (low : 0x10 ≤ q.cmd) (high : q.cmd ≤ 0x17) :
    takeResponse s p q r t = dataResponse (reqClosed s p) p q.addr (q.cmd - 0x10) r t := if_pos ⟨low, high⟩

/-! ### DATA (R317, R319–R321) -/

/-- A node with the status bits of its response. -/
def ChnNode.judged (x : ChnNode) (sts : Nat) : ChnNode :=
  { x with fault := bitOf sts 2, safe := bitOf sts 3, notcfg := bitOf sts 4 }

/-- The state whose node has rejected a request, which counts as a miss. -/
def dataRejected (s : State) (p n seg sts : Nat) : State :=
  let x := (chnNode s p n).judged sts
  chainMissed (setNode (setNode s p n x) p n { x with rej := satAdd 0xFFFF x.rej 1 }) p n seg

theorem dataResponse_notCfg (seg : Nat) (notCfg : bitOf r.sts 4 = true) : dataResponse s p n seg r t =
    if (chnNode (dataRejected s p n seg r.sts) p n).st = 3 ∨ (chnNode (dataRejected s p n seg r.sts) p n).st = 4 then
      setNode (dataRejected s p n seg r.sts) p n { chnNode (dataRejected s p n seg r.sts) p n with st := 1, step := 0 }
    else dataRejected s p n seg r.sts := by
  have x : chnNode (setNode s p n ((chnNode s p n).judged r.sts)) p n = (chnNode s p n).judged r.sts := chnNode_setNode_same ..
  unfold dataResponse dataRejected
  simp only [notCfg, Bool.true_or, if_true, Bool.true_and, decide_eq_true_eq]
  rw [ChnNode.judged, notCfg] at *
  rw [x]

/-- A node that has answered a segment in a frame; plain: the segment has no outputs. -/
def ChnNode.answered (x : ChnNode) (sts seg frame : Nat) (plain : Bool) : ChnNode :=
  { x.judged sts with
    consec := 0, missed := x.missed.filter (· ≠ seg), held := some frame, inSafe := x.inSafe && plain }

/-- The state whose node has answered a segment. -/
def dataNoted (s : State) (p n seg sts : Nat) : State :=
  setNode (setNode s p n ((chnNode s p n).judged sts)) p n
    ((chnNode s p n).answered sts seg s.grid.frame (decide ((nodeSeg s p n seg).outLen = 0)))

/-- The state that has collected the inputs of a segment. -/
def dataTaken (s : State) (p n seg : Nat) (r : ChnResp) (t : Nat) : State :=
  collectData (answeredValid (dataNoted s p n seg r.sts) p n) p n (nodeSeg s p n seg) r.data t

theorem dataResponse_taken (seg : Nat) (cfg : bitOf r.sts 4 = false) (sound : bitOf r.sts 1 = false) :
    dataResponse s p n seg r t =
      if ((chnNode (dataTaken s p n seg r t) p n).st = 4 ∧ (!(chnNode (dataTaken s p n seg r t) p n).needAdmit) = true) ∨
        ((!chnMaster (dataTaken s p n seg r t)) = true ∧
          ((chnNode (dataTaken s p n seg r t) p n).st = 1 ∨ (chnNode (dataTaken s p n seg r t) p n).st = 2))
      then nodeOk (dataTaken s p n seg r t) p n else dataTaken s p n seg r t := by
  have x : chnNode (setNode s p n ((chnNode s p n).judged r.sts)) p n = (chnNode s p n).judged r.sts := chnNode_setNode_same ..
  unfold dataResponse dataTaken dataNoted
  rw [ChnNode.answered] at *
  rw [ChnNode.judged, cfg] at *
  simp only [sound, Bool.or_self, Bool.false_eq_true, if_false]
  rw [x]
  rfl

/-- A port on which a node has answered: its run of failed CRCs ends, and the failures of others count (R323). -/
def ChnPort.answeredBy (q : ChnPort) (n : Nat) : ChnPort :=
  { q with
    okAddrs := if q.okAddrs.contains n then q.okAddrs else n :: q.okAddrs
    nodes := tmapAll {} (fun k x => if k = n then { x with crcRun := 0, crcOpen := 0 }
      else { x with crcRun := x.crcRun + x.crcOpen, crcOpen := 0 }) q.nodes }

theorem dupOnly_answeredValid (s : State) (p n : Nat) :
    DupOnly p (setPort s p ((chnPort s p).answeredBy n)) (answeredValid s p n) :=
  DupOnly.foldl _ (DupOnly.refl ..) fun v k => by
    split
    · exact DupOnly.refl ..
    · exact DupOnly.dupSuspect ..

theorem chnNode_answeredValid (rising : Tbl.rising (chnPort s p).nodes = true) :
    chnNode (answeredValid s p n) p n = { chnNode s p n with crcRun := 0, crcOpen := 0 } := by
  rw [(dupOnly_answeredValid s p n).node, chnNode, chnPort_setPort_same]
  unfold ChnPort.answeredBy
  rw [tget_tmapAll rising (if_pos rfl), if_pos rfl, chnNode]

theorem req_answeredValid (s : State) (p n : Nat) : (chnPort (answeredValid s p n) p).req = (chnPort s p).req := by
  rw [(dupOnly_answeredValid s p n).req, chnPort_setPort_same]
  rfl

/-- A node that is OK. -/
def ChnNode.ok (x : ChnNode) : ChnNode := if x.st = 3 then x else { x with st := 3, consec := 0, needAdmit := false }

theorem nodeOk_eq (s : State) (p n : Nat) : nodeOk s p n = if (chnNode s p n).st = 3 then s
    else raise (setNode s p n { chnNode s p n with st := 3, consec := 0, needAdmit := false })
      { blk := 0xC, ev := 2, info := [p, n] } := rfl

theorem chnNode_nodeOk (s : State) (p n : Nat) : chnNode (nodeOk s p n) p n = (chnNode s p n).ok := by
  rw [nodeOk_eq, ChnNode.ok]
  split
  · rfl
  · exact (chnNode_of_chn (raise_chn ..) p n).trans (chnNode_setNode_same ..)

theorem req_nodeOk (s : State) (p n : Nat) : (chnPort (nodeOk s p n) p).req = (chnPort s p).req := by
  rw [nodeOk_eq]
  split
  · rfl
  · rw [chnPort_congr (raise_chn ..), chnPort_setNode_same]

theorem OnlyNode.nodeOk {u : State} (h : OnlyNode p n s u) : OnlyNode p n s (nodeOk u p n) := by
  rw [nodeOk_eq]
  split
  · exact h
  · exact (h.setNode _).of_chn (raise_chn ..)

/-- What an accepted DATA response leaves. -/
structure DataTaken (s u : State) (p n seg sts : Nat) : Prop where
  req : (chnPort u p).req = (chnPort s p).req
  consec : (chnNode u p n).consec = 0
  held : (chnNode u p n).held = some s.grid.frame
  fault : (chnNode u p n).fault = bitOf sts 2
  safe : (chnNode u p n).safe = bitOf sts 3
  missed : (chnNode u p n).missed = (chnNode s p n).missed.filter (· ≠ seg)
  st : (chnNode s p n).st = 3 ∨ (chnNode s p n).st = 4 ∧ (chnNode s p n).needAdmit = false → (chnNode u p n).st = 3

theorem chnNode_dataTaken (seg : Nat) (rising : Tbl.rising (chnPort s p).nodes = true) : chnNode (dataTaken s p n seg r t) p n =
    { (chnNode s p n).answered r.sts seg s.grid.frame (decide ((nodeSeg s p n seg).outLen = 0)) with
      crcRun := 0, crcOpen := 0 } := by
  have chn : (dataTaken s p n seg r t).chn = (answeredValid (dataNoted s p n seg r.sts) p n).chn :=
    (collectData_keeps ..).same .chn rfl
  have rising' : Tbl.rising (chnPort (dataNoted s p n seg r.sts) p).nodes = true := by
    rw [dataNoted, chnPort_setNode_same, chnPort_setNode_same]
    exact Tbl.rising_tset (Tbl.rising_tset rising _ _) _ _
  rw [chnNode_of_chn chn, chnNode_answeredValid rising', dataNoted, chnNode_setNode_same]

theorem req_dataTaken (s : State) (p n seg : Nat) (r : ChnResp) (t : Nat) :
    (chnPort (dataTaken s p n seg r t) p).req = (chnPort s p).req := by
  have chn : (dataTaken s p n seg r t).chn = (answeredValid (dataNoted s p n seg r.sts) p n).chn :=
    (collectData_keeps ..).same .chn rfl
  rw [chnPort_congr chn, req_answeredValid, dataNoted, chnPort_setNode_same, chnPort_setNode_same]

theorem dataTaken_dataResponse (seg : Nat) (cfg : bitOf r.sts 4 = false) (sound : bitOf r.sts 1 = false)
    (rising : Tbl.rising (chnPort s p).nodes = true) : DataTaken s (dataResponse s p n seg r t) p n seg r.sts := by
  have node := chnNode_dataTaken (r := r) (t := t) (n := n) seg rising
  have req := req_dataTaken s p n seg r t
  rw [dataResponse_taken seg cfg sound]
  split
  · have node' := chnNode_nodeOk (dataTaken s p n seg r t) p n
    rw [node, ChnNode.ok] at node'
    have req' := (req_nodeOk (dataTaken s p n seg r t) p n).trans req
    split at node'
    · next ok =>
      exact ⟨req', by rw [node']; rfl, by rw [node']; rfl, by rw [node']; rfl, by rw [node']; rfl, by rw [node']; rfl,
        fun _ => by rw [node']; exact ok⟩
    · exact ⟨req', by rw [node'], by rw [node']; rfl, by rw [node']; rfl, by rw [node']; rfl, by rw [node']; rfl,
        fun _ => by rw [node']⟩
  · next still =>
    refine ⟨req, by rw [node]; rfl, by rw [node]; rfl, by rw [node]; rfl, by rw [node]; rfl, by rw [node]; rfl, fun was => ?_⟩
    rw [node] at still ⊢
    rcases was with ok | ⟨lost, may⟩
    · exact ok
    · exact absurd (.inl ⟨lost, by simp [ChnNode.answered, ChnNode.judged, may]⟩) still

/-- The inputs of a segment are those of the directory. -/
theorem segInputs_congr {u : State} (cfg : u.cfg = s.cfg) (p n : Nat) (g : ChnSeg) : segInputs u p n g = segInputs s p n g := by
  have only : segInputs u p n g = segInputs { s with cfg := u.cfg } p n g := rfl
  rw [only, cfg]

/-- With no receive connections the data of a segment is that of its inputs, and of a segment with one tetrad that tetrad. -/
theorem collectData_one {g : ChnSeg} {bs : List Byte} {ep i : Nat} (noRx : s.cfg.saf.rx = [])
    (one : segInputs s p n g = [(ep, 0, i)]) : collectData s p n g bs t =
      collectOwn s ep (BitVec.ofNat 4 (leAt bs (i / 2 - g.inOfs) 1 / 16 ^ (i % 2))) t := by
  have noRx' (v : Tetrad) : (collectOwn s ep v t).cfg.saf.rx = [] :=
    (congrArg (fun c : Image => c.saf.rx) ((collectOwn_keeps ..).same .cfg rfl)).trans noRx
  unfold collectData
  rw [one, List.foldl_cons, List.foldl_nil]
  simp only [chnByte]
  rw [noRx', List.foldl_nil]

/-- What is collected for the only input of a segment, a tetrad (R317). -/
theorem got_dataTaken {seg ep i : Nat} (noRx : s.cfg.saf.rx = [])
    (one : segInputs s p n (nodeSeg s p n seg) = [(ep, 0, i)]) :
    tget none (collectedFor s (dataTaken s p n seg r t) t).got ep = some
      { tet := BitVec.ofNat 4 (leAt r.data (i / 2 - (nodeSeg s p n seg).inOfs) 1 / 16 ^ (i % 2)), stamp := t
        qual := Config.sideQual (BitVec.ofNat 4 (leAt r.data (i / 2 - (nodeSeg s p n seg).inOfs) 1 / 16 ^ (i % 2))).toNat } := by
  have before : Keeps 0x80000 s (answeredValid (dataNoted s p n seg r.sts) p n) :=
    Keeps.step (answeredValid_keeps ..) rfl (Keeps.step (setNode_keeps ..) rfl (setNode_keeps ..))
  have cfg : (answeredValid (dataNoted s p n seg r.sts) p n).cfg = s.cfg := before.same .cfg rfl
  have inputs : segInputs (answeredValid (dataNoted s p n seg r.sts) p n) p n (nodeSeg s p n seg) = [(ep, 0, i)] := by
    rw [← one]
    exact segInputs_congr cfg ..
  have noRx' : (answeredValid (dataNoted s p n seg r.sts) p n).cfg.saf.rx = [] := by rw [cfg, noRx]
  have data := collectData_one (bs := r.data) (t := t) noRx' inputs
  have grid : (answeredValid (dataNoted s p n seg r.sts) p n).grid = s.grid := before.same .grid rfl
  rw [dataTaken, data, ← collectedFor_congr grid rfl]
  exact got_collectOwn ..

theorem st_ok (x : ChnNode) : x.ok.st = 3 := by
  unfold ChnNode.ok
  split
  · assumption
  · rfl

theorem sig_dataResponse (seg : Nat) (cfg : bitOf r.sts 4 = false) (sound : bitOf r.sts 1 = false) :
    (dataResponse s p n seg r t).sig = (dataTaken s p n seg r t).sig := by
  rw [dataResponse_taken seg cfg sound]
  split
  · exact (nodeOk_keeps ..).same .sig rfl
  · rfl

/-- A node that is not configured counts the rejected request and the miss, and is absent again (R321). -/
theorem chnNode_dataResponse_notCfg (seg : Nat) (notCfg : bitOf r.sts 4 = true) :
    (chnNode (dataResponse s p n seg r t) p n).rej = satAdd 0xFFFF (chnNode s p n).rej 1 ∧
    (chnNode (dataResponse s p n seg r t) p n).miss = satAdd 0xFFFF (chnNode s p n).miss 1 ∧
    ((chnNode s p n).st = 3 → (chnNode (dataResponse s p n seg r t) p n).st = 1) := by
  have missed := (missed_chainMissed (setNode (setNode s p n ((chnNode s p n).judged r.sts)) p n { (chnNode s p n).judged r.sts with
    rej := satAdd 0xFFFF ((chnNode s p n).judged r.sts).rej 1 }) p n seg).node
  rw [chnNode_setNode_same] at missed
  rw [dataResponse_notCfg seg notCfg]
  have node : chnNode (dataRejected s p n seg r.sts) p n = _ := missed
  split
  · rw [chnNode_setNode_same, node]
    exact ⟨rfl, rfl, fun _ => rfl⟩
  · next still =>
    rw [node] at still ⊢
    refine ⟨rfl, rfl, fun ok => absurd ?_ still⟩
    have was : ((chnNode s p n).judged r.sts).st = 3 := ok
    simp only [was, true_and]
    split
    · exact .inr rfl
    · exact .inl rfl

/-! ### IDENT, DELAY and CONFIG (R314, R321) -/

theorem chnNode_nodeMismatch (s : State) (p n : Nat) : chnNode (nodeMismatch s p n) p n = { chnNode s p n with st := 6 } :=
  (chnNode_of_chn (raise_chn ..) p n).trans (chnNode_setNode_same ..)

theorem OnlyNode.nodeMismatch {u : State} (h : OnlyNode p n s u) : OnlyNode p n s (nodeMismatch u p n) :=
  (h.setNode _).of_chn (raise_chn ..)

theorem takeResponse_ident (cmd : q.cmd = 0x20) (single : q.addr ≠ 63) :
    takeResponse s p q r t = identAnswered (reqClosed s p) p q.addr r.data := by
  unfold takeResponse
  simp only [cmd, single, if_false]
  rfl

theorem takeResponse_delay (cmd : q.cmd = 0x21) :
    takeResponse s p q r t = delayAnswered (reqClosed s p) p q.addr q.sentAt r.sdAt := by
  unfold takeResponse
  simp only [cmd]
  rfl

theorem takeResponse_config (cmd : q.cmd = 0x22) :
    takeResponse s p q r t = configAnswered (reqClosed s p) p q.addr r := by
  unfold takeResponse
  simp only [cmd]
  rfl

/-- A node that has told what it is. -/
def ChnNode.identified (x : ChnNode) (bs : List Byte) : ChnNode :=
  { x with serial := leAt bs 8 8, elast := leAt bs 26 1, tnin := leAt bs 28 2, tnout := leAt bs 30 2 }

/-- Step 1 of the admission of an absent node: it goes on to its delays, or is MISMATCH (R321). -/
theorem identAnswered_absent {bs : List Byte} (node : isNode s p n = true) (epoch : (chnPort s p).epoch ≠ none)
    (st : (chnNode s p n).st = 1) (step : (chnNode s p n).step = 0) : identAnswered s p n bs =
      if identOk s p n bs then
        setNode s p n { (chnNode s p n).identified bs with st := 2, step := 1, sum := 0, delays := 0 }
      else nodeMismatch (setNode s p n ((chnNode s p n).identified bs)) p n := by
  have known : ¬ ((chnPort s p).epoch = none ∧ bitOf (leAt bs 27 1) 0 = true) := fun h => epoch h.1
  unfold identAnswered
  simp only [known, if_false, node, Bool.not_true, Bool.false_eq_true]
  exact if_pos ⟨.inl st, step⟩

theorem identAnswered_leaves {bs : List Byte} (node : isNode s p n = true) (epoch : (chnPort s p).epoch ≠ none)
    (st : (chnNode s p n).st = 1) (step : (chnNode s p n).step = 0) :
    (chnNode (identAnswered s p n bs) p n).serial = leAt bs 8 8 ∧
    (chnNode (identAnswered s p n bs) p n).st = (if identOk s p n bs then 2 else 6) ∧
    (identOk s p n bs = true → (chnNode (identAnswered s p n bs) p n).step = 1) ∧
    OnlyNode p n s (identAnswered s p n bs) := by
  rw [identAnswered_absent node epoch st step]
  by_cases known : identOk s p n bs = true
  · rw [if_pos known, if_pos known, chnNode_setNode_same]
    exact ⟨rfl, rfl, fun _ => rfl, (OnlyNode.refl ..).setNode _⟩
  · rw [if_neg known, if_neg known, chnNode_nodeMismatch, chnNode_setNode_same]
    exact ⟨rfl, rfl, fun yes => absurd yes known, ((OnlyNode.refl ..).setNode _).nodeMismatch⟩

/-- The sum of a node's delay measurements with the last one (R314). -/
def delaySum (s : State) (p n sentAt sdAt : Nat) : Int := (chnNode s p n).sum + ((sdAt : Int) - sentAt - 1500)

theorem delayAnswered_last {sentAt sdAt : Nat} (step : (chnNode s p n).step = 1) (count : (chnNode s p n).delays = 15)
    (low : 0 ≤ delaySum s p n sentAt sdAt) (high : delaySum s p n sentAt sdAt ≤ 16000) :
    delayAnswered s p n sentAt sdAt = setNode s p n { chnNode s p n with
      sum := delaySum s p n sentAt sdAt, delays := 16, dly := ((delaySum s p n sentAt sdAt + 16) / 32).toNat, step := 2 } := by
  unfold delaySum at *
  unfold delayAnswered
  simp only [step, count]
  rw [if_neg (by omega), if_neg (by omega), if_neg (by omega), if_neg (by omega)]

theorem armedCfg_none (unarmed : s.olc.stage ≠ 3) (p n : Nat) : armedCfg s p n = none := if_neg unarmed

/-- Step 3 of an admission: the node echoes the CRC of its CONFIG and is OK, or is MISMATCH (R321). -/
theorem configAnswered_admits (unarmed : s.olc.stage ≠ 3) (step : (chnNode s p n).step = 2) (len : r.data.length = 4)
    (sound : bitOf r.sts 1 = false) : configAnswered s p n r =
      if ofLeBytes r.data = (crc32c (configPayload (nodeCfg s p n) (chnNode s p n).dly 0)).toNat then
        nodeOk (setNode s p n { chnNode s p n with step := 0, held := some s.grid.frame }) p n
      else nodeMismatch s p n := by
  have sends : configNow s p n = configPayload (nodeCfg s p n) (chnNode s p n).dly 0 := by
    simp only [configNow, armedCfg_none unarmed]
  unfold configAnswered
  simp [armedCfg_none unarmed, step, len, sound, sends]

theorem configAnswered_leaves (unarmed : s.olc.stage ≠ 3) (step : (chnNode s p n).step = 2) (len : r.data.length = 4)
    (sound : bitOf r.sts 1 = false) : (chnNode (configAnswered s p n r) p n).st =
      (if ofLeBytes r.data = (crc32c (configPayload (nodeCfg s p n) (chnNode s p n).dly 0)).toNat then 3 else 6) ∧
    OnlyNode p n s (configAnswered s p n r) := by
  rw [configAnswered_admits unarmed step len sound]
  split
  · refine ⟨?_, ((OnlyNode.refl ..).setNode _).nodeOk⟩
    rw [chnNode_nodeOk, st_ok]
  · refine ⟨?_, (OnlyNode.refl ..).nodeMismatch⟩
    rw [chnNode_nodeMismatch]

/-! ### Epochs, holds and heard requests (R320, R325, R326) -/

theorem chnPort_newEpoch (s : State) (p e : Nat) :
    chnPort (newEpoch s p e) p = { chnPort s p with epoch := some (e % 256), mram := e % 256 } :=
  (chnPort_congr (raise_chn ..) p).trans (chnPort_setPort_same ..)

theorem exec_epochTimeout_due (master : chnMaster s = true) (on : portOn s p = true) (none : (chnPort s p).epoch = none)
    (due : (chnPort s p).since + 24 ≤ s.grid.frame) :
    exec (.epochTimeout p t) s = .next (newEpoch (atTime s t) p ((chnPort s p).mram + 1)) :=
  if_pos ⟨master, on, none, due⟩

theorem exec_chainUnblock_taken {c : Cmd} (h : takes s Reg.CHN_CMD 1 c) (port : p = field (rd s Reg.CHN_PORT_SEL) 1 0)
    (node : n = field (rd s Reg.CHN_NODE_SEL) 5 0) : exec (.chainUnblock c) s = .next (
      if (chnNode s p n).st = 5 ∨ (chnNode s p n).st = 6 then
        setNode (accepted (touch s c.session) Reg.CHN_CMD c) p n { chnNode s p n with st := 1, step := 0, crcRun := 0, crcOpen := 0 }
      else accepted (touch s c.session) Reg.CHN_CMD c) := by
  subst port node
  exact congrArg Host.Outcome.next (keyed_of_takes h _)

theorem exec_nodeHoldExpiry_due {f : Nat} (held : (chnNode s p n).held = some f) (due : f + (nodeCfg s p n).hold ≤ s.grid.frame) :
    exec (.nodeHoldExpiry p n t) s = .next (setNode (atTime s t) p n { chnNode s p n with inSafe := true }) := by
  have held' : (chnNode (atTime s t) p n).held = some f := held
  show execNodeHoldExpiry p n t s = _
  simp only [execNodeHoldExpiry, held']
  refine (if_pos due).trans ?_
  rw [← held']
  rfl

theorem exec_chainRequestHeard_sync {addr e num len : Nat} (listens : chnMaster s = false) (on : portOn s p = true) :
    exec (.chainRequestHeard p addr e 1 num len t) s =
      .next (setPort (atTime s t) p { chnPort s p with heard := some (e % 256), syncOk := true }) := by
  refine (if_neg (by simp [show chnMaster (atTime s t) = false from listens, show portOn (atTime s t) p = true from on])).trans ?_
  simp only [Nat.reduceLeDiff, false_and, if_false, decide_true, Bool.true_or, if_true, Bool.or_true]
  rfl

theorem exec_chainRequestHeard_data {addr e cmd num len : Nat} (listens : chnMaster s = false) (on : portOn s p = true)
    (low : 0x10 ≤ cmd) (high : cmd ≤ 0x17) (node : isNode s p addr = true) :
    exec (.chainRequestHeard p addr e cmd num len t) s = .next (setPort (atTime s t) p { chnPort s p with
      heard := some (e % 256)
      req := some { addr := addr, epoch := e % 256, cmd := cmd, fnum := num, sentAt := reqEnd t len } }) := by
  have node' : isNode (atTime s t) p addr = true := node
  have other : cmd ≠ 1 := by omega
  refine (if_neg (by simp [show chnMaster (atTime s t) = false from listens, show portOn (atTime s t) p = true from on])).trans ?_
  simp only [low, high, node', other, and_self, if_true, decide_true, decide_false, Bool.or_true, Bool.and_self, Bool.true_or,
    Bool.or_false]
  rfl

end Response

/-- Settles O42: a response is judged by the `exec_chainResponse_` lemmas, and what an accepted one brings stands in
`dataTaken_dataResponse` and `missed_chainMissed` and in the equations of the admission's steps. -/
theorem chainResponses : Obligations.ChainResponses := by
  intro s p n t ep i f r q c k x seg others
  refine ⟨fun waits addr => ⟨fun on sound yes =>
      ⟨fun low high cfg noErr rising => ?data, fun low high notCfg => ?rejected, fun cmd single node epoch st step => ?ident,
        fun cmd step count low high => ?delay, fun cmd unarmed step st len noErr => ?config⟩,
      fun on bad single noProbe => ?crc, fun on sound no => ?malformed, fun due low high => ?miss⟩,
    fun master on none due => ?epoch, fun h port node => ?unblock, fun held due => ?hold, fun hears on => ?sync,
    fun hears on node low high => ?heard⟩
  case data =>
    subst addr
    have run := exec_chainResponse_accepted (t := t) waits on sound yes
    rw [takeResponse_data low high] at run
    have taken := dataTaken_dataResponse (s := reqClosed (atTime s t) p) (t := t) (n := q.addr) seg cfg noErr
      (by rw [chnPort_reqClosed]; exact rising)
    have node : chnNode (reqClosed (atTime s t) p) p q.addr = x := chnNode_reqClosed ..
    refine ⟨_, run, taken.req.trans (by rw [chnPort_reqClosed]), taken.consec, taken.held, taken.fault, taken.safe,
      taken.missed.trans (by rw [node]), node ▸ taken.st, fun noRx one => ?_⟩
    have got := got_dataTaken (s := reqClosed (atTime s t) p) (t := t) (r := r) noRx ((segInputs_congr rfl ..).trans one)
    have sig := sig_dataResponse (s := reqClosed (atTime s t) p) (p := p) (t := t) (n := q.addr) seg cfg noErr
    rw [← collectedFor_congr rfl sig] at got
    exact congrArg (Option.map _) got
  case rejected =>
    subst addr
    have run := exec_chainResponse_accepted (t := t) waits on sound yes
    rw [takeResponse_data low high] at run
    obtain ⟨rej, miss, st⟩ := chnNode_dataResponse_notCfg (s := reqClosed (atTime s t) p) (p := p) (n := q.addr) (t := t) seg notCfg
    rw [chnNode_reqClosed] at rej miss st
    exact ⟨_, run, rej, miss, st⟩
  case ident =>
    subst addr
    have run := exec_chainResponse_accepted (t := t) waits on sound yes
    rw [takeResponse_ident cmd single] at run
    have node' : chnNode (reqClosed (atTime s t) p) p q.addr = x := chnNode_reqClosed ..
    obtain ⟨serial, state, next, only⟩ := identAnswered_leaves (s := reqClosed (atTime s t) p) (bs := r.data) node
      (by rwa [chnPort_reqClosed]) (by rw [node', st]) (by rw [node', step])
    exact ⟨_, run, serial, state, next, ((onlyNode_reqClosed ..).trans only).all⟩
  case delay =>
    subst addr
    have run := exec_chainResponse_accepted (t := t) waits on sound yes
    have node : chnNode (reqClosed (atTime s t) p) p q.addr = x := chnNode_reqClosed ..
    have sum : delaySum (reqClosed (atTime s t) p) p q.addr q.sentAt r.sdAt = delaySum s p q.addr q.sentAt r.sdAt := by
      rw [delaySum, node, delaySum]
    rw [takeResponse_delay cmd, delayAnswered_last (by rw [node, step]) (by rw [node, count]) (by rw [sum]; exact low)
      (by rw [sum]; exact high), sum] at run
    refine ⟨_, run, ?_, ?_, ((onlyNode_reqClosed (atTime s t) p q.addr).setNode _).all⟩
    · rw [chnNode_setNode_same]
      rfl
    · rw [chnNode_setNode_same]
  case config =>
    subst addr
    have run := exec_chainResponse_accepted (t := t) waits on sound yes
    have node : chnNode (reqClosed (atTime s t) p) p q.addr = x := chnNode_reqClosed ..
    rw [takeResponse_config cmd] at run
    obtain ⟨state, only⟩ := configAnswered_leaves (s := reqClosed (atTime s t) p) unarmed (by rw [node, step]) len noErr
    rw [node] at state
    exact ⟨_, run, state, ((onlyNode_reqClosed ..).trans only).all⟩
  case crc =>
    subst addr
    obtain ⟨port, node, st, only⟩ := crcFailed_leaves (portCrcBad (atTime s t) p) p q.addr
    rw [chnPort_portCrcBad] at port
    rw [chnNode_portCrcBad] at node st
    exact ⟨_, exec_chainResponse_crc waits on bad single noProbe, port, node, st, (crcFailed_keeps ..).same .sig rfl,
      ((onlyNode_portCrcBad ..).trans only).all⟩
  case malformed =>
    exact ⟨_, exec_chainResponse_refused waits on sound no, chnPort_setPort_same .., rfl,
      fun o other => chnPort_setPort_other _ _ other⟩
  case miss =>
    subst addr
    have missed := missed_chainMissed (reqClosed (atTime s t) p) p q.addr seg
    have node : chnNode (reqClosed (atTime s t) p) p q.addr = x := chnNode_reqClosed ..
    have counted := missed.node
    rw [node] at counted
    refine ⟨_, exec_chainMiss_data waits due low high, missed.req.trans (by rw [chnPort_reqClosed]),
      missed.count.trans (by rw [chnPort_reqClosed]; rfl), ?_, ?_, missed.shown, ?_,
      fun m other => (missed.others.nodes m other).trans (chnNode_reqClosed ..),
      fun o other => (missed.others.ports o other).trans ((onlyNode_reqClosed (atTime s t) p q.addr).ports o other)⟩
    · exact congrArg ChnNode.miss counted
    · exact congrArg ChnNode.consec counted
    · exact congrArg ChnNode.st counted
  case epoch =>
    exact ⟨_, exec_epochTimeout_due master on none due, chnPort_newEpoch .., flag_raise_chn _ rfl rfl (by decide)⟩
  case unblock =>
    have same : (accepted (touch s c.session) Reg.CHN_CMD c).chn = s.chn := accepted_chn ..
    have kept := (OnlyNode.refl p n s).of_chn same
    have regs : onlyRegs [Reg.REC_EVT_STAT] s (accepted (touch s c.session) Reg.CHN_CMD c) :=
      onlyRegs_record _ (fun _ _ => rfl) List.mem_cons_self
    have run := exec_chainUnblock_taken h port node
    by_cases blocked : x.st = 5 ∨ x.st = 6
    · rw [if_pos blocked] at run ⊢
      exact ⟨_, run, (kept.setNode _).all, regs, chnNode_setNode_same ..⟩
    · rw [if_neg blocked] at run ⊢
      exact ⟨_, run, kept.all, regs, chnNode_of_chn same ..⟩
  case hold =>
    exact ⟨_, exec_nodeHoldExpiry_due held due, chnNode_setNode_same .., ((OnlyNode.refl p n (atTime s t)).setNode _).all,
      Keeps.onlyParts (Keeps.step (setNode_keeps ..) rfl (Keeps.mono (atTime_keeps s t) rfl))⟩
  case sync =>
    exact ⟨_, exec_chainRequestHeard_sync hears on, chnPort_setPort_same .., fun o other => chnPort_setPort_other _ _ other,
      Keeps.onlyParts (Keeps.step (setPort_keeps ..) rfl (Keeps.mono (atTime_keeps s t) rfl))⟩
  case heard =>
    have port := chnPort_setPort_same (atTime s t) p { chnPort s p with
      heard := some (f % 256), req := some { addr := n, epoch := f % 256, cmd := q.cmd, fnum := i, sentAt := reqEnd t ep } }
    exact ⟨_, exec_chainRequestHeard_data hears on low high node, congrArg ChnPort.heard port, congrArg ChnPort.req port,
      chnNode_setPort_same (atTime s t) rfl⟩

end Sys2Proof.Machine
end

section
/-! Digital inputs and outputs, their faults, the output watchdog and the release (R333–R338, R268): O36. -/

namespace Sys2Proof.Machine

open Sys2Proof

/-! ### Registers that change -/

theorem onlyRegs_trans {l : List Nat} {s t u : State} (h : onlyRegs l s t) (k : onlyRegs l t u) : onlyRegs l s u :=
  fun a out => (k a out).trans (h a out)

theorem onlyRegs_mono {l m : List Nat} {s t : State} (h : onlyRegs l s t) (sub : l ⊆ m) : onlyRegs m s t :=
  fun a out => h a fun mem => out (sub mem)

theorem onlyRegs_raise {l : List Nat} {s t : State} (r : RecReq) (e : Nat) (h : onlyRegs l s t) (evt : evtStat r.blk e ∈ l)
    (log : Reg.REC_EVT_STAT ∈ l) : onlyRegs l s (raise t r e) :=
  onlyRegs_record _ (onlyRegs_wr h evt) log

/-- The registers that show the common fault bits (R341). -/
def lioShown : List Nat := [Reg.LIO_STAT, Reg.LIO_EVT_STAT, Reg.REC_EVT_STAT]

theorem onlyRegs_lioFaults (s : State) : onlyRegs lioShown s (lioFaults s) := by
  have stat : Reg.LIO_STAT ∈ lioShown := List.mem_cons_self
  have evt : Reg.LIO_EVT_STAT ∈ lioShown := List.mem_cons_of_mem _ List.mem_cons_self
  have log : Reg.REC_EVT_STAT ∈ lioShown := List.mem_cons_of_mem _ (List.mem_cons_of_mem _ List.mem_cons_self)
  unfold lioFaults
  extract_lets di dof was s1 s2
  have h1 : onlyRegs lioShown s s1 := onlyRegs_wrField (onlyRegs_wrField (onlyRegs_refl _ _) stat) stat
  have h2 : onlyRegs lioShown s s2 := by
    unfold s2
    split
    · exact onlyRegs_raise _ _ h1 evt log
    · exact h1
  split
  · exact onlyRegs_raise _ _ h2 evt log
  · exact h2

theorem lio_lioFaults (s : State) : (lioFaults s).lio = s.lio := (lioFaults_keeps s).same .lio rfl

theorem onlyRegs_faultEnd (s : State) (k : Nat) (r : Option FaultRec) : onlyRegs [Reg.REC_EVT_STAT] s (faultEnd s k r) := by
  unfold faultEnd
  split
  · exact onlyRegs_record _ (onlyRegs_refl _ _) List.mem_cons_self
  · exact onlyRegs_refl _ _

theorem lio_faultEnd (s : State) (k : Nat) (r : Option FaultRec) : (faultEnd s k r).lio = s.lio :=
  (faultEnd_keeps s k r).same .lio rfl

/-! ### The tables of the terminals -/

theorem diOf_setDi (s : State) (n : Nat) (x : DiState) (m : Nat) : diOf (setDi s n x) m = if m = n then x else diOf s m :=
  tget_tset ..

theorem doOf_setDo (s : State) (n : Nat) (x : DoState) (m : Nat) : doOf (setDo s n x) m = if m = n then x else doOf s m :=
  tget_tset ..

theorem grpOf_setGrp (s : State) (n : Nat) (x : DoGroup) (m : Nat) : grpOf (setGrp s n x) m = if m = n then x else grpOf s m :=
  tget_tset ..

theorem diOf_congr {s u : State} (h : u.lio = s.lio) (n : Nat) : diOf u n = diOf s n := by rw [diOf, h]; rfl
theorem doOf_congr {s u : State} (h : u.lio = s.lio) (n : Nat) : doOf u n = doOf s n := by rw [doOf, h]; rfl
theorem grpOf_congr {s u : State} (h : u.lio = s.lio) (n : Nat) : grpOf u n = grpOf s n := by rw [grpOf, h]; rfl

/-- The registers that a fault of an output writes. -/
def doRegs : List Nat := Reg.LIO_DO_OVL_CNT :: lioShown

theorem onlyRegs_lioFaults_of {s t : State} (h : onlyRegs doRegs s t) : onlyRegs doRegs s (lioFaults t) :=
  onlyRegs_trans h (onlyRegs_mono (onlyRegs_lioFaults t) (List.subset_cons_self ..))

theorem onlyRegs_recorded {s t : State} (h : onlyRegs [Reg.REC_EVT_STAT] s t) : onlyRegs doRegs s t :=
  onlyRegs_mono h (by decide)

/-- A command has left a channel as x, and every other channel and group alone. -/
structure DoLeft (s u : State) (n : Nat) (x : DoState) : Prop where
  own : doOf u n = x
  others : ∀ m, m ≠ n → doOf u m = doOf s m
  groups : ∀ m, grpOf u m = grpOf s m
  regs : onlyRegs doRegs s u

/-- A command has left a group as x, and every other group and every channel alone. -/
structure GrpLeft (s u : State) (n : Nat) (x : DoGroup) : Prop where
  own : grpOf u n = x
  others : ∀ m, m ≠ n → grpOf u m = grpOf s m
  channels : ∀ m, doOf u m = doOf s m
  regs : onlyRegs doRegs s u

section Left

variable {s u v : State} {n : Nat} {x : DoState} {y : DoGroup}

theorem DoLeft.keeps (h : DoLeft s u n x) : (∀ m, m ≠ n → doOf u m = doOf s m) ∧ (∀ m, grpOf u m = grpOf s m) ∧
    onlyRegs [Reg.LIO_DO_OVL_CNT, Reg.LIO_STAT, Reg.LIO_EVT_STAT, Reg.REC_EVT_STAT] s u :=
  ⟨h.others, h.groups, h.regs⟩

theorem GrpLeft.keeps (h : GrpLeft s u n y) : (∀ m, m ≠ n → grpOf u m = grpOf s m) ∧ (∀ m, doOf u m = doOf s m) ∧
    onlyRegs [Reg.LIO_DO_OVL_CNT, Reg.LIO_STAT, Reg.LIO_EVT_STAT, Reg.REC_EVT_STAT] s u :=
  ⟨h.others, h.channels, h.regs⟩

theorem DoLeft.setDo (lio : v.lio = s.lio) (regs : onlyRegs doRegs s v) : DoLeft s (setDo v n x) n x where
  own := (doOf_setDo ..).trans (if_pos rfl)
  others m other := ((doOf_setDo ..).trans (if_neg other)).trans (doOf_congr lio m)
  groups m := grpOf_congr (u := v) lio m
  regs := regs

theorem GrpLeft.setGrp (lio : v.lio = s.lio) (regs : onlyRegs doRegs s v) : GrpLeft s (setGrp v n y) n y where
  own := (grpOf_setGrp ..).trans (if_pos rfl)
  others m other := ((grpOf_setGrp ..).trans (if_neg other)).trans (grpOf_congr lio m)
  channels m := doOf_congr (u := v) lio m
  regs := regs

theorem DoLeft.of_lio (h : DoLeft s u n x) (lio : v.lio = u.lio) (regs : onlyRegs doRegs u v) : DoLeft s v n x where
  own := (doOf_congr lio n).trans h.own
  others m other := (doOf_congr lio m).trans (h.others m other)
  groups m := (grpOf_congr lio m).trans (h.groups m)
  regs := onlyRegs_trans h.regs regs

theorem GrpLeft.of_lio (h : GrpLeft s u n y) (lio : v.lio = u.lio) (regs : onlyRegs doRegs u v) : GrpLeft s v n y where
  own := (grpOf_congr lio n).trans h.own
  others m other := (grpOf_congr lio m).trans (h.others m other)
  channels m := (doOf_congr lio m).trans (h.channels m)
  regs := onlyRegs_trans h.regs regs

theorem DoLeft.lioFaults (h : DoLeft s u n x) : DoLeft s (lioFaults u) n x :=
  h.of_lio (lio_lioFaults u) (onlyRegs_lioFaults_of (onlyRegs_refl _ _))

theorem GrpLeft.lioFaults (h : GrpLeft s u n y) : GrpLeft s (lioFaults u) n y :=
  h.of_lio (lio_lioFaults u) (onlyRegs_lioFaults_of (onlyRegs_refl _ _))

theorem DoLeft.faultEnd (h : DoLeft s u n x) (k : Nat) (r : Option FaultRec) : DoLeft s (faultEnd u k r) n x :=
  h.of_lio (lio_faultEnd u k r) (onlyRegs_recorded (onlyRegs_faultEnd u k r))

theorem GrpLeft.faultEnd (h : GrpLeft s u n y) (k : Nat) (r : Option FaultRec) : GrpLeft s (faultEnd u k r) n y :=
  h.of_lio (lio_faultEnd u k r) (onlyRegs_recorded (onlyRegs_faultEnd u k r))

theorem onlyRegs_atTime (l : List Nat) (s : State) (t : Nat) : onlyRegs l s (atTime s t) := fun _ _ => rfl

/-- A channel set after the sequencer has taken an instant. -/
theorem DoLeft.at (s : State) (n t : Nat) (x : DoState) : DoLeft s (Machine.setDo (atTime s t) n x) n x :=
  .setDo rfl (onlyRegs_atTime doRegs s t)

/-- A group set after the sequencer has taken an instant. -/
theorem GrpLeft.at (s : State) (n t : Nat) (y : DoGroup) : GrpLeft s (Machine.setGrp (atTime s t) n y) n y :=
  .setGrp rfl (onlyRegs_atTime doRegs s t)

/-- A channel that is switched off is OFF (R337). -/
theorem doOut_of_off (h : DoLeft s u n x) (off : x.off = true) : doOut u n = false := by
  unfold doOut
  split
  · rfl
  · rw [h.own, off, Bool.not_true, Bool.and_false, Bool.false_and]

/-- The channels of a group that is switched off are OFF (R337). -/
theorem doOut_of_group_off (h : GrpLeft s u n y) (off : y.off = true) {ch : Nat} (mine : ch / 8 = n) : doOut u ch = false := by
  unfold doOut
  split
  · rfl
  · rw [mine, h.own, off, Bool.not_true, Bool.and_false]

end Left

section Command

variable {s : State} {n t : Nat}

/-! ### Digital inputs (R333, R334) -/

theorem exec_diChange_new {cur mv : Nat} (low : n < 32) (new : diClass (diCfg s n).wbrk (diOf s n).cls cur mv ≠ (diOf s n).cls) :
    exec (.diChange n cur mv t) s = .next (setDi (atTime s t) n { diOf s n with
      cls := diClass (diCfg s n).wbrk (diOf s n).cls cur mv
      since := if diClass (diCfg s n).wbrk (diOf s n).cls cur mv = (diOf s n).deb then none else some t }) :=
  if_neg fun no => no.elim (Nat.not_le.2 low) new

/-- The state in which an input's class holds. -/
def debounced (s : State) (n : Nat) : State := setDi s n { diOf s n with deb := (diOf s n).cls, since := none }

/-- The state in which an input's class holds, and a broken wire is counted. -/
def debounceCounted (s : State) (n : Nat) : State :=
  if (diOf s n).cls = 2 then bump (debounced s n) Reg.LIO_DI_BRK_CNT else debounced s n

theorem exec_debounceExpiry_due {v : Nat} (since : (diOf s n).since = some v) (due : v + (diCfg s n).deb * 1000 ≤ t) :
    exec (.debounceExpiry n t) s = .next (lioFaults (debounceCounted (atTime s t) n)) := by
  have since' : (diOf (atTime s t) n).since = some v := since
  show execDebounceExpiry n t s = _
  simp only [execDebounceExpiry, since']
  exact if_pos due

theorem lio_debounceCounted (s : State) (n : Nat) : (debounceCounted s n).lio = (debounced s n).lio := by
  unfold debounceCounted
  split <;> rfl

theorem diOf_debounceExpired (s : State) (n m : Nat) : diOf (lioFaults (debounceCounted s n)) m =
    if m = n then { diOf s n with deb := (diOf s n).cls, since := none } else diOf s m := by
  rw [diOf_congr ((lio_lioFaults _).trans (lio_debounceCounted s n)), debounced, diOf_setDi]

theorem rd_brk_debounceCounted (broken : (diOf s n).cls = 2) : rd (lioFaults (debounceCounted s n)) Reg.LIO_DI_BRK_CNT =
    w32 (satAdd 0xFFFFFFFF (rd s Reg.LIO_DI_BRK_CNT).toNat 1) := by
  rw [onlyRegs_lioFaults _ _ (by decide), debounceCounted, if_pos broken]
  exact rd_wr_same ..

theorem onlyRegs_debounceCounted (sound : (diOf s n).cls ≠ 2) : onlyRegs lioShown s (lioFaults (debounceCounted s n)) := by
  refine onlyRegs_trans ?_ (onlyRegs_lioFaults _)
  rw [debounceCounted, if_neg sound]
  exact fun _ _ => rfl

/-! ### Readback, overload and overcurrent (R336, R337) -/

section Output

variable {ep : Nat} {sense : Bool}

section Readback

variable (bound : doEp s n = some ep) (driven : (drivesDo s ep || doPrompt s n ep) = true)

include bound driven

theorem exec_doReadback_agrees (agrees : sense = doWanted s n ep) : exec (.doReadback n sense t) s =
    .next (lioFaults (faultEnd (setDo (atTime s t) n { doOf s n with miss := 0, rbRec := none }) 1 (doOf s n).rbRec)) := by
  have bound' : doEp (atTime s t) n = some ep := bound
  have driven' : (drivesDo (atTime s t) ep || doPrompt (atTime s t) n ep) = true := driven
  show execDoReadback n sense t s = _
  simp only [execDoReadback, bound', driven']
  exact (if_neg Bool.false_ne_true).trans (if_pos agrees)

theorem exec_doReadback_differs (differs : sense ≠ doWanted s n ep) : exec (.doReadback n sense t) s =
    .next (if min 2 ((doOf s n).miss + 1) = 2 ∧ (doOf s n).rbRec = none then
      lioFaults (setDo (recordBare (bump (atTime s t) Reg.LIO_DO_OVL_CNT) 1 { blk := 0xE, ev := 0, info := [n] }) n
        { doOf s n with
          miss := min 2 ((doOf s n).miss + 1), rbRec := some { seq := s.rcd.seqNext.toNat, frame := s.grid.frame } })
      else setDo (atTime s t) n { doOf s n with miss := min 2 ((doOf s n).miss + 1) }) := by
  have bound' : doEp (atTime s t) n = some ep := bound
  have driven' : (drivesDo (atTime s t) ep || doPrompt (atTime s t) n ep) = true := driven
  show execDoReadback n sense t s = _
  simp only [execDoReadback, bound', driven']
  refine (if_neg Bool.false_ne_true).trans ((if_neg differs).trans ?_)
  exact (apply_ite Host.Outcome.next ..).symm

end Readback

/-- A fault is counted, and recorded unless it stands already; what counts it then leaves the terminals as they were. -/
structure Counted (s v : State) : Prop where
  lio : v.lio = s.lio
  regs : onlyRegs doRegs s v
  count : rd v Reg.LIO_DO_OVL_CNT = w32 (satAdd 0xFFFFFFFF (rd s Reg.LIO_DO_OVL_CNT).toNat 1)

theorem counted_bump {v : State} (lio : v.lio = s.lio) (regs : onlyRegs [Reg.REC_EVT_STAT] s v) :
    Counted s (bump v Reg.LIO_DO_OVL_CNT) where
  lio := lio
  regs := onlyRegs_wr (onlyRegs_recorded regs) List.mem_cons_self
  count := by rw [bump, addReg, rd_wr_same, regs _ (by decide)]

theorem counted_recordBare (s : State) (k : Nat) (info : List Nat) :
    Counted s (recordBare (bump s Reg.LIO_DO_OVL_CNT) k { blk := 0xE, ev := 0, info := info }) where
  lio := recordBare_lio ..
  regs := onlyRegs_record _ (onlyRegs_wr (onlyRegs_refl _ _) List.mem_cons_self) (by decide)
  count := (rd_record _ _ _ (by decide)).trans (rd_wr_same ..)

/-- The count of faults after the common fault bits are shown. -/
theorem Counted.shown {v u : State} (h : Counted s v) (regs : u.regs = v.regs) :
    rd (lioFaults u) Reg.LIO_DO_OVL_CNT = w32 (satAdd 0xFFFFFFFF (rd s Reg.LIO_DO_OVL_CNT).toNat 1) := by
  rw [onlyRegs_lioFaults _ _ (by decide), rd, regs]
  exact h.count

theorem counted_faultBegin (k : Nat) (info : List Nat) : Counted s (bump (faultBegin s k info).1 Reg.LIO_DO_OVL_CNT) :=
  counted_bump (recordBare_lio ..) (onlyRegs_record _ (onlyRegs_refl _ _) List.mem_cons_self)

/-- The channel after an overload (R337). -/
def overloaded (s : State) (n : Nat) (r : FaultRec) : DoState :=
  { doOf s n with off := true, retryAt := s.grid.frame + 240, ovlRec := some r }

/-- The group after an overcurrent (R337). -/
def overcurrent (s : State) (n : Nat) (r : FaultRec) : DoGroup :=
  { grpOf s n with off := true, retryAt := s.grid.frame + 240, ocRec := some r }

theorem exec_doOverload_new (low : n < 16) (on : (doOf s n).off = false) : ∃ v r, Counted (atTime s t) v ∧
    exec (.doOverload n t) s = .next (lioFaults (setDo v n (overloaded s n r))) := by
  have on' : (doOf (atTime s t) n).off = false := on
  have ran : ¬ (16 ≤ n ∨ (doOf (atTime s t) n).off = true) := by simp [on', low]
  cases stands : (doOf s n).ovlRec with
  | some r =>
    have stands' : (doOf (atTime s t) n).ovlRec = some r := stands
    refine ⟨_, r, counted_bump rfl (onlyRegs_refl _ _), ?_⟩
    show execDoOverload n t s = _
    simp only [execDoOverload, stands']
    exact if_neg ran
  | none =>
    have stands' : (doOf (atTime s t) n).ovlRec = none := stands
    refine ⟨_, (faultBegin (atTime s t) 2 [n]).2, counted_faultBegin 2 [n], ?_⟩
    show execDoOverload n t s = _
    simp only [execDoOverload, stands']
    exact if_neg ran

theorem exec_groupOvercurrent_new (low : n < 2) (on : (grpOf s n).off = false) : ∃ v r, Counted (atTime s t) v ∧
    exec (.groupOvercurrent n t) s = .next (lioFaults (setGrp v n (overcurrent s n r))) := by
  have on' : (grpOf (atTime s t) n).off = false := on
  have ran : ¬ (2 ≤ n ∨ (grpOf (atTime s t) n).off = true) := by simp [on', low]
  cases stands : (grpOf s n).ocRec with
  | some r =>
    have stands' : (grpOf (atTime s t) n).ocRec = some r := stands
    refine ⟨_, r, counted_bump rfl (onlyRegs_refl _ _), ?_⟩
    show execGroupOvercurrent n t s = _
    simp only [execGroupOvercurrent, stands']
    exact if_neg ran
  | none =>
    have stands' : (grpOf (atTime s t) n).ocRec = none := stands
    refine ⟨_, (faultBegin (atTime s t) 3 [n]).2, counted_faultBegin 3 [n], ?_⟩
    show execGroupOvercurrent n t s = _
    simp only [execGroupOvercurrent, stands']
    exact if_neg ran

/-! ### Retries and supplies (R337) -/

section Retry

variable {s : State} {n t : Nat}

theorem exec_doRetry_channel (off : (doOf s n).off = true) (due : (doOf s n).retryAt ≤ s.grid.frame) (persists : Bool) :
    exec (.doRetry false n persists t) s = .next
      (if persists then setDo (atTime s t) n { doOf s n with retryAt := s.grid.frame + 240 }
       else lioFaults (faultEnd (setDo (atTime s t) n { doOf s n with off := false, ovlRec := none }) 2 (doOf s n).ovlRec)) := by
  have ran : ¬ ((!(doOf s n).off) = true ∨ s.grid.frame < (doOf s n).retryAt) := by simp [off, due]
  cases persists <;> exact if_neg ran

theorem exec_doRetry_group (off : (grpOf s n).off = true) (due : (grpOf s n).retryAt ≤ s.grid.frame) (persists : Bool) :
    exec (.doRetry true n persists t) s = .next
      (if persists then setGrp (atTime s t) n { grpOf s n with retryAt := s.grid.frame + 240 }
       else lioFaults (faultEnd (setGrp (atTime s t) n { grpOf s n with off := false, ocRec := none }) 3 (grpOf s n).ocRec)) := by
  have ran : ¬ ((!(grpOf s n).off) = true ∨ s.grid.frame < (grpOf s n).retryAt) := by simp [off, due]
  cases persists <;> exact if_neg ran

theorem exec_groupSupplyLow_falls (low : n < 2) (was : (grpOf s n).low = false) : exec (.groupSupplyLow n true t) s =
    .next (lioFaults (setGrp (faultBegin (atTime s t) 4 [n]).1 n
      { grpOf s n with low := true, lowRec := some (faultBegin (atTime s t) 4 [n]).2 })) := by
  have ran : ¬ (2 ≤ n ∨ (grpOf s n).low = true) := by simp [was, low]
  exact (if_neg ran).trans (if_pos rfl)

theorem exec_groupSupplyLow_returns (low : n < 2) (was : (grpOf s n).low = true) : exec (.groupSupplyLow n false t) s =
    .next (lioFaults (faultEnd (setGrp (atTime s t) n { grpOf s n with low := false, lowRec := none }) 4 (grpOf s n).lowRec)) := by
  have ran : ¬ (2 ≤ n ∨ (grpOf s n).low = false) := by simp [was, low]
  exact (if_neg ran).trans (if_neg Bool.false_ne_true)

end Retry

/-! ### The output watchdog (R338) -/

/-- The state in which the watchdog holds the safe states. -/
def wdHeld (s : State) : State :=
  raise (setLio (bump s Reg.LIO_WD_CNT) fun l => { l with wdExpired := true, wdHold := true }) { blk := 0xE, ev := 2 }

/-- The state after the watchdog has expired: with an analogue output, AIO shows it too (R346). -/
def wdExpiry (s : State) : State :=
  if (upto 8).any (axOutput s) then setBit (wdHeld s) Reg.AIO_EVT_STAT 2 else wdHeld s

section Watchdog

variable {s : State} {t : Nat}

theorem exec_outputWatchdogExpiry_due (armed : wdArmed s = true) (held : s.lio.wdHold = false)
    (due : lasts ((atTime s t).grid.mono - s.lio.wdAt) s.cfg.lio.wd = true) :
    exec (.outputWatchdogExpiry t) s = .next (wdExpiry (atTime s t)) := by
  have held' : (!s.lio.wdHold) = true := by rw [held, Bool.not_false]
  refine (if_pos (c := wdArmed (atTime s t) = true ∧ (!s.lio.wdHold) = true ∧ lasts _ s.cfg.lio.wd = true) ⟨armed, held', due⟩).trans ?_
  rfl

theorem onlyRegs_wdHeld (s : State) : onlyRegs [Reg.LIO_WD_CNT, Reg.LIO_EVT_STAT, Reg.AIO_EVT_STAT, Reg.REC_EVT_STAT] s (wdHeld s) :=
  onlyRegs_raise (t := setLio (bump s Reg.LIO_WD_CNT) _) _ _
    (onlyRegs_wr (onlyRegs_refl _ _) List.mem_cons_self) (by decide) (by decide)

theorem onlyRegs_wdExpiry (s : State) :
    onlyRegs [Reg.LIO_WD_CNT, Reg.LIO_EVT_STAT, Reg.AIO_EVT_STAT, Reg.REC_EVT_STAT] s (wdExpiry s) := by
  unfold wdExpiry
  split
  · exact onlyRegs_wr (onlyRegs_wdHeld s) (by decide)
  · exact onlyRegs_wdHeld s

theorem onlyRegs_wdExpiry_wdHeld (s : State) : onlyRegs [Reg.AIO_EVT_STAT] (wdHeld s) (wdExpiry s) := by
  unfold wdExpiry
  split
  · exact onlyRegs_wr (onlyRegs_refl _ _) List.mem_cons_self
  · exact onlyRegs_refl _ _

theorem lio_wdExpiry (s : State) : (wdExpiry s).lio = { s.lio with wdExpired := true, wdHold := true } := by
  unfold wdExpiry
  split
  · exact raise_lio ..
  · exact raise_lio ..

theorem wdCount_wdExpiry (s : State) : rd (wdExpiry s) Reg.LIO_WD_CNT = w32 (satAdd 0xFFFFFFFF (rd s Reg.LIO_WD_CNT).toNat 1) := by
  rw [onlyRegs_wdExpiry_wdHeld _ _ (by decide), wdHeld, rd_raise _ _ _ _ (by decide) (by decide)]
  exact rd_wr_same ..

theorem flag_wdExpiry (s : State) : flag (rd (wdExpiry s) Reg.LIO_EVT_STAT) 2 = true := by
  rw [onlyRegs_wdExpiry_wdHeld _ _ (by decide), wdHeld]
  exact flag_raise _ _ _ 0 (by decide) (by decide) (by decide)

end Watchdog

/-! ### The release of the outputs (R268) -/

/-- What the release does to a bound channel: unless its output is prompt, it is no longer latched. -/
def releaseDo (s : State) (e : Nat × Nat) : State :=
  if dPrompt (dirEntry s e.2) then s else setDo s e.1 { doOf s e.1 with latched := false }

section Release

variable {s : State} {t : Nat} {h : HandOver}

theorem exec_doRelease_due (ho : s.pair.ho = some h) (out : h.outgoing = true) (due : frameStart (h.h + 2) + 100000 ≤ t) :
    exec (.doRelease t) s = .next ((boundDos s).foldl releaseDo
      (setPair (atTime s t) fun p => { p with ho := some { h with released := true } })) := by
  have ho' : (atTime s t).pair.ho = some h := ho
  show execDoRelease t s = _
  simp only [execDoRelease, ho']
  exact if_pos ⟨out, due⟩

theorem releaseDo_rest (s : State) (e : Nat × Nat) : releaseDo s e = { s with lio := (releaseDo s e).lio } := by
  unfold releaseDo
  split <;> rfl

theorem dirEntry_congr {s u : State} (h : u.cfg = s.cfg) (ep : Nat) : dirEntry u ep = dirEntry s ep := by
  have only : dirEntry u ep = dirEntry { s with cfg := u.cfg } ep := rfl
  rw [only, h]

theorem foldl_releaseDo_rest (l : List (Nat × Nat)) (s : State) :
    l.foldl releaseDo s = { s with lio := (l.foldl releaseDo s).lio } := by
  induction l generalizing s with
  | nil => rfl
  | cons e l ih => rw [List.foldl_cons, ih, releaseDo_rest]

theorem doOf_releaseDo (s : State) (e : Nat × Nat) (ch : Nat) : doOf (releaseDo s e) ch =
    if decide (e.1 = ch) && !dPrompt (dirEntry s e.2) then { doOf s ch with latched := false } else doOf s ch := by
  unfold releaseDo
  by_cases own : e.1 = ch
  · subst own
    split
    next prompt => rw [prompt, Bool.not_true, Bool.and_false]; rfl
    next frame => rw [doOf_setDo, if_pos rfl, Bool.eq_false_of_not_eq_true frame, decide_eq_true rfl]; rfl
  · rw [decide_eq_false own]
    split
    · rfl
    · exact (doOf_setDo ..).trans (if_neg (Ne.symm own))

theorem releases_iff (s : State) (e : Nat × Nat) (ch : Nat) : (decide (e.1 = ch) && !dPrompt (dirEntry s e.2)) = true ↔
    e.1 = ch ∧ dPrompt (dirEntry s e.2) = false := by simp

/-- Whether a channel is released by the entries of a list. -/
theorem doOf_foldl_releaseDo (l : List (Nat × Nat)) (s : State) (ch : Nat) : doOf (l.foldl releaseDo s) ch =
    if l.any fun e => decide (e.1 = ch) && !dPrompt (dirEntry s e.2) then { doOf s ch with latched := false } else doOf s ch := by
  induction l generalizing s with
  | nil => rfl
  | cons e l ih =>
    have dir : ∀ ep, dirEntry (releaseDo s e) ep = dirEntry s ep := dirEntry_congr (by rw [releaseDo_rest])
    rw [List.foldl_cons, ih, doOf_releaseDo, List.any_cons]
    simp only [dir]
    cases decide (e.1 = ch) && !dPrompt (dirEntry s e.2)
    · rfl
    · exact ite_self _

end Release

end Output

end Command


/-- Settles O36: each command's state is written by one equation; what it leaves of the channels, groups and registers follows from
DoLeft and GrpLeft, which the common fault bits and the end of a record keep. -/
theorem digitalTerminals : Obligations.DigitalTerminals := by
  intro s n ep cur mv t v sense h
  refine ⟨⟨fun low new => ?change, fun since due => ?debounce⟩,
    ⟨fun bound driven => ⟨fun agrees => ?agrees, fun differs first => ?first, fun differs again free => ?again⟩, fun low on => ?overload,
      fun off due => ⟨?channelStays, ?channelWorks⟩⟩,
    ⟨fun low on => ?overcurrent, fun off due => ⟨?groupStays, ?groupWorks⟩, fun low was => ?falls, fun low was => ?returns⟩,
    fun armed held due => ?watchdog, fun ho out due => ?release⟩
  case change =>
    exact ⟨_, exec_diChange_new low new, (diOf_setDi ..).trans (if_pos rfl), fun m other => (diOf_setDi ..).trans (if_neg other),
      fun _ _ => rfl⟩
  case debounce =>
    exact ⟨_, exec_debounceExpiry_due since due, (diOf_debounceExpired ..).trans (if_pos rfl),
      fun m other => (diOf_debounceExpired ..).trans (if_neg other), fun broken => rd_brk_debounceCounted (s := atTime s t) broken,
      fun sound => onlyRegs_trans (onlyRegs_atTime _ s t) (onlyRegs_debounceCounted (s := atTime s t) sound)⟩
  case agrees =>
    have left := ((DoLeft.at s n t { doOf s n with miss := 0, rbRec := none }).faultEnd 1 (doOf s n).rbRec).lioFaults
    exact ⟨_, exec_doReadback_agrees bound driven agrees, left.own, left.keeps⟩
  case first =>
    have left := DoLeft.at s n t { doOf s n with miss := 1 }
    refine ⟨_, (exec_doReadback_differs bound driven differs).trans ?_, left.own, left.keeps⟩
    rw [first]
    rfl
  case again =>
    have two : min 2 ((doOf s n).miss + 1) = 2 := by omega
    have counted := counted_recordBare (atTime s t) 1 [n]
    have left := (DoLeft.setDo
      (x := { doOf s n with miss := min 2 ((doOf s n).miss + 1), rbRec := some { seq := s.rcd.seqNext.toNat, frame := s.grid.frame } })
      (n := n) (s := s) counted.lio counted.regs).lioFaults
    refine ⟨_, (exec_doReadback_differs bound driven differs).trans (congrArg _ (if_pos ⟨two, free⟩)), ?_, ?_, ?_, counted.shown rfl,
      left.keeps⟩
    · rw [left.own, two]
    · rw [left.own]; rfl
    · rw [left.own]
  case overload =>
    obtain ⟨u, r, counted, run⟩ := exec_doOverload_new (t := t) low on
    have left := (DoLeft.setDo (x := overloaded s n r) (n := n) (s := s) counted.lio counted.regs).lioFaults
    refine ⟨_, run, ?_, ?_, ?_, ?_, doOut_of_off left rfl, counted.shown rfl, left.keeps⟩ <;> rw [left.own] <;> rfl
  case channelStays =>
    have left := DoLeft.at s n t { doOf s n with retryAt := s.grid.frame + 240 }
    exact ⟨_, exec_doRetry_channel off due true, left.own, left.keeps⟩
  case channelWorks =>
    have left := ((DoLeft.at s n t { doOf s n with off := false, ovlRec := none }).faultEnd 2 (doOf s n).ovlRec).lioFaults
    exact ⟨_, exec_doRetry_channel off due false, left.own, left.keeps⟩
  case overcurrent =>
    obtain ⟨u, r, counted, run⟩ := exec_groupOvercurrent_new (t := t) low on
    have left := (GrpLeft.setGrp (y := overcurrent s n r) (n := n) (s := s) counted.lio counted.regs).lioFaults
    refine ⟨_, run, ?_, ?_, ?_, fun ch mine => doOut_of_group_off left rfl mine, counted.shown rfl, left.keeps⟩ <;> rw [left.own] <;> rfl
  case groupStays =>
    have left := GrpLeft.at s n t { grpOf s n with retryAt := s.grid.frame + 240 }
    exact ⟨_, exec_doRetry_group off due true, left.own, left.keeps⟩
  case groupWorks =>
    have left := ((GrpLeft.at s n t { grpOf s n with off := false, ocRec := none }).faultEnd 3 (grpOf s n).ocRec).lioFaults
    exact ⟨_, exec_doRetry_group off due false, left.own, left.keeps⟩
  case falls =>
    have left := (GrpLeft.setGrp (y := { grpOf s n with low := true, lowRec := some (faultBegin (atTime s t) 4 [n]).2 }) (n := n) (s := s)
      (v := (faultBegin (atTime s t) 4 [n]).1) (recordBare_lio ..)
      (onlyRegs_recorded (onlyRegs_record _ (fun _ _ => rfl) List.mem_cons_self))).lioFaults
    exact ⟨_, exec_groupSupplyLow_falls low was, by rw [left.own], by rw [left.own]; rfl, by rw [left.own], left.keeps⟩
  case returns =>
    have left := ((GrpLeft.at s n t { grpOf s n with low := false, lowRec := none }).faultEnd 4 (grpOf s n).lowRec).lioFaults
    exact ⟨_, exec_groupSupplyLow_returns low was, left.own, left.keeps⟩
  case watchdog =>
    exact ⟨_, exec_outputWatchdogExpiry_due armed held due, lio_wdExpiry _, wdCount_wdExpiry _, flag_wdExpiry _, onlyRegs_wdExpiry _⟩
  case release =>
    refine ⟨_, exec_doRelease_due ho out due, ?_, fun e bound frame => ?_, fun ch prompt => ?_, ?_⟩
    · rw [foldl_releaseDo_rest]; rfl
    · exact (doOf_foldl_releaseDo ..).trans (if_pos (List.any_eq_true.2 ⟨e, bound, (releases_iff s e e.1).2 ⟨rfl, frame⟩⟩))
    · refine (doOf_foldl_releaseDo ..).trans (if_neg fun hit => ?_)
      obtain ⟨e, bound, this⟩ := List.any_eq_true.1 hit
      obtain ⟨own, frame⟩ := (releases_iff s e ch).1 this
      exact absurd ((prompt e bound own).symm.trans frame) Bool.noConfusion
    · rw [foldl_releaseDo_rest]; exact fun _ _ => rfl

end Sys2Proof.Machine
end

section
/-! Analogue channels, the cross-fade and HART (R270, R271, R343–R350): O37. -/

namespace Sys2Proof.Machine

open Sys2Proof

/-! ### The channels as a table -/

theorem axOf_setAx (s : State) (n : Nat) (x : AxState) (m : Nat) : axOf (setAx s n x) m = if m = n then x else axOf s m :=
  tget_tset ..

theorem axOf_setAx_same (s : State) (n : Nat) (x : AxState) : axOf (setAx s n x) n = x := (axOf_setAx ..).trans (if_pos rfl)

theorem axOf_setAx_other (s : State) (x : AxState) {n m : Nat} (other : m ≠ n) : axOf (setAx s n x) m = axOf s m :=
  (axOf_setAx ..).trans (if_neg other)

theorem axOf_congr {s u : State} (h : u.lio = s.lio) (n : Nat) : axOf u n = axOf s n := by rw [axOf, h]; rfl

/-- A state differs from s in the analogue channels at most. -/
def OnlyAx (s u : State) : Prop := u = { s with lio := { s.lio with ax := u.lio.ax } }

theorem OnlyAx.refl (s : State) : OnlyAx s s := rfl

theorem OnlyAx.setAx {s u : State} (h : OnlyAx s u) (n : Nat) (x : AxState) : OnlyAx s (setAx u n x) := by
  rw [h]; rfl

/-- One step of a pass over the channels: it sets one channel at most, from that channel's own state. -/
def SetsOneAx (s : State) (f : State → Nat → State) (sets : Nat → Bool) (g : Nat → AxState → AxState) : Prop :=
  ∀ u ch, OnlyAx s u → OnlyAx s (f u ch) ∧
    ∀ m, axOf (f u ch) m = if m = ch ∧ sets m = true then g m (axOf u m) else axOf u m

section Pass

variable {s : State} {f : State → Nat → State} {sets : Nat → Bool} {g : Nat → AxState → AxState} (step : SetsOneAx s f sets g)

include step

theorem axOf_foldl_pass (l : List Nat) (u : State) (nodup : l.Nodup) (only : OnlyAx s u) : OnlyAx s (l.foldl f u) ∧
    ∀ n, axOf (l.foldl f u) n = if n ∈ l ∧ sets n = true then g n (axOf u n) else axOf u n := by
  induction l generalizing u with
  | nil => exact ⟨only, fun n => (if_neg fun h => List.not_mem_nil h.1).symm⟩
  | cons ch l ih =>
    obtain ⟨new, nodup⟩ := List.nodup_cons.1 nodup
    obtain ⟨only', own⟩ := step u ch only
    obtain ⟨only'', left⟩ := ih (f u ch) nodup only'
    refine ⟨only'', fun n => ?_⟩
    rw [List.foldl_cons, left, own]
    by_cases same : n = ch
    · subst same
      simp [new]
    · simp [same]

/-- A pass over all channels sets those it sets. -/
theorem axOf_foldl_upto : OnlyAx s ((upto 8).foldl f s) ∧
    ∀ n, axOf ((upto 8).foldl f s) n = if n < 8 ∧ sets n = true then g n (axOf s n) else axOf s n := by
  obtain ⟨only, left⟩ := axOf_foldl_pass step (upto 8) s List.nodup_range (.refl s)
  exact ⟨only, fun n => by rw [left, upto]; simp only [List.mem_range]⟩

end Pass

theorem setsOneAx_of_setAx {s : State} {f : State → Nat → State} {sets : Nat → Bool} {g : Nat → AxState → AxState}
    (step : ∀ u ch, OnlyAx s u → f u ch = if sets ch then setAx u ch (g ch (axOf u ch)) else u) : SetsOneAx s f sets g := by
  intro u ch only
  rw [step u ch only]
  by_cases set : sets ch = true
  · rw [if_pos set]
    refine ⟨only.setAx .., fun m => (axOf_setAx ..).trans ?_⟩
    by_cases own : m = ch
    · subst own; rw [if_pos rfl, if_pos ⟨rfl, set⟩]
    · rw [if_neg own, if_neg fun h => own h.1]
  · rw [if_neg set]
    exact ⟨only, fun m => (if_neg fun (h : m = ch ∧ sets m = true) => set (h.1 ▸ h.2)).symm⟩

/-! ### Samples and conditions (R343–R345) -/

section Sample

variable {s : State} {ch t : Nat}

theorem onlyRegs_condEnds (s : State) (ch : Nat) : onlyRegs [Reg.REC_EVT_STAT] s (condEnds s ch) := by
  unfold condEnds
  extract_lets x
  split
  · exact onlyRegs_record _ (onlyRegs_refl _ _) List.mem_cons_self
  · exact onlyRegs_refl _ _

theorem axOf_condEnds (s : State) (ch m : Nat) : axOf (condEnds s ch) m = if m = ch then { axOf s ch with recSeq := none } else axOf s m := by
  unfold condEnds
  extract_lets x
  split
  · rw [axOf_congr (conditionEnded_lio ..), axOf_setAx]
  next free =>
    split
    next own =>
      subst own
      have free' : (axOf s m).recSeq = none := free
      rw [← free']
    · rfl

/-- A channel without a condition. -/
def unconditioned (x : AxState) : AxState :=
  { x with openN := 0, openL := 0, compN := 0, compL := 0, isOpen := false, isComp := false, recSeq := none }

theorem axOf_dropConds (s : State) (ch m : Nat) : axOf (dropConds s ch) m = if m = ch then unconditioned (axOf s ch) else axOf s m := by
  have ended : axOf (condEnds s ch) ch = { axOf s ch with recSeq := none } := (axOf_condEnds s ch ch).trans (if_pos rfl)
  have left : dropConds s ch = setAx (condEnds s ch) ch (unconditioned (axOf s ch)) := by
    simp only [dropConds, ended]; rfl
  rw [left, axOf_setAx]
  split
  · rfl
  next other => rw [axOf_condEnds, if_neg other]

theorem onlyRegs_dropConds (s : State) (ch : Nat) : onlyRegs [Reg.REC_EVT_STAT] s (dropConds s ch) := onlyRegs_condEnds s ch

/-- A channel after a sample has been judged (R345), apart from what its record is. -/
def axJudged (s : State) (ch : Nat) : AxState :=
  let x := axOf s ch
  let cmd := fracOf (axCommand s ch)
  let m := fracOf x.meas
  let h := fracOf x.head
  let y := { x with
    openN := runOf x.openN ((Frac.ofInt 1).le cmd && m.lt (frac 1 5))
    openL := runOf x.openL ((cmd.mul (frac 1 2)).le m)
    compN := runOf x.compN (h.lt (frac 3 2))
    compL := runOf x.compL ((frac 17 10).le h) }
  let o := if x.isOpen then decide (y.openL < 3) else decide (y.openN = 3)
  let c := if x.isComp then decide (y.compL < 3) else decide (y.compN = 3)
  { y with
    isOpen := o, isComp := c
    openCnt := if o && !x.isOpen then satAdd 0xFFFF x.openCnt 1 else x.openCnt
    compCnt := if c && !x.isComp then satAdd 0xFFFF x.compCnt 1 else x.compCnt }

theorem axJudge_undriven (idle : axDriven s ch = false) : axJudge s ch = dropConds s ch := by
  have idle' : (!axDriven s ch) = true := by rw [idle, Bool.not_false]
  exact if_pos idle'

/-- A sample of a driven channel is judged; the record of a condition that ends is closed first. -/
theorem axJudge_driven (driven : axDriven s ch = true) : ∃ v r f, (v = s ∨ v = condEnds s ch) ∧
    axJudge s ch = setAx v ch { axJudged s ch with recSeq := r, since := f } := by
  have driven' : ¬ (!axDriven s ch) = true := by rw [driven, Bool.not_true]; exact Bool.false_ne_true
  exact ⟨_, _, _, (ite_eq_or_eq _ _ _).symm, if_neg driven'⟩

theorem axOf_axJudge_other (s : State) {ch m : Nat} (other : m ≠ ch) : axOf (axJudge s ch) m = axOf s m := by
  cases driven : axDriven s ch with
  | false => rw [axJudge_undriven driven, axOf_dropConds, if_neg other]
  | true =>
    obtain ⟨v, r, f, eq, run⟩ := axJudge_driven driven
    rw [run, axOf_setAx_other _ _ other]
    rcases eq with rfl | rfl
    · rfl
    · rw [axOf_condEnds, if_neg other]

theorem onlyRegs_axJudge (s : State) (ch : Nat) : onlyRegs [Reg.REC_EVT_STAT] s (axJudge s ch) := by
  cases driven : axDriven s ch with
  | false => rw [axJudge_undriven driven]; exact onlyRegs_dropConds s ch
  | true =>
    obtain ⟨v, r, f, eq, run⟩ := axJudge_driven driven
    rw [run]
    rcases eq with rfl | rfl
    · exact fun _ _ => rfl
    · exact onlyRegs_condEnds s ch

/-- The state in which a sample has been taken, before it is judged. -/
def axSampled (s : State) (ch : Nat) (meas head : Word) (conv : Bool) : State :=
  setAx s ch { axOf s ch with meas := meas, head := head, conv := conv, samples := (meas :: (axOf s ch).samples).take 24 }

section Taken

variable {meas head : Word} {conv : Bool}

theorem axDriven_axSampled (s : State) (ch : Nat) : axDriven (axSampled s ch meas head conv) ch = axDriven s ch := by
  have hiz : (axOf (axSampled s ch meas head conv) ch).hiz = (axOf s ch).hiz := by rw [axSampled, axOf_setAx_same]
  unfold axDriven
  rw [hiz]
  rfl

theorem axCommand_axSampled (s : State) (ch : Nat) : axCommand (axSampled s ch meas head conv) ch = axCommand s ch := by
  have cmd : (axOf (axSampled s ch meas head conv) ch).cmd = (axOf s ch).cmd := by rw [axSampled, axOf_setAx_same]
  unfold axCommand
  rw [cmd]
  rfl

/-- A sample is taken and judged, and the state of the converter is shown; only the start of a condition may move besides. -/
theorem exec_adcSample_on (low : ch < 8) (on : (axCfg s ch).mode ≠ 0) : ∃ v f,
    exec (.adcSample ch meas head conv t) s = .next (wrField v Reg.AIO_CONV ch ch (if conv then 1 else 0)) ∧
    axOf v ch = { axOf (axJudge (axSampled (atTime s t) ch meas head conv) ch) ch with since := f } ∧
    (∀ m, m ≠ ch → axOf v m = axOf s m) ∧ onlyRegs [Reg.REC_EVT_STAT] s v := by
  have ran : ¬ (8 ≤ ch ∨ (axCfg (atTime s t) ch).mode = 0) := fun no => no.elim (Nat.not_le.2 low) on
  have run : exec (.adcSample ch meas head conv t) s = _ := if_neg ran
  have others : ∀ m, m ≠ ch → axOf (axJudge (axSampled (atTime s t) ch meas head conv) ch) m = axOf s m := fun m other => by
    rw [axOf_axJudge_other _ other, axSampled, axOf_setAx_other _ _ other]; rfl
  have regs : onlyRegs [Reg.REC_EVT_STAT] s (axJudge (axSampled (atTime s t) ch meas head conv) ch) :=
    onlyRegs_axJudge (axSampled (atTime s t) ch meas head conv) ch
  refine (em _).elim (fun same => ⟨_, _, run.trans (congrArg _ (congrArg (wrField · _ _ _ _) (if_pos same))), rfl, others, regs⟩)
    fun moved => ⟨_, _, run.trans (congrArg _ (congrArg (wrField · _ _ _ _) (if_neg moved))), axOf_setAx_same .., fun m other => ?_, regs⟩
  exact (axOf_setAx_other _ _ other).trans (others m other)

/-- What a channel keeps of a sample, whether it is driven or not. -/
structure SampleKept (x y : AxState) (current headroom : Word) (state : Bool) : Prop where
  meas : y.meas = current
  head : y.head = headroom
  conv : y.conv = state
  samples : y.samples = (current :: x.samples).take 24
  cmd : y.cmd = x.cmd
  hiz : y.hiz = x.hiz

/-- How a driven channel judges a sample (R345). -/
structure SampleJudged (s : State) (ch : Nat) (y : AxState) (meas head : Word) : Prop where
  openN : y.openN = runOf (axOf s ch).openN ((Frac.ofInt 1).le (fracOf (axCommand s ch)) && (fracOf meas).lt (frac 1 5))
  compN : y.compN = runOf (axOf s ch).compN ((fracOf head).lt (frac 3 2))
  isOpen : y.isOpen = (if (axOf s ch).isOpen then decide (y.openL < 3) else decide (y.openN = 3))
  isComp : y.isComp = (if (axOf s ch).isComp then decide (y.compL < 3) else decide (y.compN = 3))
  openCnt : y.openCnt = (if y.isOpen && !(axOf s ch).isOpen then satAdd 0xFFFF (axOf s ch).openCnt 1 else (axOf s ch).openCnt)

theorem axOf_axJudge_driven (driven : axDriven s ch = true) (f : Nat) : ∃ r, { axOf (axJudge s ch) ch with since := f } =
    { axJudged s ch with recSeq := r, since := f } := by
  obtain ⟨v, r, f', eq, run⟩ := axJudge_driven driven
  exact ⟨r, by rw [run, axOf_setAx_same]⟩

theorem sampleJudged (driven : axDriven s ch = true) (f : Nat) : SampleJudged s ch
    { axOf (axJudge (axSampled s ch meas head conv) ch) ch with since := f } meas head := by
  obtain ⟨r, eq⟩ := axOf_axJudge_driven ((axDriven_axSampled (meas := meas) (head := head) (conv := conv) s ch).trans driven) f
  have own : axOf (axSampled s ch meas head conv) ch = _ := axOf_setAx_same ..
  rw [eq]
  constructor <;> simp only [axJudged, axCommand_axSampled, own]

theorem sampleKept (s : State) (ch f : Nat) : SampleKept (axOf s ch)
    { axOf (axJudge (axSampled s ch meas head conv) ch) ch with since := f } meas head conv := by
  have own : axOf (axSampled s ch meas head conv) ch = _ := axOf_setAx_same ..
  cases driven : axDriven (axSampled s ch meas head conv) ch with
  | false =>
    rw [axJudge_undriven driven, axOf_dropConds, if_pos rfl, own]
    constructor <;> rfl
  | true =>
    obtain ⟨r, eq⟩ := axOf_axJudge_driven driven f
    rw [eq]
    constructor <;> simp only [axJudged, own]

theorem sample_undriven (idle : axDriven s ch = false) : axOf (axJudge (axSampled s ch meas head conv) ch) ch =
    unconditioned (axOf (axSampled s ch meas head conv) ch) := by
  rw [axJudge_undriven ((axDriven_axSampled s ch).trans idle), axOf_dropConds, if_pos rfl]

end Taken

theorem flag_wrField_same (s : State) (a : Nat) {i : Nat} (b : Bool) (h : i < 32) :
    flag (rd (wrField s a i i (if b then 1 else 0)) a) i = b :=
  (congrArg (flag · i) (rd_wr_same ..)).trans (flag_putFlag_same _ b h)

/-- The state in which a condition that has lasted is recorded (R345). -/
def conditionRecorded (s : State) (ch : Nat) : State :=
  raise (setAx s ch { axOf s ch with recSeq := some { seq := s.rcd.seqNext.toNat, frame := (axOf s ch).since } })
    { blk := 0xF, ev := if (axOf s ch).isOpen then 1 else 0, info := [ch] }

theorem exec_conditionRecord_due (on : (axOf s ch).isOpen = true ∨ (axOf s ch).isComp = true) (free : (axOf s ch).recSeq = none)
    (due : (axCfg s ch).compt ≤ s.grid.frame - (axOf s ch).since) :
    exec (.conditionRecord ch t) s = .next (conditionRecorded (atTime s t) ch) := if_pos ⟨on, free, due⟩

theorem axOf_conditionRecorded (s : State) (ch m : Nat) : axOf (conditionRecorded s ch) m = if m = ch then
    { axOf s ch with recSeq := some { seq := s.rcd.seqNext.toNat, frame := (axOf s ch).since } } else axOf s m :=
  (axOf_congr (raise_lio ..) m).trans (axOf_setAx ..)

theorem onlyRegs_conditionRecorded (s : State) (ch : Nat) :
    onlyRegs [Reg.AIO_EVT_STAT, Reg.REC_EVT_STAT] s (conditionRecorded s ch) :=
  onlyRegs_raise (t := setAx s ch _) _ 0 (fun _ _ => rfl) List.mem_cons_self (by decide)

theorem flag_conditionRecorded (s : State) (ch : Nat) :
    flag (rd (conditionRecorded s ch) Reg.AIO_EVT_STAT) (if (axOf s ch).isOpen then 1 else 0) = true :=
  flag_raise _ _ _ 0 (by decide) (by decide) (by split <;> decide)

end Sample

/-! ### The cross-fade, the takeover and the burdens (R270, R271, R350) -/

section HandOver

variable {s : State} {t : Nat} {h : HandOver}

/-- A channel at step k of a cross-fade (R270). -/
def faded (outgoing : Bool) (k : Nat) (x : AxState) : AxState :=
  { x with pct := if outgoing then 100 - k else k, hiz := x.hiz || (outgoing && decide (k = 100)) }

/-- A cross-fade step sets one channel. -/
def fadeAx (outgoing : Bool) (k : Nat) (u : State) (ch : Nat) : State :=
  if !axOutput u ch then u else setAx u ch (faded outgoing k (axOf u ch))

theorem axOutput_onlyAx {s u : State} (only : OnlyAx s u) (ch : Nat) : axOutput u ch = axOutput s ch := by
  rw [only]; rfl

theorem foldl_fadeAx (s : State) (outgoing : Bool) (k : Nat) : OnlyAx s ((upto 8).foldl (fadeAx outgoing k) s) ∧
    ∀ n, axOf ((upto 8).foldl (fadeAx outgoing k) s) n =
      if n < 8 ∧ axOutput s n = true then faded outgoing k (axOf s n) else axOf s n :=
  axOf_foldl_upto (sets := axOutput s) (g := fun _ => faded outgoing k) (setsOneAx_of_setAx fun u ch only => by
    rw [← axOutput_onlyAx only, fadeAx]
    cases axOutput u ch <;> rfl)

/-- The state after a cross-fade step, before a removal goes on. -/
def fadeStepped (s : State) (h : HandOver) : State :=
  (upto 8).foldl (fadeAx h.outgoing (h.fade + 1)) (setPair s fun p => { p with ho := some { h with fade := h.fade + 1 } })

theorem exec_crossFadeStep_due (ho : s.pair.ho = some h) (steps : h.fade + 1 ≤ 100)
    (due : frameStart (h.h + 2) + 4000 * (h.fade + 1) ≤ t) : ∃ v, exec (.crossFadeStep t) s = .next (removalTick v) ∧
      v.lio = (fadeStepped (atTime s t) h).lio ∧ v.pair = (fadeStepped (atTime s t) h).pair := by
  have ho' : (atTime s t).pair.ho = some h := ho
  have ran : ¬ (100 < h.fade + 1 ∨ t < frameStart (h.h + 2) + 4000 * (h.fade + 1)) := by omega
  have run : exec (.crossFadeStep t) s = if h.fade + 1 = 100 ∧ (upto 8).any (axOutput (atTime s t)) = true then
      .next (removalTick (raise (fadeStepped (atTime s t) h) { blk := 0xF, ev := 4 }))
      else .next (removalTick (fadeStepped (atTime s t) h)) := by
    show execCrossFadeStep t s = _
    simp only [execCrossFadeStep, ho']
    exact if_neg ran
  split at run
  · exact ⟨_, run, raise_lio .., raise_pair ..⟩
  · exact ⟨_, run, rfl, rfl⟩

theorem lio_removalTick (s : State) : (removalTick s).lio = s.lio := (removalTick_keeps s).same .lio rfl

theorem pair_removalTick (s : State) : (removalTick s).pair = s.pair := (removalTick_keeps s).same .pair rfl

theorem pair_fadeStepped (s : State) (h : HandOver) :
    (fadeStepped s h).pair = { s.pair with ho := some { h with fade := h.fade + 1 } } := by
  rw [fadeStepped, (foldl_fadeAx _ _ _).1]; rfl

theorem axOf_fadeStepped (s : State) (h : HandOver) (n : Nat) : axOf (fadeStepped s h) n =
    if n < 8 ∧ axOutput s n = true then faded h.outgoing (h.fade + 1) (axOf s n) else axOf s n :=
  (foldl_fadeAx _ _ _).2 n

/-- The sealed value that an output takes at an unplanned takeover (R271). -/
def takenOver (v : Word) (x : AxState) : AxState :=
  { x with cmd := (axClamp v).1, oor := (axClamp v).2, hiz := false, pct := 100 }

/-- The takeover drives one output channel from the sealed image. -/
def takeoverAx (u : State) (ch : Nat) : State := match axEp u ch with
  | some ep => if axOutput u ch then setAx (latchAx u ch (sealedAna u ep)) ch { axOf (latchAx u ch (sealedAna u ep)) ch with pct := 100 } else u
  | none => u

/-- The channel is an output with an endpoint. -/
def axBound (s : State) (ch : Nat) : Bool := (axEp s ch).isSome && axOutput s ch

theorem axEp_onlyAx {s u : State} (only : OnlyAx s u) (ch : Nat) : axEp u ch = axEp s ch := by
  rw [only]; rfl

theorem sealedAna_onlyAx {s u : State} (only : OnlyAx s u) (ep : Nat) : sealedAna u ep = sealedAna s ep := by
  rw [only]; rfl

theorem takeoverAx_bound {u : State} {ch ep : Nat} (bound : axEp u ch = some ep) (out : axOutput u ch = true) : takeoverAx u ch =
    setAx (latchAx u ch (sealedAna u ep)) ch { axOf (latchAx u ch (sealedAna u ep)) ch with pct := 100 } := by
  simp only [takeoverAx, bound, out, if_true]

theorem takeoverAx_unbound {u : State} {ch : Nat} (free : axBound u ch = false) : takeoverAx u ch = u := by
  cases bound : axEp u ch with
  | none => simp only [takeoverAx, bound]
  | some ep =>
    have out : axOutput u ch = false := by simpa [axBound, bound] using free
    simp only [takeoverAx, bound, out, Bool.false_eq_true, if_false]

theorem axBound_iff (s : State) (ch : Nat) : axBound s ch = true ↔ ∃ ep, axEp s ch = some ep ∧ axOutput s ch = true := by
  rw [axBound, Bool.and_eq_true, Option.isSome_iff_exists]
  exact exists_and_right.symm

theorem setsOneAx_takeoverAx (s : State) :
    SetsOneAx s takeoverAx (axBound s) fun n => takenOver (sealedAna s ((axEp s n).getD 0)) := by
  intro u ch only
  have same : axBound u ch = axBound s ch := by rw [axBound, axBound, axEp_onlyAx only, axOutput_onlyAx only]
  cases drives : axBound u ch with
  | false =>
    rw [takeoverAx_unbound drives]
    refine ⟨only, fun m => (if_neg fun h => ?_).symm⟩
    rw [h.1, ← same, drives] at h
    exact Bool.false_ne_true h.2
  | true =>
    obtain ⟨ep, bound, out⟩ := (axBound_iff u ch).1 drives
    rw [takeoverAx_bound bound out]
    refine ⟨(only.setAx ..).setAx .., fun m => ?_⟩
    by_cases own : m = ch
    · subst own
      rw [if_pos ⟨rfl, same.symm.trans drives⟩, axOf_setAx_same, latchAx, axOf_setAx_same, sealedAna_onlyAx only]
      show _ = takenOver (sealedAna s ((axEp s m).getD 0)) (axOf u m)
      rw [← axEp_onlyAx only, bound]
      rfl
    · rw [if_neg fun h => own h.1, axOf_setAx_other _ _ own, latchAx, axOf_setAx_other _ _ own]

theorem foldl_takeoverAx (s : State) : OnlyAx s ((upto 8).foldl takeoverAx s) ∧
    ∀ n, axOf ((upto 8).foldl takeoverAx s) n =
      if n < 8 ∧ axBound s n = true then takenOver (sealedAna s ((axEp s n).getD 0)) (axOf s n) else axOf s n :=
  axOf_foldl_upto (setsOneAx_takeoverAx s)

theorem exec_aoTakeoverDrive_due (wait : s.lio.aoWait = true) (due : s.pair.pgrantAt + 436667 ≤ t) : exec (.aoTakeoverDrive t) s =
    .next ((upto 8).foldl takeoverAx (setLio (atTime s t) fun l => { l with aoWait := false })) := if_pos ⟨wait, due⟩

theorem exec_burdenSwitch_due (ho : s.pair.ho = some h)
    (due : (if h.outgoing then 120000 else 20000) + frameStart (h.h + 2) ≤ t) :
    exec (.burdenSwitch t) s = .next (setLio (atTime s t) fun l => { l with burden := !h.outgoing }) := by
  have ho' : (atTime s t).pair.ho = some h := ho
  show execBurdenSwitch t s = _
  simp only [execBurdenSwitch, ho']
  cases out : h.outgoing with
  | false =>
    have late : frameStart (h.h + 2) + 20000 ≤ t := by rw [out, if_neg Bool.false_ne_true] at due; omega
    exact if_pos ⟨rfl, late⟩
  | true =>
    have late : frameStart (h.h + 2) + 120000 ≤ t := by rw [out, if_pos rfl] at due; omega
    exact (if_neg fun no => Bool.false_ne_true no.1).trans (if_pos ⟨rfl, late⟩)

end HandOver

/-! ### HART (R347–R349) -/

section Hart

variable {s : State} {ch cmd t core : Nat} {bs : List Byte} {r : HartReq}

theorem hartStart_empty (empty : (axOf s ch).queue = []) (t : Nat) : hartStart s ch t = s := by
  simp only [hartStart, empty]

theorem hartStart_busy (busy : (axOf s ch).busy ≠ none) (t : Nat) : hartStart s ch t = s := by
  obtain ⟨r, run⟩ := Option.ne_none_iff_exists'.1 busy
  unfold hartStart
  extract_lets x
  split
  · rfl
  · exact if_pos (by rw [run, Option.isSome_some, Bool.true_or])

theorem hartStart_free {r : HartReq} {rs : List HartReq} (queue : (axOf s ch).queue = r :: rs) (free : (axOf s ch).busy = none)
    (sends : hartSends s = true) (runs : hartSuspended s ch = false) (t : Nat) : hartStart s ch t =
      send (setAx s ch { axOf s ch with queue := rs, busy := some r, busyAt := t }) 4 ch (r.cmd :: r.data.map (·.toNat)) := by
  simp [hartStart, queue, free, sends, runs]

/-- The state in which a command has entered a channel's queue. -/
def hartQueued (s : State) (ch cmd : Nat) (bs : List Byte) : State :=
  setAx s ch { axOf s ch with queue := (axOf s ch).queue ++ [{ cmd := cmd, data := bs }] }

section Request

variable (run : runningClass s core ≠ none) (low : ch < 8) (hart : (axCfg s ch).hart = true)

include run low hart

theorem exec_hartReq_full (full : 8 ≤ (axOf s ch).queue.length) : exec (.hartReq core ch cmd bs t) s =
    .next (answer (setAx (atTime s t) ch { axOf s ch with last := 4 }) (.value 4)) := by
  obtain ⟨k, runs⟩ := Option.ne_none_iff_exists'.1 run
  have runs' : runningClass (atTime s t) core = some k := runs
  have ran : ¬ (8 ≤ ch ∨ (axCfg s ch).hart = false) := by simp [low, hart]
  show execHartReq core ch cmd bs t s = _
  simp only [execHartReq, runs']
  exact (if_neg ran).trans (if_pos full)

theorem exec_hartReq_room (room : (axOf s ch).queue.length < 8) : exec (.hartReq core ch cmd bs t) s =
    .next (hartStart (hartQueued (atTime s t) ch cmd bs) ch t) := by
  obtain ⟨k, runs⟩ := Option.ne_none_iff_exists'.1 run
  have runs' : runningClass (atTime s t) core = some k := runs
  have ran : ¬ (8 ≤ ch ∨ (axCfg s ch).hart = false) := by simp [low, hart]
  show execHartReq core ch cmd bs t s = _
  simp only [execHartReq, runs']
  exact (if_neg ran).trans (if_neg (Nat.not_le.2 room))

theorem exec_hartReq_waits (room : (axOf s ch).queue.length < 8) (busy : (axOf s ch).busy ≠ none) :
    exec (.hartReq core ch cmd bs t) s = .next (hartQueued (atTime s t) ch cmd bs) := by
  rw [exec_hartReq_room run low hart room, hartStart_busy]
  rwa [hartQueued, axOf_setAx_same]

theorem exec_hartReq_starts (empty : (axOf s ch).queue = []) (free : (axOf s ch).busy = none) (sends : hartSends s = true)
    (runs : hartSuspended s ch = false) : exec (.hartReq core ch cmd bs t) s =
      .next (send (setAx (hartQueued (atTime s t) ch cmd bs) ch { axOf s ch with busy := some { cmd := cmd, data := bs }, busyAt := t })
        4 ch (cmd :: bs.map (·.toNat))) := by
  have own : axOf (hartQueued (atTime s t) ch cmd bs) ch = { axOf s ch with queue := [{ cmd := cmd, data := bs }] } := by
    have : axOf (atTime s t) ch = axOf s ch := rfl
    rw [hartQueued, axOf_setAx_same, this, empty, List.nil_append]
  have runs' : hartSuspended (hartQueued (atTime s t) ch cmd bs) ch = false := by
    unfold hartSuspended at runs ⊢
    rw [own]
    exact runs
  have sends' : hartSends (hartQueued (atTime s t) ch cmd bs) = true := sends
  rw [exec_hartReq_room run low hart (by rw [empty]; decide),
    hartStart_free (by rw [own]) (by rw [own]; exact free) sends' runs', own, ← empty]

end Request

/-- A channel after a transaction has ended with a status (R348). -/
def hartEnded (x : AxState) (status cmd : Nat) : AxState :=
  { x with
    busy := none, last := status, lastCmd := cmd
    hartOk := if status = 0 then satAdd 0xFFFF x.hartOk 1 else x.hartOk
    hartBad := if status = 1 ∨ status = 2 then satAdd 0xFFFF x.hartBad 1 else x.hartBad }

/-- The state in which a channel's transaction is over. -/
def hartIdle (s : State) (ch : Nat) : State := setAx s ch { axOf s ch with busy := none }

theorem axOf_hartDeliver {v : State} (lio : v.lio = (hartIdle s ch).lio) (status cmd : Nat) (bs : List Byte) (t m : Nat) :
    axOf (hartDeliver v ch status cmd bs t) m = if m = ch then hartEnded (axOf s ch) status cmd else axOf s m := by
  have own : axOf v ch = { axOf s ch with busy := none } := (axOf_congr lio ch).trans (axOf_setAx_same ..)
  have left := axOf_congr ((putTelegram_keeps (setAx v ch { axOf v ch with
    last := status, lastCmd := cmd
    hartOk := if status = 0 then satAdd 0xFFFF (axOf v ch).hartOk 1 else (axOf v ch).hartOk
    hartBad := if status = 1 ∨ status = 2 then satAdd 0xFFFF (axOf v ch).hartBad 1 else (axOf v ch).hartBad })
    (tgItem (axCfg v ch).part 3 ch t 0 (BitVec.ofNat 8 status :: bs))).same .lio rfl) m
  refine left.trans ((axOf_setAx ..).trans ?_)
  split
  · rw [own]; rfl
  next other => exact (axOf_congr lio m).trans (axOf_setAx_other _ _ other)

theorem queue_hartDeliver {v : State} (lio : v.lio = (hartIdle s ch).lio) (empty : (axOf s ch).queue = []) (status cmd : Nat)
    (bs : List Byte) (t : Nat) : (axOf (hartDeliver v ch status cmd bs t) ch).queue = [] := by
  rw [axOf_hartDeliver lio, if_pos rfl]; exact empty

theorem exec_hartResponse_only (busy : (axOf s ch).busy = some r) (empty : (axOf s ch).queue = []) (hart : (axCfg s ch).hart = true)
    (ok : Bool) : exec (.hartResponse ch cmd bs ok t) s =
      .next (hartDeliver (hartIdle (atTime s t) ch) ch (if ok then 0 else 2) r.cmd bs t) := by
  have busy' : (axOf (atTime s t) ch).busy = some r := busy
  have ran : ¬ (axCfg (atTime s t) ch).hart = false := Bool.ne_false_iff.2 hart
  show execHartResponse ch cmd bs ok t s = _
  simp only [execHartResponse, busy']
  refine (if_neg ran).trans (congrArg Host.Outcome.next (hartStart_empty ?_ t))
  exact queue_hartDeliver (s := atTime s t) rfl empty ..

/-- The state in which a transaction without a response is over (R348). -/
def hartTimedOut (s : State) (ch : Nat) : State := raise (hartIdle s ch) { blk := 0xF, ev := 3, info := [ch] }

theorem exec_hartTimeout_only (busy : (axOf s ch).busy = some r) (empty : (axOf s ch).queue = [])
    (due : (axOf s ch).busyAt + 256000000 ≤ t) : exec (.hartTimeout ch t) s =
      .next (hartDeliver (hartTimedOut (atTime s t) ch) ch 1 r.cmd [] t) := by
  have busy' : (axOf (atTime s t) ch).busy = some r := busy
  show execHartTimeout ch t s = _
  simp only [execHartTimeout, busy']
  refine (if_pos due).trans (congrArg Host.Outcome.next (hartStart_empty ?_ t))
  exact queue_hartDeliver (s := atTime s t) (raise_lio ..) empty ..

/-- A telegram that finds no room is counted in the upper half of its register. -/
theorem flag_putTelegram {a i : Nat} (it : TgItem) (notRec : a ≠ Reg.REC_EVT_STAT) (low : i < 16) (set : flag (rd s a) i = true) :
    flag (rd (putTelegram s it) a) i = true := by
  unfold putTelegram
  extract_lets core x
  split
  · refine flag_raise_mono _ _ notRec ?_
    by_cases own : a = Reg.FBX_FIFO_LOSTn core
    · subst own
      rw [addField, rd_wrField_same, flag, getLsbD_putField _ _ _ _ (by omega), if_neg (by omega)]
      exact set
    · rw [rd_addField_other _ _ _ _ own]; exact set
  · exact set

theorem flag_hartDeliver {v : State} {a i : Nat} (status cmd : Nat) (bs : List Byte) (t : Nat) (notRec : a ≠ Reg.REC_EVT_STAT) (low : i < 16)
    (set : flag (rd v a) i = true) : flag (rd (hartDeliver v ch status cmd bs t) a) i = true :=
  flag_putTelegram _ notRec low (s := setAx v ch _) set

theorem flag_hartTimedOut (s : State) (ch : Nat) : flag (rd (hartTimedOut s ch) Reg.AIO_EVT_STAT) 3 = true :=
  flag_raise _ _ _ 0 (by decide) (by decide) (by decide)

end Hart

/-- Settles O37: a sample is judged as axJudged says, passes over the channels set each from its own state (axOf_foldl_upto), and a HART
transaction leaves its channel as hartEnded says. -/
theorem analogueTerminals : Obligations.AnalogueTerminals := by
  intro s ch t k core cmd meas head conv ok h r bs
  refine ⟨fun low on => ?sample, fun on free due => ?condition, fun ho next steps due => ?fade, fun wait due => ?takeover,
    fun ho due => ?burden, fun run low hart => ⟨fun full => ?full, fun room busy => ?waits, fun empty free sends runs => ?starts⟩,
    fun busy empty => ⟨fun hart => ?response, fun due => ?timeout⟩⟩
  case sample =>
    obtain ⟨v, f, run, own, others, regs⟩ := exec_adcSample_on (t := t) (meas := meas) (head := head) (conv := conv) low on
    have kept : SampleKept (axOf s ch) (axOf v ch) meas head conv := own ▸ sampleKept (atTime s t) ch f
    refine ⟨_, run, kept.meas, kept.head, kept.conv, kept.samples, kept.cmd, kept.hiz, fun driven => ?_, fun idle => ?_,
      flag_wrField_same _ _ _ (by omega), others, onlyRegs_wrField (onlyRegs_mono regs (List.subset_cons_self ..)) List.mem_cons_self⟩
    · have judged : SampleJudged (atTime s t) ch (axOf v ch) meas head := own ▸ sampleJudged (s := atTime s t) driven f
      exact ⟨judged.openN, judged.compN, judged.isOpen, judged.isComp, judged.openCnt⟩
    · have dropped := own.trans (congrArg (fun x : AxState => { x with since := f }) (sample_undriven (s := atTime s t) idle))
      exact ⟨congrArg AxState.isOpen dropped, congrArg AxState.isComp dropped⟩
  case condition =>
    refine ⟨_, exec_conditionRecord_due on free due, ?_, flag_conditionRecorded (atTime s t) ch,
      fun m other => (axOf_conditionRecorded ..).trans (if_neg other), onlyRegs_conditionRecorded (atTime s t) ch⟩
    rw [axOf_conditionRecorded, if_pos rfl]
    rfl
  case fade =>
    subst next
    obtain ⟨v, run, lio, pair⟩ := exec_crossFadeStep_due ho steps due
    have left : ∀ n, axOf (removalTick v) n = if n < 8 ∧ axOutput s n = true then faded h.outgoing (h.fade + 1) (axOf s n) else axOf s n :=
      fun n => (axOf_congr ((lio_removalTick v).trans lio) n).trans (axOf_fadeStepped (atTime s t) h n)
    refine ⟨_, run, (pair_removalTick v).trans (pair.trans (pair_fadeStepped ..)), fun n low out => ?_, fun n idle => ?_⟩
    · rw [left, if_pos ⟨low, out⟩]
      exact ⟨rfl, rfl, rfl⟩
    · rw [left, if_neg fun both => Bool.false_ne_true (idle.symm.trans both.2)]
  case takeover =>
    obtain ⟨only, left⟩ := foldl_takeoverAx (setLio (atTime s t) fun l => { l with aoWait := false })
    refine ⟨_, exec_aoTakeoverDrive_due wait due, ?_, fun n e low bound out => ?_, ?_⟩
    · rw [only]; rfl
    · refine (left n).trans ((if_pos ⟨low, (axBound_iff s n).2 ⟨e, bound, out⟩⟩).trans ?_)
      have bound' : axEp (setLio (atTime s t) fun l => { l with aoWait := false }) n = some e := bound
      rw [bound']
      rfl
    · rw [only]; exact fun _ _ => rfl
  case burden =>
    exact ⟨_, exec_burdenSwitch_due ho due, rfl, Keeps.onlyParts (Keeps.step (setLio_keeps ..) rfl (Keeps.mono (atTime_keeps s t) rfl))⟩
  case full =>
    exact ⟨_, exec_hartReq_full run low hart full, rfl, axOf_setAx_same .., fun m other => axOf_setAx_other _ _ other, rfl⟩
  case waits =>
    exact ⟨_, exec_hartReq_waits run low hart room busy, axOf_setAx_same .., fun m other => axOf_setAx_other _ _ other, rfl⟩
  case starts =>
    refine ⟨_, exec_hartReq_starts run low hart empty free sends runs, axOf_setAx_same .., fun m other => ?_, rfl⟩
    exact (axOf_setAx_other _ _ other).trans (axOf_setAx_other _ _ other)
  case response =>
    have left := axOf_hartDeliver (s := atTime s t) (ch := ch) (v := hartIdle (atTime s t) ch) rfl (if ok then 0 else 2) r.cmd bs t
    refine ⟨_, exec_hartResponse_only busy empty hart ok, fun m other => (left m).trans (if_neg other),
      (left ch).trans ((if_pos rfl).trans ?_)⟩
    cases ok <;> rfl
  case timeout =>
    have left := axOf_hartDeliver (s := atTime s t) (ch := ch) (v := hartTimedOut (atTime s t) ch) (raise_lio ..) 1 r.cmd [] t
    exact ⟨_, exec_hartTimeout_only busy empty due, fun m other => (left m).trans (if_neg other),
      flag_hartDeliver _ _ _ _ (by decide) (by decide) (flag_hartTimedOut ..), (left ch).trans (if_pos rfl)⟩

end Sys2Proof.Machine
end

section
/-! Receiving on CAN (R360–R364): O43, with what the views of a controller show. -/

namespace Sys2Proof.Machine

open Sys2Proof

/-! ### The views of a controller -/

section Views

variable {s u : State} {c d n : Nat}

theorem canCtl_setCan (s : State) (c : Nat) (x : CanCtl) (d : Nat) : canCtl (setCan s c x) d = if d = c then x else canCtl s d :=
  tget_tset ..

@[simp] theorem canCtl_setCan_same (s : State) (c : Nat) (x : CanCtl) : canCtl (setCan s c x) c = x :=
  (canCtl_setCan ..).trans (if_pos rfl)

theorem canCtl_setCan_other (s : State) (x : CanCtl) (h : d ≠ c) : canCtl (setCan s c x) d = canCtl s d :=
  (canCtl_setCan ..).trans (if_neg h)

theorem canCtl_congr (h : u.can = s.can) (c : Nat) : canCtl u c = canCtl s c := by rw [canCtl, h]; rfl

theorem rxObj_of_objs (h : (canCtl u c).objs = (canCtl s c).objs) (n : Nat) : rxObj u c n = rxObj s c n := by
  rw [rxObj, rxObj, h]

theorem rxObj_setObj (s : State) (c n : Nat) (x : RxObj) (i : Nat) : rxObj (setObj s c n x) c i = if i = n then x else rxObj s c i := by
  rw [rxObj, setObj, canCtl_modCan_same]
  exact tget_tset ..

theorem txBuf_of_bufs (h : (canCtl u c).bufs = (canCtl s c).bufs) (n : Nat) : txBuf u c n = txBuf s c n := by
  rw [txBuf, txBuf, h]

theorem txBuf_setBuf (s : State) (c n : Nat) (x : TxBuf) (i : Nat) : txBuf (setBuf s c n x) c i = if i = n then x else txBuf s c i := by
  rw [txBuf, setBuf, canCtl_modCan_same]
  exact tget_tset ..

theorem canCfg_congr (h : u.cfg = s.cfg) (c : Nat) : canCfg u c = canCfg s c := by rw [canCfg, h]; rfl

theorem canEps_congr (h : u.cfg = s.cfg) (b c n : Nat) : canEps u b c n = canEps s b c n := by
  have only : canEps u b c n = canEps { s with cfg := u.cfg } b c n := rfl
  rw [only, h]

theorem flag_raise_can (s : State) {r : RecReq} {i : Nat} (blk : r.blk = 0xD) (ev : r.ev = i) (h : i < 32) :
    flag (rd (raise s r) Reg.CAN_EVT_STAT) i = true := by
  have stat : evtStat r.blk 0 = Reg.CAN_EVT_STAT := by rw [blk]; rfl
  rw [← stat, rd_raise_evt _ _ _ (by rw [stat]; decide), ← ev, flag_or_bit _ (ev ▸ h)]

end Views

/-! ### What a frame leaves behind (R360–R363) -/

section Receive

variable {s u : State} {c n : Nat} {f : CanFrame}

/-- A state differs from s in the buffers of controller c at most. -/
structure OnlyBufs (s u : State) (c : Nat) : Prop where
  rest : u = { s with can := u.can }
  ctl : canCtl u c = { canCtl s c with bufs := (canCtl u c).bufs }

/-- A buffer with the frame's identifier notes its payload. -/
def hearBuf (c : Nat) (f : CanFrame) (u : State) (b : Nat × TxbCfg) : State :=
  if b.2.id = f.id ∧ b.2.ide = f.ide then setBuf u c b.1 { txBuf u c b.1 with heard := some (ofLeBytes f.data) } else u

theorem OnlyBufs.hearBuf (h : OnlyBufs s u c) (b : Nat × TxbCfg) : OnlyBufs s (hearBuf c f u b) c := by
  unfold Machine.hearBuf
  split
  · exact ⟨by rw [h.rest]; rfl, by rw [setBuf, canCtl_modCan_same, h.ctl]⟩
  · exact h

theorem onlyBufs_foldl_hearBuf (l : List (Nat × TxbCfg)) (h : OnlyBufs s u c) : OnlyBufs s (l.foldl (hearBuf c f) u) c := by
  induction l generalizing u with
  | nil => exact h
  | cons b l ih => exact ih (h.hearBuf b)

/-- The state in which controller c has counted an error-free frame. -/
def framed (s : State) (c : Nat) (f : CanFrame) : State := modCan (atTime s f.stamp) c rxGood

/-- The state in which the buffers of controller c have heard a frame that is no reference message. -/
def heardOn (s : State) (c : Nat) (f : CanFrame) : State := (canCfg s c).bufs.foldl (hearBuf c f) (framed s c f)

theorem onlyBufs_heardOn (s : State) (c : Nat) (f : CanFrame) : OnlyBufs (framed s c f) (heardOn s c f) c :=
  onlyBufs_foldl_hearBuf _ ⟨rfl, rfl⟩

theorem canCtl_heardOn (s : State) (c : Nat) (f : CanFrame) :
    canCtl (heardOn s c f) c = { rxGood (canCtl s c) with bufs := (canCtl (heardOn s c f) c).bufs } := by
  rw [(onlyBufs_heardOn s c f).ctl, framed, canCtl_modCan_same]
  rfl

theorem cfg_heardOn (s : State) (c : Nat) (f : CanFrame) : (heardOn s c f).cfg = s.cfg := by
  rw [(onlyBufs_heardOn s c f).rest]; rfl

theorem sig_heardOn (s : State) (c : Nat) (f : CanFrame) : (heardOn s c f).sig = s.sig := by
  rw [(onlyBufs_heardOn s c f).rest]; rfl

theorem frame_heardOn (s : State) (c : Nat) (f : CanFrame) : (heardOn s c f).grid.frame = s.grid.frame := by
  rw [(onlyBufs_heardOn s c f).rest]; rfl

/-- Of controller c the count of format errors has changed at most. -/
def OnlyFmt (s u : State) (c : Nat) : Prop := canCtl u c = { canCtl s c with fmt := (canCtl u c).fmt }

theorem OnlyFmt.of_can (h : u.can = s.can) (c : Nat) : OnlyFmt s u c := by
  rw [OnlyFmt, canCtl_congr h]

/-- A field of the payload is collected, or a frame too short for it is counted (R361). -/
theorem onlyFmt_collectCan (s : State) (c ep : Nat) (f : CanFrame) : OnlyFmt s (collectCan s c ep f) c := by
  have tet : ∀ v q t, OnlyFmt s (collectTet s ep v q t) c := fun v q t => .of_can ((collectTet_keeps s ep v q t).same .can rfl) c
  have ana : ∀ v q t, OnlyFmt s (collectAna s ep v q t) c := fun v q t => .of_can ((collectAna_keeps s ep v q t).same .can rfl) c
  unfold collectCan
  extract_lets a fmt b raw
  clear_value raw b fmt
  split
  · rw [OnlyFmt, canCtl_modCan_same]
  · split
    · exact tet ..
    · exact tet ..
    · exact tet ..
    · exact ana ..

/-- The endpoints of an object are collected from a frame. -/
def collectedCan (s : State) (c n : Nat) (f : CanFrame) : State := (canEps s 7 c n).foldl (fun u ep => collectCan u c ep f) s

theorem onlyFmt_foldl_collectCan (l : List Nat) (s : State) (c : Nat) (f : CanFrame) :
    OnlyFmt s (l.foldl (fun u ep => collectCan u c ep f) s) c := by
  induction l generalizing s with
  | nil => rfl
  | cons ep l ih =>
    have first := onlyFmt_collectCan s c ep f
    have rest := ih (collectCan s c ep f)
    rw [OnlyFmt] at first rest ⊢
    rw [List.foldl_cons, rest, first]

theorem frame_foldl_collectCan (l : List Nat) (s : State) (c : Nat) (f : CanFrame) :
    (l.foldl (fun u ep => collectCan u c ep f) s).grid = s.grid := by
  induction l generalizing s with
  | nil => rfl
  | cons ep l ih => exact (ih _).trans ((collectCan_keeps s c ep f).same .grid rfl)

/-- A routed frame enters the telegram FIFO of its partition (R361). -/
def routedCan (s : State) (c n : Nat) (f : CanFrame) (route : Option Nat) : State :=
  match route with
  | some p => putTelegram s (canItem c n p f)
  | none => s

theorem routedCan_keeps (s : State) (c n : Nat) (f : CanFrame) (route : Option Nat) :
    Keeps 0x2001000001408 s (routedCan s c n f route) := by
  cases route with
  | none => exact Keeps.refl ..
  | some p => exact putTelegram_keeps ..

/-- The state before a frame is stored in its object. -/
def beforeStore (s : State) (c n : Nat) (f : CanFrame) (route : Option Nat) : State :=
  routedCan (collectedCan (heardOn s c f) c n f) c n f route

theorem canCtl_beforeStore (s : State) (c n : Nat) (f : CanFrame) (route : Option Nat) :
    (canCtl (beforeStore s c n f route) c).objs = (canCtl s c).objs ∧ (canCtl (beforeStore s c n f route) c).lock = (canCtl s c).lock := by
  have routed : canCtl (beforeStore s c n f route) c = canCtl (collectedCan (heardOn s c f) c n f) c :=
    canCtl_congr ((routedCan_keeps ..).same .can rfl) c
  rw [routed, collectedCan, onlyFmt_foldl_collectCan _ (heardOn s c f) c f, canCtl_heardOn]
  exact ⟨rfl, rfl⟩

theorem frame_beforeStore (s : State) (c n : Nat) (f : CanFrame) (route : Option Nat) :
    (beforeStore s c n f route).grid.frame = s.grid.frame := by
  rw [beforeStore, (routedCan_keeps ..).same .grid rfl, collectedCan, frame_foldl_collectCan, frame_heardOn]

section Run

variable (on : canOn s c = true)

include on

theorem exec_canFrameReceived_rtr (rtr : f.rtr = true) : exec (.canFrameReceived c f) s =
    .next (modCan (framed s c f) c fun q => { q with fmt := satAdd 0xFFFF q.fmt 1 }) := by
  have on' : ¬ (!canOn s c) = true := by rw [on, Bool.not_true]; exact Bool.false_ne_true
  exact (if_neg on').trans (if_pos rtr)

variable (data : f.rtr = false) (plain : isRef s c f = false)

include data plain

/-- A data frame that is no reference message goes on to its object, if it has one. -/
theorem exec_canFrameReceived_data : exec (.canFrameReceived c f) s =
    match (canCfg s c).objs.find? fun o => decide (o.2.id = f.id) && decide (o.2.ide = f.ide) with
    | none => .next (unknownCan (heardOn s c f) c f)
    | some (n, o) =>
      if o.fd ≠ f.fd then .next (modCan (heardOn s c f) c fun q => { q with fmt := satAdd 0xFFFF q.fmt 1 })
      else .next (storeCan (beforeStore s c n f o.route) c n f) := by
  have on' : ¬ (!canOn s c) = true := by rw [on, Bool.not_true]; exact Bool.false_ne_true
  have data' : ¬ f.rtr = true := by rw [data]; exact Bool.false_ne_true
  have plain' : isRef (modCan (atTime s f.stamp) c rxGood) c f = false := plain
  have objs : (canCfg (heardOn s c f) c).objs = (canCfg s c).objs := by rw [canCfg_congr (cfg_heardOn s c f)]
  refine ((if_neg on').trans (if_neg data')).trans ?_
  simp only [plain', Bool.false_eq_true, if_false]
  show (match (canCfg (heardOn s c f) c).objs.find? _ with | none => _ | some (n, o) => _) = _
  rw [objs]
  rfl

end Run

/-- An object that is not locked takes the frame (R361). -/
theorem rxObj_storeCan_free (free : ∀ a, (canCtl s c).lock ≠ some (n, a)) (i : Nat) : rxObj (storeCan s c n f) c i = if i = n then
    { rxObj s c n with
      timedOut := false, at0 := s.grid.frame, seq := ((rxObj s c n).seq + 1) % 65536
      cur := some f, isNew := true, lost := (rxObj s c n).lost || (rxObj s c n).isNew } else rxObj s c i := by
  rw [← rxObj_setObj]
  unfold storeCan
  extract_lets x y locked
  have open_ : locked = false := by
    unfold locked
    split
    next k a held => exact decide_eq_false fun own => free a (own ▸ held)
    · rfl
  rw [open_]
  rfl

/-- The shadow of a locked object takes the frame (R362). -/
theorem rxObj_storeCan_locked {a : Nat} (locked : (canCtl s c).lock = some (n, a)) (i : Nat) : rxObj (storeCan s c n f) c i = if i = n then
    { rxObj s c n with
      timedOut := false, at0 := s.grid.frame, seq := ((rxObj s c n).seq + 1) % 65536
      shadow := some f, shadowLost := (rxObj s c n).shadow.isSome || (rxObj s c n).shadowLost } else rxObj s c i := by
  rw [← rxObj_setObj]
  unfold storeCan
  extract_lets x y closed
  have closed_ : closed = true := by
    unfold closed
    rw [locked]
    exact decide_eq_true rfl
  rw [closed_]
  rfl

theorem objs_unknownCan (s : State) (c : Nat) (f : CanFrame) : (canCtl (unknownCan s c f) c).objs = (canCtl s c).objs ∧
    (canCtl (unknownCan s c f) c).unk = satAdd 0xFFFF (canCtl s c).unk 1 ∧
    (canCtl (unknownCan s c f) c).unkLast = w32 (bit1 f.ide 31 + f.id % 2 ^ 29) := by
  unfold unknownCan
  extract_lets x n s1 may
  have counted : canCtl s1 c = { x with unk := satAdd 0xFFFF x.unk 1, unkLast := w32 (bit1 f.ide 31 + f.id % 2 ^ 29), unkSince := n } :=
    canCtl_setCan_same ..
  split
  · rw [canCtl_congr (record_can ..), canCtl_modCan_same, counted]
    exact ⟨rfl, rfl, rfl⟩
  · rw [counted]
    exact ⟨rfl, rfl, rfl⟩

theorem sig_unknownCan (s : State) (c : Nat) (f : CanFrame) : (unknownCan s c f).sig = s.sig := (unknownCan_keeps ..).same .sig rfl

theorem flag_unknownCan (s : State) (c : Nat) (f : CanFrame) : flag (rd (unknownCan s c f) Reg.CAN_EVT_STAT) 3 = true := by
  unfold unknownCan
  extract_lets x n s1 may
  have set : flag (rd s1 Reg.CAN_EVT_STAT) 3 = true := flag_setBit _ _ (by decide)
  split
  · rw [rd_record _ _ _ (by decide)]; exact set
  · exact set

/-! ### Collected fields (R361, R364) -/

/-- A four-bit field is collected as it stands in the payload. -/
theorem got_collectCan_tetrad {ep k : Nat} (format : canFormat (daddr (dirEntry s ep)) = 2) (bit : canBit (daddr (dirEntry s ep)) = k)
    (fits : k + 4 ≤ 8 * f.data.length) : tget none (collectedFor s (collectCan s c ep f) f.stamp).got ep =
      some { tet := BitVec.ofNat 4 (bitsOf (ofLeBytes f.data) (k + 3) k), qual := 0, stamp := f.stamp } := by
  have fits' : ¬ 8 * f.data.length < k + fmtBits 2 := Nat.not_lt.2 fits
  have run : collectCan s c ep f = collectTet s ep (BitVec.ofNat 4 (bitsOf (ofLeBytes f.data) (k + 3) k)) 0 f.stamp := by
    simp only [collectCan, format, bit]
    exact if_neg fits'
  have grid : (sourceBack s ep).grid = s.grid := (sourceBack_keeps ..).same .grid rfl
  rw [run, ← collectedFor_congr grid (u := collectTet s ep _ 0 f.stamp) rfl]
  exact got_collectGot (sourceBack s ep) ep _

theorem collectedFor_storeCan (s : State) (n : Nat) (route : Option Nat) (t : Nat) :
    collectedFor s (storeCan (beforeStore s c n f route) c n f) t = collectedFor (heardOn s c f) (collectedCan (heardOn s c f) c n f) t := by
  have next : nextFreeze (heardOn s c f) = nextFreeze s := by rw [nextFreeze, frame_heardOn, nextFreeze]
  have sig : (storeCan (beforeStore s c n f route) c n f).sig = (collectedCan (heardOn s c f) c n f).sig :=
    ((storeCan_keeps ..).same .sig rfl).trans ((routedCan_keeps ..).same .sig rfl)
  rw [collectedFor, collectedFor, next, sig]

end Receive

/-! ### Timeouts and locks (R361, R362) -/

section Lock

variable {s u : State} {c n t : Nat}

theorem lost_collectGot (s : State) (ep : Nat) (g : Got) : (collectGot s ep g).sig.lost = s.sig.lost := by
  unfold collectGot
  split <;> rfl

theorem lost_loseEndpoint (s : State) (t ep k : Nat) : tget false (loseEndpoint s t ep).sig.lost k =
    if k = ep then true else tget false s.sig.lost k := by
  have lost : (loseEndpoint s t ep).sig.lost = tset false s.sig.lost ep true := by
    unfold loseEndpoint
    extract_lets s1
    split
    · exact lost_collectGot ..
    · rfl
  rw [lost, tget_tset]

theorem lost_foldl_loseEndpoint (l : List Nat) (s : State) (t : Nat) {k : Nat} (lost : k ∈ l ∨ tget false s.sig.lost k = true) :
    tget false (l.foldl (fun acc ep => loseEndpoint acc t ep) s).sig.lost k = true := by
  induction l generalizing s with
  | nil => exact lost.resolve_left List.not_mem_nil
  | cons ep l ih =>
    refine ih _ ?_
    rw [lost_loseEndpoint]
    rcases lost with mem | lost
    · rcases List.mem_cons.1 mem with own | mem
      · exact .inr (if_pos own)
      · exact .inl mem
    · exact .inr (by rw [lost, ite_self])

/-- Every source of a list is lost after it has been declared so. -/
theorem lost_loseSource (l : List Nat) (s : State) (t : Nat) {k : Nat} (mem : k ∈ l) : tget false (loseSource s l t).sig.lost k = true := by
  rw [loseSource, raise_sig]
  exact lost_foldl_loseEndpoint l s t (.inl mem)

/-- The state in which an object is a lost source (R361). -/
def rxTimedOut (s : State) (c n t : Nat) : State :=
  raise (loseSource (setObj s c n { rxObj s c n with timedOut := true }) (canEps s 7 c n) t) { blk := 0xD, ev := 2, info := [c, n] }

theorem exec_canRxTimeout_due (watched : (rxoCfg s c n).timeout ≠ 0) (heard : (rxObj s c n).timedOut = false)
    (due : (rxObj s c n).at0 + (rxoCfg s c n).timeout ≤ s.grid.frame) : exec (.canRxTimeout c n t) s = .next (rxTimedOut (atTime s t) c n t) := by
  have heard' : (!(rxObj s c n).timedOut) = true := by rw [heard, Bool.not_false]
  exact if_pos ⟨watched, heard', due⟩

theorem rxObj_rxTimedOut (s : State) (c n t i : Nat) :
    rxObj (rxTimedOut s c n t) c i = if i = n then { rxObj s c n with timedOut := true } else rxObj s c i := by
  rw [← rxObj_setObj]
  have can : (rxTimedOut s c n t).can = (setObj s c n { rxObj s c n with timedOut := true }).can :=
    (raise_can ..).trans ((loseSource_keeps ..).same .can rfl)
  exact rxObj_of_objs (congrArg CanCtl.objs (canCtl_congr can c)) i

/-- What the end of a lock leaves of the locked object (R362). -/
def unlockedObj (x : RxObj) : RxObj :=
  match x.shadow with
  | some g => { x with lockTo := satAdd 0xFFFF x.lockTo 1, cur := some g, isNew := true, lost := x.shadowLost, shadow := none, shadowLost := false }
  | none => { x with lockTo := satAdd 0xFFFF x.lockTo 1 }

theorem endLock_locked {a : Nat} (locked : (canCtl s c).lock = some (n, a)) : endLock s c false =
    raise (setObj (modCan s c fun q => { q with lock := none }) c n (unlockedObj (rxObj s c n))) { blk := 0xD, ev := 4, info := [c, n] } := by
  simp only [endLock, locked, rxObj_unlock]
  rfl

theorem lock_endLock_unreleased (s : State) (c : Nat) : (canCtl (endLock s c false) c).lock = none := by
  cases locked : (canCtl s c).lock with
  | none => rw [endLock_unlocked false locked, locked]
  | some e => rw [endLock_locked locked, canCtl_congr (raise_can ..), setObj, canCtl_modCan_same, canCtl_modCan_same]

theorem rxObj_endLock {a : Nat} (locked : (canCtl s c).lock = some (n, a)) (i : Nat) :
    rxObj (endLock s c false) c i = if i = n then unlockedObj (rxObj s c n) else rxObj s c i := by
  rw [endLock_locked locked, rxObj_of_objs (congrArg CanCtl.objs (canCtl_congr (raise_can ..) c)), rxObj_setObj, rxObj_unlock]

theorem flag_endLock {a : Nat} (locked : (canCtl s c).lock = some (n, a)) : flag (rd (endLock s c false) Reg.CAN_EVT_STAT) 4 = true := by
  rw [endLock_locked locked]
  exact flag_raise_can _ rfl rfl (by decide)

theorem onlyRegs_endLock (s : State) (c : Nat) : onlyRegs [Reg.CAN_EVT_STAT, Reg.REC_EVT_STAT] s (endLock s c false) := by
  cases locked : (canCtl s c).lock with
  | none => rw [endLock_unlocked false locked]; exact onlyRegs_refl _ _
  | some e =>
    rw [endLock_locked locked]
    exact onlyRegs_raise (t := setObj (modCan s c _) c _ _) _ 0 (fun _ _ => rfl) List.mem_cons_self (by decide)

/-- The state after the selection of an object has been written (R362). -/
def objSelected (s : State) (c : Nat) (m : Cmd) : State :=
  settingWritten (wr (endLock s c false) (Reg.CAN_RXO_SEL c) (m.value &&& 0x1FF#32)) (Reg.CAN_RXO_SEL c) (rd s (Reg.CAN_RXO_SEL c))
    (m.value &&& 0x1FF#32) m.session

theorem exec_canRxoSel_passes {m : Cmd} (pass : passes s (Reg.CAN_RXO_SEL c) m) :
    exec (.canRxoSel c m) s = .next (objSelected (touch s m.session) c m) :=
  congrArg Host.Outcome.next (written_of_passes pass _)

theorem exec_canLockTimeout_due {v : Nat} (locked : (canCtl s c).lock = some (n, v)) (due : v + 1000000 ≤ t) :
    exec (.canLockTimeout c t) s = .next (endLock (atTime s t) c false) := by
  have locked' : (canCtl (atTime s t) c).lock = some (n, v) := locked
  show execCanLockTimeout c t s = _
  simp only [execCanLockTimeout, locked']
  exact if_pos due

theorem canRxoSel_ne (c : Nat) : Reg.CAN_RXO_SEL c ≠ Reg.CAN_EVT_STAT ∧ Reg.CAN_RXO_SEL c ≠ Reg.REC_EVT_STAT := by
  constructor
  · show 0x400D0124 + 0x100 * (c % 2) ≠ 0x400D0010
    omega
  · show 0x400D0124 + 0x100 * (c % 2) ≠ 0x4011000C
    omega

theorem can_objSelected (s : State) (c : Nat) (m : Cmd) : (objSelected s c m).can = (endLock s c false).can := settingWritten_can ..

theorem onlyRegs_objSelected (s : State) (c : Nat) (m : Cmd) :
    onlyRegs [Reg.CAN_RXO_SEL c, Reg.CAN_EVT_STAT, Reg.REC_EVT_STAT] s (objSelected s c m) :=
  onlyRegs_record _ (onlyRegs_wr (onlyRegs_mono (onlyRegs_endLock s c) (List.subset_cons_self ..)) List.mem_cons_self)
    (List.mem_cons_of_mem _ (List.mem_cons_of_mem _ List.mem_cons_self))

theorem rd_objSelected (s : State) (c : Nat) (m : Cmd) : rd (objSelected s c m) (Reg.CAN_RXO_SEL c) = m.value &&& 0x1FF#32 := by
  rw [objSelected, settingWritten, rd_record _ _ _ (canRxoSel_ne c).2, rd_wr_same]

theorem rd_event_objSelected (s : State) (c : Nat) (m : Cmd) :
    rd (objSelected s c m) Reg.CAN_EVT_STAT = rd (endLock s c false) Reg.CAN_EVT_STAT := by
  rw [objSelected, settingWritten, rd_record _ _ _ (by decide), rd_wr_other _ _ _ _ (canRxoSel_ne c).1.symm]

end Lock

/-- Settles O43: a frame reaches its object through heardOn and beforeStore, which leave objects and lock alone; the end of a lock is
endLock, which a new selection and the timeout share. -/
theorem canReception : Obligations.CanReception := by
  intro s c n k t v f o m
  refine ⟨fun on => ⟨fun data plain obj fd => ?stored, fun bad => ?format, fun data plain none_ => ?unknown⟩,
    fun watched heard due => ?timeout, fun pass => ?select, fun locked due => ?lockTimeout⟩
  case stored =>
    have run := exec_canFrameReceived_data on data plain
    rw [obj] at run
    have fd' : ¬ o.fd ≠ f.fd := fun no => no fd
    obtain ⟨objs, lock⟩ := canCtl_beforeStore s c n f o.route
    have same : ∀ i, rxObj (beforeStore s c n f o.route) c i = rxObj s c i := rxObj_of_objs objs
    have frame := frame_beforeStore s c n f o.route
    have left := fun (free : ∀ a, (canCtl s c).lock ≠ some (n, a)) =>
      rxObj_storeCan_free (f := f) (n := n) (s := beforeStore s c n f o.route) (c := c) (by rw [lock]; exact free)
    have shadowed := fun a (locked : (canCtl s c).lock = some (n, a)) =>
      rxObj_storeCan_locked (f := f) (s := beforeStore s c n f o.route) (lock.trans locked)
    refine ⟨_, run.trans (if_neg fd'), fun i other => ?_, fun free => ?_, fun a locked => ?_, fun ep eps format bit fits => ?_⟩
    · by_cases locked : ∃ a, (canCtl s c).lock = some (n, a)
      · obtain ⟨a, locked⟩ := locked
        rw [shadowed a locked, if_neg other, same]
      · rw [left fun a no => locked ⟨a, no⟩, if_neg other, same]
    · rw [left free, if_pos rfl, same, frame]
    · rw [shadowed a locked, if_pos rfl, same, frame]
    · have cfg := cfg_heardOn s c f
      have dir : dirEntry (heardOn s c f) ep = dirEntry s ep := dirEntry_congr cfg ep
      have got := got_collectCan_tetrad (s := heardOn s c f) (c := c) (by rw [dir]; exact format) (by rw [dir]; exact bit) fits
      have only : collectedCan (heardOn s c f) c n f = collectCan (heardOn s c f) c ep f := by
        rw [collectedCan, canEps_congr cfg, eps]; rfl
      rw [← only, ← collectedFor_storeCan s n o.route] at got
      exact (congrArg (Option.map _) got).trans rfl
  case format =>
    rcases bad with rtr | ⟨plain, obj, fd⟩
    · exact ⟨_, exec_canFrameReceived_rtr on rtr, by rw [canCtl_modCan_same, framed, canCtl_modCan_same]; rfl,
        rxObj_of_objs (by rw [canCtl_modCan_same, framed, canCtl_modCan_same]; rfl), rfl⟩
    · cases rtr : f.rtr with
      | true =>
        exact ⟨_, exec_canFrameReceived_rtr on rtr, by rw [canCtl_modCan_same, framed, canCtl_modCan_same]; rfl,
          rxObj_of_objs (by rw [canCtl_modCan_same, framed, canCtl_modCan_same]; rfl), rfl⟩
      | false =>
        have run := exec_canFrameReceived_data on rtr plain
        rw [obj] at run
        exact ⟨_, run.trans (if_pos fd), by rw [canCtl_modCan_same, canCtl_heardOn]; rfl,
          rxObj_of_objs (by rw [canCtl_modCan_same, canCtl_heardOn]; rfl), sig_heardOn s c f⟩
  case unknown =>
    have run := exec_canFrameReceived_data on data plain
    rw [none_] at run
    obtain ⟨objs, unk, last⟩ := objs_unknownCan (heardOn s c f) c f
    refine ⟨_, run, ?_, last, flag_unknownCan .., rxObj_of_objs ?_, (sig_unknownCan ..).trans (sig_heardOn s c f)⟩
    · rw [unk, canCtl_heardOn]; rfl
    · rw [objs, canCtl_heardOn]; rfl
  case timeout =>
    refine ⟨_, exec_canRxTimeout_due watched heard due, (rxObj_rxTimedOut ..).trans (if_pos rfl), fun ep mem => ?_,
      flag_raise_can _ rfl rfl (by decide), fun i other => (rxObj_rxTimedOut ..).trans (if_neg other)⟩
    rw [rxTimedOut, raise_sig]
    exact lost_loseSource _ _ _ mem
  case select =>
    have can := can_objSelected (touch s m.session) c m
    refine ⟨_, exec_canRxoSel_passes pass, rd_objSelected .., ⟨?_, fun j a locked => ⟨?_, fun i other => ?_, ?_⟩⟩,
      onlyRegs_objSelected (touch s m.session) c m⟩
    · rw [canCtl_congr can]; exact lock_endLock_unreleased ..
    · rw [rd_event_objSelected]; exact flag_endLock (s := touch s m.session) locked
    · rw [rxObj_of_objs (congrArg CanCtl.objs (canCtl_congr can c))]
      exact (rxObj_endLock (s := touch s m.session) locked i).trans (if_neg other)
    · rw [rxObj_of_objs (congrArg CanCtl.objs (canCtl_congr can c))]
      exact (rxObj_endLock (s := touch s m.session) locked j).trans (if_pos rfl)
  case lockTimeout =>
    exact ⟨_, exec_canLockTimeout_due locked due, lock_endLock_unreleased .., fun j a locked' => ⟨flag_endLock (s := atTime s t) locked',
      fun i other => (rxObj_endLock (s := atTime s t) locked' i).trans (if_neg other),
      (rxObj_endLock (s := atTime s t) locked' j).trans (if_pos rfl)⟩⟩

end Sys2Proof.Machine
end

section
/-! Transmitting on CAN, errors and the time-triggered matrix (R358, R366–R369): O44. -/

namespace Sys2Proof.Machine

open Sys2Proof

section Transmit

variable {s u v : State} {c n p t : Nat}

/-! ### Buffers -/

theorem txBuf_setBuf_same (s : State) (c n : Nat) (x : TxBuf) : txBuf (setBuf s c n x) c n = x := (txBuf_setBuf ..).trans (if_pos rfl)

/-- Buffer n of controller c is left as x, and every other buffer and controller alone. -/
structure BufLeft (s u : State) (c n : Nat) (x : TxBuf) : Prop where
  own : txBuf u c n = x
  bufs : ∀ i, i ≠ n → txBuf u c i = txBuf s c i
  ctls : ∀ d, d ≠ c → canCtl u d = canCtl s d

section Left

variable {x y : TxBuf}

theorem BufLeft.others (h : BufLeft s u c n x) : (∀ i, i ≠ n → txBuf u c i = txBuf s c i) ∧ ∀ d, d ≠ c → canCtl u d = canCtl s d :=
  ⟨h.bufs, h.ctls⟩

theorem BufLeft.refl (s : State) (c n : Nat) : BufLeft s s c n (txBuf s c n) := ⟨rfl, fun _ _ => rfl, fun _ _ => rfl⟩

theorem BufLeft.of_can (h : BufLeft s u c n x) (can : v.can = u.can) : BufLeft s v c n x where
  own := (txBuf_of_bufs (congrArg CanCtl.bufs (canCtl_congr can c)) n).trans h.own
  bufs i other := (txBuf_of_bufs (congrArg CanCtl.bufs (canCtl_congr can c)) i).trans (h.bufs i other)
  ctls d other := (canCtl_congr can d).trans (h.ctls d other)

theorem BufLeft.setBuf (h : BufLeft s u c n x) (y : TxBuf) : BufLeft s (setBuf u c n y) c n y where
  own := txBuf_setBuf_same ..
  bufs i other := ((txBuf_setBuf ..).trans (if_neg other)).trans (h.bufs i other)
  ctls d other := (canCtl_modCan_other _ _ other).trans (h.ctls d other)

theorem BufLeft.modCan (h : BufLeft s u c n x) {f : CanCtl → CanCtl} (bufs : (f (canCtl u c)).bufs = (canCtl u c).bufs) :
    BufLeft s (modCan u c f) c n x := by
  have same : (canCtl (Machine.modCan u c f) c).bufs = (canCtl u c).bufs := by rw [canCtl_modCan_same, bufs]
  exact ⟨(txBuf_of_bufs same n).trans h.own, fun i other => (txBuf_of_bufs same i).trans (h.bufs i other),
    fun d other => (canCtl_modCan_other _ _ other).trans (h.ctls d other)⟩

theorem bufLeft_setBuf (can : u.can = s.can) (y : TxBuf) : BufLeft s (Machine.setBuf u c n y) c n y :=
  ((BufLeft.refl s c n).of_can can).setBuf y

end Left

theorem canCtl_setBuf (s : State) (c n : Nat) (x : TxBuf) :
    canCtl (setBuf s c n x) c = { canCtl s c with bufs := tset {} (canCtl s c).bufs n x } := canCtl_modCan_same ..

/-- A buffer whose frame has become pending. -/
def pended (x : TxBuf) (frame p : Nat) : TxBuf := { x with pend := some p, since := frame, arb := false, due := false, lastQ := some p }

/-- A buffer whose pending frame is cancelled. -/
def cancelled (x : TxBuf) : TxBuf := { x with pend := none, arb := false, due := false, cancels := satAdd 0xFFFF x.cancels 1 }

theorem pendCan_eq (s : State) (c n p : Nat) : pendCan s c n p = setBuf s c n (pended (txBuf s c n) s.grid.frame p) := rfl

theorem cancelCan_eq (s : State) (c n : Nat) : cancelCan s c n = setBuf s c n (cancelled (txBuf s c n)) := rfl

theorem nextCan_empty (empty : (txBuf s c n).held = none) : nextCan s c n = s := by
  simp only [nextCan, empty]

theorem nextCan_held {r : Nat} (held : (txBuf s c n).held = some r) : nextCan s c n =
    setBuf (setBuf s c n { txBuf s c n with held := none }) c n (pended { txBuf s c n with held := none } s.grid.frame r) := by
  simp only [nextCan, held, pendCan_eq, txBuf_setBuf_same]
  rfl

/-! ### Attempts (R366–R368) -/

/-- A buffer whose frame has been sent. -/
def sentBuf (x : TxBuf) (p : Nat) : TxBuf :=
  { x with pend := none, arb := false, due := false, sent := satAdd 0xFFFF x.sent 1, heard := some p }

/-- The state in which a frame of a buffer has been sent, before the held content follows. -/
def frameSent (s : State) (c n p : Nat) : State :=
  let b := txbCfg s c n
  setBuf (modCan (send s 2 c [b.id, bit1 b.ide 0 + bit1 b.fd 1 + bit1 b.brs 2, b.len, p]) c
    fun q => { q with tec := q.tec - 1, txSec := q.txSec + 1 }) c n (sentBuf (txBuf s c n) p)

/-- The state in which an attempt has ended in an error. -/
def attemptFailed (s : State) (c n : Nat) : State :=
  modCan (setBuf s c n { txBuf s c n with arb := false }) c fun q => { q with tec := q.tec + 8, errs := satAdd 0xFFFF q.errs 1 }

/-- What follows a sent frame in its buffer: the held content, if there is any. -/
def followed (x : TxBuf) (frame : Nat) : TxBuf :=
  match x.held with
  | some r => pended { x with held := none } frame r
  | none => x

theorem BufLeft.nextCan {x : TxBuf} (h : BufLeft s u c n x) : BufLeft s (nextCan u c n) c n (followed x u.grid.frame) := by
  cases held : x.held with
  | none =>
    rw [nextCan_empty (by rw [h.own, held]), followed, held]
    exact h
  | some r =>
    rw [nextCan_held (by rw [h.own, held]), followed, held, h.own]
    exact (h.setBuf _).setBuf _

theorem tec_nextCan (s : State) (c n : Nat) : (canCtl (nextCan s c n) c).tec = (canCtl s c).tec := by
  cases held : (txBuf s c n).held with
  | none => rw [nextCan_empty held]
  | some r => rw [nextCan_held held, canCtl_setBuf, canCtl_setBuf]

theorem tec_frameSent (s : State) (c n p : Nat) : (canCtl (frameSent s c n p) c).tec = (canCtl s c).tec - 1 := by
  rw [frameSent, canCtl_setBuf, canCtl_modCan_same]
  rfl

theorem bufLeft_frameSent (s : State) (c n p t : Nat) : BufLeft s (frameSent (atTime s t) c n p) c n (sentBuf (txBuf s c n) p) :=
  (((BufLeft.refl s c n).of_can (v := send (atTime s t) _ _ _) rfl).modCan rfl).setBuf _

section Pending

variable (normal : canNormal s = true) (pend : (txBuf s c n).pend = some p)

include normal pend

theorem exec_canArbitrationStart_on (on : (canCtl s c).busOff = false) : exec (.canArbitrationStart c n t) s =
    .next (setBuf (atTime s t) c n { txBuf s c n with arb := true }) := by
  have on' : (!(canCtl s c).busOff) = true := by rw [on, Bool.not_false]
  have waits : (txBuf s c n).pend.isSome = true := by rw [pend]; rfl
  exact if_pos ⟨normal, waits, on'⟩

theorem exec_canTxDone_pending : exec (.canTxDone c n t) s = .next (nextCan (frameSent (atTime s t) c n p) c n) := by
  have pend' : (txBuf (atTime s t) c n).pend = some p := pend
  have normal' : ¬ (!canNormal (atTime s t)) = true := by
    have same : canNormal (atTime s t) = canNormal s := rfl
    rw [same, normal, Bool.not_true]; exact Bool.false_ne_true
  show execCanTxDone c n t s = _
  simp only [execCanTxDone, pend']
  exact if_neg normal'

/-- An attempt that fails: what is counted of it, when its frame was not due. -/
theorem exec_canTxError_undue (undue : (txBuf s c n).due = false) (lost : Bool) : exec (.canTxError c n lost t) s =
    .next (errState (if lost then setBuf (atTime s t) c n { txBuf s c n with arb := false } else
      modCan (setBuf (atTime s t) c n { txBuf s c n with arb := false }) c
        fun q => { q with tec := q.tec + 8, errs := satAdd 0xFFFF q.errs 1 }) c (canPassive (canCtl s c))) := by
  have ran : ¬ ((txBuf s c n).pend.isNone = true ∨ (!canNormal s) = true) := by simp [pend, normal]
  refine (if_neg ran).trans (congrArg (fun w => Host.Outcome.next (errState w c (canPassive (canCtl s c)))) (if_neg ?_))
  have same : (txBuf (atTime s t) c n).due = (txBuf s c n).due := rfl
  rw [same, undue]
  exact Bool.false_ne_true

theorem exec_canTxError_due (due : (txBuf s c n).due = true) : exec (.canTxError c n true t) s =
    .next (errState (nextCan (cancelCan (setBuf (atTime s t) c n { txBuf s c n with arb := false }) c n) c n) c
      (canPassive (canCtl s c))) := by
  have ran : ¬ ((txBuf s c n).pend.isNone = true ∨ (!canNormal s) = true) := by simp [pend, normal]
  exact (if_neg ran).trans (congrArg (fun w => Host.Outcome.next (errState w c (canPassive (canCtl s c)))) (if_pos due))

end Pending

/-! ### Error states (R358) -/

variable {was : Bool}

/-- A controller that has become error passive tells it. -/
def passiveShown (s : State) (c : Nat) (was : Bool) : State :=
  if canPassive (canCtl s c) && !was then raise s { blk := 0xD, ev := 0, info := [c] } else s

/-- The state in which a controller has gone bus-off and shows it. -/
def busOffShown (s : State) (c : Nat) : State :=
  raise (wrField (modCan s c fun q => { q with busOff := true, recover := false, busOffs := satAdd 0xFFFF q.busOffs 1 }) Reg.CAN_STAT c c 1)
    { blk := 0xD, ev := 1, info := [c] }

/-- The state in which a controller is bus-off: every endpoint it receives is a lost source. -/
def busOffTaken (s : State) (c : Nat) : State :=
  loseSource (busOffShown s c) (epsAt (busOffShown s c) 7 fun a => decide (canCtrl a = c)) (busOffShown s c).grid.now

theorem errState_on (on : ¬ (255 < (canCtl s c).tec ∧ (!(canCtl s c).busOff) = true)) : errState s c was = passiveShown s c was :=
  if_neg on

theorem errState_off (high : 255 < (canCtl s c).tec) (on : (canCtl s c).busOff = false) :
    errState s c was = busOffTaken (passiveShown s c was) c := by
  have on' : (!(canCtl s c).busOff) = true := by rw [on, Bool.not_false]
  exact if_pos ⟨high, on'⟩

theorem can_passiveShown (s : State) (c : Nat) (was : Bool) : (passiveShown s c was).can = s.can := by
  unfold passiveShown
  split
  · exact raise_can ..
  · rfl

theorem canCtl_busOffTaken (s : State) (c d : Nat) : canCtl (busOffTaken s c) d = if d = c then
    { canCtl s c with busOff := true, recover := false, busOffs := satAdd 0xFFFF (canCtl s c).busOffs 1 } else canCtl s d := by
  have can : (busOffTaken s c).can = (wrField (modCan s c _) Reg.CAN_STAT c c 1).can := ((loseSource_keeps ..).same .can rfl).trans (raise_can ..)
  exact (canCtl_congr can d).trans (canCtl_setCan ..)

theorem errState_below (below : (canCtl s c).tec ≤ 255) : errState s c was = passiveShown s c was :=
  errState_on fun off => absurd off.1 (Nat.not_lt.2 below)

theorem canCtl_errState_below (below : (canCtl s c).tec ≤ 255) (d : Nat) : canCtl (errState s c was) d = canCtl s d := by
  rw [errState_below below, canCtl_congr (can_passiveShown s c was)]

/-- The error state changes no buffer and no other controller. -/
theorem BufLeft.errState {x : TxBuf} (h : BufLeft s u c n x) (was : Bool) : BufLeft s (errState u c was) c n x := by
  by_cases off : 255 < (canCtl u c).tec ∧ (canCtl u c).busOff = false
  · have passed : ∀ d, canCtl (passiveShown u c was) d = canCtl u d := canCtl_congr (can_passiveShown u c was)
    have bufs : (canCtl (Machine.errState u c was) c).bufs = (canCtl u c).bufs := by
      rw [errState_off off.1 off.2, canCtl_busOffTaken, if_pos rfl, passed]
    refine ⟨(txBuf_of_bufs bufs n).trans h.own, fun i other => (txBuf_of_bufs bufs i).trans (h.bufs i other), fun d other => ?_⟩
    rw [errState_off off.1 off.2, canCtl_busOffTaken, if_neg other, passed, h.ctls d other]
  · rw [errState_on fun both => off ⟨both.1, by simpa using both.2⟩]
    exact h.of_can (can_passiveShown u c was)

theorem cfg_passiveShown (s : State) (c : Nat) (was : Bool) : (passiveShown s c was).cfg = s.cfg := by
  unfold passiveShown
  split
  · exact raise_cfg ..
  · rfl

theorem attemptFailed_left (s : State) (c n t : Nat) :
    BufLeft s (attemptFailed (atTime s t) c n) c n { txBuf s c n with arb := false } :=
  (bufLeft_setBuf (n := n) (c := c) (s := s) (u := atTime s t) rfl { txBuf s c n with arb := false }).modCan rfl

theorem canCtl_attemptFailed (s : State) (c n t : Nat) : canCtl (attemptFailed (atTime s t) c n) c =
    { canCtl s c with
      tec := (canCtl s c).tec + 8, errs := satAdd 0xFFFF (canCtl s c).errs 1
      bufs := tset {} (canCtl s c).bufs n { txBuf s c n with arb := false } } := by
  rw [attemptFailed, canCtl_modCan_same, canCtl_setBuf]
  rfl

theorem flag_passiveShown (passive : canPassive (canCtl s c) = true) (new : was = false) :
    flag (rd (passiveShown s c was) Reg.CAN_EVT_STAT) 0 = true := by
  rw [passiveShown, passive, new]
  exact flag_raise_can _ rfl rfl (by decide)

theorem flag_evt_busOffTaken (s : State) (c : Nat) : flag (rd (busOffTaken s c) Reg.CAN_EVT_STAT) 1 = true := by
  have shown : rd (busOffTaken s c) Reg.CAN_EVT_STAT = rd (busOffShown s c) Reg.CAN_EVT_STAT :=
    rd_of_keeps (loseSource_keeps ..) rfl (by decide)
  rw [shown]
  exact flag_raise_can _ rfl rfl (by decide)

theorem flag_stat_busOffTaken (s : State) {c : Nat} (low : c < 2) : flag (rd (busOffTaken s c) Reg.CAN_STAT) c = true := by
  have shown : rd (busOffTaken s c) Reg.CAN_STAT = rd (busOffShown s c) Reg.CAN_STAT :=
    rd_of_keeps (loseSource_keeps ..) rfl (by decide)
  rw [shown, busOffShown, rd_raise _ _ _ _ (by decide) (show Reg.CAN_STAT ≠ Reg.CAN_EVT_STAT by decide)]
  exact flag_wrField_same _ _ true (by omega)

theorem epsAt_congr (h : u.cfg = s.cfg) (bt : Nat) (f : Nat → Bool) : epsAt u bt f = epsAt s bt f := by
  have only : epsAt u bt f = epsAt { s with cfg := u.cfg } bt f := rfl
  rw [only, h]

theorem lost_busOffTaken {ep : Nat} (mem : ep ∈ epsAt s 7 fun a => decide (canCtrl a = c)) :
    tget false (busOffTaken s c).sig.lost ep = true := by
  have cfg : (busOffShown s c).cfg = s.cfg := raise_cfg ..
  exact lost_loseSource _ _ _ (by rw [epsAt_congr cfg]; exact mem)

/-! ### Lifetimes and cancellations (R368) -/

theorem exec_canTxLifetime_due (pend : (txBuf s c n).pend = some p) (mode : (txbCfg s c n).cancel = true)
    (due : (txBuf s c n).since + (txbCfg s c n).life ≤ s.grid.frame) : exec (.canTxLifetime c n t) s =
    .next (setBuf (atTime s t) c n (if (txBuf s c n).arb then { txBuf s c n with due := true } else cancelled (txBuf s c n))) := by
  have waits : (txBuf s c n).pend.isSome = true := by rw [pend]; rfl
  refine (if_pos ⟨waits, mode, due⟩).trans ?_
  cases arb : (txBuf s c n).arb with
  | true => exact if_pos arb
  | false => exact if_neg (by rw [show (txBuf (atTime s t) c n).arb = false from arb]; exact Bool.false_ne_true)

/-- The state after the selected buffer has been cancelled by command. -/
def bufCancelled (s : State) (c n : Nat) (m : Cmd) : State :=
  if (txBuf s c n).arb then raise s { blk := 0xD, ev := 5, info := [c, n] } else cancelCan (accepted s (Reg.CAN_TXB_CMD c) m) c n

theorem exec_canCancel_takes {m : Cmd} (take : takes s (Reg.CAN_TXB_CMD c) 0 m) (sel : n = field (rd s (Reg.CAN_TXB_SEL c)) 5 0)
    (pend : (txBuf s c n).pend = some p) (mode : (txbCfg s c n).cancel = true) :
    exec (.canCancel c m) s = .next (bufCancelled (touch s m.session) c n m) := by
  refine congrArg Host.Outcome.next ((keyed_of_takes take _).trans ?_)
  have sel' : field (rd (touch s m.session) (Reg.CAN_TXB_SEL c)) 5 0 = n := sel.symm
  have ran : ¬ ((txBuf (touch s m.session) c n).pend.isNone = true ∨ (!(txbCfg (touch s m.session) c n).cancel) = true) := by
    have p' : (txBuf (touch s m.session) c n).pend = some p := pend
    have m' : (txbCfg (touch s m.session) c n).cancel = true := mode
    simp [p', m']
  simp only [sel']
  exact if_neg ran

theorem bufLeft_bufCancelled (s : State) (c n : Nat) (m : Cmd) :
    BufLeft s (bufCancelled s c n m) c n (if (txBuf s c n).arb then txBuf s c n else cancelled (txBuf s c n)) := by
  unfold bufCancelled
  split
  · exact (BufLeft.refl s c n).of_can (raise_can ..)
  · have can : (accepted s (Reg.CAN_TXB_CMD c) m).can = s.can := accepted_can ..
    have same : txBuf (accepted s (Reg.CAN_TXB_CMD c) m) c n = txBuf s c n := txBuf_of_bufs (congrArg CanCtl.bufs (canCtl_congr can c)) n
    rw [cancelCan_eq, same]
    exact bufLeft_setBuf can _

theorem flag_bufCancelled {m : Cmd} (arb : (txBuf s c n).arb = true) : flag (rd (bufCancelled s c n m) Reg.CAN_EVT_STAT) 5 = true := by
  rw [bufCancelled, if_pos arb]
  exact flag_raise_can _ rfl rfl (by decide)

/-! ### Bus errors and recovery (R358) -/

/-- A controller that has counted an error while receiving. -/
def busErrorCounted (dom : Bool) (q : CanCtl) : CanCtl :=
  { q with rec_ := min 255 (q.rec_ + if dom then 8 else 1), errs := satAdd 0xFFFF q.errs 1 }

theorem exec_canBusError_on (on : canOn s c = true) (dom : Bool) : exec (.canBusError c dom t) s =
    .next (errState (modCan (atTime s t) c (busErrorCounted dom)) c (canPassive (canCtl s c))) := by
  have on' : ¬ (!canOn s c) = true := by rw [on, Bool.not_true]; exact Bool.false_ne_true
  exact if_neg on'

/-- A controller after its bus-off recovery. -/
def recovered (q : CanCtl) : CanCtl := { q with busOff := false, recover := false, tec := 0, rec_ := 0 }

theorem exec_busOffRecovery_may (off : (canCtl s c).busOff = true) (may : (canCfg s c).autorec = true ∨ (canCtl s c).recover = true) :
    exec (.busOffRecovery c t) s = .next (wrField (setCan (atTime s t) c (recovered (canCtl s c))) Reg.CAN_STAT c c 0) := if_pos ⟨off, may⟩

/-- A controller that is told to recover when it is bus-off. -/
def told (q : CanCtl) : CanCtl := { q with recover := q.busOff }

/-- The command reaches controller c when its bit is set. -/
def tellCtl (m : Cmd) (u : State) (c : Nat) : State := if flag m.value c then modCan u c told else u

theorem field_low_ne_zero {w : Word} {c : Nat} (low : c < 2) (set : flag w c = true) : field w 1 0 ≠ 0 := by
  intro zero
  have bit : (field w 1 0).testBit c = flag w c := by rw [testBit_field]; simp [low, flag]
  rw [zero, Nat.zero_testBit, set] at bit
  exact Bool.false_ne_true bit

theorem exec_canRecover_takes {m : Cmd} (low : c < 2) (take : takes s Reg.CAN_CMD c m) : exec (.canRecover m) s =
    .next ((upto 2).foldl (tellCtl m) (accepted (touch s m.session) Reg.CAN_CMD m)) := by
  obtain ⟨pass, key, set⟩ := take
  refine congrArg Host.Outcome.next ((written_of_passes pass _).trans ?_)
  exact (if_pos key).trans (if_neg (field_low_ne_zero low set))

theorem canCtl_tellCtl (m : Cmd) (u : State) (k d : Nat) :
    canCtl (tellCtl m u k) d = if d = k ∧ flag m.value k = true then told (canCtl u d) else canCtl u d := by
  unfold tellCtl
  by_cases set : flag m.value k = true
  · rw [if_pos set]
    by_cases own : d = k
    · subst own; rw [canCtl_modCan_same, if_pos ⟨rfl, set⟩]
    · rw [canCtl_modCan_other _ _ own, if_neg fun h => own h.1]
  · rw [if_neg set, if_neg fun h => set h.2]

theorem canCtl_told {m : Cmd} (low : c < 2) (set : flag m.value c = true) (s : State) :
    canCtl ((upto 2).foldl (tellCtl m) s) c = told (canCtl s c) := by
  show canCtl (tellCtl m (tellCtl m s 0) 1) c = _
  rw [canCtl_tellCtl, canCtl_tellCtl]
  interval_cases c
  · rw [if_neg fun h => absurd h.1 (by decide), if_pos ⟨rfl, set⟩]
  · rw [if_pos ⟨rfl, set⟩, if_neg fun h => absurd h.1 (by decide)]

theorem onlyRegs_told (m : Cmd) (s : State) : onlyRegs [] s ((upto 2).foldl (tellCtl m) s) := by
  have one : ∀ u k, onlyRegs [] u (tellCtl m u k) := fun u k => by
    unfold tellCtl
    split <;> exact fun _ _ => rfl
  exact onlyRegs_trans (one s 0) (one (tellCtl m s 0) 1)

/-! ### The time-triggered matrix (R369) -/

theorem ttJudge_unchecked (free : (canCtl s c).check = none) : ttJudge s c = s := by
  simp only [ttJudge, free]

theorem rxObj_modCan_objs {f : CanCtl → CanCtl} (objs : (f (canCtl s c)).objs = (canCtl s c).objs) (i : Nat) :
    rxObj (modCan s c f) c i = rxObj s c i := rxObj_of_objs (by rw [canCtl_modCan_same, objs]) i

/-- The state in which a reception check has been missed. -/
def receptionMissed (s : State) (c n : Nat) : State :=
  raise (modCan (modCan s c fun q => { q with check := none }) c fun q => { q with rxMiss := satAdd 0xFFFF q.rxMiss 1 })
    { blk := 0xD, ev := 6, info := [c, n] }

theorem ttJudge_missed (check : (canCtl s c).check = some (n, (rxObj s c n).seq)) : ttJudge s c = receptionMissed s c n := by
  simp only [ttJudge, check]
  rfl

theorem canCtl_receptionMissed (s : State) (c n : Nat) :
    canCtl (receptionMissed s c n) c = { canCtl s c with check := none, rxMiss := satAdd 0xFFFF (canCtl s c).rxMiss 1 } := by
  rw [receptionMissed, canCtl_congr (raise_can ..), canCtl_modCan_same, canCtl_modCan_same]

section Mark

variable {h : Nat} {z : TtCell} (tt : (canCfg s c).tt = true)

include tt

theorem exec_ttTimeMark_cell (cell : (canCfg s c).cells.find? (fun e =>
      decide (e.cycle = (canCtl (ttJudge (atTime s t) c) c).cycle % max (canCfg s c).cycles 1) && decide (e.mark = h)) = some z) :
    exec (.ttTimeMark c h t) s =
      match z.kind with
      | 3 => .next (modCan (ttJudge (atTime s t) c) c fun q =>
          { q with check := z.index.head?.map fun n => (n, (rxObj (ttJudge (atTime s t) c) c n).seq) })
      | 0 => .next (ttJudge (atTime s t) c)
      | _ => if canNormal (ttJudge (atTime s t) c) then
          .next (z.index.foldl (fun u n => pendCan u c n (txPayload u c n)) (ttJudge (atTime s t) c)) else .next (ttJudge (atTime s t) c) := by
  have on : ¬ (!(canCfg (atTime s t) c).tt) = true := by
    rw [show (canCfg (atTime s t) c).tt = true from tt, Bool.not_true]; exact Bool.false_ne_true
  have cell' : (canCfg (atTime s t) c).cells.find? (fun x => decide (x.cycle = (canCtl (ttJudge (atTime s t) c) c).cycle %
      max (canCfg (atTime s t) c).cycles 1) && decide (x.mark = h)) = some z := cell
  show execTtTimeMark c h t s = _
  simp only [execTtTimeMark, cell']
  exact if_neg on

theorem exec_ttTimeMark_unchecked (free : (canCtl s c).check = none) (cell : (canCfg s c).cells.find? (fun e =>
      decide (e.cycle = (canCtl s c).cycle % max (canCfg s c).cycles 1) && decide (e.mark = h)) = some z) :
    exec (.ttTimeMark c h t) s =
      match z.kind with
      | 3 => .next (modCan (atTime s t) c fun q => { q with check := z.index.head?.map fun n => (n, (rxObj s c n).seq) })
      | 0 => .next (atTime s t)
      | _ => if canNormal s then .next (z.index.foldl (fun u n => pendCan u c n (txPayload u c n)) (atTime s t)) else .next (atTime s t) := by
  have judged : ttJudge (atTime s t) c = atTime s t := ttJudge_unchecked free
  have run := exec_ttTimeMark_cell (t := t) tt (by rw [judged]; exact cell)
  rw [judged] at run
  exact run

end Mark

end Transmit

/-- Settles O44: what an attempt, a lifetime or a command leaves of its buffer is said by BufLeft, which counting and the error state keep. -/
theorem canTransmission : Obligations.CanTransmission := by
  intro s c n p h t m z
  refine ⟨fun normal pend => ⟨fun on => ?start, ?done, fun undue => ?lost, fun undue below => ?error, fun undue low high on => ?off,
      fun due empty below => ?due⟩,
    fun pend mode => ⟨fun due => ?lifetime, fun take sel => ?cancel⟩, fun on below dom => ?busError, fun low off may => ?recovery,
    fun low take => ?recover, fun tt cell => ⟨fun free kind index normal => ?exclusive, fun free kind => ?check, fun check kind => ?missed⟩⟩
  case start =>
    have left := bufLeft_setBuf (n := n) (c := c) (s := s) (u := atTime s t) rfl { txBuf s c n with arb := true }
    exact ⟨_, exec_canArbitrationStart_on normal pend on, left.own, left.others,
      Keeps.onlyParts (Keeps.step (setBuf_keeps ..) rfl (Keeps.mono (atTime_keeps s t) rfl))⟩
  case done =>
    have left := (bufLeft_frameSent s c n p t).nextCan
    refine ⟨_, exec_canTxDone_pending normal pend, (nextCan_keeps ..).same .sent rfl, ?_, left.others,
      Keeps.onlyParts (Keeps.step (nextCan_keeps ..) rfl (Keeps.step (setBuf_keeps ..) rfl (Keeps.step (modCan_keeps ..) rfl
        (Keeps.step (send_keeps ..) rfl (Keeps.mono (atTime_keeps s t) rfl))))), left.own.trans ?_⟩
    · rw [tec_nextCan, tec_frameSent]
      rfl
    · cases held : (txBuf s c n).held with
      | none => rw [followed, show (sentBuf (txBuf s c n) p).held = none from held]; rw [sentBuf, held]
      | some r => rw [followed, show (sentBuf (txBuf s c n) p).held = some r from held]; rfl
  case lost =>
    have left := (bufLeft_setBuf (n := n) (c := c) (s := s) (u := atTime s t) rfl { txBuf s c n with arb := false }).errState
      (canPassive (canCtl s c))
    refine ⟨_, exec_canTxError_undue normal pend undue true, fun below => ?_, left.own, left.others⟩
    have ctl := canCtl_setBuf (atTime s t) c n { txBuf s c n with arb := false }
    have below' : (canCtl (setBuf (atTime s t) c n { txBuf s c n with arb := false }) c).tec ≤ 255 := by rw [ctl]; exact below
    rw [if_pos rfl, canCtl_errState_below below', ctl]
    rfl
  case error =>
    have left := (attemptFailed_left s c n t).errState (canPassive (canCtl s c))
    have ctl := canCtl_attemptFailed s c n t
    have below' : (canCtl (attemptFailed (atTime s t) c n) c).tec ≤ 255 := by rw [ctl]; exact below
    refine ⟨_, exec_canTxError_undue normal pend undue false, ?_, ?_, ?_, left.own, left.others, fun passive active => ?_⟩
    · exact (congrArg CanCtl.tec (canCtl_errState_below below' c)).trans (by rw [ctl])
    · exact (congrArg CanCtl.errs (canCtl_errState_below below' c)).trans (by rw [ctl])
    · exact (congrArg CanCtl.busOff (canCtl_errState_below below' c)).trans (by rw [ctl])
    · have shown := flag_passiveShown (s := attemptFailed (atTime s t) c n) (c := c) (was := canPassive (canCtl s c))
        (by rw [ctl, canPassive, decide_eq_true passive, Bool.true_or]) active
      rw [← errState_below below'] at shown
      exact shown
  case off =>
    have left := (attemptFailed_left s c n t).errState (canPassive (canCtl s c))
    have ctl := canCtl_attemptFailed s c n t
    have over_ : errState (attemptFailed (atTime s t) c n) c (canPassive (canCtl s c)) = _ :=
      errState_off (by rw [ctl]; exact high) (by rw [ctl]; exact on)
    have passed : canCtl (passiveShown (attemptFailed (atTime s t) c n) c (canPassive (canCtl s c))) c = _ :=
      (canCtl_congr (can_passiveShown ..) c).trans ctl
    have off := (canCtl_busOffTaken (passiveShown (attemptFailed (atTime s t) c n) c (canPassive (canCtl s c))) c c).trans (if_pos rfl)
    refine ⟨_, (exec_canTxError_undue normal pend undue false).trans (congrArg Host.Outcome.next over_), congrArg CanCtl.busOff off, ?_,
      congrArg CanCtl.recover off, flag_stat_busOffTaken _ low, flag_evt_busOffTaken .., (over_ ▸ left).others, fun ep mem => ?_⟩
    · rw [off, passed]
    · refine lost_busOffTaken ?_
      have cfg : (passiveShown (attemptFailed (atTime s t) c n) c (canPassive (canCtl s c))).cfg = s.cfg := cfg_passiveShown ..
      rw [epsAt_congr cfg]
      exact mem
  case due =>
    have failed := bufLeft_setBuf (n := n) (c := c) (s := s) (u := atTime s t) rfl { txBuf s c n with arb := false }
    have left := failed.setBuf (cancelled (txBuf (setBuf (atTime s t) c n { txBuf s c n with arb := false }) c n))
    have empty' : (txBuf (cancelCan (setBuf (atTime s t) c n { txBuf s c n with arb := false }) c n) c n).held = none := by
      rw [cancelCan_eq, left.own, failed.own]; exact empty
    have run := exec_canTxError_due (t := t) normal pend due
    rw [nextCan_empty empty', cancelCan_eq] at run
    refine ⟨_, run, ((left.errState _).own).trans ?_, (left.errState _).others⟩
    rw [failed.own]
    rfl
  case lifetime =>
    have left := bufLeft_setBuf (n := n) (c := c) (s := s) (u := atTime s t) rfl
      (if (txBuf s c n).arb then { txBuf s c n with due := true } else cancelled (txBuf s c n))
    exact ⟨_, exec_canTxLifetime_due pend mode due, left.own, left.others,
      Keeps.onlyParts (Keeps.step (setBuf_keeps ..) rfl (Keeps.mono (atTime_keeps s t) rfl))⟩
  case cancel =>
    have left := bufLeft_bufCancelled (touch s m.session) c n m
    exact ⟨_, exec_canCancel_takes take sel pend mode, left.others, left.own, fun arb => flag_bufCancelled (s := touch s m.session) arb⟩
  case busError =>
    have ctl : canCtl (modCan (atTime s t) c (busErrorCounted dom)) c = busErrorCounted dom (canCtl s c) := canCtl_modCan_same ..
    have left : ∀ d, canCtl (errState (modCan (atTime s t) c (busErrorCounted dom)) c (canPassive (canCtl s c))) d =
        canCtl (modCan (atTime s t) c (busErrorCounted dom)) d := canCtl_errState_below (by rw [ctl]; exact below)
    refine ⟨_, exec_canBusError_on on dom, ?_, ?_, ?_, ?_, fun d other => (left d).trans (canCtl_modCan_other _ _ other)⟩ <;>
      rw [left, ctl] <;> rfl
  case recovery =>
    exact ⟨_, exec_busOffRecovery_may off may, canCtl_setCan_same .., flag_wrField_same _ _ false (by omega),
      fun d other => canCtl_setCan_other _ _ other, onlyRegs_wrField (fun _ _ => rfl) List.mem_cons_self⟩
  case recover =>
    refine ⟨_, exec_canRecover_takes low take, ?_, ?_⟩
    · rw [canCtl_told low take.2.2, canCtl_congr (accepted_can ..)]; rfl
    · exact onlyRegs_trans (onlyRegs_record (t := touch s m.session) _ (fun _ _ => rfl) List.mem_cons_self)
        (onlyRegs_mono (onlyRegs_told m _) (List.nil_subset _))
  case exclusive =>
    have run := exec_ttTimeMark_unchecked (t := t) tt free cell
    rw [kind, index, normal] at run
    have left := bufLeft_setBuf (n := n) (c := c) (s := s) (u := atTime s t) rfl (pended (txBuf s c n) s.grid.frame (txPayload s c n))
    exact ⟨_, run, left.others, left.own⟩
  case check =>
    have run := exec_ttTimeMark_unchecked (t := t) tt free cell
    rw [kind] at run
    exact ⟨_, run, by rw [canCtl_modCan_same], by rw [canCtl_modCan_same]; rfl⟩
  case missed =>
    have judged : ttJudge (atTime s t) c = receptionMissed (atTime s t) c n := ttJudge_missed check
    have run := exec_ttTimeMark_cell (t := t) (z := z) (h := h) tt (by rw [judged, canCtl_receptionMissed]; exact cell)
    rw [kind, judged] at run
    exact ⟨_, run, canCtl_receptionMissed .., flag_raise_can _ rfl rfl (by decide)⟩

end Sys2Proof.Machine
end

section
/-! What the refresh of the time quantities and a selection leave as it was (R381–R387): the frame of O45 and O46. -/

namespace Sys2Proof.Machine

open Sys2Proof

/-! ### The frame -/

/-- The time bases apart from what a refresh and a selection change: the PTP clocks, the followed offset, the reference of the holdover,
and UTC. -/
def timRest (t : TimState) : TimState :=
  { t with inst := [], ofs3 := 0, lastOk := 0, lastOkSec := 0, lsk := false, utc := 0, leap61 := false, leap59 := false }

/-- A PTP clock apart from the instant since which it can be selected. -/
def instRest (x : PtpInst) : PtpInst := { x with okSince := none }

/-- The registers that a refresh and a selection write. -/
def timShown : List Nat :=
  [Reg.TIM_STAT, Reg.TIM_TQ, Reg.TIM_UTC, Reg.TIM_HO_UNC, Reg.TIM_HO_AGE, Reg.TIM_EVT_STAT, Reg.FRM_EVT_STAT, Reg.REC_EVT_STAT]

/-- The time bases stand but for what a refresh and a selection change; of TIM_STAT only the bits of a list may differ. -/
structure TimKept (bits : List Nat) (s u : State) : Prop where
  cfg : u.cfg = s.cfg
  tim : timRest u.tim = timRest s.tim
  inst : ∀ i, instRest (ptpInst u i) = instRest (ptpInst s i)
  synced : s.grid.neverSync = false → u.grid.neverSync = false
  regs : onlyRegs timShown s u
  evt : ∀ i, flag (rd s Reg.TIM_EVT_STAT) i = true → flag (rd u Reg.TIM_EVT_STAT) i = true
  frm : ∀ i, flag (rd s Reg.FRM_EVT_STAT) i = true → flag (rd u Reg.FRM_EVT_STAT) i = true
  stat : ∀ i, i < 32 → i ∉ bits → flag (rd u Reg.TIM_STAT) i = flag (rd s Reg.TIM_STAT) i

section Frame

variable {bits more : List Nat} {s u v : State}

theorem TimKept.refl (bits : List Nat) (s : State) : TimKept bits s s :=
  ⟨rfl, rfl, fun _ => rfl, fun h => h, fun _ _ => rfl, fun _ h => h, fun _ h => h, fun _ _ _ => rfl⟩

theorem TimKept.trans (h : TimKept bits s u) (k : TimKept bits u v) : TimKept bits s v where
  cfg := k.cfg.trans h.cfg
  tim := k.tim.trans h.tim
  inst i := (k.inst i).trans (h.inst i)
  synced h0 := k.synced (h.synced h0)
  regs := onlyRegs_trans h.regs k.regs
  evt i h0 := k.evt i (h.evt i h0)
  frm i h0 := k.frm i (h.frm i h0)
  stat i low out := (k.stat i low out).trans (h.stat i low out)

theorem TimKept.mono (h : TimKept bits s u) (sub : bits ⊆ more) : TimKept more s u :=
  { h with stat := fun i low out => h.stat i low fun mem => out (sub mem) }

/-- A change of the time bases that keeps the PTP clocks and the rest of the frame. -/
theorem TimKept.setTim (h : TimKept bits s u) {f : TimState → TimState} (rest : timRest (f u.tim) = timRest u.tim)
    (inst : (f u.tim).inst = u.tim.inst) : TimKept bits s (setTim u f) :=
  h.trans ⟨rfl, rest, fun i => by
    show instRest (tget {} (f u.tim).inst i) = instRest (tget {} u.tim.inst i)
    rw [inst], fun h => h, fun _ _ => rfl, fun _ h => h, fun _ h => h, fun _ _ _ => rfl⟩

theorem TimKept.setGrid (h : TimKept bits s u) {g : Grid} (synced : u.grid.neverSync = false → g.neverSync = false) :
    TimKept bits s { u with grid := g } :=
  h.trans ⟨rfl, rfl, fun _ => rfl, synced, fun _ _ => rfl, fun _ h => h, fun _ h => h, fun _ _ _ => rfl⟩

/-- A shown quantity other than TIM_STAT and the events is written. -/
theorem TimKept.wr (h : TimKept bits s u) {a : Nat} (v : Word)
    (shown : a ∈ [Reg.TIM_TQ, Reg.TIM_UTC, Reg.TIM_HO_UNC, Reg.TIM_HO_AGE]) : TimKept bits s (wr u a v) := by
  have apart : Reg.TIM_EVT_STAT ≠ a ∧ Reg.FRM_EVT_STAT ≠ a ∧ Reg.TIM_STAT ≠ a := by
    refine ⟨?_, ?_, ?_⟩ <;> (rintro rfl; exact absurd shown (by decide))
  have sub : [Reg.TIM_TQ, Reg.TIM_UTC, Reg.TIM_HO_UNC, Reg.TIM_HO_AGE] ⊆ timShown := by decide
  exact h.trans ⟨rfl, rfl, fun _ => rfl, fun h => h, onlyRegs_wr (fun _ _ => rfl) (sub shown),
    fun i h => by rwa [rd_wr_other _ _ _ _ apart.1], fun i h => by rwa [rd_wr_other _ _ _ _ apart.2.1],
    fun i _ _ => by rw [rd_wr_other _ _ _ _ apart.2.2]⟩

/-- Fields of TIM_STAT within the bits that may differ are written. -/
theorem TimKept.wrStat (h : TimKept bits s u) {hi lo : Nat} (v : Nat) (inside : ∀ i, i < 32 → lo ≤ i → i ≤ hi → i ∈ bits) :
    TimKept bits s (wrField u Reg.TIM_STAT hi lo v) := by
  refine h.trans ⟨rfl, rfl, fun _ => rfl, fun h => h, onlyRegs_wrField (fun _ _ => rfl) List.mem_cons_self, fun i h => ?_, fun i h => ?_,
    fun i low out => ?_⟩
  · rwa [wrField, rd_wr_other _ _ _ _ (by decide)]
  · rwa [wrField, rd_wr_other _ _ _ _ (by decide)]
  · rw [rd_wrField_same, flag, getLsbD_putField _ _ _ _ low, if_neg fun both => out (inside i low both.1 both.2)]
    rfl

theorem TimKept.record (h : TimKept bits s u) (r : RecReq) : TimKept bits s (record u r) := by
  have keeps := record_keeps u r
  have inst : ∀ i, ptpInst (Machine.record u r) i = ptpInst u i := fun i => by rw [ptpInst, ptpInst, record_tim]
  exact h.trans ⟨record_cfg .., by rw [record_tim], fun i => by rw [inst], fun h => by rw [record_grid]; exact h,
    onlyRegs_record _ (fun _ _ => rfl) (by decide), fun i h => by rwa [rd_record _ _ _ (by decide)],
    fun i h => by rwa [rd_record _ _ _ (by decide)], fun i _ _ => by rw [rd_record _ _ _ (by decide)]⟩

/-- An event of the time bases or of the sequencer is raised. -/
theorem TimKept.raise (h : TimKept bits s u) (r : RecReq) (own : r.blk = 0xB ∨ r.blk = 1) : TimKept bits s (raise u r) := by
  have evt : evtStat r.blk 0 = Reg.TIM_EVT_STAT ∨ evtStat r.blk 0 = Reg.FRM_EVT_STAT := own.imp (fun b => by rw [b]; rfl) (fun b => by rw [b]; rfl)
  have shown : evtStat r.blk 0 ∈ timShown := by rcases evt with e | e <;> rw [e] <;> decide
  have apart : Reg.TIM_STAT ≠ evtStat r.blk 0 := by rcases evt with e | e <;> rw [e] <;> decide
  have inst : ∀ i, ptpInst (Machine.raise u r) i = ptpInst u i := fun i => by rw [ptpInst, ptpInst, raise_tim]
  exact h.trans ⟨raise_cfg .., by rw [raise_tim], fun i => by rw [inst], fun h => by rw [raise_grid]; exact h,
    onlyRegs_raise r 0 (fun _ _ => rfl) shown (by decide), fun i h => flag_raise_mono r 0 (by decide) h,
    fun i h => flag_raise_mono r 0 (by decide) h, fun i _ _ => by rw [rd_raise _ _ _ _ (by decide) apart]⟩

theorem TimKept.ite {c : Prop} [Decidable c] {a b : State} (h : TimKept bits s a) (k : TimKept bits s b) :
    TimKept bits s (if c then a else b) := by
  split
  · exact h
  · exact k

end Frame

/-! ### The refresh (R384, R386, R387) -/

section Refresh

variable {s u : State}

/-- The bits of TIM_STAT that a refresh writes. -/
def refreshBits : List Nat := [24, 25, 29]

theorem TimKept.utcRefresh {bits : List Nat} (h : TimKept bits s u) : TimKept bits s (utcRefresh u) := by
  unfold Machine.utcRefresh
  split
  · exact h.setTim rfl rfl
  · exact h

theorem inside_24_25 (i : Nat) (_ : i < 32) (lo : 24 ≤ i) (hi : i ≤ 25) : i ∈ refreshBits := by
  interval_cases i <;> decide

theorem inside_29 (i : Nat) (_ : i < 32) (lo : 29 ≤ i) (hi : i ≤ 29) : i ∈ refreshBits := by
  interval_cases i; decide

theorem timKept_timRefresh (s : State) : TimKept refreshBits s (timRefresh s) := by
  unfold timRefresh
  extract_lets s1 okNow s2 never grid s3 hold s4 s5 d s6 tq utc s7
  have h1 : TimKept refreshBits s s1 := (TimKept.refl _ s).utcRefresh
  have h2 : TimKept refreshBits s s2 := (h1.setTim rfl rfl).ite h1
  have h3 : TimKept refreshBits s s3 := h2.setGrid (g := { s2.grid with neverSync := never }) fun synced => by
    show (s2.grid.neverSync && _) = false
    rw [synced, Bool.false_and]
  have h4 : TimKept refreshBits s s4 := (h3.wrStat _ inside_24_25).wrStat _ inside_29
  have h5 : TimKept refreshBits s s5 := by
    refine h4.ite (h4.raise _ ?_)
    exact .inl rfl
  have h6 : TimKept refreshBits s s6 := by
    refine h5.ite (h5.raise _ ?_)
    exact .inl rfl
  have h7 : TimKept refreshBits s s7 := (h6.wr _ (by decide)).wr _ (by decide)
  exact (h7.wr _ (by decide)).wr _ (by decide)

theorem TimKept.timRefresh {bits : List Nat} (h : TimKept bits s u) (sub : refreshBits ⊆ bits) : TimKept bits s (timRefresh u) :=
  h.trans ((timKept_timRefresh u).mono sub)

end Refresh

/-! ### The selection (R381, R384) -/

section Select

variable {s u : State}

/-- The bits of TIM_STAT but that of a disagreement. -/
def otherBits : List Nat := [22, 23, 24, 25, 26, 27, 29, 30, 31]

theorem inside_30_31 (i : Nat) (_ : i < 32) (lo : 30 ≤ i) (hi : i ≤ 31) : i ∈ otherBits := by
  interval_cases i <;> decide

theorem TimKept.followOfs {bits : List Nat} (h : TimKept bits s u) (o : Int) (always : Bool) : TimKept bits s (followOfs u o always) := by
  unfold Machine.followOfs
  extract_lets s1
  have h1 : TimKept bits s s1 := h.setTim rfl rfl
  refine h1.ite ((h1.setGrid (g := { s1.grid with slewing := true, slewPpb := if 0 < o then 100000 else -100000 }) ?_).raise _ ?_)
  · exact fun synced => synced
  · exact .inr rfl

/-- A module that has been synchronised once selects a base without a relabelling. -/
theorem TimKept.selectBase (h : TimKept otherBits s u) (synced : u.grid.neverSync = false) (b : Nat) :
    TimKept otherBits s (selectBase u b) := by
  unfold Machine.selectBase
  extract_lets old s1
  have h1 : TimKept otherBits s s1 := ((h.wrStat _ inside_30_31).raise _ (.inl rfl)).raise _ (.inr rfl)
  have first : ¬ (u.grid.neverSync = true ∧ ownSelection u = true) := fun both => Bool.false_ne_true (synced.symm.trans both.1)
  rw [if_neg first]
  exact h.ite ((h1.setTim rfl rfl).ite (h1.followOfs _ _))

theorem ptpInst_setInst (s : State) (i : Nat) (x : PtpInst) (j : Nat) : ptpInst (setInst s i x) j = if j = i then x else ptpInst s j :=
  tget_tset ..

theorem ptpInst_setInst_same (s : State) (i : Nat) (x : PtpInst) : ptpInst (setInst s i x) i = x := (ptpInst_setInst ..).trans (if_pos rfl)

theorem TimKept.setInst {bits : List Nat} (h : TimKept bits s u) (i : Nat) {x : PtpInst} (rest : instRest x = instRest (ptpInst u i)) :
    TimKept bits s (setInst u i x) :=
  h.trans ⟨rfl, rfl, fun j => by
    rw [ptpInst_setInst]
    split
    next own => rw [rest, own]
    · rfl, fun h => h, fun _ _ => rfl, fun _ h => h, fun _ h => h, fun _ _ _ => rfl⟩

theorem TimKept.okTick {bits : List Nat} (h : TimKept bits s u) (b : Nat) : TimKept bits s (okTick u b) := by
  unfold Machine.okTick
  extract_lets x ok
  exact h.ite (h.setInst _ rfl)

theorem TimKept.timSelect (h : TimKept otherBits s u) (synced : u.grid.neverSync = false) : TimKept otherBits s (timSelect u) := by
  unfold Machine.timSelect
  extract_lets v sel pref first other
  have inner : TimKept otherBits u v := ((TimKept.refl _ u).okTick 1).okTick 2
  have hv : TimKept otherBits s v := h.trans inner
  have select : ∀ b, TimKept otherBits s (Machine.selectBase v b) := hv.selectBase (inner.synced synced)
  exact ((select _).ite hv).ite (hv.ite ((select _).ite ((select _).ite (select _))))

theorem refreshBits_sub : refreshBits ⊆ otherBits := by decide

/-- What follows when a PTP clock has changed keeps the frame of a synchronised module. -/
theorem TimKept.ptpAfter (h : TimKept otherBits s u) (synced : u.grid.neverSync = false) (i : Nat) : TimKept otherBits s (ptpAfter u i) := by
  unfold Machine.ptpAfter
  extract_lets s1
  have refreshed : TimKept otherBits u (Machine.timRefresh u) := (TimKept.refl _ u).timRefresh refreshBits_sub
  have h1 : TimKept otherBits s s1 := (h.trans refreshed).timSelect (refreshed.synced synced)
  exact ((h1.followOfs _ _).ite h1).timRefresh refreshBits_sub

end Select

end Sys2Proof.Machine
end

section
/-! PTP clocks (R378, R379): O45. -/

namespace Sys2Proof.Machine

open Sys2Proof

section Clock

variable {s : State} {i t port : Nat}

/-- A PTP clock that enters a state: leaving LOCKED is counted. -/
def enteredSt (x : PtpInst) (st : Nat) : PtpInst :=
  { x with st := st, losses := if x.st = 2 ∧ st ≠ 2 then satAdd 0xFFFF x.losses 1 else x.losses }

theorem ptpInst_ptpState (s : State) (i st : Nat) : ptpInst (ptpState s i st) i = enteredSt (ptpInst s i) st := by
  unfold ptpState
  extract_lets x y s1
  have own : ptpInst s1 i = enteredSt (ptpInst s i) st := ptpInst_setInst_same ..
  split
  · exact own
  · rw [← own, ptpInst, ptpInst, raise_tim]

theorem grid_ptpState (s : State) (i st : Nat) : (ptpState s i st).grid = s.grid := by
  unfold ptpState
  extract_lets x y s1
  split
  · rfl
  · exact raise_grid ..

theorem flag_ptpState {st : Nat} (moved : ¬ ((ptpInst s i).st = 2 ↔ st = 2)) : flag (rd (ptpState s i st) Reg.TIM_EVT_STAT) 0 = true :=
  (congrArg (fun u => flag (rd u Reg.TIM_EVT_STAT) 0) (if_neg moved)).trans
    (flag_raise _ _ _ 0 (by decide) (by decide) (by decide))

/-- What a PTP clock keeps of a change when the selection has followed it (R381). -/
theorem instRest_ptpAfter (synced : s.grid.neverSync = false) (i : Nat) : instRest (ptpInst (ptpAfter s i) i) = instRest (ptpInst s i) :=
  ((TimKept.refl otherBits s).ptpAfter synced i).inst i

/-- A PTP clock after a Sync of its parent, before its state is judged. -/
def syncTaken (s : State) (i : Nat) (ofs rel : Int) (lan : Bool) : PtpInst :=
  let x := ptpInst s i
  { x with
    ofs := ofs
    abs3 := 3 * rel + s.tim.adj3
    lan := lan
    lockRun := if decide (ofs.natAbs ≤ 1000) then min 8 (x.lockRun + 1) else 0
    offRun := if decide (ofs.natAbs ≤ 1000) then 0 else min 3 (x.offRun + 1) }

/-- The state that a Sync leads to. -/
def syncSt (x y : PtpInst) : Nat := if x.st = 2 then (if y.offRun = 3 then 3 else 2) else if y.lockRun = 8 then 2 else 1

/-- The state after a Sync, before the selection follows. -/
def syncJudged (s : State) (i : Nat) (ofs rel : Int) (lan : Bool) : State :=
  ptpState (setInst s i (syncTaken s i ofs rel lan)) i (syncSt (ptpInst s i) (syncTaken s i ofs rel lan))

theorem ptpInst_syncJudged (s : State) (i : Nat) (ofs rel : Int) (lan : Bool) : ptpInst (syncJudged s i ofs rel lan) i =
    enteredSt (syncTaken s i ofs rel lan) (syncSt (ptpInst s i) (syncTaken s i ofs rel lan)) := by
  rw [syncJudged, ptpInst_ptpState, ptpInst_setInst_same]

section Enabled

variable (low : i < 2) (en : (ptpCfg s i).en = true)

include low en

theorem exec_ptpSync_parent (parent : (ptpInst s i).parent ≠ none) (ofs rel : Int) (lan : Bool) :
    exec (.ptpSync i ofs rel lan t) s = .next (ptpAfter (syncJudged (atTime s t) i ofs rel lan) i) := by
  have ran : ¬ (2 ≤ i ∨ (ptpCfg s i).en = false ∨ (ptpInst s i).parent = none) := by simp [low, en, parent]
  exact if_neg ran

/-- The state in which a dataset is that of the parent. -/
def parentTaken (s : State) (i : Nat) (a : PtpAnn) (t : Nat) : State := setInst s i { ptpInst s i with parent := some a, lastAnn := t }

/-- The state after an Announce that the selection of the master accepts, before the selection of the base follows. -/
def announced (s : State) (i : Nat) (a : PtpAnn) (t : Nat) : State :=
  if (ptpInst s i).st = 3 then ptpState (parentTaken s i a t) i 1 else parentTaken s i a t

omit low en in
theorem grid_announced (s : State) (i : Nat) (a : PtpAnn) (t : Nat) : (announced s i a t).grid = s.grid := by
  unfold announced
  split
  · exact grid_ptpState ..
  · rfl

omit low en in
theorem ptpInst_announced (s : State) (i : Nat) (a : PtpAnn) (t : Nat) : ptpInst (announced s i a t) i =
    { ptpInst s i with parent := some a, lastAnn := t, st := if (ptpInst s i).st = 3 then 1 else (ptpInst s i).st } := by
  unfold announced
  have own : ptpInst (parentTaken s i a t) i = { ptpInst s i with parent := some a, lastAnn := t } := ptpInst_setInst_same ..
  split
  next lost => rw [ptpInst_ptpState, own, enteredSt, if_neg fun both => absurd (lost.symm.trans both.1) (by decide)]
  · exact own

theorem exec_ptpAnnounce_accepted {a : PtpAnn} (domain : a.domain = (ptpCfg s i).domain)
    (best : ∀ p, (ptpInst s i).parent = some p → p.gm = a.gm ∨ a.better p = true) :
    exec (.ptpAnnounce i a t) s = .next (ptpAfter (announced (atTime s t) i a t) i) := by
  have ran : ¬ (2 ≤ i ∨ (ptpCfg s i).en = false ∨ a.domain ≠ (ptpCfg s i).domain) := by simp [low, en, domain]
  have accepts : ((ptpInst s i).parent.all fun p => decide (p.gm = a.gm) || a.better p) = true := by
    cases parent : (ptpInst s i).parent with
    | none => rfl
    | some p => simpa using best p parent
  exact (if_neg ran).trans (if_pos accepts)

theorem exec_ptpAnnounce_refused {a : PtpAnn}
    (bad : a.domain ≠ (ptpCfg s i).domain ∨ ∃ p, (ptpInst s i).parent = some p ∧ p.gm ≠ a.gm ∧ a.better p = false) :
    exec (.ptpAnnounce i a t) s = .next (atTime s t) := by
  by_cases domain : a.domain = (ptpCfg s i).domain
  · obtain ⟨p, parent, other, worse⟩ := bad.resolve_left fun no => no domain
    have ran : ¬ (2 ≤ i ∨ (ptpCfg s i).en = false ∨ a.domain ≠ (ptpCfg s i).domain) := by simp [low, en, domain]
    have refuses : ¬ ((ptpInst s i).parent.all fun p => decide (p.gm = a.gm) || a.better p) = true := by
      rw [parent]; simp [other, worse]
    exact (if_neg ran).trans (if_neg refuses)
  · exact if_pos (.inr (.inr domain))

/-- The state in which a parent has been dropped. -/
def parentDropped (s : State) (i : Nat) : State :=
  setInst s i { ptpInst s i with parent := none, lockRun := 0, offRun := 0, annOut := satAdd 0xFFFF (ptpInst s i).annOut 1 }

/-- The state after a parent has been lost, before the selection of the base follows. -/
def parentLost (s : State) (i : Nat) : State :=
  if (ptpInst s i).st = 0 then parentDropped s i else ptpState (parentDropped s i) i 3

omit low en in
theorem grid_parentLost (s : State) (i : Nat) : (parentLost s i).grid = s.grid := by
  unfold parentLost
  split
  · rfl
  · exact grid_ptpState ..

omit low en in
theorem ptpInst_parentLost (s : State) (i : Nat) : (ptpInst (parentLost s i) i).parent = none ∧
    (ptpInst (parentLost s i) i).annOut = satAdd 0xFFFF (ptpInst s i).annOut 1 ∧ (ptpInst (parentLost s i) i).lockRun = 0 ∧
    (ptpInst (parentLost s i) i).st = if (ptpInst s i).st = 0 then 0 else 3 := by
  unfold parentLost
  have own : ptpInst (parentDropped s i) i = _ := ptpInst_setInst_same ..
  split
  next idle => rw [own]; exact ⟨rfl, rfl, rfl, idle⟩
  · rw [ptpInst_ptpState, own]; exact ⟨rfl, rfl, rfl, rfl⟩

omit low en in
theorem exec_announceTimeout_due (parent : (ptpInst s i).parent ≠ none) (due : (ptpInst s i).lastAnn + 3000000000 ≤ t) :
    exec (.announceTimeout i t) s = .next (ptpAfter (parentLost (atTime s t) i) i) := by
  have ran : ¬ ((ptpInst s i).parent = none ∨ t < (ptpInst s i).lastAnn + 3000000000) := by simp [parent, due]
  exact if_neg ran

omit low en in
theorem tx_ethSend (s : State) (port kind : Nat) (data : List Nat) :
    (ethPort (ethSend s port kind data) port).tx = (ethPort s port).tx + 1 := by
  simp only [ethPort, ethSend, send, tget_tmod_same]

theorem exec_pdelayReq_answers (own : port / 2 = (if (ptpCfg s i).pb then 1 else 0)) :
    exec (.pdelayReq port t) s = .next (ethSend (atTime s t) port 0x88F7 [t]) := by
  have any : ((upto 2).any fun j => (ptpCfg s j).en && decide (port / 2 = if (ptpCfg s j).pb then 1 else 0)) = true :=
    List.any_eq_true.2 ⟨i, List.mem_range.2 low, by rw [en, decide_eq_true own]; rfl⟩
  exact if_pos any

theorem exec_pdelayResp_on (lan : Bool) (dly : Nat) : exec (.pdelayResp i lan dly t) s =
    .next (setInst (atTime s t) i (if lan then { ptpInst s i with dlyB := dly } else { ptpInst s i with dlyA := dly })) := by
  have ran : ¬ (2 ≤ i ∨ (ptpCfg s i).en = false) := by simp [low, en]
  exact if_neg ran

end Enabled

end Clock

/-- Settles O45: a PTP clock changes before the selection follows it, and what follows (TimKept) leaves all of the clock but the
instant since which its base can be selected. -/
theorem ptpInstances : Obligations.PtpInstances := by
  intro s i t port dly ofs rel lan a x near lock off st low en
  refine ⟨fun synced => ⟨fun parent => ?sync, fun domain best => ?announce, fun parent due => ?timeout⟩, fun bad => ?refused,
    fun own => ?request, ?response⟩
  case sync =>
    have synced' : (syncJudged (atTime s t) i ofs rel lan).grid.neverSync = false := by
      rw [syncJudged, grid_ptpState]; exact synced
    have kept := instRest_ptpAfter synced' i
    have own := ptpInst_syncJudged (atTime s t) i ofs rel lan
    have lock_eq : (syncTaken (atTime s t) i ofs rel lan).lockRun = lock := by simp only [syncTaken, decide_eq_true_eq]; rfl
    have off_eq : (syncTaken (atTime s t) i ofs rel lan).offRun = off := by simp only [syncTaken, decide_eq_true_eq]; rfl
    have st_eq : syncSt (ptpInst (atTime s t) i) (syncTaken (atTime s t) i ofs rel lan) = st := by
      rw [syncSt, lock_eq, off_eq]; rfl
    rw [st_eq] at own
    rw [own] at kept
    refine ⟨_, exec_ptpSync_parent low en parent ofs rel lan, (congrArg PtpInst.ofs kept :), (congrArg PtpInst.abs3 kept :),
      (congrArg PtpInst.lan kept :), (congrArg PtpInst.lockRun kept :).trans lock_eq, (congrArg PtpInst.offRun kept :).trans off_eq,
      (congrArg PtpInst.st kept :), (congrArg PtpInst.losses kept :), fun moved => ?_⟩
    refine ((TimKept.refl otherBits _).ptpAfter synced' i).evt 0 (flag_ptpState ?_)
    rw [st_eq, ptpInst_setInst_same]
    exact moved
  case announce =>
    have synced' : (announced (atTime s t) i a t).grid.neverSync = false := by
      rw [grid_announced]; exact synced
    have kept := instRest_ptpAfter synced' i
    rw [ptpInst_announced] at kept
    exact ⟨_, exec_ptpAnnounce_accepted low en domain best, (congrArg PtpInst.parent kept :), (congrArg PtpInst.lastAnn kept :),
      (congrArg PtpInst.st kept :)⟩
  case timeout =>
    have synced' : (parentLost (atTime s t) i).grid.neverSync = false := by
      rw [grid_parentLost]; exact synced
    have kept := instRest_ptpAfter synced' i
    obtain ⟨parent', annOut, lockRun, st'⟩ := ptpInst_parentLost (atTime s t) i
    exact ⟨_, exec_announceTimeout_due parent due, (congrArg PtpInst.parent kept :).trans parent',
      (congrArg PtpInst.annOut kept :).trans annOut, (congrArg PtpInst.lockRun kept :).trans lockRun,
      (congrArg PtpInst.st kept :).trans st'⟩
  case refused => exact ⟨_, exec_ptpAnnounce_refused low en bad, Keeps.onlyParts (Keeps.mono (atTime_keeps s t) rfl)⟩
  case request => exact ⟨_, exec_pdelayReq_answers low en own, rfl, tx_ethSend (atTime s t) .., rfl⟩
  case response =>
    exact ⟨_, exec_pdelayResp_on low en lan dly, ptpInst_setInst_same ..,
      Keeps.onlyParts (Keeps.step (setInst_keeps ..) rfl (Keeps.mono (atTime_keeps s t) rfl))⟩

end Sys2Proof.Machine
end

section
/-! Second marks, the preferred base, holdover, leap seconds, IRIG-B and PPS (R380–R390, R395): O46. -/

namespace Sys2Proof.Machine

open Sys2Proof

/-! ### The selected base and the input's state -/

section Views

variable {s u : State} {t : Nat}

theorem field_of_flags {v w : Word} {hi lo : Nat} (h : ∀ i, lo ≤ i → i ≤ hi → flag v i = flag w i) : field v hi lo = field w hi lo := by
  refine Nat.eq_of_testBit_eq fun i => ?_
  rw [testBit_field, testBit_field]
  by_cases inside : i < hi + 1 - lo
  · rw [← flag, ← flag, h (lo + i) (Nat.le_add_right ..) (by omega)]
  · simp [inside]

theorem selBase_of_kept {bits : List Nat} (h : TimKept bits s u) (low : 30 ∉ bits) (high : 31 ∉ bits) : selBase u = selBase s := by
  refine field_of_flags fun i lo hi => ?_
  obtain rfl | rfl : i = 30 ∨ i = 31 := by omega
  · exact h.stat 30 (by decide) low
  · exact h.stat 31 (by decide) high

theorem selBase_timRefresh (s : State) : selBase (timRefresh s) = selBase s :=
  selBase_of_kept (timKept_timRefresh s) (by decide) (by decide)

/-! ### Second marks (R380, R382, R383, R390) -/

/-- What the judgement of a second mark leaves as it was; of TIM_STAT only the bits of a list may differ. -/
structure MarkKept (bits : List Nat) (s u : State) : Prop where
  pps : u.tim.pps = s.tim.pps
  freq : u.tim.freq = s.tim.freq
  over_ : u.tim.overN = s.tim.overN
  synced : s.grid.neverSync = false → u.grid.neverSync = false
  regs : onlyRegs timShown s u
  stat : ∀ i, i < 32 → i ∉ bits → flag (rd u Reg.TIM_STAT) i = flag (rd s Reg.TIM_STAT) i

variable {bits : List Nat}

theorem TimKept.marked (h : TimKept bits s u) : MarkKept bits s u :=
  ⟨(congrArg TimState.pps h.tim :), (congrArg TimState.freq h.tim :), (congrArg TimState.overN h.tim :), h.synced, h.regs, h.stat⟩

theorem MarkKept.trans {v : State} (h : MarkKept bits s u) (k : MarkKept bits u v) : MarkKept bits s v where
  pps := k.pps.trans h.pps
  freq := k.freq.trans h.freq
  over_ := k.over_.trans h.over_
  synced h0 := k.synced (h.synced h0)
  regs := onlyRegs_trans h.regs k.regs
  stat i low out := (k.stat i low out).trans (h.stat i low out)

theorem MarkKept.mono {more : List Nat} (h : MarkKept bits s u) (sub : bits ⊆ more) : MarkKept more s u :=
  { h with stat := fun i low out => h.stat i low fun mem => out (sub mem) }

theorem MarkKept.ite {c : Prop} [Decidable c] {a b : State} (h : MarkKept bits s a) (k : MarkKept bits s b) :
    MarkKept bits s (if c then a else b) := by
  split
  · exact h
  · exact k

theorem MarkKept.doubted (h : MarkKept bits s u) (d : Bool) : MarkKept bits s (setTim u fun t => { t with doubt383 := d }) :=
  h.trans ⟨rfl, rfl, rfl, fun h => h, fun _ _ => rfl, fun _ _ _ => rfl⟩

/-- Every bit of TIM_STAT that the judgement of a second mark writes. -/
def markBits : List Nat := 28 :: otherBits

theorem otherBits_sub : otherBits ⊆ markBits := List.subset_cons_self ..

theorem inside_22_23 (i : Nat) (_ : i < 32) (lo : 22 ≤ i) (hi : i ≤ 23) : i ∈ otherBits := by interval_cases i <;> decide
theorem inside_26_27 (i : Nat) (_ : i < 32) (lo : 26 ≤ i) (hi : i ≤ 27) : i ∈ otherBits := by interval_cases i <;> decide
theorem inside_28 (i : Nat) (_ : i < 32) (lo : 28 ≤ i) (hi : i ≤ 28) : i ∈ markBits := by interval_cases i; decide

theorem markKept_setDisagree (s : State) (on : Bool) : MarkKept markBits s (setDisagree s on) := by
  unfold setDisagree
  extract_lets s1
  have h1 : TimKept markBits s s1 := by
    refine ((TimKept.refl _ s).wrStat _ inside_28).raise _ ?_
    exact .inl rfl
  have h2 : TimKept markBits s (wrField s1 Reg.TIM_STAT 27 26 0) := h1.wrStat _ fun i low lo hi => otherBits_sub (inside_26_27 i low lo hi)
  exact (TimKept.refl _ s).marked.ite (h1.marked.ite (h2.marked.doubted false))

theorem flag_setDisagree (s : State) : flag (rd (setDisagree s true) Reg.TIM_STAT) 28 = true := by
  unfold setDisagree
  split
  next already => exact already.symm
  · have shown : flag (rd (wrField s Reg.TIM_STAT 28 28 (bit1 true 0)) Reg.TIM_STAT) 28 = true := flag_wrField_same _ _ true (by decide)
    exact (congrArg (flag · 28) (rd_raise _ _ _ _ (by decide) (show Reg.TIM_STAT ≠ Reg.TIM_EVT_STAT by decide))).trans shown

/-- The outcome of a comparison is shown. -/
def voteShown (s : State) (third out : Nat) : State :=
  setTim (wrField (wrField s Reg.TIM_STAT 23 22 third) Reg.TIM_STAT 27 26 out) fun t => { t with doubt383 := decide (third = 3) }

/-- A comparison shows its outcome, records one that differs from the last, and selects. -/
theorem voteMark_eq (s : State) (m : MarkMeas) : ∃ third out sel r, voteMark s m =
    (let s2 := if rd (voteShown s third out) Reg.TIM_STAT = rd s Reg.TIM_STAT then voteShown s third out
      else record (voteShown s third out) r
     if sel ≠ selBase s2 ∧ healthyBase s2 sel then selectBase s2 sel else s2) := ⟨_, _, _, _, rfl⟩

theorem markKept_voteMark (synced : s.grid.neverSync = false) (m : MarkMeas) : MarkKept otherBits s (voteMark s m) := by
  obtain ⟨third, out, sel, r, eq⟩ := voteMark_eq s m
  rw [eq]
  extract_lets s2
  have fields : TimKept otherBits s (wrField (wrField s Reg.TIM_STAT 23 22 third) Reg.TIM_STAT 27 26 out) :=
    ((TimKept.refl _ s).wrStat _ inside_22_23).wrStat _ inside_26_27
  have shown : MarkKept otherBits s (voteShown s third out) := fields.marked.doubted _
  have h2 : MarkKept otherBits s s2 := shown.ite (shown.trans ((TimKept.refl _ _).record r).marked)
  exact (h2.trans ((TimKept.refl _ s2).selectBase (h2.synced synced) sel).marked).ite h2

/-- The counts of marks in which the bases differ, and in which they agree. -/
def markCounted (s : State) (m : MarkMeas) : State :=
  setTim s fun t => { t with
    overN := if decide (10000 < m.ba.natAbs) && (healthyBase s 1 && healthyBase s 2) then min 2 (t.overN + 1) else 0
    under := if decide (10000 < m.ba.natAbs) then 0 else min 2 (t.under + 1) }

/-- The state in which a disagreement has begun, has ended or stands. -/
def disagreeShown (s : State) : State :=
  if s.tim.overN = 2 then setDisagree s true else if s.tim.under = 2 then setDisagree s false else s

theorem disagreeMark_eq (s : State) (m : MarkMeas) : disagreeMark s m =
    if disagreeing (disagreeShown (markCounted s m)) then voteMark (disagreeShown (markCounted s m)) m
    else disagreeShown (markCounted s m) := rfl

theorem markKept_disagreeShown (s : State) : MarkKept markBits s (disagreeShown s) :=
  (markKept_setDisagree s true).ite ((markKept_setDisagree s false).ite (TimKept.refl _ s).marked)

theorem markKept_disagreeMark (synced : s.grid.neverSync = false) (m : MarkMeas) : MarkKept markBits (markCounted s m) (disagreeMark s m) := by
  rw [disagreeMark_eq]
  have shown := markKept_disagreeShown (markCounted s m)
  exact (shown.trans ((markKept_voteMark (shown.synced synced) m).mono otherBits_sub)).ite shown

/-- The second mark above 10 µs begins a disagreement. -/
theorem disagreeMark_second (synced : s.grid.neverSync = false) {m : MarkMeas} (far : 10000 < m.ba.natAbs) (one : healthyBase s 1 = true)
    (two : healthyBase s 2 = true) (before : 1 ≤ s.tim.overN) :
    flag (rd (disagreeMark s m) Reg.TIM_STAT) 28 = true ∧ (disagreeMark s m).tim.overN = 2 := by
  have counted : (markCounted s m).tim.overN = 2 := by
    show (if _ then min 2 (s.tim.overN + 1) else 0) = 2
    rw [one, two, decide_eq_true far]
    exact (if_pos rfl).trans (by omega)
  have begun : disagreeShown (markCounted s m) = setDisagree (markCounted s m) true := if_pos counted
  have on := flag_setDisagree (markCounted s m)
  have kept := markKept_setDisagree (markCounted s m) true
  have voted := markKept_voteMark (kept.synced synced) m
  have run : disagreeMark s m = voteMark (setDisagree (markCounted s m) true) m := by
    rw [disagreeMark_eq, begun]
    exact if_pos on
  rw [run]
  exact ⟨(voted.stat 28 (by decide) (by decide)).trans on, voted.over_.trans (kept.over_.trans counted)⟩

/-- The state in which a second mark has been measured and PPS has risen. -/
def markShown (s : State) (m : MarkMeas) : State :=
  let s1 := wr s Reg.TIM_DIFF_AB (i32 (max (-2147483648) (min 2147483647 m.ba)))
  let s2 := setTim s1 fun x => { x with
    pps := !s.grid.neverSync || s.cfg.tim.early
    freq := if healthyBase s (selBase s) then m.freq else x.freq }
  wr s2 Reg.TIM_HO_FREQ (i32 s2.tim.freq)

/-- The state in which a second mark has been judged: a module that follows its partner clears what it would have found. -/
def markJudged (s : State) (m : MarkMeas) : State :=
  if ownSelection s then disagreeMark s m
  else setTim (wrField (wrField s Reg.TIM_STAT 28 28 0) Reg.TIM_STAT 27 26 0) fun x => { x with overN := 0, under := 0, doubt383 := false }

theorem exec_secondMark (s : State) (m : MarkMeas) (t : Nat) :
    exec (.secondMark m t) s = .next (timRefresh (timSelect (markJudged (markShown (atTime s t) m) m))) := by
  show execSecondMark m t s = _
  simp only [execSecondMark, markShown, markJudged, done]
  congr 3

/-- What a judged mark has kept of the measured one. -/
structure MarkStands (s u : State) : Prop where
  pps : u.tim.pps = s.tim.pps
  freq : u.tim.freq = s.tim.freq
  synced : s.grid.neverSync = false → u.grid.neverSync = false
  regs : onlyRegs timShown s u

theorem markStands_markJudged (synced : s.grid.neverSync = false) (m : MarkMeas) : MarkStands s (markJudged s m) := by
  unfold markJudged
  split
  · have kept := markKept_disagreeMark synced m
    exact ⟨kept.pps, kept.freq, kept.synced, kept.regs⟩
  · have regs : onlyRegs timShown s (wrField (wrField s Reg.TIM_STAT 28 28 0) Reg.TIM_STAT 27 26 0) :=
      onlyRegs_wrField (onlyRegs_wrField (onlyRegs_refl _ _) List.mem_cons_self) List.mem_cons_self
    exact ⟨rfl, rfl, fun h => h, regs⟩

/-- The refresh and the selection after a mark. -/
theorem timKept_refreshed (synced : s.grid.neverSync = false) : TimKept otherBits s (timRefresh (timSelect s)) :=
  ((TimKept.refl _ s).timSelect synced).timRefresh refreshBits_sub

/-! ### The preferred base, holdover and leap seconds (R380, R381, R387) -/

theorem exec_prefRevert_due {k : Nat} (own : ownSelection s = true) (sel : selBase s = 3 - (if s.cfg.tim.pref then 2 else 1))
    (timed : s.cfg.tim.revert ≠ 0) (can : selectable s (if s.cfg.tim.pref then 2 else 1) = true)
    (since : (ptpInst s ((if s.cfg.tim.pref then 2 else 1) - 1)).okSince = some k) (due : k + s.cfg.tim.revert * 1000000000 ≤ t) :
    exec (.prefRevert t) s = .next (timRefresh (selectBase (atTime s t) (if s.cfg.tim.pref then 2 else 1))) := by
  have held : ((ptpInst s ((if s.cfg.tim.pref then 2 else 1) - 1)).okSince.any
      fun k => decide (k + s.cfg.tim.revert * 1000000000 ≤ t)) = true := by
    rw [since, Option.any_some]; exact decide_eq_true due
  have own' : ownSelection (atTime s t) = true := own
  have sel' : selBase (atTime s t) = 3 - (if (atTime s t).cfg.tim.pref then 2 else 1) := sel
  have can' : selectable (atTime s t) (if (atTime s t).cfg.tim.pref then 2 else 1) = true := can
  have held' : ((ptpInst (atTime s t) ((if (atTime s t).cfg.tim.pref then 2 else 1) - 1)).okSince.any
      fun k => decide (k + (atTime s t).cfg.tim.revert * 1000000000 ≤ t)) = true := by
    rw [show ptpInst (atTime s t) = ptpInst s from rfl, atTime_cfg]; exact held
  show execPrefRevert t s = _
  simp only [execPrefRevert]
  exact if_pos ⟨own', sel', timed, can', held'⟩

/-- A base is selected, and both events are raised. -/
def baseShown (s : State) (b : Nat) : State :=
  raise (raise (wrField s Reg.TIM_STAT 31 30 b) { blk := 0xB, ev := 1, info := [selBase s, b] }) { blk := 1, ev := 6, info := [selBase s, b] }

theorem selectBase_synced {b : Nat} (synced : s.grid.neverSync = false) (other : selBase s ≠ b) (some_ : b ≠ 0) :
    selectBase s b = followOfs (baseShown s b) (baseOfs3 (baseShown s b) b) := by
  have first : ¬ (s.grid.neverSync = true ∧ ownSelection s = true) := fun both => Bool.false_ne_true (synced.symm.trans both.1)
  exact (if_neg other).trans ((if_neg some_).trans (if_neg first))

theorem selBase_baseShown {b : Nat} (low : b < 4) : selBase (baseShown s b) = b := by
  have shown : rd (baseShown s b) Reg.TIM_STAT = rd (wrField s Reg.TIM_STAT 31 30 b) Reg.TIM_STAT :=
    (rd_raise _ _ _ _ (by decide) (show Reg.TIM_STAT ≠ Reg.FRM_EVT_STAT by decide)).trans
      (rd_raise _ _ _ _ (by decide) (show Reg.TIM_STAT ≠ Reg.TIM_EVT_STAT by decide))
  rw [selBase, shown]
  exact (field_wrField_same s Reg.TIM_STAT 30 b (by decide)).trans (Nat.mod_eq_of_lt low)

theorem flag_tim_baseShown (s : State) (b : Nat) : flag (rd (baseShown s b) Reg.TIM_EVT_STAT) 1 = true :=
  flag_raise_mono _ _ (by decide) (flag_raise _ _ _ 0 (by decide) (by decide) (by decide))

theorem flag_frm_baseShown (s : State) (b : Nat) : flag (rd (baseShown s b) Reg.FRM_EVT_STAT) 6 = true :=
  flag_raise _ _ _ 0 (by decide) (by decide) (by decide)

theorem utcRefresh_unsupplied (none_ : utcSource s = none) : utcRefresh s = s := by
  simp only [utcRefresh, none_]

/-- UTC as a refresh leaves it when no source supplies it. -/
theorem utc_timRefresh (none_ : utcSource s = none) : (timRefresh s).tim.utc = s.tim.utc ∧ (timRefresh s).tim.leap61 = s.tim.leap61 ∧
    (timRefresh s).tim.leap59 = s.tim.leap59 := by
  have stand : utcRefresh s = s := utcRefresh_unsupplied none_
  unfold timRefresh
  rw [stand]
  extract_lets s1 okNow s2 never grid s3 hold s4 s5 d s6 tq utc s7
  have h2 : s2.tim.utc = s.tim.utc ∧ s2.tim.leap61 = s.tim.leap61 ∧ s2.tim.leap59 = s.tim.leap59 := by
    unfold s2
    split <;> exact ⟨rfl, rfl, rfl⟩
  have h5 : s5.tim = s2.tim := by
    unfold s5
    split
    · rfl
    · exact raise_tim ..
  have h6 : s6.tim = s2.tim := by
    unfold s6
    split
    · exact h5
    · exact (raise_tim ..).trans h5
  show s6.tim.utc = _ ∧ s6.tim.leap61 = _ ∧ s6.tim.leap59 = _
  rw [h6]
  exact h2

theorem utcSource_congr (tim : u.tim.inst = s.tim.inst) (utc : u.tim.irigUtc = s.tim.irigUtc) (plus : u.tim.irig61 = s.tim.irig61)
    (minus : u.tim.irig59 = s.tim.irig59) (cfg : u.cfg = s.cfg) (regs : u.regs = s.regs) : utcSource u = utcSource s := by
  have inst : ∀ i, ptpInst u i = ptpInst s i := fun i => by rw [ptpInst, ptpInst, tim]
  have of : ∀ i, utcOfInst u i = utcOfInst s i := fun i => by rw [utcOfInst, utcOfInst, inst, ptpCfg, ptpCfg, cfg]
  have read : ∀ a, rd u a = rd s a := fun a => by rw [rd, rd, regs]
  have valid : irigValid u = irigValid s := by rw [irigValid, irigValid, read]
  have sel : selBase u = selBase s := by rw [selBase, selBase, read]
  simp only [utcSource, sel, of, valid, utc, plus, minus]

/-- The state in which a leap second has been inserted. -/
def leapInserted (s : State) : State := setTim s fun x => { x with utc := x.utc + 1, leap61 := false }

/-- The state in which a leap second has been removed. -/
def leapRemoved (s : State) : State := setTim s fun x => { x with utc := x.utc - 1, leap59 := false }

theorem exec_leapApply_insert (none_ : utcSource s = none) (plus : s.tim.leap61 = true)
    (last : (t / 1000000000 - s.tim.utc) % 86400 = 1) : exec (.leapApply t) s = .next (timRefresh (leapInserted (atTime s t))) := by
  have free : ¬ (utcSource (atTime s t)).isSome = true := by
    rw [show utcSource (atTime s t) = utcSource s from rfl, none_]; exact Bool.false_ne_true
  exact (if_neg free).trans (if_pos ⟨plus, last⟩)

theorem exec_leapApply_remove (none_ : utcSource s = none) (noPlus : s.tim.leap61 = false) (minus : s.tim.leap59 = true)
    (last : (t / 1000000000 - s.tim.utc) % 86400 = 86399) : exec (.leapApply t) s = .next (timRefresh (leapRemoved (atTime s t))) := by
  have free : ¬ (utcSource (atTime s t)).isSome = true := by
    rw [show utcSource (atTime s t) = utcSource s from rfl, none_]; exact Bool.false_ne_true
  have other : ¬ (s.tim.leap61 = true ∧ (t / 1000000000 - s.tim.utc) % 86400 = 1) := fun both =>
    Bool.false_ne_true (noPlus.symm.trans both.1)
  exact (if_neg free).trans ((if_neg other).trans (if_pos ⟨minus, last⟩))

/-! ### IRIG-B (R389) -/

theorem irig_unshown : Reg.TIM_IRIG_STAT ∉ timShown := by decide

theorem irigField_timRefresh (s : State) (hi lo : Nat) :
    field (rd (timRefresh s) Reg.TIM_IRIG_STAT) hi lo = field (rd s Reg.TIM_IRIG_STAT) hi lo := by
  rw [(timKept_timRefresh s).regs _ irig_unshown]

theorem rd_irigState (s : State) (st : Nat) : rd (irigState s st) Reg.TIM_IRIG_STAT = rd (wrField s Reg.TIM_IRIG_STAT 31 30 st) Reg.TIM_IRIG_STAT := by
  unfold irigState
  extract_lets was s1
  split
  · rfl
  · exact rd_raise _ _ _ _ (by decide) (show Reg.TIM_IRIG_STAT ≠ Reg.TIM_EVT_STAT by decide)

theorem tim_irigState (s : State) (st : Nat) : (irigState s st).tim = s.tim := by
  unfold irigState
  extract_lets was s1
  split
  · rfl
  · exact raise_tim ..

theorem rd_ofs_irigState (s : State) (st : Nat) : rd (irigState s st) Reg.TIM_IRIG_OFS = rd s Reg.TIM_IRIG_OFS := by
  have other : rd (wrField s Reg.TIM_IRIG_STAT 31 30 st) Reg.TIM_IRIG_OFS = rd s Reg.TIM_IRIG_OFS := rd_wr_other _ _ _ _ (by decide)
  unfold irigState
  extract_lets was s1
  split
  · exact other
  · exact (rd_raise _ _ _ _ (by decide) (show Reg.TIM_IRIG_OFS ≠ Reg.TIM_EVT_STAT by decide)).trans other

theorem field_irigState (s : State) {st : Nat} (low : st < 4) : field (rd (irigState s st) Reg.TIM_IRIG_STAT) 31 30 = st := by
  rw [rd_irigState]
  exact (field_wrField_same s Reg.TIM_IRIG_STAT 30 st (by decide)).trans (Nat.mod_eq_of_lt low)

theorem count_irigState (s : State) (st : Nat) :
    field (rd (irigState s st) Reg.TIM_IRIG_STAT) 15 0 = field (rd s Reg.TIM_IRIG_STAT) 15 0 := by
  rw [rd_irigState]
  exact field_wrField_other s Reg.TIM_IRIG_STAT st (by decide) (.inl (by decide))

theorem flag_irigState_leaves {st : Nat} (was : irigValid s = true) (other : st ≠ 2) :
    flag (rd (irigState s st) Reg.TIM_EVT_STAT) 5 = true := by
  have moved : ¬ irigValid s = decide (st = 2) := by rw [was, decide_eq_false other]; exact Bool.noConfusion
  exact (congrArg (fun u => flag (rd u Reg.TIM_EVT_STAT) 5) (if_neg moved)).trans
    (flag_raise _ _ _ 0 (by decide) (by decide) (by decide))

/-- The input leaves VALID if it was. -/
def irigLeft (s : State) : State := if irigValid s then irigState s 3 else s

theorem field_irigLeft (s : State) : field (rd (irigLeft s) Reg.TIM_IRIG_STAT) 31 30 =
    if irigValid s then 3 else field (rd s Reg.TIM_IRIG_STAT) 31 30 := by
  unfold irigLeft
  split
  · exact field_irigState s (by decide)
  · rfl

theorem tim_irigLeft (s : State) : (irigLeft s).tim = s.tim := by
  unfold irigLeft
  split
  · exact tim_irigState ..
  · rfl

theorem count_irigLeft (s : State) : field (rd (irigLeft s) Reg.TIM_IRIG_STAT) 15 0 = field (rd s Reg.TIM_IRIG_STAT) 15 0 := by
  unfold irigLeft
  split
  · exact count_irigState ..
  · rfl

theorem rd_ofs_irigLeft (s : State) : rd (irigLeft s) Reg.TIM_IRIG_OFS = rd s Reg.TIM_IRIG_OFS := by
  unfold irigLeft
  split
  · exact rd_ofs_irigState ..
  · rfl

/-- The count of consecutive good frames after a frame. -/
def irigRunAfter (s : State) (f : IrigFrame) : Nat :=
  if !(decide (f.tq ≤ 1000) && decide (f.localOfs = 0)) then 0
  else if decide (s.tim.irigRun = 0) || decide (f.sec = s.tim.irigSec + 1) then min 3 (s.tim.irigRun + 1) else 1

/-- The state in which a frame has been counted and its offset shown. -/
def irigCounted (s : State) (f : IrigFrame) : State :=
  wr (setTim (addField s Reg.TIM_IRIG_STAT 15 0 1) fun x => { x with
    irigSec := f.sec, irigRun := irigRunAfter s f, irigOfs := f.ofs - Int.ofNat s.cfg.tim.irigDelay
    irigUtc := f.utc, irig61 := f.leap61, irig59 := f.leap59 }) Reg.TIM_IRIG_OFS (i32 (f.ofs - Int.ofNat s.cfg.tim.irigDelay))

/-- The state in which a frame has been judged. -/
def irigJudged (s : State) (f : IrigFrame) : State :=
  if irigRunAfter s f = 3 then irigState (irigCounted s f) 2 else irigLeft (irigCounted s f)

theorem exec_irigFrame_on (on : s.cfg.tim.irig = true) (f : IrigFrame) :
    exec (.irigFrame f t) s = .next (timRefresh (irigJudged (atTime s t) f)) := if_neg (Bool.ne_false_iff.2 on)

theorem exec_irigFrameMissing (s : State) (t : Nat) : exec (.irigFrameMissing t) s =
    .next (timRefresh (irigLeft (setTim (atTime s t) fun x => { x with irigRun := 0 }))) := rfl

theorem rd_irigCounted (s : State) (f : IrigFrame) :
    rd (irigCounted s f) Reg.TIM_IRIG_STAT = rd (addField s Reg.TIM_IRIG_STAT 15 0 1) Reg.TIM_IRIG_STAT := rd_wr_other _ _ _ _ (by decide)

theorem field_irigCounted (s : State) (f : IrigFrame) :
    field (rd (irigCounted s f) Reg.TIM_IRIG_STAT) 31 30 = field (rd s Reg.TIM_IRIG_STAT) 31 30 := by
  rw [rd_irigCounted]
  exact field_wrField_other s Reg.TIM_IRIG_STAT _ (by decide) (.inr (by decide))

theorem count_irigCounted (s : State) (f : IrigFrame) :
    field (rd (irigCounted s f) Reg.TIM_IRIG_STAT) 15 0 = satAdd 0xFFFF (field (rd s Reg.TIM_IRIG_STAT) 15 0) 1 := by
  rw [rd_irigCounted]
  exact field_addField_same s Reg.TIM_IRIG_STAT 0 1 (by decide)

theorem tim_irigJudged (s : State) (f : IrigFrame) : (irigJudged s f).tim = (irigCounted s f).tim := by
  unfold irigJudged
  split
  · exact tim_irigState ..
  · exact tim_irigLeft ..

theorem count_irigJudged (s : State) (f : IrigFrame) :
    field (rd (irigJudged s f) Reg.TIM_IRIG_STAT) 15 0 = satAdd 0xFFFF (field (rd s Reg.TIM_IRIG_STAT) 15 0) 1 := by
  rw [← count_irigCounted s f]
  unfold irigJudged
  split
  · exact count_irigState ..
  · exact count_irigLeft ..

theorem rd_ofs_irigJudged (s : State) (f : IrigFrame) :
    rd (irigJudged s f) Reg.TIM_IRIG_OFS = i32 (f.ofs - Int.ofNat s.cfg.tim.irigDelay) := by
  have counted : rd (irigCounted s f) Reg.TIM_IRIG_OFS = i32 (f.ofs - Int.ofNat s.cfg.tim.irigDelay) := rd_wr_same ..
  rw [← counted]
  unfold irigJudged
  split
  · exact rd_ofs_irigState ..
  · exact rd_ofs_irigLeft ..

theorem irigValid_irigCounted (s : State) (f : IrigFrame) : irigValid (irigCounted s f) = irigValid s := by
  rw [irigValid, irigValid, field_irigCounted]

theorem field_irigJudged_third {f : IrigFrame} (third : irigRunAfter s f = 3) :
    field (rd (irigJudged s f) Reg.TIM_IRIG_STAT) 31 30 = 2 := by
  rw [irigJudged, if_pos third]
  exact field_irigState _ (by decide)

theorem field_irigJudged_bad {f : IrigFrame} (bad : irigRunAfter s f = 0) :
    field (rd (irigJudged s f) Reg.TIM_IRIG_STAT) 31 30 = if irigValid s then 3 else field (rd s Reg.TIM_IRIG_STAT) 31 30 := by
  rw [irigJudged, if_neg (by rw [bad]; decide), field_irigLeft, irigValid_irigCounted, field_irigCounted]

end Views

/-- Settles O46: each command changes the time bases before the refresh and the selection, which leave the rest (TimKept) as it was. -/
theorem timeMarks : Obligations.TimeMarks := by
  intro s t k m f
  refine ⟨fun synced => ⟨?mark, fun own sel timed can since due => ?revert⟩, ?save, fun none_ plus last => ?insert,
    fun none_ noPlus minus last => ?remove, fun on => ?frame, ?missing, fun due => ?fall⟩
  case mark =>
    have stands := markStands_markJudged (s := markShown (atTime s t) m) synced m
    have kept := timKept_refreshed (stands.synced synced)
    have freq : (timRefresh (timSelect (markJudged (markShown (atTime s t) m) m))).tim.freq =
        (if healthyBase s (selBase s) then m.freq else s.tim.freq) := kept.marked.freq.trans stands.freq
    have regs := onlyRegs_trans stands.regs kept.regs
    refine ⟨_, exec_secondMark s m t, ?_, ?_, ?_, freq, fun own one two far before => ?_⟩
    · rw [regs _ (by decide)]
      exact (rd_wr_other _ _ _ _ (by decide)).trans (rd_wr_same ..)
    · rw [kept.marked.pps, stands.pps]
      show (!s.grid.neverSync || _) = true
      rw [synced]
      rfl
    · rw [regs _ (by decide), freq]
      exact rd_wr_same ..
    · obtain ⟨on, twice⟩ := disagreeMark_second (s := markShown (atTime s t) m) synced far one two before
      have judged : markJudged (markShown (atTime s t) m) m = disagreeMark (markShown (atTime s t) m) m := if_pos own
      rw [← judged] at on twice
      exact ⟨(kept.stat 28 (by decide) (by decide)).trans on, kept.marked.over_.trans twice⟩
  case revert =>
    have small : (if s.cfg.tim.pref then 2 else 1) < 4 ∧ (if s.cfg.tim.pref then 2 else 1) ≠ 0 ∧
        3 - (if s.cfg.tim.pref then 2 else 1) ≠ (if s.cfg.tim.pref then 2 else 1) := by split <;> decide
    obtain ⟨low, some_, apart⟩ := small
    have other : selBase s ≠ (if s.cfg.tim.pref then 2 else 1) := sel ▸ apart
    have chosen := selectBase_synced (s := atTime s t) synced other some_
    have followed := (TimKept.refl refreshBits (baseShown (atTime s t) (if s.cfg.tim.pref then 2 else 1))).followOfs
      (baseOfs3 (baseShown (atTime s t) (if s.cfg.tim.pref then 2 else 1)) (if s.cfg.tim.pref then 2 else 1)) false
    have kept := followed.timRefresh (List.Subset.refl _)
    rw [← chosen] at kept
    refine ⟨_, exec_prefRevert_due own sel timed can since due, ?_, kept.evt _ (flag_tim_baseShown ..), kept.frm _ (flag_frm_baseShown ..)⟩
    exact (selBase_of_kept kept (by decide) (by decide)).trans (selBase_baseShown low)
  case save =>
    exact ⟨_, rfl, Keeps.onlyParts (Keeps.step (setTim_keeps ..) rfl (Keeps.mono (atTime_keeps s t) rfl)), rfl⟩
  case insert =>
    have free : utcSource (leapInserted (atTime s t)) = none := (utcSource_congr rfl rfl rfl rfl rfl rfl).trans none_
    obtain ⟨utc, plus', -⟩ := utc_timRefresh free
    exact ⟨_, exec_leapApply_insert none_ plus last, utc, plus'⟩
  case remove =>
    have free : utcSource (leapRemoved (atTime s t)) = none := (utcSource_congr rfl rfl rfl rfl rfl rfl).trans none_
    obtain ⟨utc, -, minus'⟩ := utc_timRefresh free
    exact ⟨_, exec_leapApply_remove none_ noPlus minus last, utc, minus'⟩
  case frame =>
    have kept := timKept_timRefresh (irigJudged (atTime s t) f)
    have tim : timRest (timRefresh (irigJudged (atTime s t) f)).tim = timRest (irigCounted (atTime s t) f).tim := by
      rw [kept.tim, tim_irigJudged]
    refine ⟨_, exec_irigFrame_on on f, ?_, (congrArg TimState.irigOfs tim :), (congrArg TimState.irigSec tim :), ?_,
      fun good twice next => ?_, fun bad => ?_⟩
    · rw [kept.regs _ (by decide)]
      exact rd_ofs_irigJudged ..
    · rw [irigField_timRefresh]
      exact count_irigJudged ..
    · have third : irigRunAfter s f = 3 := by
        rw [irigRunAfter, decide_eq_true good.1, decide_eq_true good.2, decide_eq_true next, Bool.or_true]
        show min 3 (s.tim.irigRun + 1) = 3
        omega
      refine ⟨(congrArg TimState.irigRun tim :).trans third, ?_⟩
      exact (irigField_timRefresh ..).trans (field_irigJudged_third (s := atTime s t) third)
    · have none_ : irigRunAfter s f = 0 := if_pos (by rw [← Bool.decide_and, decide_eq_false bad]; rfl)
      refine ⟨(congrArg TimState.irigRun tim :).trans none_, ?_⟩
      exact (irigField_timRefresh ..).trans (field_irigJudged_bad (s := atTime s t) none_)
  case missing =>
    have kept := timKept_timRefresh (irigLeft (setTim (atTime s t) fun x => { x with irigRun := 0 }))
    refine ⟨_, exec_irigFrameMissing s t, (congrArg TimState.irigRun kept.tim :).trans ?_, ?_, fun was => kept.evt 5 ?_⟩
    · exact congrArg TimState.irigRun (tim_irigLeft _)
    · exact (irigField_timRefresh ..).trans (field_irigLeft _)
    · have run : irigLeft (setTim (atTime s t) fun x => { x with irigRun := 0 }) = _ := if_pos was
      rw [run]
      exact flag_irigState_leaves was (by decide)
  case fall =>
    exact ⟨_, if_pos due, rfl, Keeps.onlyParts (Keeps.step (setTim_keeps ..) rfl (Keeps.mono (atTime_keeps s t) rfl))⟩

end Sys2Proof.Machine
end

section
/-! Ethernet ports and filters (R399–R405) and GOOSE (R407–R411): O48. -/

namespace Sys2Proof.Machine

open Sys2Proof

/-! ### The tables of the station bus -/

section Tables

variable {s u : State} {p k : Nat}

theorem ethPort_setPort (s : State) (p : Nat) (x : EthPort) (i : Nat) : ethPort (setPort_ s p x) i = if i = p then x else ethPort s i :=
  tget_tset ..

theorem ethPort_setPort_same (s : State) (p : Nat) (x : EthPort) : ethPort (setPort_ s p x) p = x := (ethPort_setPort ..).trans (if_pos rfl)

theorem ethPair_setPair (s : State) (p : Nat) (x : EthPair) (i : Nat) : ethPair (setPair_ s p x) i = if i = p then x else ethPair s i :=
  tget_tset ..

theorem ethPair_setPair_same (s : State) (p : Nat) (x : EthPair) : ethPair (setPair_ s p x) p = x := (ethPair_setPair ..).trans (if_pos rfl)

theorem ethPair_congr (h : u.stn.pairs = s.stn.pairs) (p : Nat) : ethPair u p = ethPair s p := by rw [ethPair, ethPair, h]

theorem gseSub_setSub (s : State) (k : Nat) (x : GseSub) (i : Nat) : gseSub (setSub s k x) i = if i = k then some x else gseSub s i :=
  tget_tset none s.stn.subs k i (some x)

theorem gseSub_setSub_same (s : State) (k : Nat) (x : GseSub) : gseSub (setSub s k x) k = some x := (gseSub_setSub ..).trans (if_pos rfl)

theorem gseSub_congr (h : u.stn = s.stn) (k : Nat) : gseSub u k = gseSub s k := by rw [gseSub, gseSub, h]

theorem gsePub_setPub_same (s : State) (k : Nat) (x : GsePub) : gsePub (setPub s k x) k = x := tget_tset_same ..

theorem gsePub_congr (h : u.stn = s.stn) (k : Nat) : gsePub u k = gsePub s k := by rw [gsePub, gsePub, h]

end Tables

/-! ### Ports (R399, R401, R403) -/

section Frames

variable {s : State} {f : EthFrame} {t k q ip : Nat}

theorem portSecond_eq (s : State) (p t : Nat) : ∃ x, portSecond s p t = (if (ethPort s p).sec = t / 1000000000 then s else setPort_ s p x) ∧
    x.fcs = (ethPort s p).fcs ∧ x.overN = (ethPort s p).overN ∧ x.rx = 0 := ⟨_, rfl, rfl, rfl, rfl⟩

theorem pairs_portSecond (s : State) (p t : Nat) : (portSecond s p t).stn.pairs = s.stn.pairs := by
  obtain ⟨x, eq, -⟩ := portSecond_eq s p t
  rw [eq]
  split <;> rfl

/-- The counters of a port in the present second. -/
theorem ethPort_portSecond (s : State) (p t : Nat) : (ethPort (portSecond s p t) p).fcs = (ethPort s p).fcs ∧
    (ethPort (portSecond s p t) p).overN = (ethPort s p).overN ∧
    (ethPort (portSecond s p t) p).rx = if (ethPort s p).sec = t / 1000000000 then (ethPort s p).rx else 0 := by
  obtain ⟨x, eq, fcs, overN, rx⟩ := portSecond_eq s p t
  rw [eq]
  split
  · exact ⟨rfl, rfl, rfl⟩
  · rw [ethPort_setPort_same]
    exact ⟨fcs, overN, rx⟩

/-- The state in which a good frame has been counted at its port. -/
def frameCounted (s : State) (f : EthFrame) (t : Nat) : State :=
  setPort_ (portSecond (atTime s t) f.port t) f.port { ethPort (portSecond (atTime s t) f.port t) f.port with
    rx := (ethPort (portSecond (atTime s t) f.port t) f.port).rx + 1 }

theorem pairs_frameCounted (s : State) (f : EthFrame) (t : Nat) : (frameCounted s f t).stn.pairs = s.stn.pairs := pairs_portSecond ..

/-- The parts that the counters of a port lie in. -/
def stationParts : List Part := [.grid, .stn]

theorem frameCounted_keeps (s : State) (f : EthFrame) (t : Nat) : Keeps (maskParts stationParts) s (frameCounted s f t) :=
  Keeps.step (setPort__keeps ..) rfl (Keeps.step (portSecond_keeps ..) rfl (Keeps.mono (atTime_keeps s t) rfl))

/-- The state in which a frame of a pair has been counted, and old entries of the duplicate table are forgotten (R401). -/
def pairCounted (s : State) (f : EthFrame) (t : Nat) : State :=
  forgetDups (pairSecond (frameCounted s f t) (f.port / 2) t) (f.port / 2) t

section Received

variable (on : ethOn s f.port = true) (low : f.port < 5)

include on low

theorem ethFrameRx_runs : ¬ ((!ethOn (atTime s t) f.port) = true ∨ 5 ≤ f.port) := by
  have on' : ethOn (atTime s t) f.port = true := on
  simp [on', low]

theorem exec_ethFrameRx_fcs (bad : f.fcsOk = false) : exec (.ethFrameRx f t) s =
    .next (setPort_ (portSecond (atTime s t) f.port t) f.port { ethPort (portSecond (atTime s t) f.port t) f.port with
      fcs := satAdd 0xFFFF (ethPort (portSecond (atTime s t) f.port t) f.port).fcs 1 }) := by
  have bad' : (!f.fcsOk) = true := by rw [bad, Bool.not_false]
  exact (if_neg (ethFrameRx_runs on low)).trans (if_pos bad')

variable (fcs : f.fcsOk = true)

include fcs

theorem exec_ethFrameRx_oversize (over_ : f.oversize = true) : exec (.ethFrameRx f t) s =
    .next (setPort_ (portSecond (atTime s t) f.port t) f.port { ethPort (portSecond (atTime s t) f.port t) f.port with
      overN := satAdd 0xFFFF (ethPort (portSecond (atTime s t) f.port t) f.port).overN 1 }) := by
  have good : ¬ (!f.fcsOk) = true := by rw [fcs, Bool.not_true]; exact Bool.false_ne_true
  exact (if_neg (ethFrameRx_runs on low)).trans ((if_neg good).trans (if_pos over_))

variable (fits : f.oversize = false)

include fits

theorem exec_ethFrameRx_service (service : f.port = 4) : exec (.ethFrameRx f t) s = .next (frameCounted s f t) := by
  have good : ¬ (!f.fcsOk) = true := by rw [fcs, Bool.not_true]; exact Bool.false_ne_true
  exact (if_neg (ethFrameRx_runs on low)).trans ((if_neg good).trans ((if_neg (Bool.eq_false_iff.1 fits)).trans (if_pos service)))

/-- A frame of a pair goes on to the duplicate table and to the filters. -/
theorem exec_ethFrameRx_pair (pair : f.port < 4) : exec (.ethFrameRx f t) s =
    match f.seq with
    | none => .next (filterFrame (pairCounted s f t) (f.port / 2) f)
    | some q =>
      if (ethPair (pairCounted s f t) (f.port / 2)).dups.any fun d => decide (d.src = f.src) && decide (d.seq = q) then
        .next (setPair_ (pairCounted s f t) (f.port / 2) { ethPair (pairCounted s f t) (f.port / 2) with
          discard := satAdd 0xFFFF (ethPair (pairCounted s f t) (f.port / 2)).discard 1
          dups := (ethPair (pairCounted s f t) (f.port / 2)).dups.map fun d =>
            if d.src = f.src ∧ d.seq = q ∧ d.port ≠ f.port then { d with both := true } else d })
      else
        .next (filterFrame (forwardHsr (setPair_ (pairCounted s f t) (f.port / 2) { ethPair (pairCounted s f t) (f.port / 2) with
          dups := (if 4096 ≤ (ethPair (pairCounted s f t) (f.port / 2)).dups.length then
            (ethPair (pairCounted s f t) (f.port / 2)).dups.drop 1 else (ethPair (pairCounted s f t) (f.port / 2)).dups) ++
              [{ src := f.src, seq := q, port := f.port, at0 := t }] }) (f.port / 2) f) (f.port / 2) f) := by
  have good : ¬ (!f.fcsOk) = true := by rw [fcs, Bool.not_true]; exact Bool.false_ne_true
  have four : ¬ f.port = 4 := Nat.ne_of_lt pair
  exact (if_neg (ethFrameRx_runs on low)).trans ((if_neg good).trans ((if_neg (Bool.eq_false_iff.1 fits)).trans (if_neg four)))

end Received

theorem ethPair_pairSecond (s : State) (p t : Nat) : (ethPair (pairSecond s p t) p).dups = (ethPair s p).dups ∧
    (ethPair (pairSecond s p t) p).discard = (ethPair s p).discard := by
  unfold pairSecond
  extract_lets x sec
  split
  · exact ⟨rfl, rfl⟩
  · rw [ethPair_setPair_same]
    exact ⟨rfl, rfl⟩

theorem pairSecond_present {p : Nat} (now : (ethPair s p).sec = t / 1000000000) : pairSecond s p t = s := if_pos now

theorem ethPair_forgetDups (s : State) (p t : Nat) :
    (ethPair (forgetDups s p t) p).dups = (ethPair s p).dups.filter (fun d => !decide (d.at0 + 400000000 ≤ t)) ∧
    (ethPair (forgetDups s p t) p).discard = (ethPair s p).discard := by
  unfold forgetDups
  extract_lets x old lone s1
  have own : ethPair s1 p = { x with
    dups := x.dups.filter fun d => !decide (d.at0 + 400000000 ≤ t), single := satAdd 0xFFFF x.single lone } := ethPair_setPair_same ..
  split
  · rw [own]; exact ⟨rfl, rfl⟩
  · rw [ethPair_congr (congrArg StnState.pairs (raise_stn ..)), own]; exact ⟨rfl, rfl⟩

/-- With an empty duplicate table nothing is forgotten. -/
theorem forgetDups_empty {p : Nat} (empty : (ethPair s p).dups = []) : forgetDups s p t = setPair_ s p { ethPair s p with
    dups := [], single := satAdd 0xFFFF (ethPair s p).single 0 } := by
  simp only [forgetDups, empty, List.filter_nil, List.length_nil, if_true]

/-- A copy whose first frame is still known stands in the duplicate table. -/
theorem dups_pairCounted {d : DupEnt} (mem : d ∈ (ethPair s (f.port / 2)).dups) (src : d.src = f.src) (seq : d.seq = q)
    (young : t < d.at0 + 400000000) :
    ((ethPair (pairCounted s f t) (f.port / 2)).dups.any fun d => decide (d.src = f.src) && decide (d.seq = q)) = true := by
  have same : ethPair (frameCounted s f t) (f.port / 2) = ethPair s (f.port / 2) := ethPair_congr (pairs_frameCounted s f t) _
  rw [pairCounted, (ethPair_forgetDups ..).1, (ethPair_pairSecond ..).1, same]
  refine List.any_eq_true.2 ⟨d, List.mem_filter.2 ⟨mem, ?_⟩, ?_⟩
  · rw [decide_eq_false (Nat.not_le.2 young)]; rfl
  · rw [decide_eq_true src, decide_eq_true seq]; rfl

theorem discard_pairCounted (s : State) (f : EthFrame) (t : Nat) :
    (ethPair (pairCounted s f t) (f.port / 2)).discard = (ethPair s (f.port / 2)).discard := by
  rw [pairCounted, (ethPair_forgetDups ..).2, (ethPair_pairSecond ..).2, ethPair_congr (pairs_frameCounted s f t)]

theorem pairSecond_keeps_stn (s : State) (p t : Nat) : Keeps 0x4000000 s (pairSecond s p t) := by
  unfold pairSecond
  extract_lets x sec
  exact Keeps.ite (Keeps.refl ..) (Keeps.step (setPair__keeps ..) rfl (Keeps.refl ..))

theorem pairCounted_keeps (s : State) (f : EthFrame) (t : Nat) : Keeps (0x2020004001008 ||| maskParts stationParts) s (pairCounted s f t) :=
  Keeps.step (forgetDups_keeps ..) rfl (Keeps.step (pairSecond_keeps_stn ..) rfl (Keeps.mono (frameCounted_keeps s f t) rfl))

section Fresh

variable (empty : (ethPair s (f.port / 2)).dups = []) (single : (ethPair s (f.port / 2)).single ≤ 0xFFFF)
  (now : (ethPair s (f.port / 2)).sec = t / 1000000000)

include empty single now

/-- With an empty duplicate table and counters of the present second, a frame changes nothing of its pair before the filters. -/
theorem pairCounted_fresh : ethPair (pairCounted s f t) (f.port / 2) = ethPair s (f.port / 2) ∧
    Keeps (maskParts stationParts) s (pairCounted s f t) := by
  have same : ethPair (frameCounted s f t) (f.port / 2) = ethPair s (f.port / 2) := ethPair_congr (pairs_frameCounted s f t) _
  have run : pairCounted s f t = setPair_ (frameCounted s f t) (f.port / 2) { ethPair s (f.port / 2) with
      dups := [], single := satAdd 0xFFFF (ethPair s (f.port / 2)).single 0 } := by
    rw [pairCounted, pairSecond_present (by rw [same]; exact now), forgetDups_empty (by rw [same]; exact empty), same]
  have whole : satAdd 0xFFFF (ethPair s (f.port / 2)).single 0 = (ethPair s (f.port / 2)).single := Nat.min_eq_right single
  rw [run]
  refine ⟨?_, Keeps.step (setPair__keeps ..) rfl (frameCounted_keeps s f t)⟩
  rw [ethPair_setPair_same, whole, ← empty]

end Fresh

theorem ethPair_countDrop (s : State) (p j : Nat) : ethPair (countDrop s p j) p =
    { ethPair s p with drops := (ethPair s p).drops.zipIdx.map fun d => if d.2 = j then satAdd 0xFF d.1 1 else d.1 } :=
  ethPair_setPair_same ..

theorem filterFrame_etype {p : Nat} (refused : etypePasses p f.etype = false) : filterFrame s p f = countDrop s p 1 := by
  have refused' : (!etypePasses p f.etype) = true := by rw [refused, Bool.not_false]
  exact if_pos refused'

theorem filterFrame_vlan {p v : Nat} (passes : etypePasses p f.etype = true) (vid : f.vid = some v) (other : v ∉ pairVids s p) :
    filterFrame s p f = countDrop s p 2 := by
  have passes' : ¬ (!etypePasses p f.etype) = true := by rw [passes, Bool.not_true]; exact Bool.false_ne_true
  have foreign : (f.vid.any fun v => !(pairVids s p).contains v) = true := by
    rw [vid]; simp [other]
  exact (if_neg passes').trans (if_pos foreign)

/-! ### What is answered (R399, R400, R405) -/

theorem exec_supervisionFrame_on (low : k < 2) (on : ethOn s (2 * k) = true) : exec (.supervisionFrame k t) s =
    .next ([2 * k, 2 * k + 1].foldl (fun u j => ethSend u j 0x88FB [ownMac u k]) (atTime s t)) := by
  have on' : ethOn (atTime s t) (2 * k) = true := on
  have ran : ¬ (2 ≤ k ∨ (!ethOn (atTime s t) (2 * k)) = true) := by simp [on', low]
  exact if_neg ran

/-- The state in which a port has changed its link. -/
def linkChanged (s : State) (k : Nat) (up : Bool) (speed : Nat) : State :=
  raise (wrField (setPort_ s k { ethPort s k with
    link := up, speed := if up then speed else 0
    downs := if up then (ethPort s k).downs else satAdd 0xFFFF (ethPort s k).downs 1 }) Reg.ETH_STAT k k (bit1 up 0))
    { blk := 9, ev := 0, info := [k, bit1 up 0] }

theorem exec_ethLinkChange_new {up : Bool} (low : k < 5) (new : (ethPort s k).link ≠ up) :
    exec (.ethLinkChange k up q t) s = .next (linkChanged (atTime s t) k up q) := by
  have ran : ¬ (5 ≤ k ∨ (ethPort (atTime s t) k).link = up) := fun no => no.elim (Nat.not_le.2 low) new
  exact if_neg ran

theorem ethPort_linkChanged (s : State) (k : Nat) (up : Bool) (speed : Nat) : ethPort (linkChanged s k up speed) k =
    { ethPort s k with
      link := up, speed := if up then speed else 0
      downs := if up then (ethPort s k).downs else satAdd 0xFFFF (ethPort s k).downs 1 } := by
  have stn : (linkChanged s k up speed).stn = _ := raise_stn ..
  rw [ethPort, stn]
  exact ethPort_setPort_same ..

theorem bit1_zero (b : Bool) : bit1 b 0 = if b then 1 else 0 := by cases b <;> rfl

theorem flag_stat_linkChanged (low : k < 5) (up : Bool) (speed : Nat) : flag (rd (linkChanged s k up speed) Reg.ETH_STAT) k = up := by
  rw [linkChanged, rd_raise _ _ _ _ (by decide) (show Reg.ETH_STAT ≠ Reg.ETH_EVT_STAT by decide), bit1_zero]
  exact flag_wrField_same _ _ up (by omega)

theorem flag_evt_linkChanged (s : State) (k : Nat) (up : Bool) (speed : Nat) :
    flag (rd (linkChanged s k up speed) Reg.ETH_EVT_STAT) 0 = true :=
  flag_raise _ _ _ 0 (by decide) (by decide) (by decide)

theorem onlyRegs_linkChanged (s : State) (k : Nat) (up : Bool) (speed : Nat) :
    onlyRegs [Reg.ETH_STAT, Reg.ETH_EVT_STAT, Reg.REC_EVT_STAT] s (linkChanged s k up speed) :=
  onlyRegs_raise (s := s) _ 0 (onlyRegs_wrField (t := setPort_ s k _) (fun _ _ => rfl) List.mem_cons_self)
    (List.mem_cons_of_mem _ List.mem_cons_self) (by decide)

theorem exec_arpRequest_owned (on : ethOn s k = true) (own : ownsIp s k ip = true) :
    exec (.arpRequest k ip t) s = .next (ethSend (atTime s t) k 0x0806 [ip, ownMac s 0]) := by
  have on' : ethOn (atTime s t) k = true := on
  have own' : ownsIp (atTime s t) k ip = true := own
  exact if_pos ⟨on', own'⟩

theorem exec_icmpEcho_owned (on : ethOn s k = true) (own : ownsIp s k ip = true) (data : List Byte) :
    exec (.icmpEcho k ip data t) s = .next (ethSend (atTime s t) k 0x0800 (ip :: data.map (·.toNat))) := by
  have on' : ethOn (atTime s t) k = true := on
  have own' : ownsIp (atTime s t) k ip = true := own
  exact if_pos ⟨on', own'⟩

end Frames

end Sys2Proof.Machine
end

section
/-! GOOSE subscriptions and publications (R407–R411): O48, settled. -/

namespace Sys2Proof.Machine

open Sys2Proof

section Subscribe

variable {s u : State} {m : GooseMsg} {k t : Nat} {c : GseSubCfg} {x : GseSub}

/-! ### What a message leaves (R409, R410) -/

/-- Listening to the partner changes the publications alone. -/
theorem hearPartner_rest (s : State) (m : GooseMsg) :
    hearPartner s m = { s with stn := { s.stn with pubs := (hearPartner s m).stn.pubs } } := by
  unfold hearPartner
  split
  · split <;> rfl
  · rfl

/-- The state in which a message is judged. -/
def gooseHeard (s : State) (m : GooseMsg) (t : Nat) : State := hearPartner (atTime s t) m

theorem gseSub_gooseHeard (s : State) (m : GooseMsg) (t k : Nat) : gseSub (gooseHeard s m t) k = gseSub s k := by
  rw [gooseHeard, hearPartner_rest]; rfl

theorem cfg_gooseHeard (s : State) (m : GooseMsg) (t : Nat) : (gooseHeard s m t).cfg = s.cfg := by
  rw [gooseHeard, hearPartner_rest]; rfl

theorem sig_gooseHeard (s : State) (m : GooseMsg) (t : Nat) : (gooseHeard s m t).sig = s.sig := by
  rw [gooseHeard, hearPartner_rest]; rfl

theorem frame_gooseHeard (s : State) (m : GooseMsg) (t : Nat) : (gooseHeard s m t).grid.frame = s.grid.frame := by
  rw [gooseHeard, hearPartner_rest]; rfl

/-- A subscription that discards a message for a cause. -/
def discarded (x : GseSub) (cause frame : Nat) : GseSub :=
  { x with err := cause, errSince := some (x.errSince.getD frame), discards := satAdd 0xFFFF x.discards 1 }

section Found

variable (sub : s.cfg.stn.subs.find? (fun g => decide (g.2.mac = m.mac) && decide (g.2.appid = m.appid) && decide (g.2.gocb = m.gocb)
  && decide (g.2.pb = m.pb)) = some (k, c)) (here : gseSub s k = some x)

include sub here

theorem exec_gooseRx_discards (cause : gooseCause c x m ≠ 0) (plain : c.safe = false) : exec (.gooseRx m t) s =
    .next (setSub (gooseHeard s m t) k (discarded x (gooseCause c x m) (gooseHeard s m t).grid.frame)) := by
  have sub' : (gooseHeard s m t).cfg.stn.subs.find? (fun g => decide (g.2.mac = m.mac) && decide (g.2.appid = m.appid) &&
      decide (g.2.gocb = m.gocb) && decide (g.2.pb = m.pb)) = some (k, c) := by rw [cfg_gooseHeard]; exact sub
  have here' : gseSub (gooseHeard s m t) k = some x := (gseSub_gooseHeard ..).trans here
  have copy : ¬ (c.safe && decide (gooseCause c x m = 4) && decide (m.st = x.st) && decide (m.sq = x.sq) && decide (m.lan ≠ x.lan)) = true := by
    rw [plain]; simp
  rw [gooseHeard] at sub' here'
  show execGooseRx m t s = _
  simp only [execGooseRx, sub', here']
  exact (if_neg copy).trans (if_pos cause)

theorem exec_gooseRx_accepts (cause : gooseCause c x m = 0) : exec (.gooseRx m t) s = .next (gooseAccept (gooseHeard s m t) k x m t) := by
  have sub' : (gooseHeard s m t).cfg.stn.subs.find? (fun g => decide (g.2.mac = m.mac) && decide (g.2.appid = m.appid) &&
      decide (g.2.gocb = m.gocb) && decide (g.2.pb = m.pb)) = some (k, c) := by rw [cfg_gooseHeard]; exact sub
  have here' : gseSub (gooseHeard s m t) k = some x := (gseSub_gooseHeard ..).trans here
  have copy : ¬ (c.safe && decide (gooseCause c x m = 4) && decide (m.st = x.st) && decide (m.sq = x.sq) && decide (m.lan ≠ x.lan)) = true := by
    rw [cause]; simp
  rw [gooseHeard] at sub' here'
  show execGooseRx m t s = _
  simp only [execGooseRx, sub', here']
  exact (if_neg copy).trans (if_neg fun no => no cause)

end Found

/-! ### An accepted message (R410, R411) -/

/-- The message carries a state that the subscription has not seen. -/
def freshState (x : GseSub) (m : GooseMsg) : Bool := x.first || decide (m.st ≠ x.st)

/-- A subscription that an accepted message refreshes. -/
def refreshed (x : GseSub) (m : GooseMsg) (t : Nat) : GseSub :=
  { x with
    state := 2, st := m.st, sq := m.sq, first := false, test := m.test, lan := m.lan, errSince := none
    tal := m.tal * 1000000, lastAt := t, news := if freshState x m then satAdd 0xFFFF x.news 1 else x.news }

/-- The state in which a refreshed subscription has left LOST or ERROR. -/
def subRefreshed (s : State) (k : Nat) (x : GseSub) (m : GooseMsg) (t : Nat) : State :=
  if x.state = 3 ∨ x.state = 4 then raise (setSub s k (refreshed x m t)) { blk := 0xA, ev := 2, info := [k] }
  else setSub s k (refreshed x m t)

/-- The state in which the members of a new state are collected. -/
def membersTaken (s : State) (k : Nat) (x : GseSub) (m : GooseMsg) (t : Nat) : State :=
  if freshState x m = true ∨ x.state = 3 then collectMembers (subRefreshed s k x m t) k m t else subRefreshed s k x m t

/-- The state in which a routed message has entered the telegram FIFO. -/
def gooseRouted (s : State) (route : Option Nat) (k t : Nat) (m : GooseMsg) : State :=
  match route with
  | some p => putTelegram s (tgItem p 1 k t (m.st % 2 ^ 32) m.raw)
  | none => s

theorem gooseAccept_eq (s : State) (k : Nat) (x : GseSub) (m : GooseMsg) (t : Nat) :
    gooseAccept s k x m t = gseMaps (gooseRouted (membersTaken s k x m t) (gseSubCfg s k).route k t m) := rfl

theorem gooseRouted_keeps (s : State) (route : Option Nat) (k t : Nat) (m : GooseMsg) :
    Keeps 0x2001000001408 s (gooseRouted s route k t m) := by
  cases route with
  | none => exact Keeps.refl ..
  | some p => exact putTelegram_keeps ..

theorem stn_membersTaken (s : State) (k : Nat) (x : GseSub) (m : GooseMsg) (t : Nat) :
    (membersTaken s k x m t).stn = (setSub s k (refreshed x m t)).stn := by
  have left : (subRefreshed s k x m t).stn = (setSub s k (refreshed x m t)).stn := by
    unfold subRefreshed
    split
    · exact raise_stn ..
    · rfl
  unfold membersTaken
  split
  · exact ((collectMembers_keeps ..).same .stn rfl).trans left
  · exact left

theorem gseSub_gooseAccept (s : State) (k : Nat) (x : GseSub) (m : GooseMsg) (t : Nat) :
    gseSub (gooseAccept s k x m t) k = some (refreshed x m t) := by
  have stn : (gooseAccept s k x m t).stn = (setSub s k (refreshed x m t)).stn := by
    rw [gooseAccept_eq]
    exact ((gseMaps_keeps _).same .stn rfl).trans (((gooseRouted_keeps ..).same .stn rfl).trans (stn_membersTaken ..))
  rw [gseSub_congr stn, gseSub_setSub_same]

theorem subMember_congr (h : u.cfg = s.cfg) (k j : Nat) : subMember u k j = subMember s k j := by
  have only : subMember u k j = subMember { s with cfg := u.cfg } k j := rfl
  rw [only, h]

theorem memberQual_bool (b : Bool) : memberQual [.bool b] 0 false = 0 := by simp [memberQual, bit1]

theorem collectMember_bool (s : State) (k : Nat) (m : GooseMsg) (j : Nat) (b : Bool) (t : Nat) : collectMember s k m j (.bool b) t =
    (subMember s k j).foldl (fun u ep => collectState u ep (if b then 2 else 1) (memberQual m.vals j m.test) t) s := rfl

theorem collectMembers_single {v : GVal} (vals : m.vals = [v]) : collectMembers s k m t = collectMember s k m 0 v t := by
  rw [collectMembers, vals]; rfl

/-- A message of one Boolean member collects ON or OFF for its endpoint. -/
theorem collectMembers_bool {b : Bool} {ep : Nat} (vals : m.vals = [.bool b]) (test : m.test = false) (eps : subMember s k 0 = [ep]) :
    collectMembers s k m t = collectTet s ep (if b then 0x2#4 else 0x1#4) 0 t := by
  have state : tetOfQual (if b then 2 else 1) 0 = if b then 0x2#4 else 0x1#4 := by cases b <;> decide
  rw [collectMembers_single vals, collectMember_bool, vals, test, eps, List.foldl_cons, List.foldl_nil, memberQual_bool, collectState, state]

theorem got_collectTet (s : State) (ep : Nat) (v : Tetrad) (q : Qual) (t : Nat) :
    tget none (collectedFor s (collectTet s ep v q t) t).got ep = some { tet := v, qual := q, stamp := t } := by
  have grid : (sourceBack s ep).grid = s.grid := (sourceBack_keeps ..).same .grid rfl
  rw [← collectedFor_congr grid (u := collectTet s ep v q t) rfl]
  exact got_collectGot (sourceBack s ep) ep _

theorem cfg_subRefreshed (s : State) (k : Nat) (x : GseSub) (m : GooseMsg) (t : Nat) : (subRefreshed s k x m t).cfg = s.cfg := by
  unfold subRefreshed
  split
  · exact raise_cfg ..
  · rfl

theorem grid_subRefreshed (s : State) (k : Nat) (x : GseSub) (m : GooseMsg) (t : Nat) : (subRefreshed s k x m t).grid = s.grid := by
  unfold subRefreshed
  split
  · exact raise_grid ..
  · rfl

theorem got_gooseAccept {b : Bool} {ep : Nat} (vals : m.vals = [.bool b]) (test : m.test = false) (eps : subMember s k 0 = [ep])
    (new : x.first = true ∨ m.st ≠ x.st) : tget none (collectedFor s (gooseAccept s k x m t) t).got ep =
      some { tet := if b then 0x2#4 else 0x1#4, qual := 0, stamp := t } := by
  have fresh : freshState x m = true := by simpa [freshState] using new
  have eps' : subMember (subRefreshed s k x m t) k 0 = [ep] := (subMember_congr (cfg_subRefreshed ..) k 0).trans eps
  have taken : membersTaken s k x m t = collectTet (subRefreshed s k x m t) ep (if b then 0x2#4 else 0x1#4) 0 t :=
    (if_pos (.inl fresh)).trans (collectMembers_bool vals test eps')
  have sig : (gooseAccept s k x m t).sig = (membersTaken s k x m t).sig := by
    rw [gooseAccept_eq]
    exact ((gseMaps_keeps _).same .sig rfl).trans ((gooseRouted_keeps ..).same .sig rfl)
  rw [← collectedFor_congr (grid_subRefreshed s k x m t) (u := gooseAccept s k x m t) rfl, collectedFor_congr rfl sig, taken]
  exact got_collectTet ..

/-! ### The map of the subscriptions, timeouts (R410, R411) -/

theorem rd_gseMaps_event (s : State) : rd (gseMaps s) Reg.GSE_EVT_STAT = rd s Reg.GSE_EVT_STAT := by
  have maps : ∀ (l : List Nat) (w : Nat → Word) (v : State),
      rd (l.foldl (fun u n => wr u (Reg.GSE_OKMAPn n) (w n)) v) Reg.GSE_EVT_STAT = rd v Reg.GSE_EVT_STAT := by
    intro l w
    induction l with
    | nil => exact fun v => rfl
    | cons n l ih =>
      intro v
      have apart : Reg.GSE_EVT_STAT ≠ Reg.GSE_OKMAPn n := by
        show 0x400A0010 ≠ 0x400A0050 + 4 * (n % 16)
        omega
      rw [List.foldl_cons, ih, rd_wr_other _ _ _ _ apart]
  unfold gseMaps
  extract_lets ok s1
  exact (rd_wr_other _ _ _ _ (by decide)).trans (maps ..)

theorem flag_raise_gse (s : State) {r : RecReq} {i : Nat} (blk : r.blk = 0xA) (ev : r.ev = i) (h : i < 32) :
    flag (rd (raise s r) Reg.GSE_EVT_STAT) i = true := by
  have stat : evtStat r.blk 0 = Reg.GSE_EVT_STAT := by rw [blk]; rfl
  rw [← stat, rd_raise_evt _ _ _ (by rw [stat]; decide), ← ev, flag_or_bit _ (ev ▸ h)]

/-- The state in which a subscription is LOST. -/
def talShown (s : State) (k : Nat) (x : GseSub) : State :=
  raise (setSub s k { x with state := 3, lostCnt := satAdd 0xFFFFFFFF x.lostCnt 1 }) { blk := 0xA, ev := 1, info := [k] }

theorem exec_gooseTalExpiry_due (here : gseSub s k = some x) (ok : x.state = 2) (due : x.lastAt + x.tal ≤ t) :
    exec (.gooseTalExpiry k t) s = .next (gseMaps (loseSource (talShown (atTime s t) k x) (subEps s k) t)) := by
  have here' : gseSub (atTime s t) k = some x := here
  show execGooseTalExpiry k t s = _
  simp only [execGooseTalExpiry, here']
  exact if_pos ⟨ok, due⟩

/-- The state in which a discard cause has lasted. -/
def errShown (s : State) (k : Nat) (x : GseSub) : State :=
  raise (setSub s k { x with state := 4 }) { blk := 0xA, ev := 3, info := [k, x.err] }

theorem exec_gooseErrorTimeout_due {q : Nat} (here : gseSub s k = some x) (not_ : x.state ≠ 4) (since : x.errSince = some q)
    (due : q + 2 * (gseSubCfg s k).maxt ≤ s.grid.frame) : exec (.gooseErrorTimeout k t) s = .next (gseMaps (errShown (atTime s t) k x)) := by
  have here' : gseSub (atTime s t) k = some x := here
  have lasts_ : (x.errSince.any fun f => decide (f + 2 * (gseSubCfg (atTime s t) k).maxt ≤ (atTime s t).grid.frame)) = true := by
    rw [since, Option.any_some]; exact decide_eq_true due
  show execGooseErrorTimeout k t s = _
  simp only [execGooseErrorTimeout, here']
  exact if_pos ⟨not_, lasts_⟩

end Subscribe

/-! ### Repeats and launch queues (R408) -/

section Publish

variable {s u : State} {k t : Nat}

theorem length_launchPlace (a : LaunchEnt) (l : List LaunchEnt) : (launchPlace a l).length = l.length + 1 := by
  induction l with
  | nil => rfl
  | cons b l ih =>
    unfold launchPlace
    split
    · rfl
    · rw [List.length_cons, ih, List.length_cons]

theorem launchQ_setLaunchQ (s : State) (p : Nat) (q : LaunchQ) (i : Nat) : launchQ (setLaunchQ s p q) i = if i = p then q else launchQ s i :=
  tget_tset ..

theorem launchQ_congr (h : u.tim = s.tim) (p : Nat) : launchQ u p = launchQ s p := by rw [launchQ, launchQ, h]

/-- An entry makes the queue of its port one longer, when there is room, and leaves the other queues as they are. -/
theorem length_enqueue (s : State) (p : Nat) (a : LaunchEnt) (i : Nat) : (launchQ (enqueue s p a) i).ents.length =
    if i = p ∧ (launchQ s p).ents.length < 512 then (launchQ s p).ents.length + 1 else (launchQ s i).ents.length := by
  by_cases full : 512 ≤ (launchQ s p).ents.length
  · rw [if_neg fun both => Nat.not_le.2 both.2 full, enqueue, if_pos full]
    exact congrArg (fun q : LaunchQ => q.ents.length) (launchQ_congr (recordBare_tim ..) i)
  · rw [enqueue, if_neg full, launchQ_setLaunchQ]
    by_cases own : i = p
    · have both : i = p ∧ (launchQ s p).ents.length < 512 := ⟨own, Nat.not_le.1 full⟩
      rw [if_pos own, if_pos both]
      exact length_launchPlace ..
    · rw [if_neg own, if_neg fun both => own both.1]

/-- A publication after a repeat. -/
def repeated (c : GsePubCfg) (x : GsePub) (frame : Nat) : GsePub :=
  { x with sq := x.sq + 1, reps := x.reps + 1, nextAt := frame + pubInterval c (x.reps + 1) }

theorem exec_gooseRepeat_due (publ : publishes s k = true) (sent : (gsePub s k).sent = true) (due : (gsePub s k).nextAt ≤ s.grid.frame) :
    exec (.gooseRepeat k t) s = .next (repeatState (atTime s t) k) := if_pos ⟨publ, sent, due⟩

theorem gsePub_repeatState (s : State) (k : Nat) : gsePub (repeatState s k) k = repeated (gsePubCfg s k) (gsePub s k) s.grid.frame := by
  have stn : (repeatState s k).stn = (setPub s k (repeated (gsePubCfg s k) (gsePub s k) s.grid.frame)).stn := (queuePub_keeps ..).same .stn rfl
  rw [gsePub_congr stn, gsePub_setPub_same]

/-- The ports of a publication's pair. -/
theorem queuePub_eq (s : State) (k : Nat) (prompt : Bool) : ∃ e, queuePub s k prompt =
    enqueue (enqueue s (if (gsePubCfg s k).pb then 2 else 0) e) ((if (gsePubCfg s k).pb then 2 else 0) + 1) e := ⟨_, rfl⟩

theorem length_queuePub (s : State) (k : Nat) (prompt : Bool) {port : Nat} (own : port / 2 = (if (gsePubCfg s k).pb then 1 else 0))
    (room : (launchQ s port).ents.length < 512) : (launchQ (queuePub s k prompt) port).ents.length = (launchQ s port).ents.length + 1 := by
  obtain ⟨e, eq⟩ := queuePub_eq s k prompt
  have base : (if (gsePubCfg s k).pb then 2 else 0) = 2 * (port / 2) := by rw [own]; split <;> rfl
  rw [eq, base, length_enqueue, length_enqueue, length_enqueue]
  obtain even | odd : port = 2 * (port / 2) ∨ port = 2 * (port / 2) + 1 := by omega
  · rw [if_neg (by omega), if_pos ⟨even, by rwa [← even]⟩, ← even]
  · have first : ¬ (2 * (port / 2) + 1 = 2 * (port / 2) ∧ (launchQ s (2 * (port / 2))).ents.length < 512) := by omega
    rw [if_neg first, if_pos ⟨odd, by rwa [← odd]⟩, ← odd]

end Publish

/-- Settles O48: a frame reaches the filters through pairCounted, a GOOSE message its subscription through hearPartner and gooseAccept, and
a repeat both ports of its pair through enqueue. -/
theorem ethernetAndGoose : Obligations.EthernetAndGoose := by
  intro s f m t k q ip up b d c x data
  refine ⟨fun on low => ⟨fun bad => ?fcs, fun fcs over_ => ?oversize, fun fcs fits service => ?service,
      fun fcs fits pair seq mem src own young => ?duplicate,
      fun fcs fits pair noSeq empty single now => ⟨fun refused => ?etype, fun v passes vid other => ?vlan⟩⟩,
    fun low on => ?supervision, fun low new => ?link, fun on own => ⟨?arp, ?icmp⟩,
    fun sub cfg here => ⟨fun cause plain => ?discards, fun cause => ?accepts⟩,
    fun here => ⟨fun ok due => ?lost, fun not_ since due => ?error⟩, fun publ sent due => ?repeats⟩
  case fcs =>
    refine ⟨_, exec_ethFrameRx_fcs on low bad, ?_, pairs_portSecond (atTime s t) .., Keeps.onlyParts
      (Keeps.step (setPort__keeps ..) rfl (Keeps.step (portSecond_keeps ..) rfl (Keeps.mono (atTime_keeps s t) rfl)))⟩
    rw [ethPort_setPort_same, (ethPort_portSecond ..).1]
    rfl
  case oversize =>
    refine ⟨_, exec_ethFrameRx_oversize on low fcs over_, ?_, pairs_portSecond (atTime s t) .., Keeps.onlyParts
      (Keeps.step (setPort__keeps ..) rfl (Keeps.step (portSecond_keeps ..) rfl (Keeps.mono (atTime_keeps s t) rfl)))⟩
    rw [ethPort_setPort_same, (ethPort_portSecond ..).2.1]
    rfl
  case service =>
    refine ⟨_, exec_ethFrameRx_service on low fcs fits service, ?_, pairs_frameCounted s f t, Keeps.onlyParts (frameCounted_keeps s f t)⟩
    rw [← service, frameCounted, ethPort_setPort_same, (ethPort_portSecond ..).2.2]
    exact apply_ite (· + 1) ..
  case duplicate =>
    have run := exec_ethFrameRx_pair (t := t) on low fcs fits pair
    rw [seq] at run
    have keeps := fun x => Keeps.step (setPair__keeps (pairCounted s f t) (f.port / 2) x) rfl (pairCounted_keeps s f t)
    refine ⟨_, run.trans (if_pos (dups_pairCounted mem src own young)), ?_, (keeps _).same .sent rfl, (keeps _).same .sig rfl⟩
    rw [ethPair_setPair_same, discard_pairCounted]
  case etype =>
    have run := exec_ethFrameRx_pair (t := t) on low fcs fits pair
    rw [noSeq] at run
    obtain ⟨same, keeps⟩ := pairCounted_fresh (t := t) empty single now
    refine ⟨_, run.trans (congrArg Host.Outcome.next (filterFrame_etype refused)), ?_,
      Keeps.onlyParts (Keeps.step (countDrop_keeps ..) rfl keeps)⟩
    rw [ethPair_countDrop, same]
    exact (ethPair_countDrop ..).symm
  case vlan =>
    have run := exec_ethFrameRx_pair (t := t) on low fcs fits pair
    rw [noSeq] at run
    obtain ⟨same, keeps⟩ := pairCounted_fresh (t := t) empty single now
    have vids : pairVids (pairCounted s f t) (f.port / 2) = pairVids s (f.port / 2) := by
      rw [pairVids, (keeps.same .cfg rfl : (pairCounted s f t).cfg = s.cfg)]; rfl
    refine ⟨_, run.trans (congrArg Host.Outcome.next (filterFrame_vlan passes vid (by rw [vids]; exact other))), ?_,
      Keeps.onlyParts (Keeps.step (countDrop_keeps ..) rfl keeps)⟩
    rw [ethPair_countDrop, same]
    exact (ethPair_countDrop ..).symm
  case supervision =>
    refine ⟨_, exec_supervisionFrame_on low on, ?_⟩
    exact List.append_assoc ..
  case link =>
    have own := ethPort_linkChanged (atTime s t) k up q
    exact ⟨_, exec_ethLinkChange_new low new, congrArg EthPort.link own, congrArg EthPort.speed own, congrArg EthPort.downs own,
      flag_stat_linkChanged low up q, flag_evt_linkChanged .., onlyRegs_linkChanged (atTime s t) k up q⟩
  case arp => exact ⟨_, exec_arpRequest_owned on own, rfl⟩
  case icmp => exact ⟨_, exec_icmpEcho_owned on own data, rfl⟩
  case discards =>
    refine ⟨_, exec_gooseRx_discards sub here cause plain, sig_gooseHeard s m t, ?_⟩
    rw [gseSub_setSub_same, frame_gooseHeard]
    rfl
  case accepts =>
    refine ⟨_, exec_gooseRx_accepts sub here cause, gseSub_gooseAccept .., fun ep vals test eps new => ?_⟩
    have eps' : subMember (gooseHeard s m t) k 0 = [ep] := (subMember_congr (cfg_gooseHeard s m t) k 0).trans eps
    have got := got_gooseAccept (t := t) vals test eps' new
    have next : nextFreeze (gooseHeard s m t) = nextFreeze s := by rw [nextFreeze, frame_gooseHeard, nextFreeze]
    rw [collectedFor, next] at got
    exact (congrArg (Option.map _) got).trans rfl
  case lost =>
    refine ⟨_, exec_gooseTalExpiry_due here ok due, ?_, ?_, fun ep mem => ?_⟩
    · have stn : (gseMaps (loseSource (talShown (atTime s t) k x) (subEps s k) t)).stn = (setSub (atTime s t) k _).stn :=
        ((gseMaps_keeps _).same .stn rfl).trans (((loseSource_keeps ..).same .stn rfl).trans (raise_stn ..))
      rw [gseSub_congr stn, gseSub_setSub_same]
    · rw [rd_gseMaps_event, rd_of_keeps (loseSource_keeps ..) rfl (by decide)]
      exact flag_raise_gse _ rfl rfl (by decide)
    · rw [(gseMaps_keeps _).same .sig rfl]
      exact lost_loseSource _ _ _ mem
  case error =>
    refine ⟨_, exec_gooseErrorTimeout_due here not_ since due, ?_, ?_⟩
    · have stn : (gseMaps (errShown (atTime s t) k x)).stn = (setSub (atTime s t) k _).stn :=
        ((gseMaps_keeps _).same .stn rfl).trans (raise_stn ..)
      rw [gseSub_congr stn, gseSub_setSub_same]
    · rw [rd_gseMaps_event]
      exact flag_raise_gse _ rfl rfl (by decide)
  case repeats =>
    exact ⟨_, exec_gooseRepeat_due publ sent due, gsePub_repeatState .., fun port own room =>
      length_queuePub (setPub (atTime s t) k _) k false own room⟩

end Sys2Proof.Machine
end

section
/-! MMS services, commands and capture files (R195, R404, R412–R414): O49, settled. -/

namespace Sys2Proof.Machine

open Sys2Proof

section Mms

variable {s : State} {a n o b t k ep : Nat} {ctl test last : Bool} {raw : List Byte} {c : MmsObjCfg} {g : Capture}

/-! ### Requests with and without an association (R404, R412) -/

/-- A service that only answers changes the response and the clock. -/
theorem reads_of_answer {i : Instr} {v : Resp} (run : exec i s = .next (answer (atTime s t) v)) :
    completes i s fun u => u.resp = v ∧ onlyParts [.grid, .resp] s u :=
  ⟨_, run, rfl, Keeps.onlyParts (Keeps.step (answer_keeps ..) rfl (Keeps.mono (atTime_keeps s t) rfl))⟩

theorem mmsCall_open (opened : associated s a = true) (f : State → State) : mmsCall (atTime s t) a f = f (atTime s t) :=
  if_pos (show associated (atTime s t) a = true from opened)

theorem mmsCall_closed (closed : associated s a = false) (f : State → State) : mmsCall (atTime s t) a f = answer (atTime s t) .error :=
  if_neg (Bool.eq_false_iff.1 (show associated (atTime s t) a = false from closed))

theorem reads_of_mmsCall {i : Instr} {f : State → State} (closed : associated s a = false)
    (run : exec i s = .next (mmsCall (atTime s t) a f)) : completes i s fun u => u.resp = .error ∧ onlyParts [.grid, .resp] s u :=
  reads_of_answer (run.trans (congrArg _ (mmsCall_closed closed f)))

theorem exec_mmsAssociate_new (on : serves s = true) (allowed : s.cfg.stn.allow.contains n = true) (room : s.stn.assocs.length < 16)
    (new : s.stn.assocs.contains a = false) : exec (.mmsAssociate a n t) s =
      .next (answer (setStn (atTime s t) fun n => { n with assocs := n.assocs ++ [a] }) (.value a)) := by
  have new' : (!s.stn.assocs.contains a) = true := by rw [new, Bool.not_false]
  exact if_pos ⟨on, allowed, room, new'⟩

theorem exec_mmsAssociate_refused (no : serves s = false ∨ s.cfg.stn.allow.contains n = false ∨ 16 ≤ s.stn.assocs.length) :
    exec (.mmsAssociate a n t) s = .next (answer (atTime s t) (.refused 0)) := by
  refine if_neg ?_
  rintro ⟨on, allowed, room, -⟩
  obtain off | foreign | full := no
  · exact Bool.eq_false_iff.1 off on
  · exact Bool.eq_false_iff.1 foreign allowed
  · exact Nat.not_le.2 room full

/-! ### The end of an association -/

/-- What holds of every changed entry, and of the default, holds of every entry after the change. -/
theorem forall_tget_tmapAll {α : Type} [DecidableEq α] {d : α} {f : Nat → α → α} {P : α → Prop} (tbl : Tbl α)
    (each : ∀ k x, P (f k x)) (default_ : P d) (k : Nat) : P (tget d (tmapAll d f tbl) k) := by
  have fold : ∀ (l acc : Tbl α), (k ∈ l.map (·.1) ∨ P (tget d acc k)) →
      P (tget d (l.foldl (fun acc e => tset d acc e.1 (f e.1 e.2)) acc) k) := by
    intro l
    induction l with
    | nil => exact fun acc h => h.resolve_left List.not_mem_nil
    | cons e l ih =>
      intro acc h
      refine ih _ (or_iff_not_imp_left.2 fun out => ?_)
      rw [tget_tset]
      split
      · exact each ..
      · next apart => exact h.resolve_left fun mem => (List.mem_cons.1 mem).elim apart out
  refine fold tbl tbl (or_iff_not_imp_left.2 fun out => ?_)
  rw [tget_of_not_mem out]
  exact default_

theorem ena_endAssoc (s : State) (a j : Nat) : (tget ({} : Rcb) (endAssoc s a).stn.rcbs j).ena ≠ some a := by
  refine forall_tget_tmapAll (d := ({} : Rcb)) (f := fun _ x => if x.ena = some a then { x with ena := none } else x)
    (P := fun x => x.ena ≠ some a) s.stn.rcbs (fun _ x => ?_) (Option.some_ne_none a).symm j
  split
  · exact (Option.some_ne_none a).symm
  · assumption

theorem sel_endAssoc (s : State) (a j : Nat) : (mmsObj (endAssoc s a) j).sel.map (·.1) ≠ some a := by
  refine forall_tget_tmapAll (d := ({} : MmsObj)) (f := fun _ x => if x.sel.map (·.1) = some a then { x with sel := none } else x)
    (P := fun x => x.sel.map (·.1) ≠ some a) s.stn.objs (fun _ x => ?_) (Option.some_ne_none a).symm j
  split
  · exact (Option.some_ne_none a).symm
  · assumption

theorem exec_mmsConclude_open (opened : associated s a = true) :
    exec (.mmsConclude a t) s = .next (answer (endAssoc (atTime s t) a) (.value 0)) := congrArg _ (mmsCall_open opened _)

theorem exec_mmsAbort_open (opened : associated s a = true) : exec (.mmsAbort a t) s = .next (endAssoc (atTime s t) a) :=
  congrArg Host.Outcome.next (if_pos (show associated (atTime s t) a = true from opened))

/-! ### Reading and setting (R412, R414) -/

theorem exec_getDirectory_open {l : List Nat} (opened : associated s a = true) (dir : look s.cfg.stn.dirs n = some l) :
    exec (.getDirectory a n t) s = .next (answer (atTime s t) (.values l)) := by
  have dir' : look (atTime s t).cfg.stn.dirs n = some l := dir
  show execGetDirectory a n t s = _
  simp only [execGetDirectory, mmsCall_open opened, dir', done]

theorem exec_getDataValues_open (opened : associated s a = true) (val : look s.cfg.stn.vals n = some ep) :
    exec (.getDataValues a n t) s = .next (answer (atTime s t) (.values (epNums s ep))) := by
  have val' : look (atTime s t).cfg.stn.vals n = some ep := val
  show execGetDataValues a n t s = _
  simp only [execGetDataValues, mmsCall_open opened, val', done]
  rfl

section Blocks

variable {h : RcbCfg} (opened : associated s a = true) (blk : look s.cfg.stn.rcbs b = some h)

include opened blk

/-- A control block whose reports an association has enabled. -/
def enabledBy (x : Rcb) (h : RcbCfg) (a : Nat) : Rcb := { x with ena := some a, last := if h.buffered then x.last else none }

theorem exec_setDataValues_enables (own : ∀ y, (tget ({} : Rcb) s.stn.rcbs b).ena = some y → y = a) :
    exec (.setDataValues a b 0 1 t) s = .next (answer (setStn (atTime s t) fun n => { n with
      rcbs := tset {} n.rcbs b (enabledBy (tget {} s.stn.rcbs b) h a) }) (.value 0)) := by
  have blk' : look (atTime s t).cfg.stn.rcbs b = some h := blk
  have free : ¬ ((tget ({} : Rcb) (atTime s t).stn.rcbs b).ena.any fun o => decide (o ≠ a)) = true := by
    rw [Option.any_eq_true]
    rintro ⟨y, ena, ne⟩
    exact of_decide_eq_true ne (own y ena)
  show execSetDataValues a b 0 1 t s = _
  simp only [execSetDataValues, mmsCall_open opened, blk']
  rw [if_neg free]
  rfl

theorem exec_setDataValues_foreign {y v : Nat} (ena : (tget ({} : Rcb) s.stn.rcbs b).ena = some y) (other : y ≠ a) :
    exec (.setDataValues a b k v t) s = .next (answer (atTime s t) .error) := by
  have blk' : look (atTime s t).cfg.stn.rcbs b = some h := blk
  have taken : ((tget ({} : Rcb) (atTime s t).stn.rcbs b).ena.any fun o => decide (o ≠ a)) = true :=
    (Option.any_eq_true ..).2 ⟨y, ena, decide_eq_true other⟩
  show execSetDataValues a b k v t s = _
  simp only [execSetDataValues, mmsCall_open opened, blk']
  rw [if_pos taken]
  rfl

end Blocks

/-! ### Objects and commands (R413) -/

theorem mmsObj_setObj (s : State) (o : Nat) (x : MmsObj) (j : Nat) : mmsObj (setObj_ s o x) j = if j = o then x else mmsObj s j := tget_tset ..

theorem mmsObj_setObj_same (s : State) (o : Nat) (x : MmsObj) : mmsObj (setObj_ s o x) o = x := (mmsObj_setObj ..).trans (if_pos rfl)

theorem mmsObj_setObj_other {j : Nat} (s : State) (x : MmsObj) (apart : j ≠ o) : mmsObj (setObj_ s o x) j = mmsObj s j :=
  (mmsObj_setObj ..).trans (if_neg apart)

theorem mmsObj_congr {u : State} (objs : u.stn.objs = s.stn.objs) (o : Nat) : mmsObj u o = mmsObj s o := by rw [mmsObj, mmsObj, objs]

/-- The object of an accepted command. -/
def commanded (s : State) (a : Nat) (ctl test : Bool) (t : Nat) : MmsObj :=
  { sel := none, exec := some { ctl := ctl, test := test, on := if t < nextFreeze s then s.grid.frame + 1 else s.grid.frame + 2, assoc := a } }

/-- The state in which an accepted command is collected for its endpoints. -/
def commandTaken (s : State) (o a : Nat) (ctl test : Bool) (t : Nat) : State :=
  (mmsEps s o ctl).foldl (fun u ep => collectOwn u ep (mkTet 2 false test) t) (setObj_ s o (commanded s a ctl test t))

/-- The state in which a routed command has entered the telegram FIFO. -/
def commandRouted (s : State) (route : Option Nat) (a t : Nat) (raw : List Byte) : State :=
  match route with
  | some p => putTelegram s (tgItem p 2 a t 0 raw)
  | none => s

/-- The state after an accepted command. -/
def operateAccepted (s : State) (c : MmsObjCfg) (o a : Nat) (ctl test : Bool) (raw : List Byte) (t : Nat) : State :=
  answer (setStn (commandRouted (commandTaken s o a ctl test t) c.route a t raw) fun n => { n with opsOk := satAdd 0xFFFF n.opsOk 1 }) (.value 0)

/-- The state after a refused command. -/
def operateRefused (s : State) (cause : Nat) : State :=
  answer (setStn s fun n => { n with opsBad := satAdd 0xFFFF n.opsBad 1 }) (.refused cause)

section Commands

variable (opened : associated s a = true) (obj : look s.cfg.stn.objs o = some c)

include opened obj

theorem exec_mmsSelect_free (model : c.model = 2) (free : (mmsObj s o).sel = none) (idle : executing s (mmsObj s o) = false) :
    exec (.mmsSelect o a t) s =
      .next (answer (setObj_ (atTime s t) o { mmsObj s o with sel := some (a, t + c.selTo * 1000000000) }) (.value 0)) := by
  have obj' : look (atTime s t).cfg.stn.objs o = some c := obj
  have ran : ¬ (c.model ≠ 2 ∨ ((mmsObj (atTime s t) o).sel.any fun (z : Nat × Nat) => decide (z.1 ≠ a) && decide (t < z.2)) = true ∨
      executing (atTime s t) (mmsObj (atTime s t) o) = true) := by
    rintro (other | taken | busy)
    · exact other model
    · rw [show (mmsObj (atTime s t) o).sel = none from free] at taken
      exact Bool.false_ne_true taken
    · exact Bool.eq_false_iff.1 idle busy
  show execMmsSelect o a t s = _
  simp only [execMmsSelect, mmsCall_open opened, obj']
  rw [if_neg ran]
  rfl

theorem exec_mmsSelect_refused (no : c.model ≠ 2 ∨ executing s (mmsObj s o) = true) :
    exec (.mmsSelect o a t) s = .next (answer (atTime s t) (.refused 3)) := by
  have obj' : look (atTime s t).cfg.stn.objs o = some c := obj
  have ran : c.model ≠ 2 ∨ ((mmsObj (atTime s t) o).sel.any fun (z : Nat × Nat) => decide (z.1 ≠ a) && decide (t < z.2)) = true ∨
      executing (atTime s t) (mmsObj (atTime s t) o) = true := no.imp_right .inr
  show execMmsSelect o a t s = _
  simp only [execMmsSelect, mmsCall_open opened, obj']
  rw [if_pos ran]
  rfl

theorem exec_mmsOperate_busy (busy : executing s (mmsObj s o) = true) :
    exec (.mmsOperate o a ctl test raw t) s = .next (operateRefused (atTime s t) 12) := by
  have obj' : look (atTime s t).cfg.stn.objs o = some c := obj
  have busy' : executing (atTime s t) (mmsObj (atTime s t) o) = true := busy
  show execMmsOperate o a ctl test raw t s = _
  simp only [execMmsOperate, mmsCall_open opened, obj']
  rw [if_pos busy']
  rfl

variable (idle : executing s (mmsObj s o) = false)

include idle

theorem exec_mmsOperate_unselected (model : c.model = 2) (none_ : (mmsObj s o).sel = none) :
    exec (.mmsOperate o a ctl test raw t) s = .next (operateRefused (atTime s t) 18) := by
  have obj' : look (atTime s t).cfg.stn.objs o = some c := obj
  have idle' : ¬ executing (atTime s t) (mmsObj (atTime s t) o) = true := Bool.eq_false_iff.1 idle
  have unsel : c.model = 2 ∧ (!((mmsObj (atTime s t) o).sel.any fun z => decide (z.1 = a) && decide (t < z.2))) = true := by
    rw [show (mmsObj (atTime s t) o).sel = none from none_]
    exact ⟨model, rfl⟩
  show execMmsOperate o a ctl test raw t s = _
  simp only [execMmsOperate, mmsCall_open opened, obj']
  rw [if_neg idle', if_pos unsel]
  rfl

theorem exec_mmsOperate_accepted (sel : c.model = 2 → (mmsObj s o).sel = some (a, k) ∧ t < k) :
    exec (.mmsOperate o a ctl test raw t) s = .next (operateAccepted (atTime s t) c o a ctl test raw t) := by
  have obj' : look (atTime s t).cfg.stn.objs o = some c := obj
  have idle' : ¬ executing (atTime s t) (mmsObj (atTime s t) o) = true := Bool.eq_false_iff.1 idle
  have ran : ¬ (c.model = 2 ∧ (!((mmsObj (atTime s t) o).sel.any fun z => decide (z.1 = a) && decide (t < z.2))) = true) := by
    rintro ⟨model, unsel⟩
    obtain ⟨own, young⟩ := sel model
    rw [show (mmsObj (atTime s t) o).sel = some (a, k) from own] at unsel
    simp [young] at unsel
  show execMmsOperate o a ctl test raw t s = _
  simp only [execMmsOperate, mmsCall_open opened, obj']
  rw [if_neg idle', if_neg ran]
  rfl

end Commands

theorem commandRouted_keeps (s : State) (route : Option Nat) (a t : Nat) (raw : List Byte) :
    Keeps 0x2001000001408 s (commandRouted s route a t raw) := by
  cases route with
  | none => exact Keeps.refl ..
  | some p => exact putTelegram_keeps ..

theorem foldl_collectOwn_keeps (s : State) (eps : List Nat) (v : Tetrad) (t : Nat) :
    Keeps 0x2000400001088 s (eps.foldl (fun u ep => collectOwn u ep v t) s) :=
  Keeps.foldl (Keeps.refl ..) fun _ _ kept => Keeps.step (collectOwn_keeps ..) rfl kept

theorem stn_commandRouted (s : State) (c : MmsObjCfg) (o a : Nat) (ctl test : Bool) (raw : List Byte) (t : Nat) :
    (commandRouted (commandTaken s o a ctl test t) c.route a t raw).stn = (setObj_ s o (commanded s a ctl test t)).stn :=
  ((commandRouted_keeps ..).same .stn rfl).trans ((foldl_collectOwn_keeps ..).same .stn rfl)

theorem opsOk_operateAccepted (s : State) (c : MmsObjCfg) (o a : Nat) (ctl test : Bool) (raw : List Byte) (t : Nat) :
    (operateAccepted s c o a ctl test raw t).stn.opsOk = satAdd 0xFFFF s.stn.opsOk 1 :=
  have stn := stn_commandRouted s c o a ctl test raw t
  (congrArg (fun n : StnState => satAdd 0xFFFF n.opsOk 1) stn :)

theorem mmsObj_operateAccepted (s : State) (c : MmsObjCfg) (o a : Nat) (ctl test : Bool) (raw : List Byte) (t : Nat) :
    mmsObj (operateAccepted s c o a ctl test raw t) o = commanded s a ctl test t := by
  have stn := stn_commandRouted s c o a ctl test raw t
  have objs : (operateAccepted s c o a ctl test raw t).stn.objs = (setObj_ s o (commanded s a ctl test t)).stn.objs :=
    (congrArg StnState.objs stn :)
  rw [mmsObj_congr objs, mmsObj_setObj_same]

/-- An accepted command is collected ON for its endpoint. -/
theorem got_operateAccepted (eps : mmsEps s o ctl = [ep]) : tget none (collectedFor s (operateAccepted s c o a ctl test raw t) t).got ep =
    some { tet := mkTet 2 false test, qual := Config.sideQual (mkTet 2 false test).toNat, stamp := t } := by
  have sig : (operateAccepted s c o a ctl test raw t).sig =
      (collectOwn (setObj_ s o (commanded s a ctl test t)) ep (mkTet 2 false test) t).sig := by
    refine ((commandRouted_keeps ..).same .sig rfl).trans ?_
    rw [commandTaken, eps, List.foldl_cons, List.foldl_nil]
  have grid : (setObj_ s o (commanded s a ctl test t)).grid = s.grid := rfl
  rw [← collectedFor_congr grid (u := operateAccepted s c o a ctl test raw t) rfl, collectedFor_congr rfl sig]
  exact got_collectOwn ..

/-! ### Timeouts (R413) -/

theorem exec_selectTimeout_due (sel : (mmsObj s o).sel = some (a, k)) (due : k ≤ t) :
    exec (.selectTimeout o t) s = .next (setObj_ (atTime s t) o { mmsObj s o with sel := none }) := by
  have lapsed : ((mmsObj (atTime s t) o).sel.any fun z => decide (z.2 ≤ t)) = true := (Option.any_eq_true ..).2 ⟨_, sel, decide_eq_true due⟩
  exact if_pos lapsed

/-- The state in which the endpoints of a command that ends are collected OFF. -/
def commandOff (s : State) (o : Nat) (e : MmsExec) : State :=
  (mmsEps s o e.ctl).foldl (fun u ep => collectOwn u ep 0x1#4 s.grid.freezeAt)
    (setObj_ s o { mmsObj s o with exec := some { e with off := some (s.grid.frame + 1) } })

theorem endCommand_eq (s : State) (o : Nat) (e : MmsExec) (ok : Bool) : endCommand s o e ok =
    if ((look s.cfg.stn.objs o).getD {}).model = 0 ∨ (!associated s e.assoc) = true then commandOff s o e
    else ethSend (commandOff s o e) 0 103 [e.assoc, o, bit1 ok 0] := rfl

theorem mmsObj_endCommand (s : State) (o : Nat) (e : MmsExec) (ok : Bool) :
    mmsObj (endCommand s o e ok) o = { mmsObj s o with exec := some { e with off := some (s.grid.frame + 1) } } := by
  have off : mmsObj (commandOff s o e) o = { mmsObj s o with exec := some { e with off := some (s.grid.frame + 1) } } := by
    have stn : (commandOff s o e).stn = _ := (foldl_collectOwn_keeps ..).same .stn rfl
    exact (mmsObj_congr (congrArg StnState.objs stn) o).trans (mmsObj_setObj_same ..)
  rw [endCommand_eq]
  split
  · exact off
  · exact off

theorem sent_endCommand (s : State) (o : Nat) (e : MmsExec) (obj : look s.cfg.stn.objs o = some c) : (endCommand s o e false).sent =
    if c.model = 0 ∨ associated s e.assoc = false then s.sent else s.sent ++ [{ bus := 3, kind := 103, data := [0, e.assoc, o, 0] }] := by
  have off : (commandOff s o e).sent = s.sent := (foldl_collectOwn_keeps ..).same .sent rfl
  have which : (((look s.cfg.stn.objs o).getD {}).model = 0 ∨ (!associated s e.assoc) = true) ↔
      (c.model = 0 ∨ associated s e.assoc = false) := by
    rw [obj, Option.getD_some, Bool.not_eq_true']
  rw [endCommand_eq, ← off]
  by_cases plain : c.model = 0 ∨ associated s e.assoc = false
  · rw [if_pos (which.2 plain), if_pos plain]
  · rw [if_neg (mt which.1 plain), if_neg plain]
    rfl

theorem exec_operateTimeout_due {e : MmsExec} (obj : look s.cfg.stn.objs o = some c) (run : (mmsObj s o).exec = some e)
    (off : e.off = none) (due : e.on + c.opTo ≤ s.grid.frame) :
    exec (.operateTimeout o t) s = .next (endCommand (atTime s t) o e false) := by
  have run' : (mmsObj (atTime s t) o).exec = some e := run
  have over_ : e.off.isNone = true ∧ e.on + ((look (atTime s t).cfg.stn.objs o).getD {}).opTo ≤ (atTime s t).grid.frame := by
    rw [off, show look (atTime s t).cfg.stn.objs o = some c from obj]
    exact ⟨rfl, due⟩
  show execOperateTimeout o t s = _
  simp only [execOperateTimeout, run']
  exact if_pos over_

/-! ### Capture files (R195) -/

theorem exec_getFile_dat (opened : associated s a = true) (cap : captureOf s n = some g) : exec (.getFile a n true last t) s =
    .next (answer { atTime s t with pe := { s.pe with
      caps := s.pe.caps.map fun y => if y.seq = n then { y with reading := if last then 0 else a + 1 } else y } }
      (.values ((captureDat s g).map (·.toNat)))) := by
  have cap' : captureOf (atTime s t) n = some g := cap
  show execGetFile a n true last t s = _
  simp only [execGetFile, mmsCall_open opened, cap']
  rfl

theorem exec_deleteFile_engineer (opened : associated s a = true) (cap : captureOf s n = some g) (role : hasRole s k 2 = true) :
    exec (.deleteFile a n k t) s = .next (answer { atTime s t with pe := { s.pe with
      caps := s.pe.caps.filter fun y => decide (y.seq ≠ n) } } (.value 0)) := by
  have ran : ¬ ((!hasRole (atTime s t) k 2) = true ∨ captureOf (atTime s t) n = none) := by
    rw [show hasRole (atTime s t) k 2 = true from role, show captureOf (atTime s t) n = some g from cap]
    simp
  exact (congrArg Host.Outcome.next (mmsCall_open opened _)).trans (congrArg Host.Outcome.next (if_neg ran))

theorem exec_deleteFile_refused (opened : associated s a = true) (role : hasRole s k 2 = false) :
    exec (.deleteFile a n k t) s = .next (answer (atTime s t) .error) := by
  have ran : (!hasRole (atTime s t) k 2) = true ∨ captureOf (atTime s t) n = none := by
    rw [show hasRole (atTime s t) k 2 = false from role]
    exact .inl rfl
  exact (congrArg Host.Outcome.next (mmsCall_open opened _)).trans (congrArg Host.Outcome.next (if_pos ran))

end Mms

/-- Settles O49: a request goes through mmsCall, and a command through its object and the collection of its endpoints. -/
theorem mmsServices : Obligations.MmsServices := by
  intro s a n o b t k ep ctl test last raw c e g x r reads
  refine ⟨fun on allowed room new => ?associate, fun no => ?refused, fun closed => ?closed, fun opened => ⟨?ends, fun l dir => ?directory,
      fun val => ?values, fun h blk own => ?enables, fun h y blk ena other => ?foreign,
      fun obj => ⟨fun model free idle => ?select, fun no => ?noSelect, fun idle sel => ?operate, fun busy => ?busy,
        fun idle model none_ => ?unselected⟩,
      fun cap => ⟨?file, fun role => ?delete, fun role => ?noDelete⟩, ?files⟩,
    fun sel due => ?lapse, fun obj run off due => ?timeout⟩
  case associate => exact ⟨_, exec_mmsAssociate_new on allowed room new, rfl, rfl⟩
  case refused => exact reads_of_answer (exec_mmsAssociate_refused no)
  case closed =>
    simp only [List.forall_mem_cons]
    exact ⟨reads_of_mmsCall closed rfl, reads_of_mmsCall closed rfl, reads_of_mmsCall closed rfl, reads_of_mmsCall closed rfl,
      reads_of_mmsCall closed rfl, reads_of_mmsCall closed rfl, reads_of_mmsCall closed rfl, reads_of_mmsCall closed rfl,
      reads_of_mmsCall closed rfl, List.forall_mem_nil _⟩
  case ends =>
    simp only [List.forall_mem_cons]
    exact ⟨⟨_, exec_mmsConclude_open opened, rfl, ena_endAssoc _ a, sel_endAssoc _ a, fun _ _ => rfl⟩,
      ⟨_, exec_mmsAbort_open opened, rfl, ena_endAssoc _ a, sel_endAssoc _ a, fun _ _ => rfl⟩, List.forall_mem_nil _⟩
  case directory => exact reads_of_answer (exec_getDirectory_open opened dir)
  case values => exact reads_of_answer (exec_getDataValues_open opened val)
  case enables =>
    have same := tget_tset_same ({} : Rcb) s.stn.rcbs b (enabledBy r h a)
    exact ⟨_, exec_setDataValues_enables opened blk own, rfl, (congrArg Rcb.ena same :), (congrArg Rcb.buf same :),
      fun j apart => tget_tset_other ({} : Rcb) s.stn.rcbs b j (enabledBy r h a) apart⟩
  case foreign => exact reads_of_answer (exec_setDataValues_foreign opened blk ena other)
  case select =>
    exact ⟨_, exec_mmsSelect_free opened obj model free idle, rfl, mmsObj_setObj_same .., fun j apart => mmsObj_setObj_other _ _ apart⟩
  case noSelect => exact reads_of_answer (exec_mmsSelect_refused opened obj no)
  case operate =>
    exact ⟨_, exec_mmsOperate_accepted opened obj idle sel, rfl, opsOk_operateAccepted .., mmsObj_operateAccepted ..,
      fun eps => congrArg (Option.map _) (got_operateAccepted (s := atTime s t) eps)⟩
  case busy => exact ⟨_, exec_mmsOperate_busy opened obj busy, rfl, rfl⟩
  case unselected => exact ⟨_, exec_mmsOperate_unselected opened obj idle model none_, rfl, rfl⟩
  case file => exact ⟨_, exec_getFile_dat opened cap, rfl, rfl⟩
  case delete => exact ⟨_, exec_deleteFile_engineer opened cap role, rfl, rfl⟩
  case noDelete => exact reads_of_answer (exec_deleteFile_refused opened role)
  case files => exact reads_of_answer (congrArg Host.Outcome.next (mmsCall_open opened _))
  case lapse =>
    exact ⟨_, exec_selectTimeout_due sel due, mmsObj_setObj_same .., fun j apart => mmsObj_setObj_other _ _ apart,
      Keeps.onlyParts (Keeps.step (setObj__keeps ..) rfl (Keeps.mono (atTime_keeps s t) rfl))⟩
  case timeout => exact ⟨_, exec_operateTimeout_due obj run off due, mmsObj_endCommand .., sent_endCommand (atTime s t) o e obj⟩

end Sys2Proof.Machine
end

section
/-! Engineering sessions (R298, R415): O50, settled. -/

namespace Sys2Proof.Machine

open Sys2Proof

section Sessions

variable {s : State} {r : SessReq} {k t id : Nat} {x : Session}

/-! ### Opening -/

/-- The certificate chains to an anchor of the trust store with SESSION usage. -/
def chains (s : State) (r : SessReq) : Bool := (tget none s.upd.trust r.anchor).any fun a => a.usage / 2 % 2 == 1

/-- The state after a refused session. -/
def sessRefused (s : State) (r : SessReq) : State := answer (sessEvent s 2 0 r.role r.serial) (.refused 0)

/-- The number of the next session. -/
def nextId (s : State) : Nat := (s.stn.sessNum + 1) % 2 ^ 26

/-- The session that a request opens. -/
def newSession (s : State) (r : SessReq) : Session :=
  { id := nextId s, role := r.role, svc := r.svc, idleAt := s.grid.mono, serial := r.serial }

/-- The state in which a session stands in its slot. -/
def sessPlaced (s : State) (k : Nat) (r : SessReq) : State :=
  setStn { s with sess := tset none s.sess k (some (newSession s r)) } fun n => { n with sessNum := nextId s }

/-- The state after a session has opened. -/
def sessOpened (s : State) (k : Nat) (r : SessReq) : State :=
  answer (sessEvent (sessPlaced s k r) 0 (nextId s) r.role r.serial) (.value (nextId s))

theorem flag_sessEvent (s : State) (kind id role serial : Nat) : flag (rd (sessEvent s kind id role serial) Reg.ETH_EVT_STAT) 4 = true :=
  flag_raise _ _ _ 0 (by decide) (by decide) (by decide)

theorem sess_sessRefused (s : State) (r : SessReq) : (sessRefused s r).sess = s.sess := raise_sess ..

theorem stn_sessRefused (s : State) (r : SessReq) : (sessRefused s r).stn = s.stn := raise_stn ..

theorem sess_sessOpened (s : State) (k : Nat) (r : SessReq) : (sessOpened s k r).sess = tset none s.sess k (some (newSession s r)) :=
  raise_sess ..

theorem flag_sessRefused (s : State) (r : SessReq) : flag (rd (sessRefused s r) Reg.ETH_EVT_STAT) 4 = true := flag_sessEvent ..

theorem flag_sessOpened (s : State) (k : Nat) (r : SessReq) : flag (rd (sessOpened s k r) Reg.ETH_EVT_STAT) 4 = true := flag_sessEvent ..

theorem stn_sessOpened (s : State) (k : Nat) (r : SessReq) : (sessOpened s k r).stn = { s.stn with sessNum := nextId s } := raise_stn ..

/-- All that SESSION_OPEN asks besides a free slot. -/
def admits (s : State) (r : SessReq) : Bool :=
  sessionsOn s && decide (r.role ≤ 4) && chains s r && Config.sigValid (0x3000 + r.anchor) r.cert r.sig

theorem exec_sessionOpen_admitted (free : freeSlot s = some k) (ok : admits s r = true) :
    exec (.sessionOpen r t) s = .next (sessOpened (atTime s t) k r) := by
  have free' : freeSlot (atTime s t) = some k := free
  have ok' : ¬ (!admits (atTime s t) r) = true := by
    rw [show admits (atTime s t) r = true from ok]; exact Bool.false_ne_true
  show execSessionOpen r t s = _
  simp only [execSessionOpen, free']
  exact if_neg ok'

theorem exec_sessionOpen_refused (no : freeSlot s = none ∨ admits s r = false) :
    exec (.sessionOpen r t) s = .next (sessRefused (atTime s t) r) := by
  show execSessionOpen r t s = _
  cases slot : freeSlot s with
  | none =>
    have slot' : freeSlot (atTime s t) = none := slot
    simp only [execSessionOpen, slot']
    rfl
  | some k =>
    have slot' : freeSlot (atTime s t) = some k := slot
    have bad : (!admits (atTime s t) r) = true := by
      rw [show admits (atTime s t) r = false from no.resolve_left (slot ▸ Option.some_ne_none k)]; rfl
    simp only [execSessionOpen, slot']
    exact if_pos bad

theorem admits_eq (on : sessionsOn s = true) (role : r.role ≤ 4) (chain : chains s r = true) :
    admits s r = Config.sigValid (0x3000 + r.anchor) r.cert r.sig := by
  rw [admits, on, decide_eq_true role, chain]; rfl

theorem admits_false (no : sessionsOn s = false ∨ 4 < r.role ∨ chains s r = false) : admits s r = false := by
  unfold admits
  obtain off | role | chain := no
  · rw [off]; rfl
  · rw [decide_eq_false (Nat.not_le.2 role), Bool.and_false]; rfl
  · rw [chain, Bool.and_false]; rfl

/-! ### Closing -/

/-- The state in which the slot of a session is free again. -/
def sessFreed (s : State) (k : Nat) (x : Session) : State := sessEvent { s with sess := tset none s.sess k none } 1 x.id x.role x.serial

/-- The state after a session has closed. -/
def sessClosed (s : State) (k : Nat) (x : Session) : State := smmSessionClosed (sessFreed s k x) x.id

section Found

variable (found : s.sess.find? (fun e => e.2.any fun y => decide (y.id = x.id)) = some (k, some x))

include found

theorem closeSession_found : closeSession s x.id = sessClosed s k x := by
  simp only [closeSession, found]
  rfl

theorem exec_sessionClose_found : exec (.sessionClose x.id t) s = .next (sessClosed (atTime s t) k x) :=
  congrArg Host.Outcome.next (closeSession_found (s := atTime s t) found)

theorem exec_sessionIdleTimeout_due (due : x.idleAt + s.cfg.stn.idle * 1000000000 ≤ (atTime s t).grid.mono) :
    exec (.sessionIdleTimeout x.id t) s = .next (sessClosed (atTime s t) k x) := by
  have idle : ((atTime s t).sess.any fun e => e.2.any fun y => decide (y.id = x.id) &&
      decide (y.idleAt + (atTime s t).cfg.stn.idle * 1000000000 ≤ (atTime s t).grid.mono)) = true := by
    refine List.any_eq_true.2 ⟨(k, some x), List.mem_of_find?_eq_some found, ?_⟩
    simp only [Option.any_some, Bool.and_eq_true, decide_eq_true_eq]
    exact ⟨trivial, due⟩
  show execSessionIdleTimeout x.id t s = _
  rw [execSessionIdleTimeout, if_pos idle]
  exact congrArg Host.Outcome.next (closeSession_found (s := atTime s t) found)

end Found

theorem saf_sessFreed (s : State) (k : Nat) (x : Session) : (sessFreed s k x).saf = s.saf := raise_saf ..

theorem sess_sessClosed (s : State) (k : Nat) (x : Session) : (sessClosed s k x).sess = tset none s.sess k none :=
  ((smmSessionClosed_keeps ..).same .sess rfl).trans (raise_sess ..)

theorem flag_sessClosed (s : State) (k : Nat) (x : Session) : flag (rd (sessClosed s k x) Reg.ETH_EVT_STAT) 4 = true := by
  rw [sessClosed, rd_of_keeps (smmSessionClosed_keeps ..) rfl (by decide)]
  exact flag_sessEvent ..

/-- A code shown for maintenance mode is dropped with its session. -/
theorem smm_sessClosed (own : s.saf.smm.session = x.id) (shown : s.saf.smm.stage = 1) : (sessClosed s k x).saf.smm = {} := by
  have own' : (sessFreed s k x).saf.smm.session = x.id := by rw [saf_sessFreed]; exact own
  have shown' : (sessFreed s k x).saf.smm.stage = 1 := by rw [saf_sessFreed]; exact shown
  rw [sessClosed, smmSessionClosed, if_pos own']
  simp only [leaveSmm, shown']
  rfl

theorem saf_sessClosed_foreign (foreign : s.saf.smm.session ≠ x.id) : (sessClosed s k x).saf = s.saf := by
  have foreign' : (sessFreed s k x).saf.smm.session ≠ x.id := by rw [saf_sessFreed]; exact foreign
  rw [sessClosed, smmSessionClosed, if_neg foreign', saf_sessFreed]

end Sessions

/-- Settles O50: SESSION_OPEN is decided by freeSlot and admits, and both ends of a session run closeSession. -/
theorem sessions : Obligations.Sessions := by
  intro s r k t x id chain refused closed
  have refusal : refused (sessRefused (atTime s t) r) :=
    ⟨rfl, sess_sessRefused .., stn_sessRefused .., flag_sessRefused ..⟩
  have closing : closed (sessClosed (atTime s t) k x) := by
    have sess : (sessClosed (atTime s t) k x).sess = tset none s.sess k none := sess_sessClosed ..
    refine ⟨?_, fun j apart => ?_, flag_sessClosed .., fun own shown => smm_sessClosed (s := atTime s t) own shown,
      fun foreign => saf_sessClosed_foreign (s := atTime s t) foreign⟩
    · rw [sess, tget_tset_same]
    · rw [sess, tget_tset_other _ _ _ _ _ apart]
  refine ⟨fun free on role chained => ?opens, fun no => ?noOpen, fun found => ⟨?close, fun due => ?idle⟩⟩
  case opens =>
    have ok := admits_eq on role chained
    cases valid : Config.sigValid (0x3000 + r.anchor) r.cert r.sig with
    | true =>
      have sess := sess_sessOpened (atTime s t) k r
      refine ⟨_, exec_sessionOpen_admitted free (ok.trans valid), fun _ => ⟨rfl, stn_sessOpened (atTime s t) k r, ?_, fun j apart => ?_,
        flag_sessOpened ..⟩, fun no => Bool.noConfusion no⟩
      · rw [sess, tget_tset_same]; rfl
      · rw [sess, tget_tset_other _ _ _ _ _ apart]; rfl
    | false =>
      exact ⟨_, exec_sessionOpen_refused (.inr (ok.trans valid)), fun no => Bool.noConfusion no, fun _ => refusal⟩
  case noOpen => exact ⟨_, exec_sessionOpen_refused (no.imp_right admits_false), refusal⟩
  case close => exact ⟨_, exec_sessionClose_found found, closing⟩
  case idle => exact ⟨_, exec_sessionIdleTimeout_due found due, closing⟩

end Sys2Proof.Machine
end

section
/-! Starts, the end of HOLD, and losses of power (R284, R420, R422, R507, R511, R513, R526, R527): O51, settled. -/

namespace Sys2Proof.Machine

open Sys2Proof

/-! ### GUARD (R421) -/

section Guard

variable {s u : State}

theorem life_setLife (s : State) (on : Bool) : (setLife s on).lio.life = on := by
  unfold setLife
  split
  · assumption
  · rw [raise_lio]; rfl

theorem stage_enterStage (s : State) {k : Nat} (low : k < 8) : stage (enterStage s k) = k := by
  have field_ : field (rd (wrField s Reg.UPD_STAT 31 29 k) Reg.UPD_STAT) 31 29 = k :=
    (field_wrField_same _ _ _ _ (by decide)).trans (Nat.mod_eq_of_lt low)
  unfold enterStage stage
  extract_lets s1
  split
  · have apart : Reg.UPD_STAT ≠ Reg.UPD_STAGE_Tn (k - 1) := by
      show 0x40130004 ≠ 0x40130018 + 4 * ((k - 1) % 5)
      omega
    rw [rd_wrField_other _ _ _ _ apart]
    exact field_
  · exact field_

/-- The state in which GUARD has read the recorder's memory and the straps. -/
def guardRead (s : State) : State :=
  setPair (recoverRecorder (enterStage s 1)) fun p => { p with sideB := (recoverRecorder (enterStage s 1)).slot.side, hbStopped := p.killq }

theorem guardRead_keeps (s : State) : Keeps 0x2000000003008 (enterStage s 1) (guardRead s) :=
  Keeps.setPair (.inr fun _ => rfl) rfl (Keeps.step (recoverRecorder_keeps ..) rfl (Keeps.refl ..))

theorem enterGuard_after (s : State) : Keeps 0x3400008041008 (guardRead s) (enterGuard s) := by
  unfold enterGuard
  extract_lets s1 s2 s3
  have recorded : Keeps 0x3400008041008 (guardRead s) s3 := Keeps.step (recordBare_keeps ..) rfl (Keeps.refl ..)
  exact Keeps.step (dpyStart_keeps ..) rfl (Keeps.step (dpyTables_keeps ..) rfl
    (Keeps.ite recorded (Keeps.step (setLife_keeps ..) rfl recorded)))

theorem rd_enterGuard_upd {a : Nat} (upd : blockOf a = 19) : rd (enterGuard s) a = rd (enterStage s 1) a := by
  have free : ∀ {m : Nat}, m.testBit 51 = false → m.testBit (32 + blockOf a) = false := fun h => by rw [upd]; exact h
  have known : blockOf a ≤ 22 := by rw [upd]; decide
  rw [rd_of_keeps (enterGuard_after s) (free (by decide)) known, rd_of_keeps (guardRead_keeps s) (free (by decide)) known]

theorem stage_enterGuard (s : State) : stage (enterGuard s) = 1 := by
  rw [stage, rd_enterGuard_upd (by decide)]
  exact stage_enterStage s (by decide)

theorem pair_enterGuard (s : State) : (enterGuard s).pair = { s.pair with sideB := s.slot.side, hbStopped := s.pair.killq } := by
  have kept : Keeps 0xa000000001008 s (recoverRecorder (enterStage s 1)) :=
    Keeps.step (recoverRecorder_keeps ..) rfl (Keeps.step (enterStage_keeps ..) rfl (Keeps.refl ..))
  rw [(enterGuard_after s).same .pair rfl, guardRead, setPair, (kept.same .slot rfl : (recoverRecorder _).slot = _),
    (kept.same .pair rfl : (recoverRecorder _).pair = _)]

theorem life_enterGuard (cold : s.hlt.waiting = false) : (enterGuard s).lio.life = true := by
  unfold enterGuard
  extract_lets s1 s2 s3
  have hlt : s3.hlt.waiting = false := by
    have kept : Keeps 0xa000000003008 s s3 := Keeps.step (recordBare_keeps ..) rfl (Keeps.step (guardRead_keeps s) rfl
      (Keeps.step (enterStage_keeps ..) rfl (Keeps.refl ..)))
    rw [(kept.same .hlt rfl : s3.hlt = s.hlt)]
    exact cold
  have lit : ¬ s3.hlt.waiting = true := Bool.eq_false_iff.1 hlt
  rw [if_neg lit]
  have lio : (dpyStart (dpyTables (setLife s3 true))).lio = (setLife s3 true).lio :=
    ((dpyStart_keeps ..).same .lio rfl).trans ((dpyTables_keeps ..).same .lio rfl)
  rw [lio, life_setLife]

end Guard

/-! ### The straps (R513) -/

section Straps

variable {s : State} {t : Nat}

/-- The state in which the straps have been read. -/
def strapsRead (s : State) : State := setSlot s fun x => { x with side := x.nowSide, sideN := x.nowSideN, cid := x.nowCid }

theorem readStraps_equal (equal : s.slot.nowSide = s.slot.nowSideN) : readStraps s = strapsRead s := if_pos equal

theorem readStraps_differ (differ : s.slot.nowSide ≠ s.slot.nowSideN) : readStraps s = enterGuard (strapsRead s) := if_neg differ

theorem exec_holdEnd_hold (power : s.slot.power = true) (hold : stage s = 0) : exec (.holdEnd t) s = .next (readStraps (atTime s t)) :=
  if_pos (show (atTime s t).slot.power = true ∧ stage (atTime s t) = 0 from ⟨power, hold⟩)

theorem exec_strapRetry_hold (power : s.slot.power = true) (hold : stage s = 0) (equal : s.slot.side = s.slot.sideN) :
    exec (.strapRetry t) s = .next (readStraps (atTime s t)) :=
  if_pos (show (atTime s t).slot.power = true ∧ stage (atTime s t) = 0 ∧ (atTime s t).slot.side = (atTime s t).slot.sideN from
    ⟨power, hold, equal⟩)

/-- What reading straps that differ brings: GUARD, on the side of the straps. -/
theorem slot_readStraps (differ : s.slot.nowSide ≠ s.slot.nowSideN) : (readStraps s).slot = (strapsRead s).slot := by
  rw [readStraps_differ differ]
  exact (enterGuard_keeps ..).same .slot rfl

/-- HOLD ends with straps that differ, and goes on with equal ones. -/
theorem straps_of_run {i : Instr} (run : exec i s = .next (readStraps (atTime s t))) (hold : stage s = 0) :
    (s.slot.nowSide ≠ s.slot.nowSideN → completes i s fun u => stage u = 1 ∧ u.slot.side = s.slot.nowSide ∧ u.slot.sideN = s.slot.nowSideN ∧
      u.slot.cid = s.slot.nowCid ∧ u.pair.sideB = s.slot.nowSide ∧ u.pair.hbStopped = s.pair.killq ∧ (s.hlt.waiting = false → u.lio.life = true)) ∧
    (s.slot.nowSide = s.slot.nowSideN → completes i s fun u => stage u = 0 ∧ onlyParts [.grid, .slot] s u ∧
      u.slot.side = s.slot.nowSide ∧ u.slot.sideN = s.slot.nowSideN) := by
  refine ⟨fun differ => ⟨_, run, ?_⟩, fun equal => ⟨_, run, ?_⟩⟩
  · have slot := slot_readStraps (s := atTime s t) differ
    have pair := pair_enterGuard (strapsRead (atTime s t))
    rw [readStraps_differ (s := atTime s t) differ] at slot ⊢
    exact ⟨stage_enterGuard _, (congrArg SlotState.side slot :), (congrArg SlotState.sideN slot :), (congrArg SlotState.cid slot :),
      (congrArg PairState.sideB pair :), (congrArg PairState.hbStopped pair :), fun cold => life_enterGuard cold⟩
  · rw [readStraps_equal (s := atTime s t) equal]
    exact ⟨hold, Keeps.onlyParts (Keeps.step (setSlot_keeps ..) rfl (Keeps.mono (atTime_keeps s t) rfl)), rfl, rfl⟩

end Straps

/-! ### What a start keeps and what it forgets (R420, R451) -/

section Begin

variable {s u : State} {t k : Nat}

/-- MRAM, NAND, OTP and slot memory of s stand in u, and the recorder's buffer is empty. -/
def Outlives (s u : State) : Prop :=
  u.rcd.buf = [] ∧ u.frc.table = s.frc.table ∧ u.fbx.copyA = s.fbx.copyA ∧ u.fbx.copyB = s.fbx.copyB ∧
    u.upd.trust = s.upd.trust ∧ u.upd.otp = s.upd.otp ∧ u.upd.slotA = s.upd.slotA ∧ u.upd.slotB = s.upd.slotB ∧
    u.upd.copyA = s.upd.copyA ∧ u.upd.copyB = s.upd.copyB ∧ u.hlt.log = s.hlt.log ∧ u.tim.mram = s.tim.mram ∧ u.pending = s.pending

/-- The volatile parts are those of a module after its reset, in HOLD. -/
def Forgotten (u : State) : Prop :=
  u.cfg = State.reset.cfg ∧ u.sess = [] ∧ u.sig = State.reset.sig ∧ u.le = [] ∧ u.saf = State.reset.saf ∧
    u.pair.role = State.reset.pair.role ∧ stage u = 0

/-- A start with this cause has begun. -/
def Begun (s u : State) (code : Nat) : Prop :=
  u.slot.power = true ∧ u.slot.seated = true ∧ u.hlt.starts = s.hlt.starts + 1 ∧
    u.hlt.trip = false ∧ u.upd.powerUp = false ∧ u.upd.t0 = u.grid.mono ∧ (code < 7 → field (rd u Reg.UPD_START) 31 28 = code)

/-- The state that a start takes over: after a restart the recorder's buffer has been written (R476). -/
def startSource (s : State) : State := if s.upd.powerUp then s else flushOut s

theorem startSource_eq (s : State) : startSource s = { s with rcd := (startSource s).rcd } := by
  unfold startSource
  split <;> rfl

/-- The code that UPD_START shows. -/
def startCode (s : State) (cause : Nat) : Nat := if cause = 7 then (Config.freeWord s.freeN).toNat % 16 else cause

/-- The state at t0, before its registers are written. -/
def startTaken (s : State) : State :=
  { carryOver (startSource s) with
    freeN := s.freeN + 1
    pair := { (carryOver (startSource s)).pair with restartDue := none }
    slot := { (carryOver (startSource s)).slot with power := true, seated := true }
    hlt := { (carryOver (startSource s)).hlt with
      starts := (carryOver (startSource s)).hlt.starts + 1
      inserts := if s.slot.seated then (carryOver (startSource s)).hlt.inserts else (carryOver (startSource s)).hlt.inserts + 1
      lastTick := (carryOver (startSource s)).grid.mono, trip := false }
    upd := { (carryOver (startSource s)).upd with started := true, t0 := (carryOver (startSource s)).grid.mono, powerUp := false } }

/-- The state at t0, in HOLD. -/
def startBegun (s : State) (cause : Nat) : State :=
  wrField (wrField (startTaken s) Reg.UPD_START 31 28 (startCode s cause)) Reg.MON_STAT 30 29 (bit1 s.hlt.waiting 1 + bit1 s.hlt.trip 0)

theorem beginStart_eq (s : State) (cause : Nat) :
    beginStart s cause = if s.hlt.waiting then readStraps (startBegun s cause) else startBegun s cause := rfl

theorem outlives_startBegun (s : State) (cause : Nat) : Outlives s (startBegun s cause) := by
  unfold startBegun startTaken
  rw [startSource_eq]
  exact ⟨rfl, rfl, rfl, rfl, rfl, rfl, rfl, rfl, rfl, rfl, rfl, rfl, rfl⟩

theorem stage_startBegun (s : State) (cause : Nat) : stage (startBegun s cause) = 0 := by
  have volatile : rd (startTaken s) Reg.UPD_STAT = rd State.reset Reg.UPD_STAT := rfl
  rw [stage, startBegun, rd_wrField_other _ _ _ _ (by decide), rd_wrField_other _ _ _ _ (by decide), volatile]
  decide

theorem forgotten_startBegun (s : State) (cause : Nat) : Forgotten (startBegun s cause) :=
  ⟨rfl, rfl, rfl, rfl, rfl, rfl, stage_startBegun s cause⟩

theorem begun_startBegun (s : State) (cause : Nat) : Begun s (startBegun s cause) cause := by
  have starts : (startSource s).hlt = s.hlt := by rw [startSource_eq]
  refine ⟨rfl, rfl, congrArg (·.starts + 1) starts, rfl, rfl, rfl, fun low => ?_⟩
  have code : startCode s cause = cause := if_neg (Nat.ne_of_lt low)
  rw [startBegun, rd_wrField_other _ _ _ _ (by decide), field_wrField_same _ _ _ _ (by decide), code]
  exact Nat.mod_eq_of_lt (by omega)

theorem begun_enterGuard {code : Nat} (begun : Begun s u code) : Begun s (enterGuard u) code := by
  obtain ⟨power, seated, starts, trip, powerUp, t0, shown⟩ := begun
  have keeps := enterGuard_keeps u
  have slot : (enterGuard u).slot = u.slot := keeps.same .slot rfl
  have hlt : (enterGuard u).hlt = u.hlt := keeps.same .hlt rfl
  have upd : (enterGuard u).upd = u.upd := keeps.same .upd rfl
  have grid : (enterGuard u).grid = u.grid := keeps.same .grid rfl
  have reg : rd (enterGuard u) Reg.UPD_START = rd u Reg.UPD_START := by
    rw [rd_enterGuard_upd (by decide), enterStage, if_pos (by decide), rd_wrField_other _ _ _ _ (by decide),
      rd_wrField_other _ _ _ _ (by decide)]
  rw [Begun, slot, hlt, upd, grid, reg]
  exact ⟨power, seated, starts, trip, powerUp, t0, shown⟩

theorem begun_strapsRead {code : Nat} (begun : Begun s u code) : Begun s (strapsRead u) code := begun

/-! ### Starts (R284, R420, R526) -/

theorem exec_moduleStart_due (cause : startCause s = some k) : exec (.moduleStart t) s = .next (beginStart (atTime s t) k) := by
  have cause' : startCause (atTime s t) = some k := cause
  show execModuleStart t s = _
  simp only [execModuleStart, cause']
  rfl

theorem beginStart_plain (cause : Nat) (cold : s.hlt.waiting = false) : beginStart s cause = startBegun s cause :=
  (beginStart_eq ..).trans (if_neg (Bool.eq_false_iff.1 cold))

theorem beginStart_waiting (cause : Nat) (waits : s.hlt.waiting = true) (differ : s.slot.nowSide ≠ s.slot.nowSideN) :
    beginStart s cause = enterGuard (strapsRead (startBegun s cause)) := by
  have slot : (startSource s).slot = s.slot := by rw [startSource_eq]
  have differ' : (startBegun s cause).slot.nowSide ≠ (startBegun s cause).slot.nowSideN := by
    show (startSource s).slot.nowSide ≠ (startSource s).slot.nowSideN
    rw [slot]
    exact differ
  rw [beginStart_eq, if_pos waits, readStraps_differ differ']

theorem flag_mon_startBegun (cause : Nat) (waits : s.hlt.waiting = true) : flag (rd (startBegun s cause) Reg.MON_STAT) 30 = true := by
  have two : ∀ trip : Bool, (bit1 true 1 + bit1 trip 0).testBit (30 - 29) = true := by decide
  rw [startBegun, rd_wrField_same, waits]
  exact (getLsbD_putField _ 30 29 _ (by decide)).trans (two _)

theorem waiting_startBegun (s : State) (cause : Nat) : (startBegun s cause).hlt.waiting = s.hlt.waiting := by
  have hlt : (startSource s).hlt = s.hlt := by rw [startSource_eq]
  exact (congrArg HltState.waiting hlt :)

theorem hlt_strapsRead (s : State) : (strapsRead s).hlt = s.hlt := rfl

theorem rd_strapsRead (s : State) (a : Nat) : rd (strapsRead s) a = rd s a := rfl

/-- A module that waits after a drop goes on to GUARD in the same step. -/
theorem begun_waiting (cause : Nat) (waits : s.hlt.waiting = true) : Begun s (enterGuard (strapsRead (startBegun s cause))) cause ∧
    (enterGuard (strapsRead (startBegun s cause))).hlt.waiting = true ∧
    flag (rd (enterGuard (strapsRead (startBegun s cause))) Reg.MON_STAT) 30 = true := by
  have keeps := enterGuard_keeps (strapsRead (startBegun s cause))
  have hlt : (strapsRead (startBegun s cause)).hlt.waiting = true := by rw [hlt_strapsRead, waiting_startBegun, waits]
  refine ⟨begun_enterGuard (begun_strapsRead (begun_startBegun s cause)), ?_, ?_⟩
  · rw [(keeps.same .hlt rfl : (enterGuard _).hlt = _)]
    exact hlt
  · rw [rd_of_keeps keeps (by decide) (by decide), rd_strapsRead]
    exact flag_mon_startBegun cause waits

theorem exec_safeStateRestart_due (safe : s.saf.safe = true) (held : s.saf.safeHeld = false)
    (due : s.saf.safeAt + 100000000 ≤ (atTime s t).grid.mono) (alive : s.pair.killq = false) (latched : s.slot.latched = true)
    (role : s.pair.role = .offline) : exec (.safeStateRestart t) s = .next (beginStart (atTime s t) 4) := by
  have held' : (!(atTime s t).saf.safeHeld) = true := congrArg not held
  have alive' : (!(atTime s t).pair.killq) = true := congrArg not alive
  exact if_pos ⟨safe, held', due, alive', latched, role⟩

/-! ### Losses of power (R511, R527) -/

theorem outlives_losePower (s : State) : Outlives s (losePower s) :=
  ⟨rfl, rfl, rfl, rfl, rfl, rfl, rfl, rfl, rfl, rfl, rfl, rfl, rfl⟩

theorem forgotten_losePower (s : State) : Forgotten (losePower s) := by
  have volatile : rd (losePower s) Reg.UPD_STAT = rd State.reset Reg.UPD_STAT := rfl
  have hold : stage (losePower s) = 0 := by rw [stage, volatile]; decide
  exact ⟨rfl, rfl, rfl, rfl, rfl, rfl, hold⟩

end Begin

/-- Settles O51: both kinds of start run beginStart, both ends of HOLD readStraps, and both losses of power losePower. -/
theorem starts : Obligations.Starts := by
  intro s t k kept lost begun straps
  refine ⟨fun cause cold => ?start, fun cause waits differ => ?waiting, fun safe held due alive latched role cold => ?safe,
    fun power hold => ⟨?hold, fun equal => ?retry⟩, fun failing => ?holdUp, fun power => ?trip⟩
  case start =>
    have run := exec_moduleStart_due (t := t) cause
    rw [beginStart_plain (s := atTime s t) k cold] at run
    exact ⟨_, run, begun_startBegun (atTime s t) k, outlives_startBegun (atTime s t) k, forgotten_startBegun (atTime s t) k⟩
  case waiting =>
    have run := exec_moduleStart_due (t := t) cause
    rw [beginStart_waiting (s := atTime s t) k waits differ] at run
    obtain ⟨begun', waits', shown⟩ := begun_waiting (s := atTime s t) k waits
    exact ⟨_, run, begun', stage_enterGuard _, waits', shown⟩
  case safe =>
    have run := exec_safeStateRestart_due safe held due alive latched role
    rw [beginStart_plain (s := atTime s t) 4 cold] at run
    exact ⟨_, run, begun_startBegun (atTime s t) 4, outlives_startBegun (atTime s t) 4, forgotten_startBegun (atTime s t) 4⟩
  case hold => exact straps_of_run (exec_holdEnd_hold power hold) hold
  case retry => exact straps_of_run (exec_strapRetry_hold power hold equal) hold
  case holdUp =>
    exact ⟨_, if_pos failing, rfl, rfl, rfl, rfl, outlives_losePower (atTime s t), forgotten_losePower (atTime s t)⟩
  case trip =>
    exact ⟨_, if_pos power, rfl, rfl, rfl, rfl, outlives_losePower (atTime s t), forgotten_losePower (atTime s t)⟩

end Sys2Proof.Machine
end

section
/-! Firmware packages by session, link and TFTP (R433–R438, R442): O55, settled. -/

namespace Sys2Proof.Machine

open Sys2Proof

section Packages

variable {s u : State} {session k t : Nat} {b : List Byte} {first last : Bool}

theorem packageErr_congr (otp : u.upd.otp = s.upd.otp) (crcOk : Bool) (bs : List Byte) : packageErr u crcOk bs = packageErr s crcOk bs := by
  have only : packageErr u crcOk bs = packageErr { s with upd := { s.upd with otp := u.upd.otp } } crcOk bs := rfl
  rw [only, otp]

/-! ### Verification (R435, R436) -/

/-- Staging after the verification of the package that it holds. -/
def verdict (s : State) (g : Staging) : Staging :=
  if packageErr s g.crcOk g.content ≠ 0 then { g with state := 3, err := packageErr s g.crcOk g.content }
  else { g with state := 2, err := 0, slot := manifestSlot g.content }

theorem verdict_congr (otp : u.upd.otp = s.upd.otp) (g : Staging) : verdict u g = verdict s g := by
  rw [verdict, verdict, packageErr_congr otp]

/-- A package has been refused, or it is verified. -/
theorem verdict_cases (s : State) (g : Staging) :
    ((verdict s g).err = packageErr s g.crcOk g.content ∧ packageErr s g.crcOk g.content ≠ 0 ∧ (verdict s g).state = 3) ∨
      ((verdict s g).err = 0 ∧ packageErr s g.crcOk g.content = 0 ∧ (verdict s g).state = 2) := by
  unfold verdict
  split
  next bad => exact .inl ⟨rfl, bad, rfl⟩
  next good => exact .inr ⟨rfl, Decidable.not_not.1 good, rfl⟩

theorem packageErr_lt (s : State) (crcOk : Bool) (bs : List Byte) : packageErr s crcOk bs < 8 := by
  unfold packageErr
  extract_lets o n k imgs rev
  repeat' split
  all_goals decide

theorem verdict_err_lt (s : State) (g : Staging) : (verdict s g).err < 8 := by
  obtain ⟨err, -, -⟩ | ⟨err, -, -⟩ := verdict_cases s g
  · rw [err]; exact packageErr_lt ..
  · rw [err]; decide

theorem upd_verifyStaged (s : State) : (verifyStaged s).upd = { s.upd with staging := verdict s s.upd.staging } := by
  unfold verifyStaged verdict
  extract_lets g err
  split
  · rfl
  · rw [raise_upd]; rfl

theorem flag_verifyStaged (good : packageErr s s.upd.staging.crcOk s.upd.staging.content = 0) :
    flag (rd (verifyStaged s) Reg.UPD_EVT_STAT) 2 = true := by
  have run : ¬ packageErr s s.upd.staging.crcOk s.upd.staging.content ≠ 0 := fun bad => bad good
  rw [verifyStaged, if_neg run]
  exact flag_raise _ _ _ 0 (by decide) (by decide) (by decide)

/-! ### Blocks (R433, R436) -/

/-- Staging that a block enters: the first block erases it. -/
def stagingOf (s : State) (first : Bool) : Staging := if first then { state := 1 } else s.upd.staging

/-- Staging with one more block. -/
def withBlock (g : Staging) (b : List Byte) : Staging :=
  { g with blocks := g.blocks + 1, crcOk := g.crcOk && blockOk b, content := g.content ++ b.take 65532 }

/-- The state in which a block has entered staging. -/
def blockStaged (s : State) (b : List Byte) (first : Bool) : State := setStaging s fun _ => withBlock (stagingOf s first) b

theorem stageBlock_open (open_ : (stagingOf s first).state = 1) (room : (stagingOf s first).blocks < 8192) :
    stageBlock s b first last = if last then verifyStaged (blockStaged s b first) else blockStaged s b first := by
  unfold stageBlock
  extract_lets s1 g s2
  have taken : g = stagingOf s first := by cases first <;> rfl
  have entered : s2 = blockStaged s b first := by cases first <;> rfl
  have run : ¬ (g.state ≠ 1 ∨ 8192 ≤ g.blocks) := by
    rw [taken]
    exact fun no => no.elim (· open_) (Nat.not_le.2 room)
  rw [if_neg run, entered]

/-- What a block brings: staging with the block, and after the last one with the verdict on the package. -/
def Staged (s u : State) (b : List Byte) (first last : Bool) : Prop :=
  u.upd.staging = (if last = false then withBlock (stagingOf s first) b else verdict s (withBlock (stagingOf s first) b)) ∧
    (last = true → packageErr s (withBlock (stagingOf s first) b).crcOk (withBlock (stagingOf s first) b).content = 0 →
      flag (rd u Reg.UPD_EVT_STAT) 2 = true) ∧ u.upd.slotA = s.upd.slotA ∧ u.upd.slotB = s.upd.slotB

theorem staged_stageBlock (open_ : (stagingOf s first).state = 1) (room : (stagingOf s first).blocks < 8192) :
    Staged s (stageBlock s b first last) b first last := by
  rw [stageBlock_open open_ room]
  cases last with
  | false => exact ⟨rfl, fun no => Bool.noConfusion no, rfl, rfl⟩
  | true =>
    have upd := upd_verifyStaged (blockStaged s b first)
    refine ⟨?_, fun _ good => flag_verifyStaged ((packageErr_congr rfl ..).trans good),
      (congrArg UpdState.slotA upd :), (congrArg UpdState.slotB upd :)⟩
    exact (congrArg UpdState.staging upd :).trans (verdict_congr rfl _)

/-- What a message over the Tokel link leaves as it is. -/
theorem staged_tokel {kind : Nat} {data : List Nat} (staged : Staged s u b first last) : Staged s (tokel u kind data) b first last := staged

theorem staged_ite {c : Prop} [Decidable c] {kind : Nat} {data : List Nat} (staged : Staged s u b first last) :
    Staged s (if c then tokel u kind data else u) b first last := by
  split
  · exact staged_tokel staged
  · exact staged

theorem exec_fwBlock_engineer (role : hasRole s session 2 = true) : exec (.fwBlock session b first last) s = .next
    (if last ∧ (stageBlock (touch s session) b first last).upd.staging.state = 2 ∧ (stageBlock (touch s session) b first last).pair.role = .active
      then tokel (stageBlock (touch s session) b first last) 0x50 [(stageBlock (touch s session) b first last).upd.staging.blocks]
      else stageBlock (touch s session) b first last) := by
  have role' : ¬ (!hasRole (touch s session) session 2) = true := by rw [hasRole_touch, role]; exact Bool.false_ne_true
  exact (if_neg role').trans (apply_ite Host.Outcome.next ..).symm

theorem exec_fwBlock_refused (role : hasRole s session 2 = false) :
    exec (.fwBlock session b first last) s = .next (refuseUpd (touch s session) 2 session) := by
  have role' : (!hasRole (touch s session) session 2) = true := by rw [hasRole_touch, role]; rfl
  exact if_pos role'

theorem exec_linkFwpkg (s : State) (b : List Byte) (first last : Bool) (t : Nat) : exec (.linkFwpkg b first last t) s = .next
    (if last ∧ (stageBlock (atTime s t) b first last).upd.staging.state = 2 then tokel (stageBlock (atTime s t) b first last) 0x30 [17]
      else stageBlock (atTime s t) b first last) :=
  (apply_ite Host.Outcome.next ..).symm

/-- A refusal changes no part of the update state and shows its code. -/
theorem refused_refuseUpd (s : State) {code : Nat} (session : Nat) (low : code < 16) : (refuseUpd s code session).upd = s.upd ∧
    (refuseUpd s code session).resp = .refused code ∧ field (rd (refuseUpd s code session) Reg.UPD_STAT) 25 22 = code := by
  refine ⟨(refuse_keeps ..).same .upd rfl, rfl, ?_⟩
  rw [refuseUpd, rd_refuse _ _ _ _ _ _ (by decide), field_wrField_same _ _ _ _ (by decide)]
  exact Nat.mod_eq_of_lt low

/-! ### Recovery by TFTP (R442) -/

theorem exec_tftpWriteRequest_first (recovery : s.upd.recovery = true) (closed : s.upd.tftpOpen = false) :
    exec (.tftpWriteRequest (textBytes "yx7.pkg") (textBytes "octet")) s =
      .next (setStaging (setUpd s fun u => { u with tftpOpen := true, tftpNext := 1 }) fun _ => { state := 1 }) := by
  have closed' : (!s.upd.tftpOpen) = true := by rw [closed]; rfl
  exact if_pos ⟨recovery, closed', rfl, rfl⟩

/-- The state in which a TFTP block has been taken. -/
def tftpTaken (s : State) (k : Nat) (b : List Byte) : State :=
  setUpd (addField (setStaging s fun x => { x with content := x.content ++ b, blocks := x.blocks + 1 }) Reg.UPD_REC_STAT 19 0 1)
    fun u => { u with tftpNext := (k + 1) % 65536 }

theorem exec_tftpData_next (open_ : s.upd.tftpOpen = true) (next : s.upd.tftpNext = k) :
    exec (.tftpData k b) s = .next (if b.length < 512 then recoverPackage (tftpTaken s k b) else tftpTaken s k b) := by
  have run : ¬ ((!s.upd.tftpOpen) = true ∨ k ≠ s.upd.tftpNext) := by
    rw [open_, next]; simp
  exact (if_neg run).trans (apply_ite Host.Outcome.next ..).symm

theorem onlyRegs_tftpTaken (s : State) (k : Nat) (b : List Byte) : onlyRegs [Reg.UPD_REC_STAT] s (tftpTaken s k b) :=
  fun _ out => rd_wr_other _ _ _ _ (mt List.mem_singleton.2 out)

/-- Staging with the whole package that TFTP brought. -/
def tftpPackage (g : Staging) : Staging :=
  let bs := chunks (g.content.length + 1) 65536 g.content
  { state := 1, blocks := bs.length, crcOk := bs.all blockOk, content := bs.flatMap (·.take 65532) }

/-- The state in which the package has been verified, and its error shown. -/
def tftpVerified (s : State) : State :=
  wrField (verifyStaged (setStaging s tftpPackage)) Reg.UPD_REC_STAT 30 28 (verifyStaged (setStaging s tftpPackage)).upd.staging.err

/-- The state in which a verified package stands in the free slot. -/
def tftpInstalled (s : State) : State :=
  setPair (setUpd (showSlots (putSlot s (freeSlotB s) { s.upd.staging.slot with state := 1 })) fun u => { u with tftpOpen := false })
    fun p => { p with restartDue := some 6 }

theorem recoverPackage_eq (s : State) : recoverPackage s = if (tftpVerified s).upd.staging.state = 2 then tftpInstalled (tftpVerified s)
    else setUpd (tftpVerified s) fun u => { u with tftpOpen := false } := rfl

theorem upd_tftpVerified (s : State) : (tftpVerified s).upd = { s.upd with staging := verdict s (tftpPackage s.upd.staging) } := by
  have upd := upd_verifyStaged (setStaging s tftpPackage)
  have same : verdict (setStaging s tftpPackage) (tftpPackage s.upd.staging) = verdict s (tftpPackage s.upd.staging) := verdict_congr rfl _
  rw [← same]
  exact upd

theorem pair_tftpVerified (s : State) : (tftpVerified s).pair = s.pair := (verifyStaged_keeps ..).same .pair rfl

theorem field_tftpVerified (s : State) :
    field (rd (tftpVerified s) Reg.UPD_REC_STAT) 30 28 = (verdict s (tftpPackage s.upd.staging)).err := by
  have err : (verifyStaged (setStaging s tftpPackage)).upd.staging.err = (verdict s (tftpPackage s.upd.staging)).err :=
    (congrArg (fun u : UpdState => u.staging.err) (upd_tftpVerified s) :)
  rw [tftpVerified, field_wrField_same _ _ _ _ (by decide), err]
  exact Nat.mod_eq_of_lt (verdict_err_lt ..)

theorem rd_showSlots {a : Nat} (slot : a ≠ Reg.UPD_FW_SLOT) (verA : a ≠ Reg.UPD_FW_VERA) (verB : a ≠ Reg.UPD_FW_VERB) :
    rd (showSlots s) a = rd s a := by
  unfold showSlots
  rw [rd_wr_other _ _ _ _ verB, rd_wr_other _ _ _ _ verA, rd_wr_other _ _ _ _ slot]

theorem upd_putSlot (s : State) (b : Bool) (x : FwSlot) :
    (putSlot s b x).upd.staging = s.upd.staging ∧ (if b then (putSlot s b x).upd.slotB else (putSlot s b x).upd.slotA) = x := by
  cases b with
  | false => exact ⟨rfl, rfl⟩
  | true => exact ⟨rfl, rfl⟩

theorem staging_tftpInstalled (s : State) : (tftpInstalled s).upd.staging = s.upd.staging := (upd_putSlot ..).1

theorem slot_tftpInstalled (s : State) : (if freeSlotB s then (tftpInstalled s).upd.slotB else (tftpInstalled s).upd.slotA) =
    { s.upd.staging.slot with state := 1 } := (upd_putSlot ..).2

theorem rd_putSlot (s : State) (b : Bool) (x : FwSlot) (a : Nat) : rd (putSlot s b x) a = rd s a := rd_setUpd ..

theorem rd_tftpInstalled {a : Nat} (slot : a ≠ Reg.UPD_FW_SLOT) (verA : a ≠ Reg.UPD_FW_VERA) (verB : a ≠ Reg.UPD_FW_VERB) :
    rd (tftpInstalled s) a = rd s a := by
  rw [tftpInstalled, rd_setPair, rd_setUpd, rd_showSlots slot verA verB, rd_putSlot]

/-- What recovery leaves: the slots and the pair of a refused package, or the package in the free slot and a restart. -/
def Recovered (s u : State) : Prop :=
  u.upd.tftpOpen = false ∧ field (rd u Reg.UPD_REC_STAT) 30 28 = u.upd.staging.err ∧
    (u.upd.staging.err = 0 → (if freeSlotB s then u.upd.slotB else u.upd.slotA) = { u.upd.staging.slot with state := 1 } ∧
      u.pair.restartDue = some 6) ∧
    (u.upd.staging.err ≠ 0 → u.upd.slotA = s.upd.slotA ∧ u.upd.slotB = s.upd.slotB ∧ u.pair = s.pair)

theorem recovered_recoverPackage (s : State) : Recovered s (recoverPackage s) := by
  have upd := upd_tftpVerified s
  have shown := field_tftpVerified s
  have staging : (tftpVerified s).upd.staging = verdict s (tftpPackage s.upd.staging) := (congrArg UpdState.staging upd :)
  have free : freeSlotB (tftpVerified s) = freeSlotB s := (congrArg (fun u : UpdState => decide (u.slotA.state = 3)) upd :)
  rw [← staging] at shown
  obtain ⟨err, bad, state⟩ | ⟨err, -, state⟩ := verdict_cases s (tftpPackage s.upd.staging)
  · have run : ¬ (tftpVerified s).upd.staging.state = 2 := by rw [staging, state]; decide
    rw [recoverPackage_eq, if_neg run]
    refine ⟨rfl, shown, fun none_ => absurd ?_ bad, fun _ =>
      ⟨(congrArg UpdState.slotA upd :), (congrArg UpdState.slotB upd :), pair_tftpVerified s⟩⟩
    rw [← err, ← staging]
    exact none_
  · have run : (tftpVerified s).upd.staging.state = 2 := by rw [staging, state]
    rw [recoverPackage_eq, if_pos run, Recovered, rd_tftpInstalled (by decide) (by decide) (by decide), staging_tftpInstalled, ← free, slot_tftpInstalled]
    exact ⟨rfl, shown, fun _ => ⟨rfl, rfl⟩, fun some_ => absurd (staging ▸ err) some_⟩

end Packages

/-- Settles O55: every block goes through stageBlock, and a package by TFTP through recoverPackage. -/
theorem firmwarePackages : Obligations.FirmwarePackages := by
  intro s session k t b first last g g2 err staged
  refine ⟨fun open_ room => ⟨fun role => ?session, ?link⟩, fun role => ?refused, fun recovery closed => ?request,
    fun open_ next long => ?block, fun open_ next short => ?last⟩
  case session => exact ⟨_, exec_fwBlock_engineer role, staged_ite (staged_stageBlock (s := touch s session) open_ room)⟩
  case link => exact ⟨_, exec_linkFwpkg .., staged_ite (staged_stageBlock (s := atTime s t) open_ room)⟩
  case refused => exact ⟨_, exec_fwBlock_refused role, refused_refuseUpd _ session (by decide)⟩
  case request =>
    exact ⟨_, exec_tftpWriteRequest_first recovery closed, rfl,
      Keeps.onlyParts (Keeps.step (setStaging_keeps ..) rfl (Keeps.step (setUpd_keeps ..) rfl (Keeps.refl ..)))⟩
  case block => exact ⟨_, (exec_tftpData_next open_ next).trans (congrArg _ (if_neg (Nat.not_lt.2 long))), rfl, onlyRegs_tftpTaken s k b⟩
  case last => exact ⟨_, (exec_tftpData_next open_ next).trans (congrArg _ (if_pos short)), recovered_recoverPackage (tftpTaken s k b)⟩

end Sys2Proof.Machine
end

section
/-! Activation, rolling updates, confirmation and the confirm window (R275, R276, R436, R437, R440, R441, R444, R445): O56, settled. -/

namespace Sys2Proof.Machine

open Sys2Proof

/-- An event of any severity shows its bit in the status register of its block (R470). -/
theorem flag_raise_of {s : State} {r : RecReq} {e a i : Nat} (stat : evtStat r.blk e = a) (ev : r.ev = i) (notRec : a ≠ Reg.REC_EVT_STAT)
    (low : i < 32) : flag (rd (raise s r e) a) i = true := by
  rw [← stat, rd_raise_evt _ _ _ (by rw [stat]; exact notRec), ev, flag_or_bit _ low]

section Install

variable {s : State} {t e k : Nat} {fell : Bool} {c : Cmd}

/-! ### Commands of the update block (R436, R437) -/

theorem updCmd_of_takes {bit : Nat} (take : takes s Reg.UPD_CMD bit c) (f : State → State) : updCmd s bit c f = f (touch s c.session) := by
  obtain ⟨pass, key, set⟩ := take
  rw [updCmd, written_of_passes pass, if_neg fun wrong => wrong key, if_pos set]

theorem activateRefusal_touch (s : State) (n session : Nat) (across interrupt : Bool) :
    activateRefusal (touch s n) session across interrupt = activateRefusal s session across interrupt := by
  unfold activateRefusal
  rw [hasRole_touch]
  rfl

theorem activateRefusal_lt (s : State) (session : Nat) (across interrupt : Bool) : activateRefusal s session across interrupt < 16 := by
  unfold activateRefusal
  extract_lets g differs
  repeat' split
  all_goals decide

theorem exec_updDiscard_taken (take : takes s Reg.UPD_CMD 3 c) :
    exec (.updDiscard c) s = .next (setStaging (accepted (touch s c.session) Reg.UPD_CMD c) fun _ => {}) :=
  congrArg Host.Outcome.next (updCmd_of_takes take _)

/-- The state in which staging is marked for installation. -/
def stagingMarked (s : State) (c : Cmd) : State := setStaging (accepted (touch s c.session) Reg.UPD_CMD c) fun x => { x with marked := true }

theorem upd_stagingMarked (s : State) (c : Cmd) : (stagingMarked s c).upd = { s.upd with staging := { s.upd.staging with marked := true } } :=
  congrArg (fun u : UpdState => { u with staging := { u.staging with marked := true } }) (accepted_upd (touch s c.session) Reg.UPD_CMD c)

theorem pair_stagingMarked (s : State) (c : Cmd) : (stagingMarked s c).pair = s.pair := accepted_pair (touch s c.session) Reg.UPD_CMD c

section Activate

variable (take : takes s Reg.UPD_CMD 1 c)

include take

theorem exec_updActivate_refused (bad : activateRefusal s c.session (flag c.value 5) (flag c.value 4) ≠ 0) : exec (.updActivate c) s =
    .next (refuseUpd (touch s c.session) (activateRefusal s c.session (flag c.value 5) (flag c.value 4)) c.session) := by
  rw [← activateRefusal_touch s c.session] at bad ⊢
  exact (congrArg Host.Outcome.next (updCmd_of_takes take _)).trans (congrArg Host.Outcome.next (if_pos bad))

variable (good : activateRefusal s c.session (flag c.value 5) (flag c.value 4) = 0)

include good

theorem exec_updActivate_alone (role : s.pair.role ≠ .active) :
    exec (.updActivate c) s = .next (leaveForRestart (stagingMarked s c) 2) := by
  rw [← activateRefusal_touch s c.session] at good
  exact (congrArg Host.Outcome.next (updCmd_of_takes take _)).trans
    (congrArg Host.Outcome.next ((if_neg fun bad => bad good).trans (if_neg (show ¬ (touch s c.session).pair.role = .active from role))))

theorem exec_updActivate_across (role : s.pair.role = .active) : exec (.updActivate c) s = .next
    (tokel (setUpd (stagingMarked s c) fun u => { u with across := some (s.grid.frame + 240) }) 0x30 [18, s.grid.frame + 240]) := by
  rw [← activateRefusal_touch s c.session] at good
  exact (congrArg Host.Outcome.next (updCmd_of_takes take _)).trans
    (congrArg Host.Outcome.next ((if_neg fun bad => bad good).trans (if_pos (show (touch s c.session).pair.role = .active from role))))

end Activate

/-- A module that leaves for a restart goes to OFFLINE without heartbeats. -/
theorem pair_leaveForRestart (s : State) (cause : Nat) : (leaveForRestart s cause).pair.restartDue.isSome = true ∧
    (leaveForRestart s cause).pair.hbStopped = true := ⟨rfl, rfl⟩

theorem next_leaveForRestart {cause : Nat} (none_ : s.pair.next = none) : (leaveForRestart s cause).pair.next = some (.offline, 6) := by
  have kept : (if cause = 7 then markLifeDrop s else s).pair.next = none := by
    split
    · exact none_
    · exact none_
  show (requestRole (if cause = 7 then markLifeDrop s else s) .offline 6).pair.next = _
  rw [requestRole_free kept]
  rfl

/-! ### Rolling updates (R275, R276) -/

section Roll

variable (take : takes s Reg.UPD_CMD 2 c)

include take

theorem exec_updRoll_refused (role : hasRole s c.session 2 = false) :
    exec (.updRoll c) s = .next (refuseUpd (touch s c.session) 2 c.session) := by
  have role' : (!hasRole (touch s c.session) c.session 2) = true := by rw [hasRole_touch, role]; rfl
  exact (congrArg Host.Outcome.next (updCmd_of_takes take _)).trans (congrArg Host.Outcome.next (if_pos role'))

theorem exec_updRoll_starts (role : hasRole s c.session 2 = true) (active : s.pair.role = .active) (idle : olcBusy s = false)
    (verified : s.upd.staging.state = 2) (pcl : s.upd.staging.slot.pcl = ownPcl s) (partner : s.pair.partner.role = 3) :
    exec (.updRoll c) s = .next (setUpd (stagingMarked s c) fun x => { x with roll := 1, rollResult := 0 }) := by
  have role' : ¬ (!hasRole (touch s c.session) c.session 2) = true := by rw [hasRole_touch, role]; exact Bool.false_ne_true
  have active' : ¬ (touch s c.session).pair.role ≠ .active := fun no => no active
  have idle' : ¬ olcBusy (touch s c.session) = true := Bool.eq_false_iff.1 idle
  have verified' : ¬ (touch s c.session).upd.staging.state ≠ 2 := fun no => no verified
  have pcl' : ¬ (touch s c.session).upd.staging.slot.pcl ≠ ownPcl (touch s c.session) := fun no => no pcl
  have partner' : ¬ (touch s c.session).pair.partner.role ≠ 3 := fun no => no partner
  refine (congrArg Host.Outcome.next (updCmd_of_takes take _)).trans (congrArg Host.Outcome.next ?_)
  exact (if_neg role').trans ((if_neg active').trans ((if_neg idle').trans ((if_neg verified').trans ((if_neg pcl').trans (if_neg partner')))))

end Roll

/-- The update state after a step of a rolling update, or after a module has fallen back. -/
def rolled (u : UpdState) (k : Nat) (fell : Bool) : UpdState :=
  { u with
    roll := if fell then 7 else k + 1
    rollResult := if fell then (if k < 6 then 2 else 3) else if k = 6 then 1 else u.rollResult }

/-- The state in which a step of a rolling update is recorded. -/
def rollShown (s : State) (k : Nat) (fell : Bool) : State := raiseA (setUpd s fun u => rolled u k fell) 8 [k, bit1 fell 0]

theorem upd_rollShown (s : State) (k : Nat) (fell : Bool) : (rollShown s k fell).upd = rolled s.upd k fell := (raiseA_keeps ..).same .upd rfl

theorem flag_rollShown (s : State) (k : Nat) (fell : Bool) : flag (rd (rollShown s k fell) Reg.PAIR_AEVT_STAT) 8 = true :=
  flag_raiseA _ _ _ (by decide)

/-- What the step itself asks of the pair: REPAIR ends, or the module hands over. -/
def rollActed (s : State) (k : Nat) (fell : Bool) : State :=
  if fell then rollShown s k fell
  else match k with
    | 1 => tokel (rollShown s k fell) 0x30 [19]
    | 4 => askSwitch (rollShown s k fell) 5 0 true
    | _ => rollShown s k fell

theorem exec_updateStep_rolling (roll : s.upd.roll = k) (low : 1 ≤ k) (high : k ≤ 6) :
    exec (.updateStep fell t) s = .next (rollActed (atTime s t) k fell) := by
  have run : ¬ ((atTime s t).upd.roll = 0 ∨ 6 < (atTime s t).upd.roll) := by
    show ¬ (s.upd.roll = 0 ∨ 6 < s.upd.roll)
    omega
  subst roll
  cases fell with
  | true => exact (if_neg run).trans (if_pos rfl)
  | false =>
    refine (if_neg run).trans ((if_neg Bool.false_ne_true).trans ?_)
    unfold rollActed
    rw [if_neg Bool.false_ne_true]
    show (match s.upd.roll with
      | 1 => _
      | 4 => _
      | _ => _) = _
    split <;> rfl

theorem rd_askSwitch (s : State) (kind session : Nat) (restart : Bool) :
    rd (askSwitch s kind session restart) Reg.PAIR_AEVT_STAT = rd s Reg.PAIR_AEVT_STAT := by
  unfold askSwitch
  extract_lets code
  split
  · rw [refuseSwitch, rd_refuse _ _ _ _ _ _ (by decide), setBit, rd_wr_other _ _ _ _ (by decide), rd_wrField_other _ _ _ _ (by decide)]
  · rfl

theorem rollActed_shows (s : State) (k : Nat) (fell : Bool) : flag (rd (rollActed s k fell) Reg.PAIR_AEVT_STAT) 8 = true ∧
    (rollActed s k fell).upd = rolled s.upd k fell := by
  have shown := flag_rollShown s k fell
  have upd := upd_rollShown s k fell
  unfold rollActed
  split
  · exact ⟨shown, upd⟩
  · split
    · exact ⟨shown, upd⟩
    · rw [rd_askSwitch, (askSwitch_keeps ..).same .upd rfl]
      exact ⟨shown, upd⟩
    · exact ⟨shown, upd⟩

/-! ### Confirmation (R440, R441, R444, R445) -/

/-- The slot that was not booted. -/
def unbooted (s : State) : FwSlot := if s.upd.bootB then s.upd.slotA else s.upd.slotB

/-- The state in which the booted slot is COMMITTED. -/
def slotCommitted (s : State) : State :=
  setUpd (putSlot (putSlot s s.upd.bootB { booted s with state := 3 }) (!s.upd.bootB)
    (if (unbooted s).state = 3 then { unbooted s with state := 4 } else unbooted s)) fun v => { v with
      confirmEnd := none, otp := { v.otp with arb := max v.otp.arb (booted s).arb, revoked := Nat.lor v.otp.revoked (booted s).revoke } }

/-- The state in which a confirmation is recorded. -/
def confirmShown (s : State) : State := raise (showSlots (slotCommitted s)) { blk := 0x13, ev := 3, info := [bit1 s.upd.bootB 0] }

theorem exec_fwConfirm_confirmable (ok : confirmable (atTime s t) = true) : exec (.fwConfirm t) s = .next (confirmShown (atTime s t)) := if_pos ok

theorem upd_confirmShown (s : State) : (confirmShown s).upd = (slotCommitted s).upd := raise_upd ..

theorem booted_congr {u : State} (upd : u.upd = s.upd) : booted u = booted s := by rw [booted, booted, upd]

theorem booted_slotCommitted (s : State) : booted (slotCommitted s) = { booted s with state := 3 } ∧
    (if s.upd.bootB then (slotCommitted s).upd.slotA else (slotCommitted s).upd.slotB) = if (unbooted s).state = 3 then { unbooted s with state := 4 } else unbooted s := by
  cases boot : s.upd.bootB <;> simp [slotCommitted, booted, unbooted, putSlot, setUpd, boot]

theorem upd_slotCommitted (s : State) : (slotCommitted s).upd.confirmEnd = none ∧ (slotCommitted s).upd.otp = { s.upd.otp with
    arb := max s.upd.otp.arb (booted s).arb, revoked := Nat.lor s.upd.otp.revoked (booted s).revoke } := by
  have otp : ∀ (b : Bool) (x : FwSlot) (u : State), (putSlot u b x).upd.otp = u.upd.otp := by
    intro b x u
    cases b <;> rfl
  refine ⟨rfl, ?_⟩
  unfold slotCommitted setUpd
  simp only [otp]

theorem confirmable_of (trial : (booted s).state = 2) (run : stage s = 5) (clean : failedSinceRun s = false)
    (long : 2400 ≤ s.upd.matchRun ∨ s.pair.role = .solo ∧ 2400 ≤ s.upd.runFrames) (window : s.upd.confirmEnd = some e)
    (young : s.grid.mono ≤ e) : confirmable s = true := by
  simp only [confirmable, trial, run, clean, window, Bool.and_eq_true, Bool.or_eq_true, decide_eq_true_eq]
  exact ⟨⟨⟨⟨trivial, trivial⟩, rfl⟩, long⟩, young⟩

/-- The state in which the booted slot has FAILED. -/
def slotFailed (s : State) : State := setUpd (putSlot s s.upd.bootB { booted s with state := 5 }) fun u => { u with confirmEnd := none }

/-- The state in which the end of the confirm window is recorded. -/
def windowShown (s : State) : State :=
  raise (showSlots (slotFailed s)) { blk := 0x13, ev := 4, sev := some 2, info := [bit1 s.upd.bootB 0] }

theorem exec_confirmWindowExpiry_due (window : s.upd.confirmEnd = some e) (trial : (booted s).state = 2) (due : e ≤ (atTime s t).grid.mono) :
    exec (.confirmWindowExpiry t) s = .next (leaveForRestart (windowShown (atTime s t)) 3) := by
  have window' : (atTime s t).upd.confirmEnd = some e := window
  show execConfirmWindowExpiry t s = _
  simp only [execConfirmWindowExpiry, window']
  exact if_pos ⟨trial, due⟩

theorem upd_windowEnded (s : State) : (leaveForRestart (windowShown s) 3).upd = (slotFailed s).upd :=
  ((leaveForRestart_keeps ..).same .upd rfl).trans (raise_upd ..)

theorem booted_slotFailed (s : State) : booted (slotFailed s) = { booted s with state := 5 } ∧ (slotFailed s).upd.otp = s.upd.otp := by
  cases boot : s.upd.bootB <;> simp [slotFailed, booted, putSlot, setUpd, boot]

theorem flag_windowEnded (s : State) : flag (rd (leaveForRestart (windowShown s) 3) Reg.UPD_EVT_STAT) 4 = true := by
  rw [rd_of_keeps (leaveForRestart_keeps ..) (by decide) (by decide)]
  exact flag_raise_of rfl rfl (by decide) (by decide)

end Install

/-- Settles O56: the commands run after updCmd, and every change of the update state is one of the named states. -/
theorem installation : Obligations.Installation := by
  intro s t e k fell c code other refused
  refine ⟨fun take => ?discard, fun take bad => ?refuses, fun take good role => ?alone, fun take good role => ?across,
    fun take role active idle verified pcl partner => ?roll, fun take role => ?noRoll, fun roll low high => ?step,
    fun trial run clean long window young => ?confirm, fun window trial due => ?expiry⟩
  case discard =>
    exact ⟨_, exec_updDiscard_taken take,
      congrArg (fun u : UpdState => { u with staging := {} }) (accepted_upd (touch s c.session) Reg.UPD_CMD c)⟩
  case refuses => exact ⟨_, exec_updActivate_refused take bad, refused_refuseUpd _ _ (activateRefusal_lt ..)⟩
  case alone =>
    refine ⟨_, exec_updActivate_alone take good role, ?_, (pair_leaveForRestart ..).1, fun none_ => next_leaveForRestart ?_⟩
    · exact ((leaveForRestart_keeps ..).same .upd rfl).trans (upd_stagingMarked s c)
    · rw [pair_stagingMarked]; exact none_
  case across =>
    exact ⟨_, exec_updActivate_across take good role,
      congrArg (fun u : UpdState => { u with across := some (s.grid.frame + 240) }) (upd_stagingMarked s c), pair_stagingMarked s c⟩
  case roll =>
    exact ⟨_, exec_updRoll_starts take role active idle verified pcl partner,
      congrArg (fun u : UpdState => { u with roll := 1, rollResult := 0 }) (upd_stagingMarked s c)⟩
  case noRoll => exact ⟨_, exec_updRoll_refused take role, refused_refuseUpd _ _ (by decide)⟩
  case step => exact ⟨_, exec_updateStep_rolling roll low high, rollActed_shows (atTime s t) k fell⟩
  case confirm =>
    have upd := upd_confirmShown (atTime s t)
    obtain ⟨boot, rest⟩ := booted_slotCommitted (atTime s t)
    obtain ⟨ended, otp⟩ := upd_slotCommitted (atTime s t)
    refine ⟨_, exec_fwConfirm_confirmable (confirmable_of (s := atTime s t) trial run clean long window young),
      (booted_congr upd).trans boot, ?_, flag_raise _ _ _ 0 (by decide) (by decide) (by decide), ?_, ?_⟩
    · rw [upd]; exact ended
    · rw [upd]; exact rest
    · rw [upd]; exact otp
  case expiry =>
    have upd := upd_windowEnded (atTime s t)
    obtain ⟨boot, otp⟩ := booted_slotFailed (atTime s t)
    refine ⟨_, exec_confirmWindowExpiry_due window trial due, (booted_congr upd).trans boot, ?_, ?_, flag_windowEnded _,
      (pair_leaveForRestart ..).1, (pair_leaveForRestart ..).2⟩
    · rw [upd]; rfl
    · rw [upd]; exact otp

end Sys2Proof.Machine
end

section
/-! Slot memory, the trust store and attestation (R423–R427, R446–R450): O57, settled. -/

namespace Sys2Proof.Machine

open Sys2Proof

section SlotMemory

variable {s : State} {t session why : Nat} {w : Bool} {b nonce : List Byte} {c : Cmd} {x : SlotCopy}

/-- Copy A (false) or B (true) of slot memory. -/
def copyOf (s : State) (isB : Bool) : SlotCopy := if isB then s.upd.copyB else s.upd.copyA

/-! ### Writing a copy (R424–R427) -/

theorem upd_showCopiesMem (s : State) : (showCopiesMem s).upd = s.upd := (showCopiesMem_keeps s).same .upd rfl

theorem rd_showCopiesMem {a : Nat} (apart : a ≠ Reg.UPD_SLOTMEM) : rd (showCopiesMem s) a = rd s a := by
  unfold showCopiesMem
  exact rd_wr_other _ _ _ _ apart

/-- The update state with copy isB written as x. -/
def withCopy (u : UpdState) (writing : Option (Bool × SlotCopy × Nat)) (isB : Bool) (x : SlotCopy) : UpdState :=
  if isB then { u with writing := writing, copyB := x } else { u with writing := writing, copyA := x }

/-- The copies of an update state with one written. -/
theorem copies_of_upd {u : State} {writing : Option (Bool × SlotCopy × Nat)} {isB : Bool} (upd : u.upd = withCopy s.upd writing isB x) :
    u.upd.writing = writing ∧ copyOf u isB = x ∧ copyOf u (!isB) = copyOf s (!isB) := by
  rw [copyOf, copyOf, upd]
  cases isB with
  | false => exact ⟨rfl, rfl, rfl⟩
  | true => exact ⟨rfl, rfl, rfl⟩

theorem upd_beginCopy (s : State) (isB : Bool) (x : SlotCopy) (why : Nat) :
    (beginCopy s isB x why).upd = withCopy s.upd (some (isB, x, why)) isB { x with state := 2 } := upd_showCopiesMem _

theorem onlyRegs_beginCopy (s : State) (isB : Bool) (x : SlotCopy) (why : Nat) : onlyRegs [Reg.UPD_SLOTMEM] s (beginCopy s isB x why) := by
  intro a out
  rw [beginCopy, rd_showCopiesMem (mt List.mem_singleton.2 out)]
  exact rd_setUpd ..

/-- The copy in use, from which the other one is repaired. -/
def repairFrom (s : State) : SlotCopy := if s.upd.used = 2 then s.upd.copyB else s.upd.copyA

/-- The copy that a repair rewrites. -/
def repaired (s : State) : SlotCopy := if s.upd.used = 2 then s.upd.copyA else s.upd.copyB

theorem exec_slotmemRepair_due (leads : s.pair.role.leads = true) (run : stage s = 5) (idle : s.upd.writing = none)
    (slotw : s.olc.slotw = 0 ∨ s.olc.slotw = 5) (used : s.upd.used ≠ 0) (worse : (repaired s).valid = false ∨ (repaired s).gen < (repairFrom s).gen) :
    exec (.slotmemRepair t) s = .next (beginCopy (atTime s t) (decide (s.upd.used = 1)) (repairFrom s) 0) :=
  if_pos ⟨leads, run, idle, slotw, used, worse⟩

/-- The state in which a copy has been read back. -/
def copyDone (s : State) (w : Bool) (x : SlotCopy) : State :=
  showCopiesMem (setUpd s fun u => withCopy u none w { x with state := 1 })

theorem upd_copyDone (s : State) (w : Bool) (x : SlotCopy) : (copyDone s w x).upd = withCopy s.upd none w { x with state := 1 } :=
  upd_showCopiesMem _

theorem rd_copyDone {a : Nat} (w : Bool) (x : SlotCopy) (apart : a ≠ Reg.UPD_SLOTMEM) : rd (copyDone s w x) a = rd s a :=
  (rd_showCopiesMem apart).trans (rd_setUpd ..)

/-- What the end of the write of a copy brings: an event after a repair, CONFIGURE again after CHOOSE. -/
def copyEnded (s : State) (w : Bool) (x : SlotCopy) (why : Nat) : State :=
  if why = 0 then raise (copyDone s w x) { blk := 0x13, ev := 5, info := [bit1 w 0] }
  else wrField (enterStage (copyDone s w x) 3) Reg.UPD_STAT 28 26 0

theorem exec_slotmemWriteDone_writing (writing : s.upd.writing = some (w, x, why)) :
    exec (.slotmemWriteDone t) s = .next (copyEnded (atTime s t) w x why) := by
  have writing' : (atTime s t).upd.writing = some (w, x, why) := writing
  show execSlotmemWriteDone t s = _
  simp only [execSlotmemWriteDone, writing']
  exact (apply_ite Host.Outcome.next ..).symm

theorem upd_copyEnded (s : State) (w : Bool) (x : SlotCopy) (why : Nat) : (copyEnded s w x why).upd = (copyDone s w x).upd := by
  unfold copyEnded
  split
  · exact raise_upd ..
  · exact (Keeps.wrField (a := Reg.UPD_STAT) rfl (enterStage_keeps (copyDone s w x) 3)).same .upd rfl

theorem copyEnded_repair (s : State) (w : Bool) (x : SlotCopy) : flag (rd (copyEnded s w x 0) Reg.UPD_EVT_STAT) 5 = true ∧
    stage (copyEnded s w x 0) = stage s := by
  rw [copyEnded, if_pos rfl]
  refine ⟨flag_raise_of rfl rfl (by decide) (by decide), ?_⟩
  rw [stage, rd_raise _ _ _ _ (by decide) (by show Reg.UPD_STAT ≠ Reg.UPD_EVT_STAT; decide), rd_copyDone _ _ (by decide), stage]

theorem copyEnded_choose (w : Bool) (x : SlotCopy) (chosen : why ≠ 0) : stage (copyEnded s w x why) = 3 ∧
    field (rd (copyEnded s w x why) Reg.UPD_STAT) 28 26 = 0 := by
  rw [copyEnded, if_neg chosen]
  refine ⟨?_, field_wrField_same _ _ _ _ (by decide)⟩
  rw [stage, field_wrField_other _ _ _ (by decide) (by decide)]
  exact stage_enterStage _ (by decide)

/-! ### CHOOSE (R427) -/

/-- The copy that CHOOSE keeps, by its bit 7. -/
def chosenCopy (s : State) (c : Cmd) : SlotCopy := if flag c.value 7 then s.upd.copyB else s.upd.copyA

section Choose

variable (take : takes s Reg.UPD_CMD 6 c)

include take

theorem exec_updChoose_engineer (ambiguous : field (rd s Reg.UPD_STAT) 28 26 = 2) (role : hasRole s c.session 2 = true) :
    exec (.updChoose c) s = .next (beginCopy (accepted (touch s c.session) Reg.UPD_CMD c) (!flag c.value 7)
      { chosenCopy s c with gen := (chosenCopy s c).gen + 1 } 1) := by
  have ambiguous' : ¬ field (rd (touch s c.session) Reg.UPD_STAT) 28 26 ≠ 2 := fun no => no ambiguous
  have role' : ¬ (!hasRole (touch s c.session) c.session 2) = true := by rw [hasRole_touch, role]; exact Bool.false_ne_true
  exact (congrArg Host.Outcome.next (updCmd_of_takes take _)).trans
    (congrArg Host.Outcome.next ((if_neg ambiguous').trans (if_neg role')))

theorem exec_updChoose_refused (no : field (rd s Reg.UPD_STAT) 28 26 ≠ 2 ∨ hasRole s c.session 2 = false) : exec (.updChoose c) s =
    .next (refuseUpd (touch s c.session) (if field (rd s Reg.UPD_STAT) 28 26 ≠ 2 then 7 else 2) c.session) := by
  refine (congrArg Host.Outcome.next (updCmd_of_takes take _)).trans (congrArg Host.Outcome.next ?_)
  by_cases other : field (rd s Reg.UPD_STAT) 28 26 ≠ 2
  · rw [if_pos other]
    exact if_pos other
  · have role' : (!hasRole (touch s c.session) c.session 2) = true := by rw [hasRole_touch, no.resolve_left other]; rfl
    rw [if_neg other]
    exact (if_neg other).trans (if_pos role')

end Choose

/-! ### Trust tokens (R447) -/

/-- The session may bring a token: the security admin's, or the service port's while the store is empty. -/
def bringsToken (s : State) (session : Nat) : Bool := hasRole s session 4 || (decide (session = 0) && s.upd.trust.isEmpty)

/-- The state in which a token has changed the store. -/
def tokenTaken (s : State) (session : Nat) (b : List Byte) : State :=
  raise (trustResolves (wr (setUpd s fun u => { u with trust := tokenApply u.trust b, tokenNum := leAt b 12 4 })
    Reg.UPD_TOKEN_NUM (w32 (leAt b 12 4)))) { blk := 0x13, ev := 6, info := [session, leAt b 12 4, leAt b 17 1, leAt b 18 1] }

theorem exec_trustToken (s : State) (session : Nat) (b : List Byte) : exec (.trustToken session b) s =
    .next (if bringsToken s session && tokenOk s b then tokenTaken (touch s session) session b
      else refuse (touch s session) Reg.UPD_TOKEN_NUM none session) := by
  have brings : bringsToken (touch s session) session = bringsToken s session := by rw [bringsToken, hasRole_touch]; rfl
  rw [← brings]
  exact (apply_ite Host.Outcome.next ..).symm

theorem trustResolves_eq (s : State) : trustResolves s = s ∨ trustResolves s = wrField s Reg.UPD_STAT 28 26 0 := by
  unfold trustResolves
  extract_lets stop signs agrees
  split
  · exact .inr rfl
  · exact .inl rfl

theorem rd_trustResolves {a : Nat} (apart : a ≠ Reg.UPD_STAT) : rd (trustResolves s) a = rd s a := by
  obtain same | cleared := trustResolves_eq s
  · rw [same]
  · rw [cleared, rd_wrField_other _ _ _ _ apart]

theorem upd_trustResolves (s : State) : (trustResolves s).upd = s.upd := by
  obtain same | cleared := trustResolves_eq s
  · rw [same]
  · rw [cleared]; rfl

theorem tokenTaken_shows (s : State) (session : Nat) (b : List Byte) :
    (tokenTaken s session b).upd = { s.upd with trust := tokenApply s.upd.trust b, tokenNum := leAt b 12 4 } ∧
      rd (tokenTaken s session b) Reg.UPD_TOKEN_NUM = w32 (leAt b 12 4) ∧ flag (rd (tokenTaken s session b) Reg.UPD_EVT_STAT) 6 = true := by
  refine ⟨(raise_upd ..).trans (upd_trustResolves _), ?_, flag_raise_of rfl rfl (by decide) (by decide)⟩
  rw [tokenTaken, rd_raise _ _ _ _ (by decide) (by show Reg.UPD_TOKEN_NUM ≠ Reg.UPD_EVT_STAT; decide), rd_trustResolves (by decide), rd_wr_same]

theorem refused_trustToken (s : State) (session : Nat) :
    (refuse (touch s session) Reg.UPD_TOKEN_NUM none session).upd = s.upd ∧
      (refuse (touch s session) Reg.UPD_TOKEN_NUM none session).resp = .refused 0 := ⟨refuse_upd .., rfl⟩

/-! ### Attestation (R450) -/

/-- The report of a session. -/
def attestation (s : State) (session : Nat) (nonce : List Byte) : Resp :=
  if hasSession s session then
    .values ((attestBody s nonce ++ Config.sign 1 (attestBody s nonce) ++ Config.sign 2 (attestBody s nonce)).map (·.toNat))
  else .refused 0

theorem hasSession_touch (s : State) (n session : Nat) : hasSession (touch s n) session = hasSession s session := by
  simp only [hasSession, touch, List.any_map]
  refine congrArg (s.sess.any ·) (funext fun ⟨_, x⟩ => ?_)
  cases x with
  | none => rfl
  | some x => by_cases h : x.id = n <;> simp [h]

theorem exec_attestation (s : State) (session : Nat) (nonce : List Byte) :
    exec (.attestation session nonce) s = .next (answer (touch s session) (attestation s session nonce)) := by
  have body : attestBody (touch s session) nonce = attestBody s nonce := rfl
  show execAttestation session nonce s = _
  rw [execAttestation, hasSession_touch, body, attestation]
  exact (apply_ite (fun r => Host.Outcome.next (answer (touch s session) r)) ..).symm

end SlotMemory

/-- Settles O57: both kinds of write go through beginCopy, a token through tokenTaken, and a report through attestation. -/
theorem slotMemoryAndTrust : Obligations.SlotMemoryAndTrust := by
  intro s t session why w b nonce c x src old pick copy body
  refine ⟨fun leads run idle slotw used worse => ?repair, fun writing => ?done_, fun take ambiguous role => ?choose, fun take no => ?noChoose,
    fun may => ?token, fun role other => ?noToken, ?report⟩
  case repair =>
    obtain ⟨writing, own, rest⟩ := copies_of_upd (upd_beginCopy (atTime s t) (decide (s.upd.used = 1)) src 0)
    rw [← decide_not] at rest
    exact ⟨_, exec_slotmemRepair_due leads run idle slotw used worse, writing, own, rest, onlyRegs_beginCopy (atTime s t) _ _ _⟩
  case done_ =>
    obtain ⟨idle, own, rest⟩ := copies_of_upd ((upd_copyEnded (atTime s t) w x why).trans (upd_copyDone ..))
    refine ⟨_, exec_slotmemWriteDone_writing writing, idle, own, rest, ?_, copyEnded_choose w x⟩
    rintro rfl
    exact copyEnded_repair (atTime s t) w x
  case choose =>
    obtain ⟨writing, own, -⟩ := copies_of_upd (upd_beginCopy (accepted (touch s c.session) Reg.UPD_CMD c) (!flag c.value 7)
      { pick with gen := pick.gen + 1 } 1)
    exact ⟨_, exec_updChoose_engineer take ambiguous role, writing, own⟩
  case noChoose =>
    have low : (if field (rd s Reg.UPD_STAT) 28 26 ≠ 2 then 7 else 2) < 16 := by split <;> decide
    obtain ⟨upd, -, shown⟩ := refused_refuseUpd (touch s c.session) c.session low
    exact ⟨_, exec_updChoose_refused take no, upd, shown⟩
  case token =>
    have brings : bringsToken s session = true := by
      obtain role | ⟨service, empty⟩ := may
      · rw [bringsToken, role, Bool.true_or]
      · rw [bringsToken, empty, decide_eq_true service]; exact Bool.or_true _
    refine ⟨_, exec_trustToken .., fun ok => ?_, fun bad => ?_⟩
    · rw [brings, ok]
      exact tokenTaken_shows (touch s session) session b
    · rw [bad, Bool.and_false]
      exact refused_trustToken s session
  case noToken =>
    have brings : bringsToken s session = false := by
      rw [bringsToken, role, Bool.false_or]
      obtain other | full := other
      · rw [decide_eq_false other, Bool.false_and]
      · rw [List.isEmpty_eq_false_iff.2 full, Bool.and_false]
    have run := exec_trustToken s session b
    rw [brings] at run
    exact ⟨_, run, refused_trustToken s session⟩
  case report =>
    exact ⟨_, exec_attestation .., Keeps.onlyParts (Keeps.step (answer_keeps ..) rfl (Keeps.mono (touch_keeps s session) rfl)), rfl⟩

end Sys2Proof.Machine
end

section
/-! Region writes and barriers (R456, R458, R461–R463, R465): O58, settled. -/

namespace Sys2Proof.Machine

open Sys2Proof

/-! ### Tables -/

section Tables

variable {α : Type} {d : α}

/-- What a choice of keys leaves of a table. -/
theorem tget_filter (p : Nat → Bool) (t : Tbl α) (k : Nat) : tget d (t.filter fun e => p e.1) k = if p k then tget d t k else d := by
  induction t with
  | nil => exact (ite_self d).symm
  | cons e t ih =>
    by_cases key : k = e.1
    · cases keep : p e.1 with
      | true => simp [tget, Tbl.read, key, keep]
      | false =>
        rw [List.filter_cons_of_neg (by simp [keep]), ih, key, keep]
        rfl
    · have rest : tget d (e :: t) k = tget d t k := if_neg key
      rw [rest, ← ih, List.filter_cons]
      split
      · exact if_neg key
      · rfl

end Tables

/-- The keys of a range come from the other table, when its keys rise; every other key stays. -/
theorem tget_tblReplace {t src : Tbl Region} (rising : Tbl.rising src = true) (lo hi k : Nat) :
    tget {} (tblReplace t src lo hi) k = if lo ≤ k ∧ k < hi then tget {} src k else tget {} t k := by
  let p : Nat → Bool := fun k => decide (lo ≤ k) && decide (k < hi)
  have pairs : (tblRange src lo hi).Pairwise fun a b => a.1 < b.1 := ((Tbl.rising_iff src).1 rising).filter _
  have run := tget_foldl_tset (d := ({} : Region)) (fun _ x => x) pairs (t.filter fun e => !p e.1) k
  have range : tget ({} : Region) (tblRange src lo hi) k = if p k then tget {} src k else {} := tget_filter p src k
  have kept : tget ({} : Region) (t.filter fun e => !p e.1) k = if !p k then tget {} t k else {} := tget_filter (fun k => !p k) t k
  have inside : p k = true ↔ lo ≤ k ∧ k < hi := by simp [p]
  refine run.trans ?_
  split
  next mem =>
    obtain ⟨e, here, key⟩ := List.mem_map.1 mem
    have own : p k = true := key ▸ (List.mem_filter.1 here).2
    rw [range, if_pos own, if_pos (inside.1 own)]
  next absent =>
    cases own : p k with
    | true =>
      rw [tget_of_not_mem absent, own] at range
      rw [kept, own, if_pos (inside.1 own)]
      exact range
    | false =>
      rw [kept, own, if_neg fun no => Bool.eq_false_iff.1 own (inside.2 no)]
      rfl

section Rules

variable {s : State} {reg k : Nat} {c : Cmd} {busy : Bool}

/-! ### Region writes (R456, R458, R462) -/

/-- The state in which an initiator region's shadow copy is written. -/
def iniWritten (s : State) (reg : Nat) (v : Word) : State :=
  { s with acc := { s.acc with iniSh := tmod {} s.acc.iniSh (iniKey s) (fun r => r.put ((reg - Reg.ACC_INI_BASE_LO) / 4) v) } }

/-- The state in which a target region's shadow copy is written. -/
def tgtWritten (s : State) (reg : Nat) (v : Word) : State :=
  { s with acc := { s.acc with tgtSh := tmod {} s.acc.tgtSh (tgtKey s) (fun r => r.put ((reg - Reg.ACC_TGT_BASE_LO) / 4) v) } }

/-- The state after the refused write of a locked firmware region. -/
def tgtLocked (s : State) (reg : Nat) (c : Cmd) : State :=
  moduleSafe (answer (raise (recordRefusal s 4 reg c.master .write true) { blk := 0x12, ev := 2, info := [tgtKey s] }) .error) none

theorem keeps_acc (s : State) (a : AccState) : Keeps 0x800 s { s with acc := a } := Keeps.upd_acc rfl (Keeps.refl ..)

section Write

variable (pass : passes s reg c)

include pass

theorem exec_accRegionWrite_ini (low : Reg.ACC_INI_BASE_LO ≤ reg) (high : reg ≤ Reg.ACC_INI_MID) (word : reg % 4 = 0) :
    exec (.accRegionWrite reg c) s = .next (iniWritten (touch s c.session) reg c.value) :=
  congrArg Host.Outcome.next ((written_of_passes pass _).trans (if_pos ⟨low, high, word⟩))

variable (low : Reg.ACC_TGT_BASE_LO ≤ reg) (high : reg ≤ Reg.ACC_TGT_MID) (word : reg % 4 = 0)

include low high word

theorem exec_accRegionWrite_tgt (free : 4 ≤ tgtKey s % 64 ∨ s.acc.locked = false) :
    exec (.accRegionWrite reg c) s = .next (tgtWritten (touch s c.session) reg c.value) := by
  have other : ¬ (Reg.ACC_INI_BASE_LO ≤ reg ∧ reg ≤ Reg.ACC_INI_MID ∧ reg % 4 = 0) := by
    rintro ⟨-, high', -⟩
    exact absurd (Nat.le_trans low high') (by decide)
  have free' : ¬ (tgtKey (touch s c.session) % 64 < 4 ∧ (touch s c.session).acc.locked = true) := by
    rintro ⟨firm, locked⟩
    exact free.elim (Nat.not_le.2 firm) fun open_ => Bool.eq_false_iff.1 open_ locked
  exact congrArg Host.Outcome.next ((written_of_passes pass _).trans ((if_neg other).trans ((if_pos ⟨low, high, word⟩).trans (if_neg free'))))

theorem exec_accRegionWrite_locked (firm : tgtKey s % 64 < 4) (locked : s.acc.locked = true) :
    exec (.accRegionWrite reg c) s = .next (tgtLocked (touch s c.session) reg c) := by
  have other : ¬ (Reg.ACC_INI_BASE_LO ≤ reg ∧ reg ≤ Reg.ACC_INI_MID ∧ reg % 4 = 0) := by
    rintro ⟨-, high', -⟩
    exact absurd (Nat.le_trans low high') (by decide)
  have lock' : tgtKey (touch s c.session) % 64 < 4 ∧ (touch s c.session).acc.locked = true := ⟨firm, locked⟩
  exact congrArg Host.Outcome.next ((written_of_passes pass _).trans ((if_neg other).trans ((if_pos ⟨low, high, word⟩).trans (if_pos lock'))))

end Write

theorem safe_moduleSafe (s : State) (cause : Option Nat) (detail : Nat) : (moduleSafe s cause detail).saf.safe = true := by
  have given : ∀ code, (moduleSafe s (some code) detail).saf.safe = true := by
    intro code
    cases safe : s.saf.safe with
    | true => rw [moduleSafe, if_pos safe]; exact safe
    | false => exact (entersSafe_moduleSafe safe).safe
  cases cause with
  | some code => exact given code
  | none => exact given _

/-- A recorded refusal leaves the target regions. -/
theorem tgt_recordRefusal (s : State) (port addr master : Nat) (kind : AccKind) (target : Bool) :
    (recordRefusal s port addr master kind target).acc.tgtSh = s.acc.tgtSh ∧ (recordRefusal s port addr master kind target).acc.tgt = s.acc.tgt := by
  unfold recordRefusal
  extract_lets w s1 src s2 code sev
  have counted : Keeps 0x4000000000000 s s1 := Keeps.bump (a := Reg.ACC_VIOL_CNT) rfl (Keeps.wr (a := Reg.ACC_VIOL_LAST) rfl (Keeps.refl ..))
  have acc : s1.acc = s.acc := counted.same .acc rfl
  clear_value s1
  split
  · rw [setBit, wr_acc]
    exact ⟨(congrArg AccState.tgtSh acc :), (congrArg AccState.tgt acc :)⟩
  · rw [raise_acc]
    exact ⟨(congrArg AccState.tgtSh acc :), (congrArg AccState.tgt acc :)⟩

theorem tgtLocked_shows (s : State) (reg : Nat) (c : Cmd) : (tgtLocked s reg c).acc.tgtSh = s.acc.tgtSh ∧ (tgtLocked s reg c).acc.tgt = s.acc.tgt ∧
    (tgtLocked s reg c).saf.safe = true ∧ (tgtLocked s reg c).resp = .error ∧ flag (rd (tgtLocked s reg c) Reg.ACC_EVT_STAT) 2 = true := by
  have keeps := moduleSafe_keeps (answer (raise (recordRefusal s 4 reg c.master .write true) { blk := 0x12, ev := 2, info := [tgtKey s] }) .error) none 0
  have acc : (tgtLocked s reg c).acc = (recordRefusal s 4 reg c.master .write true).acc := (keeps.same .acc rfl).trans (raise_acc ..)
  obtain ⟨tgtSh, tgt⟩ := tgt_recordRefusal s 4 reg c.master .write true
  refine ⟨(congrArg AccState.tgtSh acc).trans tgtSh, (congrArg AccState.tgt acc).trans tgt, safe_moduleSafe .., keeps.same .resp rfl, ?_⟩
  rw [tgtLocked, rd_of_keeps keeps (by decide) (by decide)]
  exact flag_raise_of rfl rfl (by decide) (by decide)

/-! ### Barriers (R463) -/

/-- A barrier of a scope is in force, and drains while an access under the old rules is still out. -/
def InForce (s : State) (k : Nat) (busy : Bool) (u : State) (scope index : Nat) : Prop :=
  u.acc.scope = scope ∧ u.acc.count = satAdd 0xFFFF s.acc.count 1 ∧
    u.acc.drain = busy ∧ flag (rd u Reg.ACC_EVT_STAT) 1 = true ∧
    (tget {} u.acc.ini k : Region) = (if scope = 2 ∨ scope = 0 ∧ k / 16 = index then tget {} s.acc.iniSh k else tget {} s.acc.ini k) ∧
    (tget {} u.acc.tgt k : Region) = (if scope = 2 ∨ scope = 1 ∧ k / 64 = index then tget {} s.acc.tgtSh k else tget {} s.acc.tgt k)

/-- The state in which a barrier has taken effect. -/
def barrierTaken (s : State) (scope index : Nat) (busy : Bool) : State :=
  { takeBarrier s scope index with acc := { (takeBarrier s scope index).acc with drain := busy } }

/-- The regions in force after a barrier of a scope. -/
def scopeTaken (a : AccState) (scope index : Nat) : AccState :=
  match scope with
  | 0 => { a with ini := tblReplace a.ini a.iniSh (index * 16) (index * 16 + 16) }
  | 1 => { a with tgt := tblReplace a.tgt a.tgtSh (index * 64) (index * 64 + 64) }
  | _ => { a with ini := a.iniSh, tgt := a.tgtSh }

theorem acc_takeBarrier (s : State) (scope index : Nat) : (takeBarrier s scope index).acc = { scopeTaken s.acc scope index with
    scope := scope, count := satAdd 0xFFFF s.acc.count 1, applied := s.acc.applied || decide (scope = 2) } := raise_acc ..

theorem scopeTaken_rest (a : AccState) (scope index : Nat) : (scopeTaken a scope index).held = a.held ∧
    (scopeTaken a scope index).iniSh = a.iniSh ∧ (scopeTaken a scope index).tgtSh = a.tgtSh := by
  unfold scopeTaken
  split <;> exact ⟨rfl, rfl, rfl⟩

theorem flag_barrierTaken (s : State) (scope index : Nat) (busy : Bool) :
    flag (rd (barrierTaken s scope index busy) Reg.ACC_EVT_STAT) 1 = true := by
  rw [barrierTaken, rd_of_keeps (keeps_acc ..) (by decide) (by decide)]
  exact flag_raise_of rfl rfl (by decide) (by decide)

theorem acc_barrierTaken (s : State) (scope index : Nat) (busy : Bool) : (barrierTaken s scope index busy).acc = { scopeTaken s.acc scope index with
    scope := scope, count := satAdd 0xFFFF s.acc.count 1, applied := s.acc.applied || decide (scope = 2), drain := busy } :=
  congrArg (fun a : AccState => { a with drain := busy }) (acc_takeBarrier s scope index)

theorem inForce_barrierTaken {scope : Nat} (index : Nat) (low : scope < 3) (ini : Tbl.rising s.acc.iniSh = true)
    (tgt : Tbl.rising s.acc.tgtSh = true) : InForce s k busy (barrierTaken s scope index busy) scope index := by
  have shown := flag_barrierTaken s scope index busy
  rw [InForce, acc_barrierTaken]
  obtain rfl | rfl | rfl : scope = 0 ∨ scope = 1 ∨ scope = 2 := by omega
  · exact ⟨rfl, rfl, rfl, shown, (tget_tblReplace ini ..).trans (if_congr (by omega) rfl rfl), (if_neg (by omega)).symm⟩
  · exact ⟨rfl, rfl, rfl, shown, (if_neg (by omega)).symm, (tget_tblReplace tgt ..).trans (if_congr (by omega) rfl rfl)⟩
  · exact ⟨rfl, rfl, rfl, shown, (if_pos (.inl rfl)).symm, (if_pos (.inl rfl)).symm⟩

/-- The index that a barrier names. -/
def barrierIndex (c : Cmd) : Nat := if field c.value 9 8 = 1 then field c.value 2 0 else field c.value 6 0

section Barrier

variable (pass : passes s Reg.ACC_BARRIER c) (key : field c.value 31 16 = 0x5A3C) (scope : field c.value 9 8 ≠ 3)

include pass key scope

theorem exec_accBarrier_held (drains : s.acc.drain = true) : exec (.accBarrier c busy) s = .next
    { touch s c.session with acc := { s.acc with held := s.acc.held ++ [(field c.value 9 8, barrierIndex c)] } } :=
  congrArg Host.Outcome.next ((written_of_passes pass _).trans ((if_pos key).trans ((if_neg scope).trans
    (if_pos (show (touch s c.session).acc.drain = true from drains)))))

theorem exec_accBarrier_taken (free : s.acc.drain = false) :
    exec (.accBarrier c busy) s = .next (barrierTaken (touch s c.session) (field c.value 9 8) (barrierIndex c) busy) :=
  congrArg Host.Outcome.next ((written_of_passes pass _).trans ((if_pos key).trans ((if_neg scope).trans
    (if_neg (show ¬ (touch s c.session).acc.drain = true from Bool.eq_false_iff.1 free)))))

end Barrier

theorem exec_barrierDrainEnd_alone (drains : s.acc.drain = true) (alone : s.acc.held = []) :
    exec (.barrierDrainEnd busy) s = .next { s with acc := { s.acc with drain := false } } := by
  have run : ¬ (!s.acc.drain) = true := by rw [drains]; exact Bool.false_ne_true
  show execBarrierDrainEnd busy s = _
  simp only [execBarrierDrainEnd, alone]
  exact if_neg run

/-- The state in which the oldest held barrier has left the queue. -/
def heldTaken (s : State) (rest : List (Nat × Nat)) : State := { s with acc := { s.acc with held := rest } }

theorem exec_barrierDrainEnd_held {j n : Nat} {rest : List (Nat × Nat)} (drains : s.acc.drain = true) (held : s.acc.held = (j, n) :: rest) :
    exec (.barrierDrainEnd busy) s = .next (barrierTaken (heldTaken s rest) j n busy) := by
  have run : ¬ (!s.acc.drain) = true := by rw [drains]; exact Bool.false_ne_true
  show execBarrierDrainEnd busy s = _
  simp only [execBarrierDrainEnd, held]
  exact if_neg run

end Rules

/-- Settles O58: a region write changes one shadow copy or is refused, and every barrier takes effect by takeBarrier. -/
theorem accessRules : Obligations.AccessRules := by
  intro s reg k c busy rest scope index inForce
  refine ⟨fun pass low high word => ?ini, fun pass low high word => ⟨fun free => ?tgt, fun firm locked => ?locked⟩,
    fun pass key other => ⟨fun drains => ?held, fun free ini tgt => ?taken⟩, fun drains alone => ?drained,
    fun j n drains held low ini tgt => ?next⟩
  case ini =>
    exact ⟨_, exec_accRegionWrite_ini pass low high word, rfl,
      Keeps.onlyParts (Keeps.step (keeps_acc ..) rfl (Keeps.mono (touch_keeps s c.session) rfl))⟩
  case tgt =>
    exact ⟨_, exec_accRegionWrite_tgt pass low high word free,
      Keeps.onlyParts (Keeps.step (keeps_acc ..) rfl (Keeps.mono (touch_keeps s c.session) rfl)), rfl⟩
  case locked => exact ⟨_, exec_accRegionWrite_locked pass low high word firm locked, tgtLocked_shows (touch s c.session) reg c⟩
  case held =>
    exact ⟨_, exec_accBarrier_held pass key other drains, rfl,
      Keeps.onlyParts (Keeps.step (keeps_acc ..) rfl (Keeps.mono (touch_keeps s c.session) rfl))⟩
  case taken =>
    have low : scope < 3 := by
      have four : scope < 4 := Nat.mod_lt _ (by decide)
      omega
    obtain ⟨-, iniSh, tgtSh⟩ := scopeTaken_rest s.acc scope index
    have acc := acc_barrierTaken (touch s c.session) scope index busy
    exact ⟨_, exec_accBarrier_taken pass key other free, inForce_barrierTaken (s := touch s c.session) index low ini tgt,
      (congrArg AccState.iniSh acc).trans iniSh, (congrArg AccState.tgtSh acc).trans tgtSh⟩
  case drained => exact ⟨_, exec_barrierDrainEnd_alone drains alone, rfl, Keeps.onlyParts (keeps_acc ..)⟩
  case next =>
    obtain ⟨queue, -, -⟩ := scopeTaken_rest (heldTaken s rest).acc j n
    exact ⟨_, exec_barrierDrainEnd_held drains held, inForce_barrierTaken (s := heldTaken s rest) n low ini tgt,
      (congrArg AccState.held (acc_barrierTaken (heldTaken s rest) j n busy)).trans queue⟩

end Sys2Proof.Machine
end

section
/-! The counter clears of the blocks (R470, R535, R536): O19, settled. -/

namespace Sys2Proof.Machine

open Sys2Proof

section Clears

variable {i : Instr} {s : State} {reg bit : Nat} {c : Cmd} {also : List Nat} {P : State → Prop} {f : State → State}

/-! ### One rule for every clear (R470) -/

/-- A clear that leaves the recorder, and all registers but those listed, clears as R470 has it. -/
theorem clearsBy_of_takes (take : takes s reg bit c) (run : exec i s = .next (keyedBit s reg bit c fun t => cleared (f t) reg c.session))
    (rcd : (f (touch s c.session)).rcd = s.rcd) (regs : onlyRegs also s (f (touch s c.session)))
    (effect : P (cleared (f (touch s c.session)) reg c.session)) : clearsBy i s reg c also P := by
  rw [keyed_of_takes take] at run
  refine ⟨_, run, effect, ?_, fun room => ?_⟩
  · exact onlyRegs_record _ (onlyRegs_mono regs (List.subset_cons_self ..)) List.mem_cons_self
  · have room' : (f (touch s c.session)).rcd.buf.length < 12288 := by rw [rcd]; exact room
    obtain ⟨x, buf, code, params⟩ := recorded_record (f (touch s c.session))
      { blk := blockOf reg, ev := 0x42, p := [some (offsetOf reg), some c.session] } [offsetOf reg, c.session] (Nat.le_add_right 2 2) rfl room'
    exact ⟨x, buf.trans (congrArg (fun r : Recorder => r.buf ++ [x]) rcd), code, params⟩

/-! ### Zeroed registers -/

theorem onlyRegs_zeroRegs {u : State} {l : List Nat} (same : onlyRegs also s u) (sub : l ⊆ also) : onlyRegs also s (zeroRegs u l) := by
  intro a out
  rw [rd_zeroRegs, if_neg fun mem => out (sub mem)]
  exact same a out

theorem rcd_zeroRegs (s : State) (l : List Nat) : (zeroRegs s l).rcd = s.rcd := by
  obtain ⟨r, eq⟩ := foldl_wr_regs id (fun _ => 0) l s
  exact (congrArg State.rcd eq :)

theorem hlt_zeroRegs (s : State) (l : List Nat) : (zeroRegs s l).hlt = s.hlt := by
  obtain ⟨r, eq⟩ := foldl_wr_regs id (fun _ => 0) l s
  exact (congrArg State.hlt eq :)

/-- A register that a clear has set to zero. -/
theorem rd_cleared_zero {u : State} {a : Nat} (zero : rd u a = 0) (notRec : a ≠ Reg.REC_EVT_STAT) (n : Nat) : rd (cleared u reg n) a = 0 :=
  (rd_cleared _ _ _ _ notRec).trans zero

theorem rd_zeroRegs_mem {u : State} {l : List Nat} {a : Nat} (mem : a ∈ l) : rd (zeroRegs u l) a = 0 := (rd_zeroRegs ..).trans (if_pos mem)

/-- An entry of a table with one change of every entry. -/
theorem tget_cleared {α : Type} [DecidableEq α] {d : α} (g : α → α) {t : Tbl α} (rising : Tbl.rising t = true) (k : Nat) (keeps : g d = d) :
    tget d (tmapAll d (fun _ x => g x) t) k = g (tget d t k) := tget_tmapAll rising keeps

/-! ### Function blocks (R141) -/

/-- The counters of the function blocks. -/
def fbxCounters : List Nat := Reg.FBX_FAULT_CNT :: ((upto 4).map Reg.FBX_FIFO_LOSTn ++ (upto 4).map Reg.FBX_JRNL_STATn)

theorem mem_fbxCounters {j : Nat} (low : j < 4) : Reg.FBX_FIFO_LOSTn j ∈ fbxCounters ∧ Reg.FBX_JRNL_STATn j ∈ fbxCounters := by
  have inside : j ∈ upto 4 := List.mem_range.2 low
  exact ⟨List.mem_cons_of_mem _ (List.mem_append_left _ (List.mem_map_of_mem inside)),
    List.mem_cons_of_mem _ (List.mem_append_right _ (List.mem_map_of_mem inside))⟩

/-! ### Stations on the chain, safe connections and CAN (R303, R330, R376) -/

/-- A safe connection with its counters at zero. -/
def stcCleared (s : State) : State := setSaf s fun x => { x with stc := tmapAll {} (fun _ y => { y with losses := 0, discards := 0 }) x.stc }

/-- A port of the chain with its counters, and those of its nodes, at zero. -/
def ChnPort.countersCleared (q : ChnPort) : ChnPort :=
  { q with
    miss := 0, crc := 0, malformed := 0, collisions := 0
    nodes := tmapAll {} (fun _ y => { y with miss := 0, crc := 0, rej := 0 }) q.nodes }

/-- The chain with all its counters at zero. -/
def chnCleared (s : State) : State := setChn s fun x => { x with ports := tmapAll {} (fun _ q => q.countersCleared) x.ports }

theorem chnPort_chnCleared (rising : Tbl.rising s.chn.ports = true) (p : Nat) : chnPort (chnCleared s) p = (chnPort s p).countersCleared :=
  tget_cleared ChnPort.countersCleared rising p rfl

/-- A controller with its counters, and those of its objects and buffers, at zero. -/
def CanCtl.countersCleared (q : CanCtl) : CanCtl :=
  { q with
    busOffs := 0, errs := 0, unk := 0, fmt := 0, rxMiss := 0, refMiss := 0
    objs := tmapAll {} (fun _ x => { x with lockTo := 0 }) q.objs
    bufs := tmapAll {} (fun _ x => { x with sent := 0, cancels := 0 }) q.bufs }

/-- Both controllers with their counters at zero. -/
def canCleared (s : State) : State := modCan (modCan s 0 CanCtl.countersCleared) 1 CanCtl.countersCleared

theorem canCtl_canCleared (s : State) {k : Nat} (low : k < 2) : canCtl (canCleared s) k = (canCtl s k).countersCleared := by
  obtain rfl | rfl : k = 0 ∨ k = 1 := by omega
  · rw [canCleared, canCtl_modCan_other _ _ (by decide), canCtl_modCan_same]
  · rw [canCleared, canCtl_modCan_same, canCtl_modCan_other _ _ (by decide)]

/-! ### Analogue channels (R355) -/

/-- A channel with its counters at zero. -/
def AxState.countersCleared (x : AxState) : AxState := { x with openCnt := 0, compCnt := 0, hartOk := 0, hartBad := 0 }

/-- All channels with their counters at zero. -/
def aioCleared (s : State) : State := (upto 8).foldl (fun u ch => setAx u ch (axOf u ch).countersCleared) s

theorem OnlyAx.rest {u : State} (only : OnlyAx s u) : u.rcd = s.rcd ∧ onlyRegs [] s u := by
  refine ⟨?_, fun a _ => ?_⟩
  · rw [only]
  · rw [only]; rfl

theorem aioCleared_shows (s : State) : OnlyAx s (aioCleared s) ∧ ∀ ch, ch < 8 → axOf (aioCleared s) ch = (axOf s ch).countersCleared := by
  have step : SetsOneAx s (fun u ch => setAx u ch (axOf u ch).countersCleared) (fun _ => true) fun _ x => x.countersCleared := by
    refine fun u ch only => ⟨only.setAx .., fun m => ?_⟩
    rw [axOf_setAx]
    by_cases own : m = ch
    · rw [if_pos own, if_pos ⟨own, rfl⟩, own]
    · rw [if_neg own, if_neg fun no => own no.1]
  obtain ⟨only, left⟩ := axOf_foldl_upto step
  exact ⟨only, fun ch low => (left ch).trans (if_pos ⟨low, rfl⟩)⟩

/-! ### Time, Ethernet and monitors (R397, R418, R536) -/

/-- The time block with its counters at zero. -/
def timCleared (s : State) : State :=
  wr (wrField (setTim s fun x => { x with
    inst := tmapAll {} (fun _ y => { y with losses := 0, annOut := 0 }) x.inst
    caps := tmapAll {} (fun _ u => { u with ovf := 0 }) x.caps }) Reg.TIM_IRIG_STAT 15 0 0) Reg.TIM_LQ_CNT 0

theorem regs_timCleared (s : State) : rd (timCleared s) Reg.TIM_LQ_CNT = 0 ∧ field (rd (timCleared s) Reg.TIM_IRIG_STAT) 15 0 = 0 ∧
    field (rd (timCleared s) Reg.TIM_IRIG_STAT) 31 16 = field (rd s Reg.TIM_IRIG_STAT) 31 16 := by
  have irig : rd (timCleared s) Reg.TIM_IRIG_STAT = _ := rd_wr_other _ _ _ _ (by decide)
  rw [irig]
  exact ⟨rd_wr_same .., field_wrField_same _ _ _ _ (by decide), field_wrField_other _ _ _ (by decide) (by decide)⟩

/-- A port with its counters at zero. -/
def EthPort.countersCleared (x : EthPort) : EthPort :=
  { x with downs := 0, rx := 0, tx := 0, rxShown := 0, txShown := 0, fcs := 0, overN := 0 }

/-- A pair of ports with its counters at zero. -/
def EthPair.countersCleared (x : EthPair) : EthPair :=
  { x with discard := 0, single := 0, drops := [0, 0, 0, 0], shown := [0, 0, 0, 0] }

/-- The station bus with its counters at zero. -/
def ethCleared (s : State) : State := setStn s fun n => { n with
  ports := tmapAll {} (fun _ x => x.countersCleared) n.ports
  pairs := tmapAll {} (fun _ x => x.countersCleared) n.pairs
  opsOk := 0, opsBad := 0 }

/-- The GOOSE subscriptions with their counters at zero. -/
def gseCleared (s : State) : State := setStn s fun n => { n with
  subs := n.subs.map fun e => (e.1, e.2.map fun x => { x with discards := 0, news := 0, lostCnt := 0 }) }

/-- The monitors without peaks and extremes. -/
def peaksCleared (s : State) : State := setHlt s fun h => { h with
  temps := tmapAll {} (fun _ x => { x with peak := none }) h.temps
  volts := tmapAll {} (fun _ x => { x with ext := none }) h.volts }

/-- The monitors with their peak registers at zero too. -/
def monCleared (s : State) : State := zeroRegs (zeroRegs (peaksCleared s) ((upto 12).map Reg.MON_TPEAKn)) ((upto 24).map Reg.MON_VEXTn)

theorem hlt_monCleared (s : State) : (monCleared s).hlt = (peaksCleared s).hlt := (hlt_zeroRegs ..).trans (hlt_zeroRegs ..)

theorem rd_monCleared (s : State) {a : Nat} (mem : a ∈ (upto 12).map Reg.MON_TPEAKn ++ (upto 24).map Reg.MON_VEXTn) :
    rd (monCleared s) a = 0 := by
  rw [monCleared, rd_zeroRegs]
  split
  · rfl
  next out => exact rd_zeroRegs_mem ((List.mem_append.1 mem).resolve_right out)

end Clears

/-- Settles O19: every clear is its block's cleared state, of which one rule speaks. -/
theorem counterClears : Obligations.CounterClears := by
  intro s c
  refine ⟨fun take => ?fbx, fun take rising => ?saf, fun take rising => ?chn, fun take => ?lio, fun take => ?aio, fun take => ?can,
    fun take => ?tim, fun take ports pairs => ?eth, fun take => ?gse, fun take => ?acc, fun take => ?dpy, fun take => ?dev, fun take => ?mon⟩
  case fbx =>
    have apart : ∀ a, blockOf a = 4 → a ≠ Reg.REC_EVT_STAT := fun a fbx => ne_of_apply_ne blockOf (by rw [fbx]; decide)
    refine clearsBy_of_takes (f := fun t => zeroRegs t fbxCounters) take rfl (rcd_zeroRegs ..)
      (onlyRegs_zeroRegs (fun _ _ => rfl) (List.Subset.refl _)) ⟨?_, fun j low => ⟨?_, ?_⟩⟩
    · exact rd_cleared_zero (rd_zeroRegs_mem List.mem_cons_self) (by decide) _
    · exact rd_cleared_zero (rd_zeroRegs_mem (mem_fbxCounters low).1) (apart _ (Reg.FBX_FIFO_LOSTn_block j)) _
    · exact rd_cleared_zero (rd_zeroRegs_mem (mem_fbxCounters low).2) (apart _ (Reg.FBX_JRNL_STATn_block j)) _
  case saf =>
    refine clearsBy_of_takes (f := stcCleared) take rfl rfl (fun _ _ => rfl) fun k => ?_
    rw [cleared_saf]
    exact tget_cleared (fun y : StcState => { y with losses := 0, discards := 0 }) rising k rfl
  case chn =>
    refine clearsBy_of_takes (f := chnCleared) take rfl rfl (fun _ _ => rfl) fun p => ?_
    have own : chnPort (cleared (chnCleared (touch s c.session)) Reg.CHN_CMD c.session) p = (chnPort s p).countersCleared := by
      rw [chnPort, cleared_chn]
      exact chnPort_chnCleared (s := touch s c.session) rising p
    refine ⟨congrArg ChnPort.miss own, congrArg ChnPort.crc own, congrArg ChnPort.malformed own, congrArg ChnPort.collisions own,
      fun nodes n => ?_⟩
    rw [chnNode, own]
    exact tget_cleared (fun y : ChnNode => { y with miss := 0, crc := 0, rej := 0 }) nodes n rfl
  case lio =>
    refine clearsBy_of_takes (f := fun t => zeroRegs t [Reg.LIO_DO_OVL_CNT, Reg.LIO_DI_BRK_CNT, Reg.LIO_WD_CNT]) take rfl (rcd_zeroRegs ..)
      (onlyRegs_zeroRegs (fun _ _ => rfl) (List.Subset.refl _)) ⟨?_, ?_, ?_⟩
    · exact rd_cleared_zero (rd_zeroRegs_mem (by simp)) (by decide) _
    · exact rd_cleared_zero (rd_zeroRegs_mem (by simp)) (by decide) _
    · exact rd_cleared_zero (rd_zeroRegs_mem (by simp)) (by decide) _
  case aio =>
    obtain ⟨only, left⟩ := aioCleared_shows (touch s c.session)
    obtain ⟨rcd, regs⟩ := only.rest
    refine clearsBy_of_takes (f := aioCleared) take rfl rcd regs fun ch low => ?_
    exact (axOf_congr (cleared_lio ..) ch).trans (left ch low)
  case can =>
    refine clearsBy_of_takes (f := canCleared) take rfl rfl (fun _ _ => rfl) fun k low => ?_
    have own : canCtl (cleared (canCleared (touch s c.session)) Reg.CAN_CMD c.session) k = (canCtl s k).countersCleared := by
      rw [canCtl, cleared_can]
      exact canCtl_canCleared (touch s c.session) low
    refine ⟨congrArg CanCtl.busOffs own, congrArg CanCtl.errs own, congrArg CanCtl.unk own, congrArg CanCtl.fmt own,
      congrArg CanCtl.rxMiss own, congrArg CanCtl.refMiss own, fun objs n => ?_, fun bufs n => ?_⟩
    · rw [rxObj, own]; exact tget_cleared (fun x : RxObj => { x with lockTo := 0 }) objs n rfl
    · rw [txBuf, own]; exact tget_cleared (fun x : TxBuf => { x with sent := 0, cancels := 0 }) bufs n rfl
  case tim =>
    obtain ⟨lq, low, high⟩ := regs_timCleared (touch s c.session)
    refine clearsBy_of_takes (f := timCleared) take rfl rfl
      (onlyRegs_wr (onlyRegs_wrField (t := setTim (touch s c.session) _) (fun _ _ => rfl) List.mem_cons_self)
        (List.mem_cons_of_mem _ List.mem_cons_self)) ⟨?_, ?_, ?_, fun rising j => ?_, fun rising k => ?_⟩
    · rw [rd_cleared _ _ _ _ (by decide)]; exact lq
    · rw [rd_cleared _ _ _ _ (by decide)]; exact low
    · rw [rd_cleared _ _ _ _ (by decide)]; exact high
    · rw [ptpInst, cleared_tim]; exact tget_cleared (fun y : PtpInst => { y with losses := 0, annOut := 0 }) rising j rfl
    · rw [cleared_tim]; exact tget_cleared (fun y : CapUnit => { y with ovf := 0 }) rising k rfl
  case eth =>
    refine clearsBy_of_takes (f := ethCleared) take rfl rfl (fun _ _ => rfl) ⟨?_, ?_, fun p => ?_, fun p => ?_⟩
    · rw [cleared_stn]; rfl
    · rw [cleared_stn]; rfl
    · rw [ethPort, cleared_stn]; exact tget_cleared EthPort.countersCleared ports p rfl
    · have own : tget {} (cleared (ethCleared (touch s c.session)) Reg.ETH_CMD c.session).stn.pairs p =
          (tget {} s.stn.pairs p).countersCleared := by
        rw [cleared_stn]; exact tget_cleared EthPair.countersCleared pairs p rfl
      exact ⟨congrArg EthPair.discard own, congrArg EthPair.single own⟩
  case gse =>
    refine clearsBy_of_takes (f := gseCleared) take rfl rfl (fun _ _ => rfl) fun k => ?_
    rw [gseSub, cleared_stn]
    exact tget_map ..
  case acc =>
    exact clearsBy_of_takes (f := fun t => wr t Reg.ACC_VIOL_CNT 0) take rfl rfl (onlyRegs_wr (fun _ _ => rfl) List.mem_cons_self)
      (rd_cleared_zero (rd_wr_same ..) (by decide) _)
  case dpy =>
    refine clearsBy_of_takes (f := fun t => setDpy t fun d => { d with replaced := 0, updates := 0 }) take rfl rfl (fun _ _ => rfl) ?_
    rw [cleared_dpy]; rfl
  case dev =>
    exact clearsBy_of_takes (f := fun t => t) take rfl rfl (fun _ _ => rfl) (cleared_hlt ..)
  case mon =>
    have same : onlyRegs ((upto 12).map Reg.MON_TPEAKn ++ (upto 24).map Reg.MON_VEXTn) s (monCleared (touch s c.session)) :=
      onlyRegs_zeroRegs (onlyRegs_zeroRegs (fun _ _ => rfl) (List.subset_append_left ..)) (List.subset_append_right ..)
    have zero : ∀ a ∈ (upto 12).map Reg.MON_TPEAKn ++ (upto 24).map Reg.MON_VEXTn, a ≠ Reg.REC_EVT_STAT →
        rd (cleared (monCleared (touch s c.session)) Reg.MON_CMD c.session) a = 0 := fun a mem notRec =>
      rd_cleared_zero (rd_monCleared _ mem) notRec _
    have apart : ∀ a, blockOf a = 20 → a ≠ Reg.REC_EVT_STAT := fun a mon => ne_of_apply_ne blockOf (by rw [mon]; decide)
    refine clearsBy_of_takes (f := monCleared) take rfl ((rcd_zeroRegs ..).trans (rcd_zeroRegs ..)) same
      ⟨fun j low => ?_, fun j low => ?_, fun rising n => ?_, fun rising n => ?_⟩
    · exact zero _ (List.mem_append_left _ (List.mem_map_of_mem (List.mem_range.2 low))) (apart _ (Reg.MON_TPEAKn_block j))
    · exact zero _ (List.mem_append_right _ (List.mem_map_of_mem (List.mem_range.2 low))) (apart _ (Reg.MON_VEXTn_block j))
    · rw [tempOf, cleared_hlt, hlt_monCleared]; exact tget_cleared (fun x : TempState => { x with peak := none }) rising n rfl
    · rw [cleared_hlt, hlt_monCleared]; exact tget_cleared (fun x : VoltState => { x with ext := none }) rising n rfl

end Sys2Proof.Machine
end

section
/-! Flushes, clears and exports of the recorder (R473, R474, R476, R479, R480): O59, settled. -/

namespace Sys2Proof.Machine

open Sys2Proof

section Flushes

variable {s u v : State} {session q w n m : Nat} {req : List Byte} {a b : Word} {c : Cmd}

/-! ### What a record leaves of the recorder (R468–R475) -/

/-- A record changes the buffer and its counters, and nothing else of the recorder. -/
theorem rcd_record (s : State) (r : RecReq) : ∃ buf peak seqNext total lost frameLost,
    (record s r).rcd = { s.rcd with buf := buf, peak := peak, seqNext := seqNext, total := total, lost := lost, frameLost := frameLost } ∧
      buf.length ≤ s.rcd.buf.length + 1 := by
  have dropped : ∀ l, (dropNewestInfo l).length ≤ l.length := by
    intro l
    induction l with
    | nil => exact Nat.le_refl _
    | cons x l ih =>
      unfold dropNewestInfo
      split
      · exact Nat.le_succ _
      · exact Nat.succ_le_succ ih
  have added : ∀ (l : List Rec) x, l.length ≤ s.rcd.buf.length → (l ++ [x]).length ≤ s.rcd.buf.length + 1 := by
    intro l x short
    rw [List.length_append]
    exact Nat.succ_le_succ short
  unfold record enterRec
  split
  · split
    · exact ⟨_, _, _, _, _, _, rfl, added _ _ (Nat.le_refl _)⟩
    · exact ⟨s.rcd.buf, s.rcd.peak, s.rcd.seqNext, s.rcd.total, _, _, rfl, Nat.le_succ _⟩
  · split
    · exact ⟨_, _, _, _, s.rcd.lost, s.rcd.frameLost, rfl, added _ _ (Nat.le_refl _)⟩
    · exact ⟨_, _, _, _, _, _, rfl, added _ _ (dropped _)⟩

/-- A record of severity 2 enters a buffer with room, and receives the next SEQ. -/
theorem rcd_record_alarm {r : RecReq} (sev : r.sev = some 2) (room : s.rcd.buf.length < 16384) : (record s r).rcd = { s.rcd with
    buf := s.rcd.buf ++ [recOf s r], peak := max s.rcd.peak (s.rcd.buf ++ [recOf s r]).length
    seqNext := s.rcd.seqNext + 1, total := satAdd 0xFFFFFFFF s.rcd.total 1 } := by
  have alarm : ¬ (recOf s r).sev ≤ 1 := by
    rw [show (recOf s r).sev = 2 by rw [recOf, sev]]
    decide
  rw [record, enterRec, if_neg alarm, if_pos room]
  rfl

/-! ### Records, slots and headers (R473, R474) -/

theorem writeHeader_rest (r : Recorder) : ∃ hdrA hdrB, writeHeader r = { r with hdrA := hdrA, hdrB := hdrB } := by
  unfold writeHeader
  extract_lets h
  split
  · exact ⟨_, r.hdrB, rfl⟩
  · exact ⟨r.hdrA, _, rfl⟩

theorem foldl_writeRec_rest (l : List Rec) (r : Recorder) : ∃ slots newest, l.foldl writeRec r = { r with slots := slots, newest := newest } := by
  induction l generalizing r with
  | nil => exact ⟨r.slots, r.newest, rfl⟩
  | cons x l ih => exact ih (writeRec r x)

/-! ### States that differ in records alone -/

/-- State u comes from s by at most n records and by what the recorder does not hold. -/
structure Logged (n : Nat) (s u : State) : Prop where
  slots : u.rcd.slots = s.rcd.slots
  flushing : u.rcd.flushing = s.rcd.flushing
  flushes : u.rcd.flushes = s.rcd.flushes
  length : u.rcd.buf.length ≤ s.rcd.buf.length + n
  regs : onlyRegs [Reg.REC_EVT_STAT] s u

theorem Logged.refl (s : State) : Logged 0 s s := ⟨rfl, rfl, rfl, Nat.le_refl _, fun _ _ => rfl⟩

theorem Logged.trans (h : Logged n s u) (k : Logged m u v) : Logged (n + m) s v where
  slots := k.slots.trans h.slots
  flushing := k.flushing.trans h.flushing
  flushes := k.flushes.trans h.flushes
  length := k.length.trans (by have := h.length; omega)
  regs := onlyRegs_trans h.regs k.regs

theorem Logged.mono (h : Logged n s u) (le : n ≤ m) : Logged m s u := { h with length := h.length.trans (Nat.add_le_add_left le _) }

/-- An event of the recorder is one record. -/
theorem logged_raise (s : State) {r : RecReq} (blk : r.blk = 0x11) : Logged 1 s (raise s r) := by
  have regs : onlyRegs [Reg.REC_EVT_STAT] s (raise s r) :=
    onlyRegs_raise r 0 (fun _ _ => rfl) (by rw [blk]; exact List.mem_cons_self) List.mem_cons_self
  obtain ⟨buf, peak, seqNext, total, lost, frameLost, eq, short⟩ := rcd_record (setBit s (evtStat r.blk 0) r.ev) r
  have rcd : (raise s r).rcd = _ := eq
  exact ⟨by rw [rcd]; rfl, by rw [rcd]; rfl, by rw [rcd]; rfl, by rw [rcd]; exact short, regs⟩

/-! ### Flushes (R476) -/

theorem exec_flushPeriod_due (due : 96 ≤ s.grid.frame - s.rcd.lastFlushFrame) : exec .flushPeriod s = .next (startFlush s 1) := if_pos due

theorem exec_alarmFlush_alarm {x : Rec} (mem : x ∈ s.rcd.buf) (alarm : 2 ≤ x.sev) : exec .alarmFlush s = .next (startFlush s 2) :=
  if_pos (List.any_eq_true.2 ⟨x, mem, decide_eq_true alarm⟩)

theorem exec_recFlush_taken (take : takes s Reg.REC_CMD 0 c) :
    exec (.recFlush c) s = .next (startFlush (accepted (touch s c.session) Reg.REC_CMD c) 5) :=
  congrArg Host.Outcome.next (keyed_of_takes take _)

theorem rcd_startFlush (idle : s.rcd.flushing = false) (cause : Nat) :
    (startFlush s cause).rcd = { s.rcd with flushing := true, cause := cause, lastFlushFrame := s.grid.frame } := by
  rw [startFlush, if_neg (Bool.eq_false_iff.1 idle)]

/-- A command that is recorded leaves the slots and the flush. -/
theorem accepted_logs (s : State) (reg : Nat) (c : Cmd) : (accepted s reg c).rcd.slots = s.rcd.slots ∧
    (accepted s reg c).rcd.flushing = s.rcd.flushing := by
  obtain ⟨buf, peak, seqNext, total, lost, frameLost, eq, -⟩ := rcd_record s
    { blk := blockOf reg, ev := 0x44, p := [some (offsetOf reg), some c.value.toNat, some c.session] }
  exact ⟨(congrArg Recorder.slots eq :), (congrArg Recorder.flushing eq :)⟩

/-! ### The end of a flush (R473, R474, R476) -/

/-- The state in which a flush has written its records and the header. -/
def flushWritten (s : State) : State :=
  wr { s with rcd := { writeHeader (s.rcd.buf.foldl writeRec s.rcd) with
    buf := [], flushing := false, flushes := satAdd 0xFFFFFFFF s.rcd.flushes 1 } }
    Reg.REC_LAST_FLUSH (w32 (s.rcd.cause * 2 ^ 29 + min s.rcd.buf.length 16384))

/-- The state in which a full locket is shown. -/
def locketShown (s : State) : State := if fillsLocket s.rcd then raise (flushWritten s) { blk := 0x11, ev := 4 } else flushWritten s

/-- The state in which a flush of a power-fail warning is shown. -/
def failShown (s : State) : State :=
  if s.rcd.cause = 4 then raise (locketShown s) { blk := 0x11, ev := 2, info := [s.rcd.buf.length] } else locketShown s

/-- The state in which the flush of a removal lights REMOVE. -/
def removeLit (s : State) : State :=
  if s.slot.remFlush ∧ !s.slot.remLit then wantFinal { s with slot := { s.slot with remLit := true } } else s

/-- The state after a flush, with the clear that waited. -/
def flushEnded (s : State) : State :=
  match s.rcd.clearWaits with
  | some (session, serial) => doClear (removeLit (failShown s)) session serial
  | none => removeLit (failShown s)

theorem exec_flushDone_flushing (flushing : s.rcd.flushing = true) : exec .flushDone s = .next (flushEnded s) := by
  have run : ¬ (!s.rcd.flushing) = true := by rw [flushing]; exact Bool.false_ne_true
  refine (if_neg run).trans ?_
  unfold flushEnded
  cases waits : s.rcd.clearWaits with
  | none => rfl
  | some x => rfl

theorem flushWritten_shows (s : State) : (flushWritten s).rcd.slots = (s.rcd.buf.foldl writeRec s.rcd).slots ∧
    (flushWritten s).rcd.seqNext = s.rcd.seqNext := by
  obtain ⟨hdrA, hdrB, header⟩ := writeHeader_rest (s.rcd.buf.foldl writeRec s.rcd)
  obtain ⟨slots, newest, records⟩ := foldl_writeRec_rest s.rcd.buf s.rcd
  have seqNext : (s.rcd.buf.foldl writeRec s.rcd).seqNext = s.rcd.seqNext := by rw [records]
  exact ⟨(congrArg Recorder.slots header :), (congrArg Recorder.seqNext header :).trans seqNext⟩

theorem logged_removeLit (s : State) : Logged 0 s (removeLit s) := by
  unfold removeLit wantFinal
  split
  · split <;> exact ⟨rfl, rfl, rfl, Nat.le_refl _, fun _ _ => rfl⟩
  · exact Logged.refl s

/-- After the header at most two records come: the full locket's and the power-fail warning's. -/
theorem logged_flush (s : State) : Logged 2 (flushWritten s) (removeLit (failShown s)) := by
  have locket : Logged 1 (flushWritten s) (locketShown s) := by
    unfold locketShown
    split
    · exact logged_raise _ rfl
    · exact (Logged.refl _).mono (Nat.zero_le 1)
  have fail : Logged 2 (flushWritten s) (failShown s) := by
    unfold failShown
    split
    · exact locket.trans (logged_raise _ rfl)
    · exact locket.mono (Nat.le_succ 1)
  exact fail.trans (logged_removeLit _)

/-! ### Clears (R479, R481) -/

/-- The state in which a clear has begun. -/
def clearBegun (s : State) (session : Nat) : State :=
  { s with rcd := { s.rcd with total := 0, lost := 0, clearWaits := none, clrLast := session } }

/-- The clear record. -/
def clearRecord (s : State) (session serial : Nat) : RecReq :=
  { blk := 0x11, ev := 0x81, sev := some 2, p := [some session, some s.rcd.total, some s.rcd.lost, some serial] }

theorem rcd_doClear (room : s.rcd.buf.length < 16384) : ∃ buf peak hdrA hdrB, (doClear s q w).rcd = { s.rcd with
    buf := buf, peak := peak, seqNext := s.rcd.seqNext + 1, total := 1, lost := 0, clearWaits := none, clrLast := q
    c := s.rcd.seqNext, hdrA := hdrA, hdrB := hdrB } := by
  have entered := rcd_record_alarm (s := clearBegun s q) (r := clearRecord s q w) rfl room
  obtain ⟨hdrA, hdrB, header⟩ := writeHeader_rest { (record (clearBegun s q) (clearRecord s q w)).rcd with c := s.rcd.seqNext }
  have rcd : (doClear s q w).rcd = _ := header
  rw [entered] at rcd
  exact ⟨_, _, hdrA, hdrB, rcd⟩

theorem onlyRegs_doClear (s : State) (q w : Nat) : onlyRegs [Reg.REC_EVT_STAT] s (doClear s q w) :=
  onlyRegs_wr (onlyRegs_record (clearRecord s q w) (s := s) (t := clearBegun s q) (fun _ _ => rfl) List.mem_cons_self) List.mem_cons_self

theorem flag_doClear (s : State) (q w : Nat) : flag (rd (doClear s q w) Reg.REC_EVT_STAT) 1 = true := flag_setBit _ _ (by decide)

/-- The buffer has room for the clear record. -/
theorem room_flush (s : State) : (removeLit (failShown s)).rcd.buf.length < 16384 :=
  Nat.lt_of_le_of_lt (logged_flush s).length (show 0 + 2 < 16384 by decide)

/-- What a flush leaves, with and without a clear that waited. -/
theorem flushEnded_shows (s : State) : (flushEnded s).rcd.flushing = false ∧
    (flushEnded s).rcd.slots = (s.rcd.buf.foldl writeRec s.rcd).slots ∧
    (flushEnded s).rcd.flushes = satAdd 0xFFFFFFFF s.rcd.flushes 1 ∧
    rd (flushEnded s) Reg.REC_LAST_FLUSH = w32 (s.rcd.cause * 2 ^ 29 + min s.rcd.buf.length 16384) := by
  have logged := logged_flush s
  have slots := logged.slots.trans (flushWritten_shows s).1
  have flushing : (removeLit (failShown s)).rcd.flushing = false := logged.flushing
  have flushes : (removeLit (failShown s)).rcd.flushes = satAdd 0xFFFFFFFF s.rcd.flushes 1 := logged.flushes
  have last : rd (removeLit (failShown s)) Reg.REC_LAST_FLUSH = w32 (s.rcd.cause * 2 ^ 29 + min s.rcd.buf.length 16384) :=
    (logged.regs _ (by decide)).trans (rd_wr_same ..)
  unfold flushEnded
  split
  next session serial waits =>
    obtain ⟨buf, peak, hdrA, hdrB, rcd⟩ := rcd_doClear (q := session) (w := serial) (room_flush s)
    rw [rcd]
    exact ⟨flushing, slots, flushes, (onlyRegs_doClear _ session serial _ (by decide)).trans last⟩
  next => exact ⟨flushing, slots, flushes, last⟩

/-- A plain flush empties the buffer and draws no SEQ. -/
theorem flushEnded_plain (fail : s.rcd.cause ≠ 4) (locket : fillsLocket s.rcd = false) (none_ : s.rcd.clearWaits = none) :
    (flushEnded s).rcd.buf = [] ∧ (flushEnded s).rcd.seqNext = s.rcd.seqNext := by
  have quiet : failShown s = flushWritten s := (if_neg fail).trans (if_neg (Bool.eq_false_iff.1 locket))
  have rcd : (removeLit (flushWritten s)).rcd = (flushWritten s).rcd := by
    unfold removeLit
    split
    · exact (wantFinal_keeps ..).same .rcd rfl
    · rfl
  have ended : flushEnded s = removeLit (flushWritten s) := by
    unfold flushEnded
    rw [none_, quiet]
  rw [ended, rcd]
  exact ⟨rfl, (flushWritten_shows s).2⟩

theorem flushEnded_clears (waits : s.rcd.clearWaits = some (q, w)) : (flushEnded s).rcd.clearWaits = none ∧ (flushEnded s).rcd.clrLast = q ∧
    (flushEnded s).rcd.seqNext = (flushEnded s).rcd.c + 1 ∧ (flushEnded s).rcd.total = 1 ∧ (flushEnded s).rcd.lost = 0 ∧
    flag (rd (flushEnded s) Reg.REC_EVT_STAT) 1 = true := by
  have ended : flushEnded s = doClear (removeLit (failShown s)) q w := by
    unfold flushEnded
    rw [waits]
  obtain ⟨buf, peak, hdrA, hdrB, rcd⟩ := rcd_doClear (q := q) (w := w) (room_flush s)
  rw [ended, rcd]
  exact ⟨rfl, rfl, rfl, rfl, rfl, flag_doClear ..⟩

/-! ### Signed requests and exports (R479, R480) -/

/-- The state in which a session has a fresh nonce. -/
def nonceGiven (s : State) (session : Nat) : State :=
  answer (wr { s with
    freeN := s.freeN + 1
    rcd := { s.rcd with nonce := if hasSession s session then some (Config.freeWord s.freeN, session, s.grid.mono) else none } }
    Reg.REC_CLR_NONCE (Config.freeWord s.freeN)) (.value (Config.freeWord s.freeN).toNat)

theorem exec_recClrNonce (s : State) (session : Nat) : exec (.recClrNonce session) s = .next (nonceGiven (touch s session) session) := rfl

/-- A session whose idle time starts anew. -/
def idleFrom (s : State) (k : Nat) (x : Session) : Session := if x.id = k then { x with idleAt := s.grid.mono } else x

theorem idleFrom_rest (s : State) (k : Nat) (x : Session) : (idleFrom s k x).id = x.id ∧ (idleFrom s k x).serial = x.serial := by
  unfold idleFrom
  split <;> exact ⟨rfl, rfl⟩

theorem certSerial_touch (s : State) (k session : Nat) : certSerial (touch s k) session = certSerial s session := by
  have sess : (touch s k).sess.filterMap (·.2) = (s.sess.filterMap (·.2)).map (idleFrom s k) := by
    rw [List.map_filterMap]
    exact List.filterMap_map ..
  have same : ((fun x : Session => decide (x.id = session)) ∘ idleFrom s k) = fun x => decide (x.id = session) :=
    funext fun x => by rw [Function.comp, (idleFrom_rest s k x).1]
  rw [certSerial, sess, List.find?_map, same, certSerial]
  cases (s.sess.filterMap (·.2)).find? fun x => decide (x.id = session) with
  | none => rfl
  | some x => exact (idleFrom_rest s k x).2

theorem clearRequestOk_touch (s : State) (k session : Nat) (req : List Byte) :
    clearRequestOk (touch s k) session req = clearRequestOk s session req := by
  unfold clearRequestOk
  rw [hasRole_touch, certSerial_touch]
  rfl

/-- The state in which the nonce of a clear request is spent. -/
def nonceSpent (s : State) : State := { s with rcd := { s.rcd with nonce := none } }

/-- The state after a good clear request: a flush comes first. -/
def clearAsked (s : State) (session serial : Nat) : State :=
  { startFlush (nonceSpent s) 6 with rcd := { (startFlush (nonceSpent s) 6).rcd with clearWaits := some (session, serial) } }

/-- The state after a clear request that fails. -/
def clearRefused (s : State) (session : Nat) : State :=
  answer (record (nonceSpent s) { blk := 0x11, ev := 0x40, p := [none, some session, some (offsetOf Reg.REC_CLR_NONCE)] }) (.refused 0)

theorem exec_recorderClear (s : State) (session : Nat) (req : List Byte) : exec (.recorderClear session req) s =
    .next (if clearRequestOk s session req then clearAsked (touch s session) session (certSerial s session % 2 ^ 32)
      else clearRefused (touch s session) session) := by
  rw [← clearRequestOk_touch s session, ← certSerial_touch s session]
  exact (apply_ite Host.Outcome.next ..).symm

theorem clearAsked_shows (s : State) (session serial : Nat) : (clearAsked s session serial).rcd.nonce = none ∧
    (clearAsked s session serial).rcd.slots = s.rcd.slots ∧ (clearAsked s session serial).rcd.flushing = true ∧
    (clearAsked s session serial).rcd.clearWaits = some (session, serial) := by
  have flushing := flushing_startFlush (nonceSpent s) 6
  have rest : (startFlush (nonceSpent s) 6).rcd.nonce = none ∧ (startFlush (nonceSpent s) 6).rcd.slots = s.rcd.slots := by
    unfold startFlush
    split <;> exact ⟨rfl, rfl⟩
  exact ⟨rest.1, rest.2, flushing, rfl⟩

theorem clearRefused_shows (s : State) (session : Nat) : (clearRefused s session).rcd.nonce = none ∧
    (clearRefused s session).rcd.slots = s.rcd.slots ∧ (clearRefused s session).rcd.clearWaits = s.rcd.clearWaits ∧
    (clearRefused s session).rcd.flushing = s.rcd.flushing := by
  obtain ⟨buf, peak, seqNext, total, lost, frameLost, eq, -⟩ := rcd_record (nonceSpent s)
    { blk := 0x11, ev := 0x40, p := [none, some session, some (offsetOf Reg.REC_CLR_NONCE)] }
  have rcd : (clearRefused s session).rcd = _ := eq
  rw [rcd]
  exact ⟨rfl, rfl, rfl, rfl⟩

theorem exec_recorderExport (s : State) (session : Nat) (a b : Word) : exec (.recorderExport session a b) s = .next (answer (touch s session)
    (if hasSession s session then .values ((exportFile s a b).map (·.toNat)) else .refused 0)) := by
  have file : exportFile (touch s session) a b = exportFile s a b := rfl
  show execRecorderExport session a b s = _
  rw [execRecorderExport, hasSession_touch, file]
  exact (apply_ite (fun r => Host.Outcome.next (answer (touch s session) r)) ..).symm

end Flushes

/-- Settles O59: every flush begins by startFlush and ends as flushEnded, and a clear request is decided by clearRequestOk. -/
theorem recorderFlushes : Obligations.RecorderFlushes := by
  intro s session q w req a b c begins
  refine ⟨fun idle => ⟨fun due => ?period, fun x mem alarm => ?alarm, fun take => ?command⟩,
    fun flushing => ⟨?done_, fun waits => ?clear⟩, ?nonce, ?request, ?exports⟩
  case period => exact ⟨_, exec_flushPeriod_due due, rcd_startFlush idle 1, Keeps.onlyParts (startFlush_keeps ..)⟩
  case alarm => exact ⟨_, exec_alarmFlush_alarm mem alarm, rcd_startFlush idle 2, Keeps.onlyParts (startFlush_keeps ..)⟩
  case command =>
    obtain ⟨slots, flushing⟩ := accepted_logs (touch s c.session) Reg.REC_CMD c
    have rcd := rcd_startFlush (s := accepted (touch s c.session) Reg.REC_CMD c) (flushing.trans idle) 5
    have grid : (accepted (touch s c.session) Reg.REC_CMD c).grid = s.grid := accepted_grid ..
    exact ⟨_, exec_recFlush_taken take, (congrArg Recorder.flushing rcd :), (congrArg Recorder.cause rcd :),
      (congrArg Recorder.lastFlushFrame rcd :).trans (congrArg Grid.frame grid), (congrArg Recorder.slots rcd :).trans slots⟩
  case done_ =>
    obtain ⟨ended, slots, flushes, last⟩ := flushEnded_shows s
    exact ⟨_, exec_flushDone_flushing flushing, ended, slots, flushes, last, flushEnded_plain⟩
  case clear => exact ⟨_, exec_flushDone_flushing flushing, flushEnded_clears waits⟩
  case nonce =>
    have fresh : rd (nonceGiven (touch s session) session) Reg.REC_CLR_NONCE = Config.freeWord s.freeN := rd_wr_same ..
    refine ⟨_, exec_recClrNonce .., ?_, ?_, fun x out => rd_wr_other _ _ _ _ (mt List.mem_singleton.2 out)⟩
    · rw [fresh, ← hasSession_touch s session]; rfl
    · rw [fresh]; rfl
  case request =>
    refine ⟨_, exec_recorderClear .., ?_⟩
    cases ok : clearRequestOk s session req with
    | true =>
      obtain ⟨nonce, slots, flushing, waits⟩ := clearAsked_shows (touch s session) session (certSerial s session % 2 ^ 32)
      exact ⟨nonce, slots, fun _ => ⟨flushing, waits⟩, fun no => Bool.noConfusion no⟩
    | false =>
      obtain ⟨nonce, slots, waits, flushing⟩ := clearRefused_shows (touch s session) session
      exact ⟨nonce, slots, fun no => Bool.noConfusion no, fun _ => ⟨rfl, waits, flushing⟩⟩
  case exports =>
    exact ⟨_, exec_recorderExport .., Keeps.onlyParts (Keeps.step (answer_keeps ..) rfl (Keeps.mono (touch_keeps s session) rfl)), rfl⟩

end Sys2Proof.Machine
end

section
/-! Display requests and phase frames (R485, R488–R494, R498, R500): O60, settled. -/

namespace Sys2Proof.Machine

open Sys2Proof

section Lists

variable {α β : Type} {f : β → α → β} {v : β} {g : α} {l : List α}

theorem foldl_eq_of_fixed (fixed : ∀ j ∈ l, f v j = v) : l.foldl f v = v := by
  induction l with
  | nil => rfl
  | cons j l ih => rw [List.foldl_cons, fixed j List.mem_cons_self, ih fun i mem => fixed i (List.mem_cons_of_mem _ mem)]

/-- A pass in which one element alone does something. -/
theorem foldl_eq_of_single (nodup : l.Nodup) (mem : g ∈ l) (before : ∀ j, j ≠ g → f v j = v) (after : ∀ j, j ≠ g → f (f v g) j = f v g) :
    l.foldl f v = f v g := by
  induction l with
  | nil => exact absurd mem List.not_mem_nil
  | cons j l ih =>
    obtain ⟨new, nodup⟩ := List.nodup_cons.1 nodup
    rw [List.foldl_cons]
    obtain rfl | tail := List.mem_cons.1 mem
    · exact foldl_eq_of_fixed fun i inside => after i fun same => new (same ▸ inside)
    · rw [before j fun same => new (same ▸ tail)]
      exact ih nodup tail

end Lists

section Display

variable {s u v : State} {c : Cmd} {buf : List Byte} {t r g n : Nat} {temp : Int} {rows : List (Nat × List Nat)} {l : List Nat}

theorem dpyReg_setReg (s : State) (n : Nat) (x : DpyRegion) (j : Nat) : dpyReg (setReg s n x) j = if j = n then x else dpyReg s j := tget_tset ..

theorem dpyRow_setRow (s : State) (n : Nat) (x : DpyRow) (j : Nat) : dpyRow (setRow s n x) j = if j = n then x else dpyRow s j := tget_tset ..


/-! ### Requests (R490, R491, R500) -/

/-- The request for the rows of a region. -/
def askedRows (s : State) (n : Nat) (buf : List Byte) : List (Nat × List Nat) := (regionRows s n).map fun r => (r, bufferRow buf r)

theorem exec_dpyReq_taken (pass : passes s Reg.DPY_REQ c) (may : c.value.toNat % 8 ≠ 0 ∨ masterCode c.master = 0)
    (some_ : regionRows s (c.value.toNat % 8) ≠ []) : exec (.dpyReq c buf) s =
      .next (takeRequest (touch s c.session) (c.value.toNat % 8) (askedRows s (c.value.toNat % 8) buf)) := by
  have run : ¬ ((c.value.toNat % 8 = 0 ∧ masterCode c.master ≠ 0) ∨ regionRows (touch s c.session) (c.value.toNat % 8) = []) := by
    rintro (⟨zero, code⟩ | none_)
    · exact may.elim (· zero) code
    · exact some_ none_
  exact congrArg Host.Outcome.next ((written_of_passes pass _).trans (if_neg run))

/-- The state after a refused request. -/
def requestRefused (s : State) (c : Cmd) : State :=
  answer (raise s { blk := 0x10, ev := 4, info := [c.value.toNat % 8, c.master] }) (.refused 0)

theorem requestRefused_shows (s : State) (c : Cmd) : (requestRefused s c).dpy = s.dpy ∧ (requestRefused s c).resp = .refused 0 ∧
    flag (rd (requestRefused s c) Reg.DPY_EVT_STAT) 4 = true := by
  unfold requestRefused
  exact ⟨raise_dpy s _ 0, rfl, flag_raise_of rfl rfl (by decide) (by decide)⟩

theorem exec_dpyReq_refused (pass : passes s Reg.DPY_REQ c)
    (no : c.value.toNat % 8 = 0 ∧ masterCode c.master ≠ 0 ∨ regionRows s (c.value.toNat % 8) = []) :
    exec (.dpyReq c buf) s = .next (requestRefused (touch s c.session) c) :=
  congrArg Host.Outcome.next ((written_of_passes pass _).trans (if_pos no))

/-- What a request leaves: the region's update, and the count of replaced ones. -/
theorem takeRequest_shows (s : State) (n : Nat) (rows : List (Nat × List Nat)) :
    (∀ j, j ≠ n → dpyReg (takeRequest s n rows) j = dpyReg s j) ∧
    dpyReg (takeRequest s n rows) n = (if (dpyReg s n).cur.isNone then { dpyReg s n with cur := some rows, started := false }
      else { dpyReg s n with pend := some rows }) ∧
    (takeRequest s n rows).dpy.replaced = (if (dpyReg s n).cur.isSome && (dpyReg s n).pend.isSome then satAdd 0xFFFF s.dpy.replaced 1
      else s.dpy.replaced) := by
  unfold takeRequest
  extract_lets x s1
  have counted : ∀ j, dpyReg s1 j = dpyReg s j := by
    intro j
    simp only [s1]
    split <;> rfl
  have replaced : s1.dpy.replaced = if x.pend.isSome then satAdd 0xFFFF s.dpy.replaced 1 else s.dpy.replaced := by
    simp only [s1]
    split <;> rfl
  clear_value s1
  cases cur : x.cur with
  | none =>
    refine ⟨fun j apart => ?_, ?_, ?_⟩
    · rw [dpyReg_setReg, if_neg apart]
    · rw [dpyReg_setReg, if_pos rfl]; rfl
    · rfl
  | some old =>
    refine ⟨fun j apart => ?_, ?_, ?_⟩
    · rw [dpyReg_setReg, if_neg apart, counted]
    · rw [dpyReg_setReg, if_pos rfl]; rfl
    · exact replaced

theorem exec_dpyRedraw_taken (take : takes s Reg.DPY_CMD 1 c) : exec (.dpyRedraw c) s =
    .next (setDpy (accepted (touch s c.session) Reg.DPY_CMD c) fun d => { d with clear := allRows }) :=
  congrArg Host.Outcome.next (keyed_of_takes take _)

/-! ### The end of a phase (R485, R492, R494) -/

/-- State u differs from s in the journals of the rows at most. -/
def OnlyRows (s u : State) : Prop := u = { s with dpy := { s.dpy with rows := u.dpy.rows } }

theorem OnlyRows.refl (s : State) : OnlyRows s s := rfl

theorem OnlyRows.setRow (only : OnlyRows s u) (r : Nat) (x : DpyRow) : OnlyRows s (setRow u r x) := by
  rw [only]; rfl

/-- A row after a phase frame. -/
def phaseEnded (s : State) (r : Nat) (x : DpyRow) : DpyRow :=
  if x.st = 0 ∨ s.dpy.wait.contains r then x
  else if x.done + 1 < x.n then { x with done := x.done + 1 }
  else if x.st = 2 then enterRow (dpyTable s) { x with done := x.done + 1, debts := [] } 3 (dpyBand s)
  else settleRow { x with done := x.done + 1 }

theorem phaseEnded_congr (only : OnlyRows s u) (r : Nat) (x : DpyRow) : phaseEnded u r x = phaseEnded s r x := by
  rw [only]; rfl

theorem dpyRow_endPhase (s : State) (r j : Nat) : OnlyRows s (endPhase s r) ∧
    dpyRow (endPhase s r) j = if j = r then phaseEnded s r (dpyRow s r) else dpyRow s j := by
  unfold endPhase phaseEnded
  extract_lets x y
  split
  · refine ⟨OnlyRows.refl s, ?_⟩
    split
    next same => rw [same]
    · rfl
  · split
    · exact ⟨(OnlyRows.refl s).setRow .., dpyRow_setRow ..⟩
    · split
      · exact ⟨(OnlyRows.refl s).setRow .., dpyRow_setRow ..⟩
      · exact ⟨(OnlyRows.refl s).setRow .., dpyRow_setRow ..⟩

theorem OnlyRows.trans (h : OnlyRows s u) (k : OnlyRows u v) : OnlyRows s v := by
  unfold OnlyRows at *
  rw [k, h]

/-- Every row of a list without repetition ends its phase by itself. -/
theorem dpyRow_foldl_endPhase (l : List Nat) (nodup : l.Nodup) (only : OnlyRows s u) : OnlyRows s (l.foldl endPhase u) ∧
    ∀ j, dpyRow (l.foldl endPhase u) j = if j ∈ l then phaseEnded s j (dpyRow u j) else dpyRow u j := by
  induction l generalizing u with
  | nil => exact ⟨only, fun j => (if_neg List.not_mem_nil).symm⟩
  | cons r l ih =>
    obtain ⟨new, nodup⟩ := List.nodup_cons.1 nodup
    obtain ⟨rest, left⟩ := ih nodup (only.trans (dpyRow_endPhase u r 0).1)
    refine ⟨rest, fun j => ?_⟩
    rw [List.foldl_cons, left, (dpyRow_endPhase u r j).2, phaseEnded_congr only]
    by_cases own : j = r
    · subst own
      rw [if_neg new, if_pos rfl, if_pos List.mem_cons_self]
    · rw [if_neg own]
      exact if_congr (by simp [own]) rfl rfl

/-! ### What leaves the journals (R491, R494, R498) -/

/-- State u has the rows of s, and drives the display as s does. -/
structure SameRows (s u : State) : Prop where
  rows : u.dpy.rows = s.dpy.rows
  temp : u.dpy.temp = s.dpy.temp
  stopped : u.dpy.stopped = s.dpy.stopped
  stopping : u.dpy.stopping = s.dpy.stopping

theorem SameRows.trans (h : SameRows s u) (k : SameRows u v) : SameRows s v :=
  ⟨k.rows.trans h.rows, k.temp.trans h.temp, k.stopped.trans h.stopped, k.stopping.trans h.stopping⟩

theorem SameRows.of_dpy (same : u.dpy = s.dpy) : SameRows s u := by
  constructor <;> rw [same]

theorem SameRows.raised (h : SameRows s u) (q : RecReq) : SameRows s (raise u q) := h.trans (.of_dpy (raise_dpy ..))

theorem sameRows_endRegion (s : State) (g : Nat) : SameRows s (endRegion s g) := by
  unfold endRegion
  extract_lets x
  split
  · refine SameRows.raised ?_ _
    exact ⟨rfl, rfl, rfl, rfl⟩
  · exact .of_dpy rfl

theorem sameRows_endRecovery (s : State) : SameRows s (endRecovery s) := by
  unfold endRecovery
  extract_lets left
  split
  · refine SameRows.raised ?_ _
    exact ⟨rfl, rfl, rfl, rfl⟩
  · exact ⟨rfl, rfl, rfl, rfl⟩

theorem sameRows_endFinal (s : State) : SameRows s (endFinal s) := by
  unfold endFinal
  split
  · refine SameRows.raised ?_ _
    exact ⟨rfl, rfl, rfl, rfl⟩
  · exact .of_dpy rfl

theorem sameRows_foldl_endRegion (l : List Nat) (s : State) : SameRows s (l.foldl endRegion s) := by
  induction l generalizing s with
  | nil => exact .of_dpy rfl
  | cons g l ih => exact (sameRows_endRegion s g).trans (ih _)

theorem sameRows_adoptRegions (s : State) : SameRows s (adoptRegions s) := by
  unfold adoptRegions
  extract_lets new moved
  split
  · exact .of_dpy rfl
  · exact ⟨rfl, rfl, rfl, rfl⟩

theorem sameRows_takeRequest (s : State) (n : Nat) (rows : List (Nat × List Nat)) : SameRows s (takeRequest s n rows) := by
  unfold takeRequest
  extract_lets x s1
  split
  · exact ⟨rfl, rfl, rfl, rfl⟩
  · simp only [s1]
    split <;> exact ⟨rfl, rfl, rfl, rfl⟩

theorem sameRows_refreshBand (s : State) : SameRows s (refreshBand s) := by
  unfold refreshBand
  extract_lets f
  split
  · exact .of_dpy rfl
  · refine SameRows.trans (u := setDpy s fun d => { d with shown := f }) ?_ (sameRows_takeRequest ..)
    exact ⟨rfl, rfl, rfl, rfl⟩

/-! ### Phase frames -/

/-- The state in which the panel's temperature is taken. -/
def panelRead (s : State) (t : Nat) (temp : Int) : State := setDpy (atTime s t) fun d => { d with temp := temp }

/-- The state in which a phase frame has ended. It is opened by name only: a check by evaluation would run the 120 rows. -/
@[irreducible] def frameEnded (v : State) : State := endFinal ((upto 8).foldl endRegion (endRecovery (if v.dpy.nodrive then v else allRows.foldl endPhase v)))

/-- The state in which the next phase frame starts. -/
def nextStarts (v : State) : State := dpyStarts (refreshBand (adoptRegions v))

theorem exec_phaseFrame_off (off : stage s = 0 ∨ s.dpy.stopped = true) : exec (.phaseFrame temp t) s = .next (panelRead s t temp) := if_pos off

/-- The display is driven. -/
def Driven (s : State) : Prop := stage s ≠ 0 ∧ s.dpy.stopped = false ∧ s.dpy.nodrive = false

/-- What a phase frame of a driven display makes of the state in which it ends. -/
def phaseFramed (v : State) : State :=
  if (frameEnded v).dpy.stopping then setDpy (frameEnded v) fun d => { d with stopped := true }
  else setDpy (nextStarts (frameEnded v)) fun d => { d with flip := allRows.any (rowRuns v) && !d.flip }

theorem phaseFramed_stops (stops : (frameEnded v).dpy.stopping = true) :
    phaseFramed v = setDpy (frameEnded v) fun d => { d with stopped := true } := by
  unfold phaseFramed
  rw [if_pos stops]

theorem phaseFramed_goes (goes : (frameEnded v).dpy.stopping = false) :
    phaseFramed v = setDpy (nextStarts (frameEnded v)) fun d => { d with flip := allRows.any (rowRuns v) && !d.flip } := by
  unfold phaseFramed
  rw [if_neg (Bool.eq_false_iff.1 goes)]

theorem exec_phaseFrame_live (live : Driven s) : exec (.phaseFrame temp t) s = .next (phaseFramed (panelRead s t temp)) := by
  have run : ¬ (stage (panelRead s t temp) = 0 ∨ (panelRead s t temp).dpy.stopped = true) :=
    fun no => no.elim live.1 (Bool.eq_false_iff.1 live.2.1)
  show execPhaseFrame temp t s = _
  unfold execPhaseFrame
  extract_lets v ran s1 s2 s3
  have ended : s2 = frameEnded v := by unfold frameEnded; rfl
  have off : ¬ (stage v = 0 ∨ v.dpy.stopped = true) := run
  show _ = Host.Outcome.next (phaseFramed v)
  rw [if_neg off]
  unfold phaseFramed
  rw [← ended]
  clear_value s2
  exact (apply_ite Host.Outcome.next ..).symm

theorem frameEnded_rows (drive : v.dpy.nodrive = false) : SameRows (allRows.foldl endPhase v) (frameEnded v) := by
  unfold frameEnded
  rw [if_neg (Bool.eq_false_iff.1 drive)]
  exact ((sameRows_endRecovery _).trans (sameRows_foldl_endRegion ..)).trans (sameRows_endFinal _)

/-- What starts nothing, because the panel is too cold. -/
theorem sameRows_nextStarts_cold (cold : s.dpy.temp < -200) : SameRows s (nextStarts s) := by
  have same : SameRows s (refreshBand (adoptRegions s)) := (sameRows_adoptRegions s).trans (sameRows_refreshBand _)
  unfold nextStarts
  generalize refreshBand (adoptRegions s) = u at same
  have quiet : (u.dpy.nodrive || dpyCold u) = true := by
    rw [dpyCold, same.temp, decide_eq_true cold, Bool.or_true]
  rw [dpyStarts, if_pos quiet]
  exact same

/-- A display that stops, or is too cold, starts nothing. -/
theorem phaseFramed_quiet (drive : v.dpy.nodrive = false) (going : v.dpy.stopped = false) (quiet : v.dpy.stopping = true ∨ v.dpy.temp < -200) :
    (phaseFramed v).dpy.stopped = v.dpy.stopping ∧ (phaseFramed v).dpy.rows = (allRows.foldl endPhase v).dpy.rows := by
  obtain ⟨only, -⟩ := dpyRow_foldl_endPhase allRows List.nodup_range (OnlyRows.refl v)
  have ended := frameEnded_rows drive
  generalize allRows.foldl endPhase v = w at only ended ⊢
  have stopping : w.dpy.stopping = v.dpy.stopping := by rw [only]
  cases stops : v.dpy.stopping with
  | true =>
    rw [phaseFramed_stops (by rw [ended.stopping, stopping, stops])]
    exact ⟨rfl, ended.rows⟩
  | false =>
    rw [phaseFramed_goes (by rw [ended.stopping, stopping, stops])]
    have cold : (frameEnded v).dpy.temp < -200 := by
      rw [ended.temp, only]
      exact quiet.resolve_left (by rw [stops]; exact Bool.false_ne_true)
    have same := ended.trans (sameRows_nextStarts_cold cold)
    have stopped : w.dpy.stopped = false := by rw [only]; exact going
    exact ⟨same.stopped.trans stopped, same.rows⟩

/-- What a phase frame makes of a row that does not wait. -/
theorem phaseEnded_cases (free : s.dpy.wait.contains r = false) (y : DpyRow) :
    (y.st = 0 → phaseEnded s r y = y) ∧ (y.st ≠ 0 → y.done + 1 < y.n → phaseEnded s r y = { y with done := y.done + 1 }) ∧
    (y.st = 1 ∨ y.st = 3 → y.n ≤ y.done + 1 → (phaseEnded s r y).st = 0 ∧ (phaseEnded s r y).prev = y.target ∧ (phaseEnded s r y).debts = []) ∧
    (y.st = 2 → y.n ≤ y.done + 1 → (phaseEnded s r y).st = 3 ∧ (phaseEnded s r y).target = y.target ∧ (phaseEnded s r y).debts = []) := by
  have runs : y.st ≠ 0 → ¬ (y.st = 0 ∨ s.dpy.wait.contains r = true) := fun st no => no.elim st (Bool.eq_false_iff.1 free)
  unfold phaseEnded
  refine ⟨fun idle => if_pos (.inl idle), fun st more => ?_, fun st last => ?_, fun st last => ?_⟩
  · rw [if_neg (runs st), if_pos more]
  · rw [if_neg (runs (by omega)), if_neg (Nat.not_lt.2 last), if_neg (by omega)]
    exact ⟨rfl, rfl, rfl⟩
  · rw [if_neg (runs (by omega)), if_neg (Nat.not_lt.2 last), if_pos st]
    exact ⟨rfl, rfl, rfl⟩

/-! ### A phase frame of an idle display (R485, R491) -/

/-- Nothing is under way on the display, and region g alone waits, with these rows. -/
structure IdleDisplay (v : State) (g : Nat) (rows : List (Nat × List Nat)) : Prop where
  driven : Driven v
  goes : v.dpy.stopping = false
  warm : -200 ≤ v.dpy.temp
  still : rowsIdle v allRows = true
  own : rowsIdle v (regionRows v g) = true
  wait : v.dpy.wait = []
  clear : v.dpy.clear = []
  recov : v.dpy.recov = []
  final : v.dpy.final = 0
  regions : v.cfg.dpy.regions = v.dpy.regions
  band : statusBand v = v.dpy.shown
  others : ∀ j, j ≠ g → (dpyReg v j).cur = none
  asked : (dpyReg v g).cur = some rows
  fresh : (dpyReg v g).started = false

theorem endPhase_idle (idle : (dpyRow v r).st = 0) : endPhase v r = v := if_pos (.inl idle)

theorem st_of_rowsIdle (idle : rowsIdle v l = true) (mem : r ∈ l) : (dpyRow v r).st = 0 :=
  by
  obtain ⟨st, -⟩ := Bool.and_eq_true_iff.1 (List.all_eq_true.1 idle r mem)
  exact of_decide_eq_true st

theorem not_rowRuns_of_rowsIdle (idle : rowsIdle v l = true) : l.any (rowRuns v) = false :=
  List.any_eq_false.2 fun r mem => by simp [rowRuns, st_of_rowsIdle idle mem]

theorem endRecovery_none (none_ : v.dpy.recov = []) : endRecovery v = v := by
  unfold endRecovery
  rw [none_, if_neg fun h => h.1 rfl, List.filter_nil, ← none_]
  rfl

theorem endRegion_unstarted (un : (dpyReg v g).cur = none ∨ (dpyReg v g).started = false) : endRegion v g = v := by
  unfold endRegion
  refine if_neg fun all => ?_
  obtain ⟨⟨cur, started⟩, -⟩ : ((dpyReg v g).cur.isSome = true ∧ (dpyReg v g).started = true) ∧ _ := by simpa using all
  obtain none_ | no := un
  · rw [none_] at cur; cases cur
  · rw [no] at started; cases started

theorem endFinal_none (none_ : v.dpy.final = 0) : endFinal v = v := if_neg fun h => absurd (none_.symm.trans h.1) (by decide)

theorem startRecovery_none (none_ : v.dpy.wait = []) : startRecovery v = v := by
  unfold startRecovery
  rw [none_, List.foldl_nil, ← none_]
  rfl

theorem startClears_none (none_ : v.dpy.clear = []) : startClears v = v := by
  unfold startClears
  rw [none_]
  rfl

theorem startFinal_none (none_ : v.dpy.final = 0) : startFinal v = v := if_neg fun h => absurd (none_.symm.trans h.1) (by decide)

theorem startRegion_none (none_ : (dpyReg v g).cur = none) : startRegion v g = v := by
  simp only [startRegion, none_]

/-- One row of an update: it runs unless it shows its target already. -/
def startAsked (u : State) (a : Nat × List Nat) : State :=
  if (dpyRow u a.1).valid && decide (row320 (dpyRow u a.1).prev = row320 a.2) then u else startRow u a.1 false a.2

theorem startRegion_asked (asked : (dpyReg v g).cur = some rows) (fresh : (dpyReg v g).started = false)
    (own : rowsIdle v (regionRows v g) = true) : startRegion v g = setReg (rows.foldl startAsked v) g { dpyReg v g with started := true } := by
  have idle : ¬ ((dpyReg v g).started || !rowsIdle v (regionRows v g)) = true := by simp [fresh, own]
  simp only [startRegion, asked]
  exact if_neg idle

theorem onlyRows_startAsked (u : State) (a : Nat × List Nat) : OnlyRows u (startAsked u a) := by
  unfold startAsked
  split
  · exact .refl u
  · exact (OnlyRows.refl u).setRow ..

theorem onlyRows_foldl_startAsked (rows : List (Nat × List Nat)) (u : State) : OnlyRows u (rows.foldl startAsked u) := by
  induction rows generalizing u with
  | nil => exact .refl u
  | cons a rows ih => exact (onlyRows_startAsked u a).trans (ih _)

namespace IdleDisplay

variable (idle : IdleDisplay v g rows)

include idle

theorem frameEnded_eq : frameEnded v = v := by
  have phases : allRows.foldl endPhase v = v := foldl_eq_of_fixed fun j mem => endPhase_idle (st_of_rowsIdle idle.still mem)
  have regions : (upto 8).foldl endRegion v = v := foldl_eq_of_fixed fun j _ => endRegion_unstarted <| by
    by_cases same : j = g
    · exact .inr (same ▸ idle.fresh)
    · exact .inl (idle.others j same)
  unfold frameEnded
  rw [if_neg (Bool.eq_false_iff.1 idle.driven.2.2), phases, endRecovery_none idle.recov, regions, endFinal_none idle.final]

theorem startRegions_eq (few : g < 8) : (upto 8).foldl startRegion v = startRegion v g := by
  refine foldl_eq_of_single List.nodup_range (List.mem_range.2 few) (fun j apart => startRegion_none (idle.others j apart)) fun j apart => ?_
  refine startRegion_none ?_
  rw [startRegion_asked idle.asked idle.fresh idle.own, dpyReg_setReg, if_neg apart, onlyRows_foldl_startAsked rows v]
  exact idle.others j apart

theorem nextStarts_eq (few : g < 8) : nextStarts v = setReg (rows.foldl startAsked v) g { dpyReg v g with started := true } := by
  have adopted : adoptRegions v = v := if_pos (.inl idle.regions)
  have shown : refreshBand v = v := if_pos (.inl idle.band)
  have on : ¬ (v.dpy.nodrive || dpyCold v) = true := by simp [dpyCold, idle.driven.2.2, idle.warm]
  have runs : ¬ v.dpy.final = 2 := by rw [idle.final]; decide
  unfold nextStarts dpyStarts
  rw [adopted, shown, if_neg on, startRecovery_none idle.wait, startClears_none idle.clear, startFinal_none idle.final]
  exact (if_neg runs).trans ((idle.startRegions_eq few).trans (startRegion_asked idle.asked idle.fresh idle.own))

/-- A phase frame of an idle display: the region that waits has started, each of its rows by itself. -/
theorem phaseFramed_shows (few : g < 8) : (dpyReg (phaseFramed v) g).started = true ∧ (phaseFramed v).dpy.flip = false ∧
    (phaseFramed v).dpy.rows = (rows.foldl startAsked v).dpy.rows := by
  have ended := idle.frameEnded_eq
  have goes : (frameEnded v).dpy.stopping = false := by rw [ended]; exact idle.goes
  rw [phaseFramed_goes goes, ended, idle.nextStarts_eq few]
  refine ⟨?_, ?_, rfl⟩
  · show (dpyReg (setReg _ g _) g).started = true
    rw [dpyReg_setReg, if_pos rfl]
  · show (allRows.any (rowRuns v) && _) = false
    rw [not_rowRuns_of_rowsIdle idle.still, Bool.false_and]

end IdleDisplay

theorem dpyRow_congr (same : u.dpy.rows = v.dpy.rows) (r : Nat) : dpyRow u r = dpyRow v r := by
  rw [dpyRow, same, ← dpyRow]

/-- A row that starts towards its target: with known levels by their waveforms, else with a full clear. -/
theorem dpyRow_startAsked_single (v : State) (r : Nat) (l : List Nat) :
    ((dpyRow v r).valid = true → row320 (dpyRow v r).prev ≠ row320 l → (dpyRow (startAsked v (r, l)) r).st = 1 ∧
      (dpyRow (startAsked v (r, l)) r).target = row320 l ∧ (dpyRow (startAsked v (r, l)) r).done = 0) ∧
    ((dpyRow v r).valid = false → (dpyRow (startAsked v (r, l)) r).st = 3 ∧ (dpyRow (startAsked v (r, l)) r).target = row320 l) ∧
    ((dpyRow v r).valid = true → row320 (dpyRow v r).prev = row320 l → startAsked v (r, l) = v) := by
  have runs : ¬ ((dpyRow v r).valid && decide (row320 (dpyRow v r).prev = row320 l)) = true → dpyRow (startAsked v (r, l)) r =
      enterRow (dpyTable v) { dpyRow v r with target := row320 l, debts := [] } (if false || !(dpyRow v r).valid then 3 else 1) (dpyBand v) := by
    intro other
    rw [startAsked, if_neg other, startRow, dpyRow_setRow, if_pos rfl]
  refine ⟨fun valid differs => ?_, fun unknown => ?_, fun valid same => if_pos (by simp [valid, same])⟩
  · rw [runs (by simp [differs]), valid]
    exact ⟨rfl, rfl, rfl⟩
  · rw [runs (by simp [unknown]), unknown]
    exact ⟨rfl, rfl⟩

end Display

/-- Settles O60: requests are kept by region, a phase frame advances every row by itself, and on an idle display it starts the region that waits. -/
theorem displayDriver : Obligations.DisplayDriver := by
  unfold Obligations.DisplayDriver
  intro s c buf t r g temp l rows n x asked y live
  refine ⟨fun pass => ⟨fun may some_ => ?taken, fun no => ?refused⟩, fun take => ?redraw, fun off => ?off, fun on quiet few free => ?quiet,
    fun on goes warm idle own wait clear recov final regions band few others cur fresh => ?starts⟩
  case taken =>
    obtain ⟨apart, region, replaced⟩ := takeRequest_shows (touch s c.session) n asked
    exact ⟨_, exec_dpyReq_taken pass may some_, apart, region, replaced,
      Keeps.onlyParts (Keeps.step (takeRequest_keeps ..) rfl (Keeps.mono (touch_keeps s c.session) rfl))⟩
  case refused =>
    exact ⟨_, exec_dpyReq_refused pass no, requestRefused_shows (touch s c.session) c⟩
  case redraw => exact ⟨_, exec_dpyRedraw_taken take, congrArg (fun d : DpyState => { d with clear := allRows }) (accepted_dpy ..)⟩
  case off =>
    exact ⟨_, exec_phaseFrame_off off, rfl, Keeps.onlyParts (Keeps.step (setDpy_keeps ..) rfl (Keeps.mono (atTime_keeps s t) rfl))⟩
  case quiet =>
    obtain ⟨stopped, same⟩ := phaseFramed_quiet (v := panelRead s t temp) on.2.2 on.2.1 quiet
    obtain ⟨-, each⟩ := dpyRow_foldl_endPhase allRows List.nodup_range (OnlyRows.refl (panelRead s t temp))
    have row : dpyRow (phaseFramed (panelRead s t temp)) r = phaseEnded (panelRead s t temp) r y := by
      rw [dpyRow_congr same, each, if_pos (show r ∈ allRows from List.mem_range.2 few)]
      rfl
    refine ⟨_, exec_phaseFrame_live on, stopped, ?_⟩
    rw [row]
    exact phaseEnded_cases (s := panelRead s t temp) free y
  case starts =>
    have ready : IdleDisplay (panelRead s t temp) g rows :=
      { driven := on, goes := goes, warm := warm, still := idle, own := own, wait := wait, clear := clear, recov := recov, final := final
        regions := regions, band := band, others := others, asked := cur, fresh := fresh }
    obtain ⟨started, flip, same⟩ := ready.phaseFramed_shows few
    obtain ⟨known, unknown, equal⟩ := dpyRow_startAsked_single (panelRead s t temp) r l
    have row : rows = [(r, l)] → dpyRow (phaseFramed (panelRead s t temp)) r = dpyRow (startAsked (panelRead s t temp) (r, l)) r := by
      rintro rfl
      exact dpyRow_congr same r
    refine ⟨_, exec_phaseFrame_live on, started, flip, fun single => ?_, fun single => ?_, fun single valid shows_ => ?_⟩
    · rw [row single]; exact known
    · rw [row single]; exact unknown
    · exact (row single).trans (congrArg (dpyRow · r) (equal valid shows_) : _ = dpyRow (panelRead s t temp) r)

end Sys2Proof.Machine
end

section
/-! The lever, the feeds, the power-fail warning and the straps (R242, R508–R511, R513): O53, settled. -/

namespace Sys2Proof.Machine

open Sys2Proof

section Slot

variable {s : State} {t n cid : Nat} {ok a b : Bool}

/-! ### The lever (R242, R508) -/

/-- The state after the lever was unlatched, before what follows. -/
def leverOpen (s : State) (t : Nat) : State := setSlot (atTime s t) fun x => { x with latched := false }

/-- A module that is being withdrawn. -/
def withdrawing (u : State) : State := setSlot u fun x => { x with removal := true }

/-- The lever can ask something of the module. -/
def LeverCounts (s : State) : Prop := s.slot.power = true ∧ s.slot.failing = none ∧ s.slot.latched = true

theorem exec_leverUnlatch_inert (inert : s.slot.power = false ∨ s.slot.failing.isSome = true ∨ s.slot.latched = false) :
    exec (.leverUnlatch t) s = .next (leverOpen s t) := by
  refine if_pos ?_
  rw [Bool.not_eq_true', Bool.not_eq_true']
  exact inert

/-- What a lever that counts asks of each role. -/
def leverAsks (s : State) (u : State) : State :=
  match s.pair.role with
  | .active =>
    if switchRefusal u 4 ≠ 0 then setSlot (refuseSwitch u (switchRefusal u 4) 0) fun x => { x with faultFlash := true, unlatchAt := some u.grid.mono }
    else withdrawing (startSwitch u 4 false)
  | .offline => removalTick (setPair (withdrawing u) fun p => { p with lines := { p.lines with ready := false } })
  | _ => requestRole (markLifeDrop (withdrawing u)) .offline 16

theorem exec_leverUnlatch (counts : LeverCounts s) : exec (.leverUnlatch t) s = .next (leverAsks s (leverOpen s t)) := by
  obtain ⟨power, holds, latched⟩ := counts
  have asks : ¬ ((!s.slot.power) = true ∨ s.slot.failing.isSome = true ∨ (!s.slot.latched) = true) := by simp [power, holds, latched]
  refine (if_neg asks).trans ?_
  unfold leverAsks
  rw [atTime_pair]
  cases s.pair.role with
  | active => exact (apply_ite Host.Outcome.next ..).symm
  | _ => rfl

@[simp] theorem switchRefusal_leverOpen (s : State) (t kind : Nat) : switchRefusal (leverOpen s t) kind = switchRefusal s kind := rfl

/-- An ACTIVE module that may hand over starts to. -/
theorem leverAsks_started (active : s.pair.role = .active) (free : switchRefusal s 4 = 0) :
    leverAsks s (leverOpen s t) = withdrawing (startSwitch (leverOpen s t) 4 false) := by
  rw [leverAsks, active]
  exact if_neg fun no => no free

theorem leverAsks_refused (active : s.pair.role = .active) (no : switchRefusal s 4 ≠ 0) : leverAsks s (leverOpen s t) =
    setSlot (refuseSwitch (leverOpen s t) (switchRefusal s 4) 0) fun x => { x with faultFlash := true, unlatchAt := some (leverOpen s t).grid.mono } := by
  rw [leverAsks, active]
  exact if_pos no

theorem leverAsks_offline (off : s.pair.role = .offline) (u : State) :
    leverAsks s u = removalTick (setPair (withdrawing u) fun p => { p with lines := { p.lines with ready := false } }) := by
  rw [leverAsks, off]

theorem leverAsks_leaves (follows : s.pair.role ≠ .active) (on : s.pair.role ≠ .offline) (u : State) :
    leverAsks s u = requestRole (markLifeDrop (withdrawing u)) .offline 16 := by
  unfold leverAsks
  cases role : s.pair.role with
  | active => exact absurd role follows
  | offline => exact absurd role on
  | _ => rfl

/-- A flush before the withdrawal leaves the rest of the slot and the pair. -/
theorem removalTick_shows (u : State) : (removalTick u).slot.removal = u.slot.removal ∧ (removalTick u).slot.latched = u.slot.latched ∧
    (removalTick u).pair = u.pair := by
  have flush : ∀ (v : State), (startFlush v 5).slot = v.slot ∧ (startFlush v 5).pair = v.pair := fun v => by
    unfold startFlush
    split <;> exact ⟨rfl, rfl⟩
  unfold removalTick
  extract_lets over_
  split
  · obtain ⟨slot, pair⟩ := flush { u with slot := { u.slot with remFlush := true } }
    rw [slot, pair]
    exact ⟨rfl, rfl, rfl⟩
  · exact ⟨rfl, rfl, rfl⟩

theorem exec_leverLatch : exec (.leverLatch t) s =
    .next (setSlot (atTime s t) fun x => { x with latched := true, faultFlash := false, unlatchAt := none }) := rfl

/-! ### The feeds and the straps (R510, R513) -/

/-- The state after a feed has its new sense. -/
def feedTaken (s : State) (n : Nat) (ok : Bool) (t : Nat) : State :=
  setSlot (atTime s t) fun x => if n = 1 then { x with feed1 := ok } else { x with feed2 := ok }

/-- The feed's sense before. -/
def feedOf (s : State) (n : Nat) : Bool := if n = 1 then s.slot.feed1 else s.slot.feed2

/-- The state after a feed's change was recorded. -/
def feedRecorded (s : State) (n : Nat) (ok : Bool) (t : Nat) : State :=
  raise (feedTaken s n ok t) { blk := 0, ev := 1, sev := some 2, info := [n, bit1 ok 0] }

theorem exec_feedChange : exec (.feedChange n ok t) s =
    .next (if feedOf s n = ok then feedTaken s n ok t else feedRecorded s n ok t) :=
  (apply_ite Host.Outcome.next ..).symm

theorem feedTaken_slot (s : State) (n : Nat) (ok : Bool) (t : Nat) :
    (feedTaken s n ok t).slot = if n = 1 then { s.slot with feed1 := ok } else { s.slot with feed2 := ok } := rfl

/-- The state after the straps were read anew. -/
def strapsTaken (s : State) (a b : Bool) (cid t : Nat) : State :=
  setSlot (atTime s t) fun x => { x with nowSide := a, nowSideN := b, nowCid := cid }

/-- The state after a change of the straps was recorded. -/
def strapsRecorded (s : State) (a b : Bool) (cid t : Nat) : State :=
  raise (strapsTaken s a b cid t) { blk := 0, ev := 2, sev := some 2, info := [bit1 a 0, bit1 b 0, cid] }

theorem exec_strapsChanged : exec (.strapsChanged a b cid t) s =
    .next (if stage s = 0 ∨ (a = s.slot.nowSide ∧ b = s.slot.nowSideN ∧ cid = s.slot.nowCid) then strapsTaken s a b cid t
      else strapsRecorded s a b cid t) :=
  (apply_ite Host.Outcome.next ..).symm

/-- An event of the device that is recorded shows in its status alone. -/
theorem onlyRegs_devRaise {u : State} {q : RecReq} (same : onlyRegs [] s u) (dev : q.blk = 0) :
    onlyRegs [Reg.DEV_EVT_STAT, Reg.REC_EVT_STAT] s (raise u q) :=
  onlyRegs_raise q 0 (onlyRegs_mono same (List.nil_subset _)) (by rw [dev]; exact List.mem_cons_self) (by decide)

/-! ### Power-fail (R509, R511) -/

theorem rcd_powerFailFlush (s : State) :
    (powerFailFlush s).rcd.pf = true ∧ (powerFailFlush s).rcd.flushing = true ∧ (powerFailFlush s).rcd.cause = 4 := by
  obtain ⟨buf, peak, seqNext, total, lost, frameLost, same, -⟩ :=
    rcd_record { s with rcd := { s.rcd with pf := true } } { blk := 0x11, ev := 0x82, sev := some 2 }
  refine ⟨?_, rfl, rfl⟩
  show (record _ _).rcd.pf = true
  rw [same]

/-- The power-fail warning: when it came, and what it starts. -/
theorem powerFail_shows (holds : s.slot.failing = none) :
    (powerFail s).slot = { s.slot with failing := some s.grid.mono } ∧ (powerFail s).dpy = { s.dpy with stopping := true } ∧
    (powerFail s).tim = { s.tim with mram := { freq := s.tim.freq, temp := rd s Reg.MON_DIE, sec := s.tim.lastOkSec } } ∧
    (powerFail s).rcd.pf = true ∧ (powerFail s).rcd.flushing = true ∧ (powerFail s).rcd.cause = 4 := by
  have keeps := powerFailFlush_keeps (saveHoldover (setSlot s fun x => { x with failing := some s.grid.mono }))
  have rcd := rcd_powerFailFlush (saveHoldover (setSlot s fun x => { x with failing := some s.grid.mono }))
  unfold powerFail
  rw [holds, if_neg (by decide)]
  exact ⟨keeps.same .slot rfl, congrArg (fun d : DpyState => { d with stopping := true }) (keeps.same .dpy rfl), keeps.same .tim rfl, rcd⟩

theorem exec_powerFailWarning (power : s.slot.power = true) : exec (.powerFailWarning t) s = .next (powerFail (atTime s t)) := if_pos power

theorem failing_powerFail (s : State) : (powerFail s).slot.failing.isSome = true := by
  cases holds : s.slot.failing with
  | none => rw [(powerFail_shows holds).1]; rfl
  | some at_ =>
    rw [powerFail, holds, if_pos (by rfl), holds]
    rfl

/-- A module that was pulled. -/
def pulled (s : State) (t : Nat) : State :=
  setPair (setLife (setSlot (recordBare (powerFail (atTime s t)) 1 { blk := 0, ev := 0, sev := some 3, info := [s.pair.role.code] })
    fun x => { x with seated := false }) false) fun p => { p with gatesOff := true, hbStopped := true }

theorem exec_uncontrolledRemoval (power : s.slot.power = true) : exec (.uncontrolledRemoval t) s = .next (pulled s t) :=
  if_neg (by rw [Bool.not_eq_true', Bool.not_eq_false]; exact power)

theorem pulled_shows (s : State) (t : Nat) : (pulled s t).slot.seated = false ∧ (pulled s t).slot.failing.isSome = true ∧
    (pulled s t).lio.life = false ∧ (pulled s t).pair = { s.pair with gatesOff := true, hbStopped := true } := by
  unfold pulled
  refine ⟨?_, ?_, ?_, ?_⟩
  · rw [setPair_slot, (setLife_keeps ..).same .slot rfl]
    rfl
  · rw [setPair_slot, (setLife_keeps ..).same .slot rfl]
    show (recordBare _ _ _).slot.failing.isSome = true
    rw [recordBare_slot]
    exact failing_powerFail _
  · rw [setPair_lio]
    exact life_setLife ..
  · rw [setPair_pair, (setLife_keeps ..).same .pair rfl, setSlot_pair, recordBare_pair, (powerFail_keeps _).same .pair rfl]
    rfl

end Slot

/-- Settles O53: the lever by the role, and each event of the slot by what it sets and records. -/
theorem slotEvents : Obligations.SlotEvents := by
  unfold Obligations.SlotEvents
  intro s t n cid ok a b code
  refine ⟨fun power holds latched => ⟨fun active free => ?started, fun active no => ?refused, fun off => ?offline, fun follows on free => ?leaves⟩,
    fun inert => ?inert, ?latch, ?feed, fun power holds => ?failing, fun power => ?pulled, ?straps⟩
  case started =>
    exact ⟨_, (exec_leverUnlatch ⟨power, holds, latched⟩).trans (congrArg _ (leverAsks_started active free)), rfl, rfl⟩
  case refused =>
    have slot : (refuseSwitch (leverOpen s t) (switchRefusal s 4) 0).slot = (leverOpen s t).slot := (refuseSwitch_keeps ..).same .slot rfl
    refine ⟨_, (exec_leverUnlatch ⟨power, holds, latched⟩).trans (congrArg _ (leverAsks_refused active no)), pair_refuseSwitch .., rfl,
      (congrArg SlotState.removal slot :), field_cause_refuseSwitch _ _ (switchRefusal_lt s 4), flag_refused_refuseSwitch ..⟩
  case offline =>
    obtain ⟨removal, open_, pair⟩ := removalTick_shows (setPair (withdrawing (leverOpen s t)) fun p => { p with lines := { p.lines with ready := false } })
    refine ⟨_, (exec_leverUnlatch ⟨power, holds, latched⟩).trans (congrArg _ (leverAsks_offline off _)), removal, open_, ?_⟩
    rw [pair]
    rfl
  case leaves =>
    have freed := requestRole_free (s := markLifeDrop (withdrawing (leverOpen s t))) free .offline 16
    exact ⟨_, (exec_leverUnlatch ⟨power, holds, latched⟩).trans (congrArg _ ((leverAsks_leaves follows on _).trans freed)), rfl, rfl, rfl⟩
  case inert =>
    exact ⟨_, exec_leverUnlatch_inert inert, rfl, Keeps.onlyParts (Keeps.step (setSlot_keeps ..) rfl (Keeps.mono (atTime_keeps s t) rfl))⟩
  case latch =>
    exact ⟨_, exec_leverLatch, rfl, Keeps.onlyParts (Keeps.step (setSlot_keeps ..) rfl (Keeps.mono (atTime_keeps s t) rfl))⟩
  case feed =>
    refine ⟨_, exec_feedChange, ?_⟩
    split
    next same => exact ⟨feedTaken_slot .., fun differs => absurd same differs, fun _ _ => rfl⟩
    · exact ⟨(raise_slot ..).trans (feedTaken_slot ..), fun _ => flag_raise_of rfl rfl (by decide) (by decide), onlyRegs_devRaise (fun _ _ => rfl) rfl⟩
  case failing =>
    obtain ⟨slot, dpy, tim, pf, flushing, cause⟩ := powerFail_shows (s := atTime s t) holds
    exact ⟨_, exec_powerFailWarning power, slot, dpy, pf, flushing, cause, tim⟩
  case pulled => exact ⟨_, exec_uncontrolledRemoval power, pulled_shows s t⟩
  case straps =>
    refine ⟨_, exec_strapsChanged, ?_⟩
    split
    next same =>
      refine ⟨rfl, fun up differs => ?_, fun _ _ => rfl⟩
      obtain ⟨rfl, rfl, rfl⟩ := same.resolve_left up
      simp at differs
    · exact ⟨raise_slot .., fun _ _ => flag_raise_of rfl rfl (by decide) (by decide), onlyRegs_devRaise (fun _ _ => rfl) rfl⟩

end Sys2Proof.Machine
end

section
/-! Temperatures, voltages, ring oscillators and the trend log (R523–R531): O54, settled. -/

namespace Sys2Proof.Machine

open Sys2Proof

section Each

variable {σ β : Type} {obs : σ → Nat → β} {f : σ → Nat → σ} {R : Nat → β → β → Prop} {P : Nat → Prop}

theorem foldl_leaves (other : ∀ u n j, P n → P j → j ≠ n → obs (f u n) j = obs u j) {l : List Nat} (all : ∀ n ∈ l, P n) {j : Nat}
    (known : P j) (out : j ∉ l) (u : σ) : obs (l.foldl f u) j = obs u j := by
  induction l generalizing u with
  | nil => rfl
  | cons n l ih =>
    obtain ⟨apart, out⟩ := not_or.1 (mt List.mem_cons.2 out)
    rw [List.foldl_cons, ih (fun i mem => all i (List.mem_cons_of_mem _ mem)) out]
    exact other u n j (all n List.mem_cons_self) known apart

/-- A pass in which each element changes what it owns, and nothing another owns. -/
theorem foldl_each (own : ∀ u n, P n → R n (obs u n) (obs (f u n) n)) (other : ∀ u n j, P n → P j → j ≠ n → obs (f u n) j = obs u j)
    {l : List Nat} (nodup : l.Nodup) (all : ∀ n ∈ l, P n) (u : σ) {j : Nat} (mem : j ∈ l) : R j (obs u j) (obs (l.foldl f u) j) := by
  induction l generalizing u with
  | nil => exact absurd mem List.not_mem_nil
  | cons n l ih =>
    obtain ⟨new, nodup⟩ := List.nodup_cons.1 nodup
    have rest : ∀ i ∈ l, P i := fun i inside => all i (List.mem_cons_of_mem _ inside)
    rw [List.foldl_cons]
    obtain rfl | tail := List.mem_cons.1 mem
    · rw [foldl_leaves other rest (all j List.mem_cons_self) new]
      exact own u j (all j List.mem_cons_self)
    · rw [← other u n j (all n List.mem_cons_self) (rest j tail) fun same => new (same ▸ tail)]
      exact ih nodup rest (f u n) tail

/-- The pass over the numbers below k. -/
theorem foldl_upto_each {k : Nat} (own : ∀ u n, n < k → R n (obs u n) (obs (f u n) n))
    (other : ∀ u n j, n < k → j < k → j ≠ n → obs (f u n) j = obs u j) (u : σ) {j : Nat} (low : j < k) :
    R j (obs u j) (obs ((upto k).foldl f u) j) :=
  foldl_each own other List.nodup_range (fun _ mem => List.mem_range.1 mem) u (List.mem_range.2 low)

theorem any_of_tget {α : Type} {d : α} {t : Tbl α} {p : α → Bool} (default : p d = false) {k : Nat} (holds : p (tget d t k) = true) :
    (t.any fun e => p e.2) = true := by
  induction t with
  | nil => rw [tget, Tbl.read, default] at holds; cases holds
  | cons e t ih =>
    obtain ⟨j, x⟩ := e
    rw [List.any_cons, Bool.or_eq_true]
    by_cases own : k = j
    · left
      rwa [tget, Tbl.read, if_pos own] at holds
    · right
      rw [tget, Tbl.read, if_neg own] at holds
      exact ih holds

end Each

section Monitor

variable {s u v : State} {t n j a mv day : Nat} {vs : List Int} {mvs norm : List Nat}

/-! ### Voltage (R528) -/

/-- The word of a rail. -/
def railWord (x : VoltState) (mv : Nat) : Word := w32 (bit1 x.low 31 + bit1 x.high 30 + mv % 65536)

theorem sampleVolt_shows (s : State) (n mv : Nat) : ∃ y : VoltState, (y.low, y.high) = railOut n mv ∧
    (sampleVolt s n mv).hlt.volts = tset {} s.hlt.volts n y ∧
    ∀ a, a ≠ Reg.MON_EVT_STAT → a ≠ Reg.REC_EVT_STAT → a ≠ Reg.MON_VEXTn n →
      rd (sampleVolt s n mv) a = if a = Reg.MON_VOLTn n then railWord y mv else rd s a := by
  unfold sampleVolt
  extract_lets x was ext seq
  rcases railOut n mv with ⟨lo, hi⟩
  dsimp -zeta -zetaHave only
  extract_lets out y s1 s2
  have shown : ∀ a, a ≠ Reg.MON_VEXTn n → rd s2 a = if a = Reg.MON_VOLTn n then railWord y mv else rd s a := by
    intro a apart
    rw [rd_wr_other _ _ _ _ apart, rd_wr]
    rfl
  have volts : s2.hlt.volts = tset {} s.hlt.volts n y := rfl
  clear_value s2
  refine ⟨y, rfl, ?_⟩
  split
  · exact ⟨by rw [raise_hlt, volts], fun a evt log apart => by rw [rd_raise _ _ _ _ log (by exact evt), shown a apart]⟩
  · split
    · split
      · exact ⟨by rw [conditionEnded_hlt, volts], fun a evt log apart => (rd_conditionEnded _ _ _ _ _ _ log).trans (shown a apart)⟩
      · exact ⟨volts, fun a _ _ apart => shown a apart⟩
    · exact ⟨volts, fun a _ _ apart => shown a apart⟩

/-- What the sample of a rail shows. -/
def RailShown (mvs : List Nat) (n : Nat) (y : VoltState × Word) : Prop :=
  (y.1.low, y.1.high) = railOut n (mvs.getD n 0) ∧ y.2 = railWord y.1 (mvs.getD n 0)

/-- A rail: its state and its word. -/
def railOf (s : State) (n : Nat) : VoltState × Word := (tget {} s.hlt.volts n, rd s (Reg.MON_VOLTn n))

theorem MON_VOLTn_apart (n j : Nat) : Reg.MON_VOLTn j ≠ Reg.MON_EVT_STAT ∧ Reg.MON_VOLTn j ≠ Reg.REC_EVT_STAT ∧
    Reg.MON_VOLTn j ≠ Reg.MON_VEXTn n ∧ Reg.MON_VOLTn j ≠ Reg.MON_STAT := by
  unfold Reg.MON_VOLTn Reg.MON_VEXTn Reg.MON_EVT_STAT Reg.REC_EVT_STAT Reg.MON_STAT
  omega

theorem railOf_sampleVolt (s : State) (n mv : Nat) : ∃ y : VoltState, (y.low, y.high) = railOut n mv ∧
    railOf (sampleVolt s n mv) n = (y, railWord y mv) ∧ (n < 24 → ∀ j, j < 24 → j ≠ n → railOf (sampleVolt s n mv) j = railOf s j) := by
  obtain ⟨y, out, volts, regs⟩ := sampleVolt_shows s n mv
  refine ⟨y, out, ?_, fun low j few apart => ?_⟩
  · obtain ⟨evt, log, ext, -⟩ := MON_VOLTn_apart n n
    rw [railOf, volts, tget_tset_same, regs _ evt log ext, if_pos rfl]
  · obtain ⟨evt, log, ext, -⟩ := MON_VOLTn_apart n j
    have other : Reg.MON_VOLTn j ≠ Reg.MON_VOLTn n := by
      unfold Reg.MON_VOLTn
      omega
    rw [railOf, volts, tget_tset_other _ _ _ _ _ apart, regs _ evt log ext, if_neg other, railOf]

/-- The state after every rail was sampled. It is opened by name only: a check by evaluation would run the pass. -/
@[irreducible] def railsTaken (s : State) (mvs : List Nat) : State := (upto 24).foldl (fun u n => sampleVolt u n (mvs.getD n 0)) s

theorem railOf_railsTaken (s : State) (mvs : List Nat) (low : n < 24) : RailShown mvs n (railOf (railsTaken s mvs) n) := by
  unfold railsTaken
  refine foldl_upto_each (R := fun n _ y => RailShown mvs n y) (fun u n _ => ?_) (fun u n j few low apart => ?_) s low
  · obtain ⟨y, out, own, -⟩ := railOf_sampleVolt u n (mvs.getD n 0)
    rw [own]
    exact ⟨out, rfl⟩
  · obtain ⟨-, -, -, others⟩ := railOf_sampleVolt u n (mvs.getD n 0)
    exact others few j low apart

theorem railsTaken_keeps (s : State) (mvs : List Nat) : Keeps 0x12000000401008 s (railsTaken s mvs) := by
  unfold railsTaken
  exact Keeps.foldl (.refl ..) fun _ _ h => Keeps.step (sampleVolt_keeps ..) rfl h

/-- The state after the voltages were sampled. -/
def voltagesShown (s : State) (mvs : List Nat) : State :=
  wrField { railsTaken s mvs with lio := { (railsTaken s mvs).lio with supply := mvs.getD 21 0 } } Reg.MON_STAT 27 27
    (bit1 ((railsTaken s mvs).hlt.volts.any fun e => e.2.low || e.2.high) 0)

theorem exec_voltageSample : exec (.voltageSample mvs t) s = .next (voltagesShown (atTime s t) mvs) := by
  unfold voltagesShown railsTaken
  rfl

theorem railOf_voltagesShown (s : State) (mvs : List Nat) (n : Nat) : railOf (voltagesShown s mvs) n = railOf (railsTaken s mvs) n := by
  obtain ⟨-, -, -, stat⟩ := MON_VOLTn_apart n n
  exact Prod.ext rfl (rd_wrField_other _ _ _ _ stat)

/-- A rail is outside its window. -/
def railBad (x : VoltState) : Bool := x.low || x.high

theorem flag_voltagesShown (out : (railOf (voltagesShown s mvs) n).1.low = true ∨ (railOf (voltagesShown s mvs) n).1.high = true) :
    flag (rd (voltagesShown s mvs) Reg.MON_STAT) 27 = true := by
  rw [railOf_voltagesShown] at out
  have any_ : ((railsTaken s mvs).hlt.volts.any fun e => e.2.low || e.2.high) = true :=
    any_of_tget (p := railBad) rfl (show railBad (railOf _ n).1 = true from (Bool.or_eq_true ..).mpr out)
  unfold voltagesShown
  rw [any_]
  exact flag_wrField_same _ _ true (by decide)

/-! ### Oscillators (R529) -/

theorem openDiv_cases (s : State) (a : Int) (b : Nat) : openDiv s a b = Int.fdiv a (Int.ofNat b) ∨
    (Int.fmod a (Int.ofNat b) ≠ 0 ∧ openDiv s a b = Int.fdiv a (Int.ofNat b) + 1) := by
  unfold openDiv
  extract_lets q
  split
  · exact .inl rfl
  next rest =>
    split
    · exact .inr ⟨rest, rfl⟩
    · exact .inl rfl

/-- An oscillator: its state and its baseline. -/
def oscOf (s : State) (n : Nat) : ProcState × Word := (procOf s n, rd s (Reg.MON_PBASEn n))

theorem oscOf_setProc (s : State) (n : Nat) (x : ProcState) (j : Nat) :
    oscOf (setProc s n x) j = (if j = n then x else procOf s j, rd s (Reg.MON_PBASEn j)) := by
  have apart : Reg.MON_PBASEn j ≠ Reg.MON_PROCn n := by
    unfold Reg.MON_PBASEn Reg.MON_PROCn
    omega
  exact Prod.ext (tget_tset ..) (rd_wr_other _ _ _ _ apart)

/-- What a second makes of an oscillator. -/
def SecondTaken (norm : List Nat) (n : Nat) (x y : ProcState × Word) : Prop :=
  y.2 = x.2 ∧ y.1 = { x.1 with slow := y.1.slow, sum := x.1.sum + y.1.slow, cnt := x.1.cnt + 1 } ∧
  (x.2.toNat ≠ 0 → y.1.slow = Int.fdiv ((Int.ofNat x.2.toNat - Int.ofNat (norm.getD n 0)) * 10000) (Int.ofNat x.2.toNat) ∨
    (Int.fmod ((Int.ofNat x.2.toNat - Int.ofNat (norm.getD n 0)) * 10000) (Int.ofNat x.2.toNat) ≠ 0 ∧
      y.1.slow = Int.fdiv ((Int.ofNat x.2.toNat - Int.ofNat (norm.getD n 0)) * 10000) (Int.ofNat x.2.toNat) + 1))

/-- The slowdown of an oscillator in this second. -/
def slowdown (u : State) (norm : List Nat) (n : Nat) : Int :=
  if (rd u (Reg.MON_PBASEn n)).toNat = 0 then (BitVec.ofNat 16 (Config.freeWord u.freeN).toNat).toInt
  else openDiv u ((Int.ofNat (rd u (Reg.MON_PBASEn n)).toNat - Int.ofNat (norm.getD n 0)) * 10000) (rd u (Reg.MON_PBASEn n)).toNat

theorem slowdown_based (based : (rd s (Reg.MON_PBASEn n)).toNat ≠ 0) : slowdown s norm n =
    openDiv s ((Int.ofNat (rd s (Reg.MON_PBASEn n)).toNat - Int.ofNat (norm.getD n 0)) * 10000) (rd s (Reg.MON_PBASEn n)).toNat := if_neg based

/-- One oscillator is sampled. -/
def secondOf (norm : List Nat) (u : State) (n : Nat) : State :=
  setProc (drawn u) n { procOf u n with slow := slowdown u norm n, sum := (procOf u n).sum + slowdown u norm n, cnt := (procOf u n).cnt + 1 }

/-- The state after every oscillator was sampled. -/
@[irreducible] def secondsTaken (norm : List Nat) (s : State) : State := (upto 16).foldl (secondOf norm) s

theorem exec_processMonitor : exec (.processMonitor norm t) s = .next (secondsTaken norm (atTime s t)) := by
  unfold secondsTaken
  rfl

theorem oscOf_secondOf (norm : List Nat) (u : State) (n : Nat) : SecondTaken norm n (oscOf u n) (oscOf (secondOf norm u n) n) ∧
    ∀ j, j ≠ n → oscOf (secondOf norm u n) j = oscOf u j := by
  refine ⟨?_, fun j apart => ?_⟩
  · rw [secondOf, oscOf_setProc, if_pos rfl]
    refine ⟨rfl, rfl, fun based => ?_⟩
    unfold oscOf at based ⊢
    dsimp only at based ⊢
    rw [slowdown_based based]
    exact openDiv_cases ..
  · rw [secondOf, oscOf_setProc, if_neg apart]
    rfl

theorem oscOf_seconds (norm : List Nat) (s : State) (low : n < 16) :
    SecondTaken norm n (oscOf s n) (oscOf (secondsTaken norm s) n) := by
  unfold secondsTaken
  exact foldl_upto_each (fun u n _ => (oscOf_secondOf norm u n).1) (fun u n _ _ _ apart => (oscOf_secondOf norm u n).2 _ apart) s low

/-! ### The trend log (R530) -/

/-- An oscillator and its entry of a day. -/
def dayOf (day : Nat) (s : State) (n : Nat) : ProcState × Option Int := (procOf s n, tget none s.hlt.log (day * 16 + n))

/-- What a day boundary makes of an oscillator. -/
def DayTaken (x y : ProcState × Option Int) : Prop :=
  (x.1.cnt = 0 → y.1 = x.1) ∧ (x.1.cnt ≠ 0 → ∃ m : Int, y.2 = some m ∧
    (m = Int.fdiv x.1.sum (Int.ofNat x.1.cnt) ∨ m = Int.fdiv x.1.sum (Int.ofNat x.1.cnt) + 1) ∧
    y.1 = { slow := x.1.slow, warn := decide (400 ≤ m), alarm := decide (600 ≤ m), rate := y.1.rate })

theorem trendOne_none (none_ : (procOf s n).cnt = 0) : trendOne s day n = s := if_pos none_

/-- An oscillator whose day has this mean. -/
def dayJudged (x : ProcState) (mean : Int) (rate : Bool) : ProcState :=
  { slow := x.slow, warn := decide (400 ≤ mean), alarm := decide (600 ≤ mean), rate := rate }

/-- A day's mean is logged, and the oscillator judged. -/
def dayLogged (s : State) (day n : Nat) (mean : Int) (rate : Bool) : State :=
  setProc (setHlt (drawn s) fun h => { h with log := tset none h.log (day * 16 + n) (some mean) }) n (dayJudged (procOf s n) mean rate)

theorem hlt_trendOne (some_ : (procOf s n).cnt ≠ 0) :
    ∃ rate, (trendOne s day n).hlt = (dayLogged s day n (openDiv s (procOf s n).sum (procOf s n).cnt) rate).hlt := by
  unfold trendOne
  extract_lets x mean s1 rate y s2 s3
  rw [if_neg some_]
  have recorded : s3.hlt = s2.hlt := by
    simp only [s3]
    split
    · exact raise_hlt ..
    · rfl
  refine ⟨rate, Eq.trans ?_ recorded⟩
  split
  · exact raise_hlt ..
  · rfl

theorem dayOf_congr (same : u.hlt = v.hlt) (day j : Nat) : dayOf day u j = dayOf day v j := by
  unfold dayOf procOf
  rw [same]

theorem dayOf_dayLogged (s : State) (day n : Nat) (mean : Int) (rate : Bool) (j : Nat) :
    dayOf day (dayLogged s day n mean rate) j = if j = n then (dayJudged (procOf s n) mean rate, some mean) else dayOf day s j := by
  have proc : procOf (dayLogged s day n mean rate) j = if j = n then dayJudged (procOf s n) mean rate else procOf s j := tget_tset ..
  have log : tget none (dayLogged s day n mean rate).hlt.log (day * 16 + j) =
      if day * 16 + j = day * 16 + n then some mean else tget none s.hlt.log (day * 16 + j) := tget_tset none s.hlt.log (day * 16 + n) (day * 16 + j) (some mean)
  rw [dayOf, proc, log]
  by_cases own : j = n
  · subst own
    rw [if_pos rfl, if_pos rfl, if_pos rfl]
  · rw [if_neg own, if_neg (by omega), if_neg own, dayOf]

theorem dayOf_trendOne (s : State) (day n : Nat) : DayTaken (dayOf day s n) (dayOf day (trendOne s day n) n) ∧
    (∀ j, j ≠ n → dayOf day (trendOne s day n) j = dayOf day s j) ∧ (trendOne s day n).hlt.newest = s.hlt.newest := by
  by_cases none_ : (procOf s n).cnt = 0
  · rw [trendOne_none none_]
    exact ⟨⟨fun _ => rfl, fun some_ => absurd none_ some_⟩, fun _ _ => rfl, rfl⟩
  · obtain ⟨rate, hlt⟩ := hlt_trendOne (day := day) none_
    refine ⟨⟨fun zero => absurd zero none_, fun _ => ⟨openDiv s (procOf s n).sum (procOf s n).cnt, ?_⟩⟩, fun j apart => ?_,
      (congrArg HltState.newest hlt :)⟩
    · rw [dayOf_congr hlt, dayOf_dayLogged, if_pos rfl]
      exact ⟨rfl, (openDiv_cases s _ _).imp_right And.right, rfl⟩
    · rw [dayOf_congr hlt, dayOf_dayLogged, if_neg apart]

/-- The log with its newest day, and without the days it no longer holds. -/
def dayBegun (s : State) (day : Nat) : State :=
  setHlt s fun h => { h with newest := some day, log := h.log.filter fun e => decide (day < e.1 / 16 + 12288) }

/-- The state after every oscillator's day was judged. -/
@[irreducible] def daysTaken (s : State) (day : Nat) : State := (upto 16).foldl (fun u n => trendOne u day n) (dayBegun s day)

/-- The state after a day boundary. -/
def dayShown (s : State) (day : Nat) : State :=
  wrField (daysTaken s day) Reg.MON_STAT 26 26 (bit1 ((upto 16).any fun n => (procOf (daysTaken s day) n).alarm || (procOf (daysTaken s day) n).rate) 0)

theorem exec_trendDay : exec (.trendDay t) s = .next (dayShown (atTime s t) (t / 1000000000 / 86400 - 1)) := by
  unfold dayShown daysTaken
  rfl

theorem dayOf_daysTaken (s : State) (day : Nat) (low : n < 16) : DayTaken (dayOf day (dayBegun s day) n) (dayOf day (daysTaken s day) n) := by
  unfold daysTaken
  exact foldl_upto_each (R := fun _ => DayTaken) (fun u n _ => (dayOf_trendOne u day n).1) (fun u n _ _ _ apart => (dayOf_trendOne u day n).2.1 _ apart) _ low

theorem newest_daysTaken (s : State) (day : Nat) : (daysTaken s day).hlt.newest = some day := by
  unfold daysTaken
  exact List.foldlRecOn (upto 16) _ (motive := fun u : State => u.hlt.newest = some day) rfl fun u kept n _ => ((dayOf_trendOne u day n).2.2).trans kept

theorem flag_dayShown (alarm : (procOf (daysTaken s day) n).alarm = true) (low : n < 16) : flag (rd (dayShown s day) Reg.MON_STAT) 26 = true := by
  have any_ : ((upto 16).any fun n => (procOf (daysTaken s day) n).alarm || (procOf (daysTaken s day) n).rate) = true :=
    List.any_eq_true.2 ⟨n, List.mem_range.2 low, by rw [alarm, Bool.true_or]⟩
  unfold dayShown
  rw [any_]
  exact flag_wrField_same _ _ true (by decide)

/-! ### Temperature (R523–R525) -/

theorem hlt_showTemp (s : State) (n : Nat) : (showTemp s n).hlt = s.hlt := (showTemp_keeps ..).same .hlt rfl

/-- A sample changes its sensor alone. -/
theorem hlt_sampleTemp (s : State) (n : Nat) (v m2 : Int) : ∃ r,
    (sampleTemp s n v m2).hlt = { s.hlt with temps := tset {} s.hlt.temps n { (tempOf s n).sample n v m2 with recd := r } } := by
  unfold sampleTemp
  extract_lets x y seq s1 s2
  refine ⟨if y.warn then (if x.warn then x.recd else some (seq, s.grid.frame)) else none, ?_⟩
  have recorded : s2.hlt = s1.hlt := by
    simp only [s2]
    split
    · exact raise_hlt ..
    · split
      · split
        · exact conditionEnded_hlt ..
        · rfl
      · rfl
  rw [hlt_showTemp]
  refine Eq.trans ?_ recorded
  split
  · exact raise_hlt ..
  · rfl

/-- What a sample makes of a sensor. -/
def SensorTaken (vs : List Int) (n : Nat) (x y : TempState) : Prop := ∃ r, y = { x.sample n (vs.getD n 0) (dieMedian2 vs) with recd := r }

/-- The state after every sensor was sampled. As every pass here, it is opened by name only. -/
@[irreducible] def tempsTaken (s : State) (vs : List Int) : State := (upto 12).foldl (fun u n => sampleTemp u n (vs.getD n 0) (dieMedian2 vs)) s

theorem tempOf_congr (same : u.hlt.temps = v.hlt.temps) (n : Nat) : tempOf u n = tempOf v n := by
  rw [tempOf, same, ← tempOf]

theorem validDies_congr (same : u.hlt.temps = v.hlt.temps) : validDies u = validDies v :=
  List.filter_congr fun n _ => by rw [tempOf_congr same]

theorem tempOf_sampleTemp (s : State) (vs : List Int) (n : Nat) :
    SensorTaken vs n (tempOf s n) (tempOf (sampleTemp s n (vs.getD n 0) (dieMedian2 vs)) n) ∧
    ∀ j, j ≠ n → tempOf (sampleTemp s n (vs.getD n 0) (dieMedian2 vs)) j = tempOf s j := by
  obtain ⟨r, hlt⟩ := hlt_sampleTemp s n (vs.getD n 0) (dieMedian2 vs)
  refine ⟨⟨r, ?_⟩, fun j apart => ?_⟩
  · rw [tempOf, hlt, tget_tset_same]
  · rw [tempOf, hlt, tget_tset_other _ _ _ _ _ apart, ← tempOf]

theorem tempOf_tempsTaken (s : State) (vs : List Int) (low : n < 12) : SensorTaken vs n (tempOf s n) (tempOf (tempsTaken s vs) n) := by
  unfold tempsTaken
  exact foldl_upto_each (obs := tempOf) (fun u n _ => (tempOf_sampleTemp u vs n).1) (fun u n _ _ _ apart => (tempOf_sampleTemp u vs n).2 _ apart) s low

theorem hlt_tempsTaken (s : State) (vs : List Int) : (tempsTaken s vs).hlt = { s.hlt with temps := (tempsTaken s vs).hlt.temps } := by
  unfold tempsTaken
  exact List.foldlRecOn (upto 12) _ (motive := fun u : State => u.hlt = { s.hlt with temps := u.hlt.temps }) rfl fun u kept n _ => by
    obtain ⟨r, hlt⟩ := hlt_sampleTemp u n (vs.getD n 0) (dieMedian2 vs)
    rw [hlt, kept]

theorem tempsTaken_keeps (s : State) (vs : List Int) : Keeps 0x12000000401008 s (tempsTaken s vs) := by
  unfold tempsTaken
  exact Keeps.foldl (.refl ..) fun _ _ h => Keeps.step (sampleTemp_keeps ..) rfl h

/-- The die counts as at its warning threshold: too few valid sensors, or one of them warns. -/
def dieWarns (u : State) : Bool := decide ((validDies u).length < 2) || (upto 4).any fun n => (tempOf u n).warn && !(tempOf u n).excl

/-- The word of the die. -/
def dieWord (u : State) : Word :=
  w32 ((i32 (dieTemp u)).toNat % 65536 * 65536 + (validDies u).foldl (fun m n => m + 2 ^ n) 0)

theorem dieWord_congr (same : u.hlt.temps = v.hlt.temps) : dieWord u = dieWord v := by
  have hottest : dieTemp u = dieTemp v := by
    unfold dieTemp
    rw [validDies_congr same]
    simp only [tempOf_congr same]
  rw [dieWord, hottest, validDies_congr same, ← dieWord]

/-- The state with the temperatures at the registers. -/
def tempsShown (u : State) : State :=
  wr (wrField (wrField u Reg.MON_STAT 31 31 (bit1 (dieWarns u) 0)) Reg.MON_STAT 28 28 (bit1 ((upto 4).any fun n => (tempOf u n).excl) 0))
    Reg.MON_DIE (dieWord u)

/-- The time since the last sample, while the module has power. -/
def timeOn (s u : State) : Nat := if s.slot.power then u.grid.mono - s.hlt.lastTick else 0

/-- The state after the life counters of a sample. -/
def lifeCounted (s u : State) : State :=
  setHlt (tempsShown u) fun h => { h with
    lastTick := (tempsShown u).grid.mono, poh := h.poh + timeOn s u, bands := tmod 0 h.bands (dieBand (dieTemp u)) (· + timeOn s u)
    cool := if h.waiting ∧ dieTemp u < 1100 then some (h.cool.getD (tempsShown u).grid.mono) else none
    hot := h.hot && (upto 4).any fun n => decide (1000 ≤ (tempOf (tempsShown u) n).val) }

/-- The module drops to GUARD (R526). -/
def MustDrop (u : State) : Prop := (!decide ((validDies u).length < 2) && (validDies u).any fun n => (tempOf u n).crit) = true ∧
  (!u.hlt.waiting) = true ∧ u.slot.power = true ∧ 1 ≤ stage u

/-- The state after a sample of the temperatures, before a drop. -/
def tempsJudged (s : State) (vs : List Int) : State := lifeCounted s (tempsTaken s vs)

theorem hlt_tempsShown (w : State) : (tempsShown w).hlt = w.hlt := by
  unfold tempsShown wrField
  rw [wr_hlt, wr_hlt, wr_hlt]

theorem lifeCounted_temps (s w : State) : (lifeCounted s w).hlt.temps = w.hlt.temps := by
  rw [lifeCounted, setHlt_hlt, hlt_tempsShown]

theorem lifeCounted_poh (s w : State) : (lifeCounted s w).hlt.poh = w.hlt.poh + timeOn s w := by
  rw [lifeCounted, setHlt_hlt, hlt_tempsShown]

theorem lifeCounted_waiting (s w : State) : (lifeCounted s w).hlt.waiting = w.hlt.waiting := by
  rw [lifeCounted, setHlt_hlt, hlt_tempsShown]

theorem rd_lifeCounted_die (s w : State) : rd (lifeCounted s w) Reg.MON_DIE = dieWord w := by
  rw [lifeCounted, rd_setHlt, tempsShown, rd_wr_same]

theorem flag_lifeCounted (warns : dieWarns u = true) : flag (rd (lifeCounted s u) Reg.MON_STAT) 31 = true := by
  rw [lifeCounted, rd_setHlt, tempsShown, rd_wr_other _ _ _ _ (by decide), rd_wrField_same, flag,
    getLsbD_putField _ 28 28 _ (by decide), if_neg (by decide), warns]
  exact flag_wrField_same _ _ true (by decide)

theorem temps_tempsJudged (s : State) (vs : List Int) : (tempsJudged s vs).hlt.temps = (tempsTaken s vs).hlt.temps := by
  rw [tempsJudged, lifeCounted_temps]

theorem rd_tempsJudged_die (s : State) (vs : List Int) : rd (tempsJudged s vs) Reg.MON_DIE = dieWord (tempsJudged s vs) := by
  rw [dieWord_congr (temps_tempsJudged s vs), tempsJudged, rd_lifeCounted_die]

theorem poh_tempsJudged (s : State) (vs : List Int) : (tempsJudged s vs).hlt.poh = s.hlt.poh + timeOn s s := by
  have mono : (tempsTaken s vs).grid = s.grid := (tempsTaken_keeps s vs).same .grid rfl
  rw [tempsJudged, lifeCounted_poh, hlt_tempsTaken, timeOn, mono, ← timeOn]

theorem waiting_tempsJudged (s : State) (vs : List Int) : (tempsJudged s vs).hlt.waiting = s.hlt.waiting := by
  rw [tempsJudged, lifeCounted_waiting, hlt_tempsTaken]

theorem flag_few_tempsJudged (few : (validDies (tempsJudged s vs)).length < 2) : flag (rd (tempsJudged s vs) Reg.MON_STAT) 31 = true := by
  rw [validDies_congr (temps_tempsJudged s vs)] at few
  exact flag_lifeCounted (Bool.or_eq_true_iff.2 (.inl (decide_eq_true few)))

theorem execTempSample_eq (s : State) (vs : List Int) (t : Nat) (w : State)
    (drops : MustDrop (tempsJudged (atTime s t) vs) → dropToGuard (tempsJudged (atTime s t) vs) = w)
    (stays : ¬ MustDrop (tempsJudged (atTime s t) vs) → tempsJudged (atTime s t) vs = w) : execTempSample vs t s = .next w := by
  unfold execTempSample
  extract_lets s1 m2 taken die few warn mask s2 s3 dt s4 critical
  have same : taken = tempsTaken s1 vs := by
    unfold tempsTaken
    rfl
  clear_value taken
  subst same
  have judged : s4 = tempsJudged s1 vs := rfl
  have counted : few = decide ((validDies s4).length < 2) := by
    rw [judged, validDies_congr (temps_tempsJudged s1 vs)]
  clear_value s4 few
  subst judged counted
  refine congrArg Host.Outcome.next ?_
  split
  next must => exact drops must
  next may => exact stays may

theorem exec_tempSample_dropped (must : MustDrop (tempsJudged (atTime s t) vs)) :
    exec (.tempSample vs t) s = .next (dropToGuard (tempsJudged (atTime s t) vs)) :=
  execTempSample_eq s vs t _ (fun _ => rfl) fun may => absurd must may

theorem exec_tempSample_kept (may : ¬ MustDrop (tempsJudged (atTime s t) vs)) :
    exec (.tempSample vs t) s = .next (tempsJudged (atTime s t) vs) :=
  execTempSample_eq s vs t _ (fun must => absurd must may) fun _ => rfl

theorem tempsJudged_keeps (s : State) (vs : List Int) : Keeps 0x12000000401008 s (tempsJudged s vs) := by
  have taken := tempsTaken_keeps s vs
  unfold tempsJudged lifeCounted tempsShown
  exact Keeps.step (setHlt_keeps ..) rfl (Keeps.wr (a := Reg.MON_DIE) rfl
    (Keeps.wrField (a := Reg.MON_STAT) rfl (Keeps.wrField (a := Reg.MON_STAT) rfl taken)))

/-! ### The drop to GUARD (R526) -/

/-- The state after a drop was recorded. -/
def dropRecorded (s : State) : State :=
  raise (setBit (setHlt s fun h => { h with waiting := true, cool := none }) Reg.MON_STAT 30)
    { blk := 0x14, ev := 1, sev := some 3, info := [(i32 (dieTemp s)).toNat] }

theorem dropToGuard_keeps_monitors (s : State) : Keeps 0x200800004300e (dropRecorded s) (dropToGuard s) := by
  have marked : Keeps 0x200800004300e (dropRecorded s) (markLifeDrop (dropRecorded s)) := Keeps.mono (markLifeDrop_keeps _) rfl
  have asked := Keeps.step (requestSwitchover_keeps (markLifeDrop (dropRecorded s)) 2) rfl marked
  exact Keeps.ite (Keeps.ite asked (Keeps.step (leaveForRestart_keeps ..) rfl asked)) (Keeps.step (leaveForRestart_keeps ..) rfl marked)

theorem hlt_dropToGuard (s : State) : (dropToGuard s).hlt = { s.hlt with waiting := true, cool := none } :=
  ((dropToGuard_keeps_monitors s).same .hlt rfl).trans (raise_hlt ..)

theorem rd_dropToGuard (s : State) : rd (dropToGuard s) Reg.MON_DIE = rd s Reg.MON_DIE ∧
    flag (rd (dropToGuard s) Reg.MON_STAT) 30 = true ∧ flag (rd (dropToGuard s) Reg.MON_EVT_STAT) 1 = true := by
  have keeps := dropToGuard_keeps_monitors s
  refine ⟨?_, ?_, ?_⟩
  · rw [rd_of_keeps keeps (by decide) (by decide), dropRecorded, rd_raise _ _ _ _ (by decide) (by show Reg.MON_DIE ≠ Reg.MON_EVT_STAT; decide),
      rd_setBit_other _ _ (by decide), rd_setHlt]
  · rw [rd_of_keeps keeps (by decide) (by decide), dropRecorded, rd_raise _ _ _ _ (by decide) (by show Reg.MON_STAT ≠ Reg.MON_EVT_STAT; decide)]
    exact flag_setBit _ _ (by decide)
  · rw [rd_of_keeps keeps (by decide) (by decide)]
    exact flag_raise_of rfl rfl (by decide) (by decide)

theorem pair_dropToGuard (follows : s.pair.role ≠ .active) :
    (dropToGuard s).pair.restartDue.isSome = true ∧ (dropToGuard s).pair.hbStopped = true := by
  have leaves : dropToGuard s = leaveForRestart (markLifeDrop (dropRecorded s)) := if_neg fun both => follows both.1
  rw [leaves]
  exact pair_leaveForRestart ..

/-- What holds after a sample, whether the module drops or not. -/
theorem exec_tempSample (s : State) (vs : List Int) (t : Nat) : ∃ u, exec (.tempSample vs t) s = .next u ∧
    u.hlt.temps = (tempsTaken (atTime s t) vs).hlt.temps ∧ rd u Reg.MON_DIE = dieWord u ∧
    u.hlt.poh = s.hlt.poh + timeOn s (atTime s t) ∧ ((validDies u).length < 2 → flag (rd u Reg.MON_STAT) 31 = true) ∧
    (MustDrop (tempsJudged (atTime s t) vs) → u = dropToGuard (tempsJudged (atTime s t) vs)) := by
  by_cases must : MustDrop (tempsJudged (atTime s t) vs)
  · have hlt := hlt_dropToGuard (tempsJudged (atTime s t) vs)
    have temps : (dropToGuard (tempsJudged (atTime s t) vs)).hlt.temps = (tempsJudged (atTime s t) vs).hlt.temps := (congrArg HltState.temps hlt :)
    refine ⟨_, exec_tempSample_dropped must, temps.trans (temps_tempsJudged ..), ?_, ?_, fun few => ?_, fun _ => rfl⟩
    · rw [(rd_dropToGuard _).1, rd_tempsJudged_die, dieWord_congr temps]
    · exact (congrArg HltState.poh hlt).trans (poh_tempsJudged (atTime s t) vs)
    · obtain ⟨both, -⟩ := must
      rw [validDies_congr temps] at few
      simp [few] at both
  · exact ⟨_, exec_tempSample_kept must, temps_tempsJudged .., rd_tempsJudged_die .., poh_tempsJudged (atTime s t) vs, flag_few_tempsJudged,
      fun no => absurd no must⟩

/-- A critical die among enough valid ones drops the module. -/
theorem mustDrop_of_critical (same : u.hlt.temps = (tempsTaken (atTime s t) vs).hlt.temps) (enough : 2 ≤ (validDies u).length)
    (critical : ∃ n ∈ validDies u, (tempOf u n).crit = true) (running : s.hlt.waiting = false) (power : s.slot.power = true) (up : 1 ≤ stage s) :
    MustDrop (tempsJudged (atTime s t) vs) := by
  have keeps := tempsJudged_keeps (atTime s t) vs
  have temps := same.trans (temps_tempsJudged (atTime s t) vs).symm
  have stage_ : stage (tempsJudged (atTime s t) vs) = stage s := by
    rw [stage, rd_of_keeps keeps (by decide) (by decide)]
    rfl
  refine ⟨?_, ?_, ?_, stage_ ▸ up⟩
  · rw [← validDies_congr temps, Bool.and_eq_true, List.any_eq_true]
    obtain ⟨n, valid, crit⟩ := critical
    exact ⟨by simpa using show 1 < (validDies u).length from enough, n, valid, by rw [← tempOf_congr temps]; exact crit⟩
  · rw [waiting_tempsJudged]
    exact congrArg not running
  · rw [keeps.same .slot rfl]
    exact power

end Monitor

/-- Settles O54: every sensor, rail and oscillator takes its sample by itself, and what follows from all of them is shown. -/
theorem monitors : Obligations.Monitors := by
  unfold Obligations.Monitors
  intro s vs mvs norm t day
  refine ⟨?temps, ?volts, ?procs, ?day⟩
  case temps =>
    obtain ⟨u, run, temps, die, poh, few, drops⟩ := exec_tempSample s vs t
    refine ⟨u, run, fun n low => ?_, die, poh, few, fun enough critical running power up => ?_⟩
    · rw [tempOf_congr temps]
      exact tempOf_tempsTaken (atTime s t) vs low
    · have keeps := tempsJudged_keeps (atTime s t) vs
      obtain rfl := drops (mustDrop_of_critical temps enough critical running power up)
      obtain ⟨-, waits, event⟩ := rd_dropToGuard (tempsJudged (atTime s t) vs)
      exact ⟨congrArg HltState.waiting (hlt_dropToGuard _), waits, event, fun follows => pair_dropToGuard (by rwa [keeps.same .pair rfl])⟩
  case volts =>
    have lio := (railsTaken_keeps (atTime s t) mvs).same .lio rfl
    refine ⟨_, exec_voltageSample, fun n low => ?_, (congrArg (fun l : LioState => { l with supply := mvs.getD 21 0 }) lio :)⟩
    have same := railOf_voltagesShown (atTime s t) mvs n
    obtain ⟨out, word⟩ := same ▸ railOf_railsTaken (atTime s t) mvs low
    exact ⟨out, word, fun bad => flag_voltagesShown bad⟩
  case procs =>
    refine ⟨_, exec_processMonitor, fun n low => ?_⟩
    obtain ⟨-, taken, slow⟩ := oscOf_seconds norm (atTime s t) low
    exact ⟨taken, slow⟩
  case day =>
    refine ⟨_, exec_trendDay, newest_daysTaken (atTime s t) day, fun n low => ?_⟩
    obtain ⟨quiet, judged⟩ := dayOf_daysTaken (atTime s t) day low
    exact ⟨quiet, judged, fun alarm => flag_dayShown alarm low⟩

end Sys2Proof.Machine
end
